-- ==== Sys2Proof/Word.lean ====
section
/-!
DEFINITION. The plainest data of the model: sparse tables, message fields, and the number types the manual uses.
The CT5600 is modelled as a block driven by commands; registers and message fields are unsigned
numbers of a stated width and are held as `Nat` reduced to that width where they are written
(the width stands in each field's docstring in `Sys2Proof/Machine/State.lean`); quantities the manual
calls signed are `Int`.
-/
namespace Sys2Proof

/-- A sparse table: key and value pairs with strictly rising keys. What an unlisted key holds is said
where the table is read. -/
abbrev Tbl (α : Type) := List (Nat × α)

/-- A message payload in layout order: (width in bits, value) pairs, reserved fields included. -/
abbrev Fields := List (Nat × Nat)

/-- Bits `[lo + w - 1 : lo]` of `x`. -/
def bits (x lo w : Nat) : Nat := (x >>> lo) % 2 ^ w

/-- A `w`-bit field read as two's complement. -/
def toSigned (w x : Nat) : Int := if x % 2 ^ w < 2 ^ (w - 1) then ((x % 2 ^ w : Nat) : Int) else ((x % 2 ^ w : Nat) : Int) - 2 ^ w

/-- A signed quantity written into a `w`-bit field. -/
def ofSigned (w : Nat) (x : Int) : Nat := (x % 2 ^ w).toNat

end Sys2Proof
end

