-- ==== Sys2Proof/Syntax.lean ====
section
/-!
DEFINITION. The commands the block takes: one constructor of `Instr` per row of spec/opcode_table.json.

A command of the Torvuth Command Interface carries one request `q` (its opcode is the constructor's own):
where it came from, its header fields and its payload bits. Every other row is an event outside or inside
the part; its first operand `dt` is the number of 250 MHz ticks since the previous command (log entry 4).
-/
namespace Sys2Proof

/-- An extension field of an NTP request (09_time_service.md R272, R277), in the order it stands. -/
inductive Ext where
  /-- Unique Identifier: its body, as bytes. -/
  | uid (body : List Nat)
  /-- NTS Cookie: its body. -/
  | cookie (body : List Nat)
  /-- NTS Cookie Placeholder: bytes of its body. -/
  | placeholder (bytes : Nat)
  /-- NTS Authenticator and Encrypted Extension Fields: nonce and sealed text. -/
  | auth (nonce text : List Nat)
  /-- Any other field. -/
  | other (bytes : Nat)
deriving DecidableEq, Repr, Inhabited

/-- A TIME96 value (R7). -/
structure Time96 where
  /-- 48 (00_scope.md R7). -/
  sec : Nat := 0
  /-- 32 (00_scope.md R7). -/
  ns : Nat := 0
  /-- 16 (00_scope.md R7). -/
  sub : Nat := 0
deriving DecidableEq, Repr, Inhabited

/-- One signal the receiver tracks in an epoch, as measured (R157, R168, R180). -/
structure GnssSignal where
  /-- 4: 0 GPS, 1 Galileo, 2 GLONASS, 3 BeiDou (06 R180). -/
  constellation : Nat := 0
  /-- 4: 0 L1 C/A, 1 L5, 2 E1, 3 E5a, 4 L1OF, 5 B1I, 6 B2a (06 R180). -/
  signal : Nat := 0
  /-- 8 (06 R180). -/
  svid : Nat := 0
  /-- 8, units of 0.5 dB-Hz (06 R180). -/
  cn0 : Nat := 0
  /-- 8 signed, degrees (06 R180). -/
  elevation : Int := 0
  /-- 9, degrees (06 R180). -/
  azimuth : Nat := 0
  /-- 16 signed, units of 0.1 ns (06 R180). -/
  residual : Int := 0
  /-- 1: the satellite is healthy (06 R180). -/
  healthy : Bool := true
  /-- 1: its ephemeris is decoded by now (06 R180, R182). -/
  ephemeris : Bool := true
  /-- RAW instant of the epoch's second by this signal alone at the position in use, before the corrections of R161 to R165, 2^-16 ns (06 R161). -/
  est : Int := 0
  /-- delay of the signal by the broadcast GPS ionosphere model, 2^-16 ns (06 R162). -/
  ionoGps : Int := 0
  /-- the same by the broadcast Galileo model (06 R162). -/
  ionoGal : Int := 0
deriving DecidableEq, Repr, Inhabited

/-- What the receiver measures for one epoch (R159 to R174). -/
structure GnssEpoch where
  /-- GNSS system time of the second the next edge marks, in the chosen timescale (06 R161). -/
  sysSec : Nat := 0
  /-- 1: time is decoded (06 R159). -/
  timeDecoded : Bool := true
  /-- 1: every constellation decodes the same second (06 R171). -/
  secondsAgree : Bool := true
  /-- 1: a signal was tracked throughout since the last epoch (06 R171). -/
  trackedAll : Bool := true
  /-- signals visible, as measured (06 R157). -/
  signals : List GnssSignal := []
  /-- Doppler-derived drift of GNSS against the OCXO, fs/s (06 R170). -/
  drift : Int := 0
  /-- 3D fix, ECEF mm (06 R159, R163). -/
  pos : Int × Int × Int := (0, 0, 0)
  /-- broadcast GPS-Galileo offset, where decoded: Galileo time less GPS time, 2^-16 ns (06 R161). -/
  ggto : Option Int := none
  /-- broadcast BDT-GPS offset, where decoded: BeiDou time less GPS time, 2^-16 ns (06 R161). -/
  bgto : Option Int := none
  /-- 1: the almanac is decoded by now (06 R182). -/
  almanac : Bool := false
  /-- AGC gain of the L1 band, 0.1 dB (06 R171). -/
  agc1 : Int := 0
  /-- AGC gain of the L5 band, 0.1 dB (06 R171). -/
  agc5 : Int := 0
  /-- post-correlation noise floor of the L1 band, 0.1 dB (06 R171). -/
  floor1 : Int := 0
  /-- the same of the L5 band (06 R171). -/
  floor5 : Int := 0
  /-- in-band power, 0.1 dB (06 R171). -/
  power : Int := 0
  /-- 32, estimate of the PPS error, ps (06 R179). -/
  tacc : Nat := 0
  /-- broadcast current UTC offset, next offset, TAI second of the change (0 none) (06 R174). -/
  bc : Option (Int × Int × Nat) := none
deriving DecidableEq, Repr, Inhabited

/-- The content of a HELLO payload (R200). -/
structure Hello where
  /-- 64 (07 R200). -/
  rootIdentity : Nat := 0
  /-- 16 (07 R200). -/
  rootId : Nat := 0
  /-- 8 (07 R200). -/
  prio1 : Nat := 0
  /-- 8 (07 R200). -/
  cls : Nat := 0
  /-- 8 (07 R200). -/
  accuracy : Nat := 0
  /-- 8 (07 R200). -/
  prio2 : Nat := 0
  /-- 16 (07 R200). -/
  variance : Nat := 0
  /-- 32 (07 R200). -/
  heartbeat : Nat := 0
  /-- 8 (07 R200). -/
  hops : Nat := 255
  /-- 1 (07 R200). -/
  timeTr : Bool := false
  /-- 1 (07 R200). -/
  freqTr : Bool := false
  /-- 16 (07 R200). -/
  parentId : Nat := 65535
  /-- 32 (07 R200). -/
  pathCost : Nat := 0
  /-- 32 (07 R200). -/
  pathDelay : Nat := 0
  /-- 16 (07 R200). -/
  leadDepth : Nat := 0
  /-- 64 (07 R200). -/
  nbrPhase : Int := 0
  /-- 1 (07 R200). -/
  nbrPhaseValid : Bool := false
deriving DecidableEq, Repr, Inhabited

/-- A domain frame as received: header, payload and tag (R185). -/
structure DomFrame where
  /-- port it arrived on (07 R185). -/
  port : Nat := 0
  /-- 8 (07 R185). -/
  version : Nat := 1
  /-- 8 (07 R186). -/
  kind : Nat := 1
  /-- 16, sender_id (07 R185). -/
  sender : Nat := 0
  /-- 16, domain_tag (07 R185). -/
  tag : Nat := 0
  /-- 64, sequence (07 R185). -/
  seq : Nat := 0
  /-- 16, length: payload bytes (07 R185). -/
  bytes : Nat := 0
  /-- the payload bits (07 R185). -/
  payload : Nat := 0
  /-- 128, tag (07 R185). -/
  mac : Nat := 0
deriving DecidableEq, Repr, Inhabited

/-- One frame or TSO send a transmit ring's descriptors describe, as read from host memory (R323). -/
structure TxSend where
  /-- descriptors it spans (10 R323). -/
  descs : Nat := 1
  /-- bytes without FCS (10 R323). -/
  length : Nat := 60
  /-- 1, STAMP_REQ (10 R323). -/
  stampReq : Bool := false
  /-- 1 (10 R323). -/
  tso : Bool := false
  /-- 1 (10 R323). -/
  csum : Bool := false
  /-- 1 (10 R323). -/
  vlanIns : Bool := false
  /-- 12 (10 R323). -/
  vlan : Nat := 0
  /-- 8 (10 R323). -/
  egress : Nat := 255
  /-- 4 (10 R323). -/
  tclass : Nat := 0
  /-- 16 (10 R323). -/
  tag : Nat := 0
  /-- 16 (10 R323). -/
  mss : Nat := 0
  /-- 8, offset of the IP header (10 R323). -/
  l3Off : Nat := 14
  /-- 8, offset of the TCP or UDP header (10 R323). -/
  l4Off : Nat := 34
  /-- the bytes read, from the destination address on, without FCS; those not listed are 0 (10 R323). -/
  bytes : List Nat := []
deriving DecidableEq, Repr, Inhabited

/-- The bytes-and-outcome view of one frame, as the classifier parses it (R310, R338, R344). -/
structure Frame where
  /-- bytes from destination address to FCS (10 R309). -/
  len : Nat := 64
  /-- 1: FCS valid (10 R310). -/
  fcsOk : Bool := true
  /-- 1: a PCS error block lies inside (10 R310). -/
  pcsErr : Bool := false
  /-- 48 (11 R372). -/
  dst : Nat := 0
  /-- 48 (11 R372). -/
  src : Nat := 0
  /-- 1: carries an 802.1Q tag (11 R340). -/
  tagged : Bool := false
  /-- 12 (11 R340). -/
  vid : Nat := 0
  /-- 3 (11 R340). -/
  pcp : Nat := 0
  /-- 16, after VLAN tags (11 R372). -/
  etherType : Nat := 0
  /-- 1 (11 R372). -/
  ipv6 : Bool := false
  /-- 8 (11 R372). -/
  ipProto : Nat := 0
  /-- 6 (11 R372). -/
  dscp : Nat := 0
  /-- 2 (11 R360). -/
  ecn : Nat := 0
  /-- 16 (11 R372). -/
  l4Src : Nat := 0
  /-- 16 (11 R372). -/
  l4Dst : Nat := 0
  /-- 128 (11 R372). -/
  ipSrc : Nat := 0
  /-- 128 (11 R372). -/
  ipDst : Nat := 0
  /-- 1: begins with a preemption SMD (10 R317). -/
  smd : Bool := false
  /-- RS-FEC codewords corrected while it arrived (10 R332). -/
  fecFixed : Nat := 0
  /-- RS-FEC codewords not correctable while it arrived (10 R332). -/
  fecLost : Nat := 0
  /-- 16: MAC control opcode, or ARP operation (10 R318; 09 R258). -/
  opcode : Nat := 0
  /-- 16: PAUSE time (10 R319). -/
  quanta : Nat := 0
  /-- 1: a PTP event message (10 R307). -/
  ptpEvent : Bool := false
  /-- 1: a PTP Sync (09 R285). -/
  ptpSync : Bool := false
  /-- 8: PTP domainNumber (09 R285). -/
  ptpDomain : Nat := 0
  /-- 4: PTP messageType (09 R285). -/
  ptpMsg : Nat := 0
  /-- 64: PTP correctionField (03 R59). -/
  correction : Int := 0
  /-- 1: the field to be written lies beyond the first 256 bytes after the SFD (03 R59). -/
  fieldFar : Bool := false
  /-- 1: a PTP message with an integrity-protection TLV (03 R59). -/
  integrity : Bool := false
  /-- 1: carries the two-octet checksum-compensation trailer (03 R59). -/
  trailer : Bool := false
  /-- identity of the frame, for the model's records (10 R323). -/
  tag : Nat := 0
  /-- IGMP or MLD: 0 neither, 1 query, 2 report, 3 leave (11 R346). -/
  snoop : Nat := 0
  /-- 8: ICMPv6 type (09 R258). -/
  icmpType : Nat := 0
  /-- 128: target address of an ARP request or Neighbor Solicitation (09 R258). -/
  target : Nat := 0
  /-- 16: IPv4 header checksum (11 R360). -/
  ipCsum : Nat := 0
  /-- IPv6 extension headers ahead of the final next header (11 R338). -/
  exts : Nat := 0
  /-- byte at which what follows the EtherType starts (11 R338). -/
  l3At : Nat := 14
  /-- byte of the IPv4 protocol or final IPv6 next header (11 R338). -/
  protoAt : Nat := 23
  /-- byte at which the TCP or UDP header starts (11 R338). -/
  l4At : Nat := 34
deriving DecidableEq, Repr, Inhabited

/-- One NTP or NTS request, or ARP request or Neighbor Solicitation, as parsed at ingress (R258, R272). -/
structure TsReq where
  /-- port it arrived on (09 R258). -/
  port : Nat := 0
  /-- where in its tick the stamp point crossed the lands (03 R54). -/
  phase : Nat := 0
  /-- lane of its first bit after the SFD (03 R54). -/
  lane : Nat := 0
  /-- addresses, VLAN, UDP ports (09 R258). -/
  frame : Frame := {}
  /-- 3, NTP mode (09 R272). -/
  mode : Nat := 3
  /-- 3, NTP version (09 R272). -/
  version : Nat := 4
  /-- 8, poll as sent (09 R273). -/
  poll : Nat := 0
  /-- 64, transmit timestamp (09 R273). -/
  xmit : Nat := 0
  /-- bytes of UDP payload (09 R272). -/
  udpBytes : Nat := 48
  /-- extension fields in order (09 R277). -/
  exts : List Ext := []
  /-- the bytes ahead of the authenticator (09 R277). -/
  ad : List Nat := []
deriving DecidableEq, Repr, Inhabited

/-- One PTP message as parsed at ingress (R282-R285). -/
structure PtpMsg where
  /-- port it arrived on (09 R282). -/
  port : Nat := 0
  /-- where in its tick the stamp point crossed the lands (03 R54). -/
  phase : Nat := 0
  /-- lane of its first bit after the SFD (03 R54). -/
  lane : Nat := 0
  /-- addresses, VLAN, UDP ports (09 R258). -/
  frame : Frame := {}
  /-- 4, messageType (09 R282). -/
  msg : Nat := 0
  /-- 8, domainNumber (09 R280). -/
  domain : Nat := 0
  /-- 16, sequenceId (09 R282). -/
  seq : Nat := 0
  /-- 64, clockIdentity of its sender (09 R280). -/
  identity : Nat := 0
  /-- 16, portNumber of its sender (09 R282). -/
  srcPort : Nat := 1
  /-- 64, correctionField, 2^-16 ns (09 R282). -/
  correction : Int := 0
  /-- originTimestamp, preciseOriginTimestamp or receiveTimestamp, 2^-16 ns (07 R192). -/
  timestamp : Int := 0
  /-- 1: a two-step Sync, whose origin timestamp its Follow_Up carries (09 R282). -/
  twoStep : Bool := false
  /-- Delay_Resp: 64, clockIdentity of the requesting port (07 R192). -/
  reqIdentity : Nat := 0
  /-- Delay_Resp: 16, portNumber of the requesting port (07 R192). -/
  reqPort : Nat := 0
  /-- 128, the AUTHENTICATION TLV's integrity value, if it carries one (09 R284). -/
  tag : Option Nat := none
  /-- the bytes the TLV covers (09 R284). -/
  covered : List Nat := []
  /-- Announce: 64, grandmasterIdentity (09 R280). -/
  gm : Nat := 0
  /-- Announce: 8, priority1 (09 R299). -/
  prio1 : Nat := 128
  /-- Announce: 8, clockClass (09 R280). -/
  cls : Nat := 248
  /-- Announce: 16, stepsRemoved (09 R280). -/
  steps : Nat := 0
  /-- Announce: timeTraceable (07 R205). -/
  timeTr : Bool := false
  /-- Announce: frequencyTraceable (07 R205). -/
  freqTr : Bool := false
  /-- Signaling: 0 REQUEST_UNICAST_TRANSMISSION, 1 CANCEL_UNICAST_TRANSMISSION, 2 ACKNOWLEDGE_CANCEL (09 R283). -/
  tlv : Nat := 0
  /-- Signaling: 4, message type asked for (09 R283). -/
  wanted : Nat := 0
  /-- Signaling: logInterMessagePeriod (09 R283). -/
  logPeriod : Int := 0
  /-- Signaling: 32, durationField, s (09 R283). -/
  duration : Nat := 0
deriving DecidableEq, Repr, Inhabited

/-- What a trunk port's L1SYNC sees: the far end's L1_SYNC message and its own recovered clock (07 R190). -/
structure L1Peer where
  /-- 1: L1_SYNC messages are being received (07 R190). -/
  heard : Bool := true
  /-- 1: the far end requires txCoherent (07 R190). -/
  tcr : Bool := true
  /-- 1: the far end requires rxCoherent (07 R190). -/
  rcr : Bool := true
  /-- 1: the far end requires congruent (07 R190). -/
  cr : Bool := true
  /-- 1: the far end uses optional parameters (07 R190). -/
  opt : Bool := false
  /-- 1: the far end is txCoherent (07 R190). -/
  itc : Bool := true
  /-- 1: the far end is rxCoherent (07 R190). -/
  irc : Bool := true
  /-- 1: the far end is congruent (07 R190). -/
  ic : Bool := true
  /-- 1: this port's recovered clock is locked (07 R190). -/
  locked : Bool := true
deriving DecidableEq, Repr, Inhabited

/-- What the pace replicas read in one gate (R36, R38). -/
structure PaceReadings where
  /-- replica cycles counted by units 0 to 17 (02 R36). -/
  counts : List Nat := []
  /-- ports whose egress FIFO runs dry in the middle of a frame (02 R38). -/
  dry : List Nat := []
deriving DecidableEq, Repr, Inhabited

/-- A port whose scheduler acts, and what the host's word after the stamp ring holds then (R349, R62). -/
structure PortTurn where
  /-- the port (11 R349). -/
  port : Nat := 0
  /-- the consumer index the host wrote last (03 R62). -/
  consumer : Nat := 0
  /-- 1: the egress FIFO has run dry (02 R38). -/
  dry : Bool := false
  /-- where the port's 8-byte blocks fall on the RAW scale, 2^-16 ns (03 R60). -/
  phase : Nat := 0
deriving DecidableEq, Repr, Inhabited

/-- How the raw level of PRESENT_N has gone since the previous command (R402). -/
structure PinTrace where
  /-- ticks since the previous command (12 R402). -/
  dt : Nat := 0
  /-- changes of the raw level in their order: ticks since the previous command, is it low (12 R402). -/
  changes : List (Nat × Bool) := []
deriving DecidableEq, Repr, Inhabited

/-- What the PCIe link has trained to, and whether the host enables MSI-X (R380, R381). -/
structure Training where
  /-- generation (12 R380). -/
  gen : Nat := 4
  /-- lanes (12 R380). -/
  width : Nat := 4
  /-- 1: MSI-X enabled (12 R381). -/
  msix : Bool := false
deriving DecidableEq, Repr, Inhabited

/-- Readings of the supply monitors and sensors, each past its filter time (R557, R570). -/
structure Rails where
  /-- 12 V main input, mV (17 R557). -/
  v12 : Nat := 12000
  /-- 3.3 V standby input, mV (17 R557). -/
  vsb : Nat := 3300
  /-- lowest core rail, 0.1% of nominal, signed deviation (17 R557). -/
  vcore : Int := 0
  /-- lowest DRAM rail, 0.1% of nominal, signed deviation (17 R557). -/
  vdram : Int := 0
  /-- case temperature, 1/256 C (17 R570). -/
  tcase : Int := 6400
  /-- highest junction sensor, 1/256 C (17 R570). -/
  tjMax : Int := 6400
  /-- 12 V input power, mW (17 R570). -/
  inputMw : Nat := 0
deriving DecidableEq, Repr, Inhabited

/-- Where a TCI request comes from (12_command_interface.md R388, R409): a mailbox the host rings, or an
in-band request that reached this device on a trunk port. -/
inductive Src where
  | host (mbx : Nat)
  | inband (port origin txn : Nat)
deriving DecidableEq, Repr, Inhabited

/-- One TCI request as written: header fields of R387 other than the opcode, and the payload, bit 0 first. -/
structure Req where
  src : Src := .host 0
  /-- `sequence`, 16 bits. -/
  seq : Nat := 0
  quiet : Bool := false
  /-- The header bits that must be 0: [31:17], `status` and [127:80], as one number. -/
  rsv : Nat := 0
  /-- `length`: payload bytes. -/
  len : Nat := 0
  /-- The payload's bits, bit 0 first. -/
  payload : Nat := 0
deriving DecidableEq, Repr, Inhabited

/-- A host access to BAR0 at an offset (12_command_interface.md R382, R385). -/
inductive Access where
  /-- A PCIe write of `size` bytes. -/
  | write (size : Nat)
  /-- A PCIe read of `size` bytes. -/
  | read (size : Nat)
  /-- An SPI transaction that clocks `n` data bytes: its instruction byte, then the offset [23:0], for a read the dummy byte,
  then the data. -/
  | spi (instruction n : Nat)
deriving DecidableEq, Repr, Inhabited

/-- A host access to the BAR2 window over PCIe (15_stored_data_protection.md R497, R504). -/
inductive WindowAccess where
  | write (data : List Nat)
  | read (n : Nat)
deriving DecidableEq, Repr, Inhabited

/-- The commands of the block, one constructor per row of the opcode table. -/
inductive Instr where
  /-- Command that returns identity, image versions, serial, EUI-64, MAC base, uptimes and start reason (R415). -/
  | sysInfo (q : Req)
  /-- Command that sets the pace-low threshold from 5 to 30 percent (R416). -/
  | sysPaceSet (q : Req)
  /-- Command that returns per-unit pace headroom and restarts each unit's running lowest value (R416). -/
  | sysPaceGet (q : Req)
  /-- Command that closes an open attended window with ATTEND_EXPIRED (R417). -/
  | sysAttendCancel (q : Req)
  /-- Command that enables in-band TCI (attended) or disables it (drains under R16) (R418). -/
  | sysInbandSet (q : Req)
  /-- Command that sends an in-band request to another domain device and waits for its response or the timeout (R419). -/
  | sysInbandSend (q : Req)
  /-- Command that reads bytes of the BAR2 window by message (R420). -/
  | sysWindowRead (q : Req)
  /-- Command that writes or zero-fills bytes of the BAR2 window by message (R420). -/
  | sysWindowWrite (q : Req)
  /-- Command that writes image bytes into the slot that is not running; offset 0 erases the slot first (R421). -/
  | sysFwWrite (q : Req)
  /-- Attended command that verifies the written image, marks its slot first and optionally restarts the processor (R422). -/
  | sysFwActivate (q : Req)
  /-- Attended command that arms the seal loop, clears SEAL_BROKEN and records the seal serial (R423). -/
  | sysSealProvision (q : Req)
  /-- Attended command that makes the factory-default bank active, disables in-band TCI, erases the GNSS position and optionally zeroises keys (R424). -/
  | sysFactoryDefault (q : Req)
  /-- Service command that returns text from the firmware trace ring (R425). -/
  | sysTraceRead (q : Req)
  /-- Command that returns bank epoch, shadow state, round state and drain and persist status (R451). -/
  | bankStatus (q : Req)
  /-- Command that replaces the shadow with a copy of the active or factory-default bank (R452). -/
  | bankSeed (q : Req)
  /-- Command that validates the shadow bank and returns its findings (R453). -/
  | bankValidate (q : Req)
  /-- Command that validates with domain rules, preloads and tags the shadow with a change_id, or untags it (R454). -/
  | bankTag (q : Req)
  /-- Command that validates and preloads the shadow, then swaps at once or arms a timed EQUINOX row (R455). -/
  | equinoxLocal (q : Req)
  /-- Command that cancels the local timed EQUINOX row and returns the shadow to SEEDED (R456). -/
  | equinoxCancel (q : Req)
  /-- Root command that starts a domain-wide Equinox round and responds when it is armed everywhere or cancelled (R457). -/
  | equinoxDomainStart (q : Req)
  /-- Root command that cancels the round in progress before its arm deadline (R458). -/
  | equinoxDomainCancel (q : Req)
  /-- Command that returns the maps and counts of one of the last 16 rounds at the root (R459). -/
  | equinoxResultGet (q : Req)
  /-- Staging command for one port's mode, PAUSE, preemption, frame size, hold and lane settings (R330). -/
  | portConfigSet (q : Req)
  /-- Command that returns one port's active-bank configuration (R330). -/
  | portConfigGet (q : Req)
  /-- Command that returns one port's link, lock, preemption, PAUSE, hold and skew status (R331). -/
  | portStatus (q : Req)
  /-- Command that returns one port's 54 statistics counters (R332). -/
  | portStats (q : Req)
  /-- Command that configures, enables or disables one host-port transmit or receive ring (R333). -/
  | hostRingSet (q : Req)
  /-- Command that returns and clears the host-port counters (R334). -/
  | hostCounters (q : Req)
  /-- Staging command for one VLAN's membership and flags (R366). -/
  | vlanSet (q : Req)
  /-- Staging command for one port's forwarding settings (R367). -/
  | portFwdSet (q : Req)
  /-- Command that sets a port's forwarding state as a live edit (R368). -/
  | portStateSet (q : Req)
  /-- Staging command for one static MAC entry (R369). -/
  | macStaticSet (q : Req)
  /-- Command that removes dynamic MAC entries by live edits (R370). -/
  | macFlush (q : Req)
  /-- Command that looks up one MAC table entry (R371). -/
  | macLookup (q : Req)
  /-- Staging command for one ternary flow rule and its actions (R372). -/
  | flowRuleSet (q : Req)
  /-- Staging command for one static multicast group entry (R373). -/
  | mcastGroupSet (q : Req)
  /-- Staging command for one egress queue's scheduling and cell limits (R374). -/
  | queueSet (q : Req)
  /-- Staging command for one bandwidth reservation (R375). -/
  | rsvSet (q : Req)
  /-- Command that configures, enables or disables one mirror session (R376). -/
  | mirrorSet (q : Req)
  /-- Command that returns one active switch-table item (R377). -/
  | switchConfigGet (q : Req)
  /-- Command that returns buffer and table occupancy and switch counters (R378). -/
  | switchStatus (q : Req)
  /-- Command that returns the counters of one queue, flow, rule or mirror session (R379). -/
  | switchCounters (q : Req)
  /-- Command that reports the time base's state as read by firmware (R69). -/
  | timeGet (q : Req)
  /-- Command that sets the frequency adjustment while the loop is open (R70). -/
  | timeSetFreq (q : Req)
  /-- Command that starts a slewed phase adjustment while the loop is open (R71). -/
  | timeAdjPhase (q : Req)
  /-- Command that schedules a step or slew of the time base at a whole second, attended when above the step threshold (R72). -/
  | timeStep (q : Req)
  /-- Command that replaces the leap table in force and schedules its flash copy (R74). -/
  | leapTableSet (q : Req)
  /-- Command that returns the leap table (R74). -/
  | leapTableGet (q : Req)
  /-- Staging command for a port's user stamp adjustments (R75). -/
  | stampLatencySet (q : Req)
  /-- Command that returns a port's active user adjustments and factory latencies (R75). -/
  | stampLatencyGet (q : Req)
  /-- Command that places, enables or disables the transmit stamp ring (R76). -/
  | stampRingSet (q : Req)
  /-- Command that returns a port's stamp counters (R77). -/
  | stampCounters (q : Req)
  /-- Command that configures, enables or disables a user TDC channel (R100). -/
  | measChannelSet (q : Req)
  /-- Command that returns a channel's configuration, state and counters and clears overrun_seen (R101). -/
  | measChannelGet (q : Req)
  /-- Command that starts a regression job at a gate start (R102). -/
  | measStart (q : Req)
  /-- Command that ends a job, posting its current gate as CANCELLED (R103). -/
  | measStop (q : Req)
  /-- Command that returns a job's latest result (R104). -/
  | measResultGet (q : Req)
  /-- Command that returns a quarter of a channel's installed bin table (R105). -/
  | measCalGet (q : Req)
  /-- Command that runs a foreground calibration on a user channel (R106). -/
  | measCalRun (q : Req)
  /-- Command that returns oven, PLL and OCXO offset status (R107). -/
  | ocxoStatus (q : Req)
  /-- Staging command for one reference's configuration (R146). -/
  | refConfigSet (q : Req)
  /-- Command that returns one reference's active configuration (R147). -/
  | refConfigGet (q : Req)
  /-- Command that returns one reference's qualification status (R148). -/
  | refStatus (q : Req)
  /-- Command that sets the selection mode, manual reference and wait-to-restore time (R149). -/
  | selModeSet (q : Req)
  /-- Command that returns the selector state and announced values (R150). -/
  | selStatus (q : Req)
  /-- Command that opens or closes the steering loop (R151). -/
  | loopSet (q : Req)
  /-- Staging command for step threshold, slope limit, auto-step, horizon and holdover limit (R152). -/
  | timingPolicySet (q : Req)
  /-- Command that returns the active timing policy (R152). -/
  | timingPolicyGet (q : Req)
  /-- Staging command for one TOUT output or TOD_TX (R153). -/
  | outputSet (q : Req)
  /-- Command that returns one output's active settings and monitor status (R154). -/
  | outputGet (q : Req)
  /-- Command that returns the holdover model and learning status (R155). -/
  | holdoverStatus (q : Req)
  /-- Staging command for the GNSS receiver configuration (R177). -/
  | gnssConfigSet (q : Req)
  /-- Command that returns the active GNSS configuration (R178). -/
  | gnssConfigGet (q : Req)
  /-- Command that returns the receiver state, indicators, position and broadcast UTC data (R179). -/
  | gnssStatus (q : Req)
  /-- Command that returns the tracked signals (R180). -/
  | gnssSatList (q : Req)
  /-- Command that erases the stored position and restarts survey-in (R181). -/
  | gnssSurveyRestart (q : Req)
  /-- Command that resets the receiver hot, warm or cold and returns it to ACQUIRING (R182). -/
  | gnssReset (q : Req)
  /-- Staging command for the domain configuration (R214). -/
  | domainConfigSet (q : Req)
  /-- Command that returns the active domain configuration (R214). -/
  | domainConfigGet (q : Req)
  /-- Staging command for a port's edge or trunk role, ESMC, fibre pair and cost (R215). -/
  | portTimingSet (q : Req)
  /-- Staging command for one fibre pair's asymmetry coefficient (R216). -/
  | fibrePairSet (q : Req)
  /-- Command that returns one trunk port's state, neighbour, delays and counters (R217). -/
  | trunkStatus (q : Req)
  /-- Command that returns this device's place in the domain tree (R218). -/
  | domainStatus (q : Req)
  /-- Command that measures a link's asymmetry from TOUT stamps over a gate (R219). -/
  | linkCalRun (q : Req)
  /-- Command that returns this device's subtree member map (R220). -/
  | domainMembers (q : Req)
  /-- Command that arms a cue row or adds a template after the collision and limit tests (R249). -/
  | cueAdd (q : Req)
  /-- Command that cancels an armed row or removes a scene's templates (R250). -/
  | cueCancel (q : Req)
  /-- Command that lists cue rows by state (R251). -/
  | cueList (q : Req)
  /-- Command that returns cue table occupancy, counters and buffer locations (R252). -/
  | cueStatus (q : Req)
  /-- Root command that announces a scene at an instant to the domain (R253). -/
  | cueDomainAnnounce (q : Req)
  /-- Root command that cancels a domain cue round (R253). -/
  | cueDomainCancel (q : Req)
  /-- Command that places, enables or disables the capture ring (R254). -/
  | captureRingSet (q : Req)
  /-- Command that writes whole lines of a cue frame slot (R254). -/
  | cueFrameWrite (q : Req)
  /-- Command that returns the result of one of the last 16 domain cue rounds (R254). -/
  | cueDomainResultGet (q : Req)
  /-- Staging command for the time-service engine configuration (R288). -/
  | tsConfigSet (q : Req)
  /-- Command that returns an active time-service configuration item (R289). -/
  | tsConfigGet (q : Req)
  /-- Staging command for one service address (R290). -/
  | tsAddrSet (q : Req)
  /-- Staging command for one prefix-table entry (R291). -/
  | tsPrefixSet (q : Req)
  /-- Staging command for one rate policy (R292). -/
  | tsPolicySet (q : Req)
  /-- Staging command for one edge port's PTP role (R293). -/
  | ptpPortSet (q : Req)
  /-- Command that returns time-service status (R294). -/
  | tsStatus (q : Req)
  /-- Command that returns and clears one set of time-service counters (R295). -/
  | tsCounters (q : Req)
  /-- Command that returns one client ledger entry (R296). -/
  | tsLedgerGet (q : Req)
  /-- Command that flushes ledger entries by scope, cancelling their grants (R297). -/
  | tsLedgerFlush (q : Req)
  /-- Command that seals NTS cookies for C2S and S2C key pairs (R298). -/
  | ntsCookieIssue (q : Req)
  /-- Command that returns one key slot's type and public part (R483). -/
  | keyInfo (q : Req)
  /-- Attended command that imports keys into slots as one mirror write (R484). -/
  | keyImport (q : Req)
  /-- Attended command that generates an EC key in a slot (R485). -/
  | keyGenerate (q : Req)
  /-- Attended command that zeroises one slot (R486). -/
  | keyDelete (q : Req)
  /-- Attended command that generates three new cookie keys (R487). -/
  | keyNtsInit (q : Req)
  /-- Staging command for the operand policy (R488). -/
  | keyPolicySet (q : Req)
  /-- Command that returns the active operand policy (R488). -/
  | keyPolicyGet (q : Req)
  /-- Command that queues one big-number operation and responds at its release (R489). -/
  | bnOp (q : Req)
  /-- Command that stops named big-number operations (R490). -/
  | bnAbort (q : Req)
  /-- Command that enables or drains the big-number engine (R491). -/
  | bnEnable (q : Req)
  /-- Command that returns engine, entropy and key-store status (R492). -/
  | cryptoStatus (q : Req)
  /-- Command that returns memory protection status (R512). -/
  | memStatus (q : Req)
  /-- Command that sets severe_n, window_h and patrol_h (R513). -/
  | memPolicySet (q : Req)
  /-- Command that scrubs a DRAM range and returns a summary (R514). -/
  | memScrub (q : Req)
  /-- Command that returns memory error counters (R515). -/
  | memCounters (q : Req)
  /-- Command that returns retired pages (R516). -/
  | memRetiredList (q : Req)
  /-- Command that returns one flash partition's health (R517). -/
  | memFlashStatus (q : Req)
  /-- Command that returns flagged SRAM rows (R518). -/
  | memSramFlags (q : Req)
  /-- Service command that arms the flip mask on one line (R519). -/
  | memFlipArm (q : Req)
  /-- Service command that programs spares for flagged SRAM rows (R520). -/
  | memFuseProgram (q : Req)
  /-- Command that returns per-source fault status (R547). -/
  | faultStatus (q : Req)
  /-- Command that returns fault ledger records (R548). -/
  | faultLedgerRead (q : Req)
  /-- Command that clears a serviced record or frees cleared records (R549). -/
  | faultClear (q : Req)
  /-- Command that sets a source's N, window and the quiet period (R550). -/
  | faultPolicySet (q : Req)
  /-- Command that describes the records at the three Midwinter locations (R551). -/
  | midwinterInfo (q : Req)
  /-- Command that reads stored bytes of a Midwinter record inline or by DMA (R552). -/
  | midwinterRead (q : Req)
  /-- Command that marks Midwinter records as read (R553). -/
  | midwinterRelease (q : Req)
  /-- Service command that raises injected fault events (R554). -/
  | faultInject (q : Req)
  /-- Command that returns supply, March and temperature status (R570). -/
  | platStatus (q : Req)
  /-- Command that sets the 12 V warning level (R571). -/
  | platSupplySet (q : Req)
  /-- Command that schedules a full reset or processor-only restart after a delay (R572). -/
  | platReset (q : Req)
  /-- Command that reports the last March (R573). -/
  | platMarchLog (q : Req)
  /-- A read touching TIME_SNAP_SEC captures the time base and its flags at one tick (R67). -/
  | timeSnapCapture (dt : Nat)
  /-- A W1C write to INT_STATUS clears bits and re-enables their vectors (R386). Operand: the value written. -/
  | intStatusClear (dt value : Nat)
  /-- A write to INT_MASK changes masking and signals vectors whose status is already set (R386). Operand: the value written. -/
  | intMaskWrite (dt value : Nat)
  /-- A write to EVT_TAIL frees event ring entries for firmware (R398). Operand: the value written. -/
  | evtTailWrite (dt value : Nat)
  /-- A read of EVT_LOST returns and clears the lost-event count (R384). -/
  | evtLostRead (dt : Nat)
  /-- A read of PRESENCE_STATE returns and clears STRAY_PRESSES (R384). -/
  | strayPressesRead (dt : Nat)
  /-- A write to a transmit tail register releases descriptors for the CT5600 to send (R323). -/
  | hportTxTailWrite (dt ring value : Nat)
  /-- A write to a receive tail register posts receive buffers (R325). -/
  | hportRxTailWrite (dt ring value : Nat)
  /-- A write to a BAR0 register without a row of its own, including W1C bits and ignored or misaligned writes (R10). The table has no
  row for a plain read or for SPI, so this one carries the whole host access (log entry 216). Operands: BAR0 offset, the access, the
  bytes written as one number. -/
  | registerWrite (dt offset : Nat) (access : Access) (value : Nat)
  /-- A function-level reset, hot reset or PCIe link loss disables host rings and the stamp ring and masks interrupts (R381). Operands: 0 function-level reset, 1 hot reset, 2 loss of the link, 3 low PERST_N; and the descriptors not started of transmit rings 0 to 3. -/
  | pcieLinkReset (dt kind : Nat) (frames : List Nat)
  /-- Release of PERST_N starts PCIe link training (R558). -/
  | perstNRelease (dt : Nat)
  /-- PWR_OK rising with 12 V above warning starts March (R558). Operand: the readings. -/
  | pwrOkRise (dt : Nat) (r : Rails)
  /-- PWR_OK low for 100 us after March started counts as a supply warning (R558). -/
  | pwrOkFall (dt : Nat)
  /-- RESET_N low for 10 us causes a full reset held while low (R558). Operands: the straps. -/
  | resetNAssert (dt : Nat) (service factory : Bool)
  /-- The standby input rising above 2,900 mV resets everything and samples straps (R562). Operands: the standby reading in mV, the straps, and the levels read on SEAL_LOOP_B at the checks of the seal loop before the mirror is read. -/
  | powerOnReset (dt vsb : Nat) (service factory : Bool) (back : List Bool)
  /-- A full reset resets everything outside the standby domain and samples straps (R562). Operands: the straps. -/
  | fullReset (dt : Nat) (service factory : Bool)
  /-- A rail below its warning level sets SUPPLY_WARN and suspends flash and key-store work (R559). Operand: the readings. -/
  | supplyWarnSet (dt : Nat) (r : Rails)
  /-- Rails above warning for 5 ms clear SUPPLY_WARN and resume suspended work (R560). Operand: the readings. -/
  | supplyWarnClear (dt : Nat) (r : Rails)
  /-- A rail reaching its reset level causes a full or power-on reset (R557). Operands: the readings and the straps. -/
  | railResetLevel (dt : Nat) (r : Rails) (service factory : Bool)
  /-- A junction at 125 C or more causes a full reset held until below 110 C (R564). Operands: the highest junction reading in 1/256 °C and the straps. -/
  | thermalTrip (dt : Nat) (tj : Int) (service factory : Bool)
  /-- The junction falling below 110 C releases the thermal reset (R564). Operand: the highest junction reading in 1/256 °C. -/
  | thermalRelease (dt : Nat) (tj : Int)
  /-- March restarts after a supply reset once the restart conditions have held (R564). Operand: the readings. -/
  | supplyRestart (dt : Nat) (r : Rails)
  /-- A March step starts once the previous step has completed and 2 ms have passed (R565). -/
  | marchStep (dt : Nat)
  /-- The boot ROM tries next_slot and falls back to the other slot on failure (R567). -/
  | bootImageSelect (dt : Nat)
  /-- Firmware starts, records its start reason and posts its events (R563). -/
  | fwStarted (dt : Nat)
  /-- An image that runs 60 s without a takeover becomes confirmed (R567). -/
  | imageConfirm (dt : Nat)
  /-- A debounced falling edge of PRESENT_N in an open window starts a press (R403). Operand: how the raw level has gone. -/
  | presentPressStart (pin : PinTrace)
  /-- Release before 200 ms returns the window to OPEN (R403). Operand: how the raw level has gone. -/
  | presentRelease (pin : PinTrace)
  /-- 200 ms of debounced low executes the attended command, or counts a stray press while CLOSED (R402). -/
  | pressQualified (dt : Nat)
  /-- The 60 s window elapses and the command is answered ATTEND_EXPIRED (R403). -/
  | attendWindowExpire (dt : Nat)
  /-- An attended action held by SUPPLY_WARN runs when the warning ends and its final response follows (R404). -/
  | attendActionResume (dt : Nat)
  /-- Mismatch on the armed seal loop for 1 ms sets SEAL_BROKEN and zeroises the key store (R407). -/
  | sealBreak (dt : Nat)
  /-- Both flash copies of the key store are physically erased at the first moment flash is allowed (R466). -/
  | keyMirrorErase (dt : Nat)
  /-- A 1 ms pace gate closes, updating headroom and forcing or lifting store-and-forward (R36). Operands: what the replicas read, and the highest junction reading in °C. -/
  | paceGateClose (dt : Nat) (readings : PaceReadings) (tj : Int)
  /-- At the fixed whole-second tick the time base steps by delta and STEP_EPOCH advances (R46). -/
  | timeStepApply (dt : Nat)
  /-- A scheduled slew begins adding its slope at its start tick (R45). -/
  | slewStart (dt : Nat)
  /-- A slew delivers its last partial increment and removes its slope (R45). -/
  | slewEnd (dt : Nat)
  /-- At the leap entry's TAI second the UTC offset changes and leap indications clear (R51). -/
  | leapApplied (dt : Nat)
  /-- At 00:00 UTC of the leap day the leap indications set (R51). -/
  | leapPendingStart (dt : Nat)
  /-- The leap table's flash copy is written and verified (R52). -/
  | leapTablePersist (dt : Nat)
  /-- A frame arrives at a port and is accepted, dropped or marked by size, FCS and FIFO room (R310). `phase` and `lane` are the fraction of a tick and the lane at which the frame's first bit after the SFD crossed the lands. -/
  | frameReceive (dt port phase lane : Nat) (f : Frame)
  /-- A frame's first 64 bytes start a classification pass that decides its egress copies (R338). -/
  | classificationPass (dt port : Nat)
  /-- A good frame teaches its source address as a live edit (R343). -/
  | learningWrite (dt : Nat)
  /-- A live edit is written and acknowledged once every earlier pass has ended (R347). -/
  | liveEditAck (dt : Nat)
  /-- A dynamic entry unrefreshed for aging_s is removed (R343). -/
  | macAging (dt : Nat)
  /-- An IGMP or MLD report, leave or query updates snooped groups and router ports (R346). `kind` 1 query, 2 report, 3 leave; `ms` the interval it gives. -/
  | snoopPacket (dt port vlan kind ms : Nat) (v6 : Bool) (groups : List Nat)
  /-- A snooped membership or router port lapses after its interval (R346). -/
  | snoopLapse (dt : Nat)
  /-- A port's scheduler selects a copy to start, under cut-through, gates, guard bands and PAUSE (R349). -/
  | egressDecision (dt : Nat) (turn : PortTurn)
  /-- An express frame reaching its queue head preempts a preemptable frame at the next allowed boundary (R316). -/
  | preemptCut (dt port : Nat)
  /-- A booked frame at a selected queue head books a launch slot and has its stamp, tag and checksum completed (R60). `phase` is where the port's 8-byte blocks fall on the RAW scale. -/
  | bookedSlotBook (dt port phase : Nat)
  /-- The booked frame is launched so its first post-SFD bit crosses the lands at the slot (R60). -/
  | bookedSlotLaunch (dt : Nat) (turn : PortTurn)
  /-- A slot is lost to an express frame, PAUSE, link loss or the 64 ns deadline, and the frame rebooks or drops (R61). `late`: the frame missed the 64 ns deadline. -/
  | bookedSlotLost (dt port : Nat) (late : Bool)
  /-- A guard band opens G before an armed cue frame's preamble start (R21). -/
  | guardBandOpen (dt port : Nat)
  /-- A valid PAUSE loads, reloads or stops the pause timer (R319). `f` is the MAC control frame received. -/
  | pauseReceive (dt port : Nat) (f : Frame)
  /-- The pause timer reaches 0 and transmission resumes (R319). -/
  | pauseTimerExpire (dt port : Nat)
  /-- Ingress FIFO occupancy crossing a threshold or the repeat interval sends a PAUSE (R322). -/
  | pauseGenerate (dt port : Nat)
  /-- On entering UP or after a commit the port sends a verify mPacket (R315). -/
  | verifySend (dt port : Nat)
  /-- verify_time_ms elapses without a respond; retry or fail preemption (R315). -/
  | verifyTimeout (dt port : Nat)
  /-- A respond mPacket makes preemption active (R315). -/
  | respondReceive (dt port : Nat)
  /-- A received verify mPacket is answered with a respond (R317). -/
  | verifyReceive (dt port : Nat)
  /-- A preemption fragment is reassembled or the assembly discarded (R317). `bytes` and `count` are the fragment's length and FRAG_COUNT, `start` its SMD-S, `mcrc` whether its mCRC matches, `last` the whole frame it completes. -/
  | fragmentReceive (dt port phase lane bytes count : Nat) (start mcrc : Bool) (last : Option Frame)
  /-- A link condition fails; the port enters HOLD and starts the hold timer (R305). `cause` is a code of R335. -/
  | linkLoss (dt port cause : Nat)
  /-- Link good for 10 ms brings the port to UP, dropping stale frames on return from HOLD (R305). `skew` are the skews of the four lanes against physical lane 0, ps; on a port that is UP they are tracked (R56). -/
  | linkUp (dt port : Nat) (skew : List Int)
  /-- The hold timer expires; queued frames are flushed and the port enters DOWN (R305). -/
  | linkHoldExpire (dt port : Nat)
  /-- A port taken out of service or changing mode reports quiescent (R308). -/
  | portQuiescent (dt port : Nat)
  /-- The CT5600 reads a host transmit frame from its ring and sends, segments or rejects it (R323). `d` is the descriptor chain read and `f` the frame it spells. -/
  | hostTxDescriptor (dt ring : Nat) (d : TxSend) (f : Frame)
  /-- A frame for H is written into a posted buffer and its descriptor completed (R325). -/
  | hostRxDeliver (dt ring : Nat)
  /-- A disabled host ring reports quiescent and its command responds (R326). `ring` is 0-3 transmit, 4-7 receive; `frames` is how many frames were in flight. -/
  | hostRingQuiescent (dt ring frames : Nat)
  /-- The disabled stamp ring reports quiescent (R64). -/
  | stampRingQuiescent (dt : Nat)
  /-- A disabled mirror session reports quiescent (R364). -/
  | mirrorQuiescent (dt session : Nat)
  /-- A channel stamps an input edge on the TIME and RAW scales, or counts an overrun (R82). Operands: channel, source edges since the channel's last command (this edge the last of them), converter code. -/
  | tdcEdge (dt ch n k : Nat)
  /-- A completed bin table is installed or rejected (R89). Operands: the channel and the hits of its 4,096 codes. -/
  | calTableComplete (dt ch : Nat) (hits : List Nat)
  /-- A regression gate closes and its fit result is produced (R91). -/
  | regressionGateClose (dt job : Nat)
  /-- A disabled channel reports quiescent (R100). -/
  | measChannelQuiescent (dt ch : Nat)
  /-- A stopped job reports quiescent (R103). -/
  | measJobQuiescent (dt job : Nat)
  /-- The oven's stability timer sets or clears OCXO_WARM (R96). Operands: the oven's deviation from its set point now, mK, and its heater power, mW. -/
  | ocxoWarmChange (dt : Nat) (devMk : Int) (heaterMw : Nat)
  /-- At each sub-gate close a reference's offset and drift tests and disputes are evaluated (R114). -/
  | refEvaluation (dt ref : Nat)
  /-- A reference's event gap exceeds four nominal periods and it is disqualified at once (R115). -/
  | refLos (dt ref : Nat)
  /-- A PPS edge or PTP offset differs from the loop's prediction by more than the limit (R115). -/
  | refPhaseHit (dt ref : Nat)
  /-- A source's own indication fails and the reference is disqualified (R115). -/
  | refSourceStatusFail (dt ref : Nat)
  /-- The selector switches references and treats the phase difference as a return (R121). -/
  | refSelect (dt : Nat)
  /-- The wait-to-restore time elapses and the selector reverts (R121). -/
  | waitToRestoreExpire (dt : Nat)
  /-- Each update interval the loop computes and writes a new frequency adjustment (R123). -/
  | loopUpdate (dt : Nat)
  /-- The lock criterion is met and the selector enters LOCKED or LOCKED_FREQ (R135). -/
  | lockAchieved (dt : Nat)
  /-- Every 1,000 s holdover learning records a sample and refits its model (R128). Operand: mean case temperature over the interval, 1/256 °C. -/
  | holdoverSample (dt : Nat) (theta : Int)
  /-- Each second in holdover the model's frequency is written (R129). Operand: case temperature read, 1/256 °C. -/
  | holdoverWrite (dt : Nat) (theta : Int)
  /-- At each whole second in WAIT_STEP the selector tests whether to schedule an auto-step (R134). -/
  | autoStepTest (dt : Nat)
  /-- A reference disabled or changed at commit reports quiescent (R122). -/
  | refQuiescent (dt ref : Nat)
  /-- An output synthesizer places an active edge, realigning or suppressing after a step (R138). -/
  | outputEdge (dt output : Nat)
  /-- A disabled or changed output reports quiescent at the end of its pulse or half-cycle (R140). -/
  | outputQuiescent (dt output : Nat)
  /-- TIC8's 1 s check of an output raises TOUT_MON on deviation (R141). `counted` is how many edges of the next output TIC8's dividers have counted already when its turn begins. -/
  | toutMonitorCheck (dt output counted : Nat)
  /-- TOD_TX starts a time-of-day sentence 500 ms before each second (R142). -/
  | todSentenceSend (dt : Nat)
  /-- A TOD_RX sentence is received and labels the next PPS edge (R144). Operand: the characters received. -/
  | todSentenceReceive (dt : Nat) (chars : List Nat)
  /-- The receiver computes its epoch solution and places a PPS edge with pps_valid (R160). Operand: what the receiver measured in the epoch that has ended. -/
  | gnssEpoch (dt : Nat) (e : GnssEpoch)
  /-- An indicator's set or clear condition is met (R171). -/
  | gnssIndicator (dt : Nat)
  /-- No signal tracked for 60 s returns the receiver to ACQUIRING (R159). -/
  | gnssSignalLoss (dt : Nat)
  /-- Survey-in completes and the position is stored (R163). -/
  | gnssSurveyDone (dt : Nat)
  /-- A background 3D fix checks the held position every 60 s (R164). Operands: the single-point fix, Earth-fixed millimetres. -/
  | gnssBackgroundFix (dt : Nat) (x y z : Int)
  /-- A hard indicator or two soft indicators for 10 s put the receiver in DISQUALIFIED (R172). -/
  | gnssDisqualify (dt : Nat)
  /-- The clear condition held for recover_s returns the receiver from DISQUALIFIED (R172). -/
  | gnssRecover (dt : Nat)
  /-- A change in antenna bias current changes the antenna state (R175). Operands: the antenna current, mA, and for how many ticks it has stood there. -/
  | gnssAntenna (dt ma held : Nat)
  /-- A disabled receiver reports quiescent (R177). -/
  | gnssQuiescent (dt : Nat)
  /-- At each HELLO interval or on a tree change the device sends HELLO on every trunk port (R200). -/
  | helloSend (dt : Nat)
  /-- A HELLO domain frame is received and parent choice and root are re-evaluated (R200). Operand: the frame as received. -/
  | hello (dt : Nat) (f : DomFrame)
  /-- The root's heartbeat has not advanced for three HELLO intervals (R202). -/
  | heartbeatStale (dt : Nat)
  /-- Each second the device sends MEMBERS to its parent (R208). -/
  | membersSend (dt : Nat)
  /-- A MEMBERS frame is received and the subtree map and duplicate IDs are checked (R208). Operand: the frame as received. -/
  | members (dt : Nat) (f : DomFrame)
  /-- 10 s without a repeat clears dup_id (R208). -/
  | dupIdClear (dt : Nat)
  /-- A trunk Sync and Delay_Req pair yields a phase value for the series (R192). Operands: port; is a message heard, or is it the port's own turn; the message, with where its stamp point crossed the lands; and for the turn of a slave end the changes of the recovered-clock phase since e, in 2^-16 ns, at each millisecond of its 125 ms interval. -/
  | trunkExchange (dt port : Nat) (heard : Bool) (m : PtpMsg) (phase lane : Nat) (moves : List Int)
  /-- A trunk port changes state on link, L1SYNC, qualification or HELLO timeout (R206). -/
  | trunkState (dt port : Nat)
  /-- L1SyncState reaches or leaves L1_SYNC_UP (R190). Operands: port, and what its L1SYNC sees of the far end and of its own recovered clock. -/
  | l1syncChange (dt port : Nat) (x : L1Peer)
  /-- A disabled domain reports quiescent (R214). -/
  | domainQuiescent (dt : Nat)
  /-- The link calibration gate closes and alpha is computed (R195). -/
  | linkCalGateClose (dt : Nat)
  /-- An ESMC PDU is sent each second or on a quality change (R189). -/
  | esmcSend (dt port : Nat)
  /-- A received ESMC PDU, or its 5 s absence, sets a SYNCE reference's indication (R189). Operands: port and the quality level received; none: the check for its 5 s absence. -/
  | esmcReceive (dt port : Nat) (ql : Option Nat)
  /-- A CUE_ANNOUNCE frame is relayed and the scene's templates are armed (R244). Operand: the frame received on a domain port. -/
  | cueAnnounce (dt : Nat) (f : DomFrame)
  /-- A domain cue cancel frame is relayed and the round's instances are cancelled (R244). Operand: the frame received on a domain port. -/
  | cueCancelFrame (dt : Nat) (f : DomFrame)
  /-- A child's CUE_ACK is merged into this device's ack (R245). Operand: the frame received on a domain port. -/
  | cueAck (dt : Nat) (f : DomFrame)
  /-- When arming and children's acks are done, or the wait expires, the ack is sent upward (R245). -/
  | cueAckSend (dt : Nat)
  /-- Prefetch copies a cue frame into the launch buffer from 2 ms before its instant (R228). -/
  | cuePrefetchStart (dt : Nat)
  /-- At instant minus 1 ms a frame not in the launch buffer ends the cue LATE (R228). -/
  | cuePrefetchDeadline (dt : Nat)
  /-- An armed row is handed to its target island 50 us before its instant (R238). -/
  | cueHandover (dt : Nat)
  /-- At the instant the comparator fires the cue's action or ends it LATE (R222). -/
  | cueExecute (dt : Nat)
  /-- A disabled capture ring reports quiescent (R235). -/
  | captureRingQuiescent (dt : Nat)
  /-- A PREPARE frame is relayed and the participant votes ready or not (R445). Operand: the frame received on a domain port. -/
  | prepare (dt : Nat) (f : DomFrame)
  /-- A child's READY vote is merged (R442). Operand: the frame received on a domain port. -/
  | ready (dt : Nat) (f : DomFrame)
  /-- An ARM frame is relayed and the participant arms its EQUINOX row (R445). Operand: the frame received on a domain port. -/
  | arm (dt : Nat) (f : DomFrame)
  /-- A child's ARMED ack is merged (R442). Operand: the frame received on a domain port. -/
  | armed (dt : Nat) (f : DomFrame)
  /-- A round cancel frame is relayed and a prepared or armed participant cancels (R445). Operand: the frame received on a domain port. -/
  | equinoxCancelFrame (dt : Nat) (f : DomFrame)
  /-- A child's CANCEL_ACK is merged (R442). Operand: the frame received on a domain port. -/
  | cancelAck (dt : Nat) (f : DomFrame)
  /-- A participant sends its merged vote or ack upward when complete or its wait expires (R442). -/
  | roundUpSend (dt : Nat)
  /-- The root's round advances, arms or cancels when a merged map completes or its wait, the arm deadline or a warning intervenes (R446). -/
  | rootRoundAdvance (dt : Nat)
  /-- A prepared participant reaches T unarmed and stays on its old bank (R445). -/
  | equinoxMissed (dt : Nat)
  /-- Preload of the shadow into every unit's second store completes (R435). -/
  | equinoxPreloadDone (dt : Nat)
  /-- At t_c the active-bank pointer swaps and the old bank becomes RETAINED (R436). -/
  | equinoxCommit (dt : Nat)
  /-- The last old-epoch copy leaves, or t_c plus 10 ms drops the rest, and the drain ends (R438). -/
  | bankDrained (dt : Nat)
  /-- The shadow is refilled from the new active bank and becomes SEEDED (R439). -/
  | bankReseedDone (dt : Nat)
  /-- The new active bank's flash copy is verified (R430). -/
  | bankPersisted (dt : Nat)
  /-- Neither bank slot passes its check at start and the factory-default bank is loaded (R431). Operand: which slots' headers are readable, a bit each. -/
  | bankLostLoad (dt headers : Nat)
  /-- A kind 0x30 frame is relayed toward its target or accepted and executed there (R409). Operand: the frame received. -/
  | inbandRequest (dt : Nat) (f : DomFrame)
  /-- An in-band response arrives and completes SYS_INBAND_SEND (R419). Operand: the frame received. -/
  | inbandResponse (dt : Nat) (f : DomFrame)
  /-- timeout_ms elapses with no in-band response (R419). -/
  | inbandTimeout (dt : Nat)
  /-- In-band disable reaches quiescence when the executing request ends (R418). -/
  | inbandQuiescent (dt : Nat)
  /-- An NTP request is classified, admitted, rate-checked and answered, kissed or dropped (R272). Operand: the request received. -/
  | ntpRequest (dt : Nat) (r : TsReq)
  /-- An NTS request is checked, authenticated and answered with fresh cookies or an NTSN kiss (R277). Operand: the request received. -/
  | ntsRequest (dt : Nat) (r : TsReq)
  /-- A request from a DENY prefix is dropped at ingress, with a periodic DENY kiss (R257). Operand: the request received. -/
  | denyRequest (dt : Nat) (r : TsReq)
  /-- An ARP request or Neighbor Solicitation for a service address is answered (R258). Operand: the request received. -/
  | serviceArp (dt : Nat) (r : TsReq)
  /-- A PTP message on an edge role is answered or originated by the engine (R282). Operand: the message received. -/
  | ptpEventMessage (dt : Nat) (m : PtpMsg)
  /-- The engine originates Sync, Announce or Follow_Up on a master port at its interval (R282). Operands: the port and the message type sent. -/
  | ptpMessageSend (dt port msg : Nat)
  /-- An Announce on a MASTER port is counted and reported (R279). Operand: the message received. -/
  | ptpForeignMaster (dt : Nat) (m : PtpMsg)
  /-- An Announce or timing message on the SLAVE port is accepted or rejected (R280). Operands: port and message received. -/
  | ptpSlaveAnnounce (dt port : Nat) (m : PtpMsg)
  /-- No acceptable Announce within announce_timeout fails ref 7's indication (R280). -/
  | ptpAnnounceTimeout (dt : Nat)
  /-- A unicast negotiation message is granted, denied or cancelled (R283). Operand: the message received. -/
  | unicastNegotiation (dt : Nat) (m : PtpMsg)
  /-- A unicast grant reaches its duration and ends (R283). -/
  | grantExpire (dt : Nat)
  /-- A TC_P2P port measures its link delay by Pdelay once per second (R285). Operands: the port; is an answer heard, or is it time for the once-a-second request; the answer, with where its stamp point crossed the lands. -/
  | pdelayMeasure (dt port : Nat) (heard : Bool) (m : PtpMsg) (phase lane : Nat)
  /-- Every cookie_rotate_s a new cookie key is generated into the oldest slot (R276). -/
  | cookieRotate (dt : Nat)
  /-- A disabled NTP, NTS or PTP function reports quiescent (R286). -/
  | tsFunctionQuiescent (dt : Nat)
  /-- A ledger flush completes and its response is sent (R297). -/
  | ledgerFlushDone (dt : Nat)
  /-- A queued operation starts on a free lane when its operands are loaded (R473). Operand: the operand data of the operation's request. -/
  | bnOpStart (dt data : Nat)
  /-- At t_s plus t_op the lane releases its status and result (R473). Operands: the lane, whether a compared result differed, and whether the data-dependent release delay ran out. -/
  | bnOpRelease (dt lane : Nat) (glitch late : Bool)
  /-- A lane finishes its 8 us zeroisation and reports idle (R473). Operand: the lane. -/
  | bnLaneZeroised (dt lane : Nat)
  /-- The last lane zeroises and the engine reports quiescent (R478). -/
  | bnDrainComplete (dt : Nat)
  /-- A key-store mirror write is verified and the command responds (R463). -/
  | keyStoreWriteDone (dt : Nat)
  /-- An entropy health test fails or passes for 1 s and entropy_ok changes (R479). Operand: what the health test says. -/
  | entropyHealth (dt : Nat) (good : Bool)
  /-- A read that corrects a line writes it back and verifies it (R499). Operands: the master that reads (codes of R526), region, line, and the symbol errors (codeword, device) that have arisen in the line: upsets, and stuck cells. -/
  | dramReadCorrect (dt master region line : Nat) (soft stuck : List (Nat × Nat))
  /-- A line with no event for one window leaves the repeat table (R500). -/
  | repeatWindowExpire (dt : Nat)
  /-- Corrections at one position in 32 lines within 1 s mark that device as an erasure (R496). Operand: the device at whose position the corrections were made. -/
  | dramErasureMark (dt device : Nat)
  /-- A reader meets an uncorrectable or poisoned line and receives the outcome for its kind (R504). Operands as for DRAM_READ_CORRECT. -/
  | dramUncorrectableRead (dt master region line : Nat) (soft stuck : List (Nat × Nat))
  /-- Firmware copies a page to a spare and installs the remap (R501). -/
  | pageRetire (dt : Nat)
  /-- The retirement list is written to the persistent-state partition (R501). -/
  | retirementPersist (dt : Nat)
  /-- The patrol reads its next line of regions 0 to 3 (R509). Operands: symbol errors that have arisen in the line read. -/
  | patrolLine (dt : Nat) (soft stuck : List (Nat × Nat))
  /-- A host-triggered scrub finishes its range and responds (R514). -/
  | memScrubDone (dt : Nat)
  /-- An SRAM correction is written back, verified and classified per row (R506). Operands: the master that reads (codes of R526), and the word: array, bank, row and word. -/
  | sramCorrect (dt master array bank row word : Nat)
  /-- An uncorrectable SRAM word is handled per its array (R506). Operands: the master that reads, the word, and what it holds: egress port and frame identity (array 1), table and index (arrays 2 and 3), cue row (array 4), key slot (array 5). -/
  | sramUncorrectable (dt master array bank row word a b : Nat)
  /-- Firmware rewrites an absent table entry from the active bank (R506). -/
  | bankEntryRewrite (dt : Nat)
  /-- Firmware's 30-day scan reads a page and rewrites it when needed (R508). Operands: partition, device, page, most corrections in one sector, the page's age, its uncorrectable sectors, the partition's bad blocks. -/
  | flashRefreshScan (dt part device page corrected ageDays lostSectors badBlocks : Nat)
  /-- The armed flip mask corrupts the next write to its line and disarms (R510). Operand: the 64 bytes written, where the line is of region 3. -/
  | flipMaskWrite (dt : Nat) (data : List Nat)
  /-- A fault source raises an event that opens, updates or merges into a record (R524). Operands: source, first-error master, access and address of a real event; or the next injected event of the source. -/
  | faultEvent (dt source master access address : Nat) (injected : Bool)
  /-- Firmware completes a record's assigned work and the record starts its quiet timer (R528). Operand: the record. -/
  | faultServiced (dt index : Nat)
  /-- A MINOR record's window elapses and it becomes CLEARED (R527). -/
  | faultWindowExpire (dt : Nat)
  /-- A QUIET record's quiet period elapses and it becomes CLEARED (R527). -/
  | faultQuietExpire (dt : Nat)
  /-- The sentinel detects a lockstep, hang or exception storm and resets the core pair (R535). Operands: source and handshake channel. -/
  | sentinelTakeover (dt source channel : Nat)
  /-- Firmware not running within 5 s of a takeover counts as a further failure (R534). -/
  | takeoverStartTimeout (dt : Nat)
  /-- After a takeover firmware compares both banks with the units' check words (R537). Operand: do the check words of both banks match. -/
  | bankCheck (dt : Nat) (same : Bool)
  /-- Firmware writes a compressed Midwinter copy to a flash slot (R544). Operands: stored bytes, and whether sections were shortened. -/
  | midwinterStored (dt bytes : Nat) (truncated : Bool)
  /-- A released flash slot is erased when flash programming is allowed (R545). -/
  | midwinterSlotErase (dt : Nat)
  /-- An uncorrectable read by the Eugrim core raises an exception that firmware handles (R533). Operands: does the content have a source, and the waiting command in progress. -/
  | coreException (dt : Nat) (hasSource : Bool) (cmd : Nat)
  /-- RESET_N returning high ends the full reset in which it held the module, after which March can start (R558). -/
  | resetNRelease (dt : Nat)
  /-- A processor-only restart begins, stopping the Eugrim pair and firmware work while everything R15 lists keeps running (R562). -/
  | processorOnlyRestart (dt : Nat)
  /-- PCIe link training completes, PCIE_UP sets, and the endpoint answers configuration requests (R558). Operand: what it has trained to. -/
  | pcieLinkUp (dt : Nat) (link : Training)
  /-- A ring's HPORT_HOLDOFF interval runs out and its delayed MSI-X vector is signalled (R386). Operand: the vector. -/
  | hportHoldoffExpire (dt vector : Nat)
  /-- Seal-loop continuity appears or disappears, changing SEAL_CLOSED and posting SEAL_STATE, including while the loop is not armed (R406). Operand: the levels read on SEAL_LOOP_B at the last checks up to now, oldest first. -/
  | sealClosedChange (dt : Nat) (back : List Bool)
  /-- A BANK_VALIDATE that stood aside finishes its validation, sets validated and returns its findings (R453). -/
  | validationDone (dt : Nat)
  /-- In SHORT, antenna bias is reapplied for 100 ms every 10 s until the current is within limit (R175). Operand: the antenna current on re-applying the bias, mA. -/
  | antennaBiasReapply (dt ma : Nat)
  /-- A host write over PCIe into the BAR2 DRAM window is stored as a full line, or by read-modify-write with poison merging (R497). A read
  of the window, which has no row, comes as this one too (log entry 216). Operands: the offset in the window and the access. -/
  | bar2Write (dt offset : Nat) (access : WindowAccess)
deriving DecidableEq, Repr

end Sys2Proof
end

