-- ==== Sys2Proof/WellFormed.lean ====
section
/-!
DEFINITION. Which commands are well formed: every unit an operand names is one the part has (a port of 0 to 55, a mailbox of
0 to 7, a reference input of 0 to 7, ...), and every field a message carries fits the width the manual gives it.
-/
namespace Sys2Proof

/-- Ports are numbered 0 to 55 (10_port_macs.md R300). -/
def portOk (p : Nat) : Bool := decide (p < 56)

/-- A request comes from one of the eight mailboxes, or over a trunk port of 0 to 55 with a 16-bit origin and a 32-bit
transaction id; its header fields and its payload fit their widths (12_command_interface.md R384, R387, R409). -/
def Req.wf (q : Req) : Bool :=
  (match q.src with
    | .host k => decide (k < 8)
    | .inband p origin txn => portOk p && decide (origin < 2 ^ 16) && decide (txn < 2 ^ 32))
  && decide (q.seq < 2 ^ 16) && decide (q.len < 2 ^ 16) && decide (q.rsv < 2 ^ 77) && decide (q.payload < 2 ^ (8 * q.len))

/-- A domain frame arrives on a port of 0 to 55 and its fields fit their widths (07_timing_domain.md R185). -/
def DomFrame.wf (f : DomFrame) : Bool :=
  portOk f.port && decide (f.version < 2 ^ 8) && decide (f.kind < 2 ^ 8) && decide (f.sender < 2 ^ 16) && decide (f.tag < 2 ^ 16)
    && decide (f.seq < 2 ^ 64) && decide (f.bytes < 2 ^ 16) && decide (f.payload < 2 ^ (8 * f.bytes)) && decide (f.mac < 2 ^ 128)

/-- A frame's parsed fields fit the widths of the headers they stand in (10_port_macs.md R310, 11_switch_core.md R338). -/
def Frame.wf (f : Frame) : Bool :=
  decide (f.dst < 2 ^ 48) && decide (f.src < 2 ^ 48) && decide (f.vid < 2 ^ 12) && decide (f.pcp < 8) && decide (f.etherType < 2 ^ 16)
    && decide (f.ipProto < 2 ^ 8) && decide (f.dscp < 64) && decide (f.ecn < 4) && decide (f.l4Src < 2 ^ 16)
    && decide (f.l4Dst < 2 ^ 16) && decide (f.ipSrc < 2 ^ 128) && decide (f.ipDst < 2 ^ 128) && decide (f.opcode < 2 ^ 16)
    && decide (f.quanta < 2 ^ 16) && decide (f.ptpDomain < 2 ^ 8) && decide (f.ptpMsg < 16) && decide (f.icmpType < 2 ^ 8)
    && decide (f.target < 2 ^ 128) && decide (f.ipCsum < 2 ^ 16)

/-- Bytes are numbers below 256. -/
def bytesOk (l : List Nat) : Bool := l.all (fun x => decide (x < 256))

/-- A send's descriptor fields fit their widths (10_port_macs.md R323). -/
def TxSend.wf (d : TxSend) : Bool :=
  decide (d.vlan < 2 ^ 12) && decide (d.egress < 2 ^ 8) && decide (d.tclass < 16) && decide (d.tag < 2 ^ 16)
    && decide (d.mss < 2 ^ 16) && decide (d.l3Off < 2 ^ 8) && decide (d.l4Off < 2 ^ 8) && bytesOk d.bytes

/-- An SPI transaction begins with an instruction byte (12_command_interface.md R382). -/
def Access.wf : Access → Bool
  | .spi instruction _ => decide (instruction < 256)
  | .write _ => true
  | .read _ => true

/-- A write to the window carries bytes (15_stored_data_protection.md R497). -/
def WindowAccess.wf : WindowAccess → Bool
  | .write data => bytesOk data
  | .read _ => true

/-- A time-service request arrives on a port of 0 to 55 and its fields fit their widths (09_time_service.md R258, R272). -/
def TsReq.wf (r : TsReq) : Bool :=
  portOk r.port && r.frame.wf && decide (r.mode < 8) && decide (r.version < 8) && decide (r.poll < 2 ^ 8) && decide (r.xmit < 2 ^ 64) && bytesOk r.ad

/-- A PTP message arrives on a port of 0 to 55 and its fields fit their widths (09_time_service.md R280, R282). -/
def PtpMsg.wf (m : PtpMsg) : Bool :=
  portOk m.port && m.frame.wf && decide (m.msg < 16) && decide (m.domain < 2 ^ 8) && decide (m.seq < 2 ^ 16)
    && decide (m.identity < 2 ^ 64) && decide (m.srcPort < 2 ^ 16) && decide (m.gm < 2 ^ 64) && decide (m.prio1 < 2 ^ 8)
    && decide (m.cls < 2 ^ 8) && decide (m.steps < 2 ^ 16) && decide (m.wanted < 16) && decide (m.duration < 2 ^ 32)
    && decide (m.reqIdentity < 2 ^ 64) && decide (m.reqPort < 2 ^ 16) && m.tag.all (fun x => decide (x < 2 ^ 128)) && bytesOk m.covered

/-- Lines of a DRAM region (15_stored_data_protection.md R502). -/
def dramLines : Nat → Nat
  | 0 => 15088 * 2 ^ 14
  | 1 => 512 * 2 ^ 14
  | 2 => 256 * 2 ^ 14
  | 3 => 512 * 2 ^ 14
  | _ => 0

/-- An SRAM word is named by array 1 to 6 and the fields of its address (15_stored_data_protection.md R505). -/
def sramWordNamed (array bank row word : Nat) : Bool :=
  decide (1 ≤ array) && decide (array ≤ 6) && decide (bank < 256) && decide (row < 2 ^ 16) && decide (word < 2 ^ 16)

/-- The source codes of the fault ledger (16_faults_and_midwinter.md R522). -/
def faultCodes : List Nat :=
  [0x01, 0x02, 0x03, 0x04, 0x05, 0x06, 0x07, 0x10, 0x11, 0x12, 0x13, 0x14, 0x15, 0x16, 0x20, 0x21, 0x22, 0x23, 0x24, 0x25, 0x26, 0x30, 0x31, 0x32, 0x33, 0x40]

/-- Is the command well formed. A command that is not names a unit the part does not have, or carries a field wider than the
manual's; the machine answers the first kind with the fault `noSuchUnit`. -/
def Instr.wf : Instr → Bool
  | .sysInfo q => q.wf
  | .sysPaceSet q => q.wf
  | .sysPaceGet q => q.wf
  | .sysAttendCancel q => q.wf
  | .sysInbandSet q => q.wf
  | .sysInbandSend q => q.wf
  | .sysWindowRead q => q.wf
  | .sysWindowWrite q => q.wf
  | .sysFwWrite q => q.wf
  | .sysFwActivate q => q.wf
  | .sysSealProvision q => q.wf
  | .sysFactoryDefault q => q.wf
  | .sysTraceRead q => q.wf
  | .bankStatus q => q.wf
  | .bankSeed q => q.wf
  | .bankValidate q => q.wf
  | .bankTag q => q.wf
  | .equinoxLocal q => q.wf
  | .equinoxCancel q => q.wf
  | .equinoxDomainStart q => q.wf
  | .equinoxDomainCancel q => q.wf
  | .equinoxResultGet q => q.wf
  | .portConfigSet q => q.wf
  | .portConfigGet q => q.wf
  | .portStatus q => q.wf
  | .portStats q => q.wf
  | .hostRingSet q => q.wf
  | .hostCounters q => q.wf
  | .vlanSet q => q.wf
  | .portFwdSet q => q.wf
  | .portStateSet q => q.wf
  | .macStaticSet q => q.wf
  | .macFlush q => q.wf
  | .macLookup q => q.wf
  | .flowRuleSet q => q.wf
  | .mcastGroupSet q => q.wf
  | .queueSet q => q.wf
  | .rsvSet q => q.wf
  | .mirrorSet q => q.wf
  | .switchConfigGet q => q.wf
  | .switchStatus q => q.wf
  | .switchCounters q => q.wf
  | .timeGet q => q.wf
  | .timeSetFreq q => q.wf
  | .timeAdjPhase q => q.wf
  | .timeStep q => q.wf
  | .leapTableSet q => q.wf
  | .leapTableGet q => q.wf
  | .stampLatencySet q => q.wf
  | .stampLatencyGet q => q.wf
  | .stampRingSet q => q.wf
  | .stampCounters q => q.wf
  | .measChannelSet q => q.wf
  | .measChannelGet q => q.wf
  | .measStart q => q.wf
  | .measStop q => q.wf
  | .measResultGet q => q.wf
  | .measCalGet q => q.wf
  | .measCalRun q => q.wf
  | .ocxoStatus q => q.wf
  | .refConfigSet q => q.wf
  | .refConfigGet q => q.wf
  | .refStatus q => q.wf
  | .selModeSet q => q.wf
  | .selStatus q => q.wf
  | .loopSet q => q.wf
  | .timingPolicySet q => q.wf
  | .timingPolicyGet q => q.wf
  | .outputSet q => q.wf
  | .outputGet q => q.wf
  | .holdoverStatus q => q.wf
  | .gnssConfigSet q => q.wf
  | .gnssConfigGet q => q.wf
  | .gnssStatus q => q.wf
  | .gnssSatList q => q.wf
  | .gnssSurveyRestart q => q.wf
  | .gnssReset q => q.wf
  | .domainConfigSet q => q.wf
  | .domainConfigGet q => q.wf
  | .portTimingSet q => q.wf
  | .fibrePairSet q => q.wf
  | .trunkStatus q => q.wf
  | .domainStatus q => q.wf
  | .linkCalRun q => q.wf
  | .domainMembers q => q.wf
  | .cueAdd q => q.wf
  | .cueCancel q => q.wf
  | .cueList q => q.wf
  | .cueStatus q => q.wf
  | .cueDomainAnnounce q => q.wf
  | .cueDomainCancel q => q.wf
  | .captureRingSet q => q.wf
  | .cueFrameWrite q => q.wf
  | .cueDomainResultGet q => q.wf
  | .tsConfigSet q => q.wf
  | .tsConfigGet q => q.wf
  | .tsAddrSet q => q.wf
  | .tsPrefixSet q => q.wf
  | .tsPolicySet q => q.wf
  | .ptpPortSet q => q.wf
  | .tsStatus q => q.wf
  | .tsCounters q => q.wf
  | .tsLedgerGet q => q.wf
  | .tsLedgerFlush q => q.wf
  | .ntsCookieIssue q => q.wf
  | .keyInfo q => q.wf
  | .keyImport q => q.wf
  | .keyGenerate q => q.wf
  | .keyDelete q => q.wf
  | .keyNtsInit q => q.wf
  | .keyPolicySet q => q.wf
  | .keyPolicyGet q => q.wf
  | .bnOp q => q.wf
  | .bnAbort q => q.wf
  | .bnEnable q => q.wf
  | .cryptoStatus q => q.wf
  | .memStatus q => q.wf
  | .memPolicySet q => q.wf
  | .memScrub q => q.wf
  | .memCounters q => q.wf
  | .memRetiredList q => q.wf
  | .memFlashStatus q => q.wf
  | .memSramFlags q => q.wf
  | .memFlipArm q => q.wf
  | .memFuseProgram q => q.wf
  | .faultStatus q => q.wf
  | .faultLedgerRead q => q.wf
  | .faultClear q => q.wf
  | .faultPolicySet q => q.wf
  | .midwinterInfo q => q.wf
  | .midwinterRead q => q.wf
  | .midwinterRelease q => q.wf
  | .faultInject q => q.wf
  | .platStatus q => q.wf
  | .platSupplySet q => q.wf
  | .platReset q => q.wf
  | .platMarchLog q => q.wf
  | .timeSnapCapture _ => true
  | .intStatusClear _ _ => true
  | .intMaskWrite _ _ => true
  | .evtTailWrite _ _ => true
  | .evtLostRead _ => true
  | .strayPressesRead _ => true
  | .hportTxTailWrite _ ring _ => decide (ring < 4)
  | .hportRxTailWrite _ ring _ => decide (ring < 4)
  | .registerWrite _ _ access _ => access.wf
  | .pcieLinkReset _ kind _ => decide (kind < 4)
  | .perstNRelease _ => true
  | .pwrOkRise _ _ => true
  | .pwrOkFall _ => true
  | .resetNAssert _ _ _ => true
  | .powerOnReset _ _ _ _ _ => true
  | .fullReset _ _ _ => true
  | .supplyWarnSet _ _ => true
  | .supplyWarnClear _ _ => true
  | .railResetLevel _ _ _ _ => true
  | .thermalTrip _ _ _ _ => true
  | .thermalRelease _ _ => true
  | .supplyRestart _ _ => true
  | .marchStep _ => true
  | .bootImageSelect _ => true
  | .fwStarted _ => true
  | .imageConfirm _ => true
  | .presentPressStart _ => true
  | .presentRelease _ => true
  | .pressQualified _ => true
  | .attendWindowExpire _ => true
  | .attendActionResume _ => true
  | .sealBreak _ => true
  | .keyMirrorErase _ => true
  | .paceGateClose _ _ _ => true
  | .timeStepApply _ => true
  | .slewStart _ => true
  | .slewEnd _ => true
  | .leapApplied _ => true
  | .leapPendingStart _ => true
  | .leapTablePersist _ => true
  | .frameReceive _ port _ _ f => decide (port < 56) && f.wf
  | .classificationPass _ port => decide (port < 56)
  | .learningWrite _ => true
  | .liveEditAck _ => true
  | .macAging _ => true
  | .snoopPacket _ port _ _ _ _ _ => decide (port < 56)
  | .snoopLapse _ => true
  | .egressDecision _ turn => decide (turn.port < 56)
  | .preemptCut _ port => decide (port < 56)
  | .bookedSlotBook _ port _ => decide (port < 56)
  | .bookedSlotLaunch _ turn => decide (turn.port < 56)
  | .bookedSlotLost _ port _ => decide (port < 56)
  | .guardBandOpen _ port => decide (port < 56)
  | .pauseReceive _ port f => decide (port < 56) && f.wf
  | .pauseTimerExpire _ port => decide (port < 56)
  | .pauseGenerate _ port => decide (port < 56)
  | .verifySend _ port => decide (port < 56)
  | .verifyTimeout _ port => decide (port < 56)
  | .respondReceive _ port => decide (port < 56)
  | .verifyReceive _ port => decide (port < 56)
  | .fragmentReceive _ port _ _ _ _ _ _ last => decide (port < 56) && last.all Frame.wf
  | .linkLoss _ port _ => decide (port < 56)
  | .linkUp _ port _ => decide (port < 56)
  | .linkHoldExpire _ port => decide (port < 56)
  | .portQuiescent _ port => decide (port < 56)
  | .hostTxDescriptor _ ring d f => decide (ring < 4) && d.wf && f.wf
  | .hostRxDeliver _ ring => decide (ring < 4)
  | .hostRingQuiescent _ ring _ => decide (ring < 8)
  | .stampRingQuiescent _ => true
  | .mirrorQuiescent _ session => decide (session < 4)
  | .tdcEdge _ ch _ k => decide (ch < 16) && decide (k < 4096)
  | .calTableComplete _ ch _ => decide (ch < 16)
  | .regressionGateClose _ job => decide (job < 16)
  | .measChannelQuiescent _ ch => decide (ch < 16)
  | .measJobQuiescent _ job => decide (job < 16)
  | .ocxoWarmChange _ _ _ => true
  | .refEvaluation _ ref => decide (ref < 8)
  | .refLos _ ref => decide (ref < 8)
  | .refPhaseHit _ ref => decide (ref < 8)
  | .refSourceStatusFail _ ref => decide (ref < 8)
  | .refSelect _ => true
  | .waitToRestoreExpire _ => true
  | .loopUpdate _ => true
  | .lockAchieved _ => true
  | .holdoverSample _ _ => true
  | .holdoverWrite _ _ => true
  | .autoStepTest _ => true
  | .refQuiescent _ ref => decide (ref < 8)
  | .outputEdge _ output => decide (output < 8)
  | .outputQuiescent _ output => decide (output < 9)
  | .toutMonitorCheck _ output _ => decide (output < 8)
  | .todSentenceSend _ => true
  | .todSentenceReceive _ _ => true
  | .gnssEpoch _ _ => true
  | .gnssIndicator _ => true
  | .gnssSignalLoss _ => true
  | .gnssSurveyDone _ => true
  | .gnssBackgroundFix _ _ _ _ => true
  | .gnssDisqualify _ => true
  | .gnssRecover _ => true
  | .gnssAntenna _ _ _ => true
  | .gnssQuiescent _ => true
  | .helloSend _ => true
  | .hello _ f => f.wf
  | .heartbeatStale _ => true
  | .membersSend _ => true
  | .members _ f => f.wf
  | .dupIdClear _ => true
  | .trunkExchange _ port _ m _ _ _ => decide (port < 56) && m.wf
  | .trunkState _ port => decide (port < 56)
  | .l1syncChange _ port _ => decide (port < 56)
  | .domainQuiescent _ => true
  | .linkCalGateClose _ => true
  | .esmcSend _ port => decide (port < 56)
  | .esmcReceive _ port _ => decide (port < 56)
  | .cueAnnounce _ f => f.wf
  | .cueCancelFrame _ f => f.wf
  | .cueAck _ f => f.wf
  | .cueAckSend _ => true
  | .cuePrefetchStart _ => true
  | .cuePrefetchDeadline _ => true
  | .cueHandover _ => true
  | .cueExecute _ => true
  | .captureRingQuiescent _ => true
  | .prepare _ f => f.wf
  | .ready _ f => f.wf
  | .arm _ f => f.wf
  | .armed _ f => f.wf
  | .equinoxCancelFrame _ f => f.wf
  | .cancelAck _ f => f.wf
  | .roundUpSend _ => true
  | .rootRoundAdvance _ => true
  | .equinoxMissed _ => true
  | .equinoxPreloadDone _ => true
  | .equinoxCommit _ => true
  | .bankDrained _ => true
  | .bankReseedDone _ => true
  | .bankPersisted _ => true
  | .bankLostLoad _ _ => true
  | .inbandRequest _ f => f.wf
  | .inbandResponse _ f => f.wf
  | .inbandTimeout _ => true
  | .inbandQuiescent _ => true
  | .ntpRequest _ r => r.wf
  | .ntsRequest _ r => r.wf
  | .denyRequest _ r => r.wf
  | .serviceArp _ r => r.wf
  | .ptpEventMessage _ m => m.wf
  | .ptpMessageSend _ port _ => decide (port < 56)
  | .ptpForeignMaster _ m => m.wf
  | .ptpSlaveAnnounce _ port m => decide (port < 56) && m.wf
  | .ptpAnnounceTimeout _ => true
  | .unicastNegotiation _ m => m.wf
  | .grantExpire _ => true
  | .pdelayMeasure _ port _ m _ _ => decide (port < 56) && m.wf
  | .cookieRotate _ => true
  | .tsFunctionQuiescent _ => true
  | .ledgerFlushDone _ => true
  | .bnOpStart _ _ => true
  | .bnOpRelease _ lane _ _ => decide (lane < 4)
  | .bnLaneZeroised _ lane => decide (lane < 4)
  | .bnDrainComplete _ => true
  | .keyStoreWriteDone _ => true
  | .entropyHealth _ _ => true
  | .dramReadCorrect _ _ region line _ _ => decide (line < dramLines region)
  | .repeatWindowExpire _ => true
  | .dramErasureMark _ device => decide (device < 10)
  | .dramUncorrectableRead _ _ region line _ _ => decide (line < dramLines region)
  | .pageRetire _ => true
  | .retirementPersist _ => true
  | .patrolLine _ _ _ => true
  | .memScrubDone _ => true
  | .sramCorrect _ _ array bank row word => sramWordNamed array bank row word
  | .sramUncorrectable _ _ array bank row word a _ => sramWordNamed array bank row word && (array != 1 || decide (a ≤ 56))
  | .bankEntryRewrite _ => true
  | .flashRefreshScan _ part device _ _ _ _ _ => decide (part < 8) && decide (device < 2)
  | .flipMaskWrite _ _ => true
  | .faultEvent _ source _ _ _ _ => faultCodes.contains source
  | .faultServiced _ index => decide (index < 64)
  | .faultWindowExpire _ => true
  | .faultQuietExpire _ => true
  | .sentinelTakeover _ source _ => decide (1 ≤ source) && decide (source ≤ 3)
  | .takeoverStartTimeout _ => true
  | .bankCheck _ _ => true
  | .midwinterStored _ _ _ => true
  | .midwinterSlotErase _ => true
  | .coreException _ _ _ => true
  | .resetNRelease _ => true
  | .processorOnlyRestart _ => true
  | .pcieLinkUp _ _ => true
  | .hportHoldoffExpire _ vector => decide (vector < 12)
  | .sealClosedChange _ _ => true
  | .validationDone _ => true
  | .antennaBiasReapply _ _ => true
  | .bar2Write _ _ access => access.wf

end Sys2Proof
end

