-- ==== Sys2Proof/Decode.lean ====
section
/-!
DEFINITION. The part takes commands over its host interface, its ports and its pins, and has no instruction words: no row of
the opcode table gives bits, so no word spells a command. A request's own bits are read by the fields of each command's
layout (`Req.f` in `Sys2Proof/Machine/Tci.lean`).
-/
namespace Sys2Proof

/-- The command a word spells by the opcode table's bits: the table gives no row any bits, so none. -/
def decodeTableWord (_nbits _w : Nat) : Option Instr := none

end Sys2Proof
end

