-- ==== Sys2Proof/Config.lean ====
section
/-!
DEFINITION. What one module fixes for its whole life, the values the manual leaves open, and the factory-default bank.
An opaque constant has no body: nothing can be proved of its value, so a theorem about the model holds whatever the
value is. Widths are kept by the type.
-/
namespace Sys2Proof.Config

/-- Value number `n` of width `w` among the values the manual leaves open (log entry 3): entropy draws,
results the manual does not state. -/
opaque freeValue (w n : Nat) : BitVec w

/-- Module serial number, set at manufacture (12_command_interface.md R415). -/
opaque serial : BitVec 64
/-- The pseudo-random bit driven on `SEAL_LOOP_A` in the n-th 10 µs (12_command_interface.md R406; log entry 217). -/
opaque sealBit (n : Nat) : Bool
/-- clockIdentity, set at manufacture (R415, 09_time_service.md R278). -/
opaque eui64 : BitVec 64
/-- Base of the block of 64 MAC addresses (10_port_macs.md R303). -/
opaque macBase : BitVec 48
/-- `GRADE` of ID_CODE: 0 = CT5600-C, 1 = CT5600-X (R384). -/
opaque grade : BitVec 1
/-- `STEPPING` of ID_CODE (R384). -/
opaque stepping : BitVec 4
/-- Factory latencies of a port by port mode: (mode, receive ps, transmit ps) (03_time_base_and_stamps.md R56, R75). -/
opaque factoryLatency (port : Nat) : List (BitVec 8 × BitVec 32 × BitVec 32)
/-- `path_ps` of a TDC source at a prescale setting, ps, from factory calibration (04_interval_measurement.md R82). -/
opaque pathPs (source prescale : Nat) : BitVec 24
/-- The needed count of a pace monitor's 1 ms gate less one, for a unit whose count the manual does not give
(02_self_timed_operation.md R33). -/
opaque paceNeededOf (unit : Nat) : BitVec 32

/-- The needed count of a pace monitor's 1 ms gate: 372,024 for a forwarding pipeline (02_self_timed_operation.md R34). -/
def paceNeeded (unit : Nat) : Nat := if unit < 8 then 372024 else (paceNeededOf unit).toNat + 1

/-- The physical lane of a four-lane port that carries the PCS block a port transmits at a RAW instant (2^-16 ns): the
order of blocks on lanes is not stated (03_time_base_and_stamps.md R56). -/
opaque txLane (port : Nat) (raw : Int) : BitVec 2

/-- The version of a firmware image whose header is intact and whose SHA-384 digest and vendor signature verify, as
the boot ROM checks them; none otherwise (17_power_and_start.md R566; the image format is not stated). -/
opaque imageVersion (image : List Nat) : Option (BitVec 24)

/-- Where the cue frame buffer lies in the host-visible window, in 16 KiB slots (08_cues.md R226, R252). -/
opaque cueFrameSlot : Fin 24577


/-- offsetScaledLogVariance derived from the mean square of e over the last updates, 2^-32 ns² (07_timing_domain.md R199,
09_time_service.md R282: the derivation is not stated). -/
opaque logVariance (meanSquare : Nat) : BitVec 16
/-- A byte of a Midwinter record: location, record_seq, offset (16_faults_and_midwinter.md R542: the content of its sections
is that of the core, its memory and working areas, which the manual does not give). -/
opaque midwinterByte (location seq offset : Nat) : BitVec 8
/-- A character of firmware's trace ring: the reset it follows, by the tick, and the index (12_command_interface.md R425: the text is
not stated). -/
opaque traceChar (reset index : Nat) : BitVec 7
/-- The keyed 20-bit ledger bucket of a client key (09_time_service.md R265). -/
opaque ledgerHash (seed addrType vlan addr : Nat) : BitVec 20

/-- Do a PTP profile's own ranges allow a domain number, intervals (log2 s) and an announce timeout (07_timing_domain.md
R212: the ranges are those of the profile documents, which the manual does not repeat). -/
opaque profileAllows (profile domain : Nat) (logSync logAnnounce logDelayReq : Int) (timeout : Nat) : Bool

/-- Half units of work a second that the time-service engine does beyond the least of R260, and what it does while pace unit 10
or 11 reports negative headroom (09_time_service.md R260, R261: only the least is stated), from their headroom in percent. -/
opaque tsSpare (h10 h11 : Int) : Nat
opaque tsSlow (h10 h11 : Int) : Nat

/-- Jamming level of a band from its AGC gain and noise floor and the quiet values learned of them, all in 0.1 dB
(06_satellite_receiver.md R171: the derivation is not stated). -/
opaque jamLevel (agc floor quietAgc quietFloor : Int) : BitVec 8
/-- Delay of a signal estimated from the ionospheric delays of the dual-band satellites, 2^-16 ns: constellation, signal and
elevation of the signal (06_satellite_receiver.md R162: the estimate is not stated). -/
opaque ionoFrom (delays : List Int) (constellation signal : Nat) (elevation : Int) : Int

/-- The MAC table bucket of a VLAN and MAC address (11_switch_core.md R342: the hash is not stated). -/
opaque macBucket (vlan mac : Nat) : BitVec 14

/-- A word with each value at its bit position: (low bit, value). -/
def word : List (Nat × Nat) → Nat
  | [] => 0
  | (lo, v) :: rest => v <<< lo + word rest

/-- Factory-default `PORT_CONFIG_SET` item of a port (10_port_macs.md R330). -/
def portDefault (port : Nat) : Nat :=
  word [(0, port), (32, 1518), (64, 50), (80, 10), (96, 65535), (112, 24), (120, 8)]

/-- Factory-default VLAN 1: enabled, learning, flooding, every port and H a member, ports untagged
(11_switch_core.md R366; the flags the manual gives no default for: log entry 12). -/
def vlanOne : Nat :=
  word [(0, 1), (12, 1), (13, 1), (16, 1), (17, 1), (32, 2 ^ 56 - 1), (88, 1), (96, 2 ^ 56 - 1)]

/-- The VLANs of the factory-default bank. -/
def factoryVlan : Tbl Nat := [(1, vlanOne)]

/-- Factory-default PCP map: PCP 0, 1, 2, …, 7 to classes 1, 0, 2, 3, 4, 5, 6, 7 (R352). -/
def pcpMap : Nat :=
  word [(0, 1), (3, 0), (6, 2), (9, 3), (12, 4), (15, 5), (18, 6), (21, 7)]

/-- Factory-default `PORT_FWD_SET` item (R367). -/
def fwdDefault (port : Nat) : Nat :=
  word [(0, port), (8, 1), (22, 1), (23, 1), (24, 1), (32, pcpMap)]

/-- Factory-default `QUEUE_SET` item (R374): classes 6 and 7 are strict (R354). -/
def queueDefault (port queue : Nat) : Nat :=
  word [(0, port), (8, queue), (12, if queue = 6 ∨ queue = 7 then 1 else 0), (16, 1), (64, 64), (96, 65536), (128, 1024)]

/-- Factory-default `REF_CONFIG_SET` item: disabled, no companion (05_references_and_holdover.md R146). -/
def refDefault (ref : Nat) : Nat := word [(0, ref), (20, 15)]

/-- Factory-default `TIMING_POLICY_SET` item (R152). -/
def policyDefault : Nat := word [(0, 1000), (32, 100), (96, 10), (128, 1000)]

/-- Factory-default `GNSS_CONFIG_SET` item (06_satellite_receiver.md R163, R164, R169 to R172, R177). -/
def gnssDefault : Nat :=
  word [(0, 1), (2, 1), (4, 15), (8, 3), (12, 2), (16, 10), (96, 2000), (128, 2000), (352, 40), (368, 50),
    (384, 20000), (416, 128), (424, 30), (448, 600)]

/-- Factory-default `DOMAIN_CONFIG_SET` item (07_timing_domain.md R214). -/
def domDefault : Nat := word [(2, 1), (16, 128), (24, 128), (72, 2), (80, 64)]

/-- Factory-default `PORT_TIMING_SET` item: an edge port (R215). -/
def portTimingDefault (port : Nat) : Nat := port

/-- Factory-default `TS_CONFIG_SET` item (09_time_service.md R288). -/
def tsDefault : Nat :=
  word [(8, 6), (24, 128), (96, 2048), (160, 4), (184, 1), (192, 86400), (224, 128), (232, 128), (240, 252),
    (256, 300), (272, 33554432), (304, 600), (336, 86400)]

/-- Factory-default `TS_PREFIX_SET` item (R291). -/
def prefixDefault (index : Nat) : Nat := word [(0, index), (24, 2), (28, 2)]

/-- Factory-default `TS_POLICY_SET` item of a policy (09_time_service.md R270). -/
def tspolDefault (policy : Nat) : Nat :=
  if policy = 0 then word [(0, policy), (64, 1)]
  else if policy = 1 then word [(0, policy), (32, 1024), (64, 256)]
  else word [(0, policy), (32, 8), (64, 8)]

/-- Factory-default `PTP_PORT_SET` item: no role, the default profile and its default intervals (R293, R212). -/
def ptpDefault (port : Nat) : Nat :=
  word [(0, port), (18, 1), (40, 1), (56, 3), (72, 248), (144, 2 ^ 32 - 1)]

/-- The leap table a module holds when it leaves the factory (log entry 6, PRESUMED): TAI − UTC = 37 s. -/
def factoryLeap : List (Nat × Int) := [(1483228837, 37)]

/-- Version of the image the factory puts into slot A (log entry 7, DESIGN CHOICE): 1.0.0. -/
def factoryVersion : Nat := 65536

end Sys2Proof.Config
end

