-- ==== Sys2Proof/Machine/State.lean ====
section
/-!
DEFINITION. The state of the CT5600 as one plain record: every register, table, queue, counter, mode and pin the
manual gives it, each field with the rule that names it, and the state right after a power-on reset.
Numbers are held reduced to the width the docstring states; times named tick are counts of the 250 MHz tick.
-/
namespace Sys2Proof.Machine
open Sys2Proof

/-- State of a mailbox (codes 0 to 3) (12 R384). -/
inductive MbxState where
  /-- 0 FREE -/
  | free
  /-- 1 BUSY -/
  | busy
  /-- 2 DONE -/
  | done
  /-- 3 PENDING -/
  | pending
deriving DecidableEq, Repr, Inhabited

/-- State of the attended window (12 R403). -/
inductive Win where
  /-- 0 CLOSED -/
  | closed
  /-- 1 OPEN -/
  | opened
  /-- 2 PRESSING -/
  | pressing
deriving DecidableEq, Repr, Inhabited

/-- Link_state of a network port (10 R305). -/
inductive LinkState where
  /-- 0 DISABLED -/
  | disabled
  /-- 1 DOWN -/
  | down
  /-- 2 UP -/
  | up
  /-- 3 HOLD -/
  | hold
deriving DecidableEq, Repr, Inhabited

/-- Rx_state of the satellite receiver (06 R159). -/
inductive RxState where
  /-- 0 OFF -/
  | off
  /-- 1 ACQUIRING -/
  | acquiring
  /-- 2 SURVEY -/
  | survey
  /-- 3 HOLD -/
  | hold
  /-- 4 DISQUALIFIED -/
  | disqualified
deriving DecidableEq, Repr, Inhabited

/-- Antenna state (06 R175). -/
inductive Antenna where
  /-- 0 OFF -/
  | off
  /-- 1 OK -/
  | ok
  /-- 2 OPEN -/
  | opened
  /-- 3 SHORT -/
  | short
deriving DecidableEq, Repr, Inhabited

/-- State of a trunk port (07 R206). -/
inductive TrunkState where
  /-- 0 DOWN -/
  | down
  /-- 1 L1_WAIT -/
  | l1Wait
  /-- 2 MEASURING -/
  | measuring
  /-- 3 READY -/
  | ready
deriving DecidableEq, Repr, Inhabited

/-- Participant of a domain-wide round (13 R445). -/
inductive PartState where
  /-- 0 IDLE -/
  | idle
  /-- 1 TAGGED -/
  | tagged
  /-- 2 PREPARED -/
  | prepared
  /-- 3 ARMED -/
  | armed
deriving DecidableEq, Repr, Inhabited

/-- The root's side of a round (13 R446). -/
inductive RootState where
  /-- 0 IDLE -/
  | idle
  /-- 1 PREPARING -/
  | preparing
  /-- 2 ARMING -/
  | arming
  /-- 3 ARMED -/
  | armed
  /-- 4 CANCELLING -/
  | cancelling
deriving DecidableEq, Repr, Inhabited

/-- Shadow_state of the banks (13 R428). -/
inductive ShadowState where
  /-- 0 SEEDED -/
  | seeded
  /-- 1 TAGGED -/
  | tagged
  /-- 2 ARMED_LOCAL -/
  | armedLocal
  /-- 3 RETAINED -/
  | retained
  /-- 4 RESEEDING -/
  | reseeding
deriving DecidableEq, Repr, Inhabited

/-- State of a fault record (16 R526). -/
inductive RecState where
  /-- 0 FREE -/
  | free
  /-- 1 MINOR -/
  | minor
  /-- 2 ACTIVE -/
  | active
  /-- 3 QUIET -/
  | quiet
  /-- 4 CLEARED -/
  | cleared
deriving DecidableEq, Repr, Inhabited

/-- State of a reference (05 R148). -/
inductive RefState where
  /-- 0 disabled -/
  | disabled
  /-- 1 qualifying -/
  | qualifying
  /-- 2 qualified -/
  | qualified
  /-- 3 disqualified -/
  | disqualified
  /-- 4 disputed -/
  | disputed
deriving DecidableEq, Repr, Inhabited

/-- State of the selector (05 R136). -/
inductive SelState where
  /-- 0 FREERUN -/
  | freerun
  /-- 1 ACQUIRING -/
  | acquiring
  /-- 2 LOCKED -/
  | locked
  /-- 3 LOCKED_FREQ -/
  | lockedFreq
  /-- 4 HOLDOVER -/
  | holdover
  /-- 5 WAIT_STEP -/
  | waitStep
  /-- 6 LOOP_OPEN -/
  | loopOpen
deriving DecidableEq, Repr, Inhabited

/-- Why the part is held in reset (17 R562). -/
inductive ResetCause where
  /-- power-on reset: standby supply or RESET_N -/
  | powerOn
  /-- a rail below its reset level (R561) -/
  | supply
  /-- thermal trip (R564) -/
  | thermal
  /-- RESET_N low -/
  | resetN
deriving DecidableEq, Repr, Inhabited

/-- The object a waiting command holds (12_command_interface.md R393): a later command that
addresses the same object answers `BUSY`. -/
inductive Obj where
  | port (n : Nat)
  | ref (n : Nat)
  | channel (n : Nat)
  | job (n : Nat)
  | txRing (n : Nat)
  | rxRing (n : Nat)
  | stampRing
  | captureRing
  | session (n : Nat)
  | output (n : Nat)
  /-- A bank item: the low byte of nothing else than its staging command's opcode, and its key. -/
  | item (opcode key : Nat)
  /-- The whole shadow bank. -/
  | shadow
  /-- The attended window. -/
  | window
  | inband
  | bn
  | scrub
  | keySlot (n : Nat)
  | macTable
  | timeBase
deriving DecidableEq, Repr, Inhabited

/-- A slewed phase adjustment in progress (R45). -/
structure Slew where
  /-- 1 (03 R45, R66 SLEWING). -/
  active : Bool := false
  /-- signed, units of 2^-56 ns (03 R45). -/
  rem56 : Int := 0
  /-- signed ns/s (03 R45). -/
  slope : Int := 0
deriving DecidableEq, Repr, Inhabited

/-- A step or slew fixed for a whole-second instant (R73). -/
structure Sched where
  /-- 48, whole second of old time (03 R73). -/
  atSec : Nat := 0
  /-- 64, 2^-16 ns; none = measure at the instant (mode 2, auto-step) (03 R72, R134). -/
  delta : Option Int := none
  /-- 1: R47 makes it a step, as judged when it was fixed; false: a slew (03 R47). -/
  asStep : Bool := true
  /-- 1: an attended TIME_STEP, which steps whatever TIME_VALID has become since (03 R72; 01 R20). -/
  attended : Bool := false
  /-- 0 first setting / WAIT_STEP selector, 1 TIME_STEP command, 2 auto-step (03 R47, R134). -/
  src : Nat := 0
deriving DecidableEq, Repr, Inhabited

/-- The time base (R41-R48). -/
structure TimeS where
  /-- the model's clock in ticks of 4 ns, counted from its own start (04 R82). -/
  tick : Nat := 0
  /-- model ticks up to now that the raw tick index does not count: those before power-on and those while the tick stood still (04 R82). -/
  rawBase : Nat := 0
  /-- 1: tick and time base count (clean-up PLL locked) (17 R565). -/
  counting : Bool := false
  /-- 48 (03 R41). -/
  sec : Nat := 0
  /-- 30 (03 R41). -/
  ns : Nat := 0
  /-- 40, units of 2^-40 ns (03 R41). -/
  frac : Nat := 0
  /-- 16, sigma-delta accumulator of the dither (03 R42). -/
  dacc : Nat := 0
  /-- 48, INC, units of 2^-40 ns per tick (03 R42). -/
  inc : Nat := 4398046511104
  /-- 16, DITHER (03 R42). -/
  dither : Nat := 0
  /-- 64, y in fs/s excluding any slew (03 R43). -/
  freqAdj : Int := 0
  /-- slew in progress (03 R45). -/
  slew : Slew := {}
  /-- sum of what slews have delivered, units of 2^-56 ns (05 R123). -/
  slewSum56 : Int := 0
  /-- scheduled steps and slews, in the order they were fixed (03 R73). -/
  scheds : List Sched := []
  /-- sum of the steps, 2^-16 ns: step-free time = time base - stepSum (03 R65). -/
  stepSum : Int := 0
  /-- 8, STEP_EPOCH (03 R46). -/
  stepEpoch : Nat := 0
  /-- 1, TIME_VALID (03 R48). -/
  valid : Bool := false
deriving DecidableEq, Repr, Inhabited

/-- The leap table and UTC offset (R49-R52). -/
structure LeapS where
  /-- up to 32 entries of 48-bit TAI second and 16-bit signed offset, in force (03 R49). -/
  table : List (Nat × Int) := Config.factoryLeap
  /-- flash copy of the table (03 R52). -/
  flash : List (Nat × Int) := Config.factoryLeap
  /-- 1: the copy in force is not yet written to flash (03 R52). -/
  flashDirty : Bool := false
  /-- 1, LEAP_PENDING (03 R51). -/
  pending : Bool := false
  /-- 1, LEAP_DIR (deleted second) (03 R51). -/
  dir : Bool := false
  /-- 48, TAI second of the pending entry (03 R51). -/
  pendAt : Nat := 0
deriving DecidableEq, Repr, Inhabited

/-- TIME_SNAP_SEC, TIME_SNAP_NS, TIME_SNAP_SUB (R66). -/
structure SnapS where
  /-- 48 (03 R66). -/
  seconds : Nat := 0
  /-- 32 (03 R66). -/
  nanoseconds : Nat := 0
  /-- 16 (03 R66). -/
  subns : Nat := 0
  /-- 1 (03 R66). -/
  timeValid : Bool := false
  /-- 1 (03 R66). -/
  leapPending : Bool := false
  /-- 1 (03 R66). -/
  leapDir : Bool := false
  /-- 8 (03 R66). -/
  stepEpoch : Nat := 0
  /-- 1 (03 R66). -/
  slewing : Bool := false
deriving DecidableEq, Repr, Inhabited

/-- The transmit stamp ring (R62-R64, R76). -/
structure StampRing where
  /-- 64 (03 R76). -/
  base : Nat := 0
  /-- 16 (03 R76). -/
  entries : Nat := 0
  /-- 1 (03 R76). -/
  enable : Bool := false
  /-- 1: disabled, not yet quiescent (03 R64). -/
  draining : Bool := false
  /-- next record to write (03 R62). -/
  idx : Nat := 0
  /-- 1, ring phase bit (03 R62). -/
  phase : Bool := true
  /-- 64, consumer index last seen in host memory (03 R62). -/
  consumer : Nat := 0
deriving DecidableEq, Repr, Inhabited

/-- Pace monitors (R33-R38). -/
structure PaceS where
  /-- 8 signed per unit 0-17 (02 R33, R35). -/
  headroom : Tbl Int := []
  /-- 8 signed per unit, running lowest (12 R416). -/
  lowest : Tbl Int := []
  /-- 1, VALID (02 R36). -/
  valid : Bool := false
  /-- 1, LOW (02 R36). -/
  low : Bool := false
  /-- 1, NEGATIVE (02 R36). -/
  negative : Bool := false
  /-- 1, NEG_SEEN (W1C) (02 R36). -/
  negSeen : Bool := false
  /-- 1, SAF_FORCED (02 R36). -/
  safForced : Bool := false
  /-- 8 signed, MIN_HEADROOM (02 R36). -/
  minHeadroom : Int := 0
  /-- 5, MIN_UNIT (02 R36). -/
  minUnit : Nat := 0
  /-- 8 signed, TJ_MAX (02 R36). -/
  tjMax : Int := 0
  /-- gates since LOW last read 1, to 100 (02 R37). -/
  lowQuiet : Nat := 100
  /-- gates since NEGATIVE last read 1, to 100 (02 R37). -/
  negQuiet : Nat := 100
  /-- consecutive gates with units 0-9 at 2% or more, to 100 (02 R38). -/
  goodGates : Nat := 0
  /-- 8, pace_low_pct (12 R416). -/
  pct : Nat := 10
  /-- tick at which the latest gate closed (02 R36). -/
  gateAt : Nat := 0
deriving DecidableEq, Repr, Inhabited

/-- A response in a mailbox or an in-band frame (R387). -/
structure Resp where
  /-- 16 (12 R387). -/
  opcode : Nat := 0
  /-- 1 (12 R387). -/
  interim : Bool := false
  /-- 16 (12 R387). -/
  seq : Nat := 0
  /-- 16 (12 R391). -/
  status : Nat := 0
  /-- 0 to 4,080 bytes, as (width, value) pairs in layout order (12 R387). -/
  payload : Fields := []
deriving DecidableEq, Repr, Inhabited

/-- One of the eight mailboxes (R384, R387, R388). -/
structure Mailbox where
  /-- 2 (12 R384). -/
  state : MbxState := .free
  /-- 16, MBX_SEQk (12 R384). -/
  seq : Nat := 0
  /-- 4 KiB: the request bytes the host wrote, byte 0 in bits 7..0 (12 R388). -/
  area : Nat := 0
  /-- the response firmware wrote over the request (12 R388). -/
  resp : Option Resp := none
deriving DecidableEq, Repr, Inhabited

/-- A command accepted and not yet answered (R393, R395). -/
structure Wait where
  /-- 16 (12 R393). -/
  opcode : Nat := 0
  /-- the request as received (12 R393). -/
  req : Req := default
  /-- the object it holds (12 R393). -/
  obj : Option Obj := none
  /-- further objects it holds (12 R393). -/
  also : List Obj := []
  /-- 1: handed to hardware (12 R395). -/
  applied : Bool := false
  /-- the instant it names or uses (12 R393). -/
  inst : Time96 := {}
  /-- a count or index the command keeps (12 R393). -/
  arg : Nat := 0
  /-- tick at which its delay or timeout runs out (12 R393). -/
  due : Nat := 0
  /-- response fields fixed already (12 R393). -/
  acc : Fields := []
deriving DecidableEq, Repr, Inhabited

/-- Mailboxes and the command path (R384-R396). -/
structure TciS where
  /-- eight mailboxes of 4 KiB (12 R384). -/
  mbx : Tbl Mailbox := []
  /-- 8, DOORBELL_ERR (W1C) (12 R384). -/
  doorbellErr : Nat := 0
  /-- doorbells rung and not executed, in order (opcode, request) (12 R393, R395). -/
  rung : List (Nat × Req) := []
  /-- commands standing aside (12 R393). -/
  aside : List Wait := []
  /-- commands in flight when firmware stopped (12 R395). -/
  lost : List Wait := []
deriving DecidableEq, Repr, Inhabited

/-- Interrupt registers (R384, R386). -/
structure IntrS where
  /-- 12, INT_STATUS (W1C) (12 R384). -/
  status : Nat := 0
  /-- 12, INT_MASK (12 R384). -/
  mask : Nat := 0x0FFF
  /-- 1, MSI-X enabled (12 R381). -/
  msixEn : Bool := false
  /-- 16, HPORT_HOLDOFF RX_US (12 R384). -/
  holdRx : Nat := 0
  /-- 16, HPORT_HOLDOFF TX_US (12 R384). -/
  holdTx : Nat := 0
  /-- tick of the last vector signalled, per vector 4-11 (12 R386). -/
  lastVec : Tbl Nat := []
  /-- 12, vectors delayed by HPORT_HOLDOFF (12 R386). -/
  delayed : Nat := 0
  /-- 12, vectors that have signalled since their INT_STATUS bit was last set (12 R386). -/
  signalled : Nat := 0
  /-- 128 per vector, the MSI-X table at 0x40000: address, data, vector control; one not listed is masked and else 0 (12 R380). -/
  table : Tbl Nat := []
  /-- 12, the MSI-X pending bit array at 0x41000 (12 R380). -/
  pba : Nat := 0
deriving DecidableEq, Repr, Inhabited

/-- One event-ring entry (R397). -/
structure Event where
  /-- 16 (12 R397). -/
  code : Nat := 0
  /-- 1, late_post (12 R397). -/
  late : Bool := false
  /-- 16, event_seq (12 R397). -/
  seq : Nat := 0
  /-- 96 (12 R397). -/
  cause : Time96 := {}
  /-- 8 (12 R397). -/
  epoch : Nat := 0
  /-- 0 to 96 bytes (12 R397, R399). -/
  payload : Fields := []
deriving DecidableEq, Repr, Inhabited

/-- The event ring (R397, R398). -/
structure EvtS where
  /-- 1,024 entries of 128 bytes, each as its 1,024 bits (12 R397). -/
  ring : Tbl Nat := []
  /-- 10, EVT_HEAD (12 R384). -/
  head : Nat := 0
  /-- 10, EVT_TAIL (12 R384). -/
  tail : Nat := 0
  /-- 32, EVT_LOST (RC, saturates) (12 R384). -/
  lost : Nat := 0
  /-- 32, events lost since the last EVENTS_LOST (12 R398). -/
  lostSince : Nat := 0
  /-- 16, next event_seq (12 R397). -/
  seq : Nat := 0
  /-- causes kept by hardware while firmware is not running (12 R398). -/
  kept : List Event := []
deriving DecidableEq, Repr, Inhabited

/-- The attended window and PRESENT_N (R402-R404). -/
structure WinS where
  /-- 2, WINDOW (12 R384). -/
  state : Win := .closed
  /-- 3, MBX (12 R384). -/
  mbx : Nat := 0
  /-- tick at which 60 s elapse (12 R402). -/
  deadline : Nat := 0
  /-- the attended command held (12 R402). -/
  held : Option Wait := none
  /-- 1: the raw level of PRESENT_N is low (12 R402). -/
  raw : Bool := false
  /-- tick at which the raw level last changed (12 R402). -/
  rawAt : Nat := 0
  /-- 1, PRESENT: PRESENT_N low after debouncing (12 R384). -/
  present : Bool := false
  /-- tick of the debounced falling edge (12 R402). -/
  pressAt : Nat := 0
  /-- 1: the press began inside the window (12 R402). -/
  pressIn : Bool := false
  /-- 1: the press in progress has qualified (12 R402). -/
  counted : Bool := false
  /-- 8, STRAY_PRESSES (RC, saturates) (12 R384). -/
  stray : Nat := 0
  /-- consented actions held by SUPPLY_WARN, in order (12 R404). -/
  actions : List Wait := []
  /-- by mailbox, the ATTEND_WINDOW event of a press that closed the window, its status still to come (12 R400). -/
  closing : Tbl Event := []
deriving DecidableEq, Repr, Inhabited

/-- Seal loop (R406-R408). -/
structure SealS where
  /-- 1, SEAL_ARMED, kept in flash (12 R384). -/
  armed : Bool := false
  /-- 1, SEAL_CLOSED (12 R384). -/
  closed : Bool := false
  /-- tick at which SEAL_CLOSED last changed (12 R423). -/
  closedAt : Nat := 0
  /-- tick of the last check whose bit did not come back (12 R406). -/
  missAt : Nat := 0
  /-- 1, SEAL_BROKEN in the standby latch (12 R407). -/
  latch : Bool := false
  /-- 1, SEAL_BROKEN in the protected area of flash (12 R407). -/
  flash : Bool := false
  /-- 32, seal_serial (12 R423). -/
  serial : Nat := 0
  /-- 16 (12 R423). -/
  provisions : Nat := 0
deriving DecidableEq, Repr, Inhabited

/-- In-band TCI (R409-R412, R418, R419). -/
structure InbS where
  /-- 1, INBAND_EN, held in flash (12 R418). -/
  enable : Bool := false
  /-- 1: disable in progress (12 R418). -/
  disabling : Bool := false
  /-- 32, next transaction (12 R419). -/
  txnNext : Nat := 1
  /-- refused requests that firmware, not running, has still to answer: opcode, request, status (12 R409; 01 R15). -/
  refused : List (Nat × Req × Nat) := []
deriving DecidableEq, Repr, Inhabited

/-- A firmware image slot (R566, R567). -/
structure Image where
  /-- 32, FW_VERSION layout (12 R415). -/
  version : Nat := 0
  /-- 1: passes R566 (17 R566). -/
  valid : Bool := false
  /-- 1: has run 60 s (17 R567). -/
  confirmed : Bool := false
  /-- trial starts in a row ended by a full reset (17 R567). -/
  trials : Nat := 0
  /-- 32, bytes written by SYS_FW_WRITE (12 R421). -/
  bytes : Nat := 0
  /-- the image bytes written by SYS_FW_WRITE (12 R421). -/
  data : List Nat := []
deriving DecidableEq, Repr, Inhabited

/-- Firmware, images and start (R384, R415, R421, R422, R563-R568). -/
structure FwS where
  /-- 1, FW_RUNNING (12 R384). -/
  running : Bool := false
  /-- 1: firmware started since the last full reset (17 R563). -/
  everStarted : Bool := false
  /-- 1, SLOT (0 = image A) (12 R384). -/
  slot : Bool := false
  /-- 1, FALLBACK (12 R384). -/
  fallback : Bool := false
  /-- image A (17 R566). -/
  imgA : Image := { version := Config.factoryVersion, valid := true, confirmed := true }
  /-- image B (17 R566). -/
  imgB : Image := {}
  /-- 1, next_slot (12 R415). -/
  nextSlot : Bool := false
  /-- 1, staged_valid: an image written awaits activation (12 R415). -/
  staged : Bool := false
  /-- 24, fused version floor (17 R566). -/
  floor : Nat := 0
  /-- 1: boot ROM serves mailbox 0 (R568) (17 R568). -/
  recovery : Bool := false
  /-- 1: the boot ROM has loaded an image and firmware may start (17 R567). -/
  imageOk : Bool := false
  /-- 8, start_reason (17 R563). -/
  startReason : Nat := 0
  /-- tick at which firmware last started (12 R415). -/
  startTick : Nat := 0
  /-- tick of the last full reset (12 R415). -/
  resetTick : Nat := 0
  /-- scheduled resets: (tick due, kind 0 full / 1 processor-only / 7 activation) (17 R572, 12 R422). -/
  restarts : List (Nat × Nat) := []
  /-- bytes firmware has written to its trace ring, as far as a read has shown (12 R425). -/
  traceEnd : Nat := 0
deriving DecidableEq, Repr, Inhabited

/-- One TDC channel (R78-R101). -/
structure Channel where
  /-- 160, bits [159:0] of the MEAS_CHANNEL_SET layout in force (04 R100). -/
  cfg : Nat := 0
  /-- 2: 0 off, 1 calibrating, 2 running (04 R101). -/
  state : Nat := 0
  /-- 1, overrun_seen (RC) (04 R101). -/
  overrunSeen : Bool := false
  /-- 1: overrun to be set in the next record (04 R85). -/
  overrunNext : Bool := false
  /-- 48, edge counter before the prescaler (04 R86). -/
  edges : Nat := 0
  /-- prescaled edges since the last stamped one (04 R86). -/
  skip : Nat := 0
  /-- 48 (04 R101). -/
  events : Nat := 0
  /-- 48 (04 R101). -/
  overruns : Nat := 0
  /-- 48 (04 R101). -/
  calRejects : Nat := 0
  /-- consecutive rejected tables (04 R89). -/
  rejectRun : Nat := 0
  /-- 48 (04 R101). -/
  captureLost : Nat := 0
  /-- 16, table_generation (04 R101). -/
  generation : Nat := 0
  /-- installed bin table: 4,096 hit counts (04 R87). -/
  hits : Option (Tbl Nat) := none
  /-- 96, table_installed_at (04 R101). -/
  installedAt : Time96 := {}
  /-- 80, RAW stamp of the last stamped event (04 R85). -/
  lastRaw : Option Int := none
  /-- 1: disabled, not yet quiescent (04 R100). -/
  draining : Bool := false
  /-- 1: foreground calibration by MEAS_CAL_RUN (04 R106). -/
  calRun : Bool := false
  /-- tick at which the calibration in progress began (04 R88). -/
  calFrom : Nat := 0
deriving DecidableEq, Repr, Inhabited

/-- One event gathered in a gate (R91). -/
structure GateEvent where
  /-- 48, edge_index (04 R91). -/
  n : Nat := 0
  /-- TIME-scale stamp, 2^-16 ns (04 R82). -/
  at_ : Int := 0
  /-- stamp on the step-free copy of the time base, 2^-16 ns (04 R90). -/
  sf : Int := 0
  /-- RAW-scale stamp, 2^-16 ns (04 R82). -/
  raw : Int := 0
  /-- 1 (04 R93). -/
  overrun : Bool := false
  /-- 1: a phase hit, left out of the regression (05 R115). -/
  hit : Bool := false
deriving DecidableEq, Repr, Inhabited

/-- A job's result, R104 layout (R104). -/
structure MeasResult where
  /-- 512 bits (04 R104). -/
  word : Nat := 0
  /-- 1: posted as MEAS_RESULT (04 R94). -/
  posted : Bool := true
  /-- 96, when it was produced, where firmware did not run (12 R397). -/
  cause : Time96 := {}
  /-- 8, STEP_EPOCH then (12 R397). -/
  epoch : Nat := 0
deriving DecidableEq, Repr, Inhabited

/-- One regression job 0-15 (R90-R104). -/
structure Job where
  /-- 192, the MEAS_START request in force (04 R102). -/
  cfg : Nat := 0
  /-- 1 (04 R102). -/
  running : Bool := false
  /-- 1: MEAS_STOP awaits quiescence (04 R103). -/
  stopping : Bool := false
  /-- gate start on the time base, 2^-16 ns (04 R90). -/
  gateStart : Int := 0
  /-- gate start on the step-free copy, once the gate has opened (04 R90). -/
  sfStart : Option Int := none
  /-- 32 (04 R104). -/
  gateIndex : Nat := 0
  /-- events of channel A in the gate (04 R91). -/
  evA : List GateEvent := []
  /-- events of channel B in the gate (04 R92). -/
  evB : List GateEvent := []
  /-- RAW stamp of channel A's last event before the gate (04 R93). -/
  lastA : Option Int := none
  /-- the same for channel B (04 R93). -/
  lastB : Option Int := none
  /-- 8, results overwritten while firmware did not run (04 R94). -/
  missed : Nat := 0
  /-- the steps since the gate opened, on the step-free copy, 2^-16 ns: step_in_gate (04 R90). -/
  steps : List Int := []
  /-- latest result (04 R104). -/
  result : Option MeasResult := none
deriving DecidableEq, Repr, Inhabited

/-- A LINK_CAL_RUN in progress (R195, R219). -/
structure LinkCal where
  /-- the command it answers (07 R219). -/
  wait : Wait := {}
  /-- tick at which its gate closes (07 R195). -/
  closeTick : Nat := 0
  /-- channel measured (07 R219). -/
  ch : Nat := 0
  /-- port calibrated (07 R219). -/
  port : Nat := 0
  /-- 64, zero reading, 2^-16 ns (07 R219). -/
  zero : Int := 0
  /-- events of the channel in the gate (07 R195). -/
  evs : List GateEvent := []
  /-- RAW stamp of the channel's last event before the gate (07 R219). -/
  before : Option Int := none
deriving DecidableEq, Repr, Inhabited

/-- The measurement bank (chapter 04). -/
structure MeasS where
  /-- 16 channels (04 R78). -/
  ch : Tbl Channel := []
  /-- 16 jobs (04 R95). -/
  job : Tbl Job := []
  /-- the LINK_CAL_RUNs in progress (07 R195). -/
  linkCals : List LinkCal := []
  /-- tick at which TIC8's 1 s on its output began (05 R141). -/
  turnAt : Nat := 0
  /-- events TIC8 has stamped in it (05 R141). -/
  turnEvs : List GateEvent := []
deriving DecidableEq, Repr, Inhabited

/-- Oven and clean-up PLL (R96, R97, R107). -/
structure OcxoS where
  /-- 1, OCXO_WARM (04 R96). -/
  warm : Bool := false
  /-- 1: OCXO_COLD stands (04 R96). -/
  cold : Bool := false
  /-- 16 signed, oven_dev_mk (04 R107). -/
  devMk : Int := 0
  /-- tick since which the oven is within 50 mK (04 R96). -/
  inBandAt : Option Nat := none
  /-- tick since which the deviation exceeds 200 mK (04 R96). -/
  outBandAt : Option Nat := none
  /-- tick at which the oven was powered (04 R107). -/
  heaterAt : Option Nat := none
  /-- 32, heater_mw (04 R107). -/
  heaterMw : Nat := 0
  /-- 1, pll_locked (04 R107). -/
  pllLocked : Bool := false
  /-- phase at lock modulo 100 ns, 2^-16 ns (04 R97). -/
  pllPhase : Option Int := none
  /-- 64, pll_phase_walk (04 R107). -/
  phaseWalk : Int := 0
deriving DecidableEq, Repr, Inhabited

/-- One closed sub-gate (R114). -/
structure SubGate where
  /-- y_rel, fs/s (05 R114). -/
  y : Int := 0
  /-- RAW-scale y, fs/s (05 R113). -/
  raw : Int := 0
  /-- centre on the step-free time base, 2^-16 ns (05 R114). -/
  centre : Int := 0
  /-- code of R93 of the result the tests take (05 R109, R114). -/
  quality : Nat := 0
  /-- code of R93 of the reference's own result (05 R109, R115). -/
  own : Nat := 0
deriving DecidableEq, Repr, Inhabited

/-- One reference slot 0-7 (chapter 05). -/
structure RefS where
  /-- qualification state (05 R116). -/
  state : RefState := .disabled
  /-- 288, the REF_CONFIG_SET item in force: rank, tolerances, window and bandwidth as of the last evaluation (05 R115, R146). -/
  word : Nat := 0
  /-- 4, last disqualification (05 R148). -/
  cause : Nat := 0
  /-- 1, status_ok (05 R148). -/
  statusOk : Bool := false
  /-- 1: the gap test of R93 holds (05 R116). -/
  gapOk : Bool := false
  /-- 1: newly enabled, not disqualified since (05 R116). -/
  fresh : Bool := false
  /-- tick at which the reported state began (05 R148). -/
  since : Nat := 0
  /-- tick at which the qualifying state began (05 R116). -/
  qualSince : Nat := 0
  /-- tick at which it last became qualified (05 R121). -/
  qualAt : Nat := 0
  /-- start of the current sub-gate on the step-free time base, 2^-16 ns (05 R114). -/
  gateSf : Option Int := none
  /-- results of the regression gates of a long sub-gate so far: quality, RAW y (05 R114). -/
  parts : List (Nat × Int) := []
  /-- the companion's results for the same gates (05 R109). -/
  partsC : List (Nat × Int) := []
  /-- events not yet taken into a closed regression gate (05 R114). -/
  evs : List GateEvent := []
  /-- the companion's events, likewise (05 R109). -/
  evC : List GateEvent := []
  /-- RAW stamp of the last event before the current gate (04 R93). -/
  lastEv : Option Int := none
  /-- the same for the companion (04 R93). -/
  lastEvC : Option Int := none
  /-- sub-gates, newest first: the latest 16, and the latest 16 of quality VALID (05 R114). -/
  gates : List SubGate := []
  /-- close of the latest sub-gate on the step-free time base, 2^-16 ns (05 R114). -/
  cEnd : Int := 0
  /-- consecutive offset failures (05 R114). -/
  offFails : Nat := 0
  /-- consecutive drift failures (05 R114). -/
  driftFails : Nat := 0
  /-- 64, u (05 R148). -/
  offset : Int := 0
  /-- 64, v * 3600 (05 R148). -/
  drift : Int := 0
  /-- 2 (05 R148). -/
  basis : Nat := 2
  /-- 64, time base against reference at its latest event, 2^-16 ns; of a frequency reference the running phase (05 R148). -/
  phase : Option Int := none
  /-- phase of the last accepted event, clear of steps and slews (05 R115). -/
  pred : Option Int := none
  /-- 1: the latest event differs from the prediction by more than the limit (05 R115). -/
  hitNow : Bool := false
  /-- 1: that hit is not yet counted (05 R115). -/
  hitDue : Bool := false
  /-- consecutive phase hits (05 R115). -/
  hitRun : Nat := 0
  /-- tick of the last phase hit (05 R116). -/
  lastHit : Option Nat := none
  /-- 48, disqualifications (05 R148). -/
  disqs : Nat := 0
  /-- 48, phase_hits (05 R148). -/
  phaseHits : Nat := 0
  /-- tick of the last event (05 R115). -/
  lastEvent : Option Nat := none
  /-- TOD label received for the next edge (05 R144). -/
  label : Option Nat := none
  /-- last second labelled (05 R144). -/
  lastLabel : Option Nat := none
  /-- consecutive seconds with a label failure (05 R144). -/
  labelFails : Nat := 0
  /-- whole second of the last label failure (05 R144). -/
  failSec : Option Nat := none
  /-- tick of the last sentence's last byte (05 R144). -/
  todAt : Option Nat := none
  /-- 1: disabled or changed, not yet quiescent (05 R122). -/
  draining : Bool := false
  /-- tick at which it was last enabled or changed (05 R115). -/
  startAt : Nat := 0
  /-- recorded phase of a frequency reference, 2^-16 ns (05 R123). -/
  freqPhase0 : Option Int := none
deriving DecidableEq, Repr, Inhabited

/-- A pair of references compared for disputes (R117-R120). -/
structure Pair where
  /-- lower reference (05 R117). -/
  a : Nat := 0
  /-- higher reference (05 R117). -/
  b : Nat := 0
  /-- consecutive evaluations beyond threshold (05 R117). -/
  beyond : Nat := 0
  /-- consecutive evaluations within threshold (05 R120). -/
  inside : Nat := 0
  /-- 1: in dispute (05 R117). -/
  active : Bool := false
  /-- references it marks disputed (05 R119). -/
  marks : List Nat := []
deriving DecidableEq, Repr, Inhabited

/-- The selector and the loop (chapter 05). -/
structure SelS where
  /-- 2 (05 R149). -/
  mode : Nat := 0
  /-- 4 (05 R149). -/
  manual : Nat := 0
  /-- 17, wtr_s (05 R149). -/
  wtr : Nat := 300
  /-- 2, mode acted on since the last evaluation (05 R149). -/
  actMode : Nat := 0
  /-- 4, manual_ref acted on (05 R149). -/
  actManual : Nat := 0
  /-- 17, wtr_s acted on (05 R149). -/
  actWtr : Nat := 300
  /-- 1: manual selection has fallen back to automatic (05 R121). -/
  fell : Bool := false
  /-- pairs compared for disputes (05 R117). -/
  pairs : List Pair := []
  /-- 4 (05 R136). -/
  state : SelState := .freerun
  /-- reference in use (05 R150). -/
  selected : Option Nat := none
  /-- tick of the current state's start (05 R150). -/
  since : Nat := 0
  /-- 1: loop opened by LOOP_SET (05 R151). -/
  loopHeld : Bool := false
  /-- tick of the last loop update since the selection (05 R123). -/
  loopAt : Option Nat := none
  /-- 1: the first setting of the time base is scheduled (05 R136). -/
  setting : Bool := false
  /-- loop integrator, fs/s (05 R123). -/
  integ : Rat := 0
  /-- last phase error e, 2^-16 ns (05 R123). -/
  e : Int := 0
  /-- e of the last 60 updates, 2^-16 ns (05 R131). -/
  eHist : List Int := []
  /-- consecutive updates within the lock criterion (05 R135). -/
  lockRun : Nat := 0
  /-- 64, pending_phase (05 R150). -/
  pendingPhase : Int := 0
  /-- E at entry, ns (05 R131). -/
  e0 : Nat := 0
  /-- 1, auto_step_blocked (05 R134). -/
  blocked : Bool := false
  /-- 48, whole second last tested for an auto-step (05 R134). -/
  tested : Option Nat := none
  /-- 8, type of the reference in use, or last in use (09 R273). -/
  lastType : Nat := 0
  /-- 8, type of the reference locked to last (05 R132). -/
  lockType : Nat := 0
  /-- 1: that lock was traceable (05 R132; 07 R189). -/
  lockTr : Bool := false
  /-- 1: locked since reset (05 R132). -/
  everLocked : Bool := false
  /-- reference in use, or last in use (09 R273). -/
  lastRef : Option Nat := none
  /-- 8, clock_class (05 R132). -/
  clockClass : Nat := 248
  /-- class, timeTraceable, frequencyTraceable announced on entry to ACQUIRING (05 R135). -/
  acqClass : Nat × Bool × Bool := (248, false, false)
  /-- y written in LOCKED or LOCKED_FREQ with its duration in ticks, newest first, over 1,000 s (05 R129). -/
  yHist : List (Int × Nat) := []
  /-- in LOCKED or LOCKED_FREQ: tick from which the y in force is not yet in yHist (05 R129). -/
  yAt : Option Nat := none
  /-- 96, instant of the last loop update (09 R273). -/
  lastUpdate : Time96 := {}
  /-- 96, instant the selector entered its state (09 R273). -/
  stateAt : Time96 := {}
deriving DecidableEq, Repr, Inhabited

/-- Holdover learning (R128-R130, R155). -/
structure HoldS where
  /-- samples (y fs/s, case temperature 1/256 C, centre s), newest first (05 R128). -/
  samples : List (Int × Int × Int) := []
  /-- sum of y times ticks since the last sample (05 R128). -/
  accY : Int := 0
  /-- ticks learned since the last sample (05 R128). -/
  accT : Nat := 0
  /-- ticks of locked, warm time (05 R128). -/
  learned : Nat := 0
  /-- tick at which learning was interrupted (05 R128). -/
  pausedAt : Option Nat := none
  /-- fs/s (05 R155). -/
  y0 : Rat := 0
  /-- fs/s per day (05 R155). -/
  a : Rat := 0
  /-- fs/s per K (05 R155). -/
  c : Rat := 0
  /-- 48, t_ref in whole seconds (05 R155). -/
  tRef : Nat := 0
  /-- 16, 1/256 C (05 R155). -/
  thetaRef : Int := 0
  /-- 32, fit_rms (05 R155). -/
  rms : Nat := 0
  /-- 32, last_holdover_s (05 R155). -/
  lastS : Nat := 0
  /-- tick of the last write in this holdover (05 R129). -/
  writeAt : Option Nat := none
deriving DecidableEq, Repr, Inhabited

/-- One output: TOUT0-7 and TOD_TX (8) (R137-R143, R154). -/
structure OutS where
  /-- 1, running (05 R154). -/
  running : Bool := false
  /-- 192, the OUTPUT_SET item the synthesizer runs under (05 R153). -/
  cfg : Nat := 0
  /-- 1: change awaiting the end of the pulse or half-cycle (05 R140). -/
  draining : Bool := false
  /-- end of the pulse or half-cycle in progress at that change, step-free time base, 2^-16 ns (05 R140). -/
  endSf : Int := 0
  /-- 1: a step has come since the last active edge (05 R139). -/
  realign : Bool := false
  /-- 1: output at its active level (08 R233). -/
  level : Bool := false
  /-- instants of the inactive edges due of cue pulses, step-free time base, 2^-16 ns (08 R233). -/
  pulseEnds : List Int := []
  /-- starting edge of a frequency output; earliest edge of a pulse output under its setting and time; step-free time base, 2^-16 ns (05 R138, R139). -/
  startSf : Int := 0
  /-- last active edge, step-free time base, 2^-16 ns (05 R139). -/
  lastEdge : Option Int := none
  /-- end of the pulse or half-cycle of the last active edge, step-free time base, 2^-16 ns (05 R140). -/
  stayEnd : Option Int := none
  /-- last instant placed or suppressed, step-free time base, 2^-16 ns (05 R139). -/
  lastTry : Option Int := none
  /-- 1, mon_fault (05 R154). -/
  monFault : Bool := false
  /-- 64, mon_error (05 R154). -/
  monError : Int := 0
  /-- 48, suppressed (05 R154). -/
  suppressed : Nat := 0
  /-- active edges of pulses and edges of cues placed in TIC8's turn, step-free time base, 2^-16 ns (08 R233). -/
  placed : List Int := []
  /-- 48, TOD_TX: second of the last sentence sent (05 R142). -/
  sentSec : Option Nat := none
deriving DecidableEq, Repr, Inhabited

/-- What the receiver has learned over the first 24 h of HOLD: sums over the epochs learned from (R171). -/
structure GnssQuiet where
  /-- epochs learned from, to 86,400 (06 R171). -/
  n : Nat := 0
  /-- 0.1 dB (06 R171). -/
  agc1 : Int := 0
  /-- 0.1 dB (06 R171). -/
  agc5 : Int := 0
  /-- 0.1 dB (06 R171). -/
  floor1 : Int := 0
  /-- 0.1 dB (06 R171). -/
  floor5 : Int := 0
  /-- 0.1 dB (06 R171). -/
  power : Int := 0
  /-- median C/N0, 0.5 dB-Hz (06 R171). -/
  cn0 : Int := 0
deriving DecidableEq, Repr, Inhabited

/-- The satellite receiver (chapter 06). -/
structure GnssS where
  /-- 480, the GNSS_CONFIG_SET item in force since the last epoch (06 R177). -/
  cfg : Nat := 0
  /-- 48, whole second of the latest epoch (06 R183). -/
  epochSec : Option Nat := none
  /-- tick of the latest epoch (06 R170). -/
  epochAt : Option Nat := none
  /-- last clock solution: label, RAW instant of that second in 2^-16 ns (06 R160). -/
  lastSol : Option (Nat × Int) := none
  /-- RAW instant of the PPS edge placed and not yet stamped, 2^-16 ns (06 R160). -/
  ppsAt : Option Int := none
  /-- GPS-Galileo offset, 2^-16 ns (06 R161). -/
  ggto : Int := 0
  /-- BDT-GPS offset, 2^-16 ns (06 R161). -/
  bgto : Int := 0
  /-- GLONASS inter-system bias solved: GLONASS time less GPS time, 2^-16 ns (06 R161). -/
  gloBias : Int := 0
  /-- epochs in HOLD since the last entry to it from ACQUIRING or SURVEY (06 R161). -/
  holdS : Nat := 0
  /-- quiet levels learned (06 R171). -/
  quiet : GnssQuiet := {}
  /-- antenna bias output, mV (06 R175). -/
  biasMv : Nat := 0
  /-- satellites whose ephemeris is held: constellation, number (06 R182). -/
  ephs : List (Nat × Nat) := []
  /-- sum of the squares of the coordinates averaged, mm^2 (06 R163). -/
  fixSq : Nat := 0
  /-- tick of the last background fix (06 R164). -/
  fixAt : Option Nat := none
  /-- 3, rx_state (06 R159). -/
  rx : RxState := .off
  /-- state before DISQUALIFIED (06 R159). -/
  before : RxState := .hold
  /-- tick of the current state's start (06 R179). -/
  since : Nat := 0
  /-- 1: a committed change takes effect at the next epoch (06 R166). -/
  cfgChanged : Bool := false
  /-- 1: the next edge is marked as a configuration change (06 R166). -/
  edgeMark : Bool := false
  /-- position waiting to be written to flash, or erased, when SUPPLY_WARN ends (06 R163; 17 R560). -/
  toStore : Option (Option (Int × Int × Int)) := none
  /-- 1, timing_solution (06 R179). -/
  solution : Bool := false
  /-- 1, dual_band (06 R179). -/
  dual : Bool := false
  /-- surveyed position in flash, ECEF mm (06 R163). -/
  stored : Option (Int × Int × Int) := none
  /-- position in use, ECEF mm (06 R179). -/
  held : Int × Int × Int := (0, 0, 0)
  /-- fixes averaged in survey-in (06 R163). -/
  fixes : Nat := 0
  /-- sum of the fixes averaged, mm (06 R163). -/
  fixSum : Int × Int × Int := (0, 0, 0)
  /-- 32, survey_elapsed_s (06 R179). -/
  surveyS : Nat := 0
  /-- 32, survey_sigma_mm (06 R179). -/
  sigma : Nat := 0
  /-- 2 (06 R175). -/
  antenna : Antenna := .off
  /-- 16, antenna_ma (06 R179). -/
  antennaMa : Nat := 0
  /-- tick of the next bias reapplication in SHORT (06 R175). -/
  reapplyAt : Nat := 0
  /-- 1, leap_mismatch (06 R179). -/
  leapMismatch : Bool := false
  /-- 8, hard_flags (06 R171). -/
  hard : Nat := 0
  /-- 1, a hard indicator has set and the receiver is to be disqualified for it (06 R172). -/
  hardSet : Bool := false
  /-- 8, soft_flags (06 R171). -/
  soft : Nat := 0
  /-- 8, sats_used (06 R179). -/
  satsUsed : Nat := 0
  /-- tracked signals, 64-bit entries of GNSS_SAT_LIST (06 R180). -/
  sats : List Nat := []
  /-- 8, jam_l1 (06 R179). -/
  jam1 : Nat := 0
  /-- 8, jam_l5 (06 R179). -/
  jam5 : Nat := 0
  /-- 32, tacc_ps (06 R179). -/
  tacc : Nat := 0
  /-- 16, bc_utc_offset (06 R179). -/
  bcUtc : Int := 0
  /-- 16, bc_next_offset (06 R179). -/
  bcNext : Int := 0
  /-- 48, bc_leap_tai (06 R179). -/
  bcLeap : Nat := 0
  /-- 48, disqualifications (06 R179). -/
  disqs : Nat := 0
  /-- tick at which a signal was last tracked (06 R159). -/
  lastTracked : Nat := 0
  /-- tick since which the clear condition of R172 holds (06 R172). -/
  clearSince : Option Nat := none
  /-- tick since which two soft indicators stand (06 R172). -/
  softSince : Option Nat := none
  /-- consecutive background fixes beyond move_limit_m (06 R164). -/
  moveFails : Nat := 0
  /-- consecutive background fixes within move_limit_m (06 R171). -/
  movePasses : Nat := 0
  /-- consecutive failing epochs of the prediction check (06 R170). -/
  predFails : Nat := 0
  /-- consecutive passing epochs (06 R170). -/
  predPasses : Nat := 0
  /-- consecutive epochs failing the frequency test (06 R170). -/
  driftFails : Nat := 0
  /-- clock solutions of the last 600 s, newest first: (label, RAW instant of that second in 2^-16 ns) (06 R170). -/
  clockHist : List (Nat × Int) := []
  /-- consecutive epochs beyond sys_limit_ns per constellation (06 R169). -/
  sysFails : Tbl Nat := []
  /-- 1: two contributing constellations disagreed (06 R169). -/
  sysPair : Bool := false
  /-- 1: the check of R169 holds SYS_DISAGREE set (06 R169). -/
  sysDue : Bool := false
  /-- consecutive epochs with every constellation within the limit (06 R169). -/
  sysPasses : Nat := 0
  /-- 4, constellations excluded under R169 (06 R169). -/
  sysExcluded : Nat := 0
  /-- consecutive label failures (06 R171). -/
  labelFails : Nat := 0
  /-- consecutive label passes (06 R171). -/
  labelPasses : Nat := 0
  /-- last epoch label (06 R171). -/
  lastLabel : Option Nat := none
  /-- tick since which each soft indicator's set or clear condition holds (06 R171). -/
  condSince : Tbl Nat := []
  /-- 1: disabled, not yet quiescent (06 R177). -/
  draining : Bool := false
  /-- 1: almanac held (06 R182). -/
  almanac : Bool := false
  /-- 1: receiver time held (06 R182). -/
  timeKnown : Bool := false
deriving DecidableEq, Repr, Inhabited

/-- A Sync and Delay_Req pair in progress on a slave end (07 R192). -/
structure PtpPair where
  /-- 16, sequenceId of the Sync (07 R192). -/
  syncSeq : Nat := 0
  /-- Sync egress stamp at the master, 2^-16 ns (07 R192). -/
  t1 : Option Int := none
  /-- 64, correctionField of the Sync, 2^-16 ns (07 R192). -/
  corr : Int := 0
  /-- Sync ingress stamp here, 2^-16 ns (07 R192). -/
  t2 : Option Int := none
  /-- 16, sequenceId of the Delay_Req (07 R192). -/
  reqSeq : Nat := 0
  /-- Delay_Req egress stamp here, 2^-16 ns (07 R192). -/
  t3 : Option Int := none
  /-- stepSum at t2, 2^-16 ns (03 R65). -/
  steps : Int := 0
  /-- phase of the latest complete pair, 2^-16 ns (07 R192). -/
  e : Option Int := none
  /-- 1: r of that pair makes the next series value a phase hit (07 R193). -/
  forced : Bool := false
deriving DecidableEq, Repr, Inhabited

/-- Trunk state of one network port (R184-R217). -/
structure Trunk where
  /-- 2 (07 R206). -/
  state : TrunkState := .down
  /-- 3, l1_state (07 R217). -/
  l1 : Nat := 0
  /-- 1: locked on the recovered clock (07 R190). -/
  l1Locked : Bool := false
  /-- tick of the next L1SYNC message (07 R190). -/
  l1At : Nat := 0
  /-- neighbour's device ID and last accepted HELLO (07 R200). -/
  nbr : Option (Nat × Hello) := none
  /-- tick of the last accepted HELLO (07 R206). -/
  helloAt : Nat := 0
  /-- tick at which the root's heartbeat last advanced in it (07 R201). -/
  beatAt : Nat := 0
  /-- last sequence accepted per sender_id (07 R186). -/
  seqs : Tbl Nat := []
  /-- 64, round_trip r, 2^-16 ns (07 R217). -/
  rtt : Int := 0
  /-- 64, d_down, 2^-16 ns (07 R217). -/
  down : Int := 0
  /-- 64, latest series value e, 2^-16 ns (07 R217). -/
  phase : Int := 0
  /-- the port's phase series and its qualification, as a reference slot holds one (07 R192, R193). -/
  series : RefS := {}
  /-- r that the next one is compared with, 2^-16 ns (07 R193). -/
  prevRtt : Option Int := none
  /-- the Sync and Delay_Req pair in progress (07 R192). -/
  pair : PtpPair := {}
  /-- tick of the next Sync or Delay_Req: the end of the 125 ms interval (07 R191, R192). -/
  turnAt : Nat := 0
  /-- tick of the next Announce (07 R191). -/
  annAt : Nat := 0
  /-- child's last MEMBERS: 4,096-bit map, subtree_lead_depth, subtree_hops (07 R208). -/
  members : Option (Nat × Nat × Nat) := none
  /-- 48, AUTH_FAIL (07 R217). -/
  authFail : Nat := 0
  /-- 48, REPLAY (07 R217). -/
  replay : Nat := 0
  /-- 48, BAD_FRAME (07 R217). -/
  badFrame : Nat := 0
  /-- 48, DOMAIN_ON_EDGE (07 R217). -/
  onEdge : Nat := 0
  /-- 48, TAG_MISMATCH (07 R217). -/
  tagMismatch : Nat := 0
  /-- 4, quality level last received (ESMC) (07 R189). -/
  esmcQl : Nat := 15
  /-- tick of the last ESMC PDU received (07 R189). -/
  esmcAt : Option Nat := none
  /-- quality level last sent (07 R189). -/
  esmcSent : Nat := 15
  /-- tick of the last ESMC PDU sent (07 R189). -/
  esmcTxAt : Option Nat := none
  /-- tick of the first domain frame to fail R186 since one passed (07 R203). -/
  badSince : Option Nat := none
deriving DecidableEq, Repr, Inhabited

/-- A domain frame waiting to be sent (R185, R214). -/
structure DomOut where
  /-- port it leaves on (07 R185). -/
  port : Nat := 0
  /-- 8 (07 R186). -/
  kind : Nat := 0
  /-- header, payload and tag (07 R185). -/
  fields : Fields := []
deriving DecidableEq, Repr, Inhabited

/-- This device's place in the domain (R199-R221). -/
structure DomS where
  /-- 8, parent_port (07 R218). -/
  parentPort : Option Nat := none
  /-- 1, is_root (07 R218). -/
  isRoot : Bool := false
  /-- dataset of the current root as this device relays it (07 R200). -/
  root : Hello := {}
  /-- 32, own heartbeat as root (07 R199). -/
  heartbeat : Nat := 0
  /-- consecutive HELLO intervals with a better dataset (07 R199). -/
  betterRun : Nat := 0
  /-- clockIdentity of the better dataset being counted (07 R199). -/
  better : Option Nat := none
  /-- 8 (07 R218). -/
  hops : Nat := 255
  /-- 32 (07 R218). -/
  pathCost : Nat := 0
  /-- 32, path_delay_ns (07 R218). -/
  pathDelay : Nat := 0
  /-- 16, domain_lead_depth (07 R218). -/
  domainLead : Nat := 0
  /-- 1, dup_id (07 R218). -/
  dupId : Bool := false
  /-- tick of the last duplicate seen (07 R208). -/
  dupAt : Nat := 0
  /-- tick since which there is no parent (07 R203). -/
  noParentAt : Option Nat := none
  /-- 96, last_parent_change (07 R218). -/
  lastChange : Time96 := {}
  /-- 48, parent_changes (07 R218). -/
  changes : Nat := 0
  /-- 16, reset count of the sequence field (07 R185). -/
  resetCount : Nat := 0
  /-- 48, frames sent since reset (07 R185). -/
  txSeq : Nat := 0
  /-- tick of the next HELLO (07 R200). -/
  helloDue : Nat := 0
  /-- tick of the next MEMBERS (07 R208). -/
  membersDue : Nat := 0
  /-- 1: domain disabled, not yet quiescent (07 R214). -/
  draining : Bool := false
  /-- domain frames waiting for their ports (07 R214). -/
  queue : List DomOut := []
  /-- time_traceable of the root last followed (07 R205). -/
  rootTr : Bool := false
  /-- 32, heartbeat of the current root last seen to advance (07 R199, R201). -/
  beat : Nat := 0
  /-- tick at which it advanced (07 R199, R201). -/
  beatAt : Nat := 0
deriving DecidableEq, Repr, Inhabited

/-- One cue table row (R222-R251). -/
structure Row where
  /-- 288, bits [287:0] of the CUE_ADD layout, `when` as armed (08 R249). -/
  req : Nat := 0
  /-- 1: template (08 R242). -/
  template : Bool := false
  /-- 1: the EQUINOX row (08 R223). -/
  equinox : Bool := false
  /-- 1: handed over to its island (08 R238). -/
  handed : Bool := false
  /-- instant in units of 2^-16 ns (08 R222). -/
  inst : Int := 0
  /-- order of arming (08 R237). -/
  seqNo : Nat := 0
  /-- 32, domain round that armed it; 0 for CUE_ADD (08 R251). -/
  round : Nat := 0
  /-- 16, root of the domain round that armed it (08 R244). -/
  root : Nat := 0
  /-- 1: an armed EQUINOX has removed its target (08 R225). -/
  gone : Bool := false
  /-- FRAME: the frame in the launch buffer, byte 0 in bits 7..0 (08 R228). -/
  buffered : Option Nat := none
deriving DecidableEq, Repr, Inhabited

/-- An outcome kept while firmware is halted (R241). -/
structure Outcome1 where
  /-- CUE_END payload (08 R241). -/
  payload : Fields := []
  /-- 1: EXECUTED (08 R241). -/
  executed : Bool := false
  /-- 96 (08 R241). -/
  cause : Time96 := {}
  /-- 8 (12 R397). -/
  epoch : Nat := 0
deriving DecidableEq, Repr, Inhabited

/-- One domain cue round seen by this device (R244-R246). -/
structure CueRound where
  /-- 16, root_id (08 R244). -/
  root : Nat := 0
  /-- 32 (08 R243). -/
  round : Nat := 0
  /-- 16 (08 R243). -/
  scene : Nat := 0
  /-- 1: a cancel (08 R243). -/
  cancel : Bool := false
  /-- tick of arrival (08 R245). -/
  arrived : Nat := 0
  /-- instant, 2^-16 ns (08 R243). -/
  inst : Nat := 0
  /-- 1: armed (or cancelled) every instance (08 R245). -/
  okSelf : Bool := false
  /-- 16, late_count (08 R245). -/
  late : Nat := 0
  /-- 16, fail_count (08 R245). -/
  fail : Nat := 0
  /-- 4,096, ok_map merged (08 R245). -/
  okMap : Nat := 0
  /-- trunk ports whose child has acked (08 R245). -/
  acked : List Nat := []
  /-- 1: ack sent or result posted (08 R245). -/
  sent : Bool := false
  /-- 16, member count at the root (08 R246). -/
  members : Nat := 0
  /-- 1: this device originated it as root (08 R246). -/
  mine : Bool := false
deriving DecidableEq, Repr, Inhabited

/-- The cue engine (chapter 08). -/
structure CueS where
  /-- 65,536 rows (08 R222). -/
  rows : Tbl Row := []
  /-- order of arming of the next row (08 R237). -/
  nextSeq : Nat := 0
  /-- 48 (08 R252). -/
  executed : Nat := 0
  /-- 48 (08 R252). -/
  late : Nat := 0
  /-- 48, outcomes_dropped (08 R252). -/
  dropped : Nat := 0
  /-- outcomes kept while firmware is halted, oldest first, up to 4,096 (08 R241). -/
  kept : List Outcome1 := []
  /-- 8 per port: classes whose gate is closed (all open after reset) (08 R232). -/
  closedGates : Tbl Nat := []
  /-- last 64 rounds seen, newest first (08 R244). -/
  rounds : List CueRound := []
  /-- last 64 cancels seen, newest first (08 R244). -/
  cancels : List CueRound := []
  /-- rounds this device announced as root whose instant has not passed: round, instant in 2^-16 ns, scene (08 R253). -/
  issued : List (Nat × Nat × Nat) := []
  /-- results of the last 16 rounds at the root, newest first (08 R254). -/
  results : List CueRound := []
  /-- 32, next round number at the root (08 R253). -/
  nextRound : Nat := 1
deriving DecidableEq, Repr, Inhabited

/-- The capture ring (R234-R236, R254). -/
structure CapS where
  /-- 64 (08 R254). -/
  offset : Nat := 0
  /-- 24 (08 R254). -/
  entries : Nat := 0
  /-- 1 (08 R254). -/
  enable : Bool := false
  /-- 1: disabled, not yet quiescent (08 R235). -/
  draining : Bool := false
  /-- 64, producer index (08 R235). -/
  producer : Nat := 0
  /-- 64, consumer index word in DRAM (08 R235). -/
  consumer : Nat := 0
  /-- port sources whose capture gate is open (08 R234). -/
  openPorts : List Nat := []
  /-- TDC sources whose gate a CAPTURE_STOP closed (08 R234). -/
  closedTdc : List Nat := []
  /-- latest moves of the capture gates, newest first: source, step-free instant, opened, open before it (08 R234). -/
  moves : List (Nat × Int × Bool × Bool) := []
  /-- 48, capture_lost_ports (08 R252). -/
  lostPorts : Nat := 0
  /-- per port: RAW 2^-16 ns of the last record, for the 20 M records/s limit (08 R234). -/
  portRate : Tbl Nat := []
deriving DecidableEq, Repr, Inhabited

/-- One client-ledger entry (R266). -/
structure Ledger where
  /-- 128 (09 R266). -/
  addr : Nat := 0
  /-- 2 (09 R266). -/
  addrType : Nat := 0
  /-- 2 (09 R266). -/
  cls : Nat := 0
  /-- 4 (09 R266). -/
  policy : Nat := 0
  /-- 12 (09 R266). -/
  vlan : Nat := 0
  /-- bank epoch under which class and policy were derived; its low 8 bits are read (09 R266). -/
  epoch : Nat := 0
  /-- tokens, in units of 1/256 request divided by 65,536,000,000,000 (09 R266). -/
  tokens : Nat := 0
  /-- step-free time of the last request, 2^-16 ns (09 R266). -/
  seen : Int := 0
  /-- 8 (09 R266). -/
  kodSent : Nat := 0
  /-- 8 (09 R266). -/
  kodCode : Nat := 0
  /-- step-free time of the last kiss, 2^-16 ns (09 R266). -/
  kodAt : Option Int := none
  /-- 32 (09 R266). -/
  ntsKeyId : Nat := 0
  /-- 48 (09 R266). -/
  requests : Nat := 0
  /-- 20, bucket of the keyed hash (09 R265). -/
  bucket : Nat := 0
deriving DecidableEq, Repr, Inhabited

/-- One PTP unicast grant (R283). -/
structure Grant where
  /-- ledger key: address type, VLAN, address (09 R283). -/
  key : Nat × Nat × Nat := (0, 0, 0)
  /-- edge port (09 R283). -/
  port : Nat := 0
  /-- message type granted (09 R283). -/
  msg : Nat := 0
  /-- logInterMessagePeriod (09 R283). -/
  logPeriod : Int := 0
  /-- tick at which it ends (09 R283). -/
  endsAt : Nat := 0
  /-- 2, class of the client (09 R283). -/
  cls : Nat := 0
  /-- tick at which its next message is due (09 R283). -/
  nextAt : Nat := 0
  /-- addresses, VLAN and UDP ports of what is sent to the client (09 R262, R283). -/
  frame : Frame := {}
deriving DecidableEq, Repr, Inhabited

/-- One cookie key generation (R276). -/
structure CookieKey where
  /-- 32 (09 R276). -/
  keyId : Nat := 0
  /-- 256 (09 R276). -/
  key : Nat := 0
  /-- 253-255 (09 R276). -/
  slot : Nat := 253
deriving DecidableEq, Repr, Inhabited

/-- The time-service engine (chapter 09). -/
structure TsS where
  /-- 1, ntp_active (09 R294). -/
  ntp : Bool := false
  /-- 1, nts_active (09 R294). -/
  nts : Bool := false
  /-- 1, ptp_active (09 R294). -/
  ptp : Bool := false
  /-- 3: functions disabled and not yet quiescent (bit 0 NTP, 1 NTS, 2 PTP) (09 R286). -/
  draining : Nat := 0
  /-- up to 8,388,608 entries (09 R265). -/
  ledger : List Ledger := []
  /-- 128, hash key drawn at every start (09 R265). -/
  hashSeed : Nat := 0
  /-- bank epoch of the last Equinox that changed the prefix table or a policy (09 R269). -/
  derivedAt : Nat := 0
  /-- up to 262,144 grants (09 R283). -/
  grants : List Grant := []
  /-- what the stranger bucket has had taken from it, 1/500,000,000 unit (09 R261). -/
  stranger : Nat := 0
  /-- tick of its last refill (09 R261). -/
  strangerTick : Nat := 0
  /-- tick of the last stranger-cap drop (09 R261). -/
  capDropAt : Option Nat := none
  /-- stranger units offered in the last second: (tick, half units) (09 R299). -/
  offered : List (Nat × Nat) := []
  /-- units in the last second: (tick, half units) (09 R294). -/
  load : List (Nat × Nat) := []
  /-- per class: each piece of work waiting for the engine, half units and whether it is a request, oldest first (09 R261). -/
  waiting : Tbl (List (Nat × Bool)) := []
  /-- what the engine has done of the request in hand, 1/250,000,000 half unit (09 R260). -/
  credit : Nat := 0
  /-- tick up to which the engine's work is counted (09 R260). -/
  servedAt : Nat := 0
  /-- per port: second of the tick count and requests admitted in it (09 R259). -/
  admitUse : Tbl (Nat × Nat) := []
  /-- per prefix entry: tick of the last DENY kiss (09 R257). -/
  denyKiss : Tbl Nat := []
  /-- current and two previous generations, newest first (09 R276). -/
  cookies : List CookieKey := []
  /-- tick at which the next rotation falls due (09 R276). -/
  rotateDue : Nat := 0
  /-- 1: a rotation waits or is under way (09 R294). -/
  rotating : Bool := false
  /-- 1: this rotation is already counted late (09 R276). -/
  rotateLate : Bool := false
  /-- 96 (09 R294). -/
  lastRotation : Time96 := {}
  /-- 64-bit RC counters: 16 * set + index (09 R295). -/
  counters : Tbl Nat := []
  /-- per port: tick of the last PTP_FOREIGN_MASTER (09 R279). -/
  foreignAt : Tbl Nat := []
  /-- tick of the last acceptable Announce on the SLAVE port, or since which the first is awaited (09 R280). -/
  announceAt : Option Nat := none
  /-- mean link delay per TC_P2P port, 2^-16 ns (09 R285). -/
  linkDelay : Tbl Int := []
  /-- per TC_P2P port: its Pdelay exchange in progress (09 R285). -/
  linkPair : Tbl PtpPair := []
  /-- sequenceId per port and message type (09 R282). -/
  ptpSeq : Tbl Nat := []
  /-- 16 * port + message type: tick at which the next multicast message is due (09 R282). -/
  ptpNext : Tbl Nat := []
  /-- dataset of the SLAVE port's master (09 R280). -/
  master : Hello := {}
  /-- its clockIdentity and portNumber, once an Announce of it is accepted (09 R280). -/
  masterId : Option (Nat × Nat) := none
  /-- the SLAVE port's Sync and Delay_Req pair in progress (09 R280). -/
  pair : PtpPair := {}
deriving DecidableEq, Repr, Inhabited

/-- One egress copy waiting in a queue (R337, R358, R359). -/
structure Copy where
  /-- identity of the frame (11 R358). -/
  id : Nat := 0
  /-- the frame as received (11 R358). -/
  frame : Frame := {}
  /-- ingress port index; 56 = H (11 R336). -/
  ingress : Nat := 0
  /-- 12, VLAN assigned (11 R340). -/
  vid : Nat := 0
  /-- 4, traffic class; 8 = express (11 R352). -/
  cls : Nat := 0
  /-- 32, bank epoch of its pass (11 R338). -/
  epoch : Nat := 0
  /-- RAW 2^-16 ns at which its last byte arrives (11 R349). -/
  endsAt : Nat := 0
  /-- 1: errored or oversize (R310) (10 R310). -/
  marked : Bool := false
  /-- 1: on the booked path (03 R60). -/
  booked : Bool := false
  /-- slots lost so far (03 R61). -/
  lost : Nat := 0
  /-- 1: STAMP_REQ (03 R62). -/
  stampReq : Bool := false
  /-- RAW 2^-16 ns at which the first bit after its SFD crossed the ingress lands (11 R350). -/
  raw : Nat := 0
  /-- ingress stamp (03 R58). -/
  stamp : Time96 := {}
  /-- stepSum at the ingress stamp (03 R65). -/
  stampSteps : Int := 0
  /-- 8, STEP_EPOCH at the stamp (03 R58). -/
  stampEpoch : Nat := 0
  /-- reservation flow (11 R356). -/
  flow : Option Nat := none
  /-- 1: conforms to its reservation (11 R356). -/
  reserved : Bool := false
  /-- 1: to be marked CE (11 R360). -/
  ecnCe : Bool := false
  /-- cells it holds (11 R358). -/
  cells : Nat := 1
  /-- 1: its cells are of the shared pool (11 R359). -/
  shared : Bool := false
  /-- 1: its cells are of the reserved pool (11 R358). -/
  rsvPool : Bool := false
  /-- mirror session it is a copy of (11 R361). -/
  mirror : Option Nat := none
  /-- mirror sessions that have taken this frame or passed it over (11 R361). -/
  mirrors : List Nat := []
  /-- 1: a directed send from H, sent as given (10 R323). -/
  untouched : Bool := false
  /-- 1: a time-service response or originated message (09 R262). -/
  ts : Bool := false
  /-- 1: a PAUSE, a guard band or a link hold fell in its wait, so D_r does not bound it (11 R357). -/
  excused : Bool := false
  /-- RAW 2^-16 ns by which R357 has it leave; behind a closed gate, what is left of that time (11 R357). -/
  due : Nat := 0
  /-- 4, reason of R325 for a copy to H (10 R325). -/
  reason : Nat := 0
  /-- 1: its cells are of the time-service pool (09 R262). -/
  pool : Bool := false
  /-- what the engine built: 0 nothing, 1 NTP, 2 NTS, 3 RATE or RSTR kiss, 4 NTSN kiss, 5 DENY kiss, 6 one-step Sync, 7 two-step Sync, 8 one-step Pdelay_Resp, 9 other PTP, 10 ARP or advertisement, 11 a domain frame, 12 trunk Sync, 13 Delay_Req of a slave end, 14 other trunk PTP, 15 two-step Pdelay_Resp, 16 Pdelay_Req of a TC_P2P port, 17 Delay_Req of the SLAVE port, 18 a Sync an IEEE 802.1AS port relays (09 R262). -/
  what : Nat := 0
  /-- 1: built in a port island, no work of the engine (09 R285). -/
  island : Bool := false
  /-- the message the engine built (09 R262). -/
  body : Fields := []
  /-- class of its client (09 R255). -/
  tsCls : Nat := 0
  /-- 256, NTS: the key its encrypted fields are sealed under (09 R277). -/
  s2c : Nat := 0
  /-- NTS: the Unique Identifier echoed (09 R277). -/
  uid : List Nat := []
  /-- NTS: the fields to be sealed (09 R277). -/
  plain : List Nat := []
deriving DecidableEq, Repr, Inhabited

/-- The frame on a port's wire (R316, R319). -/
structure OnWire where
  /-- the copy being sent (10 R316). -/
  copy : Copy := {}
  /-- start, time of the RAW scale in 2^-16 ns (10 R316). -/
  start : Nat := 0
  /-- end with its inter-frame gap, RAW 2^-16 ns (10 R316). -/
  finish : Nat := 0
  /-- 1 (10 R315). -/
  express : Bool := false
  /-- bytes of it already sent in earlier fragments (10 R316). -/
  frag : Nat := 0
deriving DecidableEq, Repr, Inhabited

/-- A booked launch slot (R60). -/
structure Slot1 where
  /-- the booked frame (03 R60). -/
  copy : Copy := {}
  /-- slot, RAW 2^-16 ns (03 R60). -/
  tickAt : Nat := 0
  /-- 1: in the launch buffer (03 R60). -/
  ready : Bool := true
  /-- egress stamp written at booking, 2^-16 ns (03 R60). -/
  stamp : Int := 0
  /-- stepSum at booking, 2^-16 ns (03 R65). -/
  steps : Int := 0
deriving DecidableEq, Repr, Inhabited

/-- A frame in an ingress FIFO (R313, R338). -/
structure FifoEnt where
  /-- the frame (10 R313). -/
  frame : Frame := {}
  /-- ingress stamp (03 R58). -/
  stamp : Time96 := {}
  /-- stepSum at the stamp, 2^-16 ns (03 R65). -/
  steps : Int := 0
  /-- 8, STEP_EPOCH at the stamp (03 R58). -/
  epoch : Nat := 0
  /-- RAW 2^-16 ns at which the first bit after its SFD crossed the lands (11 R350). -/
  raw : Nat := 0
  /-- 1: errored or oversize (10 R310). -/
  marked : Bool := false
  /-- RAW 2^-16 ns at which its last byte arrives (11 R349). -/
  endsAt : Nat := 0
deriving DecidableEq, Repr, Inhabited

/-- An assembly of preemption fragments (R317). -/
structure Asm where
  /-- 1: the ingress FIFO had room for the frame at its SFD (10 R313). -/
  room : Bool := true
  /-- 2, next fragment count (10 R317). -/
  next : Nat := 0
  /-- bytes so far (10 R317). -/
  bytes : Nat := 0
  /-- ingress stamp of the frame's SFD (03 R54). -/
  stamp : Time96 := {}
  /-- stepSum at the stamp (03 R65). -/
  steps : Int := 0
  /-- 8, STEP_EPOCH at the stamp (03 R58). -/
  epoch : Nat := 0
  /-- RAW 2^-16 ns at which the first bit after its SFD crossed the lands (11 R350). -/
  raw : Nat := 0
deriving DecidableEq, Repr, Inhabited

/-- One network port 0-55 (chapter 10). -/
structure PortS where
  /-- 2, link_state (10 R305). -/
  link : LinkState := .disabled
  /-- tick at which LINK_HOLD expires (10 R305). -/
  holdDue : Nat := 0
  /-- tick of the last loss of the link, or of the start of its PCS (10 R305). -/
  badAt : Nat := 0
  /-- 1, block_lock (10 R331). -/
  blockLock : Bool := false
  /-- 1, am_lock (10 R331). -/
  amLock : Bool := false
  /-- 1, fec_lock (10 R331). -/
  fecLock : Bool := false
  /-- 1, hi_ber (10 R331). -/
  hiBer : Bool := false
  /-- 1, local_fault (10 R331). -/
  localFault : Bool := false
  /-- 1, remote_fault (10 R331). -/
  remoteFault : Bool := false
  /-- 3, preempt_state (10 R331). -/
  preempt : Nat := 0
  /-- verify attempts made (10 R315). -/
  verTries : Nat := 0
  /-- tick at which verify_time_ms elapses (10 R315). -/
  verDue : Nat := 0
  /-- 1: a verify mPacket is to be sent (10 R315). -/
  verSend : Bool := false
  /-- RAW 2^-16 ns at which the pause timer reaches 0; none: no pause in effect (10 R319). -/
  pauseUntil : Option Nat := none
  /-- RAW 2^-16 ns from which the PAUSE in effect counts: the last FCS bit of the frame that loaded it (10 R319). -/
  pauseFrom : Nat := 0
  /-- 1, pause_sending (10 R331). -/
  pauseSending : Bool := false
  /-- tick of the last PAUSE generated (10 R322). -/
  pauseSentAt : Nat := 0
  /-- 32, fifo_bytes (10 R331). -/
  fifo : Nat := 0
  /-- 96, last_change (10 R331). -/
  lastChange : Time96 := {}
  /-- four signed 32-bit lane skews, ps (10 R331). -/
  skew : List Int := [0, 0, 0, 0]
  /-- 54 counters of 48 bits (10 R332). -/
  stats : Tbl Nat := []
  /-- assembly in progress (10 R317). -/
  asm : Option Asm := none
  /-- frame on the wire (10 R319). -/
  wire : Option OnWire := none
  /-- preempted frame whose fragments remain (10 R316). -/
  cut : Option OnWire := none
  /-- 1: a changed preemption setting takes effect once a preempted frame's fragments have been sent (10 R315). -/
  remerge : Bool := false
  /-- the booked slot (03 R60). -/
  slot : Option Slot1 := none
  /-- queues 0-7, 8 = express, 9 = the reserved tier, head first (11 R337, R356). -/
  queues : Tbl (List Copy) := []
  /-- DWRR deficit per class, bytes (11 R354). -/
  deficits : Tbl Int := []
  /-- shaper bucket per class: what has been taken, in 1/2,000,000 byte, and the tick of the last refill (11 R354). -/
  shaper : Tbl (Nat × Nat) := []
  /-- express allowance bucket: what has been taken, in 1/2,000,000 byte, and the tick of the last refill (11 R355). -/
  xBucket : Nat × Nat := (0, 0)
  /-- 1: taken out of service or changing mode, not yet quiescent (10 R308). -/
  draining : Bool := false
  /-- 8: the mode it drains in (10 R308). -/
  lastMode : Nat := 0
  /-- frames accepted or marked and awaiting their pass (11 R338). -/
  inFifo : List FifoEnt := []
  /-- PAUSE frames generated and not yet sent: pause time of each (10 R322). -/
  control : List Nat := []
  /-- cue row whose guard band is open (01 R21). -/
  guard : Option Nat := none
  /-- 48, TS_ONESTEP_BOOKED (03 R77). -/
  stBooked : Nat := 0
  /-- 48, TS_BOOK_MISS (03 R77). -/
  stMiss : Nat := 0
  /-- 48, TS_RING_LOST (03 R77). -/
  stRing : Nat := 0
  /-- 48, TS_TC_UPDATES (03 R77). -/
  stTc : Nat := 0
  /-- trunk state of the port (07 R206). -/
  trunk : Trunk := {}
deriving DecidableEq, Repr, Inhabited

/-- One host-port ring (R323-R333). -/
structure Ring where
  /-- 1 (10 R333). -/
  enable : Bool := false
  /-- 64 (10 R333). -/
  base : Nat := 0
  /-- 16 (10 R333). -/
  entries : Nat := 0
  /-- 16 (10 R333). -/
  bufKib : Nat := 0
  /-- index word: next descriptor to read or fill (10 R323). -/
  idx : Nat := 0
  /-- 12, HPORT_TX_TAIL or HPORT_RX_TAIL (12 R384). -/
  tail : Nat := 0
  /-- 1: disabled, not yet quiescent (10 R326). -/
  draining : Bool := false
deriving DecidableEq, Repr, Inhabited

/-- Host port H (R323-R334). -/
structure HostS where
  /-- 0-3 transmit, 4-7 receive (10 R323). -/
  rings : Tbl Ring := []
  /-- ten 64-bit RC counters (10 R334). -/
  counters : Tbl Nat := []
  /-- copies delivered to H and awaiting a buffer (10 R325). -/
  queue : List Copy := []
deriving DecidableEq, Repr, Inhabited

/-- One dynamic MAC entry (R342, R343). -/
structure MacEnt where
  /-- 12 (11 R342). -/
  vlan : Nat := 0
  /-- 48 (11 R342). -/
  mac : Nat := 0
  /-- port index (11 R342). -/
  port : Nat := 0
  /-- tick of the last refresh (11 R343). -/
  tickAt : Nat := 0
deriving DecidableEq, Repr, Inhabited

/-- One snooped group (R345, R346). -/
structure Snooped where
  /-- 12 (11 R345). -/
  vlan : Nat := 0
  /-- group address (11 R345). -/
  group : Nat := 0
  /-- 1 (11 R345). -/
  ipv6 : Bool := false
  /-- member ports with the tick at which each lapses (11 R346). -/
  ports : List (Nat × Nat) := []
  /-- ports on which a leave arrived and no report since (11 R346). -/
  leaving : List Nat := []
  /-- 15, its index in the group table (11 R377). -/
  index : Nat := 0
deriving DecidableEq, Repr, Inhabited

/-- What a live edit changes (11_switch_core.md R347). -/
inductive EditKind where
  /-- `PORT_STATE_SET`: port and new state. -/
  | portState (port state : Nat)
  /-- `MAC_FLUSH`: scope, port, VLAN. -/
  | flush (scope port vlan : Nat)
deriving DecidableEq, Repr, Inhabited

/-- A live edit issued and not yet acknowledged (R347). -/
structure Edit where
  /-- what it changes (11 R347). -/
  kind : EditKind := .flush 0 0 0
  /-- the command it answers (11 R368, R370). -/
  wait : Wait := {}
  /-- tick at which it was issued (11 R347). -/
  issued : Nat := 0
deriving DecidableEq, Repr, Inhabited

/-- One mirror session (R361-R364, R376). -/
structure Mirror where
  /-- 184, the MIRROR_SET request in force (11 R376). -/
  cfg : Nat := 0
  /-- 1: disabled, not yet quiescent (11 R364). -/
  draining : Bool := false
  /-- frames since the last one taken (11 R363). -/
  phase : Nat := 0
  /-- 48, MIR_COPIES (11 R379). -/
  copies : Nat := 0
  /-- 48, MIR_DROP (11 R379). -/
  drop : Nat := 0
  /-- 48, MIR_SKIPPED (11 R379). -/
  skipped : Nat := 0
  /-- 48, MIR_SAMPLED_OUT (11 R379). -/
  sampledOut : Nat := 0
deriving DecidableEq, Repr, Inhabited

/-- The switch core (chapter 11). -/
structure SwS where
  /-- 2 per port: 0 forwarding, 1 learning, 2 blocking (11 R341). -/
  portState : Tbl Nat := []
  /-- dynamic MAC entries (11 R342). -/
  macs : List MacEnt := []
  /-- snooped groups (11 R345). -/
  groups : List Snooped := []
  /-- dynamic router ports: VLAN, port, lapse tick (11 R346). -/
  routers : List (Nat × Nat × Nat) := []
  /-- group membership interval of the last query, ms: IGMP of VLAN v at 2v, MLD at 2v + 1 (11 R346). -/
  interval : Tbl Nat := []
  /-- live edits awaiting acknowledgement (11 R347). -/
  edits : List Edit := []
  /-- learning writes to be issued: VLAN, MAC, port, RAW 2^-16 ns at which the frame's FCS has checked good (11 R343). -/
  learn : List (Nat × Nat × Nat × Nat) := []
  /-- four sessions (11 R376). -/
  mirrors : Tbl Mirror := []
  /-- 32, cells_peak (RC) (11 R378). -/
  peak : Nat := 0
  /-- 48, LEARN_FULL (11 R378). -/
  ctrLearnFull : Nat := 0
  /-- 48, LEARN_LIMIT (11 R378). -/
  ctrLearnLimit : Nat := 0
  /-- 48, MAC_MOVE_DENIED (11 R378). -/
  ctrMoveDenied : Nat := 0
  /-- 48, SNOOP_FULL (11 R378). -/
  ctrSnoopFull : Nat := 0
  /-- 48, UNKNOWN_DROP (11 R378). -/
  ctrUnknown : Nat := 0
  /-- 48, VLAN_DROP (11 R378). -/
  ctrVlan : Nat := 0
  /-- 48, STATE_DROP (11 R378). -/
  ctrState : Nat := 0
  /-- 48 each: 4 * (16 * port + queue) + k (ENQUEUED, Q_DROP, ECN_MARKED, X_EXCESS) (11 R379). -/
  qCtr : Tbl Nat := []
  /-- 48 each: 4 * flow + k (RSV_CONFORM, RSV_EXCESS, RSV_SHORT) (11 R379). -/
  flowCtr : Tbl Nat := []
  /-- 48 per rule, RULE_HITS (11 R379). -/
  ruleHits : Tbl Nat := []
  /-- reservation bucket per flow: what has been taken, in 1/2,000,000 byte, and the tick of the last refill (11 R356). -/
  rsvBucket : Tbl (Nat × Nat) := []
  /-- table entries absent after an uncorrectable word: array, table, index (15 R506). -/
  absent : List (Nat × Nat × Nat) := []
  /-- identity of the next frame (11 R358). -/
  nextId : Nat := 1
deriving DecidableEq, Repr, Inhabited

/-- One configuration bank: items in their staging layouts (R426). -/
structure Bank where
  /-- 136 each, PORT_CONFIG_SET items, by port (13 R426). -/
  port : Tbl Nat := []
  /-- 216 each, VLAN_SET items, by VID (13 R426). -/
  vlan : Tbl Nat := Config.factoryVlan
  /-- 160 each, PORT_FWD_SET items, by port (13 R426). -/
  fwd : Tbl Nat := []
  /-- 72 each, MAC_STATIC_SET items, by VLAN and MAC (13 R426). -/
  mac : Tbl Nat := []
  /-- 1,096 each, FLOW_RULE_SET items, by index (13 R426). -/
  rule : Tbl Nat := []
  /-- 217 each, MCAST_GROUP_SET items, by index (13 R426). -/
  group : Tbl Nat := []
  /-- 160 each, QUEUE_SET items, by 16 * port + queue (13 R426). -/
  queue : Tbl Nat := []
  /-- 128 each, RSV_SET items, by flow (13 R426). -/
  rsv : Tbl Nat := []
  /-- 96 each, STAMP_LATENCY_SET items, by port (13 R426). -/
  lat : Tbl Nat := []
  /-- 288 each, REF_CONFIG_SET items, by reference (13 R426). -/
  ref : Tbl Nat := []
  /-- 160, TIMING_POLICY_SET item (13 R426). -/
  policy : Nat := Config.policyDefault
  /-- 192 each, OUTPUT_SET items, by output (13 R426). -/
  out : Tbl Nat := []
  /-- 480, GNSS_CONFIG_SET item (13 R426). -/
  gnss : Nat := Config.gnssDefault
  /-- 96, DOMAIN_CONFIG_SET item (13 R426). -/
  dom : Nat := Config.domDefault
  /-- 64 each, PORT_TIMING_SET items, by port (13 R426). -/
  ptim : Tbl Nat := []
  /-- 128 each, FIBRE_PAIR_SET items, by pair (13 R426). -/
  pair : Tbl Nat := []
  /-- 368, TS_CONFIG_SET item (13 R426). -/
  ts : Nat := Config.tsDefault
  /-- 224 each, TS_ADDR_SET items, by index (13 R426). -/
  addr : Tbl Nat := []
  /-- 192 each, TS_PREFIX_SET items, by index (13 R426). -/
  pfx : Tbl Nat := []
  /-- 96 each, TS_POLICY_SET items, by policy (13 R426). -/
  tspol : Tbl Nat := []
  /-- 176 each, PTP_PORT_SET items, by port (13 R426). -/
  ptp : Tbl Nat := []
  /-- 32, KEY_POLICY_SET item (13 R426). -/
  key : Nat := 0
  /-- 1: the KEY_POLICY_SET item was staged by an attended command (13 R448). -/
  keyAttended : Bool := false
deriving DecidableEq, Repr, Inhabited

/-- One flash bank slot (R430). -/
structure BankSlot where
  /-- the bank held (13 R430). -/
  bank : Bank := {}
  /-- 32, epoch of its header (13 R430). -/
  epoch : Nat := 0
  /-- 1: the header is readable (13 R431). -/
  headerOk : Bool := false
  /-- 1: its check passes (13 R430). -/
  ok : Bool := false
deriving DecidableEq, Repr, Inhabited

/-- The configuration banks (R426-R439, R451). -/
structure BankS where
  /-- the active bank (13 R426). -/
  active : Bank := {}
  /-- the shadow bank (the retained bank while RETAINED) (13 R426). -/
  shadow : Bank := {}
  /-- 32, bank_epoch (13 R428). -/
  epoch : Nat := 0
  /-- 32, epoch of the retained bank (13 R438). -/
  oldEpoch : Nat := 0
  /-- 32, edit_count (13 R428). -/
  edits : Nat := 0
  /-- 32, change_id (13 R428). -/
  changeId : Nat := 0
  /-- 3, shadow_state (13 R428). -/
  state : ShadowState := .seeded
  /-- 1 (13 R451). -/
  validated : Bool := false
  /-- 1: every unit's second store holds the shadow (13 R435). -/
  preloaded : Bool := false
  /-- 1 (13 R430). -/
  persisted : Bool := true
  /-- two flash slots (13 R430). -/
  slots : Tbl BankSlot := [(0, { epoch := 1, headerOk := true, ok := true })]
  /-- tick of t_c of the drain in progress (13 R438). -/
  drainFrom : Nat := 0
  /-- copies dropped in the drain in progress (13 R438). -/
  drainDrops : Nat := 0
  /-- 32, last_drain_us (13 R451). -/
  lastDrain : Nat := 0
  /-- 48, EPOCH_DRAIN_DROP (13 R451). -/
  drainDrop : Nat := 0
  /-- 48, EQUINOX_MISSED (13 R451). -/
  missed : Nat := 0
  /-- 96, last_commit (13 R451). -/
  lastCommit : Time96 := {}
  /-- 1: firmware has loaded the active bank since the last full reset (17 R565). -/
  loaded : Bool := false
  /-- 1: bank check words match (16 R537). -/
  checkOk : Bool := true
deriving DecidableEq, Repr, Inhabited

/-- A round at the root (R446, R459). -/
structure RootRec where
  /-- 32 (13 R459). -/
  round : Nat := 0
  /-- 32 (13 R459). -/
  changeId : Nat := 0
  /-- T, 2^-16 ns (13 R459). -/
  inst : Nat := 0
  /-- 8 (13 R459). -/
  outcome : Nat := 0
  /-- 8 (13 R459). -/
  reasons : Nat := 0
  /-- 4,096, member map (13 R446). -/
  members : Nat := 0
  /-- 4,096 (13 R459). -/
  ready : Nat := 0
  /-- 4,096 (13 R459). -/
  armed : Nat := 0
  /-- 4,096 (13 R459). -/
  cancel : Nat := 0
  /-- 16, fail_count (13 R457). -/
  fails : Nat := 0
  /-- 1: ended at ARM (13 R457). -/
  phase : Bool := false
  /-- 1: a host cancel (13 R446). -/
  byHost : Bool := false
deriving DecidableEq, Repr, Inhabited

/-- An upward message being merged (R442). -/
structure UpRec where
  /-- 0x21 READY, 0x23 ARMED, 0x25 CANCEL_ACK (13 R440). -/
  kind : Nat := 0
  /-- 32 (13 R441). -/
  round : Nat := 0
  /-- tick of arrival of the down message (13 R442). -/
  arrived : Nat := 0
  /-- 4,096 (13 R441). -/
  okMap : Nat := 0
  /-- 16 (13 R441). -/
  fails : Nat := 0
  /-- 8 (13 R441). -/
  reasons : Nat := 0
  /-- trunk ports whose child has answered (13 R442). -/
  acked : List Nat := []
  /-- 1 (13 R442). -/
  sent : Bool := false
deriving DecidableEq, Repr, Inhabited

/-- Domain-wide rounds (R440-R448). -/
structure RndS where
  /-- 2, participant (13 R445). -/
  part : PartState := .idle
  /-- 32, round prepared or armed (13 R445). -/
  round : Nat := 0
  /-- T, 2^-16 ns (13 R445). -/
  inst : Nat := 0
  /-- (round, kind) acted on, the last 64 rounds of each kind (13 R442). -/
  seen : List (Nat × Nat) := []
  /-- merges in progress (13 R442). -/
  up : List UpRec := []
  /-- 32 (13 R451). -/
  lastRound : Nat := 0
  /-- 3 (13 R451). -/
  lastOutcome : Nat := 0
  /-- 8 (13 R451). -/
  lastReasons : Nat := 0
  /-- 3, root_state (13 R446). -/
  root : RootState := .idle
  /-- the root's round (13 R446). -/
  rootRec : RootRec := {}
  /-- tick at which the root's wait ends (13 R446). -/
  recDue : Nat := 0
  /-- last 16 rounds at the root, newest first (13 R459). -/
  results : List RootRec := []
  /-- 32 (13 R446). -/
  nextRound : Nat := 1
deriving DecidableEq, Repr, Inhabited

/-- One key slot (R461). -/
structure KeySlot where
  /-- 8, type (14 R461). -/
  typ : Nat := 0
  /-- material in the order of R469, as numbers (14 R469). -/
  mat : List Nat := []
  /-- public part: EC Qx, Qy; RSA N, e (14 R462). -/
  pub : List Nat := []
  /-- 32 (14 R483). -/
  writes : Nat := 0
  /-- 96 (14 R483). -/
  writtenAt : Time96 := {}
deriving DecidableEq, Repr, Inhabited

/-- A key-store mirror write under way (R463). -/
structure KeyWrite where
  /-- slots and their new contents (14 R484). -/
  slots : Tbl KeySlot := []
  /-- the command it answers; none for a cookie rotation (14 R463). -/
  wait : Option Wait := none
  /-- 1: a cookie rotation (09 R276). -/
  rotation : Bool := false
  /-- tick before which it cannot end: the public point is being computed (14 R485). -/
  ready : Nat := 0
deriving DecidableEq, Repr, Inhabited

/-- The key store (R461-R469). -/
structure KeysS where
  /-- 256 slots in secure SRAM (14 R461). -/
  slot : Tbl KeySlot := []
  /-- the flash mirror in force; none: neither copy authenticates (14 R463). -/
  mirror : Option (Tbl KeySlot) := some []
  /-- 1: the mirror salt is held (14 R466). -/
  salt : Bool := true
  /-- 1: physical erase of the mirror pending (14 R466). -/
  erase : Bool := false
  /-- writes under way or waiting, in order (14 R463). -/
  writes : List KeyWrite := []
  /-- keys in the symmetric engine's cache (14 R480). -/
  cache : Tbl KeySlot := []
deriving DecidableEq, Repr, Inhabited

/-- One big-number operation (R471-R477). -/
structure BnJob where
  /-- the BN_OP it answers (14 R471). -/
  wait : Wait := {}
  /-- the operand block (14 R489). -/
  operands : Nat := 0
  /-- t_s, tick (14 R473). -/
  t0 : Nat := 0
  /-- tick of release (14 R473). -/
  release : Nat := 0
  /-- 1: not finished at t_s + t_op (14 R473). -/
  overtime : Bool := false
deriving DecidableEq, Repr, Inhabited

/-- One lane (R471-R473). -/
structure Lane where
  /-- the operation it runs (14 R471). -/
  job : Option BnJob := none
  /-- tick at which its zeroisation ends (14 R473). -/
  zeroDue : Option Nat := none
deriving DecidableEq, Repr, Inhabited

/-- The big-number engine and entropy (R470-R479). -/
structure BnS where
  /-- 1, bn_enabled (14 R492). -/
  enabled : Bool := false
  /-- 1 (14 R492). -/
  draining : Bool := false
  /-- four lanes (14 R471). -/
  lanes : Tbl Lane := []
  /-- up to 16 operations (14 R471). -/
  queue : List BnJob := []
  /-- 48, OPS_DONE (14 R492). -/
  opsDone : Nat := 0
  /-- 48, INVALID_INPUTS (14 R492). -/
  invalid : Nat := 0
  /-- 48, CHECK_FAILS (14 R492). -/
  checkFails : Nat := 0
  /-- 48, OVERTIME (14 R492). -/
  overtime : Nat := 0
  /-- 48, ABORTED (14 R492). -/
  aborted : Nat := 0
  /-- 1, entropy_ok (14 R492). -/
  entropyOk : Bool := true
  /-- generate requests since the last reseed, to 2^20 (14 R479). -/
  generates : Nat := 0
deriving DecidableEq, Repr, Inhabited

/-- One line of the repeat table (R500). -/
structure Repeat where
  /-- 3 (15 R500). -/
  region : Nat := 0
  /-- line index (15 R500). -/
  line : Nat := 0
  /-- 8 (15 R500). -/
  count : Nat := 0
  /-- tick of the last event (15 R500). -/
  last : Nat := 0
  /-- 1, the line is severe (15 R500). -/
  severe : Bool := false
deriving DecidableEq, Repr, Inhabited

/-- One retired page (R516). -/
structure Retired where
  /-- 32 (15 R516). -/
  page : Nat := 0
  /-- 8 (15 R516). -/
  cause : Nat := 0
  /-- 96 (15 R516). -/
  tickAt : Time96 := {}
deriving DecidableEq, Repr, Inhabited

/-- One flagged SRAM row (R518). -/
structure SramRow where
  /-- 4 (15 R518). -/
  array : Nat := 0
  /-- 8 (15 R518). -/
  bank : Nat := 0
  /-- 16 (15 R518). -/
  row : Nat := 0
  /-- 1 (15 R518). -/
  fused : Bool := false
  /-- 96 (15 R518). -/
  tickAt : Time96 := {}
deriving DecidableEq, Repr, Inhabited

/-- A host-triggered scrub (R514). -/
structure Scrub where
  /-- the command (15 R514). -/
  wait : Wait := {}
  /-- 8 (15 R514). -/
  region : Nat := 0
  /-- first line (15 R514). -/
  first : Nat := 0
  /-- lines to read (15 R514). -/
  count : Nat := 0
  /-- 32 (15 R514). -/
  corrected : Nat := 0
  /-- 32 (15 R514). -/
  ue : Nat := 0
  /-- 32 (15 R514). -/
  poisoned : Nat := 0
  /-- 32 (15 R514). -/
  sticky : Nat := 0
  /-- 32 each (15 R514). -/
  byDevice : Tbl Nat := []
  /-- offset of the first uncorrectable line (15 R514). -/
  firstUe : Option Nat := none
  /-- tick (15 R514). -/
  start : Nat := 0
deriving DecidableEq, Repr, Inhabited

/-- Health of one flash partition (R517). -/
structure FlashPart where
  /-- 16 (15 R517). -/
  maxCorrected : Nat := 0
  /-- 32 (15 R517). -/
  badBlocks : Nat := 0
  /-- 32 (15 R517). -/
  maxErase : Nat := 0
  /-- 96 (15 R517). -/
  lastScan : Time96 := {}
deriving DecidableEq, Repr, Inhabited

/-- One DRAM line as it is stored (R494, R495, R498, R510). -/
structure LineS where
  /-- 1: stored with the poison check pattern (15 R498). -/
  poison : Bool := false
  /-- symbols in error until the next write: (codeword 0-7, device 0-9) (15 R495). -/
  soft : List (Nat × Nat) := []
  /-- symbols whose cells fail after every write: (codeword, device) (15 R500). -/
  stuck : List (Nat × Nat) := []
  /-- symbols the flip mask inverted a bit of at the last write: (codeword, device) (15 R510, 16 R541). -/
  flipped : List (Nat × Nat) := []
  /-- 1: found uncorrectable already (15 R509). -/
  seen : Bool := false
deriving DecidableEq, Repr, Inhabited

/-- Memory protection (chapter 15). -/
structure MemS where
  /-- bytes of the 512 MiB window (region 3), canonical; unlisted reads 0 (15 R502). -/
  bytes : List Host.Cell := []
  /-- state of each line, by region * 2^32 + line; unlisted: region 3 poisoned, others clean (15 R502). -/
  lines : Tbl LineS := []
  /-- 4, erasure mark (15 R512). -/
  erasure : Option Nat := none
  /-- corrections of the last second: device, line key, tick (15 R496). -/
  recent : List (Nat × Nat × Nat) := []
  /-- repeat table of 1,024 lines (15 R500). -/
  repeats : List Repeat := []
  /-- retirement list, oldest first (15 R516). -/
  retired : List Retired := []
  /-- 1: the list awaits its flash copy (15 R501). -/
  retiredDirty : Bool := false
  /-- the flash copy of the list (15 R501, R507). -/
  retiredFlash : List Retired := []
  /-- 16, spare_free (15 R512). -/
  spare : Nat := 4096
  /-- pages awaiting retirement: page, cause (15 R501). -/
  toRetire : List (Nat × Nat) := []
  /-- flagged SRAM rows (15 R518). -/
  flagged : List SramRow := []
  /-- flash copy of the flagged rows (15 R506, R507). -/
  flaggedFlash : List SramRow := []
  /-- per-row classification: region = array, line = bank * 2^16 + row (15 R506). -/
  sramRepeat : List Repeat := []
  /-- table entries to be rewritten: array, table, index (15 R506). -/
  rewrites : List (Nat × Nat × Nat) := []
  /-- 96, last_patrol (15 R512). -/
  lastPatrol : Time96 := {}
  /-- next line the patrol reads (15 R509). -/
  patrolLine : Nat := 0
  /-- tick at which the patrol read its last line (15 R509). -/
  patrolAt : Nat := 0
  /-- 8, severe_n (15 R513). -/
  severeN : Nat := 4
  /-- 16, window_h (15 R513). -/
  windowH : Nat := 24
  /-- 16, patrol_h (15 R513). -/
  patrolH : Nat := 8
  /-- flash copy of severe_n, window_h and patrol_h (15 R507, R513). -/
  policyFlash : Nat × Nat × Nat := (4, 24, 8)
  /-- 144, flip-mask register (15 R510). -/
  flip : Nat := 0
  /-- SRAM words written under the flip mask: mask by array * 2^40 + bank * 2^32 + line (15 R510). -/
  flipped : Tbl Nat := []
  /-- the scrub running (15 R514). -/
  scrub : Option Scrub := none
  /-- 48 each: 0-10 as MEM_COUNTERS, 11-20 CE_BY_DEVICE (15 R515). -/
  counters : Tbl Nat := []
  /-- partitions 0-7 (15 R517). -/
  flash : Tbl FlashPart := []
  /-- spare rows left per array and bank (15 R505). -/
  sparesLeft : Tbl Nat := []
  /-- 1: fuses programmed since the last full reset (15 R520). -/
  fuseDone : Bool := false
deriving DecidableEq, Repr, Inhabited

/-- One fault-ledger record (R526). -/
structure Record where
  /-- 8 (16 R526). -/
  source : Nat := 0
  /-- 3 (16 R526). -/
  state : RecState := .free
  /-- 1 (16 R526). -/
  injected : Bool := false
  /-- 1 (16 R526). -/
  serviced : Bool := false
  /-- 1 (16 R526). -/
  coincident : Bool := false
  /-- 1 (16 R526). -/
  standing : Bool := false
  /-- 8 (16 R526). -/
  master : Nat := 0
  /-- 4 (16 R526). -/
  access : Nat := 0
  /-- 64 (16 R526). -/
  address : Nat := 0
  /-- 96 (16 R526). -/
  first : Time96 := {}
  /-- 96 (16 R526). -/
  last : Time96 := {}
  /-- 32, saturating (16 R526). -/
  count : Nat := 0
  /-- 8, window_count (16 R526). -/
  window : Nat := 0
  /-- 8, secondary_source (16 R526). -/
  secSource : Nat := 0
  /-- 8 (16 R526). -/
  secondaries : Nat := 0
  /-- 8 (16 R526). -/
  linked : Nat := 255
  /-- 96, secondary_first (16 R526). -/
  secFirst : Time96 := {}
  /-- order of opening (16 R530). -/
  opened : Nat := 0
  /-- tick of the first event (16 R530). -/
  firstTick : Nat := 0
  /-- tick of the latest event (16 R527). -/
  lastTick : Nat := 0
  /-- tick of the servicing (16 R527). -/
  servicedAt : Nat := 0
  /-- tick at which the quiet period ends (16 R527). -/
  quietDue : Nat := 0
deriving DecidableEq, Repr, Inhabited

/-- The status entry of a source whose episode found no record (R531). -/
structure Entry where
  /-- 1: severe; drives FAULT_N (16 R531). -/
  severe : Bool := false
  /-- 1: of injected events (16 R540). -/
  injected : Bool := false
  /-- 32, events of the episode (16 R531). -/
  count : Nat := 0
  /-- 8, window count (16 R531). -/
  window : Nat := 0
  /-- 96, first event that found no record (16 R531). -/
  first : Time96 := {}
  /-- 96, latest event (16 R531). -/
  last : Time96 := {}
  /-- tick of the latest event (16 R531). -/
  lastTick : Nat := 0
deriving DecidableEq, Repr, Inhabited

/-- One fault source's policy, count and status (R522, R524, R547). -/
structure SrcS where
  /-- 8, N set by FAULT_POLICY_SET; none: default (16 R550). -/
  n : Option Nat := none
  /-- 32, window set by FAULT_POLICY_SET; none: default (16 R550). -/
  windowS : Option Nat := none
  /-- 48, events since the last full reset, real and injected (16 R547). -/
  events : Nat := 0
  /-- latest record index (16 R547). -/
  latest : Option Nat := none
  /-- 1: its condition stands (16 R523). -/
  standing : Bool := false
  /-- count of R524, real events (16 R524). -/
  count : Nat := 0
  /-- tick of the last real event (16 R524). -/
  lastAt : Option Nat := none
  /-- count of R524, injected events (16 R540). -/
  countInj : Nat := 0
  /-- tick of the last injected event (16 R540). -/
  lastInjAt : Option Nat := none
  /-- status entry (16 R531). -/
  entry : Option Entry := none
deriving DecidableEq, Repr, Inhabited

/-- Fault collection (chapter 16). -/
structure FltS where
  /-- 64 records (16 R526). -/
  records : Tbl Record := []
  /-- per source code (16 R522). -/
  src : Tbl SrcS := []
  /-- 16, quiet period (16 R527). -/
  quietS : Nat := 10
  /-- 1, FROZEN (16 R532). -/
  frozen : Bool := false
  /-- 1, TAKEOVER_SEEN (W1C) (16 R532). -/
  takeoverSeen : Bool := false
  /-- 1: FAULT_N driven low (16 R529). -/
  faultN : Bool := false
  /-- 16, RECOVERIES (16 R532). -/
  recoveries : Nat := 0
  /-- 48, LEDGER_FULL (16 R547). -/
  ledgerFull : Nat := 0
  /-- 16, takeovers since the last full reset (16 R547). -/
  takeovers : Nat := 0
  /-- order of opening of the next record (16 R530). -/
  nextOpen : Nat := 0
  /-- record holding the takeover (16 R537). -/
  takeRec : Option Nat := none
  /-- tick of the takeover whose firmware has not started (16 R534). -/
  takeAt : Option Nat := none
  /-- source of the last takeover (16 R535). -/
  takeSource : Nat := 0
  /-- tick at which the last takeover's firmware started (16 R538). -/
  takeStart : Option Nat := none
  /-- consecutive takeovers (16 R538). -/
  consec : Nat := 0
  /-- 1: core pair held in reset (16 R538). -/
  held : Bool := false
  /-- 1: the bank check is due (16 R537). -/
  checkDue : Bool := false
  /-- 1: a bank check failed since the last full reset; FROZEN stays (16 R537). -/
  checkFailed : Bool := false
  /-- ticks of exceptions of the last 10 ms (16 R534). -/
  excs : List Nat := []
  /-- injected events to come: tick, source, master, access, address, left (16 R554). -/
  injects : List (Nat × Nat × Nat × Nat × Nat × Nat) := []
  /-- SENTINEL_TAKEOVER events to post when firmware runs (16 R535). -/
  toPost : List Event := []
deriving DecidableEq, Repr, Inhabited

/-- One Midwinter record (header and bytes) (R542, R551). -/
structure MidRec where
  /-- 32, record_seq (16 R542). -/
  seq : Nat := 0
  /-- 96 (16 R542). -/
  taken : Time96 := {}
  /-- 8 (16 R542). -/
  cause : Nat := 0
  /-- 1 (16 R542). -/
  injected : Bool := false
  /-- 1 (16 R542). -/
  truncated : Bool := false
  /-- 1 (16 R542). -/
  incomplete : Bool := false
  /-- 32 (16 R542). -/
  fwVersion : Nat := 0
  /-- 64, stored_bytes (16 R551). -/
  bytes : Nat := 0
  /-- 1 (16 R551). -/
  released : Bool := false
deriving DecidableEq, Repr, Inhabited

/-- The three Midwinter locations (R542-R545). -/
structure MidS where
  /-- location 0 DRAM region 2, 1 and 2 the flash slots (16 R545). -/
  loc : Tbl MidRec := []
  /-- 32, MIDWINTER_OVERWRITTEN, saturating (16 R551). -/
  overwritten : Nat := 0
  /-- 32, next record_seq (16 R542). -/
  nextSeq : Nat := 1
  /-- 1: the flash copy is still to be written (16 R544). -/
  copyDue : Bool := false
  /-- released flash slots to be erased (16 R545). -/
  erase : List Nat := []
deriving DecidableEq, Repr, Inhabited

/-- Flash or key-store work that a supply warning suspends (17_power_and_start.md R559, R560). -/
inductive FlashWork where
  /-- A command that waits to be executed when the warning ends. -/
  | command (w : Wait)
  | midwinter
  | slotErase (slot : Nat)
  | position
  /-- Rewriting a page of a flash partition (15_stored_data_protection.md R508). -/
  | refresh (part : Nat)
  /-- The 12 V warning level of `PLAT_SUPPLY_SET` (R571). -/
  | warnLevel
  /-- The memory policy of `MEM_POLICY_SET` (15_stored_data_protection.md R513). -/
  | memPolicy
  /-- The record of the flagged SRAM rows (R506). -/
  | rows
deriving DecidableEq, Repr, Inhabited

/-- Platform (chapter 17). -/
structure PlatS where
  /-- 1: standby input present (17 R556). -/
  standby : Bool := true
  /-- 1: PWR_OK level (17 R558). -/
  pwrOk : Bool := false
  /-- 1: RESET_N high (17 R558). -/
  resetN : Bool := true
  /-- 1: PERST_N released (17 R558). -/
  perst : Bool := false
  /-- 1, PCIE_UP (12 R384). -/
  pcieUp : Bool := false
  /-- generation the link has trained to, 1-4; 0 while it is down (12 R380). -/
  pcieGen : Nat := 0
  /-- lanes the link has trained to, 1, 2 or 4; 0 while it is down (12 R380). -/
  pcieWidth : Nat := 0
  /-- 1, SERVICE as sampled (12 R405). -/
  service : Bool := false
  /-- 1, FACTORY_TEST as sampled (12 R405). -/
  factoryTest : Bool := false
  /-- 1, SUPPLY_WARN (17 R559). -/
  warn : Bool := false
  /-- 4: rails now below warning, bit per code (17 R570). -/
  warnRails : Nat := 1
  /-- tick of the set of the episode (17 R560). -/
  warnTick : Nat := 0
  /-- tick since which every rail is above warning and PWR_OK high (17 R560). -/
  clearAt : Option Nat := none
  /-- 48, SUPPLY_EVENTS (17 R570). -/
  supplyEvents : Nat := 0
  /-- ticks with SUPPLY_WARN standing in ended episodes: SUPPLY_WARN_MS counts their ms (17 R570). -/
  warnTicks : Nat := 0
  /-- 96, last_warn (17 R570). -/
  lastWarn : Time96 := {}
  /-- 16, warn_mv (17 R571). -/
  warnMv : Nat := 11000
  /-- 16, warn_mv held in flash (17 R571). -/
  warnMvFlash : Nat := 11000
  /-- 16, v12_mv (17 R570). -/
  v12 : Nat := 0
  /-- 16, v12_min_mv (RC); none reads 0: cleared, and no reading since (17 R570). -/
  v12Min : Option Nat := none
  /-- 16, lowest 12 V reading of the episode (17 R574). -/
  v12Ep : Nat := 0
  /-- 16 signed, vcore_pm (17 R570). -/
  vcore : Int := 0
  /-- 16 signed, vcore_min_pm (RC); none reads 0: cleared, and no reading since (17 R570). -/
  vcoreMin : Option Int := none
  /-- 16 signed, lowest core reading of the episode (17 R574). -/
  vcoreEp : Int := 0
  /-- 16, vsb_mv (17 R570). -/
  vsb : Nat := 3300
  /-- 16 signed, lowest DRAM rail, 0.1% of nominal (17 R557). -/
  vdram : Int := 0
  /-- 16 signed, 1/256 C (17 R570). -/
  tcase : Int := 6400
  /-- 16 signed, 1/256 C (17 R570). -/
  tjMax : Int := 6400
  /-- 32, input_mw (17 R570). -/
  inputMw : Nat := 0
  /-- 5, march_step: step in progress, 1-24; 25 complete; 0 not started (17 R570). -/
  step : Nat := 0
  /-- steps completed (17 R573). -/
  stepsDone : Nat := 0
  /-- tick at which the step in progress started (17 R565). -/
  stepAt : Nat := 0
  /-- tick of T0 of the start-up table (17 R565). -/
  marchT0 : Nat := 0
  /-- done_us per step (17 R573). -/
  doneUs : Tbl Nat := []
  /-- tick at which the standby input rose (18 R584). -/
  standbyAt : Nat := 0
  /-- 1: held by a thermal trip (17 R564). -/
  hot : Bool := false
  /-- 1: a supply reset awaits its restart conditions (17 R564). -/
  supplyWait : Bool := false
  /-- 8, start_reason of PLAT_MARCH_LOG (17 R573). -/
  marchReason : Nat := 0
  /-- 1, fallback of PLAT_MARCH_LOG (17 R573). -/
  marchFallback : Bool := false
  /-- held in reset by this cause; none: not held (17 R562). -/
  inReset : Option ResetCause := none
  /-- tick since which 12 V is above its warning level (17 R564). -/
  above12At : Option Nat := none
  /-- tick of the last full reset instant (17 R564). -/
  resetAt : Nat := 0
  /-- 1: the oven heater has stayed on (17 R565). -/
  ovenHot : Bool := false
  /-- flash and key-store work suspended, in order (17 R560). -/
  flashWork : List FlashWork := []
deriving DecidableEq, Repr, Inhabited

/-- What the egress pass does to the UDP checksum of a frame whose field it writes (03_time_base_and_stamps.md R59, R60). -/
inductive Csum where
  /-- Left as it is: nothing is written, or the frame carries no UDP. -/
  | kept
  /-- Set to zero: UDP over IPv4 corrected on the fly. -/
  | zero
  /-- The two-octet compensation trailer is corrected: UDP over IPv6 corrected on the fly. -/
  | trailer
  /-- Completed by the egress checksum unit: the booked path. -/
  | completed
deriving DecidableEq, Repr, Inhabited

/-- What kind of frame an `Out.frame` shows. -/
inductive FrameOut where
  /-- A domain frame of the given kind byte (07_timing_domain.md R185). -/
  | domain (kind : Nat)
  /-- A MAC control frame (10_port_macs.md R322). -/
  | pause
  /-- The ordered set that answers a detected Local Fault (10_port_macs.md R304). -/
  | remoteFault
  /-- What answers a received Remote Fault (10_port_macs.md R304). -/
  | idle
  /-- What one segment of a TSO send changes in its headers; port 56 is H (10_port_macs.md R324). -/
  | tso
  /-- The checksums computed for a send from H: the IPv4 header's, 0 over IPv6, and the TCP or UDP one (10_port_macs.md R323). -/
  | csum
  | verify
  | respond
  | esmc
  /-- A PTP message of the given messageType. -/
  | ptp (messageType : Nat)
  | ntp
  | nts
  | arp
  /-- A cue frame launched at its instant. -/
  | cue
  /-- The trailer of a mirrored copy; port 56 is H (11_switch_core.md R362). -/
  | mirror
deriving DecidableEq, Repr, Inhabited

/-- Which ring an `Out.record` is written to. -/
inductive RingOut where
  /-- Transmit stamp ring (03_time_base_and_stamps.md R62). -/
  | stamps
  /-- Capture ring (08_cues.md R235). -/
  | capture
  /-- Host transmit ring r, a completion (10_port_macs.md R323). -/
  | hostTx (r : Nat)
  /-- Host receive ring r (R325). -/
  | hostRx (r : Nat)
deriving DecidableEq, Repr, Inhabited

/-- What the part shows outside itself, in the order it shows it: the model's own trace (a log entry
names it), no register of the part. -/
inductive Out where
  /-- An MSI-X vector signalled (12_command_interface.md R386): the message's address, 64 bits, and data, 32 bits, as its table
  entry holds them. -/
  | vector (k message : Nat)
  /-- The completion of a host read of BAR0 over PCIe: offset, bytes, data (R385). -/
  | bar0 (offset size data : Nat)
  /-- The data bytes driven on SPI_MISO after the dummy byte of a read; none of a transaction that leaves it high-impedance (R382). -/
  | miso (data : List Nat)
  /-- The value an RC register read returned, by BAR0 offset (R10, R384). -/
  | read (offset value : Nat)
  /-- A frame sent whole by a port: port index, what it is, its fields. -/
  | frame (port : Nat) (what : FrameOut) (fields : Fields)
  /-- A frame of the switch core leaving on a port: the copy's identity, bytes, egress stamp,
  whether it ended with an inverted FCS, the field written into it, what became of its UDP checksum, the VID and PCP of the tag
  it left with (11_switch_core.md R340), and, where it left marked CE, its IPv4 header checksum, 0 over IPv6 (R360). -/
  | egress (port id : Nat) (len : Nat) (stamp : Time96) (badFcs : Bool) (field : Int) (csum : Csum) (tag : Option (Nat × Nat))
    (ce : Option Nat)
  /-- A write into host memory or host-visible DRAM by one of the part's rings: which, record index, record. -/
  | record (ring : RingOut) (index : Nat) (fields : Fields)
  /-- A timing output's edge: output, level, instant on the time base in 2^-16 ns. -/
  | edge (output : Nat) (level : Bool) (instant : Int)
  /-- Characters sent on TOD_TX. -/
  | serial (chars : List Nat)
  /-- The completion of a host read of BAR2: offset, the EP bit, the data (15_stored_data_protection.md R504). -/
  | bar2 (offset : Nat) (poisoned : Bool) (data : Nat)
  /-- Bytes written to host memory by DMA: address, source, length. -/
  | dma (addr source length : Nat)
  /-- A result written to host memory: address, bytes, value. -/
  | hostWrite (addr length value : Nat)
deriving DecidableEq, Repr, Inhabited

/-- The state of the block: every register, table, queue, counter, mode and pin the manual gives it. -/
structure State where
  /-- the time base (03 R41-R48). -/
  time : TimeS := {}
  /-- the leap table and UTC offset (03 R49-R52). -/
  leap : LeapS := {}
  /-- the snapshot registers (03 R66). -/
  snap : SnapS := {}
  /-- the transmit stamp ring (03 R62). -/
  stamps : StampRing := {}
  /-- pace monitors (02 R33-R38). -/
  pace : PaceS := {}
  /-- mailboxes and the command path (12 R384-R396). -/
  tci : TciS := {}
  /-- interrupt registers (12 R384, R386). -/
  intr : IntrS := {}
  /-- the event ring (12 R397, R398). -/
  evt : EvtS := {}
  /-- the attended window and PRESENT_N (12 R402-R404). -/
  win : WinS := {}
  /-- the seal loop (12 R406-R408). -/
  sealLoop : SealS := {}
  /-- in-band TCI (12 R409-R412). -/
  inb : InbS := {}
  /-- firmware, images and start (17 R563-R568). -/
  fw : FwS := {}
  /-- the measurement bank (chapter 04). -/
  meas : MeasS := {}
  /-- oven and clean-up PLL (04 R96, R97). -/
  ocxo : OcxoS := {}
  /-- reference slots 0-7 (05 R108). -/
  refs : Tbl RefS := []
  /-- the selector and the loop (05 R121-R136). -/
  sel : SelS := {}
  /-- holdover learning (05 R128). -/
  hold : HoldS := {}
  /-- outputs TOUT0-TOUT7 and TOD_TX (8) (05 R137). -/
  outs : Tbl OutS := []
  /-- the satellite receiver (chapter 06). -/
  gnss : GnssS := {}
  /-- this device's place in the domain (07 R199). -/
  dom : DomS := {}
  /-- the cue engine (chapter 08). -/
  cue : CueS := {}
  /-- the capture ring (08 R234-R236). -/
  cap : CapS := {}
  /-- the time-service engine (chapter 09). -/
  ts : TsS := {}
  /-- network ports 0-55 (chapter 10). -/
  ports : Tbl PortS := []
  /-- host port H (10 R323). -/
  host : HostS := {}
  /-- the switch core (chapter 11). -/
  sw : SwS := {}
  /-- the configuration banks (chapter 13). -/
  banks : BankS := {}
  /-- domain-wide rounds (13 R440-R448). -/
  rnd : RndS := {}
  /-- the key store (14 R461). -/
  keys : KeysS := {}
  /-- the big-number engine and entropy (14 R470). -/
  bn : BnS := {}
  /-- memory protection (chapter 15). -/
  mem : MemS := {}
  /-- fault collection (chapter 16). -/
  flt : FltS := {}
  /-- the Midwinter locations (16 R542). -/
  mid : MidS := {}
  /-- platform (chapter 17). -/
  plat : PlatS := {}
  /-- MODEL: what the part has shown outside, newest first (model). -/
  trace : List Out := []
  /-- MODEL: counter of free values drawn (model). -/
  free : Nat := 0
  /-- MODEL: commands waiting, first in first out (model). -/
  pending : List Instr := []
deriving DecidableEq, Repr, Inhabited

/-- Why a step stops with a fault. -/
inductive Fault where
  /-- Raised by the events of a unit when the command's operand names a unit the manual does not give the part
  (port 56 and above, reference 8 and above, and so on): no such event exists. Safe. -/
  | noSuchUnit
deriving DecidableEq, Repr

/-- Why a command has no meaning. -/
inductive Refusal where
  /-- Raised only by an arm of `exec` whose command has no meaning yet. Safe. -/
  | notModelled (mnemonic : String)
deriving DecidableEq, Repr

/-- The part right after a power-on reset (17_power_and_start.md R562): every field at the value its docstring's
rule gives for reset, or at the value a log entry names; nothing waits. -/
def State.reset : State := {}

end Sys2Proof.Machine
end

