-- ==== Sys2Proof/Machine/Ops.lean ====
section
/-!
DEFINITION. The named operations every meaning is written over: sparse tables, message fields, byte strings, TIME96
values, counters, and the accessors of the state's tables. A table entry not listed reads as its reset value.
-/
namespace Sys2Proof

/-- What a table holds under a key. -/
def Tbl.get? {α : Type} : Tbl α → Nat → Option α
  | [], _ => none
  | (k, v) :: rest, key => if k = key then some v else Tbl.get? rest key

/-- What a table holds under a key, or what an unlisted key holds. -/
def Tbl.getD {α : Type} (t : Tbl α) (key : Nat) (d : α) : α := (Tbl.get? t key).getD d

/-- The table with an entry written: keys stay strictly rising. -/
def Tbl.put {α : Type} : Tbl α → Nat → α → Tbl α
  | [], key, v => [(key, v)]
  | (k, w) :: rest, key, v =>
    if key < k then (key, v) :: (k, w) :: rest
    else if key = k then (key, v) :: rest
    else (k, w) :: Tbl.put rest key v

/-- The table with an entry removed. -/
def Tbl.erase {α : Type} (t : Tbl α) (key : Nat) : Tbl α := t.filter (fun e => e.1 ≠ key)

/-- The table with one entry changed by `f`, an unlisted one from `d`. -/
def Tbl.upd {α : Type} (t : Tbl α) (key : Nat) (d : α) (f : α → α) : Tbl α := t.put key (f (t.getD key d))

/-- Every listed entry changed by `f`. -/
def Tbl.mapVal {α β : Type} (t : Tbl α) (f : α → β) : Tbl β := t.map (fun e => (e.1, f e.2))

/-- Strictly rising keys: the one canonical form of a table. -/
def Tbl.sorted {α : Type} : Tbl α → Bool
  | [] => true
  | (k, _) :: rest => rest.all (fun e => decide (k < e.1)) && Tbl.sorted rest

/-! ### Message fields -/

/-- Total width of a field list. -/
def Fields.size : Fields → Nat
  | [] => 0
  | (w, _) :: rest => w + Fields.size rest

/-- The bits of a field list, first field lowest, each value cut to its width. -/
def Fields.pack : Fields → Nat
  | [] => 0
  | (w, v) :: rest => v % 2 ^ w + Fields.pack rest <<< w

/-- Payload bytes of a response: whole 32-bit words (12_command_interface.md R389). -/
def Fields.bytes (f : Fields) : Nat := (Fields.size f + 31) / 32 * 4

/-- A one-bit field. -/
def fb (b : Bool) : Nat × Nat := (1, b.toNat)
/-- A signed field. -/
def fi (w : Nat) (x : Int) : Nat × Nat := (w, ofSigned w x)
/-- Reserved bits of a response (R6): they carry 0. -/
def rz (w : Nat) : Nat × Nat := (w, 0)

/-- The rounded width of an event field (R399). -/
def eventWidth (w : Nat) : Nat :=
  if w ≤ 8 then 8 else if w ≤ 16 then 16 else if w ≤ 32 then 32 else if w = 96 then 96 else if w ≤ 64 then 64 else w

/-- Where an event field starts (R399): a multiple of its rounded width, of 32 for a TIME96 value. -/
def eventAlign (w : Nat) : Nat := if w = 96 then 32 else if w ≤ 64 then eventWidth w else 8

/-- The payload bits of an event from its fields, each aligned by R399. -/
def eventPack : Nat → Fields → Nat
  | _, [] => 0
  | start, (w, v) :: rest =>
    let a := eventAlign w
    let lo := (start + a - 1) / a * a
    (v % 2 ^ w) <<< lo + eventPack (lo + eventWidth w) rest

/-- Payload bytes of an event from its fields (R399). -/
def eventBytes : Nat → Fields → Nat
  | start, [] => (start + 7) / 8
  | start, (w, _) :: rest =>
    let a := eventAlign w
    eventBytes ((start + a - 1) / a * a + eventWidth w) rest

/-- `n` bytes of a number, byte 0 in bits 7..0 (00_scope.md R5). -/
def toBytes : Nat → Nat → List Nat
  | 0, _ => []
  | n + 1, x => x % 256 :: toBytes n (x / 256)

/-- A number from bytes, least significant first. -/
def ofBytes : List Nat → Nat
  | [] => 0
  | b :: rest => b % 256 + 256 * ofBytes rest

/-- `n` bytes of a number, most significant first (fields inside frames, R5). -/
def toBytesBE (n x : Nat) : List Nat := (toBytes n x).reverse

/-- A number from bytes, most significant first. -/
def ofBytesBE (l : List Nat) : Nat := l.foldl (fun a b => a * 256 + b % 256) 0

/-- The bytes of a field in the opposite order: a multi-byte field of a frame is big-endian on the wire (R5). -/
def swapBytes (w x : Nat) : Nat := ofBytesBE (toBytes (w / 8) x)

/-- The bits of a frame's fields on the wire, counted from its first byte (07_timing_domain.md R185): a number of 16 to 96
bits is big-endian; a bit field, a bit map and a run of bytes lie as they are numbered. -/
def Fields.wire : Fields → Nat
  | [] => 0
  | (w, v) :: rest => (if [16, 32, 48, 64, 96].contains w then swapBytes w v else v % 2 ^ w) + Fields.wire rest <<< w

/-- The bytes of a frame's fields on the wire. -/
def Fields.wireBytes (f : Fields) : List Nat := toBytes ((Fields.size f + 7) / 8) (Fields.wire f)

/-- A big-endian field of a frame: `w` bits from bit `lo` of its wire bits. -/
def wireField (x lo w : Nat) : Nat := swapBytes w (bits x lo w)

/-- Wire bytes relayed as they are. -/
def rawFields (n x : Nat) : Fields := (toBytes n x).map (fun b => (8, b))

/-- Is bit `k` of `x` set. -/
def bit (x k : Nat) : Bool := bits x k 1 == 1

/-- `x` with bits `[lo + w - 1 : lo]` replaced by `v`. -/
def setBits (x lo w v : Nat) : Nat := x - (bits x lo w) <<< lo + (v % 2 ^ w) <<< lo

/-- The set bits of `x` below `n`, ascending. -/
def bitList (x n : Nat) : List Nat := (List.range n).filter (bit x)

/-- The mask with the bits of a list of distinct numbers set. -/
def maskOf (l : List Nat) : Nat := l.foldl (fun a k => a ||| 2 ^ k) 0

/-- Signed value clamped to a range. -/
def clamp (lo hi x : Int) : Int := max lo (min hi x)

/-- Nearest integer of a quotient, a half away from zero. -/
def divNear (a : Int) (b : Nat) : Int :=
  if a ≥ 0 then (2 * a + b) / (2 * b) else -((-(2 * a) + b) / (2 * b))

/-- Nearest integer of a rational, a half away from zero. -/
def ratNear (q : Rat) : Int := divNear q.num q.den

/-- An optional entry of a list by index. -/
def nth {α : Type} : List α → Nat → Option α
  | [], _ => none
  | a :: _, 0 => some a
  | _ :: l, n + 1 => nth l n

/-- `l` with the entry at an index replaced. -/
def setNth {α : Type} : List α → Nat → α → List α
  | [], _, _ => []
  | _ :: l, 0, a => a :: l
  | b :: l, n + 1, a => b :: setNth l n a

/-- TIME96 as one number of units of 2^-16 ns (00_scope.md R7). -/
def Time96.units (t : Time96) : Int := (((t.sec * 1000000000 + t.ns) * 65536 + t.sub : Nat) : Int)

/-- TIME96 from units of 2^-16 ns; the seconds count is 48 bits. -/
def Time96.ofUnits (u : Int) : Time96 :=
  let n := (u % (2 ^ 48 * 1000000000 * 65536)).toNat
  { sec := n / 65536 / 1000000000, ns := n / 65536 % 1000000000, sub := n % 65536 }

/-- The 96-bit word of a TIME96 value (R7). -/
def Time96.word (t : Time96) : Nat := t.sub % 65536 + (t.ns % 2 ^ 32) <<< 16 + (t.sec % 2 ^ 48) <<< 48

/-- A TIME96 value from its 96-bit word (R7). -/
def Time96.ofWord (x : Nat) : Time96 := { sec := bits x 48 48, ns := bits x 16 32, sub := bits x 0 16 }

/-- Is a 96-bit word a TIME96 value the part accepts (R8). -/
def Time96.legal (x : Nat) : Bool := decide (bits x 16 32 ≤ 999999999)

/-- A TIME96 field. -/
def ft (t : Time96) : Nat × Nat := (96, t.word)

/-- Ticks in a microsecond, a millisecond, a second: the tick is 4 ns (03_time_base_and_stamps.md). -/
def tickUs : Nat := 250
def tickMs : Nat := 250000
def tickS : Nat := 250000000
/-- Units of 2^-16 ns in a nanosecond, a microsecond, a millisecond, a second. -/
def uNs : Int := 65536
def uUs : Int := 65536000
def uMs : Int := 65536000000
def uS : Int := 65536000000000

/-- A phase given in ps as units of 2^-16 ns, rounded to nearest (R54). -/
def psUnits (ps : Int) : Int := divNear (ps * 65536) 1000

/-! ### Byte memory -/

/-- The byte at an address: an unlisted address reads 0. -/
def Memory.read : List Host.Cell → Nat → BitVec 8
  | [], _ => 0
  | (k, w) :: rest, a => if k = a then w else Memory.read rest a

/-- One byte written: addresses stay strictly rising and no 0 is listed. -/
def Memory.write : List Host.Cell → Nat → BitVec 8 → List Host.Cell
  | [], a, v => if v = 0 then [] else [(a, v)]
  | (k, w) :: rest, a, v =>
    if a < k then (if v = 0 then (k, w) :: rest else (a, v) :: (k, w) :: rest)
    else if a = k then (if v = 0 then rest else (a, v) :: rest)
    else (k, w) :: Memory.write rest a v

/-- Bytes written from an address up. -/
def Memory.writeAll : List Host.Cell → Nat → List Nat → List Host.Cell
  | m, _, [] => m
  | m, a, b :: rest => Memory.writeAll (Memory.write m a (BitVec.ofNat 8 b)) (a + 1) rest

/-- Bytes `[lo, hi)` zeroed. -/
def Memory.clear (m : List Host.Cell) (lo hi : Nat) : List Host.Cell := m.filter (fun c => c.1 < lo || hi ≤ c.1)

/-- `n` bytes read from an address up. -/
def Memory.readAll (m : List Host.Cell) (a : Nat) : Nat → List Nat
  | 0 => []
  | n + 1 => (Memory.read m a).toNat :: Memory.readAll m (a + 1) n

/-- The canonical form: strictly rising addresses, no byte listed that an unlisted address reads as. -/
def Memory.wf : List Host.Cell → Bool
  | [] => true
  | (k, w) :: rest => w != 0 && rest.all (fun c => decide (k < c.1)) && Memory.wf rest

/-! ### Requests -/

/-- The payload bits a request really carries. -/
def Req.body (q : Req) : Nat := q.payload % 2 ^ (8 * q.len)

/-- Bits `[lo + w - 1 : lo]` of a request's payload. -/
def Req.f (q : Req) (lo w : Nat) : Nat := bits q.payload lo w
/-- A signed field of a request's payload. -/
def Req.i (q : Req) (lo w : Nat) : Int := toSigned w (bits q.payload lo w)
/-- One bit of a request's payload. -/
def Req.b (q : Req) (lo : Nat) : Bool := bit q.payload lo
/-- `n` bytes of a request's payload from bit `lo`. -/
def Req.bytes (q : Req) (lo n : Nat) : List Nat := toBytes n (q.payload >>> lo)

namespace Machine

/-! ### The state's tables -/

/-- Port `p`. -/
def State.port (s : State) (p : Nat) : PortS := Tbl.getD s.ports p {}
/-- The state with port `p` replaced. -/
def State.setPort (s : State) (p : Nat) (x : PortS) : State := { s with ports := Tbl.put s.ports p x }
/-- The state with port `p` changed. -/
def State.updPort (s : State) (p : Nat) (f : PortS → PortS) : State := s.setPort p (f (s.port p))
/-- Reference `r`. -/
def State.ref (s : State) (r : Nat) : RefS := Tbl.getD s.refs r {}
/-- The state with reference `r` changed. -/
def State.updRef (s : State) (r : Nat) (f : RefS → RefS) : State := { s with refs := Tbl.put s.refs r (f (s.ref r)) }
/-- Output `o`. -/
def State.output (s : State) (o : Nat) : OutS := Tbl.getD s.outs o {}
/-- The state with output `o` changed. -/
def State.updOut (s : State) (o : Nat) (f : OutS → OutS) : State := { s with outs := Tbl.put s.outs o (f (s.output o)) }
/-- Measurement channel `c`. -/
def State.chan (s : State) (c : Nat) : Channel := Tbl.getD s.meas.ch c {}
/-- The state with channel `c` changed. -/
def State.updChan (s : State) (c : Nat) (f : Channel → Channel) : State :=
  { s with meas := { s.meas with ch := Tbl.put s.meas.ch c (f (s.chan c)) } }
/-- Mailbox `k`. -/
def State.mailbox (s : State) (k : Nat) : Mailbox := Tbl.getD s.tci.mbx k {}
/-- The state with mailbox `k` changed. -/
def State.updMailbox (s : State) (k : Nat) (f : Mailbox → Mailbox) : State :=
  { s with tci := { s.tci with mbx := Tbl.put s.tci.mbx k (f (s.mailbox k)) } }

/-- Show something outside the part. -/
def State.emit (s : State) (o : Out) : State := { s with trace := o :: s.trace }

/-- Draw a free value of width `w` (log entry 3). -/
def State.draw (s : State) (w : Nat) : Nat × State := ((Config.freeValue w s.free).toNat, { s with free := s.free + 1 })

/-- Draw from the DRBG, whose requests are counted to its next reseed (14_keys_and_big_numbers.md R479). -/
def State.entropy (s : State) (w : Nat) : Nat × State :=
  ({ s with bn := { s.bn with generates := (s.bn.generates + 1) % 2 ^ 20 } }).draw w

end Machine
end Sys2Proof
end

