-- ==== Sys2Proof/Machine/Clock.lean ====
section
/-!
DEFINITION. The time base: its counter, frequency adjustment, slews and steps (03_time_base_and_stamps.md R41 to R51),
and the passing of time. The counter, the fraction and the dither accumulator together are one number in units of
2^-56 ns, to which each tick adds the 2^-56 ns total of R43: the first-order sigma-delta sequence of R42 is its carry.
-/
namespace Sys2Proof.Machine

/-- Units of 2^-56 ns in a second. -/
def u56S : Nat := 1000000000 * 2 ^ 56

/-- The 2^-56 ns total one tick adds at frequency adjustment `y` fs/s (R43). -/
def tickTotal (y : Int) : Nat := (divNear (2 ^ 58 * (1000000000000000 + y)) 1000000000000000).toNat

/-- The limit of a frequency adjustment, 200 ppm (R43). -/
def freqLimit : Int := 200000000000

/-- The time base as one number in units of 2^-56 ns. -/
def TimeS.raw56 (t : TimeS) : Nat := ((t.sec * 1000000000 + t.ns) * 2 ^ 40 + t.frac) * 65536 + t.dacc

/-- The time base with its reading replaced (modulo 2^48 s). -/
def TimeS.setRaw56 (t : TimeS) (v : Int) : TimeS :=
  let n := (v % ((2 ^ 48 * u56S : Nat) : Int)).toNat
  { t with sec := n / u56S, ns := n / 2 ^ 56 % 1000000000, frac := n / 65536 % 2 ^ 40, dacc := n % 65536 }

/-- The adjustment in force while a slew runs: y plus the slope, held within ±200 ppm (R44, R45). -/
def TimeS.slewedFreq (t : TimeS) : Int := clamp (-freqLimit) freqLimit (t.freqAdj + t.slew.slope * 1000000)

/-- The registers `INC` and `DITHER` for the adjustment in force (R43). -/
def TimeS.loadInc (t : TimeS) : TimeS :=
  let total := tickTotal (if t.slew.active then t.slewedFreq else t.freqAdj)
  { t with inc := total / 65536, dither := total % 65536 }

/-- `n` ticks of the time base: the increment on every tick, and a slew's extra until it has delivered its
adjustment, the last tick carrying a partial increment (R41, R42, R45). While the tick stands still the raw tick index stands
still too (04_interval_measurement.md R82). -/
def TimeS.advance (n : Nat) (t : TimeS) : TimeS :=
  if t.counting then
    let base : Int := tickTotal t.freqAdj
    if t.slew.active then
      let extra : Int := (tickTotal t.slewedFreq : Int) - base
      let given : Int := extra * n
      if 0 < extra * t.slew.rem56 ∧ given.natAbs < t.slew.rem56.natAbs then
        { t.setRaw56 (t.raw56 + (base + extra) * n) with
          tick := t.tick + n, slew := { t.slew with rem56 := t.slew.rem56 - given }, slewSum56 := t.slewSum56 + given }
      else if 0 < extra * t.slew.rem56 ∨ t.slew.rem56 = 0 then
        { ({ t with slew := {} }.setRaw56 (t.raw56 + base * n + t.slew.rem56)).loadInc with tick := t.tick + n, slewSum56 := t.slewSum56 + t.slew.rem56 }
      else { t.setRaw56 (t.raw56 + (base + extra) * n) with tick := t.tick + n, slewSum56 := t.slewSum56 + given }
    else { t.setRaw56 (t.raw56 + base * n) with tick := t.tick + n }
  else { t with tick := t.tick + n, rawBase := t.rawBase + n }

/-- `n` ticks pass: the tick index and the time base advance, nothing else changes. -/
def State.advance (n : Nat) (s : State) : State := { s with time := s.time.advance n }

/-- The time base's reading (R41): the top 16 bits of the fraction are `subns`. -/
def State.now (s : State) : Time96 := { sec := s.time.sec, ns := s.time.ns, sub := s.time.frac / 2 ^ 24 }

/-- The reading in units of 2^-16 ns. -/
def State.nowU (s : State) : Int := s.now.units

/-- The step-free copy of the time base (R65), in units of 2^-16 ns. -/
def State.stepFree (s : State) : Int := s.nowU - s.time.stepSum

/-- The raw tick index: ticks since power-on (04_interval_measurement.md R82). -/
def TimeS.rawTick (t : TimeS) : Nat := t.tick - t.rawBase

/-- The RAW scale: 4 ns for each tick since power-on, in units of 2^-16 ns (04_interval_measurement.md R82). -/
def State.rawU (s : State) : Int := ((s.time.rawTick * 4 * 65536 : Nat) : Int)

/-- Is this the first tick at or after a whole second of the time base. -/
def State.atSecond (s : State) : Bool := decide (s.time.raw56 % u56S < s.time.inc * 65536 + s.time.dither)

/-- RAW instant at which the time base reaches an instant, at the increment in force (R41). -/
def State.rawAt (s : State) (inst : Int) : Int :=
  s.rawU + ratNear (((inst - s.nowU : Int) : Rat) * mkRat (4 * 2 ^ 40) s.time.inc)

/-- Time-base reading at a RAW instant, at the increment in force. -/
def State.timeAt (s : State) (raw : Int) : Int := s.nowU + ratNear (((raw - s.rawU : Int) : Rat) * mkRat (s.time.inc : Nat) (4 * 2 ^ 40))

/-- First tick at or after an instant, as a raw tick index (08_cues.md R222). -/
def State.tickOf (s : State) (inst : Int) : Int := (s.rawAt inst + 262143) / 262144

/-- Write the frequency adjustment: the new pair takes effect at this tick and the reading does not change (R43, R44). -/
def TimeS.setFreq (t : TimeS) (y : Int) : TimeS := { t with freqAdj := clamp (-freqLimit) freqLimit y }.loadInc

/-- Start a slew of `delta` (2^-16 ns) at `slope` ns/s, with the sign of `delta`, on top of what remains (R45, R71). -/
def TimeS.startSlew (t : TimeS) (delta : Int) (slope : Nat) : TimeS :=
  let rem := t.slew.rem56 + delta * 2 ^ 40
  if rem = 0 then { t with slew := {} }.loadInc
  else { t with slew := { active := true, rem56 := rem, slope := if rem < 0 then -(slope : Int) else slope } }.loadInc

/-- What remains to be slewed, in units of 2^-16 ns, to nearest. -/
def TimeS.slewRemaining (t : TimeS) : Int := divNear t.slew.rem56 (2 ^ 40)

/-- Step the time base by `delta` (2^-16 ns): `STEP_EPOCH` advances unless this is the first setting (R46 to R48). -/
def TimeS.stepBy (t : TimeS) (delta : Int) : TimeS :=
  { t.setRaw56 (t.raw56 + delta * 2 ^ 40) with
    stepSum := t.stepSum + delta, valid := true,
    stepEpoch := if t.valid then (t.stepEpoch + 1) % 256 else t.stepEpoch }

/-! ### UTC (R49 to R53) -/

/-- The UTC offset at a TAI second: that of the last entry not after it, else of the first entry. -/
def utcOffsetAt (table : List (Nat × Int)) (sec : Nat) : Int :=
  match table with
  | [] => 0
  | (_, first) :: _ => (table.foldl (fun a e => if e.1 ≤ sec then e.2 else a) first)

/-- The current UTC offset. -/
def State.utcOffset (s : State) : Int := utcOffsetAt s.leap.table s.time.sec

/-- Is a leap table acceptable (R50). -/
def leapTableOk : List (Nat × Int) → Bool
  | [] => true
  | [(t, o)] => decide (((t : Int) - o) % 86400 = 0)
  | (t, o) :: (t', o') :: rest =>
    decide (((t : Int) - o) % 86400 = 0) && decide (t < t') && (o' == o + 1 || o' == o - 1)
      && leapTableOk ((t', o') :: rest)

/-- The entry of a leap pending at a TAI second, with the offset before it (R51): from 00:00:00 UTC of the day whose
end it changes until its TAI second. -/
def leapPendingAt (sec : Nat) : List (Nat × Int) → Option (Nat × Int × Int)
  | [] => none
  | [_] => none
  | (_, o) :: (t', o') :: rest =>
    if (t' : Int) - o' - 86400 + o ≤ sec ∧ sec < t' then some (t', o', o) else leapPendingAt sec ((t', o') :: rest)

/-- A TIME96 value as a 64-bit NTP timestamp: seconds in [63:32], fraction in [31:0] (R53). -/
def ntpTimestamp (offset : Int) (t : Time96) : Nat :=
  let secs : Int := t.sec - offset + 2208988800
  let frac := ratNear (mkRat (((t.ns * 65536 + t.sub) * 2 ^ 32 : Nat) : Int) (65536 * 1000000000))
  let carry : Int := if frac ≥ 2 ^ 32 then 1 else 0
  let fr : Int := if frac ≥ 2 ^ 32 then 0 else frac
  ((secs + carry) % 2 ^ 32).toNat <<< 32 + fr.toNat

/-! ### Fields of a cue row (08_cues.md R249) -/

def Row.kind (r : Row) : Nat := bits r.req 0 4
def Row.target (r : Row) : Nat := bits r.req 8 8
def Row.param (r : Row) : Nat := bits r.req 16 8

end Sys2Proof.Machine
end

