-- ==== Sys2Proof/Machine/Flags.lean ====
section
/-!
DEFINITION. The block's flags: interrupt status and its vectors, the event ring, counters that interrupt at bit 47,
and the fault collectors (12_command_interface.md R384, R386, R397 to R399; 16_faults_and_midwinter.md R522 to R532).
-/
namespace Sys2Proof.Machine

/-! ### Interrupts -/

/-- The hold-off of a ring vector in ticks (R384 `HPORT_HOLDOFF`): vectors 4 to 7 transmit, 8 to 11 receive. -/
def IntrS.holdoff (i : IntrS) (k : Nat) : Nat :=
  if k < 4 then 0 else if k < 8 then i.holdTx * tickUs else i.holdRx * tickUs

/-- The MSI-X table entry of vector `k` (R380): message address, 64 bits, its data, 32 bits, and the vector control, whose bit 0
masks the vector. PRESUMED (log entry 215): the layout and a reset with every vector masked are those of PCI Express. -/
def IntrS.entry (i : IntrS) (k : Nat) : Nat := Tbl.getD i.table k (2 ^ 96)

/-- The message of vector `k` goes out; while its table entry masks the vector, its pending bit sets instead (R380, log entry
215). -/
def State.sendVector (k : Nat) (s : State) : State :=
  if bit (s.intr.entry k) 96 then { s with intr := { s.intr with pba := s.intr.pba ||| 2 ^ k } }
  else { s with
    intr := { s.intr with lastVec := Tbl.put s.intr.lastVec k s.time.tick }
    trace := .vector k (bits (s.intr.entry k) 0 96) :: s.trace }

/-- Vector `k` signals, or is delayed by its hold-off (R386). -/
def State.signal (k : Nat) (s : State) : State :=
  if !s.intr.msixEn then s
  else
    let s1 := { s with intr := { s.intr with signalled := s.intr.signalled ||| 2 ^ k } }
    if 0 < s.intr.holdoff k ∧ (Tbl.get? s.intr.lastVec k).elim false (fun t => decide (s.time.tick < t + s.intr.holdoff k)) then
      { s1 with intr := { s1.intr with delayed := s1.intr.delayed ||| 2 ^ k } }
    else s1.sendVector k

/-- Bits of a 12-bit register cleared. -/
def clearBits (x value : Nat) : Nat := maskOf ((bitList x 12).filter (fun k => !bit value k))

/-- Set `INT_STATUS` bit `k`: its vector signals when the bit goes from 0 to 1 unmasked (R386). -/
def State.raiseInt (k : Nat) (s : State) : State :=
  if bit s.intr.status k then s
  else
    let s1 := { s with intr := { s.intr with
      status := s.intr.status ||| 2 ^ k, signalled := clearBits s.intr.signalled (2 ^ k) } }
    if bit s.intr.mask k then s1 else s1.signal k

/-- `INT_N` is low while an unmasked status bit is 1 (R386). -/
def State.intN (s : State) : Bool := (List.range 12).all (fun k => !(bit s.intr.status k && !bit s.intr.mask k))

/-! ### Events -/

/-- Free entries of the event ring: one is never filled (R398). -/
def EvtS.room (e : EvtS) : Nat := 1023 - (e.head + 1024 - e.tail) % 1024

/-- The 1,024 bits of an entry of the event ring (R397), its payload's fields each rounded and aligned by R399. -/
def Event.entry (e : Event) : Nat :=
  Fields.pack [(16, e.code), fb e.late, rz 15, (16, e.seq), (16, eventBytes 0 e.payload), rz 64, ft e.cause, (8, e.epoch), rz 24]
    + (eventPack 0 e.payload) <<< 256

/-- Write one entry at the head; the sequence advances (R397). -/
def State.putEvent (e : Event) (s : State) : State :=
  let v := s.evt
  ({ s with evt := { v with
      ring := Tbl.put v.ring v.head (Event.entry { e with seq := v.seq })
      head := (v.head + 1) % 1024
      seq := (v.seq + 1) % 65536 } }).raiseInt 1

/-- Count an event that found no free entry (R398): its sequence number is spent. -/
def State.loseEvent (s : State) : State :=
  let v := s.evt
  { s with evt := { v with
      lost := min (v.lost + 1) 4294967295
      lostSince := v.lostSince + 1
      seq := (v.seq + 1) % 65536 } }

/-- Write `EVENTS_LOST` if events were lost and an entry is free (R398). -/
def State.reportLost (s : State) : State :=
  if s.evt.lostSince = 0 ∨ s.evt.room = 0 then s
  else
    let e : Event := { code := 0x0104, cause := s.now, epoch := s.time.stepEpoch, payload := [(32, s.evt.lostSince)] }
    ({ s with evt := { s.evt with lostSince := 0 } }).putEvent e

/-- Firmware posts an event: after a loss `EVENTS_LOST` comes first (R398). -/
def State.writeEvent (e : Event) (s : State) : State :=
  let s1 := s.reportLost
  if s1.evt.room = 0 ∨ s1.evt.lostSince ≠ 0 then s1.loseEvent else s1.putEvent e

/-- Post an event now, or keep its cause while firmware is not running (R398). -/
def State.postAt (cause : Time96) (code : Nat) (payload : Fields) (s : State) : State :=
  let e : Event := { code := code, cause := cause, epoch := s.time.stepEpoch, payload := payload }
  if s.fw.running then s.writeEvent e else { s with evt := { s.evt with kept := s.evt.kept ++ [{ e with late := true }] } }

/-- Post an event whose cause is this instant. -/
def State.post (code : Nat) (payload : Fields) (s : State) : State := s.postAt s.now code payload

/-- A 48-bit counter advanced: it rolls over (10_port_macs.md R328). -/
def inc48 (x n : Nat) : Nat := (x + n) % 2 ^ 48

/-- Does bit 47 set between two values of a counter. -/
def halfway (old new : Nat) : Bool := !bit old 47 && bit new 47

/-- Post `COUNTER_HALF` if bit 47 set: opcode, request bits [47:0] and bit offset that read the counter (R400). -/
def State.counterHalf (old new opcode request offset : Nat) (s : State) : State :=
  if halfway old new then s.post 0x0103 [(16, opcode), (48, request), (16, offset)] else s

/-! ### FAULT_SUMMARY -/

/-- `SEAL_BROKEN`: either record sets the state (12_command_interface.md R407). -/
def State.sealBroken (s : State) : Bool := s.sealLoop.latch || s.sealLoop.flash

/-- Does any location hold a Midwinter record that has not been released (R532): set by firmware, so that it reads 0 after a
full reset until firmware has run (17_power_and_start.md R558). -/
def State.midwinter (s : State) : Bool := s.fw.everStarted && s.mid.loc.any (fun e => !e.2.released)

/-- Fault records in use, 0 to 64 (R532). -/
def FltS.used (f : FltS) : Nat := (f.records.filter (fun e => e.2.state ≠ .free)).length

/-- The register `FAULT_SUMMARY` (R532). -/
def State.faultSummary (s : State) : Nat :=
  Fields.pack [fb s.flt.faultN, fb s.flt.frozen, fb s.flt.takeoverSeen, fb s.sealBroken, fb s.plat.warn, fb s.midwinter,
    rz 2, (7, s.flt.used), rz 1, (16, s.flt.recoveries)]

/-- A change of any field of `FAULT_SUMMARY` sets `INT_STATUS` `FAULT`; a change to `SEAL_BROKEN` 1 or of `WINDOW` sets
`PRESENCE` (R384, R532). `old` is the state before the change. -/
def State.noteFrom (old s : State) : State :=
  let s1 := if s.faultSummary = old.faultSummary then s else s.raiseInt 2
  if s.win.state ≠ old.win.state ∨ (s.sealBroken ∧ !old.sealBroken) then s1.raiseInt 3 else s1

/-! ### Fault sources (R522) -/

/-- Source codes of R522 with kind (true: condition), fixed N, default N, default window in s. -/
def faultSources : List (Nat × Bool × Bool × Nat × Nat) :=
  [(0x01, false, true, 1, 3600), (0x02, false, true, 1, 3600), (0x03, false, true, 1, 3600),
   (0x04, false, false, 16, 3600), (0x05, false, true, 1, 3600), (0x06, false, false, 1, 3600),
   (0x07, false, false, 1, 3600), (0x10, false, false, 1, 3600), (0x11, false, false, 1, 3600),
   (0x12, false, false, 1, 3600), (0x13, true, false, 1, 3600), (0x14, false, false, 1, 3600),
   (0x15, false, false, 1, 3600), (0x16, false, false, 2, 86400), (0x20, true, false, 1, 3600),
   (0x21, false, false, 1, 3600), (0x22, false, false, 1, 3600), (0x23, true, false, 1, 3600),
   (0x24, true, false, 1, 3600), (0x25, true, false, 1, 3600), (0x26, true, false, 1, 3600),
   (0x30, true, true, 1, 3600), (0x31, false, false, 1, 3600), (0x32, false, false, 1, 3600),
   (0x33, true, false, 1, 3600), (0x40, false, false, 3, 3600)]

/-- The row of a source code. -/
def faultSource (code : Nat) : Option (Bool × Bool × Nat × Nat) :=
  (faultSources.find? (fun e => e.1 = code)).map (fun e => e.2)

/-- Is it a condition source. -/
def isCondition (code : Nat) : Bool := (faultSource code).elim false (fun e => e.1)
/-- Is its N fixed. -/
def isFixed (code : Nat) : Bool := (faultSource code).elim false (fun e => e.2.1)

/-- A source's policy and status. -/
def State.src (s : State) (code : Nat) : SrcS := Tbl.getD s.flt.src code {}
/-- The state with a source's status changed. -/
def State.updSrc (s : State) (code : Nat) (f : SrcS → SrcS) : State :=
  { s with flt := { s.flt with src := Tbl.put s.flt.src code (f (s.src code)) } }
/-- N in force (R522, R550). -/
def State.srcN (s : State) (code : Nat) : Nat :=
  (s.src code).n.getD ((faultSource code).elim 1 (fun e => e.2.2.1))
/-- Window in force, s (R522, R550). -/
def State.srcWindow (s : State) (code : Nat) : Nat :=
  (s.src code).windowS.getD ((faultSource code).elim 3600 (fun e => e.2.2.2))

/-- A fault record. -/
def State.record (s : State) (i : Nat) : Record := Tbl.getD s.flt.records i {}
/-- The state with record `i` replaced. -/
def State.setRecord (s : State) (i : Nat) (r : Record) : State :=
  { s with flt := { s.flt with records := Tbl.put s.flt.records i r } }
/-- The state with record `i` changed. -/
def State.updRecord (s : State) (i : Nat) (f : Record → Record) : State := s.setRecord i (f (s.record i))

/-- Is a record in one of the states an episode is in. -/
def RecState.open_ : RecState → Bool
  | .minor => true
  | .active => true
  | .quiet => true
  | _ => false

/-- The record of the episode in progress of a source, real or injected (R525, R540). -/
def State.episode (s : State) (code : Nat) (injected : Bool) : Option Nat :=
  (s.flt.records.find? (fun e => e.2.source = code ∧ e.2.injected = injected ∧ e.2.state.open_ = true)).map (·.1)

/-- Index of the record with the least order of opening among those that satisfy `p`. -/
def State.oldest (s : State) (p : Record → Bool) : Option Nat :=
  (s.flt.records.foldl
    (fun (a : Option (Nat × Nat)) e =>
      if p e.2 then
        match a with
        | some (i, o) => if e.2.opened < o then some (e.1, e.2.opened) else some (i, o)
        | none => some (e.1, e.2.opened)
      else a) none).map (·.1)

/-- The record a new episode takes: a free one, the oldest `CLEARED`, the oldest `MINOR`, or none (R531). -/
def State.takeRecord (s : State) : Option Nat :=
  match (List.range 64).find? (fun i => (s.record i).state = .free) with
  | some i => some i
  | none =>
    match s.oldest (fun r => r.state = .cleared) with
    | some i => some i
    | none => s.oldest (fun r => r.state = .minor)

/-- Record `i` is taken for a new episode: one that held the takeover releases it, and `FROZEN` with it unless the bank
check is due or failed (R537). -/
def State.claim (i : Nat) (s : State) : State :=
  if s.flt.takeRec = some i then
    { s with flt := { s.flt with takeRec := none, frozen := s.flt.frozen && (s.flt.checkDue || s.flt.checkFailed) } }
  else s

/-- `FAULT_N` follows the records and the status entries; its release advances `RECOVERIES` (R529, R531). -/
def State.driveFaultN (s : State) : State :=
  let low := s.flt.records.any (fun e => e.2.state = .active ∨ e.2.state = .quiet)
    || s.flt.src.any (fun e => e.2.entry.elim false (·.severe))
  let s1 := { s with flt := { s.flt with faultN := low } }
  if s.flt.faultN && !low then
    let n := min (s.flt.recoveries + 1) 65535
    ({ s1 with flt := { s1.flt with recoveries := n } }).post 0x0E06 [(16, n)]
  else s1

/-- A severe status entry takes the first record that becomes available, in state `ACTIVE` (R531). -/
def State.adopt (s : State) : State :=
  match s.flt.src.find? (fun e => e.2.entry.elim false (·.severe)) with
  | none => s
  | some (code, sv) =>
    match s.takeRecord, sv.entry with
    | some i, some en =>
      let r : Record := {
        source := code, state := .active, injected := en.injected, standing := sv.standing && !en.injected,
        first := en.first, last := en.last, count := en.count, window := en.window,
        opened := s.flt.nextOpen, firstTick := en.lastTick, lastTick := en.lastTick }
      let s1 := s.claim i
      let hold := if code = s1.flt.takeSource ∧ s1.flt.frozen ∧ s1.flt.takeRec = none then some i else s1.flt.takeRec
      ((({ s1 with flt := { s1.flt with nextOpen := s1.flt.nextOpen + 1, takeRec := hold } }).setRecord i r).updSrc code
        (fun x => { x with entry := none, latest := some i })).post 0x0E01
        [(6, i), (8, code), (3, 2), fb en.injected, (64, 0)]
    | _, _ => s

/-- After any change of the ledger: entries take records, `FAULT_N` follows, and the summary interrupt sets.
`old` is the state before the change. -/
def State.settleFaults (old s : State) : State := State.noteFrom old ((s.adopt).driveFaultN)

/-- A record enters `CLEARED` (R527); the record holding the takeover then releases `FROZEN` (R537). -/
def State.clearRecord (i : Nat) (s : State) : State :=
  let r := s.record i
  let s1 := (s.updRecord i (fun r => { r with state := .cleared })).post 0x0E03
    [(6, i), (8, r.source), (32, r.count), (8, r.secondaries)]
  if s.flt.takeRec = some i then
    { s1 with flt := { s1.flt with takeRec := none, frozen := s1.flt.frozen && s1.flt.checkFailed } }
  else s1

/-- A serviced record whose condition does not stand goes quiet; the quiet timer runs from the later of the last event
and the servicing (R527). -/
def State.quieten (i : Nat) (s : State) : State :=
  let r := s.record i
  if r.state = .active ∧ r.serviced ∧ !r.standing then
    s.setRecord i { r with state := .quiet, quietDue := max r.lastTick r.servicedAt + s.flt.quietS * tickS }
  else s

/-- The masters whose events merge into a record being handled: Eugrim core, boot ROM, sentinel (R530). -/
def isHandler (master : Nat) : Bool := master == 1 || master == 2 || master == 3

/-- The real record in its handling interval that began first (R530). -/
def State.handling (s : State) : Option Nat :=
  s.oldest (fun r => !r.injected && r.state.open_ && !r.serviced)

/-- An open injected record of a source that has a real event points at the real record (R541). -/
def State.linkInjected (code i : Nat) (s : State) : State :=
  match s.episode code true with
  | some j => s.updRecord j (fun x => { x with coincident := true, linked := i })
  | none => s

/-- An event of a source: merged, counted in its episode, or opening one (R523 to R531, R540, R541). -/
def State.faultEvent (code master access address : Nat) (injected : Bool) (s : State) : State :=
  let s0 := s.updSrc code (fun x => { x with events := (x.events + 1) % 2 ^ 48 })
  let merge := if !injected ∧ isHandler master ∧ code ≠ 0x05 ∧ code ≠ 0x06 then s0.handling else none
  match merge with
  | some i =>
    State.settleFaults s (s0.updRecord i (fun r =>
      if r.secSource = 0 then { r with secondaries := min (r.secondaries + 1) 255, secSource := code, secFirst := s.now }
      else { r with secondaries := min (r.secondaries + 1) 255 }))
  | none =>
    let sv := s0.src code
    let lastAt := if injected then sv.lastInjAt else sv.lastAt
    let old := if injected then sv.countInj else sv.count
    let cnt := match lastAt with
      | some t => if s.time.tick ≤ t + s0.srcWindow code * tickS then old + 1 else 1
      | none => 1
    let severe := if code = 0x13 then s.mem.spare = 0 else s0.srcN code ≤ cnt
    let s1 := s0.updSrc code (fun x =>
      if injected then { x with countInj := cnt, lastInjAt := some s.time.tick }
      else { x with count := cnt, lastAt := some s.time.tick })
    match s1.episode code injected with
    | some i =>
      let r := s1.record i
      let r1 := { r with
        count := min (r.count + 1) 4294967295, window := min cnt 255, last := s.now, lastTick := s.time.tick
        standing := if injected then r.standing else sv.standing }
      let s2 := match r.state with
        | .minor =>
          if severe then ((s1.setRecord i { r1 with state := .active }).post 0x0E02 [(6, i), (8, code), (8, r1.window)]).quieten i
          else s1.setRecord i r1
        | _ => (s1.setRecord i { r1 with state := .active }).quieten i
      State.settleFaults s (if injected then s2 else s2.linkInjected code i)
    | none =>
      match s1.takeRecord with
      | some i =>
        let st : RecState := if severe then .active else .minor
        let r : Record := {
          source := code, state := st, injected := injected, master := master, access := access, address := address,
          standing := sv.standing && !injected, first := s.now, last := s.now, count := 1, window := min cnt 255,
          opened := s.flt.nextOpen, firstTick := s.time.tick, lastTick := s.time.tick }
        let c := s1.claim i
        let s2 := (({ c with flt := { c.flt with nextOpen := c.flt.nextOpen + 1 } }).setRecord i r).updSrc code
          (fun x => { x with latest := some i, entry := none })
        let s3 := if injected then s2 else s2.linkInjected code i
        State.settleFaults s (s3.post 0x0E01
          [(6, i), (8, code), (3, if severe then 2 else 1), fb injected, (64, address)])
      | none =>
        let full := inc48 s1.flt.ledgerFull 1
        let en := (s1.src code).entry.getD { first := s.now, injected := injected }
        let en2 : Entry := { en with
          severe := en.severe || severe, count := min (en.count + 1) 4294967295, window := min cnt 255,
          last := s.now, lastTick := s.time.tick }
        let s2 := ({ s1 with flt := { s1.flt with ledgerFull := full } }).updSrc code (fun x => { x with entry := some en2 })
        State.settleFaults s (s2.counterHalf s.flt.ledgerFull full 0x0E01 0 64)

/-- A real event of an event source. -/
def State.fault (code master access address : Nat) (s : State) : State := s.faultEvent code master access address false

/-- A condition begins to stand: one event, unless it stands already (R523). -/
def State.condition (code master access address : Nat) (s : State) : State :=
  if (s.src code).standing then s
  else (s.updSrc code (fun x => { x with standing := true })).fault code master access address

/-- A condition ends: its real record is no longer standing and goes quiet once serviced (R523, R527). -/
def State.conditionEnds (code : Nat) (s : State) : State :=
  if (s.src code).standing then
    let s1 := s.updSrc code (fun x => { x with standing := false })
    match s1.episode code false with
    | some i => State.settleFaults s ((s1.updRecord i (fun r => { r with standing := false })).quieten i)
    | none => s1
  else s

/-! ### The time service -/

/-- Advance a time-service counter: entry `i` of a set (09_time_service.md R295). -/
def State.tsCount (set i : Nat) (s : State) : State :=
  { s with ts := { s.ts with counters := Tbl.upd s.ts.counters (16 * set + i) 0 (fun n => (n + 1) % 2 ^ 64) } }

end Sys2Proof.Machine
end

