-- ==== Sys2Proof/Machine/Operands.lean ====
section
/-!
DEFINITION. The operand forms of a TCI request: which bits of a payload a command defines, how long the payload
must be, and when a reserved bit is set (12_command_interface.md R387, R389, R390; 00_scope.md R6).
-/
namespace Sys2Proof.Machine

/-- A request layout: its size in bits, reserved fields at its end included (R389), and its defined fields as
(low bit, width). Every other bit is reserved. -/
structure Layout where
  size : Nat := 0
  fields : List (Nat × Nat) := []
deriving DecidableEq, Repr

/-- The layout of an empty request. -/
def emptyLayout : Layout := {}

/-- A layout whose size is the end of its last field. -/
def layoutOf (fields : List (Nat × Nat)) : Layout :=
  { size := fields.foldl (fun a f => max a (f.1 + f.2)) 0, fields := fields }

/-- The payload length a layout requires, in bytes: whole 4-byte words (R389). -/
def Layout.bytes (l : Layout) : Nat := (l.size + 31) / 32 * 4

/-- The bits a layout defines. -/
def Layout.mask (l : Layout) : Nat := l.fields.foldl (fun a f => a ||| ((2 ^ f.2 - 1) <<< f.1)) 0

/-- Has the request the length its layout requires (R390 step 3). -/
def Layout.lengthOk (l : Layout) (q : Req) : Bool := q.len == l.bytes

/-- Are the reserved header and payload bits of the request 0 (R390 step 4). -/
def Layout.reservedOk (l : Layout) (q : Req) : Bool := q.rsv == 0 && (q.body &&& l.mask) == q.body

/-- Is `x` between `lo` and `hi`. -/
def within (lo hi x : Nat) : Bool := decide (lo ≤ x) && decide (x ≤ hi)

/-- Is a signed `x` between `lo` and `hi`. -/
def withinI (lo hi x : Int) : Bool := decide (lo ≤ x) && decide (x ≤ hi)

/-- Is `x` a power of two. -/
def isPow2 (x : Nat) : Bool := (List.range 64).any (fun k => x == 2 ^ k)

/-! ### Status codes (R391) -/

def stOk : Nat := 0x0000
def stBusy : Nat := 0x0001
def stBadOpcode : Nat := 0x0002
def stBadLength : Nat := 0x0003
def stBadParam : Nat := 0x0004
def stNotPermitted : Nat := 0x0005
def stAttendPending : Nat := 0x0006
def stAttendExpired : Nat := 0x0007
def stSealBroken : Nat := 0x0008
def stStaleBank : Nat := 0x0009
def stTimeout : Nat := 0x000A
def stInvalidInput : Nat := 0x000B
def stFaultState : Nat := 0x000C
def stDraining : Nat := 0x000D
def stLate : Nat := 0x000E
def stEquinoxMissed : Nat := 0x000F

end Sys2Proof.Machine
end

