-- ==== Sys2Proof/Machine/Sha.lean ====
section
/-!
DEFINITION. SHA-256 and SHA-384 (FIPS 180-4), HMAC over them, and the deterministic nonce of RFC 6979: the integrity value of
every domain frame and PTP message (07_timing_domain.md R188, R191; 09_time_service.md R284) and ECDSA signing
(14_keys_and_big_numbers.md R472).
-/
namespace Sys2Proof.Machine

/-- What tells the two functions apart: bytes of a word, rounds, the rotation and shift amounts, the initial hash value and the
words of it that are the result. -/
structure Sha2 where
  bytes : Nat
  rounds : Nat
  small0 : Nat × Nat × Nat
  small1 : Nat × Nat × Nat
  big0 : Nat × Nat × Nat
  big1 : Nat × Nat × Nat
  start : List Nat
  words : Nat

/-- SHA-256. -/
def sha256 : Sha2 where
  bytes := 4
  rounds := 64
  small0 := (7, 18, 3)
  small1 := (17, 19, 10)
  big0 := (2, 13, 22)
  big1 := (6, 11, 25)
  start := [0x6A09E667, 0xBB67AE85, 0x3C6EF372, 0xA54FF53A, 0x510E527F, 0x9B05688C, 0x1F83D9AB, 0x5BE0CD19]
  words := 8

/-- SHA-384. -/
def sha384 : Sha2 where
  bytes := 8
  rounds := 80
  small0 := (1, 8, 7)
  small1 := (19, 61, 6)
  big0 := (28, 34, 39)
  big1 := (14, 18, 41)
  start := [0xCBBB9D5DC1059ED8, 0x629A292A367CD507, 0x9159015A3070DD17, 0x152FECD8F70E5939,
    0x67332667FFC00B31, 0x8EB44A8768581511, 0xDB0C2E0D64F98FA7, 0x47B5481DBEFA4FA4]
  words := 6

/-- The round constants of SHA-384, four 64-bit words to a number, word 0 lowest. -/
def shaRows : List Nat :=
  [ 0xE9B5DBA58189DBBCB5C0FBCFEC4D3B2F7137449123EF65CD428A2F98D728AE22,
    0xAB1C5ED5DA6D8118923F82A4AF194F9B59F111F1B605D0193956C25BF348B538,
    0x550C7DC3D5FFB4E2243185BE4EE4B28C12835B0145706FBED807AA98A3030242,
    0xC19BF174CF6926949BDC06A725C7123580DEB1FE3B1696B172BE5D74F27B896F,
    0x240CA1CC77AC9C650FC19DC68B8CD5B5EFBE4786384F25E3E49B69C19EF14AD2,
    0x76F988DA831153B55CB0A9DCBD41FBD44A7484AA6EA6E4832DE92C6F592B0275,
    0xBF597FC7BEEF0EE4B00327C898FB213FA831C66D2DB43210983E5152EE66DFAB,
    0x142929670A0E6E7006CA6351E003826FD5A79147930AA725C6E00BF33DA88FC2,
    0x53380D139D95B3DF4D2C6DFC5AC42AED2E1B21385C26C92627B70A8546D22FFC,
    0x92722C851482353B81C2C92E47EDAEE6766A0ABB3C77B2A8650A73548BAF63DE,
    0xC76C51A30654BE30C24B8B70D0F89791A81A664BBC423001A2BFE8A14CF10364,
    0x106AA07032BBD1B8F40E35855771202AD69906245565A910D192E819D6EF5218,
    0x34B0BCB5E19B48A82748774CDF8EEB991E376C085141AB5319A4C116B8D2D0C8,
    0x682E6FF3D6B2B8A35B9CCA4F7763E3734ED8AA4AE3418ACB391C0CB3C5C95A63,
    0x8CC702081A6439EC84C87814A1F0AB7278A5636F43172F60748F82EE5DEFB2FC,
    0xC67178F2E372532BBEF9A3F7B2C67915A4506CEBDE82BDE990BEFFFA23631E28,
    0xF57D4F7FEE6ED178EADA7DD6CDE0EB1ED186B8C721C0C207CA273ECEEA26619C,
    0x1B710B35131C471B113F9804BEF90DAE0A637DC5A2C898A606F067AA72176FBA,
    0x431D67C49C100D4C3C9EBE0A15C9BEBC32CAAB7B40C7249328DB77F523047D84,
    0x6C44198C4A4758175FCB6FAB3AD6FAEC597F299CFC657E2A4CC5D4BECB3E42B6 ]

/-- Bits of a word. -/
def Sha2.width (h : Sha2) : Nat := 8 * h.bytes

/-- Round constant `t`: those of SHA-256 are the upper halves. -/
def Sha2.const (h : Sha2) (t : Nat) : Nat := bits ((nth shaRows (t / 4)).getD 0) (64 * (t % 4)) 64 >>> (64 - h.width)

/-- A word rotated right. -/
def Sha2.rot (h : Sha2) (x n : Nat) : Nat := (x >>> n) ||| ((x <<< (h.width - n)) % 2 ^ h.width)

/-- The sum of three rotations. -/
def Sha2.big (h : Sha2) (a : Nat × Nat × Nat) (x : Nat) : Nat := h.rot x a.1 ^^^ h.rot x a.2.1 ^^^ h.rot x a.2.2

/-- The sum of two rotations and a shift. -/
def Sha2.small (h : Sha2) (a : Nat × Nat × Nat) (x : Nat) : Nat := h.rot x a.1 ^^^ h.rot x a.2.1 ^^^ (x >>> a.2.2)

/-- The schedule's words: `n` more after those in `w`, the latest first. -/
def Sha2.schedule (h : Sha2) : Nat → List Nat → List Nat
  | 0, w => w
  | n + 1, w =>
    let g := fun (k : Nat) => (nth w k).getD 0
    h.schedule n ((g 15 + h.small h.small0 (g 14) + g 6 + h.small h.small1 (g 1)) % 2 ^ h.width :: w)

/-- One round on the eight working words: its number and its word of the schedule. -/
def Sha2.round (h : Sha2) (v : List Nat) (r : Nat × Nat) : List Nat :=
  match v with
  | [a, b, c, d, e, f, g, k] =>
    let t1 := k + h.big h.big1 e + ((e &&& f) ^^^ ((2 ^ h.width - 1 - e) &&& g)) + h.const r.1 + r.2
    let t2 := h.big h.big0 a + ((a &&& b) ^^^ (a &&& c) ^^^ (b &&& c))
    [(t1 + t2) % 2 ^ h.width, a, b, c, (d + t1) % 2 ^ h.width, e, f, g]
  | _ => v

/-- The hash value after one block of 16 words. -/
def Sha2.block (h : Sha2) (v block : List Nat) : List Nat :=
  let w := (List.range 16).reverse.map (fun k => ofBytesBE ((block.drop (h.bytes * k)).take h.bytes))
  v.zipWith (fun a b => (a + b) % 2 ^ h.width) (((List.range h.rounds).zip (h.schedule (h.rounds - 16) w).reverse).foldl h.round v)

/-- The hash value after `n` blocks. -/
def Sha2.blocks (h : Sha2) : Nat → List Nat → List Nat → List Nat
  | 0, v, _ => v
  | n + 1, v, l => h.blocks n (h.block v (l.take (16 * h.bytes))) (l.drop (16 * h.bytes))

/-- The digest of a message, both as bytes. -/
def Sha2.digest (h : Sha2) (l : List Nat) : List Nat :=
  let size := 16 * h.bytes
  let n := (l.length + 2 * h.bytes) / size + 1
  let padded := l ++ [0x80] ++ List.replicate (size * n - l.length - 1 - 2 * h.bytes) 0 ++ toBytesBE (2 * h.bytes) (8 * l.length)
  ((h.blocks n h.start padded).take h.words).flatMap (toBytesBE h.bytes)

/-- HMAC of a message under a key of at most one block. -/
def Sha2.hmac (h : Sha2) (key l : List Nat) : List Nat :=
  let k := key ++ List.replicate (16 * h.bytes - key.length) 0
  h.digest (k.map (· ^^^ 0x5C) ++ h.digest (k.map (· ^^^ 0x36) ++ l))

/-- HMAC-SHA-256 of a message under a 256-bit key. -/
def hmac256 (key : Nat) (l : List Nat) : Nat := ofBytesBE (sha256.hmac (toBytesBE 32 key) l)

/-- The candidates of RFC 6979 from a key and a value on, of which at most `tries` are drawn: the first from 1 to `n` - 1. -/
def Sha2.nonceFrom (h : Sha2) (n : Nat) : Nat → List Nat → List Nat → Nat
  | 0, _, _ => 1
  | tries + 1, k, v =>
    let v1 := h.hmac k v
    let x := ofBytesBE v1
    if 1 ≤ x ∧ x < n then x
    else
      let k1 := h.hmac k (v1 ++ [0])
      h.nonceFrom n tries k1 (h.hmac k1 v1)

/-- The nonce of RFC 6979 for a private key and a digest over a group of order `n`, as long as the digest. -/
def Sha2.nonce (h : Sha2) (n key digest : Nat) : Nat :=
  let len := h.bytes * h.words
  let seed := toBytesBE len key ++ toBytesBE len (digest % n)
  let v0 := List.replicate len 1
  let k1 := h.hmac (List.replicate len 0) (v0 ++ [0] ++ seed)
  let v1 := h.hmac k1 v0
  let k2 := h.hmac k1 (v1 ++ [1] ++ seed)
  h.nonceFrom n 64 k2 (h.hmac k2 v1)

end Sys2Proof.Machine
end

