-- ==== Sys2Proof/Machine/Tci.lean ====
section
/-!
DEFINITION. The command path of the Torvuth Command Interface, written once for all its commands: the doorbell, the
checks of R390 in order, standing aside, the attended window and the response (12_command_interface.md R384 to R396,
R402, R403; 17_power_and_start.md R568). A command itself is a `Command` record over these operations.
-/
namespace Sys2Proof.Machine

/-- What a command does once R390 has passed. -/
inductive Reply where
  /-- Answered now: status, response payload, state. -/
  | done (status : Nat) (payload : Fields) (s : State)
  /-- It stands aside until a condition is reached (R393). -/
  | aside (w : Wait) (s : State)
  /-- It passed its own checks and needs a press (R402). -/
  | attend (s : State)
  /-- It has been put among the waiting commands, or among those lost when firmware stopped, already (R395). -/
  | kept (s : State)

/-- One command of the interface. -/
structure Command where
  opcode : Nat
  /-- Is the request refused in-band by name (R411). -/
  noInband : Bool := false
  /-- Would the request be attended with the values it carries (R401, R411). -/
  attended : Req → State → Bool := fun _ _ => false
  layout : Req → Layout := fun _ => emptyLayout
  /-- Are the fields in range (R390 step 4). -/
  range : Req → State → Bool := fun _ _ => true
  /-- The objects the request addresses (R393). -/
  objs : Req → List Obj := fun _ => []
  /-- The command's own checks and action (R390 step 5). -/
  run : Req → State → Reply
  /-- What stops the command at its qualified press, a supply warning or not (R423, R424). -/
  press : Req → State → Option Nat := fun _ _ => none
  /-- Does the action at the press program flash or the key store, which a supply warning suspends (R404). -/
  flashAct : Bool := false
  /-- An attended command's action at its qualified press. -/
  act : Req → State → Reply := fun _ s => .done stOk [] s

/-- Is an opcode a service command's: `0xNN80` to `0xNNFF` (R405). -/
def isService (opcode : Nat) : Bool := bit opcode 7

/-! ### Responses -/

/-- The bits of a response: header of R387, then the payload. -/
def Resp.word (r : Resp) : Nat :=
  Fields.pack [(16, r.opcode), (14, 0), fb r.interim, fb true, (16, r.seq), (16, Fields.bytes r.payload), (16, r.status),
    (48, 0)] + Fields.pack r.payload <<< 128

/-- A mailbox area with a response written over its start. The rest keeps its bytes (log entry 19), zeros after `KEY_IMPORT`
(14_keys_and_big_numbers.md R462). -/
def Resp.overArea (r : Resp) (area : Nat) : Nat :=
  let n := 128 + 8 * Fields.bytes r.payload
  Resp.word r + (if r.opcode = 0x0C02 then 0 else (area >>> n) <<< n)

/-- Write a response into a mailbox: payload, header, `MBX_SEQk`, state, then `INT_STATUS` `MBX` unless the request was
quiet (R388). -/
def State.writeResponse (k : Nat) (quiet : Bool) (r : Resp) (s : State) : State :=
  let s1 := s.updMailbox k (fun m =>
    { m with state := if r.interim then .pending else .done, seq := r.seq, resp := some r, area := r.overArea m.area })
  if quiet then s1 else s1.raiseInt 0

/-- This device's ID: that of the active bank (07_timing_domain.md R214). -/
def State.deviceId (s : State) : Nat := bits s.banks.active.dom 32 12

/-! ### Domain frames sent (07_timing_domain.md R185) -/

/-- The 256-bit key of a slot as the symmetric engine's cache holds it (14_keys_and_big_numbers.md R480). -/
def State.cachedKey (s : State) (slot : Nat) : Option Nat :=
  match Tbl.get? s.keys.cache slot with
  | some k => k.mat.head?
  | none => none

/-- The domain key in use. -/
def State.domainKey (s : State) : Option Nat := s.cachedKey (bits s.banks.active.dom 64 8)

/-- HMAC-SHA-256 over bytes, truncated to its first 128 bits (log entry 26). -/
def hmac128 (key : Nat) (l : List Nat) : Nat := bits (hmac256 key l) 128 128

/-- The tag of a domain frame: over the wire bytes of its header and payload. -/
def domainMac (key header bytes payload : Nat) : Nat := hmac128 key (toBytes 16 header ++ toBytes bytes payload)

/-- The header of a domain frame (R185). -/
def domainHeader (version kind bytes sender tag sequence : Nat) : Fields :=
  [(8, version), (8, kind), (16, bytes), (16, sender), (16, tag), (64, sequence)]

/-- Queue one domain frame on a port for its next egress decision: header, payload, tag; the sequence advances. A port whose
link is not up takes none; without the domain key there is nothing to send (12_command_interface.md R407, log entry 185). -/
def State.sendDomain (port kind : Nat) (payload : Fields) (s : State) : State :=
  if (s.port port).link ≠ .up then s
  else s.domainKey.elim s (fun key =>
    let n := (s.dom.txSeq + 1) % 2 ^ 48
    let bytes := (Fields.size payload + 7) / 8
    let head := domainHeader 1 kind bytes s.deviceId (bits s.banks.active.dom 48 16) (s.dom.resetCount <<< 48 + n)
    let mac := domainMac key (Fields.wire head) bytes (Fields.wire payload)
    { s with dom := { s.dom with txSeq := n, queue := s.dom.queue ++ [{ port := port, kind := kind, fields := head ++ payload ++ [(128, mac)] }] } })

/-- The payload of a kind `0x30` frame (R410): target, origin, transaction, response flag, message. -/
def inbandFrame (target origin txn : Nat) (response : Bool) (message : Nat × Nat) : Fields :=
  [(16, target), (16, origin), (32, txn), fb response, rz 31, message]

/-- The most bytes of a message in a kind `0x30` frame (R410). -/
def inbandMost : Nat := 1024

/-- A response as a kind `0x30` frame can carry it. DESIGN CHOICE (log entry 214): one over 1,024 bytes goes as
`NOT_PERMITTED` with no payload. -/
def Resp.inband (r : Resp) : Resp :=
  if inbandMost < 16 + Fields.bytes r.payload then { r with status := stNotPermitted, payload := [] } else r

/-- Answer a request: in its mailbox, or by a frame to the origin of an in-band request. -/
def State.respond (q : Req) (opcode status : Nat) (payload : Fields) (s : State) : State :=
  let r : Resp := { opcode := opcode, seq := q.seq, status := status, payload := payload }
  match q.src with
  | .host k => s.writeResponse k q.quiet r
  | .inband port origin txn =>
    s.sendDomain port 0x30 (inbandFrame origin s.deviceId txn true (128 + 8 * Fields.bytes r.inband.payload, Resp.word r.inband))

/-! ### The attended window -/

/-- Post `ATTEND_WINDOW` (R400): mailbox, new `WINDOW`, opcode held, status. -/
def State.postWindow (opcode status : Nat) (s : State) : State :=
  s.post 0x0105 [(3, s.win.mbx), (2, match s.win.state with | .closed => 0 | .opened => 1 | .pressing => 2),
    (16, opcode), (16, status)]

/-- Open the window for an attended command: interim response, 60 s (R402, R403). -/
def State.openWindow (c : Command) (q : Req) (k : Nat) (s : State) : State :=
  let w : Wait := { opcode := c.opcode, req := q, obj := some .window }
  let s1 := { s with win := { s.win with
    state := .opened, mbx := k, deadline := s.time.tick + 60 * tickS, held := some w, pressIn := false } }
  State.noteFrom s ((s1.writeResponse k q.quiet
    { opcode := c.opcode, interim := true, seq := q.seq, status := stAttendPending, payload := [] }).postWindow
      c.opcode stAttendPending)

/-- Close the window and give the command its final answer (R402, R403). -/
def State.closeWindow (status : Nat) (s : State) : State :=
  match s.win.held with
  | some w =>
    let s1 := { s with win := { s.win with state := .closed, held := none, pressIn := false } }
    State.noteFrom s ((s1.respond w.req w.opcode status []).postWindow w.opcode status)
  | none => s

/-! ### Running a command -/

/-- Carry out a reply. -/
def conclude (c : Command) (q : Req) : Reply → State
  | .done status payload s => s.respond q c.opcode status payload
  | .aside w s => { s with tci := { s.tci with aside := s.tci.aside ++ [{ w with opcode := c.opcode, req := q }] } }
  | .attend s =>
    match q.src with
    | .inband _ _ _ => s.respond q c.opcode stNotPermitted []
    | .host k =>
      if s.win.state = .closed then s.openWindow c q k else s.respond q c.opcode stBusy []
  | .kept s => s

/-- Does a waiting command hold an object the request addresses (R393). -/
def State.held (s : State) (objs : List Obj) : Bool :=
  s.tci.aside.any (fun w => w.obj.elim false (fun o => objs.contains o) || w.also.any objs.contains)

/-- The first check of R390 that fails, if any, and then R393. -/
def Command.refusal (c : Command) (q : Req) (s : State) : Option Nat :=
  let path := match q.src with
    | .inband _ _ _ => c.noInband || isService c.opcode || c.attended q s
    | .host _ => isService c.opcode && !s.plat.service
  if path then some stNotPermitted
  else if !(c.layout q).lengthOk q then some stBadLength
  else if !((c.layout q).reservedOk q && c.range q s) then some stBadParam
  else if s.held (c.objs q) then some stBusy
  else none

/-- Firmware executes a request (R390, R393). -/
def Command.execute (c : Command) (q : Req) (s : State) : State :=
  match c.refusal q s with
  | some status => s.respond q c.opcode status []
  | none => conclude c q (c.run q s)

/-- The three commands the boot ROM serves when no image is valid (17_power_and_start.md R568). -/
def bootServes (opcode : Nat) : Bool := opcode == 0x0101 || opcode == 0x0109 || opcode == 0x010C

/-- Is the request a repeat of the one answered last in its mailbox (R396). -/
def Mailbox.repeats (m : Mailbox) (q : Req) : Bool := m.resp.isSome && m.seq == q.seq

/-- A mailbox returns to `DONE` with the response it holds: it has entered `DONE`, which sets `INT_STATUS` `MBX` unless the
request was quiet (R384, R396; log entry 145). -/
def State.reshow (k : Nat) (quiet : Bool) (s : State) : State :=
  let s1 := s.updMailbox k (fun m => { m with state := .done, area := m.resp.elim m.area (fun r => r.overArea m.area) })
  if quiet then s1 else s1.raiseInt 0

/-- Firmware takes a request from its mailbox: a repeat is not executed again (R396). -/
def State.taken (q : Req) (run : State → State) (s : State) : State :=
  match q.src with
  | .host k => if (s.mailbox k).repeats q then s.reshow k q.quiet else run s
  | .inband _ _ _ => run s

/-- A request whose mailbox is `BUSY`, or an accepted in-band request, is executed by `run` if firmware or the boot ROM
serves it; otherwise it stays rung (R395, R568). -/
def State.serveWith (opcode : Nat) (q : Req) (run : State → State) (s : State) : State :=
  if s.fw.running then s.taken q run
  else if s.fw.recovery ∧ q.src = .host 0 then
    s.taken q (fun t => if bootServes opcode then run t else t.respond q opcode stNotPermitted [])
  else { s with tci := { s.tci with rung := s.tci.rung ++ [(opcode, q)] } }

/-- Execute a request, or leave it rung. -/
def Command.serve (c : Command) (q : Req) (s : State) : State := s.serveWith c.opcode q (c.execute q)

/-- A request as written in the mailbox area (R387): `rsv` holds the header bits that must be 0, lowest first. -/
def reqWord (opcode : Nat) (q : Req) : Nat :=
  Fields.pack [(16, opcode), fb q.quiet, (13, q.rsv), rz 2, (16, q.seq), (16, q.len), (16, q.rsv >>> 13), (48, q.rsv >>> 29)]
    + q.body <<< 128

/-- The request a mailbox area holds, with its opcode. -/
def reqOf (k area : Nat) : Nat × Req :=
  (bits area 0 16,
    { src := .host k, quiet := bit area 16, seq := bits area 32 16, len := bits area 48 16
      rsv := bits area 17 13 + (bits area 64 64) <<< 13, payload := area >>> 128 })

/-- The host writes a request over the start of an area. -/
def areaWith (opcode : Nat) (q : Req) (area : Nat) : Nat :=
  let n := 128 + 8 * q.len
  reqWord opcode q + (area >>> n) <<< n

/-- The doorbell of mailbox `k` (R384, R388): an error where the mailbox is `BUSY` or `PENDING`. -/
def State.doorbell (k : Nat) (then_ : State → State) (s : State) : State :=
  match (s.mailbox k).state with
  | .busy => { s with tci := { s.tci with doorbellErr := s.tci.doorbellErr ||| 2 ^ k } }
  | .pending => { s with tci := { s.tci with doorbellErr := s.tci.doorbellErr ||| 2 ^ k } }
  | _ => then_ (s.updMailbox k (fun m => { m with state := .busy }))

/-- The host writes a request into its mailbox and rings it; or an accepted in-band request arrives. -/
def runCommand (c : Command) (q : Req) (s : State) : Host.Outcome State Fault Refusal :=
  match q.src with
  | .host k =>
    if k < 8 then
      let s1 := match (s.mailbox k).state with
        | .free => s.updMailbox k (fun m => { m with area := areaWith c.opcode q m.area })
        | .done => s.updMailbox k (fun m => { m with area := areaWith c.opcode q m.area })
        | _ => s
      .next (s1.doorbell k (c.serve q))
    else .fault .noSuchUnit
  | .inband p _ _ => if p < 56 then .next (c.serve q s) else .fault .noSuchUnit

/-- A press closed the window and its command's final status is still to come: the event of that change is kept for it. -/
def State.closeLater (opcode : Nat) (s : State) : State :=
  let e : Event := { code := 0x0105, cause := s.now, epoch := s.time.stepEpoch, payload := [(3, s.win.mbx), (2, 0), (16, opcode)] }
  { s with win := { s.win with closing := Tbl.put s.win.closing s.win.mbx e } }

/-- The `ATTEND_WINDOW` event kept for a mailbox is posted with the final status (R400). DEDUCED (log entry 213): the window closes
at the press and the event, whose cause that is, carries the final status, so it is written once the status is known. -/
def State.postClosing (k status : Nat) (s : State) : State :=
  match Tbl.get? s.win.closing k with
  | none => s
  | some e =>
    let s1 := { s with win := { s.win with closing := Tbl.erase s.win.closing k } }
    let e1 := { e with payload := e.payload ++ [(16, status)] }
    if s1.fw.running then s1.writeEvent e1 else { s1 with evt := { s1.evt with kept := s1.evt.kept ++ [{ e1 with late := true }] } }

/-- The final answer to a command that has waited. -/
def State.endWait (w : Wait) (status : Nat) (payload : Fields) (s : State) : State :=
  let s1 := s.respond w.req w.opcode status payload
  match w.req.src with
  | .host k => s1.postClosing k status
  | .inband _ _ _ => s1

/-- Answer the first waiting command that satisfies `p`, if any (R393). -/
def State.finish (p : Wait → Bool) (status : Nat) (payload : Wait → Fields) (s : State) : State :=
  match s.tci.aside.find? p with
  | some w => ({ s with tci := { s.tci with aside := s.tci.aside.erase w } }).endWait w status (payload w)
  | none => s

/-- Answer every waiting command that satisfies `p`. -/
def State.finishAll (p : Wait → Bool) (status : Nat) (payload : Wait → Fields) (s : State) : State :=
  (s.tci.aside.filter p).foldl (fun s w => s.endWait w status (payload w))
    { s with tci := { s.tci with aside := s.tci.aside.filter (fun w => !p w) } }

/-- Change the waiting commands that satisfy `p`. -/
def State.updWaits (p : Wait → Bool) (f : Wait → Wait) (s : State) : State :=
  { s with tci := { s.tci with aside := s.tci.aside.map (fun w => if p w then f w else w) } }

end Sys2Proof.Machine
end

