-- ==== Sys2Proof/Machine/BankItems.lean ====
section
/-!
DEFINITION. The items of a configuration bank and their fields, and staging into the shadow bank
(13_configuration_banks.md R426 to R429). An item is held as the word of its staging command's layout; an item not
listed in a bank holds the factory-default word of its index.
-/
namespace Sys2Proof.Machine

/-! ### Port items (10_port_macs.md R300, R301, R330) -/

/-- The `PORT_CONFIG_SET` word of a port. -/
def Bank.portWord (b : Bank) (p : Nat) : Nat := Tbl.getD b.port p (Config.portDefault p)
def Bank.mode (b : Bank) (p : Nat) : Nat := bits (b.portWord p) 8 8
def Bank.rxPauseEn (b : Bank) (p : Nat) : Bool := bit (b.portWord p) 16
def Bank.txPauseEn (b : Bank) (p : Nat) : Bool := bit (b.portWord p) 17
def Bank.preemptEn (b : Bank) (p : Nat) : Bool := bit (b.portWord p) 18
def Bank.verifyDisable (b : Bank) (p : Nat) : Bool := bit (b.portWord p) 19
def Bank.addFragSize (b : Bank) (p : Nat) : Nat := bits (b.portWord p) 20 2
def Bank.maxFrame (b : Bank) (p : Nat) : Nat := bits (b.portWord p) 32 14
def Bank.expressMax (b : Bank) (p : Nat) : Nat := bits (b.portWord p) 48 14
def Bank.linkHoldMs (b : Bank) (p : Nat) : Nat := bits (b.portWord p) 64 16
def Bank.verifyTimeMs (b : Bank) (p : Nat) : Nat := bits (b.portWord p) 80 8
def Bank.pauseQuanta (b : Bank) (p : Nat) : Nat := bits (b.portWord p) 96 16
def Bank.pauseHi (b : Bank) (p : Nat) : Nat := bits (b.portWord p) 112 8
def Bank.pauseLo (b : Bank) (p : Nat) : Nat := bits (b.portWord p) 120 8

/-- The 56 network ports: P0 to P47 are indices 0 to 47, Q0 to Q7 are 48 to 55 (R300). -/
def portCount : Nat := 56

/-- The SerDes group of a port's lanes (10_port_macs.md R300, 17_power_and_start.md R565). -/
def laneGroup (p : Nat) : Nat := if p < 48 then p / 8 else 6 + (p - 48) / 2

/-- Is the SerDes group of a port powered: its March step has completed (R565). -/
def State.powered (s : State) (p : Nat) : Bool := decide (13 + laneGroup p ≤ s.plat.stepsDone)
/-- Is an index a Q-port's. -/
def isQ (p : Nat) : Bool := decide (48 ≤ p)
/-- Is a mode code allowed on a port (R301). -/
def modeAllowed (p mode : Nat) : Bool :=
  mode == 0 || (if isQ p then mode == 4 || mode == 5 || mode == 6 else mode == 1 || mode == 2 || mode == 3)
/-- Line rate of a mode in Mb/s (R301); 0 out of service. -/
def modeRate (mode : Nat) : Nat :=
  if mode = 1 then 10000 else if mode = 2 ∨ mode = 3 then 25000 else if mode = 4 then 40000
  else if mode = 5 ∨ mode = 6 then 100000 else 0
/-- The highest line rate a port can run at, Mb/s. -/
def portRateMax (p : Nat) : Nat := if isQ p then 100000 else 25000
/-- Line rate of a port under a bank, Mb/s. -/
def Bank.rate (b : Bank) (p : Nat) : Nat := modeRate (b.mode p)

/-! ### Switch items (11_switch_core.md R366 to R375) -/

def Bank.vlanWord (b : Bank) (v : Nat) : Nat := Tbl.getD b.vlan v v
def Bank.vlanOn (b : Bank) (v : Nat) : Bool := bit (b.vlanWord v) 12
def Bank.vlanLearn (b : Bank) (v : Nat) : Bool := bit (b.vlanWord v) 13
def Bank.snoopEn (b : Bank) (v : Nat) : Bool := bit (b.vlanWord v) 14
def Bank.fastLeave (b : Bank) (v : Nat) : Bool := bit (b.vlanWord v) 15
def Bank.floodUc (b : Bank) (v : Nat) : Bool := bit (b.vlanWord v) 16
def Bank.floodMc (b : Bank) (v : Nat) : Bool := bit (b.vlanWord v) 17
/-- Member mask of a VLAN: bit k = port index k, bit 56 = H. -/
def Bank.members (b : Bank) (v : Nat) : Nat := if b.vlanOn v then bits (b.vlanWord v) 32 57 else 0
def Bank.untagged (b : Bank) (v : Nat) : Nat := bits (b.vlanWord v) 96 56
def Bank.routerPorts (b : Bank) (v : Nat) : Nat := bits (b.vlanWord v) 160 56

def Bank.fwdWord (b : Bank) (p : Nat) : Nat := Tbl.getD b.fwd p (Config.fwdDefault p)
def Bank.pvid (b : Bank) (p : Nat) : Nat := bits (b.fwdWord p) 8 12
def Bank.accept (b : Bank) (p : Nat) : Nat := bits (b.fwdWord p) 20 2
def Bank.ingressFilter (b : Bank) (p : Nat) : Bool := bit (b.fwdWord p) 22
def Bank.portLearn (b : Bank) (p : Nat) : Bool := bit (b.fwdWord p) 23
def Bank.cutThrough (b : Bank) (p : Nat) : Bool := bit (b.fwdWord p) 24
def Bank.pcpClass (b : Bank) (p pcp : Nat) : Nat := bits (b.fwdWord p) (32 + 3 * pcp) 3
def Bank.defaultPcp (b : Bank) (p : Nat) : Nat := bits (b.fwdWord p) 56 3
def Bank.learnLimit (b : Bank) (p : Nat) : Nat := bits (b.fwdWord p) 64 32
def Bank.xRate (b : Bank) (p : Nat) : Nat := bits (b.fwdWord p) 96 32
def Bank.xBurst (b : Bank) (p : Nat) : Nat := bits (b.fwdWord p) 128 32

/-- Key of a static MAC entry: VLAN and MAC. -/
def macKey (vlan mac : Nat) : Nat := vlan <<< 48 + mac

def Bank.queueWord (b : Bank) (p k : Nat) : Nat := Tbl.getD b.queue (16 * p + k) (Config.queueDefault p k)
def Bank.strict (b : Bank) (p k : Nat) : Bool := bit (b.queueWord p k) 12
def Bank.weight (b : Bank) (p k : Nat) : Nat := bits (b.queueWord p k) 16 8
def Bank.alphaCode (b : Bank) (p k : Nat) : Int := toSigned 8 (bits (b.queueWord p k) 24 8)
def Bank.shaperKbps (b : Bank) (p k : Nat) : Nat := bits (b.queueWord p k) 32 32
def Bank.minCells (b : Bank) (p k : Nat) : Nat := bits (b.queueWord p k) 64 32
def Bank.maxCells (b : Bank) (p k : Nat) : Nat := bits (b.queueWord p k) 96 32
def Bank.ecnCells (b : Bank) (p k : Nat) : Nat := bits (b.queueWord p k) 128 32

def Bank.rsvWord (b : Bank) (f : Nat) : Nat := Tbl.getD b.rsv f f
def Bank.rsvOn (b : Bank) (f : Nat) : Bool := bit (b.rsvWord f) 12
def Bank.rsvPort (b : Bank) (f : Nat) : Nat := bits (b.rsvWord f) 32 8
def Bank.rsvClass (b : Bank) (f : Nat) : Nat := bits (b.rsvWord f) 40 4
def Bank.rsvKbps (b : Bank) (f : Nat) : Nat := bits (b.rsvWord f) 64 32
def Bank.rsvBurst (b : Bank) (f : Nat) : Nat := bits (b.rsvWord f) 96 32

/-! ### Stamp latencies (03_time_base_and_stamps.md R57, R75) -/

def Bank.latWord (b : Bank) (p : Nat) : Nat := Tbl.getD b.lat p p
def Bank.rxUserPs (b : Bank) (p : Nat) : Int := toSigned 32 (bits (b.latWord p) 32 32)
def Bank.txUserPs (b : Bank) (p : Nat) : Int := toSigned 32 (bits (b.latWord p) 64 32)

/-! ### References, policy, outputs (05_references_and_holdover.md R146, R152, R153) -/

def Bank.refWord (b : Bank) (r : Nat) : Nat := Tbl.getD b.ref r (Config.refDefault r)
def Bank.refType (b : Bank) (r : Nat) : Nat := bits (b.refWord r) 8 8
def Bank.rank (b : Bank) (r : Nat) : Nat := bits (b.refWord r) 16 4
def Bank.companion (b : Bank) (r : Nat) : Nat := bits (b.refWord r) 20 4
def Bank.todRx (b : Bank) (r : Nat) : Bool := bit (b.refWord r) 24
def Bank.refFalling (b : Bank) (r : Nat) : Bool := bit (b.refWord r) 25
def Bank.traceable (b : Bank) (r : Nat) : Bool := bit (b.refWord r) 26
def Bank.refParam (b : Bank) (r : Nat) : Nat := bits (b.refWord r) 32 32
def Bank.stepThresholdNs (b : Bank) : Nat := bits b.policy 0 32
def Bank.slopeLimit (b : Bank) : Nat := bits b.policy 32 32
def Bank.autoStep (b : Bank) : Bool := bit b.policy 64
def Bank.stepHorizonS (b : Bank) : Nat := bits b.policy 96 32
def Bank.holdoverLimitNs (b : Bank) : Nat := bits b.policy 128 32
def Bank.outWord (b : Bank) (o : Nat) : Nat := Tbl.getD b.out o o
def Bank.outMode (b : Bank) (o : Nat) : Nat := bits (b.outWord o) 8 3

/-! ### GNSS (06_satellite_receiver.md R177) -/

def Bank.gnssEnable (b : Bank) : Bool := bit b.gnss 0
def Bank.gnssFixed (b : Bank) : Bool := bit b.gnss 1
def Bank.biasEn (b : Bank) : Bool := bit b.gnss 2
def Bank.constMask (b : Bank) : Nat := bits b.gnss 4 4
def Bank.bandMask (b : Bank) : Nat := bits b.gnss 8 2
def Bank.gnssScale (b : Bank) : Nat := bits b.gnss 10 2
def Bank.holdMinSats (b : Bank) : Nat := bits b.gnss 12 4
def Bank.elevMask (b : Bank) : Nat := bits b.gnss 16 8
def Bank.cableDelayPs (b : Bank) : Nat := bits b.gnss 32 32
def Bank.bandBiasPs (b : Bank) : Int := toSigned 32 (bits b.gnss 64 32)
def Bank.surveyS (b : Bank) : Nat := bits b.gnss 96 32
def Bank.surveyAccMm (b : Bank) : Nat := bits b.gnss 128 32
def Bank.fixedPos (b : Bank) : Int × Int × Int :=
  (toSigned 64 (bits b.gnss 160 64), toSigned 64 (bits b.gnss 224 64), toSigned 64 (bits b.gnss 288 64))
def Bank.predictNs (b : Bank) : Nat := bits b.gnss 352 16
def Bank.moveLimitM (b : Bank) : Nat := bits b.gnss 368 16
def Bank.driftFs (b : Bank) : Nat := bits b.gnss 384 32
def Bank.jamThr (b : Bank) : Nat := bits b.gnss 416 8
def Bank.sysLimitNs (b : Bank) : Nat := bits b.gnss 424 8
def Bank.recoverS (b : Bank) : Nat := bits b.gnss 448 32

/-! ### Domain (07_timing_domain.md R214 to R216) -/

def Bank.domEnable (b : Bank) : Bool := bit b.dom 0
def Bank.rootEligible (b : Bank) : Bool := bit b.dom 1
def Bank.domFollow (b : Bank) : Bool := bit b.dom 2
def Bank.ptpDomain (b : Bank) : Nat := bits b.dom 8 8
def Bank.prio1 (b : Bank) : Nat := bits b.dom 16 8
def Bank.prio2 (b : Bank) : Nat := bits b.dom 24 8
def Bank.devId (b : Bank) : Nat := bits b.dom 32 12
def Bank.domTag (b : Bank) : Nat := bits b.dom 48 16
def Bank.domKeySlot (b : Bank) : Nat := bits b.dom 64 8
def Bank.helloCode (b : Bank) : Nat := bits b.dom 72 3
def Bank.maxHops (b : Bank) : Nat := bits b.dom 80 8
def Bank.ptimWord (b : Bank) (p : Nat) : Nat := Tbl.getD b.ptim p (Config.portTimingDefault p)
def Bank.trunk (b : Bank) (p : Nat) : Bool := bit (b.ptimWord p) 8
def Bank.esmcTx (b : Bank) (p : Nat) : Bool := bit (b.ptimWord p) 9
def Bank.fibrePair (b : Bank) (p : Nat) : Nat := bits (b.ptimWord p) 16 4
/-- Port cost; a staged 0 selects 10 (R215). -/
def Bank.cost (b : Bank) (p : Nat) : Nat := if bits (b.ptimWord p) 32 16 = 0 then 10 else bits (b.ptimWord p) 32 16
def Bank.alpha (b : Bank) (pair : Nat) : Int := toSigned 64 (bits (Tbl.getD b.pair pair pair) 64 64)

/-! ### Time service (09_time_service.md R288 to R293) -/

def Bank.ntpEn (b : Bank) : Bool := bit b.ts 0
def Bank.ntsEn (b : Bank) : Bool := bit b.ts 1
def Bank.ptpEn (b : Bank) : Bool := bit b.ts 2
def Bank.strangerGrants (b : Bank) : Bool := bit b.ts 3
def Bank.tsClass (b : Bank) : Nat := bits b.ts 8 8
def Bank.strangerClass (b : Bank) : Nat := bits b.ts 16 8
def Bank.v6KeyLen (b : Bank) : Nat := bits b.ts 24 8
def Bank.servicePorts (b : Bank) : Nat := bits b.ts 32 56
def Bank.tsPoolKib (b : Bank) : Nat := bits b.ts 96 32
def Bank.strangerUnits (b : Bank) : Nat := bits b.ts 128 32
def Bank.kodInterval (b : Bank) : Nat := bits b.ts 160 16
def Bank.ntsRequired (b : Bank) : Nat := bits b.ts 176 3
def Bank.l2Class (b : Bank) : Nat := bits b.ts 184 8
def Bank.cookieRotateS (b : Bank) : Nat := bits b.ts 192 32
def Bank.tsPrio1 (b : Bank) : Nat := bits b.ts 224 8
def Bank.tsPrio2 (b : Bank) : Nat := bits b.ts 232 8
def Bank.strangerMinLog (b : Bank) : Int := toSigned 8 (bits b.ts 240 8)
def Bank.maxDurationS (b : Bank) : Nat := bits b.ts 256 16
def Bank.grantUnitsMax (b : Bank) : Nat := bits b.ts 272 32
def Bank.strangerIdleS (b : Bank) : Nat := bits b.ts 304 32
def Bank.knownIdleS (b : Bank) : Nat := bits b.ts 336 32
def Bank.addrWord (b : Bank) (i : Nat) : Nat := Tbl.getD b.addr i i
def Bank.pfxWord (b : Bank) (i : Nat) : Nat := Tbl.getD b.pfx i (Config.prefixDefault i)
def Bank.tspolWord (b : Bank) (i : Nat) : Nat := Tbl.getD b.tspol i (Config.tspolDefault i)
def Bank.ptpWord (b : Bank) (p : Nat) : Nat := Tbl.getD b.ptp p (Config.ptpDefault p)
def Bank.ptpRole (b : Bank) (p : Nat) : Nat := bits (b.ptpWord p) 8 3
def Bank.ptpAuth (b : Bank) (p : Nat) : Nat := bits (b.ptpWord p) 19 2
def Bank.ptpProfile (b : Bank) (p : Nat) : Nat := bits (b.ptpWord p) 11 3
def Bank.ptpTransport (b : Bank) (p : Nat) : Nat := bits (b.ptpWord p) 14 2
def Bank.ptpTwoStep (b : Bank) (p : Nat) : Bool := bit (b.ptpWord p) 16
def Bank.ptpUnicast (b : Bank) (p : Nat) : Bool := bit (b.ptpWord p) 17
def Bank.ptpMulticast (b : Bank) (p : Nat) : Bool := bit (b.ptpWord p) 18
def Bank.ptpNumber (b : Bank) (p : Nat) : Nat := bits (b.ptpWord p) 24 8
def Bank.logSync (b : Bank) (p : Nat) : Int := toSigned 8 (bits (b.ptpWord p) 32 8)
def Bank.logAnnounce (b : Bank) (p : Nat) : Int := toSigned 8 (bits (b.ptpWord p) 40 8)
def Bank.logDelayReq (b : Bank) (p : Nat) : Int := toSigned 8 (bits (b.ptpWord p) 48 8)
def Bank.announceTimeout (b : Bank) (p : Nat) : Nat := bits (b.ptpWord p) 56 8
/-- Ticks of an interval of 2^k s. -/
def logTicks (k : Int) : Nat := if 0 ≤ k then tickS * 2 ^ k.toNat else tickS / 2 ^ (-k).toNat
/-- The edge port that is `SLAVE`, if any (09_time_service.md R280). -/
def Bank.slavePort (b : Bank) : Option Nat := (List.range portCount).find? (fun p => b.ptpRole p == 2)
def Bank.maxClass (b : Bank) (p : Nat) : Nat := bits (b.ptpWord p) 72 8
def Bank.masterIdentity (b : Bank) (p : Nat) : Nat := bits (b.ptpWord p) 80 64
def Bank.ptpKeySlot (b : Bank) (p : Nat) : Nat := bits (b.ptpWord p) 64 8

/-! ### The active bank -/

/-- Is a port in service under the active bank: a mode other than `0x00` (R301). -/
def State.inService (s : State) (p : Nat) : Bool := s.banks.active.mode p != 0
/-- Is a port a trunk port under the active bank (07_timing_domain.md R184). -/
def State.isTrunk (s : State) (p : Nat) : Bool := s.banks.active.trunk p
/-- Line rate of a port, Mb/s. -/
def State.rate (s : State) (p : Nat) : Nat := if (s.port p).draining then modeRate (s.port p).lastMode else s.banks.active.rate p
/-- Wire time of `n` bytes on a port in units of 2^-16 ns: 8000 n / rate ns. -/
def wireTime (rate n : Nat) : Int := if rate = 0 then 0 else ((n * 8000 * 65536 + rate - 1) / rate : Nat)

/-! ### Staging (R428, R429) -/

/-- Why the shadow takes no staging command now: `FROZEN` first, then the shadow's state (R429). -/
def State.stagingRefusal (s : State) : Option Nat :=
  if s.flt.frozen then some stNotPermitted
  else match s.banks.state with
    | .seeded => none
    | .tagged => some stNotPermitted
    | .armedLocal => some stNotPermitted
    | .retained => some stStaleBank
    | .reseeding => some stStaleBank

/-- Stage one item into the shadow: `edit_count` advances and `validated` clears (R429). -/
def stage (upd : Bank → Bank) (s : State) : Reply :=
  match s.stagingRefusal with
  | some status => .done status [] s
  | none => .done stOk [] { s with banks := { s.banks with
      shadow := upd s.banks.shadow, edits := (s.banks.edits + 1) % 2 ^ 32, validated := false, preloaded := false } }

/-- The objects a staging command addresses: its item and the whole shadow bank (R393). -/
def stageObjs (opcode key : Nat) : List Obj := [.item opcode key, .shadow]

end Sys2Proof.Machine
end

