-- ==== Sys2Proof/Machine/System.lean ====
section
/-!
DEFINITION. The system commands of group 0x01 that act on the command path, the firmware images, the seal and the
pace monitors (12_command_interface.md R414 to R425).
-/
namespace Sys2Proof.Machine

/-! ### Identity -/

/-- The register `ID_CODE` (R384). -/
def idCode : Nat := Fields.pack [(16, 0x5600), (4, Config.grade.toNat), (4, Config.stepping.toNat), rz 8]

/-- The identifiers that the PCIe function presents (18_module_and_signals.md R589): vendor, device, revision, class code, subsystem
vendor and subsystem. -/
def pcieIdentity : Fields :=
  [(16, 0x1F3C), (16, 0x5600), (8, Config.stepping.toNat), (24, 0x028000), (16, 0x1F3C), (16, Config.grade.toNat)]

/-- The slot firmware runs from, or last ran from. -/
def FwS.image (f : FwS) (slot : Bool) : Image := if slot then f.imgB else f.imgA
/-- The firmware state with an image slot replaced. -/
def FwS.setImage (f : FwS) (slot : Bool) (i : Image) : FwS := if slot then { f with imgB := i } else { f with imgA := i }

/-- A version in `FW_VERSION` layout (R384). -/
def versionWord (version : Nat) (slot fallback : Bool) : Nat :=
  Fields.pack [(24, version), fb slot, fb fallback, rz 6]

/-- The register `FW_VERSION`: 0 while firmware is not running (R384). -/
def State.fwVersion (s : State) : Nat :=
  if s.fw.running then versionWord (s.fw.image s.fw.slot).version s.fw.slot s.fw.fallback else 0

/-- An image's version in `FW_VERSION` layout; 0 if invalid (R415). -/
def State.imageWord (s : State) (slot : Bool) : Nat :=
  if (s.fw.image slot).valid then versionWord (s.fw.image slot).version slot false else 0

/-- `SYS_INFO` (R415). -/
def cmdSysInfo : Command where
  opcode := 0x0101
  run _ s := .done stOk
    [(32, idCode), (32, s.fwVersion), (32, s.imageWord false), (32, s.imageWord true), fb s.fw.nextSlot, fb s.fw.staged,
     rz 30, (64, Config.serial.toNat), (64, Config.eui64.toNat), (48, Config.macBase.toNat), rz 16,
     (32, (s.time.tick - s.fw.resetTick) / tickS), (32, if s.fw.running then (s.time.tick - s.fw.startTick) / tickS else 0),
     (8, s.fw.startReason), rz 24] s

def execSysInfo (q : Req) (s : State) : Host.Outcome State Fault Refusal := runCommand cmdSysInfo q s

/-! ### Pace -/

/-- `SYS_PACE_SET` (R416). -/
def cmdSysPaceSet : Command where
  opcode := 0x0102
  layout _ := { size := 32, fields := [(0, 8)] }
  range q _ := within 5 30 (q.f 0 8)
  run q s := .done stOk [] { s with pace := { s.pace with pct := q.f 0 8 } }

def execSysPaceSet (q : Req) (s : State) : Host.Outcome State Fault Refusal := runCommand cmdSysPaceSet q s

/-- The 18 monitored units (02_self_timed_operation.md R35). -/
def paceUnits : List Nat := List.range 18

/-- `SYS_PACE_GET`: reading `lowest` restarts it from the last gate's headroom (R416). -/
def cmdSysPaceGet : Command where
  opcode := 0x0103
  run _ s := .done stOk
    ((paceUnits.flatMap (fun u =>
        [fi 8 (if s.pace.valid then Tbl.getD s.pace.headroom u 0 else 0),
         fi 8 (if s.pace.valid then Tbl.getD s.pace.lowest u 0 else 0), rz 16]))
      ++ [(8, s.pace.pct), fb s.pace.valid, rz 23])
    { s with pace := { s.pace with lowest := s.pace.headroom } }

def execSysPaceGet (q : Req) (s : State) : Host.Outcome State Fault Refusal := runCommand cmdSysPaceGet q s

/-! ### The window -/

/-- `SYS_ATTEND_CANCEL` (R417). -/
def cmdSysAttendCancel : Command where
  opcode := 0x0104
  run _ s := if s.win.state = .closed then .done stNotPermitted [] s else .done stOk [] (s.closeWindow stAttendExpired)

def execSysAttendCancel (q : Req) (s : State) : Host.Outcome State Fault Refusal := runCommand cmdSysAttendCancel q s

/-! ### In-band TCI -/

/-- Does a request come from another device. -/
def Src.remote : Src → Bool
  | .inband _ _ _ => true
  | .host _ => false

/-- `SYS_INBAND_SET` (R418): enabling is attended; a disable refuses new requests at once, answers the waiting ones
`DRAINING` and responds at quiescence. -/
def cmdSysInbandSet : Command where
  opcode := 0x0105
  noInband := true
  attended q _ := q.b 0
  flashAct := true
  layout _ := { size := 32, fields := [(0, 1)] }
  objs _ := [.inband]
  run q s :=
    if q.b 0 = s.inb.enable then .done stNotPermitted [] s
    else if q.b 0 then .attend s
    else
      let s1 := { s with inb := { s.inb with enable := false, disabling := true } }
      let s2 := (s1.tci.rung.filter (fun e => Src.remote e.2.src)).foldl
        (fun t e => t.respond e.2 e.1 stDraining []) s1
      .aside { obj := some .inband, applied := true }
        { s2 with tci := { s2.tci with rung := s2.tci.rung.filter (fun e => !Src.remote e.2.src) } }
  act _ s := .done stOk [] { s with inb := { s.inb with enable := true } }

def execSysInbandSet (q : Req) (s : State) : Host.Outcome State Fault Refusal := runCommand cmdSysInbandSet q s

/-- Has the device joined a domain: domain frames enabled, and a root or with a parent (07_timing_domain.md R199). -/
def State.joined (s : State) : Bool := s.banks.active.domEnable && (s.dom.isRoot || s.dom.parentPort.isSome)

/-- The trunk port whose child's subtree holds a device ID (R412, 07_timing_domain.md R208). -/
def State.childPort (s : State) (target : Nat) : Option Nat :=
  (List.range portCount).find? (fun p =>
    s.isTrunk p && (s.port p).trunk.members.elim false (fun m => bit m.1 target))

/-- Where an in-band frame for a device goes (R412): toward the child that holds it, else to the parent; at the root
with no such child it is dropped. -/
def State.routeTo (s : State) (target : Nat) : Option Nat :=
  match s.childPort target with
  | some p => some p
  | none => if s.dom.isRoot then none else s.dom.parentPort

/-- `SYS_INBAND_SEND` (R419). -/
def cmdSysInbandSend : Command where
  opcode := 0x0106
  noInband := true
  layout q :=
    let n := 16 + q.f 112 16
    { size := 64 + 8 * n, fields := [(0, 12), (32, 32), (64, 8 * n)] }
  range q s := decide (q.f 32 32 ≤ 10000) && decide (16 + q.f 112 16 ≤ 1024) && q.f 0 12 != s.deviceId
  run q s :=
    if !s.joined || s.dom.dupId then .done stNotPermitted [] s
    else
      let txn := s.inb.txnNext
      let ms := if q.f 32 32 = 0 then 100 else q.f 32 32
      let s1 := { s with inb := { s.inb with txnNext := (txn + 1) % 2 ^ 32 } }
      let s2 := match s.routeTo (q.f 0 12) with
        | some p => s1.sendDomain p 0x30
            (inbandFrame (q.f 0 12) s.deviceId txn false (8 * (16 + q.f 112 16), q.payload >>> 64))
        | none => s1
      .aside { applied := true, arg := txn, due := s.time.tick + ms * tickMs } s2

def execSysInbandSend (q : Req) (s : State) : Host.Outcome State Fault Refusal := runCommand cmdSysInbandSend q s

/-! ### Flash work -/

/-- Flash work joins what a supply warning suspends, once (17_power_and_start.md R559). -/
def State.suspend (w : FlashWork) (s : State) : State :=
  if s.plat.flashWork.any (fun x => decide (x = w)) then s
  else { s with plat := { s.plat with flashWork := s.plat.flashWork ++ [w] } }

/-- Is flash or key-store work suspended (R559). -/
def State.flashWaits (s : State) : Bool :=
  s.plat.warn && (!s.plat.flashWork.isEmpty || s.mem.retiredDirty || s.leap.flashDirty || (s.banks.loaded && !s.banks.persisted)
    || s.mid.copyDue || !s.mid.erase.isEmpty || !s.keys.writes.isEmpty || s.keys.erase || s.ts.rotating || !s.win.actions.isEmpty)

/-! ### Firmware images -/

/-- The slot that is not running. -/
def FwS.spareSlot (f : FwS) : Bool := !f.slot

/-- The largest image, 48 MiB (R421). -/
def imageMax : Nat := 48 * 1048576

/-- Where the previous write of the image ended: of the writes that wait for a supply warning to end, the last one's end. -/
def State.imageEnd (s : State) : Nat :=
  s.plat.flashWork.foldl (fun n w => match w with
    | .command w => w.req.f 0 32 + w.req.f 32 16
    | _ => n) (s.fw.image s.fw.spareSlot).bytes

/-- `SYS_FW_WRITE` (R421): a write at offset 0 erases the slot; any other continues where the last one ended. It waits
while `SUPPLY_WARN` stands. -/
def cmdSysFwWrite : Command where
  opcode := 0x0109
  layout q := { size := 64 + 8 * q.f 32 16, fields := [(0, 32), (32, 16), (64, 8 * q.f 32 16)] }
  range q _ := within 1 4064 (q.f 32 16)
  run q s :=
    let slot := s.fw.spareSlot
    let img := s.fw.image slot
    let off := q.f 0 32
    let n := q.f 32 16
    if (off ≠ 0 ∧ off ≠ s.imageEnd) ∨ imageMax < off + n then .done stBadParam [] s
    else if s.plat.warn then
      .aside {} { s with plat := { s.plat with flashWork := s.plat.flashWork ++ [.command { opcode := 0x0109, req := q }] } }
    else
      let data := if off = 0 then q.bytes 64 n else img.data ++ q.bytes 64 n
      .done stOk [] { s with fw := { (s.fw.setImage slot
        { img with bytes := off + n, data := data, valid := false, confirmed := false, trials := 0 }) with
          staged := (Config.imageVersion data).isSome } }

def execSysFwWrite (q : Req) (s : State) : Host.Outcome State Fault Refusal := runCommand cmdSysFwWrite q s

/-- Why an activation is refused, or the version of the image it would start (R422, 17_power_and_start.md R566). -/
def State.activation (s : State) (bytes : Nat) : Nat ⊕ Nat :=
  let img := s.fw.image s.fw.spareSlot
  if bytes ≠ img.bytes then .inl stBadParam
  else match Config.imageVersion img.data with
    | none => .inl stBadParam
    | some v => if v.toNat < s.fw.floor then .inl stNotPermitted else .inr v.toNat

/-- `SYS_FW_ACTIVATE` (R422): at the press the written image is verified and its slot marked to be tried first; with
`restart` a processor-only restart follows at an instant within 10 ms of it (17_power_and_start.md R562), or, in boot recovery, the
boot ROM starts the image (R568). The restart's own row says the instant. -/
def cmdSysFwActivate : Command where
  opcode := 0x010C
  noInband := true
  attended _ _ := true
  flashAct := true
  layout _ := { size := 64, fields := [(0, 32), (32, 1)] }
  run q s := match s.activation (q.f 0 32) with
    | .inl status => .done status [] s
    | .inr _ => .attend s
  act q s := match s.activation (q.f 0 32) with
    | .inl status => .done status [] s
    | .inr v =>
      let slot := s.fw.spareSlot
      let img := s.fw.image slot
      let fw := s.fw.setImage slot { img with version := v, valid := true, confirmed := false, trials := 0 }
      .done stOk [(32, versionWord v slot false)]
        { s with fw := { fw with
            nextSlot := slot, staged := false
            restarts := if q.b 32 ∨ s.fw.recovery then s.fw.restarts ++ [(s.time.tick, 7)] else s.fw.restarts } }

def execSysFwActivate (q : Req) (s : State) : Host.Outcome State Fault Refusal := runCommand cmdSysFwActivate q s

/-! ### The seal -/

/-- Post `SEAL_STATE` (R400). -/
def State.postSeal (s : State) : State :=
  s.post 0x0106 [fb s.sealLoop.armed, fb s.sealLoop.closed, fb s.sealBroken]

/-- Has the seal loop been closed for the previous 10 s (R423). -/
def State.sealReady (s : State) : Bool := s.sealLoop.closed && decide (s.sealLoop.closedAt + 10 * tickS ≤ s.time.tick)

/-- `SYS_SEAL_PROVISION` (R423): at the press the loop must have been closed for 10 s. -/
def cmdSysSealProvision : Command where
  opcode := 0x010A
  noInband := true
  attended _ _ := true
  flashAct := true
  layout _ := { size := 32, fields := [(0, 32)] }
  run _ s := .attend s
  press _ s := if s.sealReady then none else some stNotPermitted
  act q s :=
    let n := (s.sealLoop.provisions + 1) % 65536
    let s1 := { s with sealLoop := { s.sealLoop with
      armed := true, latch := false, flash := false, serial := q.f 0 32, provisions := n } }
    .done stOk [(16, n)] ((State.noteFrom s (s1.conditionEnds 0x30)).postSeal)

def execSysSealProvision (q : Req) (s : State) : Host.Outcome State Fault Refusal := runCommand cmdSysSealProvision q s

/-! ### The trace ring -/

/-- Bytes of the trace ring (16_faults_and_midwinter.md R542). -/
def traceBytes : Nat := 16 * 1048576

/-- What firmware has added to its trace since the last read: how much is a free value (log entry 220). -/
def State.traceGrown (s : State) : State :=
  let (n, s1) := s.draw 24
  { s1 with fw := { s1.fw with traceEnd := s.fw.traceEnd + n } }

/-- Index of the oldest byte the trace ring holds. -/
def FwS.traceBase (f : FwS) : Nat := f.traceEnd - traceBytes

/-- The text of the trace ring from an index on, as much as a response carries. -/
def FwS.traceText (f : FwS) (start : Nat) : List Nat :=
  (List.range (min 4064 (f.traceEnd - start))).map (fun k => (Config.traceChar f.resetTick (start + k)).toNat)

/-- `SYS_TRACE_READ` (R425): text older than the ring holds is skipped. -/
def cmdSysTraceRead : Command where
  opcode := 0x0180
  layout _ := { size := 32, fields := [(0, 32)] }
  run q s :=
    let start := q.f 0 32
    let s1 := s.traceGrown
    if start < s1.fw.traceBase then .done stOk [(16, 0), rz 16, (32, s1.fw.traceBase), rz 64] s1
    else
      let text := s1.fw.traceText start
      .done stOk ([(16, text.length), rz 16, (32, start + text.length), rz 64] ++ text.map (fun b => (8, b))) s1

def execSysTraceRead (q : Req) (s : State) : Host.Outcome State Fault Refusal := runCommand cmdSysTraceRead q s

end Sys2Proof.Machine
end

