-- ==== Sys2Proof/Machine/Memory.lean ====
section
/-!
DEFINITION. Stored-data protection: DRAM lines and their symbol code, writes and their read-modify-write, corrections
and their classification, retirement, patrol and scrub, the flash scan, the flip mask, and the commands of group 0x0D
with the two window commands (15_stored_data_protection.md R494 to R521; 12_command_interface.md R420). Bytes are
modelled in the host-visible window, region 3; the other regions' contents are firmware's own and only their lines'
condition is held.
-/
namespace Sys2Proof.Machine

/-! ### Regions and lines -/

/-- Lines of a region: 15,088, 512, 256 and 512 MiB (R502). -/
def regionLines (region : Nat) : Nat :=
  16384 * (if region = 0 then 15088 else if region = 1 then 512 else if region = 2 then 256 else if region = 3 then 512 else 0)

/-- First line of a region, regions laid end to end in code order. -/
def regionFirst (region : Nat) : Nat :=
  16384 * (if region = 0 then 0 else if region = 1 then 15088 else if region = 2 then 15600 else 15856)

/-- Lines of regions 0 to 3. -/
def dramLines : Nat := 16384 * 16368

/-- Region and line of a line counted from the start of region 0. -/
def lineOf (n : Nat) : Nat × Nat :=
  if n < regionFirst 1 then (0, n)
  else if n < regionFirst 2 then (1, n - regionFirst 1)
  else if n < regionFirst 3 then (2, n - regionFirst 2)
  else (3, n - regionFirst 3)

/-- The key of a line. -/
def lineKey (region line : Nat) : Nat := region * 2 ^ 32 + line

/-- Bytes of the host-visible window, 512 MiB. -/
def windowBytes : Nat := 536870912

/-- A line as stored: region 3 is poisoned until written, the others are written by firmware (R502, R503). -/
def State.line (s : State) (key : Nat) : LineS :=
  Tbl.getD s.mem.lines key { poison := decide (key / 2 ^ 32 = 3) }

/-- The state with a line replaced. -/
def State.setLine (s : State) (key : Nat) (l : LineS) : State :=
  { s with mem := { s.mem with lines := Tbl.put s.mem.lines key l } }

/-- What the decoder finds in a line (R495, R496, R498). -/
inductive LineRead where
  | clean
  | correctable (devices : List Nat)
  | uncorrectable
  | poisoned
deriving DecidableEq, Repr

/-- The symbols in error of a line, the erased device's aside: codeword and device. -/
def LineS.errors (l : LineS) (erasure : Option Nat) : List (Nat × Nat) := (l.soft ++ l.stuck).dedup.filter (fun e => some e.2 ≠ erasure)

/-- Decoding of a line's eight codewords: the erased device's symbol is rebuilt without an event; one other symbol of
a codeword is corrected, unless a device is erased; two are uncorrectable. -/
def LineS.decode (l : LineS) (erasure : Option Nat) : LineRead :=
  if l.poison then .poisoned
  else
    let errs := l.errors erasure
    if errs.isEmpty then .clean
    else if erasure.isSome || (List.range 8).any (fun j => decide (2 ≤ (errs.filter (fun e => e.1 = j)).length)) then .uncorrectable
    else .correctable (errs.map (·.2)).dedup

/-- Is an event of a line injected: every erroneous symbol lies among those the flip mask inverted (R510; 16 R541). -/
def LineS.injected (l : LineS) (erasure : Option Nat) : Bool := !l.flipped.isEmpty && (l.errors erasure).all (fun e => l.flipped.contains e)

/-- The address field of a DRAM source (16_faults_and_midwinter.md R525). -/
def dramAddress (key : Nat) : Nat := (key / 2 ^ 32) <<< 56 + key % 2 ^ 32 * 64

/-- Advance a memory counter by one; index as in `MEM_COUNTERS` (R515). -/
def State.memCount (k : Nat) (s : State) : State :=
  let old := Tbl.getD s.mem.counters k 0
  let new := inc48 old 1
  ({ s with mem := { s.mem with counters := Tbl.put s.mem.counters k new } }).counterHalf old new 0x0D04 0 (64 * k)

/-- The page of a line: logical offset divided by 4,096 (R516). -/
def pageOf (key : Nat) : Nat := (regionFirst (key / 2 ^ 32) + key % 2 ^ 32) / 64

/-- Firmware is to retire a page, while a spare page is left (R501). -/
def State.queueRetire (key cause : Nat) (s : State) : State :=
  if s.mem.spare = 0 ∨ s.mem.toRetire.any (fun e => e.1 = pageOf key) then s
  else { s with mem := { s.mem with toRetire := s.mem.toRetire ++ [(pageOf key, cause)] } }

/-- The classification window in ticks (R500). -/
def MemS.window (m : MemS) : Nat := m.windowH * 3600 * tickS

/-- The repeat table with one line's entry replaced; where it is full the line whose last event is oldest is dropped.
Answers the table and whether a line was dropped (R500). -/
def repeatPut (e : Repeat) (l : List Repeat) : List Repeat × Bool :=
  let others := l.filter (fun r => !(r.region = e.region ∧ r.line = e.line))
  if others.length < 1024 then (others ++ [e], false)
  else
    let old := others.foldl (fun (a : Option Repeat) r => match a with
      | some x => if r.last < x.last then some r else some x
      | none => some r) none
    match old with
    | some x => (others.erase x ++ [e], true)
    | none => ([e], false)

/-- The count a line has in the table and whether it is severe, its last event not before `since`. -/
def repeatOf (since region line : Nat) (l : List Repeat) : Nat × Bool :=
  match l.find? (fun r => r.region == region && r.line == line && decide (since ≤ r.last)) with
  | some r => (r.count, r.severe)
  | none => (0, false)

/-- A correctable event enters the repeat table (R500): a line becomes severe when its count has reached `severe_n`. DEDUCED (log
entry 226): where `severe_n` was lowered, at its next event. -/
def State.classify (master access key device : Nat) (s : State) : State :=
  let region := key / 2 ^ 32
  let line := key % 2 ^ 32
  let (before, was) := repeatOf (s.time.tick - s.mem.window) region line s.mem.repeats
  let count := min (before + 1) 255
  let severe := was || decide (s.mem.severeN ≤ count)
  let (tbl, dropped) := repeatPut { region := region, line := line, count := count, last := s.time.tick, severe := severe } s.mem.repeats
  let s1 := { s with mem := { s.mem with repeats := tbl } }
  let s2 := if dropped then s1.memCount 5 else s1
  let s3 := if count = 2 ∧ before = 1 then
      (s2.memCount 3).post 0x0D01 [(8, region), (64, line * 64), (8, device), (8, count)]
    else s2
  if severe && !was then (s3.fault 0x11 master access (dramAddress key)).queueRetire key 0
  else s3

/-- One correctable event (R499): counters always; the repeat table and the watch of R496 unless it comes from a write
the flip mask corrupted (R510). -/
def State.correctEvent (master access key : Nat) (devices : List Nat) (injected : Bool) (s : State) : State :=
  let s1 := devices.foldl (fun t d => t.memCount (11 + d)) (s.memCount 0)
  if injected then s1
  else
    let seen := s1.mem.recent.filter (fun e => s.time.tick ≤ e.2.2 + tickS)
    let s2 := { s1 with mem := { s1.mem with recent := seen ++ devices.map (fun d => (d, key, s.time.tick)) } }
    s2.classify master access key (devices.headD 0)

/-- An uncorrectable line is read: counted; its first detection raises `DRAM_UE` and has its page retired (R501, R509);
an injected one is tagged and retires nothing (R510). -/
def State.uncorrectable (master access key : Nat) (s : State) : State :=
  let l := s.line key
  let s1 := s.memCount 1
  if l.seen then s1
  else
    let s2 := s1.setLine key { l with seen := true }
    let s3 := s2.faultEvent 0x10 master access (dramAddress key) (l.injected s.mem.erasure)
    if l.injected s.mem.erasure then s3 else s3.queueRetire key 1

/-! ### The flip mask (R510) -/

/-- Fields of the flip-mask register. -/
def MemS.flipTarget (m : MemS) : Nat := bits m.flip 0 4
def MemS.flipArmed (m : MemS) : Bool := bit m.flip 4
def MemS.flipCodeword (m : MemS) : Nat := bits m.flip 5 3
def MemS.flipRegion (m : MemS) : Nat := bits m.flip 8 8
def MemS.flipLine (m : MemS) : Nat := bits m.flip 32 32
/-- Symbols the mask inverts a bit of. -/
def MemS.flipSymbols (m : MemS) : List Nat := (List.range 10).filter (fun k => bits m.flip (64 + 8 * k) 8 ≠ 0)

/-- A line just written meets the armed mask, which disarms. -/
def State.flipWrite (key : Nat) (s : State) : State :=
  if s.mem.flipArmed ∧ s.mem.flipTarget = 0 ∧ lineKey s.mem.flipRegion s.mem.flipLine = key then
    let l := s.line key
    let hits := s.mem.flipSymbols.map (fun k => (s.mem.flipCodeword, k))
    let s1 := s.setLine key { l with soft := (l.soft ++ hits).dedup, flipped := hits }
    { s1 with mem := { s1.mem with flip := setBits s1.mem.flip 4 1 0 } }
  else s

/-- A corrected line is written back clean. -/
def State.writeBack (key : Nat) (s : State) : State := s.setLine key { (s.line key) with soft := [], flipped := [] }

/-- A correction: write-back, which an armed mask corrupts as any write, and verify read, each correcting read one event
(R499, R510). -/
def State.correct (master access key : Nat) (devices : List Nat) (s : State) : State :=
  let e := s.mem.erasure
  let s1 := ((s.correctEvent master access key devices ((s.line key).injected e)).writeBack key).flipWrite key
  match (s1.line key).decode e with
  | .correctable ds => (s1.correctEvent master access key ds ((s1.line key).injected e)).writeBack key
  | .uncorrectable => s1.uncorrectable master access key
  | _ => s1

/-- One read of a line by a master: is its data good (R495, R498, R499). -/
def State.dramRead (master access key : Nat) (s : State) : Bool × State :=
  match (s.line key).decode s.mem.erasure with
  | .clean => (true, s)
  | .correctable ds => (true, s.correct master access key ds)
  | .uncorrectable => (false, s.uncorrectable master access key)
  | .poisoned => (false, s.memCount 2)

/-- Read lines in turn: was every one good. -/
def State.dramReads (master access : Nat) : List Nat → State → Bool × State
  | [], s => (true, s)
  | k :: rest, s =>
    let (ok, s1) := s.dramRead master access k
    let (oks, s2) := State.dramReads master access rest s1
    (ok && oks, s2)

/-! ### Writes (R497) -/

/-- A line's condition after a write of the whole line or of part of it. -/
def State.dramWrite (master key : Nat) (whole : Bool) (s : State) : State :=
  let s1 :=
    if whole then s.setLine key { stuck := (s.line key).stuck }
    else
      match (s.line key).decode s.mem.erasure with
      | .clean => s
      | .correctable ds => s.correct master 3 key ds
      | .uncorrectable =>
        let s2 := s.uncorrectable master 3 key
        s2.setLine key { (s2.line key) with poison := true, soft := [], flipped := [] }
      | .poisoned => s.memCount 2
  s1.flipWrite key

/-- Lines of region 3 that `[off, off + n)` touches, with whether each is written whole. -/
def windowLines (off n : Nat) : List (Nat × Bool) :=
  if n = 0 then []
  else (List.range ((off + n - 1) / 64 - off / 64 + 1)).map (fun i =>
    let l := off / 64 + i
    (l, decide (off ≤ 64 * l ∧ 64 * l + 64 ≤ off + n)))

/-- The lines of a range are written. -/
def State.writeLines (master off n : Nat) (s : State) : State :=
  (windowLines off n).foldl (fun t l => t.dramWrite master (lineKey 3 l.1) l.2) s

/-- Bytes written into the host-visible window. -/
def State.windowWrite (master off : Nat) (data : List Nat) (s : State) : State :=
  let s1 := s.writeLines master off data.length
  { s1 with mem := { s1.mem with bytes := Memory.writeAll s1.mem.bytes off data } }

/-- Zeros written into the host-visible window. -/
def State.windowZero (master off n : Nat) (s : State) : State :=
  let s1 := s.writeLines master off n
  { s1 with mem := { s1.mem with bytes := Memory.clear s1.mem.bytes off (off + n) } }

/-- Every line of a range is read: good or not, and the state after. -/
def State.windowRead (master off n : Nat) (s : State) : Bool × State :=
  s.dramReads master 1 ((windowLines off n).map (fun l => lineKey 3 l.1))

/-- First byte of the cue frame buffer in the window (08_cues.md R226, R252). -/
def cueBufferOffset : Nat := Config.cueFrameSlot.val * 16384
/-- Bytes of the cue frame buffer: 8,192 slots of 16 KiB. -/
def cueBufferBytes : Nat := 8192 * 16384

/-! ### The window by message (12_command_interface.md R420) -/

/-- `SYS_WINDOW_READ`: an uncorrectable line gives `NOT_PERMITTED` and no data (R504). -/
def cmdSysWindowRead : Command where
  opcode := 0x0107
  layout _ := { size := 96, fields := [(0, 64), (64, 32)] }
  range q _ := q.f 0 64 % 4 == 0 && q.f 64 32 % 4 == 0 && decide (q.f 64 32 ≤ 4064) && decide (q.f 0 64 + q.f 64 32 ≤ windowBytes)
  run q s :=
    let (ok, s1) := s.windowRead 4 (q.f 0 64) (q.f 64 32)
    if ok then .done stOk ((Memory.readAll s1.mem.bytes (q.f 0 64) (q.f 64 32)).map (fun b => (8, b))) s1
    else .done stNotPermitted [] s1

def execSysWindowRead (q : Req) (s : State) : Host.Outcome State Fault Refusal := runCommand cmdSysWindowRead q s

/-- `SYS_WINDOW_WRITE`: data, or zeros over any length; the cue frame buffer is refused. -/
def cmdSysWindowWrite : Command where
  opcode := 0x0108
  layout q :=
    let n := if q.b 96 then 0 else q.f 64 32
    { size := 128 + 8 * n, fields := [(0, 64), (64, 32), (96, 1), (128, 8 * n)] }
  range q _ := q.f 0 64 % 4 == 0 && q.f 64 32 % 4 == 0 && (q.b 96 || decide (q.f 64 32 ≤ 4064))
    && decide (q.f 0 64 + q.f 64 32 ≤ windowBytes)
  run q s :=
    let off := q.f 0 64
    let n := q.f 64 32
    if n ≠ 0 ∧ off < cueBufferOffset + cueBufferBytes ∧ cueBufferOffset < off + n then .done stNotPermitted [] s
    else if q.b 96 then .done stOk [] (s.windowZero 4 off n)
    else .done stOk [] (s.windowWrite 4 off (q.bytes 128 n))

def execSysWindowWrite (q : Req) (s : State) : Host.Outcome State Fault Refusal := runCommand cmdSysWindowWrite q s

/-- A host read over PCIe of `n` bytes of the BAR2 window: one that meets an uncorrectable line completes with the EP bit set
and data bytes of `0xFF` (R504). -/
def State.bar2Read (offset n : Nat) (s : State) : State :=
  let (ok, s1) := s.windowRead 4 offset n
  s1.emit (.bar2 offset (!ok) (if ok then ofBytes (Memory.readAll s1.mem.bytes offset n) else 2 ^ (8 * n) - 1))

/-- A host access over PCIe to the BAR2 window (R497): a whole line written is encoded fresh, a part is merged. Bytes beyond
the window, or with the link down, reach nothing. -/
def execBar2Write (dt offset : Nat) (access : WindowAccess) (s : State) : Host.Outcome State Fault Refusal :=
  let s1 := s.advance dt
  .next (if !s1.plat.pcieUp then s1
  else match access with
    | .write data => s1.windowWrite 4 offset (data.take (windowBytes - offset))
    | .read n => s1.bar2Read offset (min n (windowBytes - offset)))

/-! ### Reads that meet errors -/

/-- New symbol errors in a line, found by its next read: upsets, and cells that fail after every write. With one beside those
of the flip mask the line's next detection is a real one (16_faults_and_midwinter.md R541). -/
def State.hurt (key : Nat) (soft stuck : List (Nat × Nat)) (s : State) : State :=
  let ok := fun (e : Nat × Nat) => decide (e.1 < 8) && decide (e.2 < 10)
  let l := s.line key
  if (soft ++ stuck).isEmpty then s
  else s.setLine key { l with
    soft := (l.soft ++ soft.filter ok).dedup, stuck := (l.stuck ++ stuck.filter ok).dedup
    seen := l.seen && (l.flipped.isEmpty || ((soft ++ stuck).filter ok).all (fun e => l.flipped.contains e)) }

/-- A read that corrects a line writes it back and verifies it (R499): the master that reads, the line, and the symbol
errors that have arisen in it. -/
def execDramReadCorrect (dt master region line : Nat) (soft stuck : List (Nat × Nat)) (s : State) :
    Host.Outcome State Fault Refusal :=
  let s1 := s.advance dt
  if line < regionLines region then .next ((s1.hurt (lineKey region line) soft stuck).dramRead master 1 (lineKey region line)).2
  else .fault .noSuchUnit

/-- Ledger entries of a bucket without its entry number `way`: line `8 * bucket + way` of region 1 (log entry 21). -/
def dropWay (bucket : Nat) : Nat → List Ledger → List Ledger
  | _, [] => []
  | way, e :: rest =>
    if e.bucket = bucket then (if way = 0 then rest else e :: dropWay bucket (way - 1) rest) else e :: dropWay bucket way rest

/-- A line with no event for one window leaves the repeat table, DRAM and SRAM rows alike (R500, R506). -/
def execRepeatWindowExpire (dt : Nat) (s : State) : Host.Outcome State Fault Refusal :=
  let s1 := s.advance dt
  let keep := fun (r : Repeat) => decide (s1.time.tick < r.last + s1.mem.window)
  .next { s1 with mem := { s1.mem with repeats := s1.mem.repeats.filter keep, sramRepeat := s1.mem.sramRepeat.filter keep } }

/-- Distinct lines corrected at a device's position in the last second (R496). -/
def State.linesAt (s : State) (device : Nat) : Nat :=
  ((s.mem.recent.filter (fun e => e.1 = device ∧ s.time.tick ≤ e.2.2 + tickS)).map (·.2.1)).dedup.length

/-- Corrections at one position in 32 lines within 1 s mark that device (R496): at most one, for the module's life. -/
def execDramErasureMark (dt device : Nat) (s : State) : Host.Outcome State Fault Refusal :=
  let s1 := s.advance dt
  if device < 10 then
    .next (if s1.mem.erasure.isNone ∧ 32 ≤ s1.linesAt device then
      (({ s1 with mem := { s1.mem with erasure := some device } }).fault 0x12 6 1 0).post 0x0D03 [(8, device)]
    else s1)
  else .fault .noSuchUnit

/-! ### Retirement (R501) -/

/-- The `DRAM_SPARE` condition follows the spare pages: a record `MINOR` while 1 to 256 remain, `ACTIVE` when none do
(16_faults_and_midwinter.md R524). -/
def State.spareFault (s : State) : State :=
  if 256 < s.mem.spare then s
  else if !(s.src 0x13).standing then s.condition 0x13 6 6 0
  else if s.mem.spare = 0 then
    match s.episode 0x13 false with
    | some i =>
      if (s.record i).state = .minor then
        State.settleFaults s ((s.updRecord i (fun r => { r with state := .active })).post 0x0E02
          [(6, i), (8, 0x13), (8, (s.record i).window)])
      else s
    | none => s
  else s

/-- One line of a page read and copied to its spare: correctable lines corrected, others as poisoned. DEDUCED (log entry 226): the
read counts as any other. -/
def State.copyLine (key : Nat) (s : State) : State :=
  let good : LineS := {}
  let (ok, s1) := s.dramRead 6 1 key
  if ok ∧ s1.line key = good then s1 else s1.setLine key { good with poison := !ok }

/-- Firmware copies a page to a spare and installs the remap. -/
def execPageRetire (dt : Nat) (s : State) : Host.Outcome State Fault Refusal :=
  let s1 := s.advance dt
  .next (match s1.mem.toRetire with
    | (page, cause) :: rest =>
      if s1.fw.running then
        if s1.mem.spare = 0 then State.spareFault { s1 with mem := { s1.mem with toRetire := rest } }
        else
          let keys := (List.range 64).map (fun i => lineKey (lineOf (page * 64 + i)).1 (lineOf (page * 64 + i)).2)
          let s2 := keys.foldl (fun t k => t.copyLine k) s1
          let s3 := { s2 with mem := { s2.mem with
            toRetire := s2.mem.toRetire.filter (fun e => e.1 ≠ page), spare := s2.mem.spare - 1, retiredDirty := true,
            retired := s2.mem.retired.concat (Retired.mk page cause s1.now) } }
          ((s3.memCount 4).post 0x0D02 [(32, page), (8, cause), (16, s3.mem.spare)]).spareFault
      else s1
    | [] => s1)

/-- The retirement list is written to the persistent-state partition; it waits while `SUPPLY_WARN` stands. -/
def execRetirementPersist (dt : Nat) (s : State) : Host.Outcome State Fault Refusal :=
  let s1 := s.advance dt
  .next (if s1.fw.running ∧ !s1.plat.warn then { s1 with mem := { s1.mem with retiredDirty := false, retiredFlash := s1.mem.retired } } else s1)

/-! ### Patrol and scrub (R509) -/

/-- Ticks between two lines of a patrol that spreads them evenly over `patrol_h`. -/
def State.patrolGap (s : State) : Nat := s.mem.patrolH * 3600 * tickS / dramLines

/-- The patrol reads its next line of regions 0 to 3 when its turn has come, with the errors that have arisen in it. -/
def execPatrolLine (dt : Nat) (soft stuck : List (Nat × Nat)) (s : State) : Host.Outcome State Fault Refusal :=
  let s1 := s.advance dt
  .next (if s1.mem.patrolH = 0 ∨ s1.time.tick < s1.mem.patrolAt + s1.patrolGap then s1
  else
    let n := s1.mem.patrolLine
    let key := lineKey (lineOf n).1 (lineOf n).2
    let s2 := ((s1.hurt key soft stuck).dramRead 6 1 key).2
    if n + 1 < dramLines then { s2 with mem := { s2.mem with patrolLine := n + 1, patrolAt := s1.time.tick } }
    else { s2 with mem := { s2.mem with patrolLine := 0, patrolAt := s1.time.tick, lastPatrol := s1.now } })

/-- `MEM_SCRUB` (R514): one scrub at a time; it stands aside until the range is read. -/
def cmdMemScrub : Command where
  opcode := 0x0D03
  layout _ := { size := 160, fields := [(0, 8), (32, 64), (96, 64)] }
  range q _ :=
    let size := regionLines (q.f 0 8) * 64
    decide (q.f 0 8 ≤ 3) && q.f 32 64 % 4096 == 0 && q.f 96 64 % 4096 == 0 && decide (q.f 32 64 + q.f 96 64 ≤ size)
      && decide (q.f 32 64 < size)
  objs _ := [.scrub]
  run q s :=
    let first := q.f 32 64 / 64
    let count := if q.f 96 64 = 0 then regionLines (q.f 0 8) - first else q.f 96 64 / 64
    .aside { obj := some .scrub, applied := true } { s with mem := { s.mem with
      scrub := some { wait := {}, region := q.f 0 8, first := first, count := count, start := s.time.tick } } }

def execMemScrub (q : Req) (s : State) : Host.Outcome State Fault Refusal := runCommand cmdMemScrub q s

/-- Lines of a scrub's range that the table lists, in order. -/
def State.scrubKeys (s : State) (x : Scrub) : List Nat :=
  (s.mem.lines.map (·.1)).filter (fun k =>
    decide (lineKey x.region x.first ≤ k) && decide (k < lineKey x.region (x.first + x.count)))

/-- One line of a scrub: read, and counted in its summary. -/
def State.scrubLine (k : Nat) (a : Scrub × State) : Scrub × State :=
  let (x, s) := a
  let kind := (s.line k).decode s.mem.erasure
  let (_, s1) := s.dramRead 6 1 k
  let grew := fun i => Tbl.getD s1.mem.counters i 0 + 2 ^ 48 - Tbl.getD s.mem.counters i 0
  let dev := (List.range 10).foldl (fun t d =>
    let n := grew (11 + d) % 2 ^ 48
    if n = 0 then t else Tbl.upd t d 0 (fun v => min (v + n) 4294967295)) x.byDevice
  let x1 := { x with corrected := min (x.corrected + grew 0 % 2 ^ 48) 4294967295, sticky := x.sticky + grew 3 % 2 ^ 48, byDevice := dev }
  match kind with
  | .uncorrectable => ({ x1 with ue := x1.ue + 1, firstUe := x1.firstUe.orElse (fun _ => some (k % 2 ^ 32 * 64)) }, s1)
  | .poisoned => ({ x1 with poisoned := x1.poisoned + 1 }, s1)
  | _ => (x1, s1)

/-- A host-triggered scrub finishes its range and responds (R509, R514). Lines of region 3 never written are poisoned. -/
def execMemScrubDone (dt : Nat) (s : State) : Host.Outcome State Fault Refusal :=
  let s1 := s.advance dt
  .next (match s1.mem.scrub with
    | none => s1
    | some x =>
      let keys := s1.scrubKeys x
      let (y, s2) := keys.foldl (fun a k => State.scrubLine k a) (x, s1)
      let unwritten := if x.region = 3 then x.count - keys.length else 0
      let old := Tbl.getD s2.mem.counters 2 0
      let new := inc48 old unwritten
      let s3 := ({ s2 with mem := { s2.mem with scrub := none, counters := Tbl.put s2.mem.counters 2 new } }).counterHalf
        old new 0x0D04 0 128
      s3.finish (fun w => w.obj = some Obj.scrub) stOk (fun _ =>
        [(64, x.count), (32, y.corrected), (32, y.ue), (32, y.poisoned + unwritten), (32, y.sticky)]
          ++ (List.range 10).map (fun d => (32, Tbl.getD y.byDevice d 0))
          ++ [(64, y.firstUe.getD (2 ^ 64 - 1)), (32, (s1.time.tick - x.start) / tickMs)]))

/-! ### Flash (R507, R508) -/

/-- t and copies of a flash partition, in the order of R507. -/
def flashPartition (p : Nat) : Nat × Nat :=
  match p with
  | 0 => (72, 2)
  | 1 => (72, 2)
  | 2 => (40, 1)
  | 3 => (40, 2)
  | 4 => (40, 2)
  | 5 => (24, 2)
  | 6 => (8, 1)
  | _ => (0, 1)

/-- The state with a partition's health changed. -/
def State.updFlash (p : Nat) (f : FlashPart → FlashPart) (s : State) : State :=
  { s with mem := { s.mem with flash := Tbl.upd s.mem.flash p {} f } }

/-- The image slot of a device no longer passes its checks. -/
def FwS.spoil (f : FwS) (device : Nat) : FwS :=
  let slot := device == 1
  f.setImage slot { f.image slot with valid := false, data := [] }

/-- A page with a sector that cannot be corrected (R508): a partition with a second copy is mended from it; otherwise
the page is lost, which empties a Midwinter slot and spoils a firmware image. -/
def State.flashLost (part device : Nat) (s : State) : State :=
  if part = 5 then State.noteFrom s { s with mid := { s.mid with loc := Tbl.erase s.mid.loc (device + 1) } }
  else if part = 2 then { s with fw := s.fw.spoil device }
  else s

/-- A page is rewritten into a fresh block (R508). -/
def State.flashRefresh (part : Nat) (s : State) : State := (s.memCount 10).updFlash part (fun f => { f with maxErase := f.maxErase + 1 })

/-- Firmware's 30-day scan reads a page (R508): the most corrections one of its sectors needed, its age, its sectors that
cannot be corrected, and the partition's bad blocks. A pass of the scan begins with page 0 (R517; log entry 221). -/
def execFlashRefreshScan (dt part device page corrected ageDays lostSectors badBlocks : Nat) (s : State) :
    Host.Outcome State Fault Refusal :=
  let s1 := s.advance dt
  if 8 ≤ part ∨ 2 ≤ device then .fault .noSuchUnit
  else if !s1.fw.running then .next s1
  else
    let s2 := s1.updFlash part (fun f => { f with
      maxCorrected := if page = 0 then corrected else max f.maxCorrected corrected, badBlocks := badBlocks, lastScan := s1.now })
    let s3 := (List.range lostSectors).foldl (fun t _ => t.memCount 9) s2
    let s4 := if lostSectors = 0 then s3
      else ((s3.fault 0x16 1 1 (part <<< 56 + device <<< 48 + page)).post 0x0D05 [(8, part), (8, device), (32, page)]).flashLost part device
    let rewrite := decide ((flashPartition part).1 < 2 * corrected) || decide (365 < ageDays)
      || (lostSectors != 0 && (flashPartition part).2 == 2 && part != 5)
    .next (if rewrite then
      if s4.plat.warn then { s4 with plat := { s4.plat with flashWork := s4.plat.flashWork ++ [.refresh part] } }
      else s4.flashRefresh part
    else s4)

/-! ### Commands (R511 to R520) -/

/-- `MEM_STATUS` (R512). -/
def cmdMemStatus : Command where
  opcode := 0x0D01
  run _ s :=
    let m := s.mem
    .done stOk [(4, m.erasure.getD 15), fb m.scrub.isSome,
      fb s.flashWaits, fb m.flipArmed, rz 9,
      (16, m.spare), (16, m.repeats.length), (16, (m.flagged.filter (fun r => !r.fused)).length), ft m.lastPatrol,
      (8, m.severeN), rz 8, (16, m.windowH), (16, m.patrolH), rz 16] s

def execMemStatus (q : Req) (s : State) : Host.Outcome State Fault Refusal := runCommand cmdMemStatus q s

/-- The flash copy of the memory policy is written (R507, R513). -/
def State.savePolicy (s : State) : State :=
  { s with mem := { s.mem with policyFlash := (s.mem.severeN, s.mem.windowH, s.mem.patrolH) } }

/-- Firmware records the flagged rows in the persistent-state partition, when it runs and no warning stands (R506). -/
def State.saveRows (s : State) : State :=
  if s.fw.running ∧ !s.plat.warn then
    { s with
      mem := { s.mem with flaggedFlash := s.mem.flagged }
      plat := { s.plat with flashWork := s.plat.flashWork.filter (fun w => decide (w ≠ FlashWork.rows)) } }
  else s.suspend .rows

/-- `MEM_POLICY_SET` (R513): in force at once, its flash copy when no warning stands. -/
def cmdMemPolicySet : Command where
  opcode := 0x0D02
  layout _ := { size := 64, fields := [(0, 8), (16, 16), (32, 16)] }
  range q _ := within 2 255 (q.f 0 8) && within 1 720 (q.f 16 16) && decide (q.f 32 16 ≤ 168)
  run q s :=
    let s1 := { s with mem := { s.mem with severeN := q.f 0 8, windowH := q.f 16 16, patrolH := q.f 32 16 } }
    .done stOk [] (if s.plat.warn then s1.suspend .memPolicy else s1.savePolicy)

def execMemPolicySet (q : Req) (s : State) : Host.Outcome State Fault Refusal := runCommand cmdMemPolicySet q s

/-- `MEM_COUNTERS` (R515). -/
def cmdMemCounters : Command where
  opcode := 0x0D04
  run _ s := .done stOk ((List.range 21).map (fun k => (64, Tbl.getD s.mem.counters k 0))) s

def execMemCounters (q : Req) (s : State) : Host.Outcome State Fault Refusal := runCommand cmdMemCounters q s

/-- `MEM_RETIRED_LIST` (R516). -/
def cmdMemRetiredList : Command where
  opcode := 0x0D05
  layout _ := { size := 16, fields := [(0, 16)] }
  run q s :=
    let l := (s.mem.retired.drop (q.f 0 16)).take 64
    .done stOk ([(8, l.length), rz 24] ++ l.flatMap (fun r => [(32, r.page), (8, r.cause), rz 24, ft r.tickAt, rz 32])) s

def execMemRetiredList (q : Req) (s : State) : Host.Outcome State Fault Refusal := runCommand cmdMemRetiredList q s

/-- `MEM_FLASH_STATUS` (R517). -/
def cmdMemFlashStatus : Command where
  opcode := 0x0D06
  layout _ := { size := 8, fields := [(0, 8)] }
  range q _ := decide (q.f 0 8 ≤ 7)
  run q s :=
    let f := Tbl.getD s.mem.flash (q.f 0 8) {}
    let p := flashPartition (q.f 0 8)
    .done stOk [(8, p.1), (8, p.2), (16, f.maxCorrected), (32, f.badBlocks), (32, f.maxErase), ft f.lastScan] s

def execMemFlashStatus (q : Req) (s : State) : Host.Outcome State Fault Refusal := runCommand cmdMemFlashStatus q s

/-- `MEM_SRAM_FLAGS` (R518). -/
def cmdMemSramFlags : Command where
  opcode := 0x0D07
  layout _ := { size := 16, fields := [(0, 16)] }
  run q s :=
    let l := (s.mem.flagged.drop (q.f 0 16)).take 64
    .done stOk ([(8, l.length), rz 24] ++ l.flatMap (fun r =>
      [(4, r.array), rz 4, (8, r.bank), (16, r.row), fb r.fused, rz 31, ft r.tickAt, rz 32])) s

def execMemSramFlags (q : Req) (s : State) : Host.Outcome State Fault Refusal := runCommand cmdMemSramFlags q s

/-- `MEM_FLIP_ARM` (R519, R510): the request is the register. -/
def cmdMemFlipArm : Command where
  opcode := 0x0D80
  layout _ := { size := 144, fields := [(0, 4), (4, 1), (5, 3), (8, 8), (32, 32), (64, 80)] }
  range q _ := decide (q.f 0 4 ≤ 6) && (q.f 0 4 == 0 || q.f 5 3 == 0)
    && (q.f 0 4 != 0 || (decide (q.f 8 8 ≤ 3) && decide (q.f 32 32 < regionLines (q.f 8 8))))
  run q s :=
    if !s.plat.factoryTest ∨ q.f 0 4 = 5 ∨ (q.f 0 4 = 0 ∧ q.f 8 8 = 0) ∨ (q.b 4 ∧ s.mem.flipArmed) then .done stNotPermitted [] s
    else .done stOk [] { s with mem := { s.mem with flip := q.f 0 144 } }

def execMemFlipArm (q : Req) (s : State) : Host.Outcome State Fault Refusal := runCommand cmdMemFlipArm q s

/-- Spare rows of a bank of an SRAM array (R505). -/
def arrayRows (array : Nat) : Nat := if array = 1 then 16 else if array = 5 then 4 else 8

/-- Spare rows left in a bank. -/
def spareRowsIn (spares : List (Nat × Nat)) (array bank : Nat) : Nat := Tbl.getD spares (256 * array + bank) (arrayRows array)
def MemS.spareRows (m : MemS) (array bank : Nat) : Nat := spareRowsIn m.sparesLeft array bank

/-- One flagged row takes a spare if its bank has one (R520): spares left, rows programmed, whether a bank had none. -/
def fuseRow (a : List (Nat × Nat) × List SramRow × Nat × Bool) (r : SramRow) : List (Nat × Nat) × List SramRow × Nat × Bool :=
  let (spares, rows, n, short) := a
  if r.fused then (spares, rows ++ [r], n, short)
  else if spareRowsIn spares r.array r.bank = 0 then (spares, rows ++ [r], n, true)
  else
    (Tbl.put spares (256 * r.array + r.bank) (spareRowsIn spares r.array r.bank - 1),
      rows ++ [{ r with fused := true }], n + 1, short)

/-- `MEM_FUSE_PROGRAM` (R520): the fuses take effect at the next full reset. -/
def cmdMemFuseProgram : Command where
  opcode := 0x0D81
  run _ s :=
    if s.plat.warn then .done stNotPermitted [] s
    else
      let (spares, rows, n, short) := s.mem.flagged.foldl fuseRow (s.mem.sparesLeft, [], 0, false)
      let fewest := (spares.map (·.2)).foldl min 4
      let s1 := { s with mem := { s.mem with
        sparesLeft := spares, flagged := rows, flaggedFlash := rows, fuseDone := s.mem.fuseDone || decide (0 < n) } }
      if short then .done stBusy [] s1 else .done stOk [(16, n), (16, fewest)] s1

def execMemFuseProgram (q : Req) (s : State) : Host.Outcome State Fault Refusal := runCommand cmdMemFuseProgram q s

/-- The armed flip mask corrupts the next write to its line and disarms (R510): a write, of the whole line for DRAM, by a
master whose data the model does not hold; for region 3 its 64 bytes are `data`. -/
def execFlipMaskWrite (dt : Nat) (data : List Nat) (s : State) : Host.Outcome State Fault Refusal :=
  let s1 := s.advance dt
  let m := s1.mem
  .next (if !m.flipArmed then s1
  else if m.flipTarget = 0 then
    if m.flipRegion = 3 then s1.windowWrite 4 (m.flipLine * 64) ((data ++ List.replicate 64 0).take 64)
    else s1.dramWrite 1 (lineKey m.flipRegion m.flipLine) true
  else
    { s1 with mem := { m with
      flip := setBits m.flip 4 1 0
      flipped := Tbl.put m.flipped (m.flipTarget * 2 ^ 40 + m.flipRegion * 2 ^ 32 + m.flipLine) (bits m.flip 64 80) } })

end Sys2Proof.Machine
end

