-- ==== Sys2Proof/Machine/Meas.lean ====
section
/-!
DEFINITION. The measurement bank: the TDC channels and their calibration, the regression engine and its jobs, the
oven and clean-up PLL, capture records, and the commands of group 0x06 (04_interval_measurement.md R78 to R107;
08_cues.md R235).
-/
namespace Sys2Proof.Machine

/-! ### Capture ring records (08_cues.md R235) -/

/-- Write a 32-byte capture record into the ring if it is enabled and at least one record stays free: was it written. An event
that finds the ring disabled counts as lost too (DEDUCED from R234, log entry 158). The producer index follows each record; the
consumer index is the word the host keeps after it. -/
def State.captureRecord (rec_ : Fields) (s : State) : Bool × State :=
  let c := s.cap
  let tail := c.offset + 32 * c.entries
  if !c.enable then (false, s)
  else
    let (ok, s1) := s.windowRead 13 (tail + 8) 8
    let consumer := if ok then ofBytes (Memory.readAll s1.mem.bytes (tail + 8) 8) else c.consumer
    let used := (c.producer + 2 ^ 64 - consumer) % 2 ^ 64
    if used + 1 < c.entries then
      let slot := c.producer % c.entries
      let next := (c.producer + 1) % 2 ^ 64
      let s2 := (s1.windowWrite 13 (c.offset + 32 * slot) (toBytes 32 (Fields.pack rec_))).windowWrite 13 tail (toBytes 8 next)
      (true, ({ s2 with cap := { c with producer := next, consumer := consumer } }).emit (.record .capture slot rec_))
    else (false, { s1 with cap := { c with consumer := consumer } })

/-- Is a capture source's gate open as its executed moves leave it (08_cues.md R234). -/
def State.captureNow (s : State) (src : Nat) : Bool :=
  if src < 16 then !s.cap.closedTdc.contains src else s.cap.openPorts.contains (src - 16)

/-- Is a capture source's gate open for an event stamped at a step-free instant (08_cues.md R234): at or after the opening
tick, before the closing tick. Rows that are due and not yet executed count as moves. -/
def State.captureOpen (s : State) (src : Nat) (sf : Int) : Bool :=
  let now := s.captureNow src
  let done := (s.cap.moves.filter (fun m => m.1 == src)).map (·.2)
  let due := (s.cue.rows.filter (fun e => !e.2.template && (e.2.kind == 5 || e.2.kind == 6) && e.2.target == src)).map
    (fun e => (s.timeAt (s.tickOf e.2.inst * 262144) - s.time.stepSum, e.2.kind == 5))
  let l := (((done.map (fun m => (m.1, m.2.1))).reverse ++ due).mergeSort (fun a b => decide (a.1 ≤ b.1)))
  match (l.filter (fun m => decide (m.1 ≤ sf))).getLast? with
  | some m => m.2
  | none => done.getLast?.elim now (fun m => m.2.2)

/-! ### Channel settings -/

def Channel.source (c : Channel) : Nat := bits c.cfg 8 8
def Channel.captures (c : Channel) : Bool := bit c.cfg 18
/-- The prescaler's divisor p (R86). -/
def Channel.presc (c : Channel) : Nat := bits c.cfg 32 8 + 1
/-- The decimator's divisor d. -/
def Channel.decim (c : Channel) : Nat := bits c.cfg 64 32
def Channel.running (c : Channel) : Bool := c.state == 2

/-- A channel's word in the `MEAS_CHANNEL_SET` layout. -/
def channelWord (ch source edge p d : Nat) : Nat :=
  Fields.pack [(4, ch), rz 4, (8, source), (1, 1), (1, edge), rz 14, (8, p - 1), rz 24, (32, d), rz 64]

/-- Is a source code one of R79. -/
def sourceOk (c : Nat) : Bool := decide (c ≤ 6) || within 0x08 0x0F c || within 0x10 0x47 c

/-- Nominal frequency of the recovered clock, µHz (R79). -/
def recoveredUhz : Rat := 161132812500000

/-- Nominal frequency of a source under a bank, µHz (R79); 0 where the source has no configured frequency. -/
def Bank.sourceUhz (b : Bank) (c : Nat) : Rat :=
  if within 1 4 c then (if b.refType c = 0 then 0 else ((b.refParam c * 1000000 : Nat) : Rat))
  else if c = 5 then 1000000
  else if c = 6 then 10000000000000
  else if within 0x08 0x0F c then
    let o := c - 8
    let v := bits (b.outWord o) 32 64
    if b.outMode o = 1 then mkRat 1000000000000000 v else if b.outMode o = 2 then (v : Rat) else 0
  else if within 0x10 0x47 c then recoveredUhz
  else 0

/-- Nominal frequency of a channel's source, µHz: its own setting, or that of R79. -/
def State.channelUhz (s : State) (c : Channel) : Rat :=
  let own := bits c.cfg 96 64
  if own ≠ 0 then (own : Rat) else s.banks.active.sourceUhz c.source

/-- Is a source a PPS source, which takes p = 1 and d = 1 (R86). -/
def Bank.ppsSource (b : Bank) (c : Nat) : Bool := c == 5 || (within 1 4 c && (b.refType c == 2 || b.refType c == 5))

/-- Do p and d suit a source of nominal frequency `f` µHz (R86). -/
def dividersOk (f : Rat) (p d : Nat) (pps : Bool) : Bool :=
  (if p = 1 then decide (f ≤ 50000000000000) else decide (f ≤ 1500000000000000))
    && decide (f ≤ 20000000000000 * ((p * d : Nat) : Rat)) && (!pps || (p == 1 && d == 1))

/-- The divisors of a frequency reference's channel (05_references_and_holdover.md R110): the smallest p that divides N
and brings the frequency to 50 MHz or less, and d = N / p; N = f / 1 kHz. -/
def refDividers (hz : Nat) : Option (Nat × Nat) :=
  let n := hz / 1000
  if hz % 1000 ≠ 0 ∨ hz < 1000000 ∨ 1500000000 < hz then none
  else
    ((List.range 256).find? (fun i => n % (i + 1) = 0 ∧ hz ≤ 50000000 * (i + 1))).map (fun i => (i + 1, n / (i + 1)))

/-- The divisors of a SyncE channel (log entry 22): 161.1328125 MHz by 4 and 40,283, one event per millisecond nearly. -/
def synceDividers : Nat × Nat := (4, 40283)

/-- The word TIC8 runs under while it watches an output (R141): the active edge, and of a frequency output the smallest p
that R86 allows and one event per millisecond at the most (DESIGN CHOICE, log entry 154). Of an output in cue mode both edges
reach the channel, since each cue edge is checked (08_cues.md R233; DEDUCED, log entry 203). -/
def Bank.monitorWord (b : Bank) (o : Nat) : Nat :=
  let falling := (bit (b.outWord o) 11).toNat
  if b.outMode o = 2 then
    let uhz := bits (b.outWord o) 32 64
    let p := (uhz + 49999999999999) / 50000000000000
    channelWord 8 (8 + o) falling p ((uhz + 1000000000 * p - 1) / (1000000000 * p))
  else channelWord 8 (8 + o) falling 1 1

/-- The outputs a bank enables (R137). -/
def Bank.enabledOutputs (b : Bank) : List Nat := (List.range 8).filter (fun o => b.outMode o != 0)

/-- The input mode of the `REFIN` of references 1 to 4: AC while it is named by one of type FREQ, else DC (18_module_and_signals.md
R591). -/
def Bank.refinAc (b : Bank) (ref : Nat) : Bool := within 1 4 ref && b.refType ref == 6

/-- The word a system channel runs under in a bank, 0 where its source is not configured (R78); TIC5's divisors and its
edge are a DESIGN CHOICE (log entry 155), as is TIC8's first output. -/
def Bank.systemChannel (b : Bank) (ch : Nat) : Nat :=
  if ch = 0 then (if b.refType 0 = 1 then channelWord 0 5 0 1 1 else 0)
  else if ch ≤ 4 then
    let t := b.refType ch
    let e := (b.refFalling ch).toNat
    if t = 0 then 0
    else if t = 6 then
      match refDividers (b.refParam ch) with
      | some (p, d) => channelWord ch ch e p d
      | none => 0
    else channelWord ch ch e 1 1
  else if ch = 5 then channelWord 5 6 0 1 10000
  else if ch ≤ 7 then
    (if b.refType (ch - 1) = 4 then channelWord ch (0x10 + b.refParam (ch - 1)) 0 synceDividers.1 synceDividers.2 else 0)
  else
    b.enabledOutputs.head?.elim 0 b.monitorWord

/-- Foreground calibration begins (R88): no event before it is one that a later gap starts from. -/
def Channel.calibrate (now : Nat) (c : Channel) : Channel := { c with state := 1, calFrom := now, skip := 0, lastRaw := none }

/-- TIC8 begins 1 s on an output (R78, R141). -/
def State.startTurn (s : State) : State := { s with meas := { s.meas with turnAt := s.time.tick, turnEvs := [] }, outs := s.outs.mapVal (fun o => { o with placed := [] }) }

/-- The word a system channel is to run under: TIC8 stays on the output it watches while that one is enabled (R78). -/
def State.systemWord (s : State) (ch : Nat) : Nat :=
  let b := s.banks.active
  let o := (s.chan 8).source - 8
  if ch = 8 ∧ (s.chan 8).state ≠ 0 ∧ b.enabledOutputs.contains o then b.monitorWord o else b.systemChannel ch

/-- The system channels follow a bank: a channel whose source appears is enabled and calibrates, one whose source is
not configured idles (R78, R88). -/
def State.syncChannels (s : State) : State :=
  (List.range 9).foldl (fun t ch =>
    let w := t.systemWord ch
    if (t.chan ch).cfg = w then t
    else
      let t1 := t.updChan ch (fun c =>
        if w = 0 then { c with cfg := 0, state := 0 }
        else if c.state = 0 then { c with cfg := w }.calibrate t.time.tick
        else { c with cfg := w, skip := 0 })
      if ch = 8 then t1.startTurn else t1) s

/-- The reference measured on a system channel (05_references_and_holdover.md R108). -/
def refOfChannel (ch : Nat) : Option Nat :=
  if ch ≤ 4 then some ch else if ch = 6 then some 5 else if ch = 7 then some 6 else none

/-! ### Stamps (R82, R87) -/

/-- Hits of a code in a table. -/
def hitsOf (t : Tbl Nat) (k : Nat) : Nat := Tbl.getD t k 0

/-- `centre[k]` in ps (R87). -/
def centre (t : Tbl Nat) (k : Nat) : Rat :=
  let below := ((t.filter (fun e => e.1 < k)).map (·.2)).sum
  mkRat (4000 * (2 * below + hitsOf t k : Nat)) (2 * 2 ^ 24)

/-- How far the edge lies before its stop tick, ps. -/
def Channel.offsetPs (c : Channel) (k : Nat) : Rat :=
  4000 + centre (c.hits.getD []) k + ((Config.pathPs c.source c.presc).toNat : Nat)

/-- The stamps of an edge whose stop tick is now: on the time base and on the RAW scale, 2^-16 ns, to nearest. -/
def State.stamps2 (s : State) (off : Rat) : Int × Int :=
  let here : Rat := mkRat (s.time.raw56 : Nat) (2 ^ 40)
  let t := here - off * mkRat 65536 1000 * mkRat (s.time.inc : Nat) (4 * 2 ^ 40)
  let r := (s.rawU : Rat) - off * mkRat 65536 1000
  (ratNear t, ratNear r)

/-! ### Regression (R91 to R93) -/

/-- Nearest integer to the square root of a non-negative rational. -/
def sqrtNear (q : Rat) : Nat := (Nat.sqrt (4 * q).floor.toNat + 1) / 2

/-- What the fit of one channel's events gives. -/
structure Fit where
  m : Nat
  b : Rat
  fit : Rat
  resid : Nat

/-- The least-squares fit t = a + b n of R91 over events given as (index, stamp); the index is a 48-bit count, n its
difference from the first one's. -/
def fitLine (l : List (Nat × Int)) : Fit :=
  let n0 := (l.head?.map (·.1)).getD 0
  let t0 := (l.head?.map (·.2)).getD 0
  let m := l.length
  let ns : List Rat := l.map (fun e => ((((e.1 + 2 ^ 48 - n0) % 2 ^ 48 : Nat)) : Rat))
  let ts : List Rat := l.map (fun e => ((e.2 - t0 : Int) : Rat))
  let nbar := ns.sum / (m : Rat)
  let tbar := ts.sum / (m : Rat)
  let snt := (List.zipWith (· * ·) ns ts).sum - (m : Rat) * nbar * tbar
  let snn := (ns.map (fun x => x * x)).sum - (m : Rat) * nbar * nbar
  let stt := (ts.map (fun x => x * x)).sum - (m : Rat) * tbar * tbar
  let b := snt / snn
  { m := m, b := b, fit := (t0 : Rat) + tbar, resid := sqrtNear ((stt - b * snt) / ((m : Rat) - 2)) }

/-- y of a fitted period `b` (2^-16 ns per source edge) against a nominal frequency in µHz, fs/s (R91). -/
def fitFreq (b : Rat) (uhz : Rat) : Int :=
  ratNear ((1000000000000000 * 65536 / uhz / b - 1) * 1000000000000000)

/-- Does a gap between consecutive instants exceed four nominal event periods; the period is `pd / uhz` (R93). -/
def gapTooLong (uhz : Rat) (pd : Nat) : List Int → Bool
  | a :: b :: rest =>
    decide (4 * (pd : Rat) * (1000000000000000 * 65536) < ((b - a : Int) : Rat) * uhz) || gapTooLong uhz pd (b :: rest)
  | _ => false

/-- Was a channel's source lost in a gate (R93): no event, or a gap too long between consecutive events. The stretches from
the event before the gate and to the gate's close count, as far as they have come by then (log entry 39). -/
def sourceLost (uhz : Rat) (pd : Nat) (before : Option Int) (evs : List GateEvent) (closeRaw : Int) : Bool :=
  evs.isEmpty || gapTooLong uhz pd (before.toList ++ evs.map (·.raw) ++ [closeRaw])

/-- The pairs of a difference job (R92): each A event with the B event nearest it within half an event period. -/
def pairUp (half : Rat) (as bs : List (Int)) : List Int :=
  as.filterMap (fun a =>
    let best := bs.foldl (fun (x : Option Int) b => match x with
      | some y => if (a - b).natAbs < (a - y).natAbs then some b else some y
      | none => some b) none
    match best with
    | some b => if ((a - b).natAbs : Rat) ≤ half then some (a - b) else none
    | none => none)

/-! ### Jobs -/

def Job.chA (j : Job) : Nat := bits j.cfg 8 4
def Job.chB (j : Job) : Nat := bits j.cfg 12 4
def Job.diff (j : Job) : Bool := bit j.cfg 16
def Job.onTime (j : Job) : Bool := bit j.cfg 17
def Job.gateMs (j : Job) : Nat := bits j.cfg 32 32
def Job.gates (j : Job) : Nat := bits j.cfg 64 32

/-- Job `i`. -/
def State.job (s : State) (i : Nat) : Job := Tbl.getD s.meas.job i {}
/-- The state with job `i` changed. -/
def State.updJob (s : State) (i : Nat) (f : Job → Job) : State :=
  { s with meas := { s.meas with job := Tbl.put s.meas.job i (f (s.job i)) } }

/-- Does a running job take events from a channel. -/
def State.feeds (s : State) (ch : Nat) : Bool :=
  s.meas.job.any (fun e => e.2.running && (e.2.chA == ch || (e.2.diff && e.2.chB == ch)))

/-- The instant a job's gate opens on the step-free copy (R90). -/
def Job.openSf (j : Job) (stepSum : Int) : Int := j.sfStart.getD (j.gateStart - stepSum)

/-- RAW instant of an instant of the step-free copy of the time base. -/
def State.rawOfSf (s : State) (sf : Int) : Int := s.rawAt (sf + s.time.stepSum)

/-- The step-free instant at which a job's gate closes (R90). -/
def Job.closeSf (j : Job) (stepSum : Int) : Int := j.openSf stepSum + (j.gateMs : Int) * uMs

/-- Did a step fall in the gate [`lo`, `hi`) (R90). -/
def Job.stepIn (j : Job) (lo hi : Int) : Bool := j.steps.any (fun x => decide (lo ≤ x ∧ x < hi))

/-- The stamp of an event on a job's scale. -/
def Job.stamp (j : Job) (e : GateEvent) : Int := if j.onTime then e.sf else e.raw

/-- The result word of a job's gate (R104), from its events and its close on the step-free copy; `cancelled` where `MEAS_STOP`
ends the gate. DESIGN CHOICE (log entry 156): `resid` of a difference job with unequal event rates is that of channel A's fit. -/
def State.gateResult (s : State) (i : Nat) (j : Job) (evA evB : List GateEvent) (close : Int) (cancelled : Bool) : Nat :=
  let closeRaw := s.rawOfSf close
  let ca := s.chan j.chA
  let cb := s.chan j.chB
  let fa := s.channelUhz ca
  let fb_ := s.channelUhz cb
  let pda := ca.presc * ca.decim
  let pdb := cb.presc * cb.decim
  let equal := j.diff && decide (fa * (pdb : Rat) = fb_ * (pda : Rat))
  let half : Rat := (pda : Rat) * (1000000000000000 * 65536) / (2 * fa)
  let pairs := if equal then pairUp half (evA.map j.stamp) (evB.map j.stamp) else []
  let lost := sourceLost fa pda j.lastA evA closeRaw || (j.diff && sourceLost fb_ pdb j.lastB evB closeRaw)
  let ovr := evA.any (·.overrun) || (j.diff && evB.any (·.overrun))
  let few := decide (evA.length < 3) || (j.diff && decide (evB.length < 3)) || (equal && decide (pairs.length < 3))
  let quality := if cancelled then 4 else if ovr then 2 else if lost then 3 else if few then 1 else 0
  let fitA := fitLine (evA.map (fun e => (e.n, j.stamp e)))
  let fitB := fitLine (evB.map (fun e => (e.n, j.stamp e)))
  let ok := quality == 0
  let freq := if !ok then 0
    else if j.diff then
      ratNear ((fb_ / fa * (fitB.b / fitA.b) - 1) * 1000000000000000)
    else fitFreq fitA.b fa
  let shift : Int := if j.onTime then (evA.head?.map (fun e => e.at_ - e.sf)).getD 0 else 0
  let fitAt : Nat := if ok then (Time96.ofUnits (ratNear fitA.fit + shift)).word else 0
  let mean : Rat := ((pairs.sum : Int) : Rat) / (pairs.length : Rat)
  let spread := ((pairs.map (fun d => ((d : Rat) - mean) * ((d : Rat) - mean))).sum) / (pairs.length : Rat)
  let phase := if ok && equal then ratNear mean else 0
  let resid := if !ok then 0 else if equal then sqrtNear spread else fitA.resid
  Fields.pack [(4, i), (4, j.chA), (4, j.chB), fb j.diff, fb j.onTime, fb (j.stepIn (j.openSf s.time.stepSum) (if cancelled then close + 1 else close)), fb (ok && equal), (8, quality),
    (8, j.missed), (32, j.gateIndex), ft (Time96.ofUnits j.gateStart), (64, evA.length), fi 64 freq, (96, fitAt),
    fi 64 phase, (32, resid), rz 32]

/-- A result is posted while firmware runs, otherwise retained, the ones it overwrites counted (R94). -/
def State.putResult (i word : Nat) (s : State) : State :=
  let j := s.job i
  if s.fw.running then
    (s.updJob i (fun j => { j with missed := 0, result := some { word := word, posted := true } })).post 0x0601 [(512, word)]
  else
    let unposted := j.result.elim false (fun r => !r.posted)
    s.updJob i (fun j => { j with
      missed := if unposted then min (j.missed + 1) 255 else j.missed
      result := some { word := word, posted := false, cause := s.now, epoch := s.time.stepEpoch } })

/-- Firmware runs again: a retained result is posted late under its own cause, with the results it overwrote counted (R94;
12_command_interface.md R397; 16_faults_and_midwinter.md R535). -/
def State.repostResults (s : State) : State :=
  s.meas.job.foldl (fun t e => match e.2.result with
    | some r =>
      if r.posted then t
      else
        let w := setBits r.word 24 8 e.2.missed
        (t.updJob e.1 (fun j => { j with missed := 0, result := some { r with word := w, posted := true } })).writeEvent
          { code := 0x0601, late := true, cause := r.cause, epoch := r.epoch, payload := [(512, w)] }
    | none => t) s

/-- A regression gate closes and its result is produced (R90, R91); a repeating job opens its next gate at this close. -/
def execRegressionGateClose (dt job : Nat) (s : State) : Host.Outcome State Fault Refusal :=
  let s1 := s.advance dt
  let j := s1.job job
  let close := j.closeSf s1.time.stepSum
  if 16 ≤ job then .fault .noSuchUnit
  else .next (
    if j.running ∧ close ≤ s1.stepFree then
      let inA := j.evA.filter (fun e => e.sf < close)
      let inB := j.evB.filter (fun e => e.sf < close)
      let s2 := s1.putResult job (s1.gateResult job j inA inB close false)
      s2.updJob job (fun k => { k with
        running := decide (j.gates = 0 ∨ j.gateIndex + 1 < j.gates)
        gateIndex := (j.gateIndex + 1) % 2 ^ 32, steps := j.steps.filter (fun x => decide (close ≤ x))
        gateStart := close + s1.time.stepSum, sfStart := some close
        evA := j.evA.filter (fun e => close ≤ e.sf), evB := j.evB.filter (fun e => close ≤ e.sf)
        lastA := (inA.getLast?.map (·.raw)).orElse (fun _ => j.lastA)
        lastB := (inB.getLast?.map (·.raw)).orElse (fun _ => j.lastB) })
    else s1)

/-- Instant a `MEAS_START` uses: as given, or the next whole millisecond at least 1 ms ahead (R102). -/
def State.jobStart (s : State) (q : Req) : Int :=
  if q.f 96 96 ≠ 0 then (Time96.ofWord (q.f 96 96)).units else (s.nowU + uMs + uMs - 1) / uMs * uMs

/-- `MEAS_START` (R102). The channels' last events are those a gap at the first gate's opening starts from (R93, log entry
39). -/
def cmdMeasStart : Command where
  opcode := 0x0603
  layout _ := { size := 192, fields := [(0, 4), (8, 4), (12, 4), (16, 1), (17, 1), (32, 32), (64, 32), (96, 96)] }
  range q s := (if q.b 16 then q.f 8 4 != q.f 12 4 else q.f 12 4 == 0) && within 1 1000000 (q.f 32 32)
    && Time96.legal (q.f 96 96) && decide (s.jobStart q ≤ s.nowU + 60 * uS)
  objs q := [.job (q.f 0 4), .channel (q.f 8 4)] ++ (if q.b 16 then [.channel (q.f 12 4)] else [])
  run q s :=
    let i := q.f 0 4
    let j : Job := { cfg := q.f 0 192 }
    if (s.job i).running ∨ !(s.chan j.chA).running ∨ (j.diff ∧ !(s.chan j.chB).running) then .done stNotPermitted [] s
    else if s.jobStart q < s.nowU then .done stLate [] s
    else .done stOk [ft (Time96.ofUnits (s.jobStart q))]
      (s.updJob i (fun k => { j with
        running := true, gateStart := s.jobStart q, result := none, missed := if k.running then k.missed else 0
        lastA := (s.chan j.chA).lastRaw, lastB := (s.chan j.chB).lastRaw }))

def execMeasStart (q : Req) (s : State) : Host.Outcome State Fault Refusal := runCommand cmdMeasStart q s

/-- `MEAS_STOP` (R103): the gate in progress is posted as `CANCELLED`. -/
def cmdMeasStop : Command where
  opcode := 0x0604
  layout _ := { size := 4, fields := [(0, 4)] }
  objs q := [.job (q.f 0 4)]
  run q s :=
    let i := q.f 0 4
    let j := s.job i
    if !j.running then .done stNotPermitted [] s
    else
      let s1 := s.putResult i (s.gateResult i j j.evA j.evB s.stepFree true)
      .aside { obj := some (.job i), applied := true } (s1.updJob i (fun k => { k with running := false, stopping := true, evA := [], evB := [] }))

def execMeasStop (q : Req) (s : State) : Host.Outcome State Fault Refusal := runCommand cmdMeasStop q s

/-- A stopped job reports quiescent (R103). -/
def execMeasJobQuiescent (dt job : Nat) (s : State) : Host.Outcome State Fault Refusal :=
  let s1 := s.advance dt
  if 16 ≤ job then .fault .noSuchUnit
  else .next (if (s1.job job).stopping then
    (s1.updJob job (fun j => { j with stopping := false })).finish (fun w => w.obj = some (Obj.job job)) stOk (fun _ => [])
  else s1)

/-- `MEAS_RESULT_GET` (R104): `NO_RESULT` before the job's first gate closes. -/
def cmdMeasResultGet : Command where
  opcode := 0x0605
  layout _ := { size := 4, fields := [(0, 4)] }
  objs q := [.job (q.f 0 4)]
  run q s :=
    let i := q.f 0 4
    let j := s.job i
    match j.result with
    | some r => .done stOk [(512, setBits r.word 24 8 (if r.posted then bits r.word 24 8 else j.missed))] s
    | none => .done stOk [(4, i), (4, j.chA), (4, j.chB), fb j.diff, fb j.onTime, rz 2, (8, 5), rz 480] s

def execMeasResultGet (q : Req) (s : State) : Host.Outcome State Fault Refusal := runCommand cmdMeasResultGet q s

/-! ### Channels -/

/-- `MEAS_CHANNEL_SET` (R100). DESIGN CHOICE (log entry 197): enabling starts the count of consecutive rejections afresh. -/
def cmdMeasChannelSet : Command where
  opcode := 0x0601
  layout _ := { size := 160, fields := [(0, 4), (8, 8), (16, 1), (17, 1), (18, 1), (32, 8), (64, 32), (96, 64)] }
  range q s :=
    let c : Channel := { cfg := q.f 0 160 }
    let f := s.channelUhz c
    sourceOk c.source && within 1 1048576 c.decim && decide (f ≠ 0)
      && dividersOk f c.presc c.decim (s.banks.active.ppsSource c.source)
  objs q := [.channel (q.f 0 4)]
  run q s :=
    let ch := q.f 0 4
    if ch ≤ 8 ∨ s.feeds ch then .done stNotPermitted [] s
    else if q.b 16 then
      .done stOk [] { s.updChan ch (fun c => { c with cfg := q.f 0 160, calRun := false, rejectRun := 0 }.calibrate s.time.tick) with
        cap := { s.cap with closedTdc := s.cap.closedTdc.filter (· ≠ ch), moves := s.cap.moves.filter (fun m => m.1 != ch) } }
    else if (s.chan ch).state = 0 then .done stOk [] (s.updChan ch (fun c => { c with cfg := q.f 0 160 }))
    else .aside { obj := some (.channel ch), applied := true } (s.updChan ch (fun c => { c with cfg := q.f 0 160, state := 0, draining := true }))

def execMeasChannelSet (q : Req) (s : State) : Host.Outcome State Fault Refusal := runCommand cmdMeasChannelSet q s

/-- A disabled channel reports quiescent (R100). -/
def execMeasChannelQuiescent (dt ch : Nat) (s : State) : Host.Outcome State Fault Refusal :=
  let s1 := s.advance dt
  if 16 ≤ ch then .fault .noSuchUnit
  else .next (if (s1.chan ch).draining then
    (s1.updChan ch (fun c => { c with draining := false })).finish (fun w => w.obj = some (Obj.channel ch)) stOk (fun _ => [])
  else s1)

/-- `MEAS_CHANNEL_GET` (R101): reading clears `overrun_seen`. -/
def cmdMeasChannelGet : Command where
  opcode := 0x0602
  layout _ := { size := 4, fields := [(0, 4)] }
  objs q := [.channel (q.f 0 4)]
  run q s :=
    let ch := q.f 0 4
    let c := s.chan ch
    .done stOk [(160, setBits c.cfg 0 4 ch), (2, c.state), fb (decide (ch ≤ 8)), fb c.overrunSeen, rz 28, (48, c.events),
      (16, c.generation), (48, c.overruns), (48, c.calRejects), (48, c.captureLost), rz 16, ft c.installedAt]
      (s.updChan ch (fun c => { c with overrunSeen := false }))

def execMeasChannelGet (q : Req) (s : State) : Host.Outcome State Fault Refusal := runCommand cmdMeasChannelGet q s

/-- `MEAS_CAL_GET` (R105). -/
def cmdMeasCalGet : Command where
  opcode := 0x0606
  layout _ := { size := 10, fields := [(0, 4), (8, 2)] }
  objs q := [.channel (q.f 0 4)]
  run q s :=
    let c := s.chan (q.f 0 4)
    match c.hits with
    | none => .done stNotPermitted [] s
    | some t => .done stOk ([(16, c.generation), rz 16] ++ (List.range 1024).map (fun j => (16, hitsOf t (1024 * q.f 8 2 + j)))) s

def execMeasCalGet (q : Req) (s : State) : Host.Outcome State Fault Refusal := runCommand cmdMeasCalGet q s

/-- `MEAS_CAL_RUN` (R106). -/
def cmdMeasCalRun : Command where
  opcode := 0x0607
  layout _ := { size := 4, fields := [(0, 4)] }
  objs q := [.channel (q.f 0 4)]
  run q s :=
    let ch := q.f 0 4
    if ch ≤ 8 ∨ (s.chan ch).state = 0 ∨ s.feeds ch then .done stNotPermitted [] s
    else .aside { obj := some (.channel ch), applied := true } (s.updChan ch (fun c => { c with calRun := true }.calibrate s.time.tick))

def execMeasCalRun (q : Req) (s : State) : Host.Outcome State Fault Refusal := runCommand cmdMeasCalRun q s

/-- Is a completed table accepted (R89). -/
def tableOk (hits : List Nat) : Bool := hits.all (fun h => within 1049 12583 h)

/-- Least ticks that 2^24 calibration edges take (R88): 20 M/s in foreground, 1 M/s in background. Edges suppressed near input
edges make a background table later than that. -/
def Channel.calTicks (c : Channel) : Nat := if c.state = 1 then 209715200 else 4194304000

/-- A completed bin table is installed or rejected (R88, R89): the hits of the 4,096 codes, 2^24 in all, the calibration edges
suppressed near input edges not among them. A channel that is off builds no table, none is complete before its edges have
come, and a list that is no table changes nothing. DESIGN CHOICE (log entry 196): a foreground table that is rejected leaves a
channel with a former table running on that one, and one with none calibrating. DESIGN CHOICE (log entry 197): `TDC_CAL` is raised
at the third rejection in a row and at no later one. -/
def execCalTableComplete (dt ch : Nat) (hits : List Nat) (s : State) : Host.Outcome State Fault Refusal :=
  let s1 := s.advance dt
  let c := s1.chan ch
  if 16 ≤ ch then .fault .noSuchUnit
  else .next (
    if c.state = 0 ∨ s1.time.tick < c.calFrom + c.calTicks ∨ hits.length ≠ 4096 ∨ hits.sum ≠ 2 ^ 24 then s1
    else
      let ok := tableOk hits
      let gen := if ok then (c.generation + 1) % 65536 else c.generation
      let rejects := inc48 c.calRejects 1
      let s2 := if ok then
          s1.updChan ch (fun c => { c with
            hits := some (hits.zipIdx.map (fun e => (e.2, e.1))), generation := gen, installedAt := s1.now, rejectRun := 0
            state := 2, calRun := false, calFrom := s1.time.tick })
        else
          let s3 := (s1.updChan ch (fun c => { c with
            calRejects := rejects, rejectRun := c.rejectRun + 1, calRun := false, calFrom := s1.time.tick
            state := if c.hits.isSome then 2 else c.state })).counterHalf c.calRejects rejects 0x0602 ch 304
          if c.rejectRun + 1 = 3 then s3.fault 0x22 13 6 ch else s3
      let s2 := if ch = 8 ∧ c.state = 1 then s2.startTurn else s2
      if c.calRun then
        s2.finish (fun w => w.obj = some (Obj.channel ch) && w.opcode == 0x0607) stOk (fun _ => [fb ok, rz 15, (16, gen)])
      else s2)

/-! ### Oven and PLL (R96, R97, R107) -/

/-- Keep y's history over 1,000 s (05_references_and_holdover.md R129). -/
def trimHist (left : Nat) : List (Int × Nat) → List (Int × Nat)
  | [] => []
  | (y, n) :: rest => if left = 0 then [] else (y, min n left) :: trimHist (left - min n left) rest

/-- The y in force in `LOCKED` or `LOCKED_FREQ` is taken into its history up to now, and into holdover learning while that
runs (05_references_and_holdover.md R128, R129). -/
def State.flushY (s : State) : State :=
  match s.sel.yAt with
  | none => s
  | some t =>
    let span := s.time.tick - t
    let y := s.time.freqAdj
    let learn := s.sel.state == .locked && s.ocxo.warm && !s.sel.loopHeld
    { s with
      sel := { s.sel with yAt := some s.time.tick, yHist := trimHist (1000 * tickS) ((y, span) :: s.sel.yHist) }
      hold := if learn then { s.hold with accY := s.hold.accY + y * span, accT := s.hold.accT + span, learned := s.hold.learned + span }
        else s.hold }

/-- The oven's stability timers run on its deviation (R96): it is now `devMk` mK from its set point, with the heater at
`heaterMw`. `OCXO_WARM` sets after 120 s within 50 mK and clears after 10 s beyond 200 mK. -/
def execOcxoWarmChange (dt : Nat) (devMk : Int) (heaterMw : Nat) (s : State) : Host.Outcome State Fault Refusal :=
  let s1 := s.advance dt
  let o := s1.ocxo
  let now := s1.time.tick
  let inBand := o.inBandAt.elim false (fun t => decide (t + 120 * tickS ≤ now))
  let outBand := o.outBandAt.elim false (fun t => decide (t + 10 * tickS ≤ now))
  let warm := if o.warm then !outBand else inBand
  let o1 := { o with
    warm := warm, devMk := devMk, heaterMw := heaterMw
    inBandAt := if devMk.natAbs ≤ 50 then some (o.inBandAt.getD now) else none
    outBandAt := if 200 < devMk.natAbs then some (o.outBandAt.getD now) else none }
  let s2 := { s1.flushY with ocxo := o1 }
  .next (
    if warm ∧ !o.warm then (({ s2 with ocxo := { o1 with cold := false } }).post 0x0602 [fb true]).conditionEnds 0x20
    else if !warm ∧ o.warm then
      let s3 := { s2 with ocxo := { o1 with cold := true }, hold := { s2.hold with learned := 0, samples := [], accY := 0, accT := 0, pausedAt := none } }
      ((s3.post 0x0602 [fb false]).post 0x0603 []).condition 0x20 15 6 0
    else s2)

/-- TIC5 checks the clean-up PLL at an OCXO edge stamped `raw` (R97): the phase modulo 100 ns against that at lock. DESIGN
CHOICE (log entry 157): the phase at lock is that of the first edge stamped after it. -/
def State.pllCheck (raw : Int) (s : State) : State :=
  let period : Int := 100 * 65536
  let phase := raw % period
  match s.ocxo.pllPhase with
  | none => { s with ocxo := { s.ocxo with pllPhase := some phase, phaseWalk := 0 } }
  | some p0 =>
    let d := (phase - p0 + period / 2) % period - period / 2
    let s1 := { s with ocxo := { s.ocxo with phaseWalk := d } }
    let beyond := fun (x : Int) => decide (psUnits 200 < x.natAbs)
    if beyond d ∧ !beyond s.ocxo.phaseWalk then s1.fault 0x21 13 6 5 else s1

end Sys2Proof.Machine
end

