-- ==== Sys2Proof/Machine/Time.lean ====
section
/-!
DEFINITION. The time-base commands of group 0x05, the snapshot registers, slews, leap seconds and the transmit stamp
ring (03_time_base_and_stamps.md R41 to R77).
-/
namespace Sys2Proof.Machine

/-- `TIME_GET` (R69). -/
def cmdTimeGet : Command where
  opcode := 0x0501
  run _ s := .done stOk
    [ft s.now, fi 64 s.time.freqAdj, (48, s.time.inc), (16, s.time.dither), (8, s.time.stepEpoch), fb s.time.valid,
     fb (!s.sel.loopHeld), fb s.time.slew.active, fb s.leap.pending, fb s.leap.dir, rz 19, fi 16 s.utcOffset,
     fi 64 s.time.slewRemaining] s

def execTimeGet (q : Req) (s : State) : Host.Outcome State Fault Refusal := runCommand cmdTimeGet q s

/-- `TIME_SET_FREQ` (R70): only while the hardware loop is open. -/
def cmdTimeSetFreq : Command where
  opcode := 0x0502
  layout _ := { size := 64, fields := [(0, 64)] }
  range q _ := withinI (-freqLimit) freqLimit (q.i 0 64)
  run q s :=
    if !s.sel.loopHeld then .done stNotPermitted [] s
    else .done stOk [ft s.now] { s with time := s.time.setFreq (q.i 0 64) }

def execTimeSetFreq (q : Req) (s : State) : Host.Outcome State Fault Refusal := runCommand cmdTimeSetFreq q s

/-- Milliseconds a slew of `rem` (2^-56 ns) takes at `slope` ns/s, rounded up (R71). DESIGN CHOICE (log entry 149): the
response's 32-bit field keeps the low 32 bits of a greater number. -/
def slewMs (rem : Int) (slope : Nat) : Nat :=
  if slope = 0 then 0 else (rem.natAbs * 1000 + slope * 2 ^ 56 - 1) / (slope * 2 ^ 56)

/-- `TIME_ADJ_PHASE` (R71): a slew on top of what remains, only while the hardware loop is open. -/
def cmdTimeAdjPhase : Command where
  opcode := 0x0503
  layout _ := { size := 96, fields := [(0, 64), (64, 32)] }
  range q s := withinI (-uS) uS (q.i 0 64) && decide (q.f 64 32 ≤ s.banks.active.slopeLimit)
  run q s :=
    if !s.sel.loopHeld then .done stNotPermitted [] s
    else
      let slope := if q.f 64 32 = 0 then s.banks.active.slopeLimit else q.f 64 32
      let t := s.time.startSlew (q.i 0 64) slope
      .done stOk [ft s.now, (32, slewMs t.slew.rem56 slope)] { s with time := t }

def execTimeAdjPhase (q : Req) (s : State) : Host.Outcome State Fault Refusal := runCommand cmdTimeAdjPhase q s

/-! ### TIME_STEP -/

/-- The step threshold in units of 2^-16 ns (05_references_and_holdover.md R152). -/
def State.stepThreshold (s : State) : Int := (s.banks.active.stepThresholdNs : Int) * uNs

/-- Δ of a request in modes 0 and 1 (R72). -/
def stepDelta (q : Req) : Int :=
  if q.f 0 8 = 0 then q.i 32 64 else (Time96.ofWord (q.f 96 96)).units - (Time96.ofWord (q.f 192 96)).units

/-- Is a `TIME_STEP` attended (R68, R72). -/
def stepAttended (q : Req) (s : State) : Bool :=
  s.time.valid && (q.f 0 8 == 2 || decide (s.stepThreshold < (stepDelta q).natAbs))

/-- Is a qualified reference selected (R72 mode 2). -/
def State.qualifiedSelected (s : State) : Bool :=
  s.sel.selected.elim false (fun r => (s.ref r).state == .qualified)

/-- The first whole second at least 10 ms ahead (R73). -/
def State.nextStepSecond (s : State) : Nat := ((s.nowU + 10 * uMs + uS - 1) / uS).toNat

/-- Execution of a `TIME_STEP`: its instant is fixed and handed to the hardware (R72, R73). In modes 0 and 1 the size was
judged on arrival: an attended request is a step. -/
def stepExecute (attended : Bool) (q : Req) (s : State) : Reply :=
  let given := Time96.ofWord (q.f 192 96)
  let sec := if q.f 192 96 = 0 then s.nextStepSecond else given.sec
  let ahead : Int := (sec : Int) * uS - s.nowU
  if q.f 192 96 ≠ 0 ∧ 60 * uS < ahead then .done stBadParam [] s
  else if ahead < 10 * uMs then .done stLate [] s
  else if q.f 0 8 = 2 ∧ !s.qualifiedSelected then .done stNotPermitted [] s
  else
    let sc : Sched :=
      { atSec := sec, src := 1, attended := attended
        delta := if q.f 0 8 = 2 then none else some (stepDelta q)
        asStep := attended || !s.time.valid }
    .aside { obj := some .timeBase, applied := true, inst := { sec := sec } }
      { s with time := { s.time with scheds := s.time.scheds ++ [sc] } }

/-- `TIME_STEP` (R72). -/
def cmdTimeStep : Command where
  opcode := 0x0504
  attended := stepAttended
  layout _ := { size := 288, fields := [(0, 8), (32, 64), (96, 96), (192, 96)] }
  range q _ :=
    let mode := q.f 0 8
    decide (mode ≤ 2) && Time96.legal (q.f 96 96) && Time96.legal (q.f 192 96)
      && (q.f 192 96 == 0 || (q.f 192 16 == 0 && q.f 208 32 == 0))
      && (mode == 0 || q.f 32 64 == 0) && (mode == 1 || q.f 96 96 == 0) && (mode != 1 || q.f 192 96 != 0)
  objs _ := [.timeBase]
  run q s :=
    if q.f 0 8 = 2 ∧ !s.qualifiedSelected then .done stNotPermitted [] s
    else if stepAttended q s then .attend s
    else stepExecute false q s
  act := stepExecute true

def execTimeStep (q : Req) (s : State) : Host.Outcome State Fault Refusal := runCommand cmdTimeStep q s

/-! ### Leap table -/

/-- Entry k of a `LEAP_TABLE_SET` request (R74). -/
def leapEntry (q : Req) (k : Nat) : Nat × Int := (q.f (128 * k + 128) 48, q.i (128 * k + 176) 16)

/-- The table a request carries. -/
def leapRequest (q : Req) : List (Nat × Int) := (List.range (q.f 0 8)).map (leapEntry q)

/-- At an entry's TAI second, or from 00:00:00 UTC of its day, the indications of R51 follow the table. -/
def State.leapFlags (s : State) : State :=
  match leapPendingAt s.time.sec s.leap.table with
  | some (t, o, before) =>
    { s with leap := { s.leap with pending := true, dir := decide (o < before), pendAt := t } }
  | none => { s with leap := { s.leap with pending := false, dir := false } }

/-- `LEAP_TABLE_SET` (R74, R50, R52): in force at once; its flash copy follows. -/
def cmdLeapTableSet : Command where
  opcode := 0x0505
  layout q :=
    { size := 128 + 128 * q.f 0 8
      fields := (0, 8) :: (List.range (q.f 0 8)).flatMap (fun k => [(128 * k + 128, 48), (128 * k + 176, 16)]) }
  range q _ := within 1 32 (q.f 0 8) && leapTableOk (leapRequest q)
  run q s :=
    let keeps := match leapPendingAt s.time.sec s.leap.table with
      | none => true
      | some (t, o, _) => (leapRequest q).contains (t, o)
    if !keeps then .done stNotPermitted [] s
    else .done stOk [(8, q.f 0 8)] { s with leap := { s.leap with table := leapRequest q, flashDirty := true } }.leapFlags

def execLeapTableSet (q : Req) (s : State) : Host.Outcome State Fault Refusal := runCommand cmdLeapTableSet q s

/-- `LEAP_TABLE_GET` (R74). -/
def cmdLeapTableGet : Command where
  opcode := 0x0506
  run _ s := .done stOk
    ((8, s.leap.table.length) :: rz 120 :: s.leap.table.flatMap (fun e => [(48, e.1), fi 16 e.2, rz 64])) s

def execLeapTableGet (q : Req) (s : State) : Host.Outcome State Fault Refusal := runCommand cmdLeapTableGet q s

/-- A leap becomes pending (R51): the indications set once 00:00:00 UTC of its day is reached. -/
def execLeapPendingStart (dt : Nat) (s : State) : Host.Outcome State Fault Refusal :=
  let s1 := s.advance dt
  .next (if (leapPendingAt s1.time.sec s1.leap.table).isSome then s1.leapFlags else s1)

/-- The leap applies at its entry's TAI second (R51): the indications clear and `LEAP_APPLIED` is posted. -/
def execLeapApplied (dt : Nat) (s : State) : Host.Outcome State Fault Refusal :=
  let s1 := s.advance dt
  .next (if s1.leap.pending ∧ s1.leap.pendAt ≤ s1.time.sec then s1.leapFlags.post 0x0502 [] else s1)

/-- The flash copy of the leap table verifies; it waits while `SUPPLY_WARN` stands (R52). -/
def execLeapTablePersist (dt : Nat) (s : State) : Host.Outcome State Fault Refusal :=
  let s1 := s.advance dt
  .next (if s1.fw.running ∧ !s1.plat.warn ∧ s1.leap.flashDirty then
    { s1 with leap := { s1.leap with flash := s1.leap.table, flashDirty := false } } else s1)

/-! ### Stamp latencies -/

/-- `STAMP_LATENCY_SET` (R75), staged. -/
def cmdStampLatencySet : Command where
  opcode := 0x0507
  layout _ := { size := 96, fields := [(0, 8), (32, 32), (64, 32)] }
  range q _ := decide (q.f 0 8 < portCount) && withinI (-1000000) 1000000 (q.i 32 32) && withinI (-1000000) 1000000 (q.i 64 32)
  objs q := stageObjs 0x0507 (q.f 0 8)
  run q s := stage (fun b => { b with lat := Tbl.put b.lat (q.f 0 8) q.body }) s

def execStampLatencySet (q : Req) (s : State) : Host.Outcome State Fault Refusal := runCommand cmdStampLatencySet q s

/-- `STAMP_LATENCY_GET` (R75): the active user values and every factory entry of the port. -/
def cmdStampLatencyGet : Command where
  opcode := 0x0508
  layout _ := { size := 8, fields := [(0, 8)] }
  range q _ := decide (q.f 0 8 < portCount)
  run q s :=
    let p := q.f 0 8
    let fac := Config.factoryLatency p
    .done stOk ([fi 32 (s.banks.active.rxUserPs p), fi 32 (s.banks.active.txUserPs p), (8, fac.length), rz 56]
      ++ fac.flatMap (fun e => [(8, e.1.toNat), rz 24, (32, e.2.1.toNat), (32, e.2.2.toNat), rz 32])) s

def execStampLatencyGet (q : Req) (s : State) : Host.Outcome State Fault Refusal := runCommand cmdStampLatencyGet q s

/-- The factory latency of a port in a mode: receive and transmit ps; 0 where no entry is listed (log entry 9). -/
def factoryPs (p mode : Nat) : Nat × Nat :=
  match (Config.factoryLatency p).find? (fun e => e.1.toNat = mode) with
  | some e => (e.2.1.toNat, e.2.2.toNat)
  | none => (0, 0)

/-! ### The stamp ring -/

/-- `STAMP_RING_SET` (R76): a disable answers at quiescence (R64). -/
def cmdStampRingSet : Command where
  opcode := 0x0509
  noInband := true
  layout _ := { size := 81, fields := [(0, 64), (64, 16), (80, 1)] }
  range q _ := q.f 0 64 % 4096 == 0 && isPow2 (q.f 64 16) && within 256 16384 (q.f 64 16)
  objs _ := [.stampRing]
  run q s :=
    let r := s.stamps
    if r.enable ∧ (q.f 0 64 ≠ r.base ∨ q.f 64 16 ≠ r.entries) then .done stNotPermitted [] s
    else if q.b 80 then
      if r.enable then .done stOk [] s
      else .done stOk [] { s with stamps :=
        { base := q.f 0 64, entries := q.f 64 16, enable := true, idx := 0, phase := true, consumer := 0 } }
    else if r.enable then .aside { obj := some .stampRing, applied := true } { s with stamps := { r with enable := false, draining := true } }
    else .done stOk [] { s with stamps := { r with base := q.f 0 64, entries := q.f 64 16 } }

def execStampRingSet (q : Req) (s : State) : Host.Outcome State Fault Refusal := runCommand cmdStampRingSet q s

/-- The stamp ring reports quiescent (R64). -/
def execStampRingQuiescent (dt : Nat) (s : State) : Host.Outcome State Fault Refusal :=
  let s1 := s.advance dt
  .next (if s1.stamps.draining then
    ({ s1 with stamps := { s1.stamps with draining := false } }).finish (fun w => w.obj = some Obj.stampRing) stOk (fun _ => [])
  else s1)

/-- The consumer index as the part reads it from the host's word (R62). -/
def State.seeConsumer (consumer : Nat) (s : State) : State := { s with stamps := { s.stamps with consumer := consumer % 2 ^ 64 } }

/-- Write a transmit stamp record, if this leaves one free (R62); otherwise the stamp is lost and counted (R63). -/
def State.stampRecord (port tag : Nat) (stamp : Time96) (s : State) : State :=
  let r := s.stamps
  let used := (r.idx + r.entries - r.consumer % (max r.entries 1)) % (max r.entries 1)
  if r.enable ∧ used + 1 < r.entries then
    let s1 := s.emit (.record .stamps r.idx
      [ft stamp, (16, tag), (8, port), (8, s.time.stepEpoch), fb r.phase, rz 127])
    let idx := (r.idx + 1) % r.entries
    { s1 with stamps := { r with idx := idx, phase := if idx = 0 then !r.phase else r.phase } }
  else
    let x := s.port port
    let n := inc48 x.stRing 1
    (s.setPort port { x with stRing := n }).counterHalf x.stRing n 0x050A port 128

/-- `STAMP_COUNTERS` (R77). -/
def cmdStampCounters : Command where
  opcode := 0x050A
  layout _ := { size := 8, fields := [(0, 8)] }
  range q _ := decide (q.f 0 8 < portCount)
  objs q := [.port (q.f 0 8)]
  run q s :=
    let p := s.port (q.f 0 8)
    .done stOk [(64, p.stBooked), (64, p.stMiss), (64, p.stRing), (64, p.stTc)] s

def execStampCounters (q : Req) (s : State) : Host.Outcome State Fault Refusal := runCommand cmdStampCounters q s

/-! ### Snapshot and slews -/

/-- The snapshot registers capture the time base and its flags at one tick (R66, R67). -/
def State.takeSnap (s : State) : State :=
  { s with snap := {
    seconds := s.time.sec, nanoseconds := s.time.ns, subns := s.now.sub, timeValid := s.time.valid,
    leapPending := s.leap.pending, leapDir := s.leap.dir, stepEpoch := s.time.stepEpoch, slewing := s.time.slew.active } }

/-- A read touching byte `0x40` captures the time base. -/
def execTimeSnapCapture (dt : Nat) (s : State) : Host.Outcome State Fault Refusal := .next (s.advance dt).takeSnap

/-- A slew has delivered its adjustment: its slope is removed (R45). -/
def execSlewEnd (dt : Nat) (s : State) : Host.Outcome State Fault Refusal :=
  let s1 := s.advance dt
  .next (if s1.time.slew.active ∧ s1.time.slew.rem56 = 0 then
    { s1 with time := { s1.time with slew := {} }.loadInc } else s1)

end Sys2Proof.Machine
end

