-- ==== Sys2Proof/Machine/Refs.lean ====
section
/-!
DEFINITION. References, their qualification, disputes, the selector, the steering loop and holdover, with the reference
commands of group 0x07 (05_references_and_holdover.md R108 to R136, R145 to R155).
-/
namespace Sys2Proof.Machine

/-! ### A reference's settings (R109, R146) -/

/-- Defaults of a type: window s, offset tolerance, drift tolerance, dispute threshold (fs/s), bandwidth µHz (R109). -/
def typeDefaults (t : Nat) : Nat × Nat × Nat × Nat × Nat :=
  if t = 2 then (600, 1000, 100, 500, 100)
  else if t = 3 then (120, 100000, 10000, 50000, 10000)
  else if t = 4 then (10, 4600000000, 1000000, 1000000, 100000)
  else if t = 6 then (300, 100000, 10000, 50000, 1000)
  else (300, 10000, 1000, 5000, 1000)

/-- A field of a reference's item, or the type default where it is 0. -/
def orDefault (v d : Nat) : Nat := if v = 0 then d else v

/-! Fields of a reference's item `w`: the type defaults where a field is 0. -/
def itemRank (w : Nat) : Nat := bits w 16 4
def itemWindowS (w : Nat) : Nat := orDefault (bits w 64 32) (typeDefaults (bits w 8 8)).1
def itemPhaseHitNs (w : Nat) : Nat := orDefault (bits w 96 32) 100
def itemOffsetTol (w : Nat) : Nat := orDefault (bits w 128 64) (typeDefaults (bits w 8 8)).2.1
def itemDriftTol (w : Nat) : Nat := orDefault (bits w 192 32) (typeDefaults (bits w 8 8)).2.2.1
def itemDisputeThr (w : Nat) : Nat := orDefault (bits w 224 32) (typeDefaults (bits w 8 8)).2.2.2.1
def itemBandwidthUhz (w : Nat) : Nat := orDefault (bits w 256 32) (typeDefaults (bits w 8 8)).2.2.2.2

/-- Rank of a reference as of its last evaluation (R115). -/
def State.refRank (s : State) (r : Nat) : Nat := itemRank (s.ref r).word
/-- Dispute threshold of a reference as of its last evaluation. -/
def State.disputeThr (s : State) (r : Nat) : Nat := itemDisputeThr (s.ref r).word

/-- Does a type carry frequency only (R108). -/
def freqOnly (t : Nat) : Bool := t == 4 || t == 6

/-- Nominal event period of a type, ticks. -/
def eventTicks (t : Nat) : Nat := if freqOnly t then tickMs else if t = 3 then 125 * tickMs else tickS

/-- Update interval of a type, ticks (R109). -/
def updateTicks (t : Nat) : Nat := eventTicks t

/-- The types a slot allows (R108). -/
def typeAllowed (ref t : Nat) : Bool :=
  t == 0 || (if ref = 0 then t == 1 else if ref ≤ 4 then t == 2 || t == 5 || t == 6 else if ref ≤ 6 then t == 4 else t == 3)

/-! ### Reported state (R116, R148) -/

/-- References marked disputed (R119). -/
def State.marked (s : State) (r : Nat) : Bool := s.sel.pairs.any (fun p => p.active && p.marks.contains r)

/-- The state `REF_STATUS` reports. -/
def State.refReport (s : State) (r : Nat) : Nat :=
  let x := s.ref r
  match x.state with
  | .disabled => 0
  | .qualified => if s.marked r then 4 else 2
  | _ => if !x.fresh ∧ (!x.gapOk ∨ !x.statusOk) then 3 else 1

/-! ### Error bound and announced class (R131, R132) -/

/-- Ticks of locked, warm time since y was last taken into the history: `hold.learned` does not hold them yet (R128). -/
def State.learnedTail (s : State) : Nat :=
  if s.sel.state == .locked && s.ocxo.warm && !s.sel.loopHeld then s.sel.yAt.elim 0 (fun t => s.time.tick - t) else 0

/-- `learned_s`, with a pause of 24 h or more counted as a reset (R128). -/
def State.learnedS (s : State) : Nat :=
  let all := (s.hold.learned + s.learnedTail) / tickS
  match s.hold.pausedAt with
  | some t => if t + 86400 * tickS ≤ s.time.tick then 0 else all
  | none => all

/-- Is the holdover model valid (R128). -/
def State.modelValid (s : State) : Bool := decide (172800 ≤ s.learnedS)

/-- ns of a phase in 2^-16 ns, rounded up. -/
def nsUp (u : Nat) : Nat := (u + 65535) / 65536

/-- Smallest n with n² at least the rational. -/
def sqrtUp (q : Rat) : Nat :=
  let n := Nat.sqrt q.floor.toNat
  if q ≤ ((n * n : Nat) : Rat) then n else n + 1

/-- The error bound E in ns (R131). DESIGN CHOICE (log entry 190): it is rounded up to whole ns in every state. -/
def State.estError (s : State) : Nat :=
  let grown :=
    let h : Rat := mkRat ((s.time.tick - s.sel.since : Nat) : Int) (3600 * tickS)
    let k : Rat := if s.modelValid then 1 else 4
    s.sel.e0 + (k * (mkRat 23333 100 * h + mkRat 41667 10000 * h * h)).ceil.toNat
  let e := match s.sel.state with
    | .locked =>
      let n := s.sel.eHist.length
      if n = 0 then nsUp s.sel.e.natAbs
      else sqrtUp (mkRat ((s.sel.eHist.map (fun x => x * x)).sum) (n * 65536 * 65536))
    | .holdover => grown
    | .lockedFreq => grown
    | .loopOpen => grown
    | .waitStep => nsUp s.sel.pendingPhase.natAbs
    | .acquiring => nsUp (s.sel.e.natAbs + s.time.slewRemaining.natAbs)
    | .freerun => 4294967295
  min e 4294967295

/-- The dataset of ref 7's source: the domain root's, or the master's of a `SLAVE` port (09_time_service.md R280). -/
def State.ptpSource (s : State) : Hello := if s.banks.active.domEnable then s.dom.root else s.ts.master

/-- Is a reference traceable (R132, R146; 07_timing_domain.md R205): GNSS always, ref 7 as its root or master says. -/
def State.traceOf (s : State) (r : Nat) : Bool :=
  let t := s.banks.active.refType r
  if t = 1 then true else if t = 3 then s.ptpSource.timeTr else s.banks.active.traceable r

/-- Is the selector locked to a reference. -/
def State.inLock (s : State) : Bool := s.sel.state == .locked || s.sel.state == .lockedFreq

/-- Is the lock in force, or the last one, a lock to a traceable reference (R132). After the loss of ref 7 the root's last
`time_traceable` counts (07_timing_domain.md R205). -/
def State.traceableRef (s : State) : Bool :=
  match s.inLock, s.sel.selected with
  | true, some r => s.traceOf r
  | _, _ => if s.sel.lockType = 3 then (if s.banks.active.domEnable then s.dom.rootTr else s.ts.master.timeTr) else s.sel.lockTr

/-- `clockClass`, `timeTraceable`, `frequencyTraceable` as announced (R132). -/
def State.announced (s : State) : Nat × Bool × Bool :=
  if !s.time.valid ∨ !s.sel.everLocked then (248, false, false)
  else
    let good := decide (s.estError ≤ s.banks.active.holdoverLimitNs)
    match s.sel.state with
    | .acquiring => s.sel.acqClass
    | .locked =>
      let t := s.sel.selected.elim 0 s.banks.active.refType
      if t = 3 then (s.ptpSource.cls, s.ptpSource.timeTr, s.ptpSource.freqTr)
      else if s.traceableRef then (6, true, true) else (13, false, false)
    | st =>
      if s.traceableRef then (if good then (7, true, true) else (187, false, st == .lockedFreq))
      else (if good then (14, false, false) else (193, false, false))

/-- A change of `clockClass` is posted (R132). -/
def State.settleClass (s : State) : State :=
  let c := s.announced.1
  if c = s.sel.clockClass then s
  else ({ s with sel := { s.sel with clockClass := c } }).post 0x0706 [(8, s.sel.selected.getD 15), (8, c)]

/-- The eight references. -/
def refList : List Nat := List.range 8

/-- What a lock leaves behind it (R132; 07_timing_domain.md R189, R205; 09_time_service.md R273): the type of the reference
in use, and of the one locked to with its traceability. -/
def State.noteLock (s : State) : State :=
  match s.sel.selected with
  | some r =>
    let t := s.banks.active.refType r
    { s with sel := { s.sel with
        lastType := t
        lockType := if s.inLock then t else s.sel.lockType
        lockTr := if s.inLock then s.traceOf r else s.sel.lockTr } }
  | none => s

/-- After any change: a reference whose reported state changed restarts its `state_s`, the lock is noted, and the class
follows. `old` is the state before. -/
def State.settleTiming (old s : State) : State :=
  (refList.foldl (fun t r =>
    if t.refReport r = old.refReport r then t else t.updRef r (fun x => { x with since := t.time.tick })) s).noteLock.settleClass

/-! ### Selector states (R136) -/

/-- Codes of R136. -/
def selCode : SelState → Nat
  | .freerun => 0
  | .acquiring => 1
  | .locked => 2
  | .lockedFreq => 3
  | .holdover => 4
  | .waitStep => 5
  | .loopOpen => 6

/-- The selector enters a state: E at entry, the class an `ACQUIRING` announces, the pause of learning, and the length
of a holdover that ends (R128, R131, R135, R155). -/
def State.enterSel (st : SelState) (s0 : State) : State :=
  let s := s0.flushY
  let e := s.estError
  let ann := if s.time.valid then s.announced else (248, false, false)
  let hold1 := if s.sel.state = .holdover ∧ st ≠ .holdover then
      { s.hold with lastS := (s.time.tick - s.sel.since) / tickS, writeAt := none } else s.hold
  let hold2 := if s.sel.state = .locked ∧ st ≠ .locked then { hold1 with pausedAt := some s.time.tick } else hold1
  let hold3 := if st = .locked then
      (if s.learnedS = 0 ∧ hold2.pausedAt.isSome then
        { hold2 with learned := 0, samples := [], accY := 0, accT := 0, pausedAt := none } else { hold2 with pausedAt := none })
    else hold2
  { s with hold := hold3, sel := { s.sel with
      state := st
      since := if st = s.sel.state then s.sel.since else s.time.tick
      stateAt := s.now
      e0 := e
      acqClass := if st = .acquiring then ann else s.sel.acqClass
      lockRun := 0
      pendingPhase := if st = .waitStep then s.sel.pendingPhase else 0
      yAt := if st = .locked ∨ st = .lockedFreq then some s.time.tick else none
      tested := none
      blocked := st = .waitStep && s.sel.blocked } }

/-- What slews have delivered, 2^-16 ns. -/
def TimeS.slewSum (t : TimeS) : Int := divNear t.slewSum56 (2 ^ 40)

/-- The phase of the time base against a time reference, net of the slew still to run (R125): that of its latest event, less
what steps and slews have moved since. -/
def State.netPhase (s : State) (r : Nat) : Int :=
  let x := s.ref r
  (match x.pred with
    | some p => p - s.time.stepSum - s.time.slewSum
    | none => x.phase.getD 0) - s.time.slewRemaining

/-- A phase difference d is treated as a return (R125, R133): a slew, or `WAIT_STEP`. -/
def State.treatDelta (r : Nat) (d : Int) (s : State) : State :=
  if d.natAbs ≤ s.stepThreshold.natAbs then
    ({ s with time := s.time.startSlew d s.banks.active.slopeLimit, sel := { s.sel with e := 0 } }).enterSel .acquiring
  else
    (({ s with sel := { s.sel with pendingPhase := d } }).enterSel .waitStep).post 0x0705 [(8, r), fi 64 d]

/-- The phase of a selected reference is treated as a selection or a return (R125, R133, R136): the first setting of the
time base, a slew, `WAIT_STEP`, or a frequency lock. -/
def State.treatPhase (r : Nat) (s : State) : State :=
  if freqOnly (s.banks.active.refType r) then
    (s.updRef r (fun x => { x with freqPhase0 := x.pred })).enterSel .acquiring
  else if !s.time.valid then
    let sc : Sched := { atSec := s.nextStepSecond, delta := none, asStep := true, src := 0 }
    let s1 := { s with time := { s.time with scheds := s.time.scheds ++ [sc] }, sel := { s.sel with setting := true } }
    s1.enterSel .acquiring
  else s.treatDelta r (s.netPhase r)

/-- The selector takes a reference (R121, R124): an `ACQUIRING` it enters announces what was announced before (R135). While the
loop is open only the selection changes (R127). -/
def State.takeRef (r : Nat) (s : State) : State :=
  let ann := if s.time.valid then s.announced else (248, false, false)
  let s1 := { s with sel := { s.sel with selected := some r, lastRef := some r, loopAt := none, e := 0, eHist := [] } }
  let s2 := if s1.sel.state = .loopOpen then s1 else s1.treatPhase r
  let s3 := if s2.sel.state = .acquiring then { s2 with sel := { s2.sel with acqClass := ann } } else s2
  s3.post 0x0702 [(8, r), (8, selCode s3.sel.state)]

/-- The reference in use is lost and none is selectable (R133, R136). -/
def State.loseRef (s : State) : State :=
  let t := match s.sel.state with
    | .loopOpen => s
    | .holdover => s
    | .freerun => s
    | .waitStep => s.enterSel .holdover
    | _ => s.enterSel (if s.sel.everLocked then .holdover else .freerun)
  { t with sel := { t.sel with selected := none, lastRef := s.sel.selected.orElse (fun _ => s.sel.lastRef) } }

/-! ### Selection (R121) -/

/-- Can a reference be selected (R111, R112, R119, R121; 07_timing_domain.md R204: the root never uses ref 7). -/
def State.selectable (s : State) (r : Nat) : Bool :=
  let b := s.banks.active
  let t := b.refType r
  (s.ref r).state == .qualified && (s.refRank r != 0 || r == 7 && b.domFollow && b.domEnable) && !s.marked r
    && (!(t == 2 || t == 5) || b.todRx r || s.time.valid) && !(r == 7 && s.dom.isRoot)

/-- Does a device of a domain that is not its root take ref 7 ahead of every other (07_timing_domain.md R204; log entry 171). -/
def State.follows (s : State) : Bool := s.banks.active.domFollow && s.banks.active.domEnable && !s.dom.isRoot

/-- Rank in force: with `domain_follow` ref 7 comes ahead of every other (07_timing_domain.md R204). -/
def State.effRank (s : State) (r : Nat) : Nat := if r = 7 ∧ s.follows then 0 else s.refRank r

/-- The best of a list of references: highest rank, then lowest number. -/
def State.bestOf (s : State) (l : List Nat) : Option Nat :=
  l.foldl (fun a r => match a with
    | none => some r
    | some x => if s.effRank r < s.effRank x then some r else some x) none

/-- Has a reference stayed qualified for the wait-to-restore time. -/
def State.waited (s : State) (r : Nat) : Bool := decide ((s.ref r).qualAt + s.sel.actWtr * tickS ≤ s.time.tick)

/-- References that would be restored in place of the one in use (R121): none while manual selection uses the one it names. -/
def State.restorable (s : State) (cur : Nat) : List Nat :=
  let manual := s.sel.actMode == 2
  refList.filter (fun r => s.selectable r && r != cur && !(manual && cur == s.sel.actManual) && !(s.follows && cur == 7)
    && (s.sel.actMode != 1 && decide (s.effRank r < s.effRank cur) || (manual && r == s.sel.actManual)))

/-- The reference the selection rules name, and whether manual selection has fallen back (R121, log entry 23). A device that
follows its domain takes a qualified ref 7 at once, in every mode (07_timing_domain.md R204). -/
def State.pick (s : State) : Option Nat × Bool :=
  let cand := refList.filter s.selectable
  if s.follows ∧ cand.contains 7 then (some 7, s.sel.fell) else
  let cur := s.sel.selected.filter (fun r => cand.contains r)
  let m := s.sel.actManual
  let manual := s.sel.actMode == 2
  if manual ∧ cand.contains m ∧ (cur = some m ∨ !s.sel.fell ∨ s.waited m) then (some m, false)
  else
    let fell := s.sel.fell || (manual && !cand.contains m)
    match cur with
    | none => (s.bestOf cand, fell)
    | some c =>
      if s.sel.actMode = 1 then (some c, fell)
      else
        match s.bestOf (cand.filter (fun r => decide (s.effRank r < s.effRank c) && s.waited r)) with
        | some r => (some r, fell)
        | none => (some c, fell)

/-- The selector acts (R121): it switches, or the reference in use is lost. -/
def State.runSelector (s : State) : State :=
  let (p, fell) := s.pick
  let s1 := { s with sel := { s.sel with fell := fell } }
  if p = s.sel.selected then s1
  else
    match p with
    | some r => s1.takeRef r
    | none => s1.loseRef

/-! ### Disqualification (R115, R120) -/

/-- Disputes of a reference end (R120): its pairs are forgotten, an active one with `DISPUTE_CLEARED`. -/
def State.endDisputes (r : Nat) (s : State) : State :=
  let mine := fun (p : Pair) => p.a == r || p.b == r
  let cleared := s.sel.pairs.filter (fun p => mine p && p.active)
  cleared.foldl (fun t p => t.post 0x0704 [(8, p.a), (8, p.b)])
    { s with sel := { s.sel with pairs := s.sel.pairs.filter (fun p => !mine p) } }

/-- A qualified reference is disqualified (R115) and requalifies for one full window (R116). -/
def State.dropRef (r cause : Nat) (s : State) : State :=
  if (s.ref r).state = .qualified then
    let n := inc48 (s.ref r).disqs 1
    let s1 := s.updRef r (fun x => { x with
      state := .qualifying, cause := cause, qualSince := s.time.tick, disqs := n, offFails := 0, driftFails := 0
      hitRun := 0, pred := none, fresh := false })
    ((s1.counterHalf (s.ref r).disqs n 0x0703 r 256).post 0x0701 [(8, r), (8, cause)]).endDisputes r
  else s

/-- The same, and the selector reacts at once where the reference was in use. -/
def State.disqualify (r cause : Nat) (s : State) : State :=
  let s1 := s.dropRef r cause
  if (s.ref r).state = .qualified ∧ s1.sel.selected = some r then s1.runSelector else s1

/-- A reference's own indication is good or fails (R115, R116). -/
def State.indication (r : Nat) (ok : Bool) (s : State) : State :=
  let s1 := s.updRef r (fun x => { x with statusOk := ok })
  if ok then s1 else s1.disqualify r 6

/-- A phase hit of a reference is counted (R115); the third in a row disqualifies a qualified one. -/
def State.countHit (r : Nat) (s : State) : State :=
  let x := s.ref r
  if !x.hitDue then s
  else
    let n := inc48 x.phaseHits 1
    let s1 := (s.updRef r (fun x => { x with
      hitDue := false, phaseHits := n, hitRun := x.hitRun + 1, lastHit := some s.time.tick })).counterHalf x.phaseHits n 0x0703 r 304
    if 3 ≤ x.hitRun + 1 then s1.disqualify r 4 else s1

/-! ### Events of a reference -/

/-- A measured event of a reference: kept for its sub-gate, judged against the prediction, and its phase taken
(R109, R115, R123). `phase` is none where the event carries no label. -/
def State.refEvent (r : Nat) (e : GateEvent) (phase : Option Int) (forceHit : Bool) (s0 : State) : State :=
  let s := s0.countHit r
  let x := s.ref r
  if x.state = .disabled then s
  else
    let moved := s.time.stepSum + s.time.slewSum
    let net := phase.map (· + moved)
    let limit : Nat := itemPhaseHitNs x.word * 65536
    let hit := match net, x.pred with
      | some v, some p => !freqOnly (s.banks.active.refType r) && (forceHit || decide (limit < (v - p).natAbs))
      | _, _ => forceHit
    let keep := hit && x.state == .qualified
    let s1 := s.updRef r (fun x => { x with
      evs := x.evs ++ [{ e with hit := hit }], lastEvent := some s.time.tick, gapOk := true, hitNow := hit, hitDue := hit
      hitRun := if hit then x.hitRun else 0
      pred := if keep then x.pred else net.orElse (fun _ => x.pred)
      phase := if keep then x.phase else phase.orElse (fun _ => x.phase)
      freqPhase0 := if s.sel.selected = some r then x.freqPhase0.orElse (fun _ => net) else x.freqPhase0 })
    (refList.filter (fun k => s.banks.active.refType k = 2 && s.banks.active.companion k = r)).foldl
      (fun t k => t.updRef k (fun y => { y with evC := y.evC ++ [{ e with hit := false }] })) s1

/-- An event whose phase difference is treated as a return and never as a hit: a configuration change of the receiver, a
change of parent port (06_satellite_receiver.md R166; 07_timing_domain.md R203). -/
def State.refReturn (r : Nat) (e : GateEvent) (phase : Option Int) (s : State) : State :=
  let s1 := (s.updRef r (fun x => { x with pred := none })).refEvent r e phase false
  if s1.sel.selected = some r ∧ s1.sel.state ≠ .loopOpen then s1.treatPhase r else s1

/-- The label of a PPS edge: from GNSS time or `TOD_RX` where the reference takes it from there, else the nearest whole
second (R111, R144). A `TOD_RX` sentence labels the first edge 100 ms to 900 ms after its last byte. -/
def State.edgeLabel (r : Nat) (stamp : Int) (s : State) : Option Nat :=
  let x := s.ref r
  if r = 0 then x.label
  else if s.banks.active.todRx r then
    match x.label, x.todAt with
    | some l, some t =>
      if t + 100 * tickMs ≤ s.time.tick ∧ s.time.tick ≤ t + 900 * tickMs then some l else none
    | _, _ => none
  else some ((stamp + uS / 2) / uS).toNat

/-- Label failures at an edge of the reference labelled by `TOD_RX` (R144), stamped `t`: no valid sentence, or a label not
one greater than the one before. Its indication fails at the third consecutive second. An edge less than 100 ms after a
sentence leaves the sentence to the first edge that comes in its time. DESIGN CHOICE (log entry 199): after an edge without a
label the label before counts as one greater. -/
def State.todJudge (r : Nat) (label : Option Nat) (t : Int) (s : State) : State :=
  if !s.banks.active.todRx r then s
  else
    let x := s.ref r
    let sec := ((t + uS / 2) / uS).toNat
    let good := match label, x.lastLabel with
      | some l, some p => l == p + 1
      | some _, none => true
      | none, _ => false
    let fails := if good then 0 else if x.failSec = some sec then x.labelFails
      else if x.failSec.elim false (fun f => f + 1 == sec) then x.labelFails + 1 else 1
    let early := x.todAt.elim false (fun a => decide (s.time.tick < a + 100 * tickMs))
    let s1 := s.updRef r (fun x => { x with
      label := if early then x.label else none, lastLabel := label.orElse (fun _ => x.lastLabel.map (· + 1))
      labelFails := fails, failSec := if good then none else some sec })
    s1.indication r (decide (fails < 3))

/-- A stamped event within the gate of a running `LINK_CAL_RUN` is gathered (07_timing_domain.md R195). -/
def State.linkCalEvent (ch : Nat) (e : GateEvent) (s : State) : State :=
  { s with meas := { s.meas with linkCals := s.meas.linkCals.map (fun c =>
      if c.ch = ch ∧ s.time.tick < c.closeTick then { c with evs := c.evs ++ [e] } else c) } }

/-- Is an edge of TIC0 that reads code `k` at this tick the one the receiver has placed (06_satellite_receiver.md R160): its instant
has come, and a running channel's RAW stamp lies within 15 ps of it (DESIGN CHOICE, log entry 204). -/
def State.ppsDue (s : State) (k : Nat) : Bool :=
  let c := s.chan 0
  s.gnss.ppsAt.elim false (fun t =>
    decide (t ≤ s.rawU) && (c.state != 2 || decide (((s.stamps2 (c.offsetPs k)).2 - t).natAbs ≤ (psUnits 15).natAbs)))

/-- The receiver's PPS edge comes, and hands `pps_valid` to the selector: ref 0's own indication (06_satellite_receiver.md
R160). -/
def State.ppsEdge (s : State) : State :=
  let s1 := { s with gnss := { s.gnss with ppsAt := none } }
  if (s.ref 0).state = .disabled then s1 else s1.indication 0 s.gnss.solution

/-- A channel stamps an input edge (R82 to R86, R98), or counts an overrun: `n` source edges have come since the last
command for this channel, this one the last, and the converter reads code `k`. TIC0's edges are those the receiver places. Of
a running channel they reach no further than the next edge to be stamped; a greater `n` is no such edge. -/
def State.tdcEdge (ch n k : Nat) (s00 : State) : State :=
  if n = 0 ∨ (ch = 0 ∧ !s00.ppsDue k) then s00
  else
  let s := if ch = 0 then s00.ppsEdge else s00
  let c := s.chan ch
  let pd := max 1 (c.presc * c.decim)
  let edges := (c.edges + n) % 2 ^ 48
  let skip := c.skip + n
  let s0 := s.updChan ch (fun c => { c with edges := edges, skip := skip % pd })
  if c.state ≠ 2 then s0
  else if pd < skip then s
  else if skip % pd ≠ 0 then s0
  else
    let (t, raw) := s.stamps2 (c.offsetPs k)
    let close := c.lastRaw.elim false (fun l => decide (raw - l < 48 * uNs))
    if close then
      let ov := inc48 c.overruns 1
      (s0.updChan ch (fun c => { c with overruns := ov, overrunSeen := true, overrunNext := true })).counterHalf
        c.overruns ov 0x0602 ch 256
    else
      let ev := inc48 c.events 1
      let e : GateEvent := { n := edges, at_ := t, sf := t - s.time.stepSum, raw := raw, overrun := c.overrunNext }
      let s1 := (s0.updChan ch (fun c => { c with events := ev, lastRaw := some raw, overrunNext := false })).counterHalf
        c.events ev 0x0602 ch 192
      let s2 := { s1 with meas := { s1.meas with job := s1.meas.job.mapVal (fun j =>
        if !j.running then j
        else if e.sf < j.openSf s.time.stepSum then
          { j with lastA := if j.chA = ch then some raw else j.lastA, lastB := if j.diff ∧ j.chB = ch then some raw else j.lastB }
        else if j.chA = ch then { j with evA := j.evA ++ [e] }
        else if j.diff ∧ j.chB = ch then { j with evB := j.evB ++ [e] } else j) } }
      let s2 := if ch = 8 then { s2 with meas := { s2.meas with turnEvs := s2.meas.turnEvs ++ [e] } } else s2
      let s3 := (if ch = 5 then s2.pllCheck raw else s2).linkCalEvent ch e
      let s4 : State := match refOfChannel ch with
        | some r =>
          let ty := s3.banks.active.refType r
          if freqOnly ty then
            let f := s3.channelUhz (s3.chan ch)
            let ideal := ratNear (((edges * (1000000000000000 * 65536) : Nat) : Rat) / f)
            s3.refEvent r e (some (ideal - t)) false
          else
            let label := s3.edgeLabel r t
            let phase := label.map (fun l => (l : Int) * uS - t)
            if r = 0 ∧ s3.gnss.edgeMark then
              ({ s3 with gnss := { s3.gnss with edgeMark := false } }).refReturn r e phase
            else (s3.refEvent r e phase false).todJudge r label t
        | none => s3
      if 9 ≤ ch ∧ c.captures ∧ s4.captureOpen ch e.sf then
        let (ok, s5) := s4.captureRecord [ft (Time96.ofUnits t), (80, raw.toNat), (48, edges), (4, ch), (8, s.time.stepEpoch),
          fb s.ocxo.warm, fb c.overrunNext, rz 2, (8, 1), rz 8]
        if ok then s5
        else
          let lost := inc48 c.captureLost 1
          (s5.updChan ch (fun c => { c with captureLost := lost })).counterHalf c.captureLost lost 0x0602 ch 352
      else s4

/-- A channel stamps an input edge on the TIME and RAW scales, or counts an overrun. -/
def execTdcEdge (dt ch n k : Nat) (s : State) : Host.Outcome State Fault Refusal :=
  let s1 := s.advance dt
  if 16 ≤ ch ∨ 4096 ≤ k then .fault .noSuchUnit else .next (State.settleTiming s1 (s1.tdcEdge ch n k))

/-! ### Evaluation (R113 to R120) -/

/-- Median of a list of integers; of an even count, the mean of the middle two. -/
def median (l : List Int) : Option Rat :=
  let m := l.mergeSort (fun a b => a ≤ b)
  let n := m.length
  if n = 0 then none
  else if n % 2 = 1 then (nth m (n / 2)).map (fun x => (x : Rat))
  else
    match nth m (n / 2 - 1), nth m (n / 2) with
    | some a, some b => some (((a + b : Int) : Rat) / 2)
    | _, _ => none

/-- The latest valid RAW-scale y of a reference. -/
def RefS.rawY (x : RefS) : Option Int := (x.gates.find? (fun g => g.quality = 0)).map (·.raw)

/-- The holdover model's prediction at a case temperature, fs/s (R128): t in days from t_ref, θ in K. -/
def State.model (s : State) (theta : Int) : Rat :=
  let days : Rat := mkRat (s.nowU - (s.hold.tRef : Int) * uS) (86400 * 65536000000000)
  s.hold.y0 + s.hold.a * days + s.hold.c * mkRat (theta - s.hold.thetaRef) 256

/-- The basis of a reference's y_rel: its code and its value (R113). -/
def State.basisOf (s : State) (r : Nat) : Nat × Rat :=
  let others := refList.filter (fun k => k != r && (s.ref k).state == .qualified)
  match median (others.filterMap (fun k => (s.ref k).rawY)) with
  | some v => (0, v)
  | none => if s.modelValid then (1, s.model s.plat.tcase) else (2, 0)

/-- Regression gates of a sub-gate: W / 16, in ms, cut into gates of 1,000 s at the most (R114). -/
def subGates (windowS : Nat) : List Nat :=
  let total := windowS * 1000 / 16
  let k := (total + 999999) / 1000000
  if k ≤ 1 then [total]
  else List.replicate (k - 1) (total / k) ++ [total - (k - 1) * (total / k)]

/-- Quality and RAW y of one regression gate of a channel-like series. -/
def gateY (uhz : Rat) (pd : Nat) (before : Option Int) (evs : List GateEvent) (closeRaw : Int) : Nat × Int :=
  let used := evs.filter (fun e => !e.hit)
  let q := if evs.any (·.overrun) then 2
    else if sourceLost uhz pd before evs closeRaw then 3
    else if used.length < 3 then 1 else 0
  (q, if q = 0 then fitFreq (fitLine (used.map (fun e => (e.n, e.raw)))).b uhz else 0)

/-- Nominal frequency and divisor of a reference's events: those of its channel; ref 7's series has one event per 125 ms
(R108; 07_timing_domain.md R192). -/
def State.refRate (s : State) (r : Nat) : Rat × Nat :=
  if r = 7 then (8000000, 1)
  else
    let c := s.chan (if r ≤ 4 then r else r + 1)
    (s.channelUhz c, c.presc * c.decim)

/-- Quality code of a sub-gate over its gates' codes, by the order of R93. -/
def worstQuality (qs : List Nat) : Nat :=
  if qs.contains 4 then 4 else if qs.contains 2 then 2 else if qs.contains 3 then 3 else if qs.contains 1 then 1 else 0

/-- Least-squares u and v of points (c − c_end, y) (R114): offset at the latest close and slope. -/
def fitUV (l : List (Rat × Rat)) : Rat × Rat :=
  let m : Rat := (l.length : Nat)
  if l.isEmpty then (0, 0)
  else
    let xb := (l.map (·.1)).sum / m
    let yb := (l.map (·.2)).sum / m
    let sxx := (l.map (fun p => (p.1 - xb) * (p.1 - xb))).sum
    let sxy := (l.map (fun p => (p.1 - xb) * (p.2 - yb))).sum
    let v := if sxx = 0 then 0 else sxy / sxx
    (yb - v * xb, v)

/-- The fit of a reference's 16 most recent valid sub-gates, relative (`rel`) or on the RAW scale. -/
def RefS.fit (x : RefS) (cEnd : Int) (rel : Bool) : Rat × Rat :=
  let gs := (x.gates.filter (fun g => g.quality = 0)).take 16
  fitUV (gs.map (fun g => (mkRat (g.centre - cEnd) 65536000000000, (((if rel then g.y else g.raw) : Int) : Rat))))

/-- Highest-ranked other qualified reference: the arbiter of a dispute (R118); rank 0 is the lowest. -/
def State.arbiter (s : State) (a b : Nat) : Option Nat :=
  let key := fun r => if s.refRank r = 0 then 16 else s.refRank r
  (refList.filter (fun r => r != a && r != b && (s.ref r).state == .qualified)).foldl (fun acc r => match acc with
    | none => some r
    | some x => if key r < key x then some r else some x) none

/-- u of a reference at its own latest close (R114), on the common basis, the RAW scale (R117). -/
def State.uRaw (s : State) (r : Nat) : Rat := ((s.ref r).fit (s.ref r).cEnd false).1

/-- Resolve a dispute (R118, R119). -/
def State.arbitrate (p : Pair) (s : State) : State :=
  let thr := fun r => ((s.disputeThr r : Nat) : Rat)
  let mark := fun (l : List Nat) => { s with sel := { s.sel with pairs := s.sel.pairs.map (fun x =>
    if x.a = p.a ∧ x.b = p.b then { x with marks := l } else x) } }
  let unresolved :=
    if s.sel.selected = some p.a then mark [p.b]
    else if s.sel.selected = some p.b then mark [p.a] else mark [p.a, p.b]
  match s.arbiter p.a p.b with
  | none => unresolved
  | some k =>
    let fa := decide (thr p.a < |s.uRaw p.a - s.uRaw k|)
    let fb' := decide (thr p.b < |s.uRaw p.b - s.uRaw k|)
    if fa ∧ !fb' then s.disqualify p.a 5 else if fb' ∧ !fa then s.disqualify p.b 5 else unresolved

/-- One comparison of a pair of qualified references of equal non-zero rank, `a` the lower (R117, R120). DESIGN CHOICE: a
standing dispute is arbitrated again at each comparison (log entry 160), and stands uncompared, with its marks, while the ranks
differ (log entry 161). -/
def State.comparePair (a b : Nat) (s : State) : State :=
  if (s.ref a).state ≠ .qualified ∨ (s.ref b).state ≠ .qualified ∨ s.refRank a = 0 ∨ s.refRank a ≠ s.refRank b then s
  else
    let p := (s.sel.pairs.find? (fun p => p.a = a ∧ p.b = b)).getD { a := a, b := b }
    let far := decide (((max (s.disputeThr a) (s.disputeThr b) : Nat) : Rat) < |s.uRaw a - s.uRaw b|)
    let p1 : Pair := if far then { p with beyond := p.beyond + 1, inside := 0 } else { p with beyond := 0, inside := p.inside + 1 }
    let put := fun (q : Pair) => { s with sel := { s.sel with pairs :=
      (s.sel.pairs.filter (fun x => !(x.a == a && x.b == b))) ++ [q] } }
    if p.active then
      if 2 ≤ p1.inside then
        ({ s with sel := { s.sel with pairs := s.sel.pairs.filter (fun x => !(x.a == a && x.b == b)) } }).post 0x0704 [(8, a), (8, b)]
      else (put p1).arbitrate p1
    else if 2 ≤ p1.beyond then
      let p2 := { p1 with active := true }
      ((put p2).post 0x0703 [(8, a), (8, b)]).arbitrate p2
    else put p1

/-- The sub-gates kept, newest first: the latest 16 and the latest 16 of quality `VALID` (R114, R116). -/
def keepGates (l : List SubGate) : List SubGate :=
  (l.zipIdx.filter (fun e => decide (e.2 < 16) || (e.1.quality == 0 && decide ((l.take e.2).countP (fun g => g.quality == 0) < 16)))).map (·.1)

/-- Every pair of references, the lower first (R117). -/
def refPairs : List (Nat × Nat) := refList.flatMap (fun a => (refList.filter (fun b => decide (a < b))).map (fun b => (a, b)))

/-- A sub-gate of a reference has closed with a quality and a RAW y: tests, qualification and disputes (R113 to R120). `quality`
is that of the result the tests take, `own` that of the reference's own result, which tells whether its source stopped (R109,
R115, R116). A change of its rank, tolerances, window or bandwidth applies from here on (R115), and so does one of the selection
mode (R149). DESIGN CHOICE (log entry 159): the full window is counted in ticks. -/
def State.evaluate (r quality own : Nat) (raw centre_ cEnd : Int) (s0 : State) : State :=
  let s := s0.updRef r (fun x => { x with word := s0.banks.active.refWord r })
  let (code, base) := s.basisOf r
  let g : SubGate := { y := ratNear ((raw : Rat) - base), raw := raw, centre := centre_, quality := quality, own := own }
  let x0 := s.ref r
  let x1 := { x0 with gates := keepGates (g :: x0.gates), basis := code, cEnd := cEnd }
  let (u, v) := x1.fit cEnd true
  let offTol : Rat := if code = 2 then 100000000000 else (itemOffsetTol x0.word : Nat)
  let driftTol : Rat := if code = 2 then 4000000 else (itemDriftTol x0.word : Nat)
  let leftOut := quality = 1 ∨ quality = 2
  let offBad := decide (offTol < |u|)
  let driftBad := decide (driftTol < |v * 3600|) && !(code == 2 && !s.ocxo.warm)
  let x2 := { x1 with
    offset := ratNear u, drift := ratNear (v * 3600)
    offFails := if leftOut then x1.offFails else if offBad then x1.offFails + 1 else 0
    driftFails := if leftOut then x1.driftFails else if driftBad then x1.driftFails + 1 else 0 }
  let s1 := s.updRef r (fun _ => x2)
  let s2 :=
    if x2.state = .qualified then
      if own = 3 then (s1.updRef r (fun x => { x with gapOk := false })).disqualify r 1
      else if !x2.statusOk then s1.disqualify r 6
      else if 2 ≤ x2.offFails then s1.disqualify r 2
      else if 2 ≤ x2.driftFails then s1.disqualify r 3
      else s1
    else if x2.state = .qualifying then
      let w := itemWindowS x0.word * tickS
      let last := x2.gates.take 16
      if x2.qualSince + w ≤ s.time.tick ∧ last.length = 16 ∧ last.all (fun g => g.quality == 0 && g.own == 0) ∧ !offBad ∧ !driftBad
          ∧ x2.lastHit.elim true (fun t => decide (t + w < s.time.tick)) ∧ x2.statusOk then
        s1.updRef r (fun x => { x with state := .qualified, qualAt := s.time.tick, offFails := 0, driftFails := 0, hitRun := 0 })
      else s1
    else s1
  let s3 := refPairs.foldl (fun t p => t.comparePair p.1 p.2) s2
  let v := s3.sel
  let s4 := { s3 with sel := { v with
    actMode := v.mode, actManual := v.manual, actWtr := v.wtr, fell := v.fell && v.mode == v.actMode && v.manual == v.actManual } }
  s4.runSelector

/-- At each sub-gate close a reference is evaluated (R114): the regression gate due closes on the step-free time base;
the last of its sub-gate has it evaluated. Over a sub-gate whose companion's result is `VALID` that result stands in for the
reference's own in the tests (R109); the reference's own quality is judged all the same (R115, R116). -/
def execRefEvaluation (dt ref : Nat) (s : State) : Host.Outcome State Fault Refusal :=
  let s1 := s.advance dt
  if 8 ≤ ref then .fault .noSuchUnit
  else
    let b := s1.banks.active
    let x := s1.ref ref
    let cuts := subGates (itemWindowS x.word)
    let done := (cuts.take x.parts.length).sum
    match x.gateSf, nth cuts x.parts.length with
    | some start, some len =>
      let close := start + ((done + len : Nat) : Int) * uMs
      if x.state = .disabled ∨ s1.stepFree < close then .next s1
      else
        let inA := x.evs.filter (fun e => e.sf < close)
        let inC := x.evC.filter (fun e => e.sf < close)
        let (f, pd) := s1.refRate ref
        let closeRaw := s1.rawOfSf close
        let comp := b.companion ref
        let useC := b.refType ref == 2 && within 1 4 comp && b.refType comp == 6
          && ((s1.ref comp).fresh || (s1.ref comp).state == .qualified)
        let (fc, pdc) := s1.refRate comp
        let parts := x.parts ++ [gateY f pd x.lastEv inA closeRaw]
        let partsC := x.partsC ++ [if useC then gateY fc pdc x.lastEvC inC closeRaw else (3, 0)]
        let s2 := s1.updRef ref (fun x => { x with
          evs := x.evs.filter (fun e => close ≤ e.sf), evC := x.evC.filter (fun e => close ≤ e.sf)
          lastEv := (inA.getLast?.map (·.raw)).orElse (fun _ => x.lastEv)
          lastEvC := (inC.getLast?.map (·.raw)).orElse (fun _ => x.lastEvC)
          parts := parts, partsC := partsC })
        if parts.length < cuts.length then .next s2
        else
          let used := if worstQuality (partsC.map (·.1)) = 0 then partsC else parts
          let q := worstQuality (used.map (·.1))
          let mean := divNear ((used.map (·.2)).sum) used.length
          let s3 := s2.updRef ref (fun x => { x with parts := [], partsC := [], gateSf := some close })
          .next (State.settleTiming s1 (s3.evaluate ref q (worstQuality (parts.map (·.1))) mean ((start + close) / 2) close))
    | _, _ => .next s1

/-- The gap since a reference's last event exceeds four nominal periods (R115): it is disqualified at once. -/
def execRefLos (dt ref : Nat) (s : State) : Host.Outcome State Fault Refusal :=
  let s1 := s.advance dt
  if 8 ≤ ref then .fault .noSuchUnit
  else
    let x := s1.ref ref
    let gap := 4 * eventTicks (s1.banks.active.refType ref)
    .next (if x.state ≠ .disabled ∧ x.lastEvent.elim true (fun t => decide (t + gap < s1.time.tick)) then
      State.settleTiming s1 ((s1.updRef ref (fun x => { x with gapOk := false })).disqualify ref 1)
    else s1)

/-- A PPS edge or PTP offset differs from the prediction by more than the limit (R115): the hit found at the reference's
latest event is counted. -/
def execRefPhaseHit (dt ref : Nat) (s : State) : Host.Outcome State Fault Refusal :=
  let s1 := s.advance dt
  if 8 ≤ ref then .fault .noSuchUnit else .next (State.settleTiming s1 (s1.countHit ref))

/-- Has a port had no ESMC PDU for 5 s (07_timing_domain.md R189), counted from `start` where none has ever come (log entry
184). -/
def State.esmcSilent (s : State) (port start : Nat) : Bool :=
  decide ((s.port port).trunk.esmcAt.getD start + 5 * tickS ≤ s.time.tick)

/-- Quality level QL-DNU of ITU-T G.781 option I (log entry 28). -/
def qlDnu : Nat := 15

/-- Ref 7's own indication as the domain gives it (07_timing_domain.md R203): a parent within the last second, whose domain
frames pass R186. -/
def State.parentOk (s : State) : Bool :=
  s.dom.noParentAt.elim true (fun t => decide (s.time.tick < t + tickS))
    && s.dom.parentPort.elim true (fun p => (s.port p).trunk.badSince.elim true (fun t => decide (s.time.tick < t + tickS)))

/-- Ref 7's own indication as a `SLAVE` port gives it (09_time_service.md R280): its link is up and Announces come in time. -/
def State.slaveOk (s : State) (p : Nat) : Bool :=
  let b := s.banks.active
  (s.port p).link == .up
    && s.ts.announceAt.elim true (fun t => decide (s.time.tick < t + b.announceTimeout p * logTicks (b.logAnnounce p)))

/-- A source's own indication as its unit gives it now (R115): the receiver's timing solution, the domain parent or the `SLAVE`
port, the ESMC of a recovered clock's port. `start` is the tick a SYNCE reference's silence is counted
from where no PDU has ever come. -/
def State.sourceNow (s : State) (r start : Nat) : Bool :=
  let b := s.banks.active
  if r = 0 then s.gnss.solution && s.gnss.rx != .disqualified
  else if r = 7 then b.slavePort.elim s.parentOk s.slaveOk
  else if b.refType r = 4 then
    let t := (s.port (b.refParam r)).trunk
    !s.esmcSilent (b.refParam r) start && !(t.esmcAt.isSome && t.esmcQl == qlDnu)
  else true

/-- The own indication of a reference that runs: its unit's, and the labels of `TOD_RX` (R144). Ref 7's, once failed, is good
again only when its unit says so. -/
def State.sourceOk (s : State) (r : Nat) : Bool :=
  s.sourceNow r (s.ref r).startAt && (r != 7 || (s.ref 7).statusOk)
    && (r == 0 || !(s.banks.active.todRx r) || decide ((s.ref r).labelFails < 3))

/-- A source's own indication fails and the reference is disqualified (R115). -/
def execRefSourceStatusFail (dt ref : Nat) (s : State) : Host.Outcome State Fault Refusal :=
  let s1 := s.advance dt
  if 8 ≤ ref then .fault .noSuchUnit
  else .next (if (s1.ref ref).state ≠ .disabled ∧ !s1.sourceOk ref then State.settleTiming s1 (s1.indication ref false) else s1)

/-- The selector switches references (R121). -/
def execRefSelect (dt : Nat) (s : State) : Host.Outcome State Fault Refusal :=
  let s1 := s.advance dt
  .next (State.settleTiming s1 s1.runSelector)

/-- The wait-to-restore time elapses and the selector reverts (R121). -/
def execWaitToRestoreExpire (dt : Nat) (s : State) : Host.Outcome State Fault Refusal :=
  let s1 := s.advance dt
  .next (match s1.sel.selected with
    | some c => if (s1.restorable c).any s1.waited then State.settleTiming s1 s1.runSelector else s1
    | none => s1)

/-- Does a bank item change a reference's type, source, companion or `tod_rx`, or enable it (R115). -/
def RefS.changed (x : RefS) (w : Nat) : Bool :=
  let key := fun (v : Nat) => (bits v 8 8, bits v 20 4, bit v 24, bits v 32 32)
  key w != key x.word || (x.state == .disabled && bits w 8 8 != 0)

/-- A reference starts afresh under a bank item; `ok` is its source's own indication. What it measured of a source that has
not changed still stands for the gap test. -/
def RefS.restart (x : RefS) (w tick : Nat) (sf : Int) (ok : Bool) : RefS :=
  let off := x.state == .disabled
  let same := !off && bits w 8 8 == bits x.word 8 8 && bits w 32 32 == bits x.word 32 32
  { state := if bits w 8 8 = 0 then .disabled else .qualifying
    word := w, cause := x.cause, fresh := off || x.fresh, statusOk := ok
    gapOk := !same || x.gapOk, lastEvent := if same then x.lastEvent else some tick
    since := if off ∧ bits w 8 8 = 0 then x.since else tick, qualSince := tick, startAt := tick
    gateSf := some sf, cEnd := sf, disqs := x.disqs, phaseHits := x.phaseHits, draining := !off }

/-- References follow the active bank (R115, R122): those whose type, source, companion or `tod_rx` changed are disqualified
with cause `CONFIG` and start afresh, all at the commit instant; one disabled stops. The selector reselects once, if the one in
use is among them. -/
def State.syncRefs (s : State) : State :=
  let w := s.banks.active.refWord
  let moved := refList.filter (fun r => (s.ref r).changed (w r))
  let s1 := moved.foldl (fun t r => if (t.ref r).state = .disabled then t else t.dropRef r 7) s
  let s2 := moved.foldl (fun t r => t.updRef r (fun x => x.restart (w r) t.time.tick t.stepFree (t.sourceNow r t.time.tick))) s1
  if s.sel.selected.elim false moved.contains then s2.runSelector else s2

/-- A reference disabled or changed at a commit reports quiescent: its regression jobs have ended (R122). -/
def execRefQuiescent (dt ref : Nat) (s : State) : Host.Outcome State Fault Refusal :=
  let s1 := s.advance dt
  if 8 ≤ ref then .fault .noSuchUnit else .next (s1.updRef ref (fun x => { x with draining := false }))

/-! ### The loop (R123 to R127, R135) -/

/-- π to 40 places. -/
def piRat : Rat := mkRat 31415926535897932384626433832795028841972 10000000000000000000000000000000000000000

/-- The phase error e an update takes (R123), 2^-16 ns. -/
def State.loopError (s : State) (r : Nat) : Int :=
  let x := s.ref r
  if freqOnly (s.banks.active.refType r) then
    match x.pred, x.freqPhase0 with
    | some p, some p0 => p - p0
    | _, _ => 0
  else s.netPhase r - (if s.sel.state = .waitStep then s.sel.pendingPhase else 0)

/-- One update of the loop (R123): `integ` and y in fs/s. -/
def loopStep (uhz : Nat) (tu : Nat) (slope : Nat) (integ : Rat) (e : Int) : Rat × Int :=
  let wn := 2 * piRat * mkRat uhz 1000000
  let kp := 2 * wn
  let ki := wn * wn * mkRat tu tickS
  let es : Rat := mkRat e 65536000000000
  let lim : Rat := mkRat slope 1000000000 / kp
  let ec := max (-lim) (min lim es)
  let integ' := integ + ki * ec * 1000000000000000
  (integ', ratNear (kp * ec * 1000000000000000 + integ'))

/-- Each update interval the loop computes and writes a new frequency adjustment (R123). A phase hit contributes no
update; nothing is written while the loop is open, in `HOLDOVER` or `FREERUN`, or before the first setting. DESIGN CHOICE (log
entry 162): t_u is counted in ticks. -/
def State.loopUpdate (s : State) : State :=
  match s.sel.selected with
  | none => s
  | some r =>
    let b := s.banks.active
    let tu := updateTicks (b.refType r)
    let st := s.sel.state
    if s.sel.loopHeld ∨ s.sel.setting ∨ st = .holdover ∨ st = .freerun ∨ st = .loopOpen
        ∨ s.sel.loopAt.elim false (fun t => decide (s.time.tick < t + tu))
        ∨ ((s.ref r).hitNow ∧ (s.ref r).state = .qualified) ∨ (s.ref r).phase.isNone then s
    else
      let e := s.loopError r
      let (integ, y) := loopStep (itemBandwidthUhz (s.ref r).word) tu b.slopeLimit s.sel.integ e
      let freq := freqOnly (b.refType r)
      let lockOk := if freq then decide (e.natAbs ≤ 65536) else decide (e.natAbs ≤ 20 * 65536) && !s.time.slew.active
      let s1 := s.flushY
      { s1 with
        time := s1.time.setFreq y
        sel := { s1.sel with
          integ := integ, e := e, eHist := (e :: s.sel.eHist).take 60, loopAt := some s.time.tick, lastUpdate := s.now
          lockRun := if lockOk then s.sel.lockRun + 1 else 0 } }

/-- An update of the steering loop. -/
def execLoopUpdate (dt : Nat) (s : State) : Host.Outcome State Fault Refusal :=
  let s1 := s.advance dt
  .next (State.settleTiming s1 s1.loopUpdate)

/-- The lock criterion is met (R135): 60 consecutive updates within 20 ns with no slew remaining, or within 1 ns of a
frequency-only reference. -/
def execLockAchieved (dt : Nat) (s : State) : Host.Outcome State Fault Refusal :=
  let s1 := s.advance dt
  .next (match s1.sel.selected with
    | some r =>
      if s1.sel.state = .acquiring ∧ 60 ≤ s1.sel.lockRun then
        let st := if freqOnly (s1.banks.active.refType r) then SelState.lockedFreq else SelState.locked
        State.settleTiming s1 (({ s1 with sel := { s1.sel with everLocked := true } }).enterSel st)
      else s1
    | none => s1)

/-! ### Holdover (R128, R129) -/

/-- Least-squares fit of the model of R128 over samples (y, θ, centre): t_ref and θ_ref are the means of the samples
(log entry 25). -/
def fitModel (samples : List (Int × Int × Int)) (h : HoldS) : HoldS :=
  let m : Rat := (samples.length : Nat)
  let ys : List Rat := samples.map (fun x => (x.1 : Rat))
  let th : List Rat := samples.map (fun x => mkRat x.2.1 256)
  let ts : List Rat := samples.map (fun x => mkRat x.2.2 86400)
  let mean := fun (l : List Rat) => l.sum / m
  let yb := mean ys
  let hb := mean th
  let tb := mean ts
  let dot := fun (a b : List Rat) (ma mb : Rat) => (List.zipWith (fun x y => (x - ma) * (y - mb)) a b).sum
  let stt := dot ts ts tb tb
  let shh := dot th th hb hb
  let sth := dot ts th tb hb
  let sty := dot ts ys tb yb
  let shy := dot th ys hb yb
  let det := stt * shh - sth * sth
  let (a, c) : Rat × Rat :=
    if det ≠ 0 then ((sty * shh - shy * sth) / det, (shy * stt - sty * sth) / det)
    else if stt ≠ 0 then (sty / stt, 0)
    else if shh ≠ 0 then (0, shy / shh) else (0, 0)
  let tRef := (tb * 86400).floor.toNat
  let thRef := ratNear (hb * 256)
  let y0 := yb + a * (mkRat tRef 86400 - tb) + c * (mkRat thRef 256 - hb)
  let res := samples.map (fun x =>
    (x.1 : Rat) - (yb + a * (mkRat x.2.2 86400 - tb) + c * (mkRat x.2.1 256 - hb)))
  { h with y0 := y0, a := a, c := c, tRef := tRef, thetaRef := thRef, rms := sqrtNear ((res.map (fun x => x * x)).sum / m) }

/-- Every 1,000 s holdover learning records a sample and refits its model (R128): `theta` is the mean case temperature
over the interval, 1/256 °C. DESIGN CHOICE (log entry 191): an interval that a pause breaks goes on after it, and its centre is
counted back from its end. -/
def execHoldoverSample (dt : Nat) (theta : Int) (s : State) : Host.Outcome State Fault Refusal :=
  let s1 := s.advance dt
  let h := s1.hold
  .next (
    if s1.sel.state = .locked ∧ s1.ocxo.warm ∧ !s1.sel.loopHeld ∧ 1000 * tickS ≤ h.accT then
      let centre_ : Int := (s1.time.sec : Int) - ((h.accT / (2 * tickS) : Nat) : Int)
      let sample := (divNear h.accY h.accT, theta, centre_)
      let samples := (sample :: h.samples).filter (fun x => decide ((s1.time.sec : Int) - 604800 ≤ x.2.2))
      { s1 with hold := fitModel samples { h with samples := samples, accY := 0, accT := 0 }, plat := { s1.plat with tcase := theta } }
    else s1)

/-- Mean of the y written over the most recent 1,000 s in `LOCKED` or `LOCKED_FREQ` (R129). -/
def histMean (l : List (Int × Nat)) : Option Int :=
  let n := (l.map (·.2)).sum
  if n = 0 then none else some (divNear ((l.map (fun e => e.1 * (e.2 : Int))).sum) n)

/-- Each second in holdover the model's frequency is written (R129), θ read from the case sensor being `theta`. -/
def execHoldoverWrite (dt : Nat) (theta : Int) (s : State) : Host.Outcome State Fault Refusal :=
  let s1 := s.advance dt
  let due := s1.hold.writeAt.elim true (fun t => decide (t + tickS ≤ s1.time.tick))
  .next (
    if s1.sel.state = .holdover ∧ !s1.sel.loopHeld ∧ due then
      let y := if s1.modelValid then ratNear (s1.model theta)
        else (histMean s1.sel.yHist).getD s1.time.freqAdj
      State.settleTiming s1 { s1 with
        time := s1.time.setFreq y, hold := { s1.hold with writeAt := some s1.time.tick }, plat := { s1.plat with tcase := theta } }
    else s1)

/-! ### Auto-step (R134) -/

/-- At each whole second S in `WAIT_STEP` the selector tests, once and at that tick, whether to schedule a step at S + 1 s: no
armed cue may have an instant in [S, S + 1 s + step horizon]. -/
def execAutoStepTest (dt : Nat) (s : State) : Host.Outcome State Fault Refusal :=
  let s1 := s.advance dt
  let b := s1.banks.active
  let sec := s1.time.sec
  let lo : Int := (sec : Int) * uS
  let hi : Int := lo + uS + (b.stepHorizonS : Int) * uS
  let blocked := s1.cue.rows.any (fun e => !e.2.template && decide (lo ≤ e.2.inst) && decide (e.2.inst ≤ hi))
  .next (
    if s1.sel.state = .waitStep ∧ b.autoStep ∧ !(s1.time.scheds.any (fun c => c.src == 2)) ∧ s1.atSecond ∧ s1.sel.tested ≠ some sec then
      if blocked then { s1 with sel := { s1.sel with blocked := true, tested := some sec } }
      else { s1 with
        sel := { s1.sel with blocked := false, tested := some sec }
        time := { s1.time with scheds := s1.time.scheds ++ [{ atSec := sec + 1, delta := none, asStep := true, src := 2 }] } }
    else s1)

/-! ### Commands -/

/-- Is a `REF_CONFIG_SET` request in range (R146), against the shadow it is staged into. -/
def refItemOk (q : Req) (s : State) : Bool :=
  let r := q.f 0 4
  let t := q.f 8 8
  let c := q.f 20 4
  let p := q.f 32 32
  let sh := s.banks.shadow
  let zeroOr := fun lo hi v => v == 0 || within lo hi v
  decide (r ≤ 7) && decide (t ≤ 6) && typeAllowed r t
    && (c == 15 || (t == 2 && within 1 4 c && c != r && sh.refType c == 6))
    && (!q.b 24 || ((t == 2 || t == 5) && refList.all (fun k => k == r || !sh.todRx k)))
    && (if t = 2 ∨ t = 5 then p == 1
        else if t = 6 then (refDividers p).isSome
        else if t = 4 then decide (p ≤ 55)
        else p == 0 || t == 0)
    && (!q.b 25 || within 1 4 r)
    && zeroOr 10 86400 (q.f 64 32) && q.f 64 32 % 2 == 0
    && zeroOr 1 1000000 (q.f 96 32) && zeroOr 10 1000000 (q.f 256 32)

/-- `REF_CONFIG_SET` (R146), staged: `traceable` is set for GNSS. -/
def cmdRefConfigSet : Command where
  opcode := 0x0701
  layout _ := { size := 288, fields := [(0, 4), (8, 8), (16, 4), (20, 4), (24, 1), (25, 1), (26, 1), (32, 32), (64, 32),
    (96, 32), (128, 64), (192, 32), (224, 32), (256, 32)] }
  range := refItemOk
  objs q := stageObjs 0x0701 (q.f 0 4)
  run q s := stage (fun b => { b with ref := Tbl.put b.ref (q.f 0 4) (if q.f 8 8 = 1 then setBits q.body 26 1 1 else q.body) }) s

def execRefConfigSet (q : Req) (s : State) : Host.Outcome State Fault Refusal := runCommand cmdRefConfigSet q s

/-- A reference's active item with defaults shown as their values (R147). -/
def Bank.refShown (b : Bank) (r : Nat) : Fields :=
  let w := b.refWord r
  [(64, bits w 0 64), (32, itemWindowS w), (32, itemPhaseHitNs w), (64, itemOffsetTol w), (32, itemDriftTol w),
   (32, itemDisputeThr w), (32, itemBandwidthUhz w)]

/-- `REF_CONFIG_GET` (R147). -/
def cmdRefConfigGet : Command where
  opcode := 0x0702
  layout _ := { size := 4, fields := [(0, 4)] }
  range q _ := decide (q.f 0 4 ≤ 7)
  run q s := .done stOk (s.banks.active.refShown (q.f 0 4)) s

def execRefConfigGet (q : Req) (s : State) : Host.Outcome State Fault Refusal := runCommand cmdRefConfigGet q s

/-- `REF_STATUS` (R148). -/
def cmdRefStatus : Command where
  opcode := 0x0703
  layout _ := { size := 4, fields := [(0, 4)] }
  range q _ := decide (q.f 0 4 ≤ 7)
  run q s :=
    let r := q.f 0 4
    let x := s.ref r
    .done stOk [(4, r), (4, s.refReport r), (4, x.cause), fb (s.sel.selected == some r), fb x.statusOk, (2, x.basis), rz 16,
      (32, (s.time.tick - x.since) / tickS), fi 64 x.offset, fi 64 x.drift,
      fi 64 (if freqOnly (s.banks.active.refType r) then 0 else x.phase.getD 0), (48, x.disqs), (48, x.phaseHits), rz 32] s

def execRefStatus (q : Req) (s : State) : Host.Outcome State Fault Refusal := runCommand cmdRefStatus q s

/-- `SEL_MODE_SET` (R149): the selector acts on it at its next evaluation. -/
def cmdSelModeSet : Command where
  opcode := 0x0704
  layout _ := { size := 64, fields := [(0, 2), (4, 4), (32, 32)] }
  range q _ := decide (q.f 0 2 ≤ 2) && (q.f 0 2 != 2 || decide (q.f 4 4 ≤ 7)) && decide (q.f 32 32 ≤ 86400)
  run q s :=
    let m := q.f 4 4
    let b := s.banks.active
    if q.f 0 2 = 2 ∧ (b.refType m = 0 ∨ b.rank m = 0) then .done stNotPermitted [] s
    else .done stOk [] { s with sel := { s.sel with mode := q.f 0 2, manual := m, wtr := q.f 32 32 } }

def execSelModeSet (q : Req) (s : State) : Host.Outcome State Fault Refusal := runCommand cmdSelModeSet q s

/-- Seconds until a restore, 0 when none is pending (R150). -/
def State.wtrRemaining (s : State) : Nat :=
  match s.sel.selected with
  | none => 0
  | some c =>
    let left := (s.restorable c).filterMap (fun r =>
      let due := (s.ref r).qualAt + s.sel.actWtr * tickS
      if s.time.tick < due then some ((due - s.time.tick + tickS - 1) / tickS) else none)
    (left.foldl (fun (a : Option Nat) v => some (a.elim v (fun x => min x v))) none).getD 0

/-- `SEL_STATUS` (R150). `auto_step_blocked` reads 1 while the test of R134 fails: with `auto_step` clear no test runs (log
entry 192). -/
def cmdSelStatus : Command where
  opcode := 0x0705
  run _ s :=
    let a := s.announced
    .done stOk [(4, selCode s.sel.state), (4, s.sel.selected.getD 15), (2, s.sel.mode), fb (!s.sel.loopHeld),
      fb (s.sel.state == .waitStep), fb (s.sel.blocked && s.banks.active.autoStep), fb a.2.1, fb a.2.2, rz 1, (8, a.1), rz 8,
      (32, (s.time.tick - s.sel.since) / tickS), (32, s.wtrRemaining), (32, s.estError), fi 64 s.sel.pendingPhase,
      fi 64 s.time.freqAdj] s

def execSelStatus (q : Req) (s : State) : Host.Outcome State Fault Refusal := runCommand cmdSelStatus q s

/-- `LOOP_SET` (R127, R151). -/
def cmdLoopSet : Command where
  opcode := 0x0706
  layout _ := { size := 32, fields := [(0, 1)] }
  run q s :=
    if q.b 0 = s.sel.loopHeld then .done stNotPermitted [] s
    else if q.b 0 then
      let s1 := s.enterSel .loopOpen
      .done stOk [fi 64 s.time.freqAdj] (State.settleTiming s { s1 with sel := { s1.sel with loopHeld := true } })
    else
      let s1 := { s with sel := { s.sel with loopHeld := false, integ := (s.time.freqAdj : Rat), loopAt := none, e := 0, eHist := [] } }
      let s2 := match s1.sel.selected with
        | some r => s1.treatPhase r
        | none => s1.enterSel .holdover
      .done stOk [fi 64 s.time.freqAdj] (State.settleTiming s s2)

def execLoopSet (q : Req) (s : State) : Host.Outcome State Fault Refusal := runCommand cmdLoopSet q s

/-- `TIMING_POLICY_SET` (R152), staged. -/
def cmdTimingPolicySet : Command where
  opcode := 0x0707
  layout _ := { size := 160, fields := [(0, 32), (32, 32), (64, 1), (96, 32), (128, 32)] }
  range q _ := within 10 1000000000 (q.f 0 32) && within 1 10000 (q.f 32 32) && within 1 3600 (q.f 96 32)
    && within 10 1000000 (q.f 128 32)
  objs _ := stageObjs 0x0707 0
  run q s := stage (fun b => { b with policy := q.body }) s

def execTimingPolicySet (q : Req) (s : State) : Host.Outcome State Fault Refusal := runCommand cmdTimingPolicySet q s

/-- `TIMING_POLICY_GET` (R152). -/
def cmdTimingPolicyGet : Command where
  opcode := 0x0708
  run _ s := .done stOk [(160, s.banks.active.policy)] s

def execTimingPolicyGet (q : Req) (s : State) : Host.Outcome State Fault Refusal := runCommand cmdTimingPolicyGet q s

/-- `HOLDOVER_STATUS` (R155). -/
def cmdHoldoverStatus : Command where
  opcode := 0x070B
  run _ s :=
    let h := s.hold
    .done stOk [fb s.modelValid, rz 31, (32, s.learnedS), fi 64 (ratNear h.y0), fi 64 (ratNear h.a), fi 64 (ratNear h.c),
      ft { sec := h.tRef }, fi 16 h.thetaRef, rz 16, (32, h.rms), (32, h.lastS)] s

def execHoldoverStatus (q : Req) (s : State) : Host.Outcome State Fault Refusal := runCommand cmdHoldoverStatus q s

/-- `OCXO_STATUS` (04_interval_measurement.md R107): the OCXO against the selected reference is the inverse of that
reference's RAW-scale y. -/
def cmdOcxoStatus : Command where
  opcode := 0x0608
  run _ s :=
    let o := s.ocxo
    let sel := s.sel.selected.filter (fun r => (s.ref r).state = .qualified)
    let off : Int := match sel.bind (fun r => (s.ref r).rawY) with
      | some y => ratNear ((1 / (1 + mkRat y 1000000000000000) - 1) * 1000000000000000)
      | none => 0
    .done stOk [fb o.warm, fb o.pllLocked, rz 14, fi 16 o.devMk, (32, o.heaterAt.elim 0 (fun t => (s.time.tick - t) / tickS)),
      (32, o.heaterMw), fb sel.isSome, rz 31, fi 64 off, fi 64 o.phaseWalk] s

def execOcxoStatus (q : Req) (s : State) : Host.Outcome State Fault Refusal := runCommand cmdOcxoStatus q s

end Sys2Proof.Machine
end

