-- ==== Sys2Proof/Machine/Gnss.lean ====
section
/-!
DEFINITION. The satellite timing receiver: its states, epochs, consistency checks, indicators and antenna supervision,
with the commands of group 0x08 (06_satellite_receiver.md R156 to R183). What the receiver measures from the sky for an
epoch is the `GNSS_EPOCH` command's operand.
-/
namespace Sys2Proof

/-- Is a signal of the L5 band. -/
def GnssSignal.l5 (g : GnssSignal) : Bool := g.signal == 1 || g.signal == 3 || g.signal == 6

namespace Machine

/-! ### Codes -/

def rxCode : RxState → Nat
  | .off => 0
  | .acquiring => 1
  | .survey => 2
  | .hold => 3
  | .disqualified => 4

def antennaCode : Antenna → Nat
  | .off => 0
  | .ok => 1
  | .opened => 2
  | .short => 3

/-- The active bank with the receiver's item as of its last epoch: committed changes apply at the next (R177). -/
def State.gnssBank (s : State) : Bank := { s.banks.active with gnss := s.gnss.cfg }

/-- The cause of an event that an epoch has led to: the whole second of the latest one (R183). -/
def State.epochTime (s : State) : Time96 := s.gnss.epochSec.elim s.now (fun n => { sec := n })

/-- The timing solution (R160): 4 satellites in `SURVEY`, `hold_min_sats` in `HOLD`. -/
def State.timingSolution (s : State) : Bool :=
  match s.gnss.rx with
  | .survey => decide (4 ≤ s.gnss.satsUsed)
  | .hold => decide (s.gnssBank.holdMinSats ≤ s.gnss.satsUsed)
  | _ => false

/-- After any change: the timing solution follows, a change of state or solution is posted (R183), and the fault
condition of R172 stands in `DISQUALIFIED`. `old` is the state before and `t` the cause. -/
def State.settleGnss (t : Time96) (old s : State) : State :=
  let s1 := { s with gnss := { s.gnss with solution := s.timingSolution } }
  let s2 := if s1.gnss.rx = old.gnss.rx then s1 else { s1 with gnss := { s1.gnss with since := s1.time.tick } }
  let s3 := if s2.gnss.rx = old.gnss.rx ∧ s2.gnss.solution = old.gnss.solution then s2
    else s2.postAt t 0x0801 [(8, rxCode old.gnss.rx), (8, rxCode s2.gnss.rx), fb s2.gnss.solution, (8, s2.gnss.hard), (8, s2.gnss.soft)]
  if s3.gnss.rx = .disqualified ∧ old.gnss.rx ≠ .disqualified then s3.condition 0x24 12 6 0
  else if s3.gnss.rx ≠ .disqualified ∧ old.gnss.rx = .disqualified then s3.conditionEnds 0x24
  else s3

/-- Firmware writes the surveyed position to flash, or erases it; that waits while firmware does not run or `SUPPLY_WARN`
stands (R163). -/
def State.storePosition (p : Option (Int × Int × Int)) (s : State) : State :=
  if !s.fw.running then { s with gnss := { s.gnss with toStore := some p } }
  else if s.plat.warn then
    let queued := s.plat.flashWork.any (fun w => decide (w = FlashWork.position))
    { s with
      gnss := { s.gnss with toStore := some p }
      plat := { s.plat with flashWork := if queued then s.plat.flashWork else s.plat.flashWork ++ [.position] } }
  else { s with gnss := { s.gnss with stored := p, toStore := none } }

/-- Firmware runs again: a position that waits for it is written, and flagged rows are recorded. -/
def State.storeWaiting (s : State) : State :=
  let s1 := s.gnss.toStore.elim s (fun p => s.storePosition p)
  if s1.plat.flashWork.any (fun w => decide (w = FlashWork.rows)) then s1.saveRows else s1

/-- The receiver starts over in `ACQUIRING` and stops its edges (R159). -/
def GnssS.acquire (g : GnssS) : GnssS :=
  { g with rx := .acquiring, satsUsed := 0, sats := [], dual := false, fixes := 0, fixSum := (0, 0, 0), fixSq := 0, surveyS := 0
           holdS := 0, clockHist := [], clearSince := none, lastLabel := none, hardSet := false, ppsAt := none, lastSol := none }

/-- Survey-in starts over. -/
def GnssS.restartSurvey (g : GnssS) : GnssS := { g with fixes := 0, fixSum := (0, 0, 0), fixSq := 0, surveyS := 0, sigma := 0, holdS := 0 }

/-- Square of the distance of two positions, mm². -/
def dist2 (a b : Int × Int × Int) : Nat :=
  (a.1 - b.1).natAbs ^ 2 + (a.2.1 - b.2.1).natAbs ^ 2 + (a.2.2 - b.2.2).natAbs ^ 2

/-! ### Signals (R157, R161, R162, R168) -/

/-- Is a signal one of the seven the receiver processes (R156). -/
def processed (g : GnssSignal) : Bool :=
  ([(0, 0), (0, 1), (1, 2), (1, 3), (2, 4), (3, 5), (3, 6)] : List (Nat × Nat)).contains (g.constellation, g.signal)

/-- Signals tracked: enabled constellations and bands, above the mask, highest elevation first, at one elevation the
constellations taken in turn, the L1 band before L5, 192 channels (R157). -/
def State.trackedSignals (s : State) (l : List GnssSignal) : List GnssSignal :=
  let b := s.gnssBank
  let seen := l.filter (fun g => processed g && bit b.constMask g.constellation && (!g.l5 || bit b.bandMask 1) && decide ((b.elevMask : Int) < g.elevation))
  let turn := fun (g : GnssSignal) =>
    ((seen.filter (fun x => x.constellation == g.constellation && x.elevation == g.elevation && decide (x.svid < g.svid))).map (·.svid)).dedup.length
  (seen.mergeSort (fun x y => decide (y.elevation < x.elevation) || (x.elevation == y.elevation &&
    (decide (turn x < turn y) || (turn x == turn y && (decide (x.constellation < y.constellation) || (x.constellation == y.constellation &&
      (!x.l5 || y.l5)))))))).take 192

/-- The constellation that alone enters the time solution, if the timescale names one (R161); while two contribute that
disagree, the timescale's own, GPS in ensemble mode (R169). -/
def State.onlyConst (s : State) (contributing : Nat) : Option Nat :=
  let t := s.gnssBank.gnssScale
  if t = 1 then some 0 else if t = 2 then some 1 else if t = 3 then some 3
  else if bit s.gnss.soft 2 ∧ s.gnss.sysPair ∧ contributing = 2 then some 0 else none

/-- Why a signal is not used before the residual test: 0 usable, 2 constellation, 3 unhealthy, 4 no ephemeris held (R180,
R182). -/
def State.exclusion (s : State) (g : GnssSignal) : Nat :=
  if bit s.gnss.sysExcluded g.constellation then 2 else if !g.healthy then 3
  else if !s.gnss.ephs.contains (g.constellation, g.svid) then 4 else 0

/-- Distinct satellites of a list of signals. -/
def satCount (l : List GnssSignal) : Nat := (l.map (fun g => (g.constellation, g.svid))).dedup.length

/-- The residual test of R168: with 5 satellites, a signal beyond three times the rms residual and 15 ns is excluded. -/
def residualBad (used : List GnssSignal) (g : GnssSignal) : Bool :=
  let sum := (used.map (fun x => x.residual * x.residual)).sum
  decide (5 ≤ satCount used) && decide (150 ≤ g.residual.natAbs)
    && decide (9 * sum < (used.length : Int) * (g.residual * g.residual))

/-- An entry of `GNSS_SAT_LIST` (R180). -/
def satEntry (g : GnssSignal) (used : Bool) (why : Nat) : Nat :=
  Fields.pack [(4, g.constellation), (4, g.signal), (8, g.svid), (8, g.cn0), fi 8 g.elevation, (9, g.azimuth), fb used, (3, why),
    rz 3, fi 16 g.residual]

/-! ### The clock solution (R160 to R162, R165) -/

/-- Square of the centre frequency of a signal's band, kHz² (R156). -/
def bandFreq2 (g : GnssSignal) : Rat := if g.l5 then 1176450 ^ 2 else if g.constellation = 3 then 1561098 ^ 2 else 1575420 ^ 2

/-- How far a constellation's clock reads ahead of the chosen timescale (R161), 2^-16 ns: it marks its second that much earlier. -/
def State.systemOffset (s : State) (c : Nat) : Int :=
  let g := s.gnss
  let off := fun (k : Nat) => if k = 1 then g.ggto else if k = 3 then g.bgto else if k = 2 then g.gloBias else 0
  let scale := s.gnssBank.gnssScale
  off c - (if scale = 2 then off 1 else if scale = 3 then off 3 else 0)

/-- A signal's own estimate of the chosen timescale's second: the band bias taken out, and its system's second brought to that
timescale's (R161, R165). -/
def State.signalTime (s : State) (g : GnssSignal) : Int :=
  g.est - (if g.l5 then psUnits s.gnssBank.bandBiasPs else 0) + s.systemOffset g.constellation

/-- The L5-band signal of the same satellite. -/
def partner (l : List GnssSignal) (g : GnssSignal) : Option GnssSignal :=
  if g.l5 then none else l.find? (fun x => x.l5 && x.constellation == g.constellation && x.svid == g.svid)

/-- Estimates that enter a solution, each with its weight in quarters (R162): with `dual_band` the ionosphere-free combination of
each dual-band satellite, and single-band signals corrected by the ionosphere those show, at one quarter; else every signal,
corrected by its broadcast model. -/
def State.estimates (s : State) (dual : Bool) (l : List GnssSignal) : List (Nat × Rat × Nat) :=
  let pairs := l.filterMap (fun g => (partner l g).map (fun h => (g, h)))
  let delay := fun (e : GnssSignal × GnssSignal) =>
    ((s.signalTime e.2 - s.signalTime e.1 : Int) : Rat) * bandFreq2 e.2 / (bandFreq2 e.1 - bandFreq2 e.2)
  if dual then
    let seen := pairs.map (fun e => ratNear (delay e))
    let single := l.filter (fun g => !pairs.any (fun e => e.1.constellation == g.constellation && e.1.svid == g.svid))
    pairs.map (fun e => (e.1.constellation, (s.signalTime e.1 : Rat) - delay e, 4))
      ++ single.map (fun g => (g.constellation, ((s.signalTime g - Config.ionoFrom seen g.constellation g.signal g.elevation : Int) : Rat), 1))
  else l.map (fun g => (g.constellation, ((s.signalTime g - (if g.constellation = 1 then g.ionoGal else g.ionoGps) : Int) : Rat), 4))

/-- Weighted mean of estimates; none of none. -/
def meanEstimate (l : List (Nat × Rat × Nat)) : Option Rat :=
  let w := (l.map (fun e => e.2.2)).sum
  if w = 0 then none else some ((l.map (fun e => e.2.1 * ((e.2.2 : Nat) : Rat))).sum / ((w : Nat) : Rat))

/-- Is the GLONASS bias frozen: 24 h in `HOLD` (R161). -/
def GnssS.gloFrozen (g : GnssS) : Bool := decide (86400 ≤ g.holdS)

/-- The clock solution of an epoch's used signals, RAW instant of its second (R161, R165): GLONASS enters once its bias is
frozen; the cable delay is taken out. -/
def State.clockSolution (s : State) (dual : Bool) (used : List GnssSignal) : Option Rat :=
  let l := (s.estimates dual used).filter (fun e => e.1 != 2 || s.gnss.gloFrozen)
  (meanEstimate l).map (fun t => t - (psUnits (toSigned 32 s.gnssBank.cableDelayPs) : Int))

/-- The GLONASS bias is solved anew at each epoch until it is frozen (R161), over all usable signals, whichever of them sets the
clock: DESIGN CHOICE (log entry 167), how far the mean of GLONASS marks its second before that of the others. -/
def State.solveGlonass (dual : Bool) (used : List GnssSignal) (s : State) : State :=
  let l := s.estimates dual used
  match meanEstimate (l.filter (fun e => e.1 == 2)), meanEstimate (l.filter (fun e => e.1 != 2)) with
  | some a, some b => if s.gnss.gloFrozen then s else { s with gnss := { s.gnss with gloBias := s.gnss.gloBias + ratNear (b - a) } }
  | _, _ => s

/-- A RAW instant to the nearest 10 ps (R160). -/
def tenPsGrid (t : Rat) : Int := psUnits (10 * ratNear (t * 100 / 65536))

/-! ### Checks (R169 to R171) -/

/-- The time estimates of R169: each constellation with two satellites usable, GLONASS once its bias is frozen. -/
def State.systemTimes (s : State) (dual : Bool) (l : List GnssSignal) : List (Nat × Rat) :=
  ([0, 1, 2, 3] : List Nat).filterMap (fun c =>
    let mine := l.filter (fun g => g.constellation == c)
    if 2 ≤ satCount mine ∧ (c ≠ 2 ∨ s.gnss.gloFrozen) then (meanEstimate (s.estimates dual mine)).map (fun t => (c, t)) else none)

/-- Median of rationals. -/
def medianRat (l : List Rat) : Option Rat :=
  let m := l.mergeSort (fun a b => decide (a ≤ b))
  let n := m.length
  match nth m ((n - 1) / 2), nth m (n / 2) with
  | some a, some b => some ((a + b) / 2)
  | _, _ => none

/-- The constellation check of R169 over the estimates of constellations with two satellites: each against the median of the
others that are not excluded. DESIGN CHOICE (log entry 142): of three or more contributing, the one furthest off among those that
have failed for 10 epochs is excluded and the others' counts start over; an epoch that compares nothing counts neither way. Two
contributing that disagree are marked, for the timescale's own to set the clock alone. -/
def State.sysCheck (es : List (Nat × Rat)) (s : State) : State :=
  let g := s.gnss
  let limit : Rat := ((s.gnssBank.sysLimitNs * 65536 : Nat) : Rat)
  let dev := fun (e : Nat × Rat) =>
    (medianRat ((es.filter (fun x => x.1 ≠ e.1 && !bit g.sysExcluded x.1)).map (·.2))).map (fun m => |e.2 - m|)
  let far := fun (e : Nat × Rat) => (dev e).elim false (fun d => decide (limit < d))
  let contributing := es.filter (fun e => !bit g.sysExcluded e.1)
  let fails : Tbl Nat := contributing.foldl (fun t e => Tbl.put t e.1 (if far e then Tbl.getD g.sysFails e.1 0 + 1 else 0)) []
  let bad := contributing.filter (fun e => decide (10 ≤ Tbl.getD fails e.1 0))
  let compared := es.any (fun e => (dev e).isSome) && (bitList g.sysExcluded 4).all (fun c => es.any (fun e => e.1 == c))
  let passes := if !compared then g.sysPasses else if es.any far then 0 else g.sysPasses + 1
  let worst := bad.foldl (fun (a : Option (Nat × Rat)) e => match a with
    | some x => if (dev x).getD 0 < (dev e).getD 0 then some e else some x
    | none => some e) none
  match worst with
  | some w =>
    { s with gnss := { g with
      sysPasses := passes, sysDue := true, sysPair := decide (contributing.length < 3)
      sysFails := if 3 ≤ contributing.length then [] else fails
      sysExcluded := if 3 ≤ contributing.length then g.sysExcluded ||| 2 ^ w.1 else g.sysExcluded } }
  | none => { s with gnss := { g with
      sysFails := fails, sysPasses := passes, sysDue := g.sysDue && decide (passes < 60), sysPair := g.sysPair && decide (passes < 60)
      sysExcluded := if 60 ≤ passes then 0 else g.sysExcluded } }

/-- The prediction check of R170 for one epoch: does it fail; none where the check does not run. -/
def State.predictFails (s : State) (label : Nat) (rawEdge : Int) : Option Bool :=
  let g := s.gnss
  let b := s.gnssBank
  if g.rx = .disqualified then
    let ahead : Rat := ((s.rawU - rawEdge : Int) : Rat) * mkRat (s.time.inc : Nat) (4 * 2 ^ 40)
    let reads : Rat := (s.nowU : Rat) - ahead
    some (decide (((b.predictNs + s.estError : Nat) : Rat) * 65536 < |reads - (((label : Int) * uS : Int) : Rat)|))
  else if g.clockHist.length < 60 then none
  else
    let pts := g.clockHist.map (fun e => ((((e.1 : Int) - (label : Int) : Int) : Rat), ((e.2 - rawEdge : Int) : Rat)))
    let (u, _) := fitUV pts
    some (decide (((b.predictNs : Nat) : Rat) * 65536 < |u|))

/-- Bits of the indicators (R171): set and clear conditions that are due now, as (hard, bit, set, clear). -/
def State.indicatorsDue (s : State) : List (Bool × Nat × Bool × Bool) :=
  let g := s.gnss
  let stood := fun (key secs : Nat) => (Tbl.get? g.condSince key).elim false (fun t => decide (t + secs * tickS ≤ s.time.tick))
  [(true, 0, decide (3 ≤ g.predFails) || decide (60 ≤ g.driftFails), decide (3 ≤ g.predPasses)),
   (true, 1, decide (5 ≤ g.moveFails), decide (5 ≤ g.movePasses)),
   (true, 2, decide (1 ≤ g.labelFails), decide (60 ≤ g.labelPasses)),
   (false, 0, stood 0 1, stood 1 10),
   (false, 1, stood 2 1, stood 3 10),
   (false, 2, g.sysDue, !g.sysDue && decide (60 ≤ g.sysPasses)),
   (false, 3, stood 6 30, stood 7 10),
   (false, 4, stood 8 1, stood 9 10)]

/-- One indicator sets or clears, with its event (R171, R183); hard indicators are numbered from 0, soft ones from 8. -/
def State.setIndicator (hard : Bool) (k : Nat) (v : Bool) (s : State) : State :=
  let flags := if hard then s.gnss.hard else s.gnss.soft
  if bit flags k = v then s
  else
    let f := setBits flags k 1 v.toNat
    let due := s.gnss.hardSet || (v && (s.gnss.rx == .survey || s.gnss.rx == .hold))
    ({ s with gnss := if hard then { s.gnss with hard := f, hardSet := due && f != 0 } else { s.gnss with soft := f } }).postAt s.epochTime 0x0802
      [(8, if hard then k else 8 + k), fb v, (8, s.gnss.jam1), (8, s.gnss.jam5)]

/-- Set bits of a byte. -/
def popCount8 (x : Nat) : Nat := (bitList x 8).length

/-- Indicators whose condition is met set or clear; then the timers of R172 follow: jamming alone never disqualifies (R171). -/
def State.applyIndicators (s : State) : State :=
  let s1 := s.indicatorsDue.foldl (fun t e =>
    if e.2.2.1 then t.setIndicator e.1 e.2.1 true else if e.2.2.2 then t.setIndicator e.1 e.2.1 false else t) s
  let g := s1.gnss
  let two := decide (2 ≤ popCount8 g.soft)
  let beyondJam := g.soft / 4 != 0
  let clear := g.hard == 0 && !two
  { s1 with gnss := { g with
    softSince := if two && beyondJam then some (g.softSince.getD s1.time.tick) else none
    clearSince := if clear then some (g.clearSince.getD s1.time.tick) else none } }

/-- The disqualification rule (R172): a hard indicator that has set, or two soft ones together for 10 s. -/
def State.gnssDisqualify (s : State) : State :=
  let g := s.gnss
  let soft10 := g.softSince.elim false (fun t => decide (t + 10 * tickS ≤ s.time.tick))
  if (g.rx = .survey ∨ g.rx = .hold) ∧ (g.hardSet ∨ soft10) then
    let n := inc48 g.disqs 1
    ({ s with gnss := { g with rx := .disqualified, before := g.rx, disqs := n, predPasses := 0, hardSet := false } }).counterHalf g.disqs n 0x0803 0 544
  else s

/-- Median C/N0 of signals, 0.5 dB-Hz. -/
def medianCn0 (l : List GnssSignal) : Int := ((medianRat (l.map (fun g => ((g.cn0 : Nat) : Rat)))).map ratNear).getD 0

/-- The receiver learns its quiet levels over the first 24 h of `HOLD` (R171). -/
def GnssQuiet.learn (e : GnssEpoch) (used : List GnssSignal) (q : GnssQuiet) : GnssQuiet :=
  if 86400 ≤ q.n then q
  else { n := q.n + 1, agc1 := q.agc1 + e.agc1, agc5 := q.agc5 + e.agc5, floor1 := q.floor1 + e.floor1, floor5 := q.floor5 + e.floor5
         power := q.power + e.power, cn0 := q.cn0 + medianCn0 used }

/-- Jamming levels of the bands against the quiet values learned (R171). -/
def GnssQuiet.levels (e : GnssEpoch) (q : GnssQuiet) : Nat × Nat :=
  ((Config.jamLevel e.agc1 e.floor1 (divNear q.agc1 q.n) (divNear q.floor1 q.n)).toNat,
   (Config.jamLevel e.agc5 e.floor5 (divNear q.agc5 q.n) (divNear q.floor5 q.n)).toNat)

/-- Conditions of the timed soft indicators as this epoch measures them: (key, stands). -/
def State.softConditions (s : State) (e : GnssEpoch) (used : List GnssSignal) : List (Nat × Bool) :=
  let thr : Int := s.gnssBank.jamThr
  let g := s.gnss
  let q := g.quiet
  let power := if q.n = 0 then 0 else (e.power : Rat) - mkRat q.power q.n
  let rise := if q.n = 0 then 0 else (medianCn0 used : Rat) - mkRat q.cn0 q.n
  let spread := fun (five : Bool) =>
    let c := (used.filter (fun g => g.l5 == five)).map (·.cn0)
    if c.length < 6 then none else some (c.foldl max 0 - c.foldl min 255)
  let uniform := (spread false).elim false (fun x => decide (x < 4)) || (spread true).elim false (fun x => decide (x < 4))
  let wide := ((spread false).isSome || (spread true).isSome)
    && (spread false).elim true (fun x => decide (8 ≤ x)) && (spread true).elim true (fun x => decide (8 ≤ x))
  [(0, decide (thr ≤ g.jam1)), (1, decide ((g.jam1 : Int) < thr - 16)), (2, decide (thr ≤ g.jam5)), (3, decide ((g.jam5 : Int) < thr - 16)),
   (6, uniform), (7, wide), (8, decide (100 ≤ power) && decide (6 ≤ rise)), (9, decide (|power| ≤ 50))]

/-! ### Antenna (R175) -/

def Bank.bias5v (b : Bank) : Bool := bit b.gnss 3

/-- The antenna state changes: posted, `t` the cause, and `GNSS_ANT` stands in `OPEN` or `SHORT`. -/
def State.setAntenna (t : Time96) (a : Antenna) (s : State) : State :=
  if s.gnss.antenna = a then s
  else
    let s1 := ({ s with gnss := { s.gnss with antenna := a } }).postAt t 0x0804
      [(8, antennaCode s.gnss.antenna), (8, antennaCode a), (16, s.gnss.antennaMa)]
    if a = .opened ∨ a = .short then s1.condition 0x25 12 6 0 else s1.conditionEnds 0x25

/-- Antenna bias as the receiver's item says it, once March step 23 has powered the receiver (R175); in `SHORT` it is removed.
Without bias no current flows (R179). -/
def State.driveBias (on : Bool) (s : State) : State :=
  { s with gnss := { s.gnss with
      biasMv := if !on then 0 else if s.gnssBank.bias5v then 5000 else 3300, antennaMa := if on then s.gnss.antennaMa else 0 } }

/-- The bias follows the item in force; `t` is the cause of a change of `antenna` (R183). -/
def State.applyBias (t : Time96) (s : State) : State :=
  if !s.gnssBank.biasEn ∨ s.plat.stepsDone < 23 then (s.driveBias false).setAntenna t .off
  else if s.gnss.antenna = .off then (s.setAntenna t .ok).driveBias true
  else s.driveBias (s.gnss.antenna != .short)

/-! ### The epoch (R159 to R174) -/

/-- The first solution out of `ACQUIRING` (R159). -/
def State.firstSolution (e : GnssEpoch) (s : State) : State :=
  let b := s.gnssBank
  let g := s.gnss
  if g.rx ≠ .acquiring ∨ g.satsUsed < 4 ∨ !g.timeKnown then s
  else if b.gnssFixed then { s with gnss := { g with rx := .hold, held := b.fixedPos, fixAt := none } }
  else
    match g.stored with
    | some p =>
      if dist2 p e.pos ≤ 100000 ^ 2 then { s with gnss := { g with rx := .hold, held := p, fixAt := none } }
      else { s with gnss := { g.restartSurvey with rx := .survey, held := e.pos } }
    | none => { s with gnss := { g.restartSurvey with rx := .survey, held := e.pos } }

/-- Standard deviation of the mean of `n` fixes, mm, from their sum and the sum of their squares (R163; log entry 168); none of
fewer than two. -/
def surveySigma (n : Nat) (sum : Int × Int × Int) (sq : Nat) : Option Nat :=
  if n < 2 then none
  else
    let m : Rat := ((sum.1 * sum.1 + sum.2.1 * sum.2.1 + sum.2.2 * sum.2.2 : Int) : Rat) / (n : Rat)
    some (sqrtNear (((sq : Rat) - m) / (((n - 1) * n : Nat) : Rat)))

/-- Survey-in averages a fix in mode 0; it pauses below 4 satellites (R163). -/
def GnssS.surveyFix (fixed : Bool) (e : GnssEpoch) (g : GnssS) : GnssS :=
  if g.rx = .survey ∧ !fixed ∧ 4 ≤ g.satsUsed then
    let n := g.fixes + 1
    let sum := (g.fixSum.1 + e.pos.1, g.fixSum.2.1 + e.pos.2.1, g.fixSum.2.2 + e.pos.2.2)
    let sq := g.fixSq + dist2 e.pos (0, 0, 0)
    { g with fixes := n, surveyS := g.surveyS + 1, sigma := (surveySigma n sum sq).getD 0, held := e.pos, fixSum := sum, fixSq := sq }
  else g

/-- Label of the second an edge marks: system time plus 19 s, or 33 s of BeiDou (R161). -/
def State.epochLabel (s : State) (e : GnssEpoch) : Nat := e.sysSec + (if s.gnssBank.gnssScale = 3 then 33 else 19)

/-- The broadcast UTC parameters against the leap table (R174). -/
def State.leapCompare (e : GnssEpoch) (s : State) : State :=
  match e.bc with
  | none => s
  | some (cur, next, tai) =>
    let bad := decide (cur ≠ s.utcOffset) || (tai != 0 && !s.leap.table.contains (tai, next))
    let s1 := { s with gnss := { s.gnss with bcUtc := cur, bcNext := next, bcLeap := tai, leapMismatch := bad } }
    if bad ∧ !s.gnss.leapMismatch then s1.postAt s.epochTime 0x0805 [fi 16 cur, fi 16 next, (48, tai)] else s1

/-- The item in force follows the bank, and what the almanac, ephemerides, time and system offsets decoded by now give the
receiver is kept (R161, R177, R182). An almanac only shortens acquisition. -/
def State.epochData (e : GnssEpoch) (s : State) : State :=
  let g := s.gnss
  { s with gnss := { g with
    cfg := s.banks.active.gnss, epochSec := some (({ s with gnss := { g with cfg := s.banks.active.gnss } }).epochLabel e)
    ephs := ((e.signals.filter (fun x => processed x && x.ephemeris)).map (fun x => (x.constellation, x.svid)) ++ g.ephs).dedup
    almanac := g.almanac || e.almanac, timeKnown := g.timeKnown || e.timeDecoded, ggto := e.ggto.getD g.ggto, bgto := e.bgto.getD g.bgto } }

/-- The PPS edge of an epoch's second (R160): by its solution, or from the last one carried on the OCXO; none in `ACQUIRING`. -/
def GnssS.placePps (label : Nat) (solved : Bool) (g : GnssS) : GnssS :=
  if g.rx = .acquiring ∨ g.rx = .off then { g with ppsAt := none }
  else { g with ppsAt := g.lastSol.map (fun l =>
    if solved then l.2 else tenPsGrid ((l.2 + ((label : Int) - (l.1 : Int)) * uS : Int) : Rat)) }

/-- A committed change of delay, mode or position takes effect (R166): the edge is marked, and a fixed position is held from now
on. DESIGN CHOICE (log entry 164): in `SURVEY` too, whose averaging then rests. The prediction check starts over with this epoch:
its line is of solutions under the old setting (DEDUCED, log entry 205). -/
def State.takeChange (s : State) : State :=
  if s.gnss.cfgChanged then
    { s with gnss := { s.gnss with
      cfgChanged := false, edgeMark := true
      held := if s.gnssBank.gnssFixed ∧ s.gnss.rx ≠ .acquiring then s.gnssBank.fixedPos else s.gnss.held } }
  else s

/-- One epoch: satellites used, clock solution, checks, indicators, state, and the PPS edge it places (R157 to R174). The edge
itself is stamped on TIC0, and hands on `pps_valid` then. -/
def State.gnssEpoch (e : GnssEpoch) (s00 : State) : State :=
  if s00.gnss.rx = .off then s00
  else
    let s := s00.epochData e
    let tracked := s.trackedSignals e.signals
    let sound := tracked.filter (fun g => g.healthy && s.gnss.ephs.contains (g.constellation, g.svid))
    let bothOf := fun (l : List GnssSignal) => satCount (l.filter (fun g => (partner l g).isSome))
    let times := s.systemTimes (decide (4 ≤ bothOf sound)) sound
    let only := s.onlyConst ((times.filter (fun e => !bit s.gnss.sysExcluded e.1)).length)
    let pool := tracked.filter (fun g => s.exclusion g == 0 && only.elim true (fun c => g.constellation == c))
    let used := pool.filter (fun g => !residualBad pool g)
    let entries := tracked.map (fun g =>
      let why := if s.exclusion g ≠ 0 then s.exclusion g else if pool.contains g && residualBad pool g then 1 else 0
      satEntry g (used.contains g) why)
    let dual := decide (4 ≤ bothOf used)
    let label := s.epochLabel e
    let now := s.time.tick
    let g := s.gnss
    let gapped := g.epochAt.elim false (fun t => decide (t + 60 * tickS < now))
    let hist := if gapped || g.cfgChanged then [] else g.clockHist
    let usable := tracked.filter (fun g => s.exclusion g == 0)
    let quiet := if g.rx = .hold then g.quiet.learn e used else g.quiet
    let (jam1, jam5) := quiet.levels e
    let g1 := { g with
      sats := entries, satsUsed := satCount used, dual := dual, jam1 := jam1, jam5 := jam5, tacc := e.tacc
      quiet := quiet, holdS := if g.rx = .hold then g.holdS + 1 else g.holdS
      lastTracked := if tracked.isEmpty then g.lastTracked else now, epochAt := some now, clockHist := hist }
    let s1 : State := State.sysCheck times { s with gnss := g1 }
    let labelBad := !e.secondsAgree || (e.trackedAll && s1.gnss.lastLabel.elim false (fun l => label != l + 1))
    let conds := s1.softConditions e used
    let since := conds.foldl (fun t c =>
      if c.2 then (if (Tbl.get? t c.1).isSome then t else Tbl.put t c.1 now) else Tbl.erase t c.1) s1.gnss.condSince
    let driftBad := s1.modelValid && decide (((s1.gnssBank.driftFs : Nat) : Rat) < |(e.drift : Rat) - s1.model s1.plat.tcase|)
    let active := s1.gnss.rx == .survey || s1.gnss.rx == .hold || s1.gnss.rx == .disqualified
    let holds := s1.gnss.rx == .hold || (s1.gnss.rx == .disqualified && s1.gnss.before == .hold)
    let enough := if holds then decide (s1.gnssBank.holdMinSats ≤ s1.gnss.satsUsed) else decide (4 ≤ s1.gnss.satsUsed)
    let solution := if enough then (s1.clockSolution dual used).map tenPsGrid else none
    let fails := if active then solution.bind (s1.predictFails label) else none
    let g2 := s1.gnss
    let s2 : State := State.solveGlonass dual (usable.filter (fun g => !residualBad usable g)) { s1 with gnss := { g2 with
      labelFails := if labelBad then 1 else 0, labelPasses := if labelBad then 0 else g2.labelPasses + 1
      lastLabel := some label
      condSince := since
      driftFails := if !active then 0 else if driftBad then g2.driftFails + 1 else 0
      predFails := match fails with
        | some true => g2.predFails + 1
        | some false => 0
        | none => g2.predFails
      predPasses := match fails with
        | some true => 0
        | some false => if driftBad then 0 else g2.predPasses + 1
        | none => g2.predPasses
      lastSol := (solution.map (fun t => (label, t))).orElse (fun _ => g2.lastSol)
      clockHist := match solution with
        | some t => ((label, t) :: g2.clockHist).takeWhile (fun h => decide (t < h.2 + 600 * uS))
        | none => g2.clockHist } }
    let s3 := (s2.leapCompare e).firstSolution e
    let s4 := ({ s3 with gnss := s3.gnss.surveyFix s3.gnssBank.gnssFixed e }).takeChange
    let s6 := (s4.applyIndicators).gnssDisqualify
    let s7 := State.settleGnss s.epochTime s00 { s6 with gnss := s6.gnss.placePps label solution.isSome }
    State.settleTiming s00 ((if s7.gnss.rx = .acquiring then s7 else s7.updRef 0 (fun x => { x with label := some label })).applyBias s.epochTime)

def execGnssEpoch (dt : Nat) (e : GnssEpoch) (s : State) : Host.Outcome State Fault Refusal :=
  .next ((s.advance dt).gnssEpoch e)

/-- Ref 0's indication fails with the receiver outside an epoch; `t` is the cause. -/
def State.gnssIndication (t : Time96) (old s : State) : State :=
  let s1 := State.settleGnss t old s
  State.settleTiming old (if s1.gnss.solution then s1 else s1.indication 0 false)

/-- An indicator's set or clear condition is met (R171). -/
def execGnssIndicator (dt : Nat) (s : State) : Host.Outcome State Fault Refusal :=
  let s1 := s.advance dt
  .next (if s1.gnss.rx = .off then s1 else s1.applyIndicators)

/-- A hard indicator that has set, or two soft indicators for 10 s, put the receiver in `DISQUALIFIED` (R172). -/
def execGnssDisqualify (dt : Nat) (s : State) : Host.Outcome State Fault Refusal :=
  let s1 := s.advance dt
  let s2 := s1.gnssDisqualify
  .next (if s2.gnss.rx = s1.gnss.rx then s1 else State.gnssIndication s1.epochTime s1 s2)

/-- The clear condition has held for `recover_s`: the receiver returns from `DISQUALIFIED`, and its next edge is valid again
(R160, R172). -/
def execGnssRecover (dt : Nat) (s : State) : Host.Outcome State Fault Refusal :=
  let s1 := s.advance dt
  let g := s1.gnss
  let held := g.clearSince.elim false (fun t => decide (t + s1.gnssBank.recoverS * tickS ≤ s1.time.tick))
  .next (if g.rx = .disqualified ∧ held then
    State.settleTiming s1 (State.settleGnss s1.epochTime s1 { s1 with gnss := { g with rx := g.before, softSince := none } })
  else s1)

/-- No signal tracked for 60 s returns the receiver to `ACQUIRING` (R159). -/
def execGnssSignalLoss (dt : Nat) (s : State) : Host.Outcome State Fault Refusal :=
  let s1 := s.advance dt
  let g := s1.gnss
  let active := g.rx == .survey || g.rx == .hold || g.rx == .disqualified
  .next (if active ∧ g.lastTracked + 60 * tickS ≤ s1.time.tick then
    State.gnssIndication s1.epochTime s1 { s1 with gnss := g.acquire } else s1)

/-- Survey-in completes and the position is stored (R163). -/
def execGnssSurveyDone (dt : Nat) (s : State) : Host.Outcome State Fault Refusal :=
  let s1 := s.advance dt
  let g := s1.gnss
  let b := s1.gnssBank
  let sigma := surveySigma g.fixes g.fixSum g.fixSq
  .next (if g.rx = .survey ∧ !b.gnssFixed ∧ b.surveyS ≤ g.surveyS ∧ sigma.elim false (fun x => decide (x ≤ b.surveyAccMm)) then
    let p := (divNear g.fixSum.1 g.fixes, divNear g.fixSum.2.1 g.fixes, divNear g.fixSum.2.2 g.fixes)
    let s2 := ({ s1 with gnss := { g with rx := .hold, held := p, holdS := 0, fixAt := none } }).storePosition (some p)
    State.settleGnss s1.epochTime s1 (s2.postAt s1.epochTime 0x0803 [fi 64 p.1, fi 64 p.2.1, fi 64 p.2.2, (32, g.sigma)])
  else s1)

/-- A background 3D fix checks the held position, every 60 s (R164). -/
def execGnssBackgroundFix (dt : Nat) (x y z : Int) (s : State) : Host.Outcome State Fault Refusal :=
  let s1 := s.advance dt
  let g := s1.gnss
  .next (if (g.rx = .hold ∨ (g.rx = .disqualified ∧ g.before = .hold)) ∧ 4 ≤ g.satsUsed
      ∧ g.fixAt.elim true (fun t => decide (t + 60 * tickS ≤ s1.time.tick)) then
    let far := decide ((s1.gnssBank.moveLimitM * 1000) ^ 2 < dist2 g.held (x, y, z))
    let s2 := ({ s1 with gnss := { g with
      fixAt := some s1.time.tick, moveFails := if far then g.moveFails + 1 else 0, movePasses := if far then 0 else g.movePasses + 1 } }).applyIndicators
    let s3 := s2.gnssDisqualify
    if s3.gnss.rx = s1.gnss.rx then s3 else State.gnssIndication s1.epochTime s1 s3
  else s1)

/-! ### Antenna rows (R175) -/

/-- The bias current is `ma` mA and has been held for `held` ticks (R175). In `SHORT` bias is removed, and no current is judged. -/
def execGnssAntenna (dt ma held : Nat) (s : State) : Host.Outcome State Fault Refusal :=
  let s1 := s.advance dt
  let s2 := { s1 with gnss := { s1.gnss with antennaMa := ma } }
  .next (
    if s1.gnss.biasMv = 0 then s1
    else if ma < 4 ∧ tickS ≤ held then s2.setAntenna s1.now .opened
    else if 150 ≤ ma ∧ 10 * tickMs ≤ held then
      (({ s2 with gnss := { s2.gnss with reapplyAt := s1.time.tick + 10 * tickS } }).setAntenna s1.now .short).driveBias false
    else if within 4 120 ma then s2.setAntenna s1.now .ok
    else s2)

/-- In `SHORT` bias is reapplied for 100 ms every 10 s, and the current is `ma` mA at the end of them (R175): within the 150 mA
limit the bias stays and supervision goes on from `OK` (log entry 42), else it is removed again. -/
def execAntennaBiasReapply (dt ma : Nat) (s : State) : Host.Outcome State Fault Refusal :=
  let s1 := s.advance dt
  .next (if s1.gnss.antenna = .short ∧ s1.gnss.reapplyAt + 100 * tickMs ≤ s1.time.tick then
    let s2 := { s1 with gnss := { s1.gnss with antennaMa := ma, reapplyAt := s1.gnss.reapplyAt + 10 * tickS } }
    if ma < 150 then (s2.setAntenna s1.now .ok).driveBias true else s2.driveBias false
  else s1)

/-! ### The bank and the commands -/

/-- The receiver follows the active bank once March step 23 has powered it (R159, R166, R177): `old` is the bank before. It is
enabled and disabled at once; other changes wait for its next epoch, and while it is off apply at once (DESIGN CHOICE, log entry
165). -/
def State.syncGnss (old : Bank) (s : State) : State :=
  let b := s.banks.active
  let g := s.gnss
  let marked := old.cableDelayPs != b.cableDelayPs || old.bandBiasPs != b.bandBiasPs || old.gnssFixed != b.gnssFixed
    || old.fixedPos != b.fixedPos
  let s1 :=
    if s.plat.stepsDone < 23 then s
    else if b.gnssEnable ∧ g.rx = .off then
      State.settleGnss s.now s { s with gnss := { g.acquire with cfg := b.gnss, lastTracked := s.time.tick, draining := false } }
    else if !b.gnssEnable ∧ g.rx ≠ .off then
      State.gnssIndication s.now s { s with gnss := { g.acquire with rx := .off, draining := true, edgeMark := false, cfgChanged := false } }
    else { s with gnss := { g with cfgChanged := g.cfgChanged || marked } }
  (if s1.gnss.rx = .off then { s1 with gnss := { s1.gnss with cfg := b.gnss } } else s1).applyBias s.now

/-- A disabled receiver reports quiescent (R177). -/
def execGnssQuiescent (dt : Nat) (s : State) : Host.Outcome State Fault Refusal :=
  let s1 := s.advance dt
  .next { s1 with gnss := { s1.gnss with draining := false } }

/-- Is a `GNSS_CONFIG_SET` request in range (R177). -/
def gnssItemOk (q : Req) : Bool :=
  let cm := q.f 4 4
  let ts := q.f 10 2
  let (x, y, z) := (q.i 160 64, q.i 224 64, q.i 288 64)
  let r2 := x.natAbs ^ 2 + y.natAbs ^ 2 + z.natAbs ^ 2
  cm != 0 && (q.f 8 2 == 1 || q.f 8 2 == 3)
    && (if ts = 0 then cm != 4 else if ts = 1 then bit cm 0 else if ts = 2 then bit cm 1 else bit cm 3)
    && within 1 12 (q.f 12 4) && decide (q.f 16 8 ≤ 60) && withinI (-10000000) 10000000 (q.i 32 32) && withinI (-50000) 50000 (q.i 64 32)
    && within 60 86400 (q.f 96 32) && within 100 100000 (q.f 128 32)
    && (if q.b 1 then decide (6340000000 ^ 2 ≤ r2) && decide (r2 ≤ 6400000000 ^ 2) else r2 == 0)
    && within 5 1000 (q.f 352 16) && within 5 1000 (q.f 368 16) && within 1000 1000000 (q.f 384 32) && within 1 255 (q.f 416 8)
    && within 5 255 (q.f 424 8) && within 60 86400 (q.f 448 32)

/-- `GNSS_CONFIG_SET` (R177), staged. -/
def cmdGnssConfigSet : Command where
  opcode := 0x0801
  layout _ := { size := 480, fields := [(0, 24), (32, 32), (64, 32), (96, 32), (128, 32), (160, 64), (224, 64), (288, 64), (352, 16),
    (368, 16), (384, 32), (416, 8), (424, 8), (448, 32)] }
  range q _ := gnssItemOk q
  objs _ := stageObjs 0x0801 0
  run q s := stage (fun b => { b with gnss := q.body }) s

def execGnssConfigSet (q : Req) (s : State) : Host.Outcome State Fault Refusal := runCommand cmdGnssConfigSet q s

/-- `GNSS_CONFIG_GET` (R178). -/
def cmdGnssConfigGet : Command where
  opcode := 0x0802
  run _ s := .done stOk [(480, s.banks.active.gnss)] s

def execGnssConfigGet (q : Req) (s : State) : Host.Outcome State Fault Refusal := runCommand cmdGnssConfigGet q s

/-- `GNSS_STATUS` (R179). -/
def cmdGnssStatus : Command where
  opcode := 0x0803
  run _ s :=
    let g := s.gnss
    .done stOk [(3, rxCode g.rx), fb g.solution, fb g.dual, fb g.stored.isSome, (2, antennaCode g.antenna), fb g.leapMismatch, rz 7,
      (8, g.hard), (8, g.soft), (8, g.satsUsed), (8, g.sats.length), (8, g.jam1), (8, g.jam5), (32, (s.time.tick - g.since) / tickS),
      (32, if g.rx = .survey then g.surveyS else 0), (32, g.sigma), (16, g.antennaMa), rz 16, (32, g.tacc), rz 32,
      fi 64 g.held.1, fi 64 g.held.2.1, fi 64 g.held.2.2, fi 16 g.bcUtc, fi 16 g.bcNext, (48, g.bcLeap), rz 16, (48, g.disqs)] s

def execGnssStatus (q : Req) (s : State) : Host.Outcome State Fault Refusal := runCommand cmdGnssStatus q s

/-- `GNSS_SAT_LIST` (R180). -/
def cmdGnssSatList : Command where
  opcode := 0x0804
  run _ s := .done stOk ([(8, s.gnss.sats.length), rz 56] ++ s.gnss.sats.map (fun e => (64, e))) s

def execGnssSatList (q : Req) (s : State) : Host.Outcome State Fault Refusal := runCommand cmdGnssSatList q s

/-- `GNSS_SURVEY_RESTART` (R181, R159). -/
def cmdGnssSurveyRestart : Command where
  opcode := 0x0805
  run _ s :=
    let g := s.gnss
    if s.gnssBank.gnssFixed ∨ g.rx = .off ∨ g.rx = .acquiring then .done stNotPermitted [] s
    else
      let s1 := ({ s with gnss := { g.restartSurvey with rx := .survey, hardSet := false } }).storePosition none
      .done stOk [] (State.gnssIndication s.now s s1)

def execGnssSurveyRestart (q : Req) (s : State) : Host.Outcome State Fault Refusal := runCommand cmdGnssSurveyRestart q s

/-- `GNSS_RESET` (R182): the receiver enters `ACQUIRING` without the data the kind names; satellites whose ephemeris is gone are
used again once it is decoded, and a solution needs the time. -/
def cmdGnssReset : Command where
  opcode := 0x0806
  layout _ := { size := 32, fields := [(0, 2), (2, 1)] }
  range q _ := q.f 0 2 != 3 && (!q.b 2 || q.f 0 2 == 2)
  run q s :=
    let g := s.gnss
    if g.rx = .off then .done stNotPermitted [] s
    else
      let k := q.f 0 2
      let g1 := { g.acquire with
        ephs := if k = 0 then g.ephs else [], almanac := g.almanac && k != 2, timeKnown := g.timeKnown && k != 2, lastTracked := s.time.tick }
      let s1 := { s with gnss := g1 }
      let s2 := if q.b 2 then s1.storePosition none else s1
      .done stOk [] (State.gnssIndication s.now s s2)

def execGnssReset (q : Req) (s : State) : Host.Outcome State Fault Refusal := runCommand cmdGnssReset q s

end Machine
end Sys2Proof
end

