-- ==== Sys2Proof/Machine/Outputs.lean ====
section
/-!
DEFINITION. The output synthesizers, their monitor, and the time-of-day messages (05_references_and_holdover.md R137 to
R144, R153, R154).
-/
namespace Sys2Proof.Machine

/-! ### An output's settings -/

def OutS.mode (o : OutS) : Nat := bits o.cfg 8 3
def OutS.value (o : OutS) : Nat := bits o.cfg 32 64
def OutS.widthNs (o : OutS) : Nat := bits o.cfg 96 32
def OutS.offsetPs (o : OutS) : Int := toSigned 64 (bits o.cfg 128 64)
def OutS.polarity (o : OutS) : Bool := bit o.cfg 11

/-- An output shows an edge to its active or inactive level; with `polarity` 1 the active edge falls (R153). -/
def State.showEdge (output : Nat) (active : Bool) (inst : Int) (s : State) : State :=
  s.emit (.edge output (active != (s.output output).polarity) inst)

/-- Offsets are rounded to 10 ps, a half away from zero (R153). -/
def roundOffset (ps : Int) : Int := divNear ps 10 * 10

/-- Is an `OUTPUT_SET` request in range (R137, R153). -/
def outputItemOk (q : Req) : Bool :=
  let o := q.f 0 4
  let m := q.f 8 3
  let v := q.f 32 64
  let w := q.f 96 32
  let off := q.i 128 64
  let bare := v == 0 && w == 0 && off == 0
  decide (o ≤ 8)
    && (if o = 8 then decide (m ≤ 1) && bare && !q.b 11
      else if m = 1 then
        ((within 1000 1000000000 v && 1000000000 % v == 0) || (v % 1000000000 == 0 && within 1000000000 1000000000000 v))
          && decide (10 ≤ w) && decide (w + 10 ≤ v) && decide ((roundOffset off).natAbs < v * 1000)
      else if m = 2 then within 1000000000 250000000000000 v && w == 0 && off == 0
      else decide (m ≤ 3) && bare)

/-- `OUTPUT_SET` (R153), staged with its offset rounded. -/
def cmdOutputSet : Command where
  opcode := 0x0709
  layout _ := { size := 192, fields := [(0, 4), (8, 3), (11, 1), (32, 64), (96, 32), (128, 64)] }
  range q _ := outputItemOk q
  objs q := stageObjs 0x0709 (q.f 0 4)
  run q s :=
    let w := setBits q.body 128 64 (ofSigned 64 (roundOffset (q.i 128 64)))
    stage (fun b => { b with out := Tbl.put b.out (q.f 0 4) w }) s

def execOutputSet (q : Req) (s : State) : Host.Outcome State Fault Refusal := runCommand cmdOutputSet q s

/-- `OUTPUT_GET` (R154). -/
def cmdOutputGet : Command where
  opcode := 0x070A
  layout _ := { size := 4, fields := [(0, 4)] }
  range q _ := decide (q.f 0 4 ≤ 8)
  run q s :=
    let o := s.output (q.f 0 4)
    .done stOk [(192, s.banks.active.outWord (q.f 0 4)), fb o.running, fb o.monFault, rz 62, fi 64 o.monError, (48, o.suppressed),
      rz 16] s

def execOutputGet (q : Req) (s : State) : Host.Outcome State Fault Refusal := runCommand cmdOutputGet q s

/-! ### Edges (R137 to R140) -/

/-- The first whole second of the time base at or after now, on the step-free copy (R138). -/
def State.nextSecondSf (s : State) : Int := (s.nowU + uS - 1) / uS * uS - s.time.stepSum

/-- Period of a frequency output, 2^-16 ns. -/
def freqPeriod (uhz : Nat) : Rat := mkRat (1000000000000000 * 65536) uhz

/-- First active edge of a frequency output at or after a step-free instant. -/
def OutS.freqEdgeFrom (o : OutS) (sf : Int) : Int :=
  if sf ≤ o.startSf then o.startSf
  else
    let t := freqPeriod o.value
    let k := (((sf - o.startSf : Int) : Rat) / t).ceil
    o.startSf + ratNear ((k : Rat) * t)

/-- End of the half-cycle of a frequency output in progress at a step-free instant. -/
def OutS.halfEnd (o : OutS) (sf : Int) : Int :=
  if sf ≤ o.startSf then sf
  else
    let h := freqPeriod (2 * o.value)
    let k := (((sf - o.startSf : Int) : Rat) / h).ceil
    o.startSf + ratNear ((k : Rat) * h)

/-- First instant of a pulse output at or after a step-free instant: t on the time base where (t − offset) is a whole multiple of
the period (R137), step-free. -/
def State.pulseFrom (s : State) (o : OutS) (sf : Int) : Int :=
  let off := psUnits o.offsetPs
  let per : Int := (o.value : Int) * uNs
  let t := sf + s.time.stepSum
  (if per = 0 then t else -((off - t) / per) * per + off) - s.time.stepSum

/-- Is TIC8 on an output (R78, R141). -/
def State.watched (s : State) (o : Nat) : Bool := (s.chan 8).source == 8 + o

/-- End of the pulse in progress, whatever its setting has become since, or now. -/
def State.pulseEnd (s : State) (o : OutS) : Int := o.stayEnd.elim s.stepFree (max s.stepFree)

/-- An output starts under a bank item: a frequency output at the next whole second, an output in cue mode at its
inactive level (R138; 08_cues.md R233). -/
def State.startOutput (w : Nat) (o : OutS) (s : State) : OutS :=
  { o with
    cfg := w, running := bits w 8 3 != 0, draining := false, level := false, pulseEnds := [], realign := false
    startSf := if bits w 8 3 = 2 then s.nextSecondSf else s.stepFree, lastEdge := none, lastTry := none, stayEnd := none }

/-- Outputs follow the active bank (R138, R140; 01_architecture.md R24): a change within a mode takes effect at the first edge
from now on, any other at the end of the pulse or half-cycle in progress. DESIGN CHOICE (log entry 163): after a change the
first pulse comes 10 ns or more after the pulse in progress ends. -/
def State.syncOutputs (s : State) : State :=
  (List.range 9).foldl (fun t i =>
    let w := t.banks.active.outWord i
    let o := t.output i
    if w = o.cfg ∨ (o.cfg = 0 ∧ bits w 8 3 = 0) then t
    else if !o.running then t.updOut i (fun o => t.startOutput w o)
    else if bits w 8 3 = o.mode ∧ o.mode = 2 then
      t.updOut i (fun o => { o with cfg := w, startSf := o.freqEdgeFrom t.stepFree })
    else if bits w 8 3 = o.mode ∧ o.mode = 1 then
      t.updOut i (fun o => { o with
        cfg := w, startSf := o.stayEnd.elim t.stepFree (fun e => max t.stepFree (e + 10 * uNs)) })
    else if bits w 8 3 = o.mode then t.updOut i (fun o => { o with cfg := w })
    else t.updOut i (fun o => { o with
      draining := true, endSf := if o.mode = 2 then o.halfEnd t.stepFree else if o.mode = 1 then t.pulseEnd o else t.stepFree })) s

/-- A disabled or changed output reports quiescent at the end of its pulse or half-cycle, and takes its new setting
(R140). -/
def execOutputQuiescent (dt output : Nat) (s : State) : Host.Outcome State Fault Refusal :=
  let s1 := s.advance dt
  let o := s1.output output
  if 9 ≤ output then .fault .noSuchUnit
  else .next (if o.draining ∧ o.endSf ≤ s1.stepFree ∧ o.pulseEnds.isEmpty then
    let s2 := if s1.watched output then { s1 with meas := { s1.meas with turnEvs := [] } } else s1
    s2.updOut output (fun o => s1.startOutput (s1.banks.active.outWord output) o)
  else s1)

/-- The next active edge of an output not yet placed, step-free (R137, R138). -/
def State.nextEdge (s : State) (o : OutS) : Int :=
  let sf := o.lastTry.elim o.startSf (fun l => max o.startSf (l + 1))
  if o.mode = 2 then o.freqEdgeFrom sf else s.pulseFrom o sf

/-- A synthesizer places its next active edge once its instant has come, and the inactive edge that closes the pulse or the
half-cycle (R137, R138): the first pulse after a step that would follow the one before by less than its width plus 100 ns is
suppressed (R139). -/
def execOutputEdge (dt output : Nat) (s : State) : Host.Outcome State Fault Refusal :=
  let s1 := s.advance dt
  let o := s1.output output
  if 8 ≤ output then .fault .noSuchUnit
  else .next (
    let sf := s1.nextEdge o
    if !o.running ∨ o.draining ∨ (o.mode ≠ 1 ∧ o.mode ≠ 2) ∨ s1.stepFree < sf then s1
    else if o.mode = 1 ∧ o.realign ∧ o.lastEdge.elim false (fun l => decide (sf - l < ((o.widthNs + 100 : Nat) : Int) * uNs)) then
      let n := inc48 o.suppressed 1
      (s1.updOut output (fun o => { o with suppressed := n, lastTry := some sf })).counterHalf o.suppressed n 0x070A output 320
    else
      let inst := sf + s1.time.stepSum
      let stays := if o.mode = 2 then ratNear (freqPeriod (2 * o.value)) else (o.widthNs : Int) * uNs
      ((s1.updOut output (fun o => { o with
        lastEdge := some sf, lastTry := some sf, stayEnd := some (sf + stays), realign := false
        placed := if o.mode = 1 ∧ s1.watched output then sf :: o.placed else o.placed })).showEdge output true inst).showEdge
        output false (inst + stays))

/-- Deviation of an edge stamped `t` from the nearest instant of a list. -/
def nearestDev (t : Int) (l : List Int) : Option Int :=
  l.foldl (fun a x => match a with
    | none => some (t - x)
    | some d => if (t - x).natAbs < d.natAbs then some (t - x) else some d) none

/-- What TIC8 found of the output it watches (R141; 08_cues.md R233): of pulse and cue edges the deviation from the instants
placed in its turn, of one beyond 1 ns, else of the last, 2^-16 ns; of a frequency output the regression of its present waveform
against the time base, fs/s; none with too few edges to tell. -/
def State.turnError (s : State) (o : OutS) : Option Int :=
  if o.mode = 2 then
    let c := s.chan 8
    let evs := s.meas.turnEvs.filter (fun e => decide (o.startSf - uNs ≤ e.sf))
    if evs.length < 3 then none else some (fitFreq (fitLine (evs.map (fun e => (e.n, e.sf)))).b (s.channelUhz c))
  else
    let devs := s.meas.turnEvs.filterMap (fun e => nearestDev e.sf o.placed)
    (devs.find? (fun d => decide (65536 < d.natAbs))).orElse (fun _ => devs.getLast?)

/-- TIC8 has watched its output for 1 s (R78, R141): its check, and on to the next output in turn, of which
its dividers have `counted` some edges by then (DESIGN CHOICE, log entry 155). -/
def execToutMonitorCheck (dt output counted : Nat) (s : State) : Host.Outcome State Fault Refusal :=
  let s1 := s.advance dt
  let o := s1.output output
  if 8 ≤ output then .fault .noSuchUnit
  else .next (
    if (s1.chan 8).state ≠ 2 ∨ (s1.chan 8).source ≠ 8 + output ∨ s1.time.tick < s1.meas.turnAt + tickS then s1
    else
      let b := s1.banks.active
      let after := (b.enabledOutputs.find? (fun i => decide (output < i))).orElse (fun _ => b.enabledOutputs.head?)
      let s2 := (s1.updChan 8 (fun c =>
        let c1 := { c with cfg := after.elim c.cfg b.monitorWord }
        { c1 with skip := counted % max 1 (c1.presc * c1.decim) })).startTurn
      match (if o.running then s1.turnError o else none) with
      | none => s2
      | some err =>
        let bad := if o.mode = 2 then decide (10000 < err.natAbs) else decide (65536 < err.natAbs)
        let s3 := s2.updOut output (fun o => { o with monError := err, monFault := bad })
        if bad then s3.condition 0x23 13 6 output
        else if (List.range 8).any (fun i => (s3.output i).monFault) then s3 else s3.conditionEnds 0x23)

/-! ### Time of day (R142 to R144) -/

/-- Decimal digits of a number below 10^20, as ASCII. -/
def decimal (n : Nat) : List Nat :=
  let rec go : Nat → Nat → List Nat
    | 0, _ => []
    | f + 1, x => if x < 10 then [48 + x] else go f (x / 10) ++ [48 + x % 10]
  go 20 n

/-- Decimal with `w` digits. -/
def padded : Nat → Nat → List Nat
  | 0, _ => []
  | w + 1, n => padded w (n / 10) ++ [48 + n % 10]

/-- Year, month and day of a day count from 1970-01-01. -/
def civil (days : Int) : Nat × Nat × Nat :=
  let z := (days + 719468).toNat
  let era := z / 146097
  let doe := z % 146097
  let yoe := (doe - doe / 1460 + doe / 36524 - doe / 146096) / 365
  let doy := doe - (365 * yoe + yoe / 4 - yoe / 100)
  let mp := (5 * doy + 2) / 153
  let d := doy - (153 * mp + 2) / 5 + 1
  let m := if mp < 10 then mp + 3 else mp - 9
  (yoe + era * 400 + (if m ≤ 2 then 1 else 0), m, d)

/-- UTC date and time of a TAI second as `YYYYMMDD` and `hhmmss`; an inserted second is `235960` (R143). -/
def utcText (table : List (Nat × Int)) (sec : Nat) : List Nat × List Nat :=
  let off := utcOffsetAt table sec
  let nextOff := utcOffsetAt table (sec + 1)
  let leap := decide (nextOff = off + 1) && table.any (fun e => e.1 == sec + 1)
  let u : Int := (sec : Int) - off - (if leap then 1 else 0)
  let (y, m, d) := civil (u / 86400)
  let t := (u % 86400).toNat
  (padded 4 y ++ padded 2 m ++ padded 2 d,
    if leap then padded 2 23 ++ padded 2 59 ++ padded 2 60 else padded 2 (t / 3600) ++ padded 2 (t / 60 % 60) ++ padded 2 (t % 60))

/-- The TOD state letter (R132, R143). -/
def State.todLetter (s : State) : Nat :=
  if !s.time.valid ∨ !s.sel.everLocked then 70
  else ([70, 65, 76, 81, 72, 87, 79].drop (selCode s.sel.state)).headD 70

/-- Signed decimal with its sign. -/
def signedText (x : Int) : List Nat := (if x < 0 then 45 else 43) :: decimal x.natAbs

/-- Two upper-case hex digits. -/
def hexByte (b : Nat) : List Nat :=
  let digit := fun x => if x < 10 then 48 + x else 55 + x
  [digit (b / 16), digit (b % 16)]

/-- The sentence that describes whole second `sec` (R143). DESIGN CHOICE (log entry 198): field 6 says whether a leap is pending
at that second. -/
def State.sentence (s : State) (sec : Nat) : List Nat :=
  let (date, time) := utcText s.leap.table sec
  let leap := match leapPendingAt sec s.leap.table with
    | none => 48
    | some (_, o, before) => if o < before then 45 else 43
  let step := s.time.valid && s.time.scheds.any (fun c => c.atSec == sec && c.asStep)
  let epoch := if step then (s.time.stepEpoch + 1) % 256 else s.time.stepEpoch
  let body := [77, 87, 84, 79, 68, 44] ++ decimal sec ++ [44] ++ date ++ [44] ++ time ++ [44]
    ++ signedText (utcOffsetAt s.leap.table sec) ++ [44, leap, 44, s.todLetter, 44] ++ decimal s.announced.1 ++ [44]
    ++ decimal s.estError ++ [44] ++ decimal epoch
  36 :: body ++ [42] ++ hexByte (body.foldl (· ^^^ ·) 0) ++ [13, 10]

/-- `TOD_TX` starts its one sentence for a second 500 ms before it, within 1 ms (R142). -/
def execTodSentenceSend (dt : Nat) (s : State) : Host.Outcome State Fault Refusal :=
  let s1 := s.advance dt
  let sec := (s1.nowU + uS) / uS
  let lead := sec * uS - s1.nowU
  let o := s1.output 8
  .next (if o.running ∧ 499 * uMs ≤ lead ∧ lead ≤ 501 * uMs ∧ o.sentSec ≠ some sec.toNat then
    (s1.updOut 8 (fun o => { o with sentSec := some sec.toNat })).emit (.serial (s1.sentence sec.toNat))
  else s1)

/-- A sentence's fields, split at commas. -/
def splitCommas : List Nat → List (List Nat)
  | [] => [[]]
  | c :: rest =>
    match splitCommas rest with
    | [] => [[c]]
    | f :: fs => if c = 44 then [] :: f :: fs else (c :: f) :: fs

/-- A decimal number from ASCII digits. -/
def readDecimal (l : List Nat) : Option Nat :=
  if l.isEmpty || !l.all (fun c => within 48 57 c) then none else some (l.foldl (fun a c => 10 * a + (c - 48)) 0)

/-- The second a valid sentence names (R143, R144): checksum good, ten fields, the first `$MWTOD`. -/
def readSentence (chars : List Nat) : Option Nat :=
  match chars with
  | 36 :: rest =>
    let body := rest.takeWhile (· ≠ 42)
    let sum := hexByte (body.foldl (· ^^^ ·) 0)
    let fields := splitCommas body
    if chars.length ≤ 96 ∧ rest.drop body.length = 42 :: sum ++ [13, 10] ∧ fields.length = 10 ∧ fields.headD [] = [77, 87, 84, 79, 68] then
      (nth fields 1).bind readDecimal
    else none
  | _ => none

/-- A `TOD_RX` sentence is received whole and labels the next PPS edge of the reference that has `tod_rx` set (R144). -/
def execTodSentenceReceive (dt : Nat) (chars : List Nat) (s : State) : Host.Outcome State Fault Refusal :=
  let s1 := s.advance dt
  .next (match readSentence chars, refList.find? s1.banks.active.todRx with
    | some sec, some r => s1.updRef r (fun x => { x with label := some sec, todAt := some s1.time.tick })
    | _, _ => s1)

end Sys2Proof.Machine
end

