-- ==== Sys2Proof/Machine/Domain.lean ====
section
/-!
DEFINITION. Timing domains over fibre: domain frames, the tree of parents, the trunk exchange and its phase series,
membership, ESMC and link calibration, with the commands of group 0x09 (07_timing_domain.md R184 to R221).
-/
namespace Sys2Proof.Machine

/-! ### Domain frames received (R185, R186) -/

/-- Is a kind byte one of R186. -/
def kindKnown (k : Nat) : Bool := k == 1 || k == 2 || within 0x10 0x12 k || within 0x20 0x25 k || k == 0x30

/-- The state with a port's trunk record changed. -/
def State.updTrunk (p : Nat) (f : Trunk → Trunk) (s : State) : State := s.updPort p (fun x => { x with trunk := f x.trunk })

/-- Advance one of a trunk port's five counters: 0 AUTH_FAIL, 1 REPLAY, 2 BAD_FRAME, 3 DOMAIN_ON_EDGE, 4 TAG_MISMATCH (R217). -/
def State.trunkCount (p k : Nat) (s : State) : State :=
  let t := (s.port p).trunk
  let old := if k = 0 then t.authFail else if k = 1 then t.replay else if k = 2 then t.badFrame else if k = 3 then t.onEdge else t.tagMismatch
  let n := inc48 old 1
  (s.updTrunk p (fun t => if k = 0 then { t with authFail := n } else if k = 1 then { t with replay := n }
    else if k = 2 then { t with badFrame := n } else if k = 3 then { t with onEdge := n } else { t with tagMismatch := n })).counterHalf
      old n 0x0904 p (256 + 48 * k)

/-- The header bits of a received domain frame (R185). -/
def frameHeader (f : DomFrame) : Nat := Fields.wire (domainHeader f.version f.kind f.bytes f.sender f.tag f.seq)

/-- The tag a frame must carry under a key. -/
def frameExpected (f : DomFrame) (key : Nat) : Nat := domainMac key (frameHeader f) f.bytes f.payload

/-- Does a frame's tag verify under the domain key in the cache. -/
def State.macOk (s : State) (f : DomFrame) : Bool := s.domainKey.elim false (fun k => f.mac == frameExpected f k)

/-- Does a frame's sequence exceed the last one accepted on its port from its sender. -/
def State.seqFresh (s : State) (f : DomFrame) : Bool :=
  (Tbl.get? (s.port f.port).trunk.seqs f.sender).elim true (fun l => decide (l < f.seq))

/-- Can domain frames arrive on a port: the domain is joined, the link is up (R184, R214). -/
def State.domainRx (s : State) (p : Nat) : Bool := s.banks.active.domEnable && (s.port p).link == .up

/-- A frame fails a test of R186 on a port: counted under it, and the port's frames fail from the first of them on (R203). -/
def State.failFrame (p k : Nat) (s : State) : State :=
  (s.trunkCount p k).updTrunk p (fun t => { t with badSince := some (t.badSince.getD s.time.tick) })

/-- The tests of R186 in their order, and the edge-port rule of R185: is the frame accepted, and what its port records. -/
def State.acceptDomain (f : DomFrame) (s : State) : Bool × State :=
  if (s.port f.port).link ≠ .up then (false, s)
  else if !s.isTrunk f.port then (false, s.trunkCount f.port 3)
  else if !s.domainRx f.port then (false, s)
  else if f.version ≠ 1 then (false, s.failFrame f.port 2)
  else if f.tag ≠ s.banks.active.domTag then (false, s.failFrame f.port 4)
  else if !s.macOk f then (false, s.failFrame f.port 0)
  else if !s.seqFresh f then (false, s.failFrame f.port 1)
  else
    let s1 := s.updTrunk f.port (fun t => { t with seqs := Tbl.put t.seqs f.sender f.seq, badSince := none })
    if kindKnown f.kind then (true, s1) else (false, s1.trunkCount f.port 2)

/-! ### Datasets (R199, R200) -/

/-- This device's clockIdentity. -/
def ownIdentity : Nat := Config.eui64.toNat

/-- Bounds of the clockAccuracy enumeration of IEEE 1588-2019 that are at least 1 ns, with their codes (log entry 27). -/
def accuracyBounds : List (Nat × Nat) :=
  [(0, 0x17), (1, 0x1D), (2, 0x1E), (10, 0x1F), (25, 0x20), (100, 0x21), (250, 0x22), (1000, 0x23), (2500, 0x24), (10000, 0x25),
   (25000, 0x26), (100000, 0x27), (250000, 0x28), (1000000, 0x29), (2500000, 0x2A), (10000000, 0x2B), (25000000, 0x2C),
   (100000000, 0x2D), (250000000, 0x2E), (1000000000, 0x2F), (10000000000, 0x30)]

/-- clockAccuracy from E in ns: the smallest value whose bound is at least E, `0xFE` while E is 2^32 − 1
(09_time_service.md R282). -/
def accuracyOf (e : Nat) : Nat :=
  if 4294967295 ≤ e then 0xFE else ((accuracyBounds.find? (fun b => decide (e ≤ b.1))).map (·.2)).getD 0x31

/-- offsetScaledLogVariance: `0xFFFF` in `FREERUN`, else from the rms of e. -/
def State.variance (s : State) : Nat :=
  if s.sel.state = .freerun then 0xFFFF
  else
    let n := s.sel.eHist.length
    (Config.logVariance (if n = 0 then 0 else ((s.sel.eHist.map (fun x => x.natAbs ^ 2)).sum / n))).toNat

/-- The neighbour of a trunk port is this device's child: it names this device as its parent (R200). -/
def State.isChild (s : State) (p : Nat) : Bool :=
  (s.port p).trunk.nbr.elim false (fun n => n.2.parentId == s.deviceId && n.2.hops != 255)

/-- The trunk ports: role trunk, domain joined (R184). -/
def State.trunkPorts (s : State) : List Nat :=
  if s.banks.active.domEnable then (List.range portCount).filter (fun p => s.isTrunk p) else []

/-- Ports to this device's children. -/
def State.childPorts (s : State) : List Nat := s.trunkPorts.filter s.isChild

/-- This device's lead depth (R209): hops plus L in units of 2 µs, rounded up. -/
def State.leadDepth (s : State) : Nat := if s.dom.hops = 255 then 0 else s.dom.hops + (s.dom.pathDelay + 1999) / 2000

/-- The largest lead depth in this device's subtree (R209). -/
def State.subtreeLead (s : State) : Nat :=
  (s.childPorts.map (fun p => (s.port p).trunk.members.elim 0 (fun m => m.2.1))).foldl max s.leadDepth

/-- The largest hops in the subtree. -/
def State.subtreeHops (s : State) : Nat :=
  (s.childPorts.map (fun p => (s.port p).trunk.members.elim 0 (fun m => m.2.2))).foldl max s.dom.hops

/-- The device IDs of the subtree, this device included (R208). -/
def State.subtreeMap (s : State) : Nat :=
  (s.childPorts.map (fun p => (s.port p).trunk.members.elim 0 (fun m => m.1))).foldl (· ||| ·) (2 ^ s.deviceId)

/-- Set bits of a 4,096-bit map. -/
def mapCount (m : Nat) : Nat := (bitList m 4096).length

/-- Domain lead depth: the root's own subtree value, elsewhere as relayed (R209). -/
def State.domainLead (s : State) : Nat := if s.dom.isRoot then s.subtreeLead else s.dom.domainLead

/-- This device's own clock dataset (R199). -/
def State.ownDataset (s : State) : Hello :=
  let b := s.banks.active
  let (c, t, f) := s.announced
  { rootIdentity := ownIdentity, rootId := s.deviceId, prio1 := b.prio1, cls := c, accuracy := accuracyOf s.estError, prio2 := b.prio2
    variance := s.variance, heartbeat := s.dom.heartbeat, hops := 0, timeTr := t, freqTr := f, parentId := 0xFFFF, pathCost := 0
    pathDelay := 0, leadDepth := s.subtreeLead }

/-- A dataset's place in the comparison order: priority1, clockClass, clockAccuracy, variance, priority2, clockIdentity. -/
def helloOrder (h : Hello) : Nat :=
  ((((h.prio1 * 256 + h.cls) * 256 + h.accuracy) * 65536 + h.variance) * 256 + h.prio2) * 2 ^ 64 + h.rootIdentity

/-- The `HELLO` interval in ticks (R200). -/
def State.helloTicks (s : State) : Nat := 7812500 * 2 ^ s.banks.active.helloCode

/-- Has the root's heartbeat advanced on a port within three `HELLO` intervals (R201). -/
def State.fresh (s : State) (p : Nat) : Bool := decide (s.time.tick < (s.port p).trunk.beatAt + 3 * s.helloTicks)

/-- Is this end of a link the PTP slave: the other end has lower `hops`, or equal `hops` and a lower device ID (R191). -/
def State.slaveEnd (s : State) (p : Nat) : Bool :=
  (s.port p).trunk.nbr.elim false (fun n => decide (n.2.hops < s.dom.hops) || (n.2.hops == s.dom.hops && decide (n.1 < s.deviceId)))

/-- What this device's `HELLO` says on a port (R200). -/
def State.helloOn (s : State) (p : Nat) : Hello :=
  let slave := s.slaveEnd p
  let base : Hello :=
    if s.dom.isRoot then s.ownDataset
    else match s.dom.parentPort with
      | some q => { s.dom.root with
          hops := s.dom.hops, parentId := (s.port q).trunk.nbr.elim 0xFFFF (·.1), pathCost := s.dom.pathCost, pathDelay := s.dom.pathDelay
          leadDepth := s.dom.domainLead }
      | none => { s.dom.root with hops := 255, parentId := 0xFFFF, pathCost := 0, pathDelay := 0, leadDepth := s.dom.domainLead }
  { base with nbrPhase := (s.port p).trunk.phase, nbrPhaseValid := slave }

/-- The payload of a `HELLO` (R200). -/
def helloFields (h : Hello) : Fields :=
  [(64, h.rootIdentity), (16, h.rootId), (8, h.prio1), (8, h.cls), (8, h.accuracy), (8, h.prio2), (16, h.variance), (32, h.heartbeat),
   (8, h.hops), fb h.timeTr, fb h.freqTr, rz 6, (16, h.parentId), (32, h.pathCost), (32, h.pathDelay), (16, h.leadDepth), rz 16,
   fi 64 h.nbrPhase, fb h.nbrPhaseValid, rz 31]

/-- A `HELLO` payload read (R200). -/
def helloOf (x : Nat) : Hello :=
  { rootIdentity := wireField x 0 64, rootId := wireField x 64 16, prio1 := bits x 80 8, cls := bits x 88 8, accuracy := bits x 96 8
    prio2 := bits x 104 8, variance := wireField x 112 16, heartbeat := wireField x 128 32, hops := bits x 160 8, timeTr := bit x 168
    freqTr := bit x 169, parentId := wireField x 176 16, pathCost := wireField x 192 32, pathDelay := wireField x 224 32
    leadDepth := wireField x 256 16, nbrPhase := toSigned 64 (wireField x 288 64), nbrPhaseValid := bit x 352 }

/-- `HELLO` on every trunk port (R200). -/
def State.sendHellos (s : State) : State := s.trunkPorts.foldl (fun t p => t.sendDomain p 0x01 (helloFields (t.helloOn p))) s

/-! ### Root and parent (R199 to R204) -/

/-- The datasets offered to this device: its own where it is eligible, and every fresh neighbour's. -/
def State.rootOffers (s : State) : List Hello :=
  (if s.banks.active.rootEligible ∧ s.banks.active.domEnable then [s.ownDataset] else [])
    ++ s.trunkPorts.filterMap (fun p =>
      let t := (s.port p).trunk
      match t.nbr with
      | some n => if t.state ≠ .down ∧ n.2.hops ≠ 255 ∧ n.2.rootIdentity ≠ ownIdentity ∧ s.fresh p then some n.2 else none
      | none => none)

/-- The best of a list of datasets. -/
def bestHello (l : List Hello) : Option Hello :=
  l.foldl (fun a h => match a with
    | some x => if helloOrder h < helloOrder x then some h else some x
    | none => some h) none

/-- The device takes a root: its dataset is relayed. -/
def State.takeRoot (h : Hello) (s : State) : State :=
  { s with dom := { s.dom with
      root := h, isRoot := h.rootIdentity == ownIdentity, better := none, betterRun := 0, beat := h.heartbeat, beatAt := s.time.tick } }

/-- Has the heartbeat of the current root, another device, advanced within three `HELLO` intervals (R199, R201). -/
def State.rootFresh (s : State) : Bool :=
  s.dom.root.rootIdentity != ownIdentity && s.dom.root.rootIdentity != 0 && decide (s.time.tick < s.dom.beatAt + 3 * s.helloTicks)

/-- The current root's dataset as it is offered; while its heartbeat is fresh it stands though no neighbour offers it (R199). -/
def State.standingRoot (s : State) (offers : List Hello) : Option Hello :=
  (offers.find? (fun h => h.rootIdentity == s.dom.root.rootIdentity)).orElse (fun _ => if s.rootFresh then some s.dom.root else none)

/-- Root choice (R199): a better dataset replaces the current root after five consecutive `HELLO` intervals (`tick`), at
once where the current root is no longer fresh. -/
def State.chooseRoot (tick : Bool) (s : State) : State :=
  let offers := s.rootOffers
  match bestHello offers with
  | none => { s with dom := { s.dom with isRoot := false, better := none, betterRun := 0 } }
  | some b =>
    match s.standingRoot offers with
    | none => s.takeRoot b
    | some c =>
      if helloOrder b < helloOrder c ∧ b.rootIdentity ≠ c.rootIdentity then
        if tick then
          let run := if s.dom.better = some b.rootIdentity then s.dom.betterRun + 1 else 1
          if 5 ≤ run then s.takeRoot b else { s with dom := { s.dom with better := some b.rootIdentity, betterRun := run } }
        else s
      else if tick then { s with dom := { s.dom with better := none, betterRun := 0 } } else s

/-- Is a trunk port a parent candidate (R201). -/
def State.candidate (s : State) (p : Nat) : Bool :=
  let t := (s.port p).trunk
  (t.state == .measuring || t.state == .ready) && s.fresh p
    && t.nbr.elim false (fun n => n.2.rootIdentity == s.dom.root.rootIdentity && n.2.hops != 255
      && decide (n.2.hops < s.banks.active.maxHops) && n.2.parentId != s.deviceId)

/-- The order of candidates: cost, hops, device ID, port (R201). -/
def State.candidateKey (s : State) (p : Nat) : Nat :=
  (s.port p).trunk.nbr.elim 0 (fun n => (((n.2.pathCost + s.banks.active.cost p) * 256 + n.2.hops) * 65536 + n.1) * 64 + p)

/-- The parent port the rules name (R201): among `READY` candidates if there are any. -/
def State.parentChoice (s : State) : Option Nat :=
  if s.dom.isRoot then none
  else
    let all := s.trunkPorts.filter s.candidate
    let ready := all.filter (fun p => (s.port p).trunk.state == .ready)
    (if ready.isEmpty then all else ready).foldl (fun a p => match a with
      | some q => if s.candidateKey p < s.candidateKey q then some p else some q
      | none => some p) none

/-- Ref 7 after a change of parent port (R203): the difference d between a `READY` port's series and the one before is
treated as a return, a `MEASURING` port disqualifies it. In `WAIT_STEP`, which only a step or the loss of the reference ends
(05_references_and_holdover.md R133), d is added to `pending_phase` (DEDUCED, log entry 194). -/
def State.ref7Reparent (p : Option Nat) (s : State) : State :=
  match p with
  | some q =>
    let t := (s.port q).trunk
    let x := s.ref 7
    if x.state = .disabled then s
    else if t.state = .ready then
      let s1 := s.updRef 7 (fun x => { x with pred := none, phase := some t.phase, statusOk := true })
      if s1.sel.selected ≠ some 7 ∨ s1.sel.state = .loopOpen then s1
      else if s1.sel.state = .waitStep then
        { s1 with sel := { s1.sel with pendingPhase := s1.sel.pendingPhase + (t.phase - x.phase.getD 0) } }
      else if s1.time.valid then s1.treatDelta 7 (t.phase - x.phase.getD 0)
      else s1.treatPhase 7
    else s.disqualify 7 6
  | none => s

/-- Does one of the four cases of R202 in which the parent is lost hold: the link is down or the port has left `MEASURING` and
`READY`, `hops` 255 from the parent, a heartbeat that is not fresh. -/
def State.parentLost (s : State) : Bool :=
  s.dom.parentPort.elim false (fun p =>
    let t := (s.port p).trunk
    !(t.state == .measuring || t.state == .ready) || t.nbr.elim true (fun n => n.2.hops == 255) || !s.fresh p)

/-- A device that has lost its parent with no candidate left withdraws with `hops` 255, before it offers itself as root (R202). -/
def State.withdraw (s : State) : State :=
  if s.parentLost then
    let t := ({ s with dom := { s.dom with isRoot := false, parentPort := none } }).sendHellos
    { s with dom := { s.dom with txSeq := t.dom.txSeq, queue := t.dom.queue } }
  else s

/-- The tree follows the datasets and candidates: parent, hops, cost, delay and lead depth, with their events and an
immediate `HELLO` where one of parent, root, `hops` or `path_cost` changed (R200 to R203). A device that becomes root, or ceases
to be it, selects anew: the root never uses ref 7, and another device takes it ahead of every other (R204). -/
def State.retree (tick : Bool) (s : State) : State :=
  let s0 := s.chooseRoot tick
  let s1 := if s0.dom.isRoot then s0.withdraw else s0
  let d := s1.dom
  let parent := s1.parentChoice
  let nbr := parent.bind (fun p => ((s1.port p).trunk.nbr).map (fun n => (p, n)))
  let d1 := match nbr with
    | some (p, _, h) => { d with
        root := { h with nbrPhase := 0, nbrPhaseValid := false }, hops := min 255 (h.hops + 1)
        pathCost := (h.pathCost + s1.banks.active.cost p) % 2 ^ 32
        pathDelay := (h.pathDelay + nsUp (s1.port p).trunk.down.toNat) % 2 ^ 32, domainLead := h.leadDepth, noParentAt := none
        rootTr := h.timeTr }
    | none => if d.isRoot then { d with root := s1.ownDataset, hops := 0, pathCost := 0, pathDelay := 0, noParentAt := none }
      else { d with hops := 255, pathCost := 0, pathDelay := 0, noParentAt := some (d.noParentAt.getD s1.time.tick) }
  let moved := parent != d.parentPort
  let n := if moved then inc48 d.changes 1 else d.changes
  let d2 := { d1 with parentPort := parent, changes := n, lastChange := if moved then s1.now else d.lastChange }
  let s2 := { s1 with dom := d2 }
  let s2r := if d2.root.rootId ≠ s.dom.root.rootId then s2.post 0x0902 [(16, s.dom.root.rootId), (16, d2.root.rootId), (8, d2.root.cls)] else s2
  let s3 := if moved then
      ((s2r.counterHalf d.changes n 0x0906 0 288).post 0x0901
        [(8, d.parentPort.getD 255), (8, parent.getD 255), (16, nbr.elim 0xFFFF (fun x => x.2.1)), (8, d2.hops)]).ref7Reparent parent
    else s2r
  let s3 := if d2.isRoot != s.dom.isRoot then s3.runSelector else s3
  if moved ∨ d2.root.rootIdentity ≠ s.dom.root.rootIdentity ∨ d2.hops ≠ s.dom.hops ∨ d2.pathCost ≠ s.dom.pathCost then s3.sendHellos else s3

/-! ### Trunk states (R206) -/

/-- Codes of R206. -/
def trunkCode : TrunkState → Nat
  | .down => 0
  | .l1Wait => 1
  | .measuring => 2
  | .ready => 3

/-- A trunk port's state changes, with its event (R221). -/
def State.setTrunk (p : Nat) (st : TrunkState) (s : State) : State :=
  let old := (s.port p).trunk.state
  if old = st then s
  else (s.updTrunk p (fun t => { t with state := st })).post 0x0904
    [(8, p), (2, trunkCode old), (2, trunkCode st), (3, (s.port p).trunk.l1)]

/-- A series that starts qualifying (R193). -/
def freshSeries (s : State) : RefS := { state := .qualifying, qualSince := s.time.tick, gateSf := some s.stepFree }

/-- A trunk port goes `DOWN`: its neighbour, series and map are gone (R206). -/
def State.trunkDrop (p : Nat) (s : State) : State :=
  if (s.port p).trunk.state = .down then s
  else
    (s.updTrunk p (fun t => { t with
      nbr := none, members := none, l1 := 0, l1Locked := false, series := {}, prevRtt := none, pair := {}, badSince := none })).setTrunk p .down

/-- The same, and it is no longer a candidate (R201, R206). -/
def State.trunkDown (p : Nat) (s : State) : State :=
  if (s.port p).trunk.state = .down then s else (s.trunkDrop p).retree false

/-- Do the conditions that hold a trunk port out of `DOWN` still stand: link, role, `HELLO` (R206). -/
def State.trunkAlive (s : State) (p : Nat) : Bool :=
  s.domainRx p && s.isTrunk p && decide (s.time.tick < (s.port p).trunk.helloAt + 3 * s.helloTicks)

/-! ### The series (R192, R193) -/

/-- PTP defaults of R109, or the overrides staged for ref 7: window, hit limit, offset and drift tolerances. -/
def State.seriesPolicy (s : State) : Nat × Nat × Nat × Nat :=
  let w := s.banks.active.refWord 7
  (orDefault (bits w 64 32) 120, orDefault (bits w 96 32) 100, orDefault (bits w 128 64) 100000, orDefault (bits w 192 32) 10000)

/-- A series value as an event of the regression engine (05_references_and_holdover.md R108): the reference's 125 ms mark
nearest to now, and the RAW instant at which the reference reads it. -/
def State.seriesEvent (s : State) (e : Int) : GateEvent :=
  let there := s.nowU + e
  let k := divNear there (125 * 65536000000)
  { n := k.toNat, at_ := s.nowU, sf := s.stepFree, raw := s.rawU - (there - k * (125 * uMs)) }

/-- The restart of a series: it qualifies again for one full window (R206). -/
def State.restartSeries (p : Nat) (s : State) : State :=
  (s.updTrunk p (fun t => { t with prevRtt := none, series := { t.series with
    state := .qualifying, qualSince := s.time.tick, offFails := 0, driftFails := 0, hitRun := 0, pred := none } })).setTrunk p .measuring

/-- A series takes one value; the third phase hit in a row restarts it (R193, R206). -/
def State.takeSeries (p : Nat) (e : Int) (forced : Bool) (s : State) : State :=
  let x := (s.port p).trunk.series
  let net := e + s.time.stepSum + s.time.slewSum
  let limit : Nat := s.seriesPolicy.2.1 * 65536
  let hit := forced || x.pred.elim false (fun v => decide (limit < (net - v).natAbs))
  let ev := { s.seriesEvent e with hit := hit }
  let s1 := s.updTrunk p (fun t => { t with phase := e, series := { x with
    evs := x.evs ++ [ev], lastEvent := some s.time.tick, hitRun := if hit then x.hitRun + 1 else 0
    lastHit := if hit then some s.time.tick else x.lastHit, pred := if hit ∧ x.state = .qualified then x.pred else some net } })
  if hit ∧ 3 ≤ x.hitRun + 1 ∧ (s.port p).trunk.state = .ready then s1.restartSeries p else s1

/-- The series of the parent port is ref 7's (R193). -/
def State.feedRef7 (p : Nat) (e : Int) (forced : Bool) (s : State) : State :=
  if s.dom.parentPort = some p ∧ (s.ref 7).state ≠ .disabled then
    (s.updRef 7 (fun x => { x with statusOk := true })).refEvent 7 (s.seriesEvent e) (some e) forced
  else s

/-- A sub-gate of a trunk port's series that is due closes and is evaluated by the tests of R114 and R116 (R193): `READY`
when it qualifies, `MEASURING` again once one of the tests has failed in two consecutive evaluations (R206). -/
def State.closeSeries (p : Nat) (s : State) : State :=
  let x := (s.port p).trunk.series
  let (w, _, offTol0, driftTol0) := s.seriesPolicy
  let cuts := subGates w
  let done := (cuts.take x.parts.length).sum
  match x.gateSf, nth cuts x.parts.length with
  | some start, some len =>
    let close := start + ((done + len : Nat) : Int) * uMs
    if x.state = .disabled ∨ s.stepFree < close then s
    else
      let evs := x.evs.filter (fun e => e.sf < close)
      let part := gateY 8000000 1 x.lastEv evs (s.rawOfSf close)
      let parts := x.parts ++ [part]
      let x1 := { x with
        evs := x.evs.filter (fun e => close ≤ e.sf), lastEv := (evs.getLast?.map (·.raw)).orElse (fun _ => x.lastEv), parts := parts }
      if parts.length < cuts.length then s.updTrunk p (fun t => { t with series := x1 })
      else
        let q := worstQuality (parts.map (·.1))
        let raw := divNear ((parts.map (·.2)).sum) parts.length
        let (code, base) := s.basisOf 7
        let g : SubGate := { y := ratNear ((raw : Rat) - base), raw := raw, centre := (start + close) / 2, quality := q, own := q }
        let x2 := { x1 with parts := [], gateSf := some close, gates := keepGates (g :: x1.gates), basis := code, cEnd := close }
        let (u, v) := x2.fit close true
        let offBad := decide (((if code = 2 then 100000000000 else offTol0 : Nat) : Rat) < |u|)
        let driftBad := decide (((if code = 2 then 4000000 else driftTol0 : Nat) : Rat) < |v * 3600|) && !(code == 2 && !s.ocxo.warm)
        let leftOut := q == 1 || q == 2
        let x3 := { x2 with
          offset := ratNear u, drift := ratNear (v * 3600)
          offFails := if leftOut then x2.offFails else if offBad then x2.offFails + 1 else 0
          driftFails := if leftOut then x2.driftFails else if driftBad then x2.driftFails + 1 else 0 }
        let s1 := s.updTrunk p (fun t => { t with series := x3 })
        let last := x3.gates.take 16
        if (s.port p).trunk.state = .ready then
          if 2 ≤ x3.offFails ∨ 2 ≤ x3.driftFails then s1.restartSeries p else s1
        else if (s.port p).trunk.state = .measuring ∧ x3.qualSince + w * tickS ≤ s.time.tick ∧ last.length = 16
            ∧ last.all (fun g => g.quality == 0) ∧ !offBad ∧ !driftBad ∧ x3.lastHit.elim true (fun t => decide (t + w * tickS < s.time.tick)) then
          (s1.updTrunk p (fun t => { t with series := { t.series with
            state := .qualified, qualAt := s.time.tick, offFails := 0, driftFails := 0, hitRun := 0 } })).setTrunk p .ready
        else s1
  | _, _ => s

/-- α of a port's fibre pair in units of 10^−15; pair 0 has α = 0 (R194). -/
def Bank.pairAlpha (b : Bank) (p : Nat) : Int := if b.fibrePair p = 0 then 0 else b.alpha (b.fibrePair p)

/-- α as the port applies it (R194): the pair's at the slave end, α / (1 + α) with the opposite sign at the master end. -/
def Bank.appliedAlpha (b : Bank) (p : Nat) (slave : Bool) : Rat :=
  let a : Rat := mkRat (b.pairAlpha p) 1000000000000000
  if slave then a else -(a / (1 + a))

/-- d_down from the round trip (R192): r (1 + α) / (2 + α). -/
def downOf (r : Int) (alpha : Rat) : Int := ratNear ((r : Rat) * ((1 + alpha) / (2 + alpha)))

/-! ### The events -/

/-- Ports beyond 55 do not exist. -/
def withPort (p : Nat) (s : State) (f : State → State) : Host.Outcome State Fault Refusal :=
  if p < portCount then .next (f s) else .fault .noSuchUnit

/-- At each `HELLO` interval the root's heartbeat advances, the better dataset is counted, and `HELLO` is sent (R199, R200). -/
def execHelloSend (dt : Nat) (s : State) : Host.Outcome State Fault Refusal :=
  let s1 := s.advance dt
  .next (if s1.banks.active.domEnable ∧ s1.dom.helloDue ≤ s1.time.tick then
    let s2 := { s1 with dom := { s1.dom with
      helloDue := s1.time.tick + s1.helloTicks
      heartbeat := if s1.dom.isRoot then (s1.dom.heartbeat + 1) % 2 ^ 32 else s1.dom.heartbeat } }
    State.settleTiming s1 (s2.retree true).sendHellos
  else s1)

/-- Has a heartbeat count advanced on another. -/
def beatAdvanced (old new : Nat) : Bool := within 1 2147483647 ((new + 2 ^ 32 - old) % 2 ^ 32)

/-- A neighbour's `HELLO` is recorded (R200, R206), with its root's heartbeat. -/
def State.takeHello (f : DomFrame) (s : State) : State :=
  let h := helloOf f.payload
  let t := (s.port f.port).trunk
  let advanced := t.nbr.elim true (fun n => n.2.rootIdentity != h.rootIdentity || beatAdvanced n.2.heartbeat h.heartbeat)
  let s1 := s.updTrunk f.port (fun t => { t with
    nbr := some (f.sender, h), helloAt := s.time.tick, beatAt := if advanced then s.time.tick else t.beatAt })
  let s2 := if h.rootIdentity = s.dom.root.rootIdentity ∧ beatAdvanced s.dom.beat h.heartbeat then
      { s1 with dom := { s1.dom with beat := h.heartbeat, beatAt := s.time.tick } } else s1
  let s3 := if t.state = .down then
      (s2.updTrunk f.port (fun t => { t with
        l1 := 1, pair := {}, turnAt := s.time.tick, annAt := s.time.tick, l1At := s.time.tick })).setTrunk f.port .l1Wait
    else s2
  s3.retree false

/-- A `HELLO` is received and parent choice and root are re-evaluated (R186, R199 to R203). -/
def execHello (dt : Nat) (f : DomFrame) (s : State) : Host.Outcome State Fault Refusal :=
  withPort f.port (s.advance dt) (fun s1 =>
    let a := s1.acceptDomain f
    if a.1 ∧ f.kind = 1 then State.settleTiming s1 (a.2.takeHello f) else a.2)

/-- The root's heartbeat has not advanced for three `HELLO` intervals: the choice is made again (R202). -/
def execHeartbeatStale (dt : Nat) (s : State) : Host.Outcome State Fault Refusal :=
  let s1 := s.advance dt
  .next (if s1.banks.active.domEnable then State.settleTiming s1 (s1.retree false) else s1)

/-- The payload of `MEMBERS` (R208). -/
def State.membersFields (s : State) : Fields :=
  [(16, mapCount s.subtreeMap), (16, s.subtreeLead), (8, s.subtreeHops), rz 24, (4096, s.subtreeMap)]

/-- Each second the device sends `MEMBERS` to its parent (R208). -/
def execMembersSend (dt : Nat) (s : State) : Host.Outcome State Fault Refusal :=
  let s1 := s.advance dt
  .next (match s1.dom.parentPort with
    | some p =>
      if s1.dom.membersDue ≤ s1.time.tick then
        ({ s1 with dom := { s1.dom with membersDue := s1.time.tick + tickS } }).sendDomain p 0x02 s1.membersFields
      else s1
    | none => s1)

/-- A duplicate device ID (R208): the state, its event and its fault. -/
def State.duplicate (id p : Nat) (s : State) : State :=
  let s1 := { s with dom := { s.dom with dupId := true, dupAt := s.time.tick } }
  if s.dom.dupId then s1 else (s1.post 0x0903 [(16, id), (8, p)]).condition 0x26 14 6 0

/-- The ID a child's map shows twice, if any (R208): this device's own, or one in another child's map. -/
def State.duplicated (s : State) (p map : Nat) : Option Nat :=
  if bit map s.deviceId then some s.deviceId
  else
    let others := ((s.childPorts.filter (· ≠ p)).map (fun q => (s.port q).trunk.members.elim 0 (fun m => m.1))).foldl (· ||| ·) 0
    (bitList (map &&& others) 4096).head?

/-- A `MEMBERS` frame is received: the subtree map is kept and duplicate IDs are checked (R208, R209). -/
def State.takeMembers (f : DomFrame) (s : State) : State :=
  let map := bits f.payload 64 4096
  let s1 := s.updTrunk f.port (fun t => { t with members := some (map, wireField f.payload 16 16, bits f.payload 32 8) })
  match s1.duplicated f.port map with
  | some id => s1.duplicate id f.port
  | none => s1

def execMembers (dt : Nat) (f : DomFrame) (s : State) : Host.Outcome State Fault Refusal :=
  withPort f.port (s.advance dt) (fun s1 =>
    let a := s1.acceptDomain f
    if a.1 ∧ f.kind = 2 then a.2.takeMembers f else a.2)

/-- Ten seconds without a repeat clear `dup_id` (R208). -/
def execDupIdClear (dt : Nat) (s : State) : Host.Outcome State Fault Refusal :=
  let s1 := s.advance dt
  .next (if s1.dom.dupId ∧ s1.dom.dupAt + 10 * tickS ≤ s1.time.tick then
    ({ s1 with dom := { s1.dom with dupId := false } }).conditionEnds 0x26
  else s1)

/-- A trunk port changes state on link, role, qualification or `HELLO` timeout (R206). -/
def execTrunkState (dt port : Nat) (s : State) : Host.Outcome State Fault Refusal :=
  withPort port (s.advance dt) (fun s1 =>
    if (s1.port port).trunk.state = .down then s1
    else if !s1.trunkAlive port then State.settleTiming s1 (s1.trunkDown port)
    else State.settleTiming s1 ((s1.closeSeries port).retree false))

/-- L1SyncState of a trunk port (R190; codes of R217): IDLE while nothing of the far end's is heard, LINK_ALIVE without lock
on the recovered clock or with settings that differ, CONFIG_MATCH until both ends say they are coherent and congruent. This
end's transmit clock is always coherent with its time base (R188), and its receive clock while it is locked. -/
def L1Peer.state (x : L1Peer) : Nat :=
  if !x.heard then 1
  else if !x.locked ∨ !(x.tcr && x.rcr && x.cr) ∨ x.opt then 2
  else if x.itc && x.irc && x.ic then 4 else 3

/-- What a trunk port's L1SYNC sees has changed, and its L1SyncState with it (R190, R206). -/
def execL1syncChange (dt port : Nat) (x : L1Peer) (s : State) : Host.Outcome State Fault Refusal :=
  withPort port (s.advance dt) (fun s1 =>
    let t := (s1.port port).trunk
    let l1 := L1Peer.state x
    if t.state = .down then s1
    else
      let s2 := s1.updTrunk port (fun t => { t with l1 := l1, l1Locked := x.locked })
      let s3 := if l1 = 4 ∧ t.state = .l1Wait then
          (s2.updTrunk port (fun t => { t with series := freshSeries s2, prevRtt := none, pair := {} })).setTrunk port .measuring
        else if l1 ≠ 4 ∧ (t.state = .measuring ∨ t.state = .ready) then
          (s2.updTrunk port (fun t => { t with series := {}, prevRtt := none, pair := {} })).setTrunk port .l1Wait
        else s2
      State.settleTiming s1 (s3.retree false))

/-- Is a domain frame still leaving on some port. -/
def State.domainOnWire (s : State) : Bool :=
  s.ports.any (fun e => e.2.wire.elim false (fun w => w.copy.what == 11 && decide (s.time.rawTick * 262144 < w.finish)))

/-- A disabled domain reports quiescent within 10 ms: once the frames in progress are sent (R214). -/
def execDomainQuiescent (dt : Nat) (s : State) : Host.Outcome State Fault Refusal :=
  let s1 := s.advance dt
  .next (if s1.dom.draining ∧ !s1.domainOnWire then { s1 with dom := { s1.dom with draining := false } } else s1)

/-! ### ESMC (R189) -/

/-- Quality levels of ITU-T G.781 option I: QL-PRC, QL-SEC (log entry 28). -/
def qlPrc : Nat := 2
def qlSec : Nat := 11

/-- The quality level the selector state gives (R189). -/
def State.qualityLevel (s : State) : Nat :=
  let b := s.banks.active
  let (_, t, f) := s.announced
  let r := s.sel.selected.getD 15
  match s.sel.state with
  | .locked => if t ∨ f then qlPrc else qlDnu
  | .lockedFreq =>
    if b.refType r = 4 then (s.port (b.refParam r)).trunk.esmcQl
    else if b.refType r = 6 ∧ b.traceable r then qlPrc else qlDnu
  | .holdover => if s.traceableRef then qlSec else qlDnu
  | .acquiring => if s.traceableRef then qlSec else qlDnu
  | _ => qlDnu

/-- A received ESMC PDU, or its absence for 5 s, sets the indication of the SYNCE references on its port (R189). -/
def execEsmcReceive (dt port : Nat) (ql : Option Nat) (s : State) : Host.Outcome State Fault Refusal :=
  withPort port (s.advance dt) (fun s1 =>
    let refs := [5, 6].filter (fun r => s1.banks.active.refType r = 4 ∧ s1.banks.active.refParam r = port)
    match ql with
    | some x =>
      let s2 := s1.updTrunk port (fun t => { t with esmcQl := x % 16, esmcAt := some s1.time.tick })
      State.settleTiming s1 (refs.foldl (fun t r => t.indication r (x % 16 != qlDnu)) s2)
    | none =>
      State.settleTiming s1 ((refs.filter (fun r => s1.esmcSilent port (s1.ref r).startAt)).foldl (fun t r => t.indication r false) s1))

/-! ### Link calibration (R195, R219) -/

/-- Offset of a stamp from the nearest whole second. -/
def fromSecond (t : Int) : Int := t - (t + uS / 2) / uS * uS

/-- α from the mean offset, the zero reading, r and the port's current α (R195), in units of 10^−15; none where the
formula has no value (r = 0 or q = 1). -/
def calAlpha (m : Rat) (zero r : Int) (a0 : Rat) : Option Int :=
  let d : Rat := (r : Rat) * ((1 + a0) / (2 + a0)) + ((zero : Rat) - m)
  if r = 0 then none
  else
    let q := d / (r : Rat)
    if q = 1 then none else some (ratNear ((2 * q - 1) / (1 - q) * 1000000000000000))

/-- A calibration's gate closes: quality over the events of its gate, m, and α (R93, R195, R219). -/
def State.closeLinkCal (c : LinkCal) (s : State) : State :=
  let q := if c.evs.any (·.overrun) then 2 else if sourceLost 1000000 1 c.before c.evs ((c.closeTick - s.time.rawBase) * 262144) then 3
    else if c.evs.length < 3 then 1 else 0
  let m : Rat := if c.evs.isEmpty then 0 else (((c.evs.map (fun e => fromSecond e.at_)).sum : Int) : Rat) / (c.evs.length : Nat)
  let r := (s.port c.port).trunk.rtt
  let s1 := { s with meas := { s.meas with linkCals := s.meas.linkCals.erase c } }
  let (a, s2) := match calAlpha m c.zero r (s.banks.active.appliedAlpha c.port (s.slaveEnd c.port)) with
    | some a => (ofSigned 64 a, s1)
    | none => s1.draw 64
  let mOut := if q = 0 then ratNear m else 0
  let aOut := if q = 0 then a else 0
  s2.finish (fun w => w == c.wait) stOk (fun _ => [fi 64 mOut, fi 64 r, (64, aOut), (8, q), rz 24])

/-- The link calibration gates that are due close, and α is computed (R195, R219). -/
def execLinkCalGateClose (dt : Nat) (s : State) : Host.Outcome State Fault Refusal :=
  let s1 := s.advance dt
  .next ((s1.meas.linkCals.filter (fun c => decide (c.closeTick ≤ s1.time.tick))).foldl (fun t c => t.closeLinkCal c) s1)

/-! ### The bank -/

/-- The domain follows the active bank (R214): `old` is the bank before. A change of `enable`, `device_id`, `domain_tag` or
`key_slot` returns every trunk port to `DOWN` and disqualifies ref 7; a port that is no longer a trunk goes `DOWN`. On a
disable the queued domain frames are discarded and counted in `BAD_FRAME`. -/
def State.syncDomain (old : Bank) (s : State) : State :=
  let b := s.banks.active
  let changed := old.domEnable != b.domEnable || old.devId != b.devId || old.domTag != b.domTag || old.domKeySlot != b.domKeySlot
  let gone := (List.range portCount).filter (fun p => (s.port p).trunk.state != .down && (changed || !b.trunk p))
  let s1 := gone.foldl (fun t p => t.trunkDrop p) s
  let s2 := if changed then (s1.disqualify 7 7) else s1
  let cut := if old.domEnable && !b.domEnable then s2.dom.queue else []
  let s2c := cut.foldl (fun t q => t.trunkCount q.port 2) s2
  let s3 := { s2c with dom := { s2c.dom with
    queue := if cut.isEmpty then s2c.dom.queue else []
    draining := s2c.dom.draining || (old.domEnable && !b.domEnable)
    isRoot := s2c.dom.isRoot && b.domEnable
    helloDue := if changed then s2c.time.tick else s2c.dom.helloDue } }
  s3.retree false

/-! ### Commands of group 0x09 -/

/-- `DOMAIN_CONFIG_SET` (R214), staged. -/
def cmdDomainConfigSet : Command where
  opcode := 0x0901
  layout _ := { size := 96, fields := [(0, 3), (8, 24), (32, 12), (48, 27), (80, 8)] }
  range q _ := decide (q.f 8 8 ≤ 127) && (!q.b 0 || q.f 48 16 != 0) && decide (q.f 72 3 ≤ 5) && decide (2 ≤ q.f 80 8)
  objs _ := stageObjs 0x0901 0
  run q s :=
    if (Tbl.getD s.keys.slot (q.f 64 8) {}).typ ≠ 1 then .done stNotPermitted [] s
    else stage (fun b => { b with dom := q.body }) s

def execDomainConfigSet (q : Req) (s : State) : Host.Outcome State Fault Refusal := runCommand cmdDomainConfigSet q s

/-- `DOMAIN_CONFIG_GET` (R214). -/
def cmdDomainConfigGet : Command where
  opcode := 0x0902
  run _ s := .done stOk [(96, s.banks.active.dom)] s

def execDomainConfigGet (q : Req) (s : State) : Host.Outcome State Fault Refusal := runCommand cmdDomainConfigGet q s

/-- `PORT_TIMING_SET` (R215), staged. -/
def cmdPortTimingSet : Command where
  opcode := 0x0903
  layout _ := { size := 64, fields := [(0, 10), (16, 4), (32, 16)] }
  range q _ := decide (q.f 0 8 < portCount)
  objs q := stageObjs 0x0903 (q.f 0 8)
  run q s := stage (fun b => { b with ptim := Tbl.put b.ptim (q.f 0 8) q.body }) s

def execPortTimingSet (q : Req) (s : State) : Host.Outcome State Fault Refusal := runCommand cmdPortTimingSet q s

/-- `FIBRE_PAIR_SET` (R216), staged. -/
def cmdFibrePairSet : Command where
  opcode := 0x0905
  layout _ := { size := 128, fields := [(0, 4), (32, 96)] }
  range q _ := q.f 0 4 != 0 && withinI (-10000000000000) 10000000000000 (q.i 64 64)
  objs q := stageObjs 0x0905 (q.f 0 4)
  run q s := stage (fun b => { b with pair := Tbl.put b.pair (q.f 0 4) q.body }) s

def execFibrePairSet (q : Req) (s : State) : Host.Outcome State Fault Refusal := runCommand cmdFibrePairSet q s

/-- Role of a trunk port (R217): 1 parent, 2 child, 3 standby, 0 none. -/
def State.trunkRole (s : State) (p : Nat) : Nat :=
  if s.dom.parentPort = some p then 1 else if s.isChild p then 2 else if (s.port p).trunk.state = .down then 0 else 3

/-- `TRUNK_STATUS` (R217). -/
def cmdTrunkStatus : Command where
  opcode := 0x0904
  layout _ := { size := 32, fields := [(0, 8)] }
  range q _ := decide (q.f 0 8 < portCount)
  objs q := [.port (q.f 0 8)]
  run q s :=
    let p := q.f 0 8
    let t := (s.port p).trunk
    .done stOk [(8, p), (2, trunkCode t.state), (2, s.trunkRole p), (3, t.l1), fb (s.slaveEnd p), (16, t.nbr.elim 0xFFFF (·.1)),
      (16, t.nbr.elim 0xFFFF (·.2.parentId)), (8, t.nbr.elim 255 (·.2.hops)), rz 8, fi 64 t.rtt, fi 64 t.down, fi 64 t.phase,
      (48, t.authFail), (48, t.replay), (48, t.badFrame), (48, t.onEdge), (48, t.tagMismatch)] s

def execTrunkStatus (q : Req) (s : State) : Host.Outcome State Fault Refusal := runCommand cmdTrunkStatus q s

/-- `DOMAIN_STATUS` (R218). -/
def cmdDomainStatus : Command where
  opcode := 0x0906
  run _ s :=
    let d := s.dom
    .done stOk [fb s.joined, fb d.isRoot, fb d.dupId, rz 5, (8, d.parentPort.getD 255),
      (16, d.parentPort.elim 0xFFFF (fun p => (s.port p).trunk.nbr.elim 0xFFFF (·.1))), (16, d.root.rootId), (8, d.hops), (8, d.root.cls),
      (32, d.pathCost), (32, d.pathDelay), (16, s.leadDepth), (16, s.domainLead), (16, mapCount s.subtreeMap), rz 16,
      ft d.lastChange, (48, d.changes)] s

def execDomainStatus (q : Req) (s : State) : Host.Outcome State Fault Refusal := runCommand cmdDomainStatus q s

/-- `LINK_CAL_RUN` (R219). -/
def cmdLinkCalRun : Command where
  opcode := 0x0907
  layout _ := { size := 128, fields := [(0, 12), (32, 96)] }
  range q _ := decide (q.f 0 8 < portCount) && within 9 15 (q.f 8 4) && within 10 10000 (q.f 32 32)
  objs q := [.channel (q.f 8 4), .port (q.f 0 8)]
  run q s :=
    let c := s.chan (q.f 8 4)
    if s.dom.parentPort ≠ some (q.f 0 8) ∨ s.sel.selected ≠ some 7 ∨ c.state ≠ 2 ∨ s.channelUhz c ≠ 1000000 then
      .done stNotPermitted [] s
    else
      let w : Wait := { opcode := 0x0907, req := q, obj := some (.channel (q.f 8 4)), also := [.port (q.f 0 8)] }
      .aside w { s with meas := { s.meas with linkCals := s.meas.linkCals ++ [{
        wait := w, closeTick := s.time.tick + q.f 32 32 * tickS, ch := q.f 8 4, port := q.f 0 8, zero := q.i 64 64, before := c.lastRaw }] } }

def execLinkCalRun (q : Req) (s : State) : Host.Outcome State Fault Refusal := runCommand cmdLinkCalRun q s

/-- `DOMAIN_MEMBERS` (R220). -/
def cmdDomainMembers : Command where
  opcode := 0x0908
  run _ s := .done stOk [(16, mapCount s.subtreeMap), rz 48, (4096, s.subtreeMap)] s

def execDomainMembers (q : Req) (s : State) : Host.Outcome State Fault Refusal := runCommand cmdDomainMembers q s

end Sys2Proof.Machine
end

