-- ==== Sys2Proof/Machine/Ports.lean ====
section
/-!
DEFINITION. Port MACs: link state and the link hold, frame size, preemption, PAUSE, the host port's rings and the port
statistics, with the commands of group 0x03 (10_port_macs.md R300 to R335). Instants on the wire are on the RAW scale,
in units of 2^-16 ns.
-/
namespace Sys2Proof

/-- Is a frame a MAC control frame. -/
def Frame.isControl (f : Frame) : Bool := f.etherType == 0x8808

/-- The group address of domain frames (07_timing_domain.md R185). -/
def domainGroup : Nat := 0x0180C200000E

/-- Is a frame a domain frame: untagged, to the domain group, of EtherType 0x88B5 (07_timing_domain.md R185). -/
def Frame.isDomain (f : Frame) : Bool := !f.tagged && f.dst == domainGroup && f.etherType == 0x88B5

/-- Can a frame's field be written on the fly (03_time_base_and_stamps.md R59): it lies within the first 256 bytes, and no
byte ahead of it depends on it. Over IPv6 that takes the checksum-compensation trailer. -/
def Frame.onTheFly (f : Frame) : Bool := !f.fieldFar && !f.integrity && (!f.ipv6 || f.trailer)

namespace Machine

/-! ### Statistics (R328) -/

/-- Advance counter `k` of a port's 54 by `n`; `PORT_STAT_HALF` where bit 47 sets. -/
def State.stat (p k n : Nat) (s : State) : State :=
  let old := Tbl.getD (s.port p).stats k 0
  let new := inc48 old n
  let s1 := s.updPort p (fun x => { x with stats := Tbl.put x.stats k new })
  if halfway old new then s1.post 0x0303 [(8, p), (8, k)] else s1

/-- The index of a length's bin within its group of seven. -/
def lengthBin (n : Nat) : Nat :=
  if n ≤ 64 then 0 else if n ≤ 127 then 1 else if n ≤ 255 then 2 else if n ≤ 511 then 3 else if n ≤ 1023 then 4 else if n ≤ 1518 then 5 else 6

/-- The broadcast address. -/
def broadcastMac : Nat := 2 ^ 48 - 1

/-- Unicast 0, multicast 1, broadcast 2. The group bit is bit 0 of the address's first byte. -/
def macKind (m : Nat) : Nat := if m = broadcastMac then 2 else if bit m 40 then 1 else 0

/-- Count an accepted frame (R310, R328). -/
def State.countRx (p : Nat) (f : Frame) (s : State) : State :=
  let s1 := (((s.stat p 0 f.len).stat p 1 1).stat p (2 + macKind f.dst) 1).stat p (6 + lengthBin f.len) 1
  if f.tagged then s1.stat p 5 1 else s1

/-- Count a transmitted frame of `n` bytes (R328). -/
def State.countTx (p dst n : Nat) (s : State) : State :=
  (((s.stat p 26 n).stat p 27 1).stat p (28 + macKind dst) 1).stat p (31 + lengthBin n) 1

/-! ### Wire and stamps -/

/-- Wire time of `n` bytes on a port, RAW 2^-16 ns, rounded up. -/
def State.wire (s : State) (p n : Nat) : Nat := (wireTime (s.rate p) n).toNat

/-- A port's own MAC address; index 56 is H (R303). -/
def portMac (p : Nat) : Nat := (Config.macBase.toNat + p) % 2 ^ 48

/-- Effective maximum M for a frame (R309). -/
def Bank.effMax (b : Bank) (p : Nat) (tagged : Bool) : Nat := b.maxFrame p + (if tagged then 4 else 0)

/-- `express_max` in force (R314). -/
def Bank.effExpress (b : Bank) (p : Nat) : Nat := if b.expressMax p = 0 then b.maxFrame p + 4 else b.expressMax p

/-- RAW instant now, in units of 2^-16 ns. -/
def State.rawNow (s : State) : Nat := s.time.rawTick * 4 * 65536

/-- The measured skew of a lane against physical lane 0, 2^-16 ns; zero on a single-lane mode (03_time_base_and_stamps.md R56). -/
def State.laneSkew (s : State) (p lane : Nat) : Int := psUnits (((s.port p).skew)[lane]?.getD 0)

/-- An ingress stamp (03_time_base_and_stamps.md R54): the bit crosses the PCS/MAC boundary `phase` (2^-16 ns) after this
tick, in the PCS block of a lane. Each term in ps is converted by itself. -/
def State.rxStamp (s : State) (p phase lane : Nat) : Int :=
  let b := s.banks.active
  s.nowU + phase - psUnits (factoryPs p (b.mode p)).1 - psUnits (b.rxUserPs p) - s.laneSkew p lane

/-- What lies between the PCS/MAC boundary and the lands for the block a port transmits at a RAW instant: the factory latency
and the skew of the lane that carries it (R54, R56; which lane that is, log entry 153). -/
def State.txLatency (s : State) (p : Nat) (raw : Int) : Int :=
  psUnits (factoryPs p (s.banks.active.mode p)).2 + s.laneSkew p (Config.txLane p raw).toNat

/-- An egress stamp (R54) of a frame whose first bit after the SFD crosses the lands at a RAW instant: `t_bound`, at which it
crossed the PCS/MAC boundary, plus the factory latency, the lane's skew and the user adjustment. -/
def State.txStamp (s : State) (p : Nat) (raw : Int) : Int :=
  s.timeAt (raw - s.txLatency p raw) + s.txLatency p raw + psUnits (s.banks.active.txUserPs p)

/-! ### Link state (R304 to R308) -/

/-- Codes of R305. -/
def linkCode : LinkState → Nat
  | .disabled => 0
  | .down => 1
  | .up => 2
  | .hold => 3

/-- A port's `link_state` changes, with its event (R335). -/
def State.setLink (p : Nat) (st : LinkState) (cause : Nat) (s : State) : State :=
  let old := (s.port p).link
  if old = st then s
  else (s.updPort p (fun x => { x with link := st, lastChange := s.now })).post 0x0301 [(8, p), (2, linkCode old), (2, linkCode st), (8, cause)]

/-- A port's `preempt_state` changes, with its event (R335). -/
def State.setPreempt (p st : Nat) (s : State) : State :=
  let old := (s.port p).preempt
  if old = st then s else (s.updPort p (fun x => { x with preempt := st })).post 0x0302 [(8, p), (3, old), (3, st)]

/-- Verify starts, or preemption becomes active or is refused, on entry to `UP` and after a commit (R315, R316). A change still
waiting for fragments is met by this start. -/
def State.startPreempt (p : Nat) (s : State) : State :=
  let b := s.banks.active
  let start := fun (verify : Bool) (st : Nat) =>
    (s.updPort p (fun x => { x with remerge := false, verSend := verify, verTries := if verify then 0 else x.verTries })).setPreempt p st
  if !b.preemptEn p then start false 0
  else if b.addFragSize p ≠ 0 then start false 4
  else if b.verifyDisable p then start false 2
  else start true 1

/-- The queue a copy waits in: its class's, the express queue, or the reserved tier (11_switch_core.md R337, R356). -/
def Copy.queue (c : Copy) : Nat := if c.reserved then 9 else c.cls

/-- Is preemption active on a port. -/
def State.preemptActive (s : State) (p : Nat) : Bool := (s.port p).preempt == 2

/-- All copies queued on a port, with the preempted remainder left out. -/
def PortS.queued (x : PortS) : List Copy := x.queues.flatMap (·.2) ++ (x.slot.map (·.copy)).toList

/-- Every queued frame of a port, waiting domain frames among them, is flushed and counted in `TX_FLUSH` (R305, R308). -/
def State.flushPort (p : Nat) (s : State) : State :=
  let here := fun (d : DomOut) => d.port == p
  (({ s with dom := { s.dom with queue := s.dom.queue.filter (fun d => !here d) } }).stat p 41
    ((s.port p).queued.length + (s.dom.queue.filter here).length)).updPort p (fun x => { x with queues := [], slot := none })

/-- Reserved frames waiting on a port are no longer bound by D_r: a PAUSE, a guard band or a link hold falls in their wait
(11_switch_core.md R355, R357). -/
def State.excuse (p : Nat) (s : State) : State :=
  s.updPort p (fun x => { x with queues := Tbl.upd x.queues 9 [] (fun q => q.map (fun c => { c with excused := true })) })

/-- A booked slot is lost (03_time_base_and_stamps.md R61): the frame is booked once more, or dropped after its second
loss and counted in `TS_BOOK_MISS`. -/
def State.loseSlot (p : Nat) (s : State) : State :=
  match (s.port p).slot with
  | some sl =>
    let c := { sl.copy with lost := sl.copy.lost + 1 }
    let s1 := s.updPort p (fun x => { x with slot := none })
    if 2 ≤ c.lost then
      let n := inc48 (s.port p).stMiss 1
      (s1.updPort p (fun x => { x with stMiss := n })).counterHalf (s.port p).stMiss n 0x050A p 64
    else s1.updPort p (fun x => { x with queues := Tbl.upd x.queues c.queue [] (fun q => c :: q) })
  | none => s

/-- The link hold expires (R305): queued frames are flushed and the port is `DOWN`. -/
def State.holdExpires (p : Nat) (s : State) : State := (s.flushPort p).setLink p .down 0

/-- A link condition of R304 fails (causes 1 to 6, the codes of R335) or is good again (7 to 12, in the same order): its flag. -/
def PortS.condition (cause : Nat) (x : PortS) : PortS :=
  { x with
    blockLock := (x.blockLock || cause == 7) && cause != 1, amLock := (x.amLock || cause == 8) && cause != 2
    fecLock := (x.fecLock || cause == 9) && cause != 3, hiBer := (x.hiBer || cause == 4) && cause != 10
    localFault := (x.localFault || cause == 5) && cause != 11, remoteFault := (x.remoteFault || cause == 6) && cause != 12 }

/-- What the port sends in answer to a fault (R304, Clause 81). -/
def State.answerFault (p cause : Nat) (s : State) : State :=
  if cause = 5 then s.emit (.frame p .remoteFault []) else if cause = 6 then s.emit (.frame p .idle []) else s

/-- A link condition fails, or one that had failed is good again (R304, R305). -/
def State.linkLost (p cause : Nat) (s : State) : State :=
  let s0 := (s.updPort p (fun x => { x.condition cause with badAt := s.time.tick })).answerFault p cause
  if (s.port p).link ≠ .up ∨ 6 < cause then s0
  else
    let ms := s.banks.active.linkHoldMs p
    let s1 := (s0.updPort p (fun x => { x with pauseUntil := none, holdDue := s.time.tick + ms * tickMs })).stat p 48 1
    let s2 := (((s1.loseSlot p).excuse p).setLink p .hold cause).trunkDown p
    let s3 := if s.banks.active.ptpRole p = 2 then s2.indication 7 false else s2
    if ms = 0 then s3.holdExpires p else s3

/-- A link condition fails; the port enters `HOLD` and starts the hold timer (R305). Causes are the codes of R335; 6 more than a
code says that the condition is good again. -/
def execLinkLoss (dt port cause : Nat) (s : State) : Host.Outcome State Fault Refusal :=
  withPort port (s.advance dt) (fun s1 => State.settleTiming s1 (s1.linkLost port cause))

/-- Is a copy a PTP event message, forwarded or originated: the engine's are Sync, Delay_Req, Pdelay_Req and Pdelay_Resp. -/
def Copy.isPtpEvent (c : Copy) : Bool :=
  c.frame.ptpEvent || (6 ≤ c.what && c.what ≤ 8) || c.what == 12 || c.what == 13 || 15 ≤ c.what
    || ((c.what == 9 || c.what == 14) && decide (c.frame.tag ≤ 3))

/-- Is a copy stale after a link return (R307): on the booked path, or a PTP event message. -/
def Copy.stale (c : Copy) : Bool := c.booked || c.isPtpEvent

/-- The port enters `UP` (R305, R307, R315), its lane skews measured in ps (03_time_base_and_stamps.md R56). A link lost, or a
PCS started, within the last 10 ms has not been good for as long. -/
def State.linkUp (p : Nat) (skew : List Int) (s : State) : State :=
  let x := s.port p
  let four := isQ p
  let fec := s.banks.active.mode p == 3 || s.banks.active.mode p == 6
  let good := fun (x : PortS) => { x with
    blockLock := true, amLock := four, fecLock := fec, hiBer := false, localFault := false, remoteFault := false
    skew := if four then (skew ++ [0, 0, 0, 0]).take 4 else [0, 0, 0, 0] }
  let s0 := s.updPort p good
  match x.link with
  | .down => if s.time.tick < x.badAt + 10 * tickMs then s else (s0.setLink p .up 0).startPreempt p
  | .hold =>
    if s.time.tick < x.badAt + 10 * tickMs then s
    else if x.holdDue ≤ s.time.tick then ((s0.holdExpires p).setLink p .up 0).startPreempt p
    else
      let stale := (x.queues.flatMap (·.2)).filter Copy.stale
      let s1 := (s0.stat p 42 stale.length).updPort p (fun y => { y with queues := y.queues.mapVal (fun q => q.filter (fun c => !c.stale)) })
      ((s1.stat p 49 1).setLink p .up 0).startPreempt p
  | .up => s.updPort p (fun x => { x with skew := (good x).skew })
  | .disabled => s

/-- A port whose PCS has no mode, or starts for a new one: no lock, no fault, nothing being reassembled (R304, R331). -/
def PortS.dark (x : PortS) : PortS :=
  { x with blockLock := false, amLock := false, fecLock := false, hiBer := false, localFault := false, remoteFault := false }

/-- A port's PCS starts for the mode in force (R305). -/
def State.startPcs (p : Nat) (s : State) : State := (s.updPort p (fun x => { x.dark with badAt := s.time.tick })).setLink p .down 0

/-- A link good for 10 ms brings the port to `UP`, dropping stale frames on return (R305, R307). On a port that is `UP` the
row is a change of lane skew without loss of lock, which is tracked (03_time_base_and_stamps.md R56). -/
def execLinkUp (dt port : Nat) (skew : List Int) (s : State) : Host.Outcome State Fault Refusal :=
  withPort port (s.advance dt) (fun s1 => State.settleTiming s1 (s1.linkUp port skew))

/-- The hold timer expires; queued frames are flushed and the port enters `DOWN` (R305). -/
def execLinkHoldExpire (dt port : Nat) (s : State) : Host.Outcome State Fault Refusal :=
  withPort port (s.advance dt) (fun s1 =>
    if (s1.port port).link = .hold ∧ (s1.port port).holdDue ≤ s1.time.tick then s1.holdExpires port else s1)

/-- Has a port finished what it was sending: its wire is free and no preempted frame has fragments left (R305, R308). -/
def State.sentAll (s : State) (p : Nat) : Bool :=
  (s.port p).cut.isNone && (s.port p).wire.elim true (fun w => decide (w.finish ≤ s.rawNow))

/-- A port taken out of service or changing mode reports quiescent once the frame it was sending is complete; a new mode then
brings it to `DOWN` (R305, R308). -/
def execPortQuiescent (dt port : Nat) (s : State) : Host.Outcome State Fault Refusal :=
  withPort port (s.advance dt) (fun s1 =>
    if (s1.port port).draining ∧ s1.sentAll port then
      let s2 := s1.updPort port (fun x => { x with draining := false, asm := none })
      if s2.inService port ∧ (s2.port port).link = .disabled then s2.startPcs port else s2
    else s1)

/-- Has a port fragments of a preempted frame still to send, or on its wire (R315). -/
def State.fragmenting (s : State) (p : Nat) : Bool :=
  (s.port p).cut.isSome || (s.port p).wire.elim false (fun w => decide (0 < w.frag) && decide (s.rawNow < w.finish))

/-- Ports follow the active bank (R305, R308, R315): `old` is the bank before. What was being sent or reassembled goes on at the
old mode's rate. A changed preemption setting waits for the fragments of a frame already preempted. -/
def State.syncPorts (old : Bank) (s : State) : State :=
  (List.range portCount).foldl (fun t p =>
    let b := t.banks.active
    if old.mode p ≠ b.mode p then
      if (t.port p).link = .disabled then (if b.mode p = 0 ∨ (t.port p).draining ∨ !t.powered p then t else t.startPcs p)
      else
        let t1 := (t.flushPort p).updPort p (fun x => { x.dark with
          pauseUntil := none, pauseSending := false, control := [], draining := true, lastMode := old.mode p, verSend := false, remerge := false })
        let t2 := ((t1.setLink p .disabled 0).setPreempt p 0).trunkDown p
        if b.ptpRole p = 2 then t2.indication 7 false else t2
    else if (t.port p).link = .up ∧ (old.preemptEn p ≠ b.preemptEn p ∨ old.verifyDisable p ≠ b.verifyDisable p
        ∨ old.addFragSize p ≠ b.addFragSize p ∨ old.verifyTimeMs p ≠ b.verifyTimeMs p) then
      if t.fragmenting p then t.updPort p (fun x => { x with remerge := true }) else (t.setPreempt p 0).startPreempt p
    else t) s

/-! ### PAUSE (R318 to R322) -/

/-- `q` quanta of 512 bit times, RAW 2^-16 ns. -/
def State.quanta (s : State) (p q : Nat) : Nat := s.wire p (64 * q)

/-- Is a PAUSE in effect. -/
def State.paused (s : State) (p : Nat) : Bool :=
  (s.port p).pauseUntil.elim false (fun u => decide ((s.port p).pauseFrom ≤ s.rawNow) && decide (s.rawNow < u))

/-- A MAC control frame that R310 accepts is consumed (R318 to R320); its last FCS bit crosses the lands at a RAW instant. -/
def State.macControl (p : Nat) (f : Frame) (ends : Nat) (s : State) : State :=
  let b := s.banks.active
  if !(f.opcode == 1 && (f.dst == 0x0180C2000001 || f.dst == portMac p)) then s.stat p 23 1
  else if !b.rxPauseEn p || b.trunk p then s.stat p 22 1
  else if 0 < f.quanta then
    ((s.stat p 20 1).excuse p).updPort p (fun x => { x with
      pauseUntil := some (ends + s.quanta p f.quanta), pauseFrom := if s.paused p then x.pauseFrom else ends })
  else if (s.port p).pauseUntil.elim false (fun u => decide (ends < u)) then
    (s.stat p 20 1).updPort p (fun x => { x with pauseUntil := some ends })
  else s.stat p 21 1

/-- The pause timer reaches 0 and transmission resumes (R319). -/
def execPauseTimerExpire (dt port : Nat) (s : State) : Host.Outcome State Fault Refusal :=
  withPort port (s.advance dt) (fun s1 =>
    if (s1.port port).pauseUntil.elim true (fun u => decide (s1.rawNow < u)) then s1
    else s1.updPort port (fun x => { x with pauseUntil := none }))

/-- Ingress FIFO occupancy crossing a threshold, or the repeat interval, generates a PAUSE (R322). -/
def execPauseGenerate (dt port : Nat) (s : State) : Host.Outcome State Fault Refusal :=
  withPort port (s.advance dt) (fun s1 =>
    let b := s1.banks.active
    let x := s1.port port
    let hi := b.pauseHi port * 512
    let lo := b.pauseLo port * 512
    let q := b.pauseQuanta port
    let send := fun (q : Nat) (on : Bool) =>
      s1.updPort port (fun x => { x with control := x.control ++ [q], pauseSending := on, pauseSentAt := s1.time.tick })
    if !b.txPauseEn port ∨ x.link ≠ .up then s1
    else if !x.pauseSending then (if hi < x.fifo then send q true else s1)
    else if x.fifo ≤ lo then send 0 false
    else if s1.quanta port q ≤ 2 * ((s1.time.tick - x.pauseSentAt) * (4 * 65536)) then send q true
    else s1)

/-! ### Preemption (R315 to R317) -/

/-- On entering `UP`, after a commit or for a retry the port sends a verify mPacket (R315). -/
def execVerifySend (dt port : Nat) (s : State) : Host.Outcome State Fault Refusal :=
  withPort port (s.advance dt) (fun s1 =>
    let x := s1.port port
    if x.link = .up ∧ x.preempt = 1 ∧ x.verSend then
      (s1.updPort port (fun x => { x with
        verSend := false, verTries := x.verTries + 1, verDue := s1.time.tick + s1.banks.active.verifyTimeMs port * tickMs })).emit
          (.frame port .verify [])
    else s1)

/-- `verify_time_ms` elapses without a respond: retry, or fail after three (R315). -/
def execVerifyTimeout (dt port : Nat) (s : State) : Host.Outcome State Fault Refusal :=
  withPort port (s.advance dt) (fun s1 =>
    let x := s1.port port
    if x.link = .up ∧ x.preempt = 1 ∧ !x.verSend ∧ x.verDue ≤ s1.time.tick then
      if x.verTries < 3 then s1.updPort port (fun x => { x with verSend := true })
      else (s1.stat port 52 1).setPreempt port 3
    else s1)

/-- A respond mPacket makes preemption active (R315). -/
def execRespondReceive (dt port : Nat) (s : State) : Host.Outcome State Fault Refusal :=
  withPort port (s.advance dt) (fun s1 =>
    let x := s1.port port
    if x.link = .up ∧ x.preempt = 1 ∧ 0 < x.verTries then (s1.updPort port (fun x => { x with verSend := false })).setPreempt port 2 else s1)

/-- A received verify mPacket is answered with a respond (R317). -/
def execVerifyReceive (dt port : Nat) (s : State) : Host.Outcome State Fault Refusal :=
  withPort port (s.advance dt) (fun s1 =>
    if (s1.port port).link = .up ∧ s1.banks.active.preemptEn port then s1.emit (.frame port .respond []) else s1)

/-! ### Receiving (R310, R313) -/

/-- Capacity of a port's ingress FIFO (R313). -/
def fifoBytes (p : Nat) : Nat := if isQ p then 65536 else 16384

/-- What is noted of a frame when its SFD arrives at a port (R313; 03_time_base_and_stamps.md R58, R65): room in the FIFO, the
ingress stamp with the steps made and the epoch it falls in, the instant on the RAW scale. -/
def State.arrival (s : State) (p : Nat) (stamp : Int) (raw : Nat) : Asm :=
  { room := decide ((s.port p).fifo + 64 ≤ fifoBytes p), stamp := Time96.ofUnits stamp, steps := s.time.stepSum, epoch := s.time.stepEpoch, raw := raw }

/-- A port ingress-stamp record of the capture ring (08_cues.md R234, R236), of every frame received while the source's gate is
open by the frame's stamp: up to 20 M records per second. -/
def State.captureFrame (p : Nat) (f : Frame) (a : Asm) (s : State) : State :=
  if !s.captureOpen (16 + p) (a.stamp.units - a.steps) then s
  else
    let soon := (Tbl.get? s.cap.portRate p).elim false (fun t => decide (s.rawNow < t + 50 * 65536))
    let (ok, s1) := if soon then (false, s) else
      s.captureRecord [ft a.stamp, (16, f.len), (8, p), (8, a.epoch), (16, f.etherType), rz 96, (8, 3), rz 8]
    if ok then { s1 with cap := { s1.cap with portRate := Tbl.put s1.cap.portRate p s.rawNow } }
    else
      let n := inc48 s1.cap.lostPorts 1
      ({ s1 with cap := { s1.cap with lostPorts := n } }).counterHalf s1.cap.lostPorts n 0x0A04 0 304

/-- RS-FEC codewords corrected and lost while a frame arrived are counted (R332). -/
def State.countFec (p : Nat) (f : Frame) (s : State) : State :=
  let m := s.banks.active.mode p
  if m = 3 ∨ m = 6 then
    let s1 := if f.fecFixed = 0 then s else s.stat p 50 f.fecFixed
    if f.fecLost = 0 then s1 else s1.stat p 51 f.fecLost
  else s

/-- A frame received on a port is judged by FIFO room at its SFD, size and FCS (R310, R313, R318; a domain frame on an edge
port, 07_timing_domain.md R185). `a` is what was noted at its SFD; its last `left` bytes arrive at the line rate from now. MAC
control and domain frames never reach the fabric. A port's capture source records every frame received; the stamp of one that
finds no room in the FIFO is never issued (02_self_timed_operation.md R38). -/
def State.receive (p : Nat) (a : Asm) (f : Frame) (left : Nat) (s00 : State) : State :=
  let s := s00.countFec p f
  let b := s.banks.active
  let m := b.effMax p f.tagged
  let good := f.fcsOk && !f.pcsErr
  let entry : FifoEnt := { frame := f, stamp := a.stamp, steps := a.steps, epoch := a.epoch, raw := a.raw, endsAt := s.rawNow + s.wire p left }
  let store := fun (t : State) (e : FifoEnt) =>
    if f.isControl ∨ f.isDomain then t
    else t.updPort p (fun x => { x with inFifo := x.inFifo ++ [e], fifo := x.fifo + e.frame.len })
  if !a.room then s.stat p 19 1
  else
    let s0 := s.captureFrame p f a
    if f.len < 64 then s0.stat p (if good then 13 else 14) 1
    else if m < f.len then
      let s1 := s0.stat p 15 1
      store (if f.fcsOk then s1 else s1.stat p 16 1) { entry with frame := { f with len := m }, marked := true }
    else if !good then store (s0.stat p (if f.pcsErr then 18 else 17) 1) { entry with marked := true }
    else
      let s1 := s0.countRx p f
      if f.isControl then s1.macControl p f entry.endsAt
      else if f.isDomain then (if b.trunk p then s1 else s1.trunkCount p 3)
      else store s1 entry

/-- A valid PAUSE loads, reloads or stops the pause timer (R319, R320); a MAC control frame that R310 does not accept, or that
finds the port not `UP`, is only counted (R305, R318). -/
def execPauseReceive (dt port : Nat) (f : Frame) (s : State) : Host.Outcome State Fault Refusal :=
  withPort port (s.advance dt) (fun s1 =>
    if !f.isControl then s1
    else match (s1.port port).link with
      | .disabled => s1
      | .up =>
        s1.receive port (s1.arrival port (s1.rxStamp port 0 0 - s1.wire port f.len) (s1.rawNow - s1.wire port f.len)) f 0
      | _ => s1.stat port 53 1)

/-- An assembly in progress is discarded (R317). -/
def State.dropAssembly (p : Nat) (s : State) : State := (s.stat p 24 1).updPort p (fun x => { x with asm := none })

/-- A frame's SFD arrives at a port, and the frame is accepted, dropped or marked by size, FCS and FIFO room (R305, R310, R313).
One that begins with a preemption SMD, sent whole, ends an assembly in progress (R317). -/
def execFrameReceive (dt port phase lane : Nat) (f : Frame) (s : State) : Host.Outcome State Fault Refusal :=
  withPort port (s.advance dt) (fun s1 =>
    match (s1.port port).link with
    | .disabled => s1
    | .up =>
      if f.smd ∧ !s1.banks.active.preemptEn port then s1.stat port 24 1
      else
        let s2 := if f.smd ∧ (s1.port port).asm.isSome then s1.dropAssembly port else s1
        s2.receive port (s2.arrival port (s2.rxStamp port phase lane) (s2.rawNow + phase)) f f.len
    | _ => s1.stat port 53 1)

/-- A preemption fragment is reassembled, or the assembly is discarded (R317). `start` marks a first fragment, `last` the
final one, with the frame it completes; `mcrc` says whether a fragment's mCRC, or the final FCS field, arrived intact. -/
def State.fragment (p phase lane bytes count : Nat) (start mcrc : Bool) (last : Option Frame) (s : State) : State :=
  let x := s.port p
  if !s.banks.active.preemptEn p ∧ !x.draining then s.stat p 24 1
  else
    let s0 := if start ∧ x.asm.isSome then s.dropAssembly p else s
    let a : Option Asm := if start then some (s.arrival p (s.rxStamp p phase lane) (s.rawNow + phase)) else x.asm
    match a with
    | none => s0
    | some a =>
      if bytes < 64 ∨ (!mcrc ∧ last.isNone) ∨ (!start ∧ count ≠ a.next) then s0.dropAssembly p
      else
        let s1 := if mcrc ∧ last.elim true (·.fcsOk) then s0.stat p 25 1 else s0
        match last with
        | some f => (s1.updPort p (fun x => { x with asm := none })).receive p a { f with smd := true, fcsOk := f.fcsOk && mcrc } bytes
        | none =>
          s1.updPort p (fun x => { x with asm := some { a with next := if start then 0 else (a.next + 1) % 4, bytes := a.bytes + bytes } })

def execFragmentReceive (dt port phase lane bytes count : Nat) (start mcrc : Bool) (last : Option Frame) (s : State) :
    Host.Outcome State Fault Refusal :=
  withPort port (s.advance dt) (fun s1 =>
    match (s1.port port).link with
    | .disabled => if (s1.port port).draining ∧ !start then s1.fragment port phase lane bytes count start mcrc last else s1
    | .up => s1.fragment port phase lane bytes count start mcrc last
    | _ => if start then s1.stat port 53 1 else s1)

/-! ### Commands of group 0x03 -/

/-- Is a `PORT_CONFIG_SET` request in range (R330). -/
def portItemOk (q : Req) : Bool :=
  let p := q.f 0 8
  let inv := fun (lo : Nat) => isQ p || decide (q.f lo 4 ≤ 1)
  decide (p < portCount) && modeAllowed p (q.f 8 8) && within 1518 9216 (q.f 32 14)
    && (q.f 48 14 == 0 || within 64 (q.f 32 14 + 4) (q.f 48 14)) && decide (q.f 64 16 ≤ 1000) && within 1 128 (q.f 80 8)
    && decide (1 ≤ q.f 96 16) && decide (q.f 112 8 ≤ (if isQ p then 128 else 32)) && decide (q.f 120 8 < q.f 112 8)
    && (!q.b 19 || q.b 18) && inv 128 && inv 132

/-- `PORT_CONFIG_SET` (R330), staged. -/
def cmdPortConfigSet : Command where
  opcode := 0x0301
  layout _ := { size := 136, fields := [(0, 22), (32, 14), (48, 14), (64, 24), (96, 40)] }
  range q _ := portItemOk q
  objs q := stageObjs 0x0301 (q.f 0 8)
  run q s := stage (fun b => { b with port := Tbl.put b.port (q.f 0 8) q.body }) s

def execPortConfigSet (q : Req) (s : State) : Host.Outcome State Fault Refusal := runCommand cmdPortConfigSet q s

/-- A request that names one port. -/
def portLayout : Layout := { size := 32, fields := [(0, 8)] }

/-- `PORT_CONFIG_GET` (R330). -/
def cmdPortConfigGet : Command where
  opcode := 0x0302
  layout _ := portLayout
  range q _ := decide (q.f 0 8 < portCount)
  run q s := .done stOk [(136, s.banks.active.portWord (q.f 0 8))] s

def execPortConfigGet (q : Req) (s : State) : Host.Outcome State Fault Refusal := runCommand cmdPortConfigGet q s

/-- `PORT_STATUS` (R331). -/
def cmdPortStatus : Command where
  opcode := 0x0303
  layout _ := portLayout
  range q _ := decide (q.f 0 8 < portCount)
  objs q := [.port (q.f 0 8)]
  run q s :=
    let p := q.f 0 8
    let x := s.port p
    let left := if s.paused p then ((x.pauseUntil.getD 0 - s.rawNow) * s.rate p + 64 * 8000 * 65536 - 1) / (64 * 8000 * 65536) else 0
    let hold := if x.link = .hold then (x.holdDue - s.time.tick + tickMs - 1) / tickMs else 0
    .done stOk ([(8, p), (2, linkCode x.link), fb x.blockLock, fb x.amLock, fb x.fecLock, fb x.hiBer, fb x.localFault, fb x.remoteFault,
      (3, x.preempt), fb (s.paused p), fb (x.pauseSending && decide (s.banks.active.pauseLo p * 512 < x.fifo)), rz 11, (16, left), (16, hold), (32, x.fifo), rz 32, ft x.lastChange]
      ++ x.skew.map (fun k => fi 32 k)) s

def execPortStatus (q : Req) (s : State) : Host.Outcome State Fault Refusal := runCommand cmdPortStatus q s

/-- `PORT_STATS` (R332). -/
def cmdPortStats : Command where
  opcode := 0x0304
  layout _ := portLayout
  range q _ := decide (q.f 0 8 < portCount)
  objs q := [.port (q.f 0 8)]
  run q s := .done stOk ((List.range 54).flatMap (fun k => [(48, Tbl.getD (s.port (q.f 0 8)).stats k 0), rz 16])) s

def execPortStats (q : Req) (s : State) : Host.Outcome State Fault Refusal := runCommand cmdPortStats q s

/-! ### Host port H (R323 to R326, R333, R334) -/

/-- Ring `k`: 0 to 3 transmit, 4 to 7 receive. -/
def State.ring (s : State) (k : Nat) : Ring := Tbl.getD s.host.rings k {}
/-- The state with a ring changed. -/
def State.updRing (s : State) (k : Nat) (f : Ring → Ring) : State :=
  { s with host := { s.host with rings := Tbl.put s.host.rings k (f (s.ring k)) } }
/-- A ring's tail index, taken modulo its entries (12_command_interface.md R384). -/
def Ring.tailIdx (r : Ring) : Nat := r.tail % max 1 r.entries
/-- Advance host counter `k` (64-bit, R334). -/
def State.hostCount (k n : Nat) (s : State) : State :=
  { s with host := { s.host with counters := Tbl.upd s.host.counters k 0 (fun x => (x + n) % 2 ^ 64) } }

/-- The object of a ring (12_command_interface.md R393). -/
def ringObj (k : Nat) : Obj := if k < 4 then .txRing k else .rxRing (k - 4)

/-- `HOST_RING_SET` (R333). -/
def cmdHostRingSet : Command where
  opcode := 0x0305
  layout _ := { size := 128, fields := [(0, 4), (32, 96)] }
  range q _ := q.f 32 12 == 0 && isPow2 (q.f 96 16) && within 64 4096 (q.f 96 16)
    && (if q.b 2 then within 2 16 (q.f 112 16) else q.f 112 16 == 0)
  noInband := true
  objs q := [ringObj (q.f 0 2 + (if q.b 2 then 4 else 0))]
  run q s :=
    let k := q.f 0 2 + (if q.b 2 then 4 else 0)
    let r := s.ring k
    let same := r.base == q.f 32 64 && r.entries == q.f 96 16 && r.bufKib == q.f 112 16
    if r.enable ∧ !same then .done stNotPermitted [] s
    else if q.b 3 then
      .done stOk [] (if r.enable then s else s.updRing k (fun r => { r with
        enable := true, base := q.f 32 64, entries := q.f 96 16, bufKib := q.f 112 16, idx := 0, tail := 0 }))
    else if r.enable then .aside { obj := some (ringObj k), applied := true, arg := k } (s.updRing k (fun r => { r with enable := false, draining := true }))
    else .done stOk [] (s.updRing k (fun r => { r with base := q.f 32 64, entries := q.f 96 16, bufKib := q.f 112 16 }))

def execHostRingSet (q : Req) (s : State) : Host.Outcome State Fault Refusal := runCommand cmdHostRingSet q s

/-- Descriptors of a ring released and not started. -/
def Ring.left (r : Ring) : Nat := (r.tail + r.entries - r.idx) % max 1 r.entries

/-- A disabled host ring reports quiescent and its command responds (R326): `frames` not started are skipped. -/
def execHostRingQuiescent (dt ring frames : Nat) (s : State) : Host.Outcome State Fault Refusal :=
  let s1 := s.advance dt
  if 8 ≤ ring then .fault .noSuchUnit
  else .next (if (s1.ring ring).draining then
    let s2 := if ring < 4 then s1.hostCount 5 (min frames (s1.ring ring).left) else s1
    (s2.updRing ring (fun r => { r with draining := false, idx := r.tailIdx })).finish
      (fun w => w.opcode == 0x0305 && w.arg == ring) stOk (fun _ => [])
  else s1)

/-- `HOST_COUNTERS` (R334): read and cleared. -/
def cmdHostCounters : Command where
  opcode := 0x0306
  run _ s := .done stOk ((List.range 10).map (fun k => (64, Tbl.getD s.host.counters k 0))) { s with host := { s.host with counters := [] } }

def execHostCounters (q : Req) (s : State) : Host.Outcome State Fault Refusal := runCommand cmdHostCounters q s

/-- A frame for H is written into a posted buffer of a receive ring and its descriptor completed (R325). A marked frame is
never delivered (R311). -/
def execHostRxDeliver (dt ring : Nat) (s : State) : Host.Outcome State Fault Refusal :=
  let s1 := s.advance dt
  if 4 ≤ ring then .fault .noSuchUnit
  else .next (match s1.host.queue with
    | [] => s1
    | c :: rest =>
      if s1.rawNow < c.endsAt then s1
      else
        let r := s1.ring (4 + ring)
        let n := c.frame.len - 4
        let s2 := { s1 with host := { s1.host with queue := rest } }
        if c.marked then s2
        else if !r.enable ∨ r.idx = r.tailIdx then s2.hostCount 8 1
        else if r.bufKib * 1024 < n then s2.hostCount 9 1
        else
          let s3 := (s2.hostCount 6 1).hostCount 7 n
          let s4 := s3.emit (.record (.hostRx ring) r.idx
            [ft c.stamp, (16, n), (8, c.ingress), (8, c.stampEpoch), (12, c.vid), (4, c.cls), (4, c.reason), fb true, rz 107])
          let s5 := if c.mirror.isSome ∧ !c.body.isEmpty then s4.emit (.frame 56 .mirror c.body) else s4
          (s5.updRing (4 + ring) (fun r => { r with idx := (r.idx + 1) % max 1 r.entries })).raiseInt (8 + ring))

/-- A write to a transmit tail register releases descriptors (R323). -/
def execHportTxTailWrite (dt ring value : Nat) (s : State) : Host.Outcome State Fault Refusal :=
  if 4 ≤ ring then .fault .noSuchUnit else .next ((s.advance dt).updRing ring (fun r => { r with tail := value % 4096 }))

/-- A write to a receive tail register posts buffers (R325). -/
def execHportRxTailWrite (dt ring value : Nat) (s : State) : Host.Outcome State Fault Refusal :=
  if 4 ≤ ring then .fault .noSuchUnit else .next ((s.advance dt).updRing (4 + ring) (fun r => { r with tail := value % 4096 }))

end Machine
end Sys2Proof
end

