-- ==== Sys2Proof/Machine/Engine.lean ====
section
/-!
DEFINITION. The time-service engine's work: what it has done and what waits for it (09_time_service.md R260, R261, R294).
-/
namespace Sys2Proof.Machine

/-- Entries of the last second. -/
def lastSecond (now : Nat) (l : List (Nat × Nat)) : List (Nat × Nat) := l.filter (fun e => decide (now < e.1 + tickS))

/-- Does the engine's rate fall short (R261): pace unit 10 or 11 reports negative headroom. -/
def State.tsShort (s : State) : Bool := decide (Tbl.getD s.pace.headroom 10 0 < 0) || decide (Tbl.getD s.pace.headroom 11 0 < 0)

/-- The engine's rate, half units per second: at least 100,000,000 units/s while its headroom is not negative (R260). -/
def State.tsRate (s : State) : Nat :=
  let h := fun (k : Nat) => Tbl.getD s.pace.headroom k 0
  if s.tsShort then Config.tsSlow (h 10) (h 11) else 200000000 + Config.tsSpare (h 10) (h 11)

/-- Serve a queue from its head with an amount of work done: what is left of the two. -/
def engineServe : Nat → List (Nat × Bool) → Nat × List (Nat × Bool)
  | b, [] => (b, [])
  | b, w :: l => if w.1 * tickS ≤ b then engineServe (b - w.1 * tickS) l else (b, w :: l)

/-- Work of a class waiting for the engine: half units of each piece, and whether it is a request. -/
def State.tsWaiting (s : State) (cls : Nat) : List (Nat × Bool) := Tbl.getD s.ts.waiting cls []

/-- The queues as the engine has served them by now, in strict priority (R261; log entry 84). -/
def State.serveQueues (s : State) : State :=
  let (b0, q0) := engineServe (s.ts.credit + s.tsRate * (s.time.tick - s.ts.servedAt)) (s.tsWaiting 0)
  let (b1, q1) := if q0.isEmpty then engineServe b0 (s.tsWaiting 1) else (b0, s.tsWaiting 1)
  let (b2, q2) := if q0.isEmpty ∧ q1.isEmpty then engineServe b1 (s.tsWaiting 2) else (b1, s.tsWaiting 2)
  { s with ts := { s.ts with
      waiting := [(0, q0), (1, q1), (2, q2)], servedAt := s.time.tick
      credit := if q0.isEmpty ∧ q1.isEmpty ∧ q2.isEmpty then 0 else b2 } }

/-- Requests a class's queue holds (R261). -/
def tsQueueCap (cls : Nat) : Nat := if cls = 2 then 1024 else 4096

/-- Work of a class joins the engine's queues and its load (R260, R294), in half units. Messages that are no requests, sent or
received, are served in turn with the requests of their class but take none of their queue's places (DESIGN CHOICE, log entry
209). -/
def State.tsWork (cls halves : Nat) (request : Bool) (s : State) : State :=
  let s1 := s.serveQueues
  { s1 with ts := { s1.ts with
      waiting := Tbl.upd s1.ts.waiting cls [] (fun q => q ++ [(halves, request)])
      load := lastSecond s1.time.tick s1.ts.load ++ [(s1.time.tick, halves)] } }

/-- Does a class's queue have room for one more request (R261). -/
def State.tsRoom (s : State) (cls : Nat) : Bool := decide (((s.serveQueues.tsWaiting cls).filter (·.2)).length < tsQueueCap cls)

end Sys2Proof.Machine
end

