-- ==== Sys2Proof/Machine/Siv.lean ====
section
/-!
DEFINITION. AEAD_AES_SIV_CMAC_256: AES-128, AES-CMAC, S2V and counter mode as RFC 5297 composes them
(09_time_service.md R274, R275, R277). Blocks are lists of 16 bytes, first byte first.
-/
namespace Sys2Proof.Machine

/-- The AES S-box, 32 bytes to a word, byte 0 lowest. -/
def sboxWords : List Nat :=
  [ 0xC072A49CAFA2D4ADF04759FA7DC982CA76ABD7FE2B670130C56F6BF27B777C63,
    0x75B227EBE28012079A059618C323C7041531D871F1E5A534CCF73F362693FDB7,
    0xCF584C4A39BECB6A5BB1FC20ED00D153842FE329B3D63B52A05A6E1B1A2C8309,
    0xD2F3FF1021DAB6BCF5389D928F40A351A89F3C507F02F94585334D43FBAAEFD0,
    0xDB0B5EDE14B8EE4688902A22DC4F816073195D643D7EA7C41744975FEC130CCD,
    0x08AE7A65EAF4566CA94ED58D6D37C8E779E4959162ACD3C25C2406490A3A32E0,
    0x9E1DC186B95735610EF6034866B53E708A8BBD4B1F74DDE8C6B4A61C2E2578BA,
    0x16BB54B00F2D99416842E6BF0D89A18CDF2855CEE9871E9B948ED9691198F8E1 ]

/-- A byte through the S-box. -/
def sbox (x : Nat) : Nat := bits ((nth sboxWords (x / 32)).getD 0) (8 * (x % 32)) 8

/-- A byte doubled in the field of AES. -/
def xtime (x : Nat) : Nat := (2 * x) % 256 ^^^ (if 128 ≤ x then 0x1B else 0)

/-- Bytes of two lists added, as far as both go. -/
def xorBytes (a b : List Nat) : List Nat := a.zipWith (· ^^^ ·) b

/-- The next round key. -/
def nextKey (k : List Nat) (rcon : Nat) : List Nat :=
  let w := fun (i : Nat) => (k.drop (4 * i)).take 4
  let t := ((w 3).drop 1 ++ (w 3).take 1).map sbox
  let a := xorBytes (xorBytes (w 0) t) [rcon, 0, 0, 0]
  let b := xorBytes (w 1) a
  let c := xorBytes (w 2) b
  a ++ b ++ c ++ xorBytes (w 3) c

/-- `SubBytes` and `ShiftRows`. -/
def subShift (b : List Nat) : List Nat :=
  [0, 5, 10, 15, 4, 9, 14, 3, 8, 13, 2, 7, 12, 1, 6, 11].map (fun i => sbox ((nth b i).getD 0))

/-- `MixColumns`. -/
def mixColumns : List Nat → List Nat
  | a :: b :: c :: d :: l =>
    let t := a ^^^ b ^^^ c ^^^ d
    (a ^^^ t ^^^ xtime (a ^^^ b)) :: (b ^^^ t ^^^ xtime (b ^^^ c)) :: (c ^^^ t ^^^ xtime (c ^^^ d)) :: (d ^^^ t ^^^ xtime (d ^^^ a)) :: mixColumns l
  | _ => []

/-- The rounds after the first key addition, of which `n` are left; `rcon` is the round constant. -/
def aesRounds : Nat → List Nat → Nat → List Nat → List Nat
  | 0, _, _, b => b
  | n + 1, k, rcon, b =>
    let k1 := nextKey k rcon
    aesRounds n k1 (xtime rcon) (xorBytes k1 (if n = 0 then subShift b else mixColumns (subShift b)))

/-- A block under AES-128. -/
def aes128 (key b : List Nat) : List Nat := aesRounds 10 key 1 (xorBytes key b)

/-- A block doubled (RFC 5297, 2.3). -/
def dbl (b : List Nat) : List Nat :=
  let x := ofBytesBE b
  toBytesBE 16 ((2 * x) % 2 ^ 128 ^^^ (if 2 ^ 127 ≤ x then 0x87 else 0))

/-- A short block padded (RFC 5297, 2.1). -/
def padBlock (l : List Nat) : List Nat := l ++ [0x80] ++ List.replicate (15 - l.length) 0

/-- Blocks chained under a key from `x` on, of which at most `n` are left; the last one is mixed with a subkey. -/
def cmacChain (key : List Nat) : Nat → List Nat → List Nat → List Nat
  | 0, x, _ => x
  | n + 1, x, l =>
    let k1 := dbl (aes128 key (List.replicate 16 0))
    if l.length ≤ 16 then aes128 key (xorBytes x (if l.length = 16 then xorBytes l k1 else xorBytes (padBlock l) (dbl k1)))
    else cmacChain key n (aes128 key (xorBytes x (l.take 16))) (l.drop 16)

/-- AES-CMAC. -/
def cmac (key l : List Nat) : List Nat := cmacChain key (l.length / 16 + 1) (List.replicate 16 0) l

/-- S2V of associated data, nonce and plaintext (RFC 5297, 2.4). -/
def s2v (key ad nonce plain : List Nat) : List Nat :=
  let d := xorBytes (dbl (xorBytes (dbl (cmac key (List.replicate 16 0))) (cmac key ad))) (cmac key nonce)
  let n := plain.length
  cmac key (if 16 ≤ n then plain.take (n - 16) ++ xorBytes (plain.drop (n - 16)) d else xorBytes (dbl d) (padBlock plain))

/-- Key stream of `n` blocks from a counter on. -/
def ctrStream (key : List Nat) : Nat → Nat → List Nat
  | 0, _ => []
  | n + 1, q => aes128 key (toBytesBE 16 q) ++ ctrStream key n ((q + 1) % 2 ^ 128)

/-- A text under counter mode from a synthetic IV: bits 63 and 31 of the counter start clear (RFC 5297, 2.5). -/
def sivCtr (key v l : List Nat) : List Nat :=
  let q := setBits (setBits (ofBytesBE v) 63 1 0) 31 1 0
  xorBytes l (ctrStream key ((l.length + 15) / 16) q)

/-- A plaintext sealed under a 256-bit key with associated data and a nonce: the synthetic IV, then the ciphertext. -/
def sivSeal (key : Nat) (ad nonce plain : List Nat) : List Nat :=
  let k := toBytesBE 32 key
  let v := s2v (k.take 16) ad nonce plain
  v ++ sivCtr (k.drop 16) v plain

/-- A sealed text opened: its plaintext, or none where the synthetic IV does not verify. -/
def sivOpen (key : Nat) (ad nonce text : List Nat) : Option (List Nat) :=
  let k := toBytesBE 32 key
  let v := text.take 16
  let plain := sivCtr (k.drop 16) v (text.drop 16)
  if v.length = 16 ∧ s2v (k.take 16) ad nonce plain = v then some plain else none

end Sys2Proof.Machine
end

