-- ==== Sys2Proof/Machine/Switch.lean ====
section
/-!
DEFINITION. The switch core: the classification pass, VLANs, the MAC table, flow rules, multicast and snooping, live
edits, admission to queues, mirroring, and the schedulers' egress decisions with preemption and booked slots
(11_switch_core.md R336 to R379; 03_time_base_and_stamps.md R58 to R65; 10_port_macs.md R311 to R316).
-/
namespace Sys2Proof.Machine

/-! ### Counters (R378, R379) -/

/-- Advance a queue counter: 0 ENQUEUED, 1 Q_DROP, 2 ECN_MARKED, 3 X_EXCESS. -/
def State.queueCount (p k i : Nat) (s : State) : State :=
  let key := 4 * (16 * p + k) + i
  let old := Tbl.getD s.sw.qCtr key 0
  let n := inc48 old 1
  ({ s with sw := { s.sw with qCtr := Tbl.put s.sw.qCtr key n } }).counterHalf old n 0x040E (p <<< 8 + k <<< 16) (64 * i)

/-- Advance a flow counter: 0 RSV_CONFORM, 1 RSV_EXCESS, 2 RSV_SHORT. -/
def State.flowCount (f i : Nat) (s : State) : State :=
  let key := 4 * f + i
  let old := Tbl.getD s.sw.flowCtr key 0
  let n := inc48 old 1
  ({ s with sw := { s.sw with flowCtr := Tbl.put s.sw.flowCtr key n } }).counterHalf old n 0x040E (1 + f <<< 32) (64 * i)

/-- Advance a rule's RULE_HITS. -/
def State.ruleHit (r : Nat) (s : State) : State :=
  let old := Tbl.getD s.sw.ruleHits r 0
  let n := inc48 old 1
  ({ s with sw := { s.sw with ruleHits := Tbl.put s.sw.ruleHits r n } }).counterHalf old n 0x040E (2 + r <<< 32) 0

/-- Advance a switch counter: 0 LEARN_FULL, 1 LEARN_LIMIT, 2 MAC_MOVE_DENIED, 3 SNOOP_FULL, 4 UNKNOWN_DROP, 5 VLAN_DROP, 6 STATE_DROP. -/
def State.swCount (i : Nat) (s : State) : State :=
  let w := s.sw
  let old := if i = 0 then w.ctrLearnFull else if i = 1 then w.ctrLearnLimit else if i = 2 then w.ctrMoveDenied
    else if i = 3 then w.ctrSnoopFull else if i = 4 then w.ctrUnknown else if i = 5 then w.ctrVlan else w.ctrState
  let n := inc48 old 1
  let w1 := if i = 0 then { w with ctrLearnFull := n } else if i = 1 then { w with ctrLearnLimit := n } else if i = 2 then { w with ctrMoveDenied := n }
    else if i = 3 then { w with ctrSnoopFull := n } else if i = 4 then { w with ctrUnknown := n } else if i = 5 then { w with ctrVlan := n }
    else { w with ctrState := n }
  ({ s with sw := w1 }).counterHalf old n 0x040D 0 (160 + 48 * i)

/-- Mirror session `k`. -/
def State.mirror (s : State) (k : Nat) : Mirror := Tbl.getD s.sw.mirrors k {}
/-- The state with a mirror session changed. -/
def State.updMirror (s : State) (k : Nat) (f : Mirror → Mirror) : State :=
  { s with sw := { s.sw with mirrors := Tbl.put s.sw.mirrors k (f (s.mirror k)) } }

/-- Advance a session counter: 0 MIR_COPIES, 1 MIR_DROP, 2 MIR_SKIPPED, 3 MIR_SAMPLED_OUT. -/
def State.mirrorCount (k i : Nat) (s : State) : State :=
  let m := s.mirror k
  let old := if i = 0 then m.copies else if i = 1 then m.drop else if i = 2 then m.skipped else m.sampledOut
  let n := inc48 old 1
  (s.updMirror k (fun m => if i = 0 then { m with copies := n } else if i = 1 then { m with drop := n }
    else if i = 2 then { m with skipped := n } else { m with sampledOut := n })).counterHalf old n 0x040E (3 + k <<< 32) (64 * i)

/-! ### Buffer (R358, R359) -/

/-- Cells of a frame. -/
def cellsOf (n : Nat) : Nat := (n + 255) / 256

/-- Distinct frames of a list of copies: a frame is stored once (R358). -/
def distinctCells (l : List Copy) : Nat := ((l.map (fun c => (c.id, c.cells))).dedup.map (·.2)).sum

/-- Every copy that waits in a queue. -/
def State.queuedCopies (s : State) : List Copy := s.ports.flatMap (fun e => e.2.queued) ++ s.host.queue

/-- Every copy in the buffer: those that wait and those being sent, whose cells are freed when they have left (R358). -/
def State.copies (s : State) : List Copy :=
  s.queuedCopies ++ s.ports.flatMap (fun e => ((e.2.wire.filter (fun w => s.rawNow < w.finish)).map (·.copy)).toList ++ (e.2.cut.map (·.copy)).toList)

/-- Cells of the shared pool: what headroom, pools and minimums leave (R358). -/
def Bank.sharedCells (b : Bank) : Nat :=
  let mins := ((List.range portCount).flatMap (fun p => (List.range 9).map (fun k => b.minCells p k))).sum
  let rsv := ((b.rsv.filter (fun e => bit e.2 12)).map (fun e => bits e.2 96 32)).sum
  262144 - 8192 - cellsOf (b.tsPoolKib * 1024) - cellsOf rsv - mins

/-- Free shared cells. -/
def State.sharedFree (s : State) : Nat := s.banks.active.sharedCells - distinctCells (s.copies.filter (·.shared))

/-- Copies in a queue. -/
def State.queue (s : State) (p k : Nat) : List Copy := Tbl.getD (s.port p).queues k []

/-- Cells held by a list of copies. -/
def cellSum (l : List Copy) : Nat := (l.map (·.cells)).sum

/-- All that a class's queue holds, its frames of the reserved tier among them (R356). -/
def State.classQueue (s : State) (p k : Nat) : List Copy := s.queue p k ++ (s.queue p 9).filter (fun c => c.cls == k)

/-- The admission rule (R359): into the queue's minimum (some false), the shared pool (some true), or not. -/
def State.admission (s : State) (p k cells : Nat) : Option Bool :=
  let b := s.banks.active
  let q := s.classQueue p k
  let own := cellSum (q.filter (fun c => !c.shared && !c.pool && !c.rsvPool))
  let sh := cellSum (q.filter (·.shared))
  let a := b.alphaCode p k
  let below := if a < 0 then decide (sh * 2 ^ a.natAbs < s.sharedFree) else decide (sh < s.sharedFree * 2 ^ a.toNat)
  if own + cells ≤ b.minCells p k then some false
  else if below ∧ cellSum q < b.maxCells p k then some true
  else none

/-- Peak use of cells (R378). -/
def State.notePeak (s : State) : State := { s with sw := { s.sw with peak := max s.sw.peak (distinctCells s.copies) } }

/-- Cells of the reserved pool (R358). -/
def Bank.reservedPool (b : Bank) : Nat := cellsOf ((b.rsv.filter (fun e => bit e.2 12)).map (fun e => bits e.2 96 32)).sum

/-- A copy in the part of the buffer that takes it: a conforming reserved frame in the reserved pool while that has room, any
other by the admission rule of its class's queue (R358, R359; log entry 206). -/
def State.place (s : State) (p : Nat) (c : Copy) : Option Copy :=
  if c.reserved ∧ distinctCells (s.copies.filter (·.rsvPool)) + c.cells ≤ s.banks.active.reservedPool then some { c with rsvPool := true }
  else (s.admission p c.cls c.cells).map (fun shared => { c with shared := shared })

/-- Is a copy marked CE as it is admitted (R360). -/
def State.marksCe (s : State) (p : Nat) (c : Copy) : Bool :=
  let deep := s.banks.active.ecnCells p c.cls
  decide (0 < deep) && decide (deep < cellSum (s.classQueue p c.cls)) && (c.frame.ecn == 1 || c.frame.ecn == 2)
    && (c.frame.ipv6 || c.frame.etherType == 0x0800)

/-- Admit a copy to its queue, or drop it whole (R359, R360). -/
def State.enqueue (p : Nat) (c : Copy) (s : State) : Bool × State :=
  match s.place p c with
  | none => (false, if c.mirror.isNone then s.queueCount p c.cls 1 else s)
  | some c1 =>
    let ce := s.marksCe p c
    let s1 := (s.updPort p (fun x => { x with queues := Tbl.upd x.queues c.queue [] (fun q => q ++ [{ c1 with ecnCe := ce }]) })).queueCount p c.cls 0
    (true, (if ce then s1.queueCount p c.cls 2 else s1).notePeak)

/-- Admit a copy for H, with its reason (R325). Its queues are one per class and take shared cells as a queue of factory
settings does; one dropped there has no counter of its own (R359; DESIGN CHOICE, log entry 207). -/
def State.toHost (c : Copy) (reason : Nat) (s : State) : Bool × State :=
  let held := cellSum (s.host.queue.filter (fun d => d.cls == c.cls))
  if held < s.sharedFree ∧ held < 65536 then
    (true, ({ s with host := { s.host with queue := s.host.queue ++ [{ c with reason := reason, shared := true }] } }).notePeak)
  else (false, s)

/-! ### Token buckets -/

/-- What a bucket has had taken from it, after refill at `rate` kb/s since its last refill, in 1/2,000,000 byte. -/
def refilled (b : Nat × Nat) (rate now : Nat) : Nat := b.1 - rate * (now - b.2)

/-- Take `n` bytes from a bucket of `depth` bytes if it holds them. -/
def takeBucket (b : Nat × Nat) (rate depth n now : Nat) : Bool × (Nat × Nat) :=
  let used := refilled b rate now
  if used + n * 2000000 ≤ depth * 2000000 then (true, (used + n * 2000000, now)) else (false, (used, now))

/-! ### Latency terms (R350, R357) -/

/-- Clocked ingress and egress halves of a mode, ns (R350). -/
def halves (mode : Nat) : Nat × Nat :=
  if mode = 1 then (109, 109) else if mode = 2 then (48, 48) else if mode = 3 then (308, 88) else if mode = 4 then (52, 52)
  else if mode = 5 then (31, 31) else if mode = 6 then (161, 51) else (0, 0)

/-- Worst-corner latency L of a port pair, ns. -/
def Bank.latency (b : Bank) (inP outP : Nat) : Nat := (halves (b.mode inP)).1 + (halves (b.mode outP)).2 + 144

/-- I of R355 in bytes. -/
def State.interference (s : State) (p : Nat) : Nat :=
  let b := s.banks.active
  if s.preemptActive p then max 139 (b.effExpress p + 20) else b.maxFrame p + 4 + 20

/-- RAW instant by which a conforming frame leaves (R357): D_r after its first bit following the SFD crossed the ingress lands, at
the RAW instant `raw`. While its class gate is closed a waiting
copy holds what is left of D_r instead. -/
def State.reservedDue (s : State) (inP p n raw : Nat) (saf : Bool) : Nat :=
  let b := s.banks.active
  let bursts := ((b.rsv.filter (fun e => bit e.2 12 && bits e.2 32 8 == p)).map (fun e => bits e.2 96 32)).sum
  raw + b.latency inP p * 65536 + s.wire p (b.xBurst p) + s.wire p bursts + s.wire p (s.interference p)
    + (if saf then (wireTime (b.rate inP) (n - 64)).toNat else 0)

/-! ### Guard bands (01_architecture.md R21, R22) -/

def Row.length (r : Row) : Nat := bits r.req 64 16

/-- Armed frame cues of a port. -/
def State.frameCues (s : State) (p : Nat) : List (Nat × Row) :=
  s.cue.rows.filter (fun e => !e.2.template && !e.2.equinox && e.2.kind == 1 && e.2.target == p)

/-- RAW instant of a cue frame's preamble start P (01_architecture.md R21). -/
def State.cueStart (s : State) (p : Nat) (r : Row) : Int := s.rawAt r.inst - s.wire p 8

/-- Guard-band length G, RAW units: rounded up to a whole multiple of 4 ns (01_architecture.md R22, 08_cues.md R230). -/
def State.guardLength (s : State) (p : Nat) : Nat :=
  let b := s.banks.active
  let n := if s.preemptActive p then b.effExpress p + 20 + 139 else b.maxFrame p + 4 + 20
  (s.wire p n + 262143) / 262144 * 262144

/-- Is the guard band of an armed cue frame open on a port (01_architecture.md R21). -/
def State.inGuard (s : State) (p : Nat) : Bool :=
  (s.frameCues p).any (fun e => decide (s.cueStart p e.2 - s.guardLength p ≤ (s.rawNow : Int)))

/-! ### Mirroring (R361 to R363) -/

def Mirror.on (m : Mirror) : Bool := bit m.cfg 2 && !m.draining
def Mirror.dest (m : Mirror) : Nat := bits m.cfg 8 8
def Mirror.destClass (m : Mirror) : Nat := bits m.cfg 16 3
def Mirror.trunc (m : Mirror) : Nat := bits m.cfg 144 16
def Mirror.sampleN (m : Mirror) : Nat := max 1 (bits m.cfg 160 24)

/-- Length of a mirror copy of a frame of `n` bytes (R362). -/
def Mirror.length (m : Mirror) (n : Nat) : Nat :=
  let extra := if bit m.cfg 3 then 16 else 0
  if m.trunc = 0 ∨ n ≤ m.trunc then n + extra else m.trunc + extra + 4

/-- The trailer of a session's copy, in wire order (R362). -/
def Mirror.trailer (m : Mirror) (k : Nat) (c : Copy) (egress : Bool) : Fields :=
  [(48, c.stamp.sec), (32, c.stamp.ns), (16, c.stamp.sub), (8, c.ingress), (8, c.stampEpoch),
    (8, Fields.pack [fb (m.trunc != 0 && decide (m.trunc < c.frame.len)), fb c.marked, fb egress]), (8, k)]

/-- A session considers a frame, as received or as transmitted (R361, R363): it skips, passes over, or copies it to its
destination port or H. The copy refers to the frame as stored (R358). -/
def State.mirrorFrame (k : Nat) (c : Copy) (egress : Bool) (s : State) : State :=
  let m := s.mirror k
  if !m.on then s
  else if c.marked ∧ m.trunc = 0 then s.mirrorCount k 2
  else
    let (v, s1) := if bit m.cfg 4 then s.entropy 24 else (0, s)
    let take := if bit m.cfg 4 then v % m.sampleN == 0 else decide (m.sampleN ≤ m.phase + 1)
    let s2 := s1.updMirror k (fun m => { m with phase := if take then 0 else m.phase + 1 })
    if !take then s2.mirrorCount k 3
    else
      let n := m.length c.frame.len
      let c1 := { c with
        frame := { c.frame with len := n }, cls := m.destClass, mirror := some k, booked := false, stampReq := false, reserved := false
        flow := none, reason := 3, marked := false, ts := false, what := 0, pool := false, rsvPool := false, shared := false, ecnCe := false
        lost := 0, body := if bit m.cfg 3 then m.trailer k c egress else [] }
      let (ok, s3) := if m.dest = 56 then s2.toHost c1 3 else s2.enqueue m.dest c1
      s3.mirrorCount k (if ok then 0 else 1)

/-! ### Tables of the pass -/

/-- Is a table entry present: not lost to an uncorrectable word and awaiting its rewrite (15_stored_data_protection.md
R506). Tables are numbered as the items of `SWITCH_CONFIG_GET`. -/
def State.present (s : State) (table index : Nat) : Bool := !s.sw.absent.any (fun a => a.2.1 == table && a.2.2 == index)

/-- Is a VLAN enabled, as the pass reads it. -/
def State.vlanOn (s : State) (v : Nat) : Bool := s.banks.active.vlanOn v && s.present 0 v

/-- Port state (R341); H has none. -/
def State.fwdState (s : State) (p : Nat) : Nat := if p = 56 then 0 else Tbl.getD s.sw.portState p 0

/-- VLAN of a frame (R340). -/
def State.vlanOf (s : State) (p : Nat) (f : Frame) : Nat := if f.tagged ∧ f.vid ≠ 0 then f.vid else s.banks.active.pvid p

/-- Is a frame accepted in its VLAN (R340). -/
def State.vlanAccepts (s : State) (p v : Nat) (f : Frame) : Bool :=
  let b := s.banks.active
  let named := f.tagged && f.vid != 0
  v != 4095 && (b.accept p != 1 || named) && (b.accept p != 2 || !named) && s.vlanOn v && (!b.ingressFilter p || bit (b.members v) p)

/-- Is a frame IP. -/
def isIp (f : Frame) : Bool := f.ipv6 || f.etherType == 0x0800

/-- A field whose last byte is byte `last` of the frame, as the classifier parses it: 0 beyond the first 128 bytes (R338). -/
def parsedField (last v : Nat) : Nat := if last < 128 then v else 0

/-- A frame as the classifier parses it: at most its first 128 bytes and two IPv6 extension headers; a key field beyond these
limits reads as 0 (R338). -/
def parsedFrame (f : Frame) : Frame :=
  let ip := f.l3At
  let past := decide (2 < f.exts)
  let upper := fun (last v : Nat) => if past then 0 else parsedField last v
  { f with
    etherType := parsedField (ip - 1) f.etherType, ipv6 := f.ipv6 && decide (ip ≤ 128)
    dscp := parsedField (ip + 1) f.dscp, ipProto := upper f.protoAt f.ipProto
    ipSrc := parsedField (ip + (if f.ipv6 then 23 else 15)) f.ipSrc, ipDst := parsedField (ip + (if f.ipv6 then 39 else 19)) f.ipDst
    l4Src := upper (f.l4At + 1) f.l4Src, l4Dst := upper (f.l4At + 3) f.l4Dst, icmpType := upper f.l4At f.icmpType
    target := upper (if f.ipv6 then f.l4At + 23 else ip + 27) f.target }

/-- The key a flow rule is matched on (R372): addresses of IP frames only, and ports of TCP and UDP only. -/
def flowKey (p v : Nat) (f : Frame) : Nat :=
  let ip := fun (x : Nat) => if isIp f then x else 0
  let l4 := fun (x : Nat) => if isIp f ∧ (f.ipProto = 6 ∨ f.ipProto = 17) then x else 0
  Fields.pack [(8, p), (12, v), (3, if f.tagged then f.pcp else 0), fb f.ipv6, (16, f.etherType), (48, f.dst), (48, f.src), (8, ip f.ipProto),
    (6, ip f.dscp), rz 2, (16, l4 f.l4Src), (16, l4 f.l4Dst), (128, ip f.ipSrc), (128, ip f.ipDst)]

/-- The lowest-indexed enabled rule that matches a key (R344). -/
def State.matchRule (s : State) (key : Nat) : Option (Nat × Nat) :=
  s.banks.active.rule.find? (fun e =>
    bit e.2 14 && s.present 3 e.1 && (key &&& bits e.2 544 512) == (bits e.2 32 512 &&& bits e.2 544 512))

/-- Where a frame goes: a mask of ports with bit 56 for H, or dropped as unknown. -/
inductive Dest where
  | to (mask : Nat)
  | drop
  | unknown
deriving DecidableEq, Repr

/-- Router ports of a VLAN (R346): the static mask and ports on which a query arrived within 260 s. -/
def State.routerMask (s : State) (v : Nat) : Nat :=
  s.banks.active.routerPorts v ||| maskOf ((s.sw.routers.filter (fun r => r.1 == v && decide (s.time.tick < r.2.2))).map (·.2.1))

/-- The group entry of a key: a static one first, then a snooped one (R345): ports with bit 56 for H. -/
def State.groupOf (s : State) (v : Nat) (ip ipv6 : Bool) (group : Nat) : Option Nat :=
  match s.banks.active.group.find? (fun e =>
    bit e.2 15 && s.present 4 e.1 && bits e.2 16 12 == v && bit e.2 28 == ip && (!ip || bit e.2 29 == ipv6)
      && bits e.2 32 (if !ip then 48 else if ipv6 then 128 else 32) == group) with
  | some e => some (bits e.2 160 57)
  | none =>
    if ip then (s.sw.groups.find? (fun g => g.vlan == v && g.ipv6 == ipv6 && g.group == group)).map (fun g => maskOf (g.ports.map (·.1))) else none

/-- Is an IP group in 224.0.0.0/24 or FF02::/16 (R345). -/
def localGroup (f : Frame) : Bool := if f.ipv6 then f.ipDst >>> 112 == 0xFF02 else f.ipDst >>> 8 == 0xE00000

/-- Destination by lookup (R342, R345, R346). -/
def State.lookup (s : State) (v : Nat) (f : Frame) : Dest :=
  let b := s.banks.active
  let members := b.members v
  if f.dst = broadcastMac then .to members
  else if macKind f.dst = 1 then
    if b.snoopEn v ∧ (f.snoop = 2 ∨ f.snoop = 3) then .to (s.routerMask v)
    else if b.snoopEn v ∧ f.snoop = 1 then .to members
    else if isIp f ∧ localGroup f then .to members
    else
      match (if isIp f then s.groupOf v true f.ipv6 f.ipDst else none) with
      | some m => .to m
      | none =>
        match s.groupOf v false false f.dst with
        | some m => .to m
        | none => .to (if b.floodMc v then members else s.routerMask v)
  else
    match (if s.present 2 (macKey v f.dst) then Tbl.get? b.mac (macKey v f.dst) else none) with
    | some w => if bit w 13 then .drop else .to (2 ^ bits w 64 8)
    | none =>
      match s.sw.macs.find? (fun e => e.vlan == v && e.mac == f.dst) with
      | some e => .to (2 ^ e.port)
      | none => if b.floodUc v then .to members else .unknown

/-! ### Claimed frames (R339) -/

/-- The service address a frame is addressed to (09_time_service.md R258): its destination MAC and VLAN are an enabled entry's. -/
def State.addressedTo (s : State) (v : Nat) (f : Frame) : Option Nat :=
  (List.range 16).find? (fun i =>
    let w := s.banks.active.addrWord i
    bit w 4 && bits w 32 48 == f.dst && (if bits w 8 12 = 0 then !(f.tagged && f.vid != 0) else bits w 8 12 == v))

/-- The service address a frame from a port in `service_ports` is addressed to (09_time_service.md R258). -/
def State.serviceAddr (s : State) (p v : Nat) (f : Frame) : Option Nat := if bit s.banks.active.servicePorts p then s.addressedTo v f else none

/-- Is a frame a PTP message. -/
def isPtp (f : Frame) : Bool := f.etherType == 0x88F7 || (f.ipProto == 17 && (f.l4Dst == 319 || f.l4Dst == 320))

/-- A service address has the frame's IP destination. -/
def State.addrMatches (s : State) (i : Nat) (f : Frame) : Bool :=
  let w := s.banks.active.addrWord i
  bit w 5 == f.ipv6 && bits w 96 128 == f.ipDst

/-- Is a frame an ARP request (opcode 1) or a Neighbor Solicitation for a service address. -/
def State.asksAddress (s : State) (p v : Nat) (f : Frame) : Bool :=
  ((f.etherType == 0x0806 && f.opcode == 1) || (f.ipv6 && f.ipProto == 58 && f.icmpType == 135)) && (List.range 16).any (fun i =>
    let w := s.banks.active.addrWord i
    bit w 4 && bit s.banks.active.servicePorts p && bits w 96 128 == f.target && bit w 5 == f.ipv6
      && (if bits w 8 12 = 0 then !(f.tagged && f.vid != 0) else bits w 8 12 == v))

/-- Is a port's domainNumber list of transparent clocking (09_time_service.md R285) one that names a frame's. -/
def Bank.tcDomain (b : Bank) (p : Nat) (f : Frame) : Bool :=
  (List.range 4).any (fun k => bits (b.ptpWord p) (144 + 8 * k) 8 == f.ptpDomain && f.ptpDomain != 0xFF)

/-- Does a transparent-clock port forward a PTP message (09_time_service.md R285): one of its domain numbers, and on a `TC_P2P`
port none of the peer-delay messages, which the port itself answers. Every other PTP message on it is claimed (R339; DEDUCED,
log entry 61). -/
def Bank.tcForwards (b : Bank) (p : Nat) (f : Frame) : Bool :=
  (b.ptpRole p == 3 || b.ptpRole p == 4) && b.tcDomain p f
    && !(b.ptpRole p == 4 && (f.ptpMsg == 2 || f.ptpMsg == 3 || f.ptpMsg == 10))

/-- Is a frame claimed by the time service or PTP, and never switched (R339, 09_time_service.md R258, R278). -/
def State.claimed (s : State) (p v : Nat) (f : Frame) : Bool :=
  let b := s.banks.active
  let ntp := (s.serviceAddr p v f).elim false (fun i => s.addrMatches i f && f.ipProto == 17 && f.l4Dst == 123)
  p != 56 && (ntp || s.asksAddress p v f || (isPtp f && b.ptpRole p != 0 && !b.tcForwards p f)
    || (b.trunk p && f.etherType == 0x88F7 && f.dst == 0x0180C200000E))

/-! ### The pass (R338) -/

/-- A copy of a frame for an egress queue. -/
def mkCopy (s : State) (inP v : Nat) (e : FifoEnt) : Copy :=
  { id := s.sw.nextId, frame := e.frame, ingress := inP, vid := v, epoch := s.banks.epoch, endsAt := e.endsAt, marked := e.marked
    raw := e.raw, stamp := e.stamp, stampSteps := e.steps, stampEpoch := e.epoch, cells := cellsOf e.frame.len }

/-- The bank a copy was classified in: the retained one for an old-epoch copy (13_configuration_banks.md R438). -/
def State.bankOf (s : State) (epoch : Nat) : Bank :=
  if epoch ≠ s.banks.epoch ∧ s.banks.state = .retained then s.banks.shadow else s.banks.active

/-- Does a copy carry a tag as it leaves a port: by the VLAN's untagged mask, or as it is (R340). -/
def State.egressTagged (s : State) (p : Nat) (c : Copy) : Bool :=
  if c.untouched ∨ c.stampReq ∨ c.ts ∨ c.mirror.isSome then c.frame.tagged else !bit ((s.bankOf c.epoch).untagged c.vid) p

/-- The VID and PCP of the tag a copy leaves a port with, if it leaves with one (R340). The PCP of a frame received untagged is
its ingress port's `default_pcp` (DEDUCED, log entry 208). -/
def State.egressTag (s : State) (p : Nat) (c : Copy) : Option (Nat × Nat) :=
  if !s.egressTagged p c then none
  else if c.untouched ∨ c.stampReq ∨ c.ts ∨ c.mirror.isSome then some (c.frame.vid, c.frame.pcp)
  else some (c.vid, if c.frame.tagged then c.frame.pcp else (s.bankOf c.epoch).defaultPcp c.ingress)

/-- An IPv4 header checksum after the ECN field has become CE: its ones' complement sum takes the difference in (R360, RFC 3168). -/
def ceChecksum (old ecn : Nat) : Nat :=
  let sum := (0xFFFF - old) + (3 - ecn)
  0xFFFF - (sum % 65536 + sum / 65536)

/-- The frame of a copy as it leaves a port, `n` bytes long, with tag and CE changes (R340, R360, R361). -/
def State.egressFrame (s : State) (p n : Nat) (c : Copy) : Frame :=
  let f := { c.frame with len := n, tagged := s.egressTagged p c, vid := (s.egressTag p c).elim 0 (·.1), pcp := (s.egressTag p c).elim 0 (·.2) }
  if c.ecnCe then { f with ecn := 3, ipCsum := if f.ipv6 then 0 else ceChecksum f.ipCsum f.ecn } else f

/-- Bytes of a copy as it leaves a port (R340). -/
def State.egressLen (s : State) (p : Nat) (c : Copy) : Nat :=
  c.frame.len - (if c.frame.tagged then 4 else 0) + (if s.egressTagged p c then 4 else 0)

/-- The class an express frame really takes (10_port_macs.md R314): a long one moves to class 7. -/
def State.expressClass (p n : Nat) (s : State) : Nat × State :=
  if s.banks.active.effExpress p < n then (7, s.stat p 45 1) else (8, s)

/-- Does a port write a PTP event message's correctionField as a transparent clock (09_time_service.md R285). -/
def Bank.tcPort (b : Bank) (p : Nat) (f : Frame) : Bool :=
  b.ptpEn && (b.ptpRole p == 3 || b.ptpRole p == 4) && f.ptpEvent && b.tcDomain p f

/-- One egress copy: class, reservation, admission (R352, R356, R359). A frame bound for the express queue is judged by its
length as it leaves (10_port_macs.md R314). -/
def State.egressCopy (c : Copy) (cls : Nat) (flow : Option Nat) (p : Nat) (s : State) : State :=
  let b := s.banks.active
  let n := c.frame.len
  let c1 := { c with booked := b.tcPort p c.frame && !c.stampReq && !c.frame.onTheFly }
  let count := fun (r : Bool × State) =>
    if r.1 ∧ c1.booked ∧ c.frame.fieldFar then
      let m := inc48 (r.2.port p).stBooked 1
      (r.2.updPort p (fun x => { x with stBooked := m })).counterHalf (r.2.port p).stBooked m 0x050A p 0
    else r.2
  let plain := fun (t : State) =>
    let (k, t1) := if cls = 8 then t.expressClass p (t.egressLen p c1) else (cls, t)
    count (t1.enqueue p { c1 with cls := k })
  match flow with
  | some fl =>
    if b.rsvOn fl ∧ b.rsvPort fl = p ∧ s.present 6 fl then
      let (ok, bk) := takeBucket (Tbl.getD s.sw.rsvBucket fl (0, 0)) (b.rsvKbps fl) (b.rsvBurst fl) (n + 20) s.time.tick
      let s1 := { s with sw := { s.sw with rsvBucket := Tbl.put s.sw.rsvBucket fl bk } }
      if ok then
        let saf := !(b.cutThrough p) || s.pace.safForced || decide (s.rate c.ingress < s.rate p) || c.ingress == 56
        count ((s1.flowCount fl 0).enqueue p { c1 with
          cls := b.rsvClass fl, reserved := true, flow := some fl
          excused := s.paused p || s.inGuard p || (s.port p).link != .up
          due := s.reservedDue c.ingress p n c.raw saf - (if bit (Tbl.getD s.cue.closedGates p 0) (b.rsvClass fl) then s.rawNow else 0) })
      else count ((s1.flowCount fl 1).enqueue p { c1 with cls := b.rsvClass fl, flow := some fl })
    else plain s
  | none => plain s

/-- Sessions that mirror a frame as received: by ingress mask, or named by its rule (R361). -/
def State.ingressMirrors (s : State) (p named : Nat) : List Nat :=
  (List.range 4).filter (fun k => bit (bits (s.mirror k).cfg 32 56) p || bit named k)

/-- Is source learning called for (R343). -/
def State.learns (s : State) (p v : Nat) (e : FifoEnt) : Bool :=
  !e.marked && macKind e.frame.src == 0 && decide (s.fwdState p ≤ 1) && s.banks.active.portLearn p && s.banks.active.vlanLearn v && s.vlanOn v

/-- The classification pass of a frame from ingress port `p`, 56 = H (R338). Source learning runs beside it, whatever becomes
of the frame (DEDUCED from R338 and R343, log entry 178). -/
def State.classifyFrame (p : Nat) (e : FifoEnt) (hostStamp : Option Nat) (s : State) : State :=
  let b := s.banks.active
  let f := parsedFrame e.frame
  let v := s.vlanOf p f
  let byPcp := b.pcpClass p (if f.tagged then f.pcp else b.defaultPcp p)
  let c0 : Copy := { mkCopy s p v e with stampReq := hostStamp.isSome, cls := byPcp, frame := { e.frame with tag := hostStamp.getD f.tag } }
  let host := fun (reason : Nat) (t : State) =>
    let sessions := t.ingressMirrors p 0
    sessions.foldl (fun t k => t.mirrorFrame k { c0 with mirrors := sessions } false) (t.toHost { c0 with mirrors := sessions } reason).2
  let s0 := { s with sw := { s.sw with
    nextId := s.sw.nextId + 1, learn := if s.learns p v e then s.sw.learn ++ [(v, f.src, p, e.endsAt)] else s.sw.learn } }
  if s.claimed p v f then s0
  else if f.dst >>> 4 = 0x0180C200000 then host 0 s0
  else if !s.vlanAccepts p v f then s0.swCount 5
  else if s.fwdState p ≠ 0 then s0.swCount 6
  else if (s.addressedTo v f).isSome ∧ p ≠ 56 ∧ !isPtp f then host 1 s0
  else
    let rule := s0.matchRule (flowKey p v f)
    let w := rule.elim 0 (·.2)
    let action := if rule.isSome then bits w 1056 3 else 0
    let s2 := match rule with
      | some r => s0.ruleHit r.1
      | none => s0
    let dest : Dest := if action = 1 then .drop else if action = 2 then .to (2 ^ bits w 1080 8) else s2.lookup v f
    let mask := match dest with
      | .to m => if action = 2 then m else (setBits m p 1 0) &&& b.members v
      | _ => 0
    let s3 := if dest = .unknown then s2.swCount 4 else s2
    let cls := if rule.isSome ∧ bit w 1059 then bits w 1060 4 else byPcp
    let flow := if rule.isSome ∧ bit w 1064 then some (bits w 1065 12) else none
    let named := if rule.isSome then bits w 1088 4 else 0
    let sessions := s3.ingressMirrors p named
    let c := { c0 with mirrors := sessions, cls := cls }
    let outs := (bitList mask 56).filter (fun q => s3.fwdState q = 0)
    let s4 := outs.foldl (fun t q => t.egressCopy c cls flow q) s3
    let s5 := if bit mask 56 then (s4.toHost c 0).2 else s4
    let s6 := if action = 3 then (s5.toHost c 2).2 else s5
    sessions.foldl (fun t k => t.mirrorFrame k c false) s6

/-- A frame's first 64 bytes, once they have arrived (10_port_macs.md R313), start a classification pass that decides its
copies (R338). -/
def execClassificationPass (dt port : Nat) (s : State) : Host.Outcome State Fault Refusal :=
  withPort port (s.advance dt) (fun s1 =>
    match (s1.port port).inFifo with
    | [] => s1
    | e :: rest =>
      if s1.rawNow + s1.wire port (e.frame.len - 64) < e.endsAt then s1
      else (s1.updPort port (fun x => { x with inFifo := rest, fifo := x.fifo - e.frame.len })).classifyFrame port e none)

/-! ### Host transmit (10_port_macs.md R323, R324) -/

/-- Byte `k` of a send. -/
def txByte (d : TxSend) (k : Nat) : Nat := (nth d.bytes k).getD 0

/-- Bytes of a send from `k` on. -/
def txBytes (d : TxSend) (k n : Nat) : List Nat := (List.range n).map (fun i => txByte d (k + i))

/-- The number in `n` bytes of a send from `k` on. -/
def txField (d : TxSend) (k n : Nat) : Nat := ofBytesBE (txBytes d k n)

/-- Is the IP header of a send IPv6. -/
def txIpv6 (d : TxSend) : Bool := txByte d d.l3Off / 16 == 6

/-- The IPv6 next-header chain of a send, from header `nh` at `off` on: what stands at `l4_off`. -/
def txNext (d : TxSend) : Nat → Nat → Nat → Option Nat
  | 0, _, _ => none
  | k + 1, off, nh =>
    if off = d.l4Off then some nh
    else if nh = 0 ∨ nh = 43 ∨ nh = 60 then txNext d k (off + 8 * (txByte d (off + 1) + 1)) (txByte d off)
    else none

/-- The protocol, TCP or UDP, whose header stands at `l4_off` of a send, where the headers parse at the offsets given (R323). -/
def txProto (d : TxSend) : Option Nat :=
  let found := if txIpv6 d then txNext d 16 (d.l3Off + 40) (txByte d (d.l3Off + 6))
    else if txByte d d.l3Off / 16 = 4 ∧ 5 ≤ txByte d d.l3Off % 16 ∧ d.l4Off = d.l3Off + 4 * (txByte d d.l3Off % 16) then some (txByte d (d.l3Off + 9))
    else none
  found.filter (fun p => (p == 6 && decide (d.l4Off + 20 ≤ d.length) && decide (5 ≤ txByte d (d.l4Off + 12) / 16)) || (p == 17 && decide (d.l4Off + 8 ≤ d.length)))

/-- Bytes ahead of the TCP payload of a TSO send. -/
def txHeaders (d : TxSend) : Nat := d.l4Off + 4 * (txByte d (d.l4Off + 12) / 16)

/-- Lengths of the segments of a TSO send, headers included, without FCS (R324). -/
def segmentLengths (d : TxSend) : List Nat :=
  let n := d.length - txHeaders d
  let full := List.replicate (n / max 1 d.mss) (txHeaders d + d.mss)
  if n % max 1 d.mss = 0 then full else full ++ [txHeaders d + n % max 1 d.mss]

/-- Sum of the 16-bit words of a list of bytes, an odd last byte padded with 0. -/
def wordSum : List Nat → Nat
  | [] => 0
  | [a] => a * 256
  | a :: b :: l => a * 256 + b + wordSum l

/-- The Internet checksum of words that add up to `n`: the complement of their ones' complement sum. -/
def inetChecksum (n : Nat) : Nat := 0xFFFF - (if n = 0 then 0 else (n - 1) % 65535 + 1)

/-- A field of bytes in a list of bytes. -/
def putBytes (l : List Nat) (k n v : Nat) : List Nat := l.take k ++ toBytesBE n v ++ l.drop (k + n)

/-- The IPv4 header checksum, 0 over IPv6, and the TCP or UDP checksum of a frame from H with the headers of a send (R323, R324).
A UDP checksum that comes out 0 is sent as all ones. -/
def txChecksums (d : TxSend) (proto : Nat) (l : List Nat) : Nat × Nat :=
  let addr := if txIpv6 d then (l.drop (d.l3Off + 8)).take 32 else (l.drop (d.l3Off + 12)).take 8
  let total := if txIpv6 d then 40 + ofBytesBE ((l.drop (d.l3Off + 4)).take 2) else ofBytesBE ((l.drop (d.l3Off + 2)).take 2)
  let seg := putBytes ((l.drop d.l4Off).take (total - (d.l4Off - d.l3Off))) (if proto = 6 then 16 else 6) 2 0
  let l4 := inetChecksum (wordSum addr + proto + seg.length + wordSum seg)
  let ip := putBytes ((l.drop d.l3Off).take (d.l4Off - d.l3Off)) 10 2 0
  (if txIpv6 d then 0 else inetChecksum (wordSum ip), if proto = 17 ∧ l4 = 0 then 0xFFFF else l4)

/-- Segment `i` of `count` of a TSO send, `n` bytes long (R324): the bytes it replicates with what it changes in them, namely the
IPv4 identification and total length or the IPv6 payload length, the TCP sequence number and the TCP flags. -/
def segmentBytes (d : TxSend) (count i n : Nat) : List Nat :=
  let h := txHeaders d
  let given := txByte d (d.l4Off + 13)
  let cwr := if i = 0 then given else setBits given 7 1 0
  let flags := if i + 1 = count then cwr else setBits (setBits cwr 0 1 0) 3 1 0
  let l0 := txBytes d 0 h
  let l1 := if txIpv6 d then putBytes l0 (d.l3Off + 4) 2 (n - d.l3Off - 40)
    else putBytes (putBytes l0 (d.l3Off + 4) 2 ((txField d (d.l3Off + 4) 2 + i) % 2 ^ 16)) (d.l3Off + 2) 2 (n - d.l3Off)
  putBytes (putBytes l1 (d.l4Off + 4) 4 ((txField d (d.l4Off + 4) 4 + i * d.mss) % 2 ^ 32)) (d.l4Off + 13) 1 flags
    ++ txBytes d (h + i * d.mss) (n - h)

/-- Is a send rejected (R323, R324): a TSO send carries IPv4 or IPv6 and then TCP. The offsets are judged where they are used, for
checksums or segments (DEDUCED, log entry 181). -/
def sendRejected (d : TxSend) : Bool :=
  (!d.tso && decide (9212 < d.length)) || (d.tso && decide (262144 < d.length)) || (d.stampReq && d.tso) || decide (8 < d.tclass)
    || (decide (portCount ≤ d.egress) && d.egress != 255) || ((d.csum || d.tso) && (txProto d).isNone)
    || (d.tso && (txProto d != some 6 || decide (d.mss < 64) || (segmentLengths d).any (fun n => decide (9212 < n))))

/-- One frame from H: `n` bytes without FCS, switched, or sent straight into an egress queue. -/
def State.hostFrame (d : TxSend) (f : Frame) (n : Nat) (s : State) : State :=
  let len := n + 4 + (if d.vlanIns then 4 else 0)
  let f1 := { f with len := len, tagged := f.tagged || d.vlanIns, vid := if d.vlanIns then d.vlan else f.vid, tag := d.tag }
  let e : FifoEnt := { frame := f1, stamp := s.now, steps := s.time.stepSum, epoch := s.time.stepEpoch, raw := s.rawNow, endsAt := s.rawNow }
  let s1 := (s.hostCount 0 1).hostCount 1 len
  if d.egress = 255 then s1.classifyFrame 56 e (if d.stampReq then some d.tag else none)
  else
    let c := { mkCopy s1 56 (s1.vlanOf 56 f1) e with stampReq := d.stampReq, untouched := true }
    ({ s1 with sw := { s1.sw with nextId := s1.sw.nextId + 1 } }).egressCopy c d.tclass none d.egress

/-- The CT5600 reads one frame or send from a host transmit ring and sends, segments or rejects it (R323, R324). Rings are
served in strict priority; nothing at or beyond the tail is read. -/
def State.hostSend (r : Nat) (d : TxSend) (f : Frame) (s : State) : State :=
  let ring := s.ring r
  let left := (ring.tail + ring.entries - ring.idx) % max 1 ring.entries
  let waiting := (List.range r).any (fun k => (s.ring k).enable && (s.ring k).idx != (s.ring k).tailIdx)
  if !ring.enable ∨ left < d.descs ∨ d.descs = 0 ∨ waiting then s
  else
    let next := (ring.idx + d.descs) % max 1 ring.entries
    let s1 := ((s.updRing r (fun x => { x with idx := next })).emit (.record (.hostTx r) next [])).raiseInt (4 + r)
    if sendRejected d then s1.hostCount 4 1
    else if d.tso then
      let lens := segmentLengths d
      ((List.range lens.length).zip lens).foldl (fun t e =>
        let l := segmentBytes d lens.length e.1 e.2
        let sums := txChecksums d 6 l
        (t.emit (.frame 56 .tso ((l.take (txHeaders d)).map (fun b => (8, b)) ++ [(16, sums.1), (16, sums.2)]))).hostFrame d
          { f with ipCsum := sums.1 } e.2) ((s1.hostCount 2 1).hostCount 3 lens.length)
    else if d.csum then
      let sums := txChecksums d ((txProto d).getD 0) (txBytes d 0 d.length)
      (s1.emit (.frame 56 .csum [(16, sums.1), (16, sums.2)])).hostFrame d { f with ipCsum := sums.1 } d.length
    else s1.hostFrame d f d.length

def execHostTxDescriptor (dt ring : Nat) (d : TxSend) (f : Frame) (s : State) : Host.Outcome State Fault Refusal :=
  if 4 ≤ ring then .fault .noSuchUnit else .next ((s.advance dt).hostSend ring d f)

/-! ### Learning, aging and live edits (R343, R347, R348) -/

/-- Entries of a MAC bucket: static ones of the active bank and dynamic ones. -/
def State.bucketUse (s : State) (v mac : Nat) : Nat :=
  let k := Config.macBucket v mac
  (s.banks.active.mac.filter (fun e => decide (Config.macBucket (e.1 >>> 48) (e.1 % 2 ^ 48) = k))).length
    + (s.sw.macs.filter (fun e => decide (Config.macBucket e.vlan e.mac = k))).length

/-- One learning write (R343): a refresh, a move, a new entry, or the counter that says why not. -/
def State.learnOne (v mac p : Nat) (s : State) : State :=
  let others := s.sw.macs.filter (fun e => !(e.vlan == v && e.mac == mac))
  let limit := s.banks.active.learnLimit p
  let mine := (others.filter (fun e => e.port == p)).length
  let ent : MacEnt := { vlan := v, mac := mac, port := p, tickAt := s.time.tick }
  if (Tbl.get? s.banks.active.mac (macKey v mac)).isSome then
    (if bits (Tbl.getD s.banks.active.mac (macKey v mac) 0) 64 8 = p ∧ !bit (Tbl.getD s.banks.active.mac (macKey v mac) 0) 13 then s else s.swCount 2)
  else
    match s.sw.macs.find? (fun e => e.vlan == v && e.mac == mac) with
    | some e =>
      if e.port ≠ p ∧ 0 < limit ∧ limit ≤ mine then s.swCount 1
      else { s with sw := { s.sw with macs := others ++ [ent] } }
    | none =>
      if 8 ≤ s.bucketUse v mac then s.swCount 0
      else if 0 < limit ∧ limit ≤ mine then s.swCount 1
      else { s with sw := { s.sw with macs := s.sw.macs ++ [ent] } }

/-- A good frame teaches its source address as a live edit, once its FCS has checked good (R343). -/
def execLearningWrite (dt : Nat) (s : State) : Host.Outcome State Fault Refusal :=
  let s1 := s.advance dt
  .next (match s1.sw.learn with
    | [] => s1
    | (v, mac, p, good) :: rest => if s1.rawNow < good then s1 else ({ s1 with sw := { s1.sw with learn := rest } }).learnOne v mac p)

/-- `aging_s` of a VLAN's entries: the factory value, for no command of the bank names another (R343, log entry 29). -/
def agingS : Nat := 300

/-- A dynamic entry unrefreshed for `aging_s` is removed (R343). -/
def execMacAging (dt : Nat) (s : State) : Host.Outcome State Fault Refusal :=
  let s1 := s.advance dt
  .next { s1 with sw := { s1.sw with macs := s1.sw.macs.filter (fun e => s1.time.tick < e.tickAt + agingS * tickS) } }

/-- Is a dynamic entry within a flush's scope (R370). -/
def flushed (scope port vlan : Nat) (e : MacEnt) : Bool :=
  (scope == 0) || (scope == 1 && e.port == port) || (scope == 2 && e.vlan == vlan) || (scope == 3 && e.port == port && e.vlan == vlan)

/-- A live edit is written and acknowledged once every earlier pass has ended (R347): the oldest one issued. -/
def execLiveEditAck (dt : Nat) (s : State) : Host.Outcome State Fault Refusal :=
  let s1 := s.advance dt
  .next (match s1.sw.edits with
    | [] => s1
    | e :: rest =>
      let s2 := { s1 with sw := { s1.sw with edits := rest } }
      match e.kind with
      | .portState p st =>
        let old := s2.fwdState p
        ({ s2 with sw := { s2.sw with portState := Tbl.put s2.sw.portState p st } }).finish (fun w => w == e.wait) stOk
          (fun _ => [(2, old), rz 30])
      | .flush scope p v =>
        let gone := s2.sw.macs.filter (flushed scope p v)
        ({ s2 with sw := { s2.sw with macs := s2.sw.macs.filter (fun m => !flushed scope p v m) } }).finish (fun w => w == e.wait) stOk
          (fun _ => [(32, gone.length)]))

/-- At a commit every dynamic entry whose VLAN is not enabled or whose port is out of service is removed (R348). -/
def State.syncMacs (s : State) : State :=
  { s with sw := { s.sw with macs := s.sw.macs.filter (fun e => s.banks.active.vlanOn e.vlan && (e.port == 56 || s.inService e.port)) } }

/-! ### Snooping (R346) -/

/-- Default intervals of R346, s. -/
def snoopDefaultS : Nat := 260

/-- Where the intervals of a VLAN's IGMP or MLD queries are kept. -/
def snoopKey (v : Nat) (v6 : Bool) : Nat := 2 * v + (if v6 then 1 else 0)

/-- A report adds its port to the group's snooped entry; a new group needs a free entry of the table. -/
def State.snoopReport (v p group : Nat) (v6 : Bool) (s : State) : State :=
  let lapse := s.time.tick + Tbl.getD s.sw.interval (snoopKey v v6) (snoopDefaultS * 1000) * tickMs
  let mine := fun (g : Snooped) => g.vlan == v && g.ipv6 == v6 && g.group == group
  if s.sw.groups.any mine then
    { s with sw := { s.sw with groups := s.sw.groups.map (fun g =>
      if mine g then { g with ports := g.ports.filter (fun x => x.1 != p) ++ [(p, lapse)], leaving := g.leaving.filter (· != p) } else g) } }
  else
    let used := (s.banks.active.group.filter (fun e => bit e.2 15)).map (·.1) ++ s.sw.groups.map (·.index)
    if 32768 ≤ used.length then s.swCount 3
    else
      let index := ((List.range (used.length + 1)).find? (fun i => !used.contains i)).getD 0
      { s with sw := { s.sw with groups := s.sw.groups ++ [{ vlan := v, group := group, ipv6 := v6, ports := [(p, lapse)], index := index }] } }

/-- A leave removes the port at once with `fast_leave`; otherwise the port stays until the querier's group-specific query has had
no report. -/
def State.snoopLeave (v p group : Nat) (v6 : Bool) (s : State) : State :=
  let fast := s.banks.active.fastLeave v
  { s with sw := { s.sw with groups := s.sw.groups.map (fun g =>
    if g.vlan == v && g.ipv6 == v6 && g.group == group then
      if fast then { g with ports := g.ports.filter (fun x => x.1 != p), leaving := g.leaving.filter (· != p) }
      else { g with leaving := g.leaving.filter (· != p) ++ [p] }
    else g) } }

/-- A group-specific query: each port that left stays for the last-member query time it names, unless a report comes. -/
def State.snoopSpecific (v group ms : Nat) (v6 : Bool) (s : State) : State :=
  let due := s.time.tick + ms * tickMs
  { s with sw := { s.sw with groups := s.sw.groups.map (fun g =>
    if g.vlan == v && g.ipv6 == v6 && g.group == group then
      { g with ports := g.ports.map (fun x => if g.leaving.contains x.1 then (x.1, min x.2 due) else x) }
    else g) } }

/-- An IGMP or MLD report (2), leave (3) or query (1) updates snooped groups and router ports (R346). Snooping runs in
firmware. `ms` is a general query's group membership interval, or a group-specific one's last-member query time. -/
def execSnoopPacket (dt port vlan kind ms : Nat) (v6 : Bool) (groups : List Nat) (s : State) : Host.Outcome State Fault Refusal :=
  withPort port (s.advance dt) (fun s1 =>
    if !s1.fw.running ∨ !s1.banks.active.snoopEn vlan then s1
    else if kind = 1 then
      let others := s1.sw.routers.filter (fun r => !(r.1 == vlan && r.2.1 == port))
      groups.foldl (fun t g => t.snoopSpecific vlan g ms v6) { s1 with sw := { s1.sw with
        routers := others ++ [(vlan, port, s1.time.tick + snoopDefaultS * tickS)]
        interval := if groups.isEmpty ∧ 0 < ms then Tbl.put s1.sw.interval (snoopKey vlan v6) ms else s1.sw.interval } }
    else if kind = 2 then groups.foldl (fun t g => t.snoopReport vlan port g v6) s1
    else if kind = 3 then groups.foldl (fun t g => t.snoopLeave vlan port g v6) s1
    else s1)

/-- A snooped membership or router port lapses after its interval, while firmware runs (R346). -/
def execSnoopLapse (dt : Nat) (s : State) : Host.Outcome State Fault Refusal :=
  let s1 := s.advance dt
  .next (if !s1.fw.running then s1
  else { s1 with sw := { s1.sw with
    routers := s1.sw.routers.filter (fun r => s1.time.tick < r.2.2)
    groups := (s1.sw.groups.map (fun g => { g with ports := g.ports.filter (fun x => s1.time.tick < x.2) })).filter (fun g => !g.ports.isEmpty) } })

/-! ### What may start (R21, R61, R232, R319, R349) -/

/-- Do the guard bands of armed cues let a frame of `n` bytes start now (01_architecture.md R21, R22). From P on nothing
starts until the cue has ended. -/
def State.guardFree (s : State) (p n : Nat) (express : Bool) : Bool :=
  let now : Int := s.rawNow
  let finish : Int := now + s.wire p (n + 20)
  (s.frameCues p).all (fun e =>
    let p0 := s.cueStart p e.2
    if now < p0 - s.guardLength p then true
    else (express || !s.preemptActive p) && decide (finish ≤ p0))

/-- The gate cues armed for a class of a port: the RAW instant of each, and whether it closes the gate (08_cues.md R232). -/
def State.gateMoves (s : State) (p cls : Nat) : List (Int × Bool) :=
  (s.cue.rows.filter (fun e => !e.2.template && !e.2.equinox && (e.2.kind == 2 || e.2.kind == 3) && e.2.target == p && bit e.2.param cls)).map
    (fun e => (s.tickOf e.2.inst * 262144, e.2.kind == 3))

/-- Does the gate of a class of a port stand open at a RAW instant (08_cues.md R232). -/
def State.gateOpenAt (s : State) (p cls start : Nat) : Bool :=
  let before := ((s.gateMoves p cls).filter (fun m => decide (m.1 ≤ (start : Int)))).mergeSort (fun a b => decide (a.1 ≤ b.1))
  !(before.getLast?.elim (bit (Tbl.getD s.cue.closedGates p 0) cls) (·.2))

/-- Do the gates of a port let a frame of `n` bytes of a class have its preamble start at a RAW instant: its gate stands open
there, and the frame and its gap have left by the tick of the next `GATE_CLOSE` (08_cues.md R232). -/
def State.gateFreeAt (s : State) (p cls n start : Nat) : Bool :=
  let finish : Int := start + s.wire p (n + 20)
  s.gateOpenAt p cls start && (s.gateMoves p cls).all (fun m => !m.2 || decide (m.1 ≤ (start : Int)) || decide (finish ≤ m.1))

/-- Do the gates of a port let a frame of `n` bytes of a class start now (08_cues.md R232). -/
def State.gateFree (s : State) (p cls n : Nat) : Bool := s.gateFreeAt p cls n s.rawNow

/-- Does a booked slot let a non-express frame of `n` bytes start now (03_time_base_and_stamps.md R61). -/
def State.slotFree (s : State) (p n : Nat) : Bool :=
  (s.port p).slot.elim true (fun sl => decide (s.rawNow + s.wire p (n + 20) + s.wire p 8 ≤ sl.tickAt))

/-- May a copy be selected by completeness (R349). -/
def State.arrived (s : State) (p : Nat) (c : Copy) : Bool :=
  decide (c.endsAt ≤ s.rawNow) || ((s.bankOf c.epoch).cutThrough p && !s.pace.safForced && decide (s.rate p ≤ s.rate c.ingress)
    && c.ingress != 56 && !c.booked)

/-- Does a class's shaper hold the tokens of a frame (R354). -/
def State.shaped (s : State) (p cls n : Nat) : Bool :=
  let r := s.banks.active.shaperKbps p cls
  r == 0 || (takeBucket (Tbl.getD (s.port p).shaper cls (0, 0)) r 16384 (n + 20) s.time.tick).1

/-- Apply a function `n` times. -/
def iterate {α : Type} (f : α → α) : Nat → α → α
  | 0, x => x
  | n + 1, x => iterate f n (f x)

/-- The slot a booked frame would take now (03_time_base_and_stamps.md R60): the first PCS block boundary at least 1.5 µs on,
after the frame on the wire, clear of every armed cue, and within its class's gate (08_cues.md R232). A slot moved past one cue or
to the opening of a gate is tried against all of them again. `phase` is where the port's 8-byte blocks fall on the RAW scale. -/
def State.slotFor (s : State) (p phase : Nat) (c : Copy) : Option Nat :=
  let n := s.egressLen p c
  let pre := s.wire p 8
  let block := max 1 pre
  let least := max (s.rawNow + 1500 * 65536) ((s.port p).wire.elim 0 (·.finish) + pre)
  let first := fun (t : Nat) => (t + block - 1 - phase % block) / block * block + phase % block
  let clear := fun (u : Nat) (e : Nat × Row) =>
    decide ((u : Int) - pre + s.wire p (n + 20) ≤ s.cueStart p e.2) || decide (s.cueStart p e.2 + s.wire p (8 + e.2.length + 4 + 12) ≤ (u : Int) - pre)
  let past := fun (u : Nat) =>
    match (s.frameCues p).find? (fun e => !clear u e) with
    | some e => first (s.cueStart p e.2 + s.wire p (8 + e.2.length + 4 + 12) + pre).toNat
    | none =>
      if s.gateFreeAt p c.cls n (u - pre) then u
      else
        match ((s.gateMoves p c.cls).filter (fun m => !m.2 && decide ((u : Int) - pre < m.1))).map (·.1) with
        | [] => u
        | t :: l => first ((l.foldl min t).toNat + pre)
  let slot := iterate past ((s.frameCues p).length + (s.gateMoves p c.cls).length) (first least)
  if (s.frameCues p).all (clear slot) ∧ s.gateFreeAt p c.cls n (slot - pre) then some slot else none

/-- Is a copy's class not passed over for its gate now (11_switch_core.md R353; 08_cues.md R232): a frame to be booked starts in its
slot. -/
def State.gateOpen (s : State) (p : Nat) (c : Copy) : Bool :=
  if c.booked then s.gateOpenAt p c.cls s.rawNow else s.gateFree p c.cls (s.egressLen p c)

/-- May a head of queue `k` be selected now: it could start, or book its slot. -/
def State.headFree (s : State) (p phase k : Nat) (c : Copy) : Bool :=
  let n := s.egressLen p c
  s.arrived p c && s.guardFree p n (k == 8) && (k == 8 || (s.gateOpen p c && s.slotFree p n && (c.reserved || s.shaped p c.cls n)))
    && (!c.booked || (s.slotFor p phase c).isSome)

/-- The wire is free and no PAUSE holds the port. -/
def State.wireFree (s : State) (p : Nat) : Bool := (s.port p).wire.elim true (fun w => decide (w.finish ≤ s.rawNow))

/-! ### Frames the time-service engine built (09_time_service.md R262 to R264, R271, R273, R282, R284) -/

/-- Cells of the reserved pool in use: copies built in it that have not left. -/
def State.poolUsed (s : State) : Nat := cellSum (s.copies.filter (·.pool))

/-- The PTP messages among what the engine builds. -/
def Copy.isPtpMessage (c : Copy) : Bool := (6 ≤ c.what && c.what ≤ 9) || 12 ≤ c.what

/-- Are a port's PTP messages signed (R284; 07_timing_domain.md R191). -/
def State.ptpSigned (s : State) (p : Nat) : Bool := s.isTrunk p || s.banks.active.ptpAuth p != 0

/-- The key a port's PTP messages are signed and checked under, while the cache holds it: the domain key on a trunk port,
else that of the port's `auth` setting (R284; 07_timing_domain.md R191). -/
def State.ptpKey (s : State) (p : Nat) : Option Nat :=
  if s.isTrunk p then s.domainKey else s.cachedKey (s.banks.active.ptpKeySlot p)

/-- Is the key missing that a port's PTP messages need: what needs a key stops (12_command_interface.md R407, log entry 185). -/
def State.ptpKeyless (s : State) (p : Nat) : Bool := s.ptpSigned p && (s.ptpKey p).isNone

/-- Queue a frame the engine built, in the reserved pool for `PEER` and `KNOWN` and in the shared buffer for strangers
(R262): was it taken. A PTP message that cannot be signed is not built. DEDUCED (log entry 224): it carries the epoch in force as
it is built. -/
def State.tsQueue (p : Nat) (c0 : Copy) (s : State) : Bool × State :=
  if c0.isPtpMessage ∧ s.ptpKeyless p then (true, s)
  else
  let b := s.banks.active
  let pool := decide (c0.tsCls ≤ 1)
  let c := { c0 with
    id := s.sw.nextId, pool := pool, cls := if pool then b.tsClass else b.strangerClass, ts := true, untouched := true, ingress := 56
    cells := cellsOf c0.frame.len, endsAt := s.rawNow, epoch := s.banks.epoch }
  let s1 := { s with sw := { s.sw with nextId := s.sw.nextId + 1 } }
  let push := fun (c : Copy) =>
    (true, ((s1.updPort p (fun x => { x with queues := Tbl.upd x.queues c.cls [] (fun q => q ++ [c]) })).queueCount p c.cls 0).notePeak)
  if pool then (if s.poolUsed + c.cells ≤ b.tsPoolKib * 4 then push c else (false, s1))
  else
    match s.admission p c.cls c.cells with
    | some shared => push { c with shared := shared }
    | none => (false, s1)

/-- Addresses of a frame the engine built, as its first fields. -/
def tsAddress (f : Frame) : Fields := [(48, f.dst), (48, f.src), (12, if f.tagged then f.vid else 0), (128, f.ipSrc), (128, f.ipDst), (16, f.l4Src), (16, f.l4Dst)]

/-- The integrity value of a PTP message a port signs: over its wire bytes (R284; 07_timing_domain.md R191). -/
def State.ptpSign (s : State) (p : Nat) (body : Fields) : Fields :=
  if s.ptpSigned p then (s.ptpKey p).elim [] (fun key => [(128, hmac128 key (Fields.wireBytes body))]) else []

/-- Does a step part a response's receive and transmit timestamps (R264). -/
def State.tsStepped (s : State) (c : Copy) : Bool :=
  (c.what == 1 || c.what == 2 || c.what == 8 || c.what == 15) && (c.stampSteps != s.time.stepSum || c.stampEpoch != s.time.stepEpoch)

/-- The egress stamp of a request this device sends is kept for the exchange it opens (07_timing_domain.md R192,
09_time_service.md R280, R285). -/
def State.noteRequest (p what : Nat) (stamp : Int) (s : State) : State :=
  let note := fun (x : PtpPair) => { x with t3 := some stamp }
  if what = 13 then s.updPort p (fun x => { x with trunk := { x.trunk with pair := note x.trunk.pair } })
  else if what = 16 then { s with ts := { s.ts with linkPair := Tbl.upd s.ts.linkPair p {} note } }
  else { s with ts := { s.ts with pair := note s.ts.pair } }

/-- The frame that completes a two-step message: the same addresses, as a general message, and body, with its egress stamp (R282).
One the engine builds is a unit of its work (R260). -/
def State.followUp (p msg : Nat) (c : Copy) (body : Fields) (s : State) : State :=
  let f := { c.frame with tag := msg, l4Dst := if c.frame.l4Dst = 319 then 320 else c.frame.l4Dst }
  let (ok, s1) := (if c.island ∨ s.isTrunk p then s else s.tsWork c.tsCls 2 false).tsQueue p
    { c with what := 9, booked := false, body := (4, msg) :: body.drop 1, frame := f }
  if ok then s1 else s1.tsCount 3 6

/-- What the engine's frame says as it leaves with an egress stamp (2^-16 ns): written on the fly or completed on the
booked path (03_time_base_and_stamps.md R59, R60), counted for its class. A two-step Sync or Pdelay_Resp has its Follow_Up
sent; domain and trunk frames are none of the time service. -/
def State.tsLeaves (p : Nat) (c : Copy) (stamp : Int) (s : State) : State :=
  let t := Time96.ofUnits stamp
  let ntp := ntpTimestamp s.utcOffset t
  let addr := tsAddress c.frame
  let origin : Fields := [(48, t.sec), (32, t.ns), (64, t.sub)]
  let plain := fun (msg : Nat) (body : Fields) (s : State) =>
    if s.ptpKeyless p then s else s.emit (.frame p (.ptp msg) (addr ++ body ++ s.ptpSign p body))
  let ptp := fun (msg : Nat) (body : Fields) (s : State) => if c.island then plain msg body s else (plain msg body s).tsCount c.tsCls 4
  let ahead := stamp - c.stamp.units
  if c.what = 1 then (s.emit (.frame p .ntp (addr ++ c.body ++ [(64, ntp)]))).tsCount c.tsCls 2
  else if c.what = 2 then
    let head := c.body ++ [(64, ntp)] ++ c.uid.map (fun b => (8, b))
    let (nonce, s1) := s.entropy 128
    let text := sivSeal c.s2c (Fields.wireBytes head) (toBytesBE 16 nonce) c.plain
    (s1.emit (.frame p .nts (addr ++ head ++ [(128, nonce)] ++ text.map (fun b => (8, b))))).tsCount c.tsCls 3
  else if c.what = 3 then (s.emit (.frame p .ntp (addr ++ c.body))).tsCount c.tsCls 6
  else if c.what = 4 then (s.emit (.frame p .ntp (addr ++ c.body))).tsCount c.tsCls 7
  else if c.what = 5 then (s.emit (.frame p .ntp (addr ++ c.body))).tsCount 3 1
  else if c.what = 6 then ptp 0 (c.body ++ origin) s
  else if c.what = 7 then (ptp 0 (c.body ++ [(48, 0), (32, 0), (64, 0)]) s).followUp p 8 c (c.body ++ origin)
  else if c.what = 8 then ptp 3 (c.body ++ [fi 64 (c.frame.correction + ahead)]) s
  else if c.what = 9 then ptp c.frame.tag c.body s
  else if c.what = 11 then s.emit (.frame p (.domain c.frame.tag) ([(48, c.frame.dst), (48, c.frame.src), (16, c.frame.etherType)] ++ c.body))
  else if c.what = 12 then plain 0 (c.body ++ origin) s
  else if c.what = 13 then (plain 1 c.body s).noteRequest p 13 stamp
  else if c.what = 14 then plain c.frame.tag c.body s
  else if c.what = 15 then
    (ptp 3 (c.body ++ [(48, c.stamp.sec), (32, c.stamp.ns)]) s).followUp p 10 c
      (c.body ++ [(48, t.sec), (32, t.ns), fi 64 (c.frame.correction + t.sub)])
  else if c.what = 16 then (ptp 2 c.body s).noteRequest p 16 stamp
  else if c.what = 18 then
    (ptp 0 (c.body.take 6 ++ [(48, 0), (32, 0), (64, 0)]) s).followUp p 8 c
      (c.body ++ [fi 64 (c.frame.correction + (ahead - (s.time.stepSum - c.stampSteps)))])
  else if c.what = 17 then (ptp 1 c.body s).noteRequest p 17 stamp
  else s.emit (.frame p .arp (addr ++ c.body))

/-! ### Starting a copy -/

/-- The egress shown for a frame ends with an inverted FCS, after at most `most` bytes. -/
def stompTrace (port id most : Nat) : List Out → List Out
  | [] => []
  | .egress p i len stamp bad field csum tag ce :: rest =>
    if p = port ∧ i = id then .egress p i (min most len) stamp true field csum tag ce :: rest
    else .egress p i len stamp bad field csum tag ce :: stompTrace port id most rest
  | o :: rest => o :: stompTrace port id most rest

/-- The correctionField transparent clocks write (03_time_base_and_stamps.md R65, 09_time_service.md R285): a `TC_P2P` port adds its
mean link delay to a Sync on ingress, and a transparent-clock port the residence, less the steps between, on egress. `steps` is
`stepSum` at the egress stamp. A frame sent with `STAMP_REQ` is sent unchanged (R62). -/
def State.correction (s : State) (p : Nat) (c : Copy) (stamp steps : Int) : Option Int :=
  let b := s.bankOf c.epoch
  let entered := c.frame.ptpSync && decide (c.ingress < 56) && b.ptpRole c.ingress == 4 && b.tcPort c.ingress c.frame
  let left := b.tcPort p c.frame
  if (entered ∨ left) ∧ !c.stampReq then
    some (c.frame.correction + (if entered then Tbl.getD s.ts.linkDelay c.ingress 0 else 0)
      + (if left then stamp - c.stamp.units - (steps - c.stampSteps) else 0))
  else none

/-- What becomes of the UDP checksum of a frame the port writes a field into (03_time_base_and_stamps.md R59, R60). -/
def Copy.csum (c : Copy) : Csum :=
  if c.frame.ipProto ≠ 17 then .kept
  else if c.booked then .completed
  else if c.frame.ipv6 then .trailer
  else .zero

/-- Effects of a copy's first bit after the SFD leaving at a RAW instant with its egress stamp: field, record, statistics,
egress mirrors (R59, R62, R65, R328, R361). -/
def State.leaves (p : Nat) (c : Copy) (n : Nat) (raw stamp steps : Int) (bad : Bool) (s : State) : State :=
  let field := if c.mirror.isSome then none else s.correction p c stamp steps
  let s0 := (s.countTx p c.frame.dst n).emit
    (.egress p c.id n (Time96.ofUnits stamp) bad (field.getD 0) (if field.isSome ∨ c.ts then c.csum else .kept) (s.egressTag p c)
      (if c.ecnCe then some (s.egressFrame p n c).ipCsum else none))
  let s1 := if c.mirror.isSome ∧ !c.body.isEmpty then s0.emit (.frame p .mirror c.body) else s0
  let by_ := if (s.bankOf c.epoch).tcPort p c.frame then p else c.ingress
  let s2 := if field.isSome then
      let m := inc48 (s1.port by_).stTc 1
      (s1.updPort by_ (fun x => { x with stTc := m })).counterHalf (s1.port by_).stTc m 0x050A by_ 192
    else s1
  let s3 := if c.stampReq then s2.stampRecord p c.frame.tag (Time96.ofUnits stamp) else s2
  let s4 := if bad then s3.stat p 40 1 else s3
  let s5 := match c.flow with
    | some fl => if c.reserved ∧ !c.excused ∧ (c.due : Int) < raw then s4.flowCount fl 2 else s4
    | none => s4
  let sessions := if c.mirror.isSome then [] else (List.range 4).filter (fun k => bit (bits (s5.mirror k).cfg 88 56) p && !c.mirrors.contains k)
  let took := fun (d : Copy) => if d.id = c.id then { d with mirrors := d.mirrors ++ sessions } else d
  let s6 := { s5 with ports := s5.ports.mapVal (fun x => { x with
    queues := x.queues.mapVal (fun q => q.map took)
    slot := x.slot.map (fun sl => { sl with copy := took sl.copy }) }) }
  let s7 := sessions.foldl (fun t k => t.mirrorFrame k { c with frame := s.egressFrame p n c } true) (if sessions.isEmpty then s5 else s6)
  if c.ts then s7.tsLeaves p c stamp else s7

/-- Take a copy off its queue. -/
def State.popQueue (p k : Nat) (c : Copy) (s : State) : State := s.updPort p (fun x => { x with queues := Tbl.upd x.queues k [] (fun q => q.erase c) })

/-- Bytes still to send of a preempted frame. -/
def OnWire.left (w : OnWire) (n : Nat) : Nat := n - w.frag

/-- The DWRR class served next (R354): the one whose deficit is met in the fewest rounds, and the deficits after it. -/
def State.dwrr (s : State) (p : Nat) (cands : List (Nat × Nat)) : Option (Nat × Tbl Int) :=
  let b := s.banks.active
  let need := fun (e : Nat × Nat) =>
    let d := Tbl.getD (s.port p).deficits e.1 0
    let q := b.weight p e.1 * 2048
    if (e.2 : Int) ≤ d then 0 else ((e.2 - d).toNat + q - 1) / max 1 q
  match cands.foldl (fun (a : Option (Nat × Nat)) e => match a with
      | some x => if need e < need x then some e else some x
      | none => some e) none with
  | none => none
  | some e =>
    let r := need e
    let added : Tbl Int := cands.foldl (fun t c => Tbl.put t c.1 (Tbl.getD (s.port p).deficits c.1 0 + r * b.weight p c.1 * 2048)) []
    some (e.1, Tbl.upd added e.1 0 (fun d => d - e.2))

/-- The frame at the head of a queue. In the reserved tier the frames of a class whose gate is closed are passed over (R353, R356). -/
def State.headOf (s : State) (p k : Nat) : Option Copy :=
  if k = 9 then (s.queue p 9).find? (fun c => ((s.queue p 9).find? (fun d => d.cls == c.cls)).any (s.gateOpen p)) else (s.queue p k).head?

/-- Does a head wait for a booked frame: one on the booked path while the port holds a slot or a frame that lost its slot is yet to
be booked again (03_time_base_and_stamps.md R60), and one behind the slot's own frame in its queue (R337). -/
def State.headWaits (s : State) (p k : Nat) (c : Copy) : Bool :=
  let loser := (List.range 10).any (fun j => (s.queue p j).any (fun d => decide (0 < d.lost)))
  (c.booked && ((s.port p).slot.isSome || (c.lost == 0 && loser)))
    || (s.port p).slot.any (fun sl => sl.copy.queue == k && sl.copy.ingress == c.ingress)

/-- The frame a queue offers the scheduler now. -/
def State.offered (s : State) (p phase k : Nat) : Option (Nat × Copy) :=
  ((s.headOf p k).filter (fun c => !s.headWaits p k c && s.headFree p phase k c)).map (fun c => (k, c))

/-- What the DWRR group offers (R354). -/
def State.dwrrOffers (s : State) (p phase : Nat) : List (Nat × Copy) :=
  ((List.range 8).reverse.filter (fun k => !s.banks.active.strict p k)).filterMap (s.offered p phase)

/-- The queue the scheduler selects now (R353): 8 express, 9 the reserved tier, then strict classes, then DWRR. -/
def State.selectQueue (s : State) (p phase : Nat) : Option (Nat × Copy) :=
  let first := [8, 9] ++ (List.range 8).reverse.filter (fun k => s.banks.active.strict p k)
  match first.findSome? (s.offered p phase) with
  | some e => some e
  | none =>
    let shared := s.dwrrOffers p phase
    (s.dwrr p (shared.map (fun e => (e.1, s.egressLen p e.2)))).bind (fun d => shared.find? (fun e => e.1 = d.1))

/-- A frame of a queue starts: its express allowance or its class's shaper is charged (R354, R355). -/
def State.chargeBuckets (p k n : Nat) (s : State) : State :=
  let b := s.banks.active
  if k = 8 then
    let (ok, bk) := takeBucket (s.port p).xBucket (b.xRate p * 1000) (b.xBurst p) (n + 20) s.time.tick
    let s1 := s.updPort p (fun x => { x with xBucket := bk })
    if ok then s1 else s1.queueCount p 8 3
  else if k = 9 ∨ b.shaperKbps p k = 0 then s
  else
    s.updPort p (fun x => { x with
      shaper := Tbl.put x.shaper k (takeBucket (Tbl.getD x.shaper k (0, 0)) (b.shaperKbps p k) 16384 (n + 20) s.time.tick).2 })

/-- A queue of the DWRR group is selected: the deficits after it (R354). -/
def State.chargeDeficits (p phase k : Nat) (s : State) : State :=
  if 8 ≤ k ∨ s.banks.active.strict p k then s
  else
    match s.dwrr p ((s.dwrrOffers p phase).map (fun e => (e.1, s.egressLen p e.2))) with
    | some d => s.updPort p (fun x => { x with deficits := d.2 })
    | none => s

/-- The state in which a selected frame has been dropped at its egress decision, where it is: an engine's frame whose stamps a step has
parted (09_time_service.md R264), a marked frame received to its end (10_port_macs.md R311), one longer than the port's M (R312). -/
def State.dropped (p k : Nat) (c : Copy) (s : State) : Option State :=
  let gone := s.popQueue p k c
  if c.ts ∧ s.tsStepped c then some (gone.tsCount 3 10)
  else if c.marked ∧ c.endsAt ≤ s.rawNow then some gone
  else if s.banks.active.maxFrame p + (if s.egressTagged p c then 4 else 0) < s.egressLen p c then some (gone.stat p 44 1)
  else none

/-- The frame selected starts, and is charged for, or is dropped at its egress decision (R311, R312, R349). -/
def State.startCopy (p phase k : Nat) (c : Copy) (s : State) : State :=
  match s.dropped p k c with
  | some t => t
  | none =>
    let n := s.egressLen p c
    let w : OnWire := { copy := c, start := s.rawNow, finish := s.rawNow + s.wire p (n + 20), express := k == 8 }
    let raw : Int := s.rawNow + s.wire p 8
    let s1 := ((s.chargeDeficits p phase k).popQueue p k c).chargeBuckets p k n
    (s1.updPort p (fun x => { x with wire := some w })).leaves p c n raw (s.txStamp p raw) s.time.stepSum c.marked

/-- The copy a domain frame leaves as (07_timing_domain.md R185; log entry 170). -/
def State.domainCopy (s : State) (d : DomOut) : Copy :=
  { id := s.sw.nextId, ingress := 56, untouched := true, ts := true, what := 11, body := d.fields
    frame := { len := max 64 (18 + Fields.size d.fields / 8), dst := domainGroup, src := portMac d.port, etherType := 0x88B5, tag := d.kind } }

/-- A waiting domain frame starts on its port. -/
def State.startDomain (d : DomOut) (s : State) : State :=
  let c := s.domainCopy d
  let n := c.frame.len
  let raw : Int := s.rawNow + s.wire d.port 8
  let w : OnWire := { copy := c, start := s.rawNow, finish := s.rawNow + s.wire d.port (n + 20), express := true }
  let s1 := { s with dom := { s.dom with queue := s.dom.queue.erase d }, sw := { s.sw with nextId := s.sw.nextId + 1 } }
  (s1.updPort d.port (fun x => { x with wire := some w })).leaves d.port c n raw (s1.txStamp d.port raw) s1.time.stepSum false

/-- The rest of a preempted frame goes on, unless the guard band of an armed cue holds it, in a PAUSE too
(01_architecture.md R17, R22; 10_port_macs.md R316). -/
def State.resumeCut (p : Nat) (w : OnWire) (s : State) : State :=
  let left := w.left (s.egressLen p w.copy)
  if s.guardFree p left false then
    (s.updPort p (fun x => { x with
      cut := none, wire := some { w with start := s.rawNow, finish := s.rawNow + s.wire p (left + 20) } })).stat p 47 1
  else s

/-- A decision of a port that is not `UP` (10_port_macs.md R305, R308): the rest of a preempted frame still goes out; a port in
`DOWN` or out of service discards what reaches its decision; one in `HOLD` starts nothing. -/
def State.decideDown (p : Nat) (s : State) : State :=
  match (s.port p).cut with
  | some w => if s.wireFree p then s.resumeCut p w else s
  | none =>
    if (s.port p).link = .hold then s
    else
      match s.dom.queue.find? (fun d => d.port == p), (List.range 10).findSome? (fun k => (s.queue p k).head?.map (fun c => (k, c))) with
      | some d, _ => ({ s with dom := { s.dom with queue := s.dom.queue.erase d } }).stat p 43 1
      | none, some (k, c) => (s.popQueue p k c).stat p 43 1
      | none, none => s

/-- An express frame or else the rest of a preempted frame goes on, or the frame selected starts, unless a PAUSE holds the port
or it is to be booked. -/
def State.decideQueue (p phase : Nat) (s : State) : State :=
  match (s.port p).cut, s.selectQueue p phase with
  | some w, some (k, c) => if k = 8 ∧ !c.booked ∧ !s.paused p then s.startCopy p phase 8 c else s.resumeCut p w
  | some w, none => s.resumeCut p w
  | none, some (k, c) => if s.paused p then s else if c.booked then (s.dropped p k c).getD s else s.startCopy p phase k c
  | none, none => s

/-- A decision of a port that is `UP` with its wire free (R349, R353): a generated PAUSE, a waiting domain frame (DESIGN
CHOICE, log entry 170), then the queues. A selected frame on the booked path first books its slot. -/
def State.decideUp (p phase : Nat) (s : State) : State :=
  match (s.port p).control, s.dom.queue.find? (fun d => d.port == p) with
  | q :: rest, _ =>
    if s.guardFree p 64 true then
      let w : OnWire := { start := s.rawNow, finish := s.rawNow + s.wire p 84, express := true }
      ((s.updPort p (fun x => { x with control := rest, wire := some w })).stat p 38 1).emit
        (.frame p .pause [(48, 0x0180C2000001), (48, portMac p), (16, 0x8808), (16, 1), (16, q)])
    else s
  | [], some d => if !s.paused p ∧ s.guardFree p (s.domainCopy d).frame.len true then s.startDomain d else s.decideQueue p phase
  | [], none => s.decideQueue p phase

/-- A port's scheduler makes one decision. A changed preemption setting takes effect once the fragments of a frame preempted
under the old one have been sent (10_port_macs.md R315). -/
def State.decide_ (p phase : Nat) (s : State) : State :=
  if (s.port p).link ≠ .up then s.decideDown p
  else if !s.wireFree p then s
  else if (s.port p).remerge ∧ (s.port p).cut.isNone then
    ((s.setPreempt p 0).startPreempt p).decideUp p phase
  else s.decideUp p phase

/-- Bytes of the fragment on a port's wire up to the first byte boundary at or after now: preamble and SMD, 8 bytes, are no
frame bytes (10_port_macs.md R316). -/
def State.sentBytes (s : State) (p : Nat) (w : OnWire) : Nat := ((s.rawNow - w.start) * s.rate p + 8000 * 65536 - 1) / (8000 * 65536) - 8

/-- The egress FIFO of a port runs dry in the middle of a cut-through frame while store-and-forward is forced: the frame ends now,
with the inverse of the FCS of the bytes it has sent, and is counted in `TX_UNDERRUN` (02_self_timed_operation.md R38). DESIGN
CHOICE (log entry 201): it stays counted as it was at its start, at its whole length. -/
def State.underrun (p : Nat) (s : State) : State :=
  match (s.port p).wire with
  | some w =>
    if s.pace.safForced ∧ w.start < w.copy.endsAt ∧ s.rawNow < w.finish then
      let s1 := s.updPort p (fun x => { x with wire := some { w with finish := s.rawNow + s.wire p 16 } })
      ({ s1 with trace := stompTrace p w.copy.id (w.frag + s.sentBytes p w + 4) s1.trace }).stat p 39 1
    else s
  | none => s

/-- A port's scheduler selects a copy to start, under cut-through, gates, guard bands and PAUSE (R349), or its egress FIFO has run dry
(02_self_timed_operation.md R38). The host's index word is read where the decision writes a stamp record
(03_time_base_and_stamps.md R62). -/
def execEgressDecision (dt : Nat) (turn : PortTurn) (s : State) : Host.Outcome State Fault Refusal :=
  withPort turn.port ((s.advance dt).seeConsumer turn.consumer) (fun s1 =>
    (if turn.dry then s1.underrun turn.port else s1).decide_ turn.port turn.phase)

/-! ### Preemption on the wire (10_port_macs.md R316) -/

/-- The byte at which a preemptable frame on the wire can be cut from now on, if any (R316). -/
def State.cutPoint (s : State) (p : Nat) (w : OnWire) : Option Nat :=
  let total := w.left (s.egressLen p w.copy)
  let at_ := max (64 * (1 + s.banks.active.addFragSize p) - 4) (s.sentBytes p w)
  if at_ + 64 ≤ total then some at_ else none

/-- The frame on the wire is cut: its fragment and mCRC leave, and the rest waits. -/
def State.cutFrame (p : Nat) (s : State) : State :=
  match (s.port p).wire with
  | some w =>
    if !s.preemptActive p ∨ w.express ∨ w.finish ≤ s.rawNow ∨ (s.port p).cut.isSome then s
    else
      match s.cutPoint p w with
      | some k =>
        let s1 := s.updPort p (fun x => { x with
          wire := some { w with finish := w.start + s.wire p (8 + k + 4 + 12), express := true }, cut := some { w with frag := w.frag + k } })
        if w.frag = 0 then (s1.stat p 46 1).stat p 47 1 else s1
      | none => s
  | none => s

/-- An express frame reaching its queue head preempts the preemptable frame on the wire, but not while a PAUSE is pending
(R316, R319). -/
def execPreemptCut (dt port : Nat) (s : State) : Host.Outcome State Fault Refusal :=
  withPort port (s.advance dt) (fun s1 =>
    if (s1.port port).link ≠ .up ∨ s1.paused port ∨ !(s1.queue port 8).head?.any (s1.arrived port) then s1 else s1.cutFrame port)

/-- A guard band opens G before an armed cue frame's preamble start; with preemption active the frame on the wire is held
(01_architecture.md R21, R22). -/
def execGuardBandOpen (dt port : Nat) (s : State) : Host.Outcome State Fault Refusal :=
  withPort port (s.advance dt) (fun s1 =>
    let now : Int := s1.rawNow
    match (s1.frameCues port).find? (fun e => decide (s1.cueStart port e.2 - s1.guardLength port ≤ now) && decide (now < s1.cueStart port e.2)) with
    | some e =>
      ((s1.excuse port).updPort port (fun x => { x with guard := some e.1 })).cutFrame port
    | none => s1)

/-! ### Booked slots (03_time_base_and_stamps.md R60, R61) -/

/-- A booked frame the scheduler would select next books a launch slot, and the slot's stamp is computed here (R60), unless it is
dropped at this decision. DESIGN CHOICE (log entry 202): it books whether or not a PAUSE is in effect. -/
def State.bookSlot (p phase : Nat) (s : State) : State :=
  if (s.port p).link ≠ .up ∨ (s.port p).slot.isSome then s
  else
    match s.selectQueue p phase with
    | some (k, c) =>
      if !c.booked then s
      else
        match s.dropped p k c, s.slotFor p phase c with
        | some t, _ => t
        | none, some slot =>
          ((s.chargeDeficits p phase k).popQueue p k c).updPort p (fun x => { x with
            slot := some { copy := c, tickAt := slot, stamp := s.txStamp p slot, steps := s.time.stepSum } })
        | none, none => s
    | none => s

/-- A booked frame at a selected queue head books a launch slot and has its stamp written (R60). -/
def execBookedSlotBook (dt port phase : Nat) (s : State) : Host.Outcome State Fault Refusal :=
  withPort port (s.advance dt) (fun s1 => s1.bookSlot port phase)

/-- Is a booked slot lost by now (R61, 10_port_macs.md R321, 08_cues.md R232): the port busy at its preamble start, a PAUSE in
effect, the link down, the frame not in the launch buffer 64 ns before, or its class's gate closed there. -/
def State.slotLost (s : State) (p : Nat) (sl : Slot1) : Bool :=
  let start := sl.tickAt - s.wire p 8
  (s.port p).link != .up || !sl.ready || !s.gateFreeAt p sl.copy.cls (s.egressLen p sl.copy) start || (decide (start ≤ s.rawNow) && ((s.port p).wire.elim false (fun w => decide (start < w.finish)) || s.paused p))

/-- The booked frame is launched so that its first bit after the SFD crosses the lands at the slot (R60). A time-service
frame whose stamps a step has parted is not sent (09_time_service.md R264). -/
def execBookedSlotLaunch (dt : Nat) (turn : PortTurn) (s : State) : Host.Outcome State Fault Refusal :=
  let port := turn.port
  withPort port ((s.advance dt).seeConsumer turn.consumer) (fun s1 =>
    match (s1.port port).slot with
    | some sl =>
      if s1.rawNow + s1.wire port 8 < sl.tickAt ∨ s1.slotLost port sl then s1
      else if sl.copy.ts ∧ s1.tsStepped sl.copy then (s1.updPort port (fun x => { x with slot := none })).tsCount 3 10
      else
        let n := s1.egressLen port sl.copy
        let start := sl.tickAt - s1.wire port 8
        let w : OnWire := {
          copy := sl.copy, start := start, finish := start + s1.wire port (n + 20), express := !s1.preemptActive port || sl.copy.queue == 8 }
        ((s1.updPort port (fun x => { x with slot := none, wire := some w })).chargeBuckets port sl.copy.queue n).leaves port sl.copy n sl.tickAt sl.stamp sl.steps false
    | none => s1)

/-- A slot is lost to an express frame, PAUSE, link loss or the 64 ns deadline (R61); `late` says the deadline was missed. -/
def execBookedSlotLost (dt port : Nat) (late : Bool) (s : State) : Host.Outcome State Fault Refusal :=
  withPort port (s.advance dt) (fun s1 =>
    match (s1.port port).slot with
    | some sl => if s1.slotLost port { sl with ready := sl.ready && !late } then s1.loseSlot port else s1
    | none => s1)

end Sys2Proof.Machine
end

