-- ==== Sys2Proof/Machine/SwitchCmds.lean ====
section
/-!
DEFINITION. The commands of group 0x04: staging of switch items, port states and flushes as live edits, mirror sessions,
and the reads of the switch core (11_switch_core.md R364 to R379).
-/
namespace Sys2Proof.Machine

/-! ### Staged items -/

/-- `VLAN_SET` (R366). -/
def cmdVlanSet : Command where
  opcode := 0x0401
  layout _ := { size := 216, fields := [(0, 18), (32, 57), (96, 56), (160, 56)] }
  range q _ := within 1 4094 (q.f 0 12) && (q.f 96 56 &&& q.f 32 56) == q.f 96 56 && (q.f 160 56 &&& q.f 32 56) == q.f 160 56
  objs q := stageObjs 0x0401 (q.f 0 12)
  run q s := stage (fun b => { b with vlan := Tbl.put b.vlan (q.f 0 12) q.body }) s

def execVlanSet (q : Req) (s : State) : Host.Outcome State Fault Refusal := runCommand cmdVlanSet q s

/-- `PORT_FWD_SET` (R367). -/
def cmdPortFwdSet : Command where
  opcode := 0x0402
  layout _ := { size := 160, fields := [(0, 25), (32, 27), (64, 96)] }
  range q _ := decide (q.f 0 8 ≤ portCount) && within 1 4094 (q.f 8 12) && decide (q.f 20 2 ≤ 2) && decide (q.f 64 32 ≤ 131072)
    && decide (q.f 96 32 ≤ portRateMax (q.f 0 8)) && decide (q.f 128 32 ≤ 1048576)
  objs q := stageObjs 0x0402 (q.f 0 8)
  run q s := stage (fun b => { b with fwd := Tbl.put b.fwd (q.f 0 8) q.body }) s

def execPortFwdSet (q : Req) (s : State) : Host.Outcome State Fault Refusal := runCommand cmdPortFwdSet q s

/-- `MAC_STATIC_SET` (R369): enable 0 removes the entry. -/
def cmdMacStaticSet : Command where
  opcode := 0x0404
  layout _ := { size := 72, fields := [(0, 14), (16, 48), (64, 8)] }
  range q _ := within 1 4094 (q.f 0 12) && !q.b 56 && (q.b 13 || decide (q.f 64 8 ≤ portCount))
  objs q := stageObjs 0x0404 (macKey (q.f 0 12) (q.f 16 48))
  run q s :=
    let key := macKey (q.f 0 12) (q.f 16 48)
    let table := if q.b 12 then Tbl.put s.banks.shadow.mac key q.body else Tbl.erase s.banks.shadow.mac key
    if s.stagingRefusal.isNone ∧ 4096 < table.length then .done stNotPermitted [] s else stage (fun b => { b with mac := table }) s

def execMacStaticSet (q : Req) (s : State) : Host.Outcome State Fault Refusal := runCommand cmdMacStaticSet q s

/-- The defined bits of a 512-bit flow key at bit `lo` (R372). -/
def keyFields (lo : Nat) : List (Nat × Nat) := [(lo, 150), (lo + 152, 288)]

/-- `FLOW_RULE_SET` (R372). -/
def cmdFlowRuleSet : Command where
  opcode := 0x0407
  layout _ := { size := 1096, fields := [(0, 15)] ++ keyFields 32 ++ keyFields 544 ++ [(1056, 21), (1080, 12)] }
  range q _ := decide (q.f 32 8 ≤ portCount) && decide (q.f 1056 3 ≤ 3) && decide (q.f 1060 4 ≤ 8) && decide (q.f 1080 8 ≤ portCount)
    && (q.f 32 512 &&& q.f 544 512) == q.f 32 512
  objs q := stageObjs 0x0407 (q.f 0 14)
  run q s := stage (fun b => { b with rule := Tbl.put b.rule (q.f 0 14) q.body }) s

def execFlowRuleSet (q : Req) (s : State) : Host.Outcome State Fault Refusal := runCommand cmdFlowRuleSet q s

/-- Is the group of a `MCAST_GROUP_SET` word a multicast address of its kind. -/
def groupMulticast (w : Nat) : Bool :=
  if !bit w 28 then bit w 72 else if bit w 29 then bits w 152 8 == 0xFF else bits w 60 4 == 0xE

/-- The key of a `MCAST_GROUP_SET` word: VLAN, kind, address. -/
def groupKey (w : Nat) : Nat × Bool × Bool × Nat :=
  (bits w 16 12, bit w 28, bit w 28 && bit w 29, if !bit w 28 then bits w 32 48 else if bit w 29 then bits w 32 128 else bits w 32 32)

/-- `MCAST_GROUP_SET` (R373). -/
def cmdMcastGroupSet : Command where
  opcode := 0x0408
  layout _ := { size := 217, fields := [(0, 30), (32, 185)] }
  range q s := within 1 4094 (q.f 16 12) && groupMulticast q.body
    && !s.banks.shadow.group.any (fun e => e.1 != q.f 0 15 && bit e.2 15 && groupKey e.2 == groupKey q.body)
  objs q := stageObjs 0x0408 (q.f 0 15)
  run q s := stage (fun b => { b with group := Tbl.put b.group (q.f 0 15) q.body }) s

def execMcastGroupSet (q : Req) (s : State) : Host.Outcome State Fault Refusal := runCommand cmdMcastGroupSet q s

/-- `QUEUE_SET` (R374): the express queue takes only the cell fields. -/
def cmdQueueSet : Command where
  opcode := 0x0409
  layout _ := { size := 160, fields := [(0, 13), (16, 144)] }
  range q _ := decide (q.f 0 8 < portCount) && decide (q.f 8 4 ≤ 8) && withinI (-3) 3 (q.i 24 8)
    && (q.f 8 4 == 8 || (decide (1 ≤ q.f 16 8) && decide (q.f 32 32 ≤ 1000 * portRateMax (q.f 0 8)))) && decide (q.f 64 32 ≤ q.f 96 32)
  objs q := stageObjs 0x0409 (q.f 0 12)
  run q s := stage (fun b => { b with queue := Tbl.put b.queue (16 * q.f 0 8 + q.f 8 4) q.body }) s

def execQueueSet (q : Req) (s : State) : Host.Outcome State Fault Refusal := runCommand cmdQueueSet q s

/-- `RSV_SET` (R375). -/
def cmdRsvSet : Command where
  opcode := 0x040A
  layout _ := { size := 128, fields := [(0, 13), (32, 12), (64, 64)] }
  range q _ := decide (q.f 32 8 < portCount) && decide (q.f 40 4 ≤ 7) && within 64 (1000 * portRateMax (q.f 32 8)) (q.f 64 32)
    && within 84 1048576 (q.f 96 32)
  objs q := stageObjs 0x040A (q.f 0 12)
  run q s := stage (fun b => { b with rsv := Tbl.put b.rsv (q.f 0 12) q.body }) s

def execRsvSet (q : Req) (s : State) : Host.Outcome State Fault Refusal := runCommand cmdRsvSet q s

/-! ### Live edits by command -/

/-- `PORT_STATE_SET` (R368): a live edit, answered at its acknowledgement. -/
def cmdPortStateSet : Command where
  opcode := 0x0403
  layout _ := { size := 32, fields := [(0, 10)] }
  range q _ := decide (q.f 0 8 < portCount) && decide (q.f 8 2 ≤ 2)
  objs q := [.port (q.f 0 8)]
  run q s :=
    let w : Wait := { opcode := 0x0403, req := q, obj := some (.port (q.f 0 8)), applied := true }
    .aside w { s with sw := { s.sw with
      edits := s.sw.edits ++ [{ kind := .portState (q.f 0 8) (q.f 8 2), wait := w, issued := s.time.tick }] } }

def execPortStateSet (q : Req) (s : State) : Host.Outcome State Fault Refusal := runCommand cmdPortStateSet q s

/-- `MAC_FLUSH` (R370): live edits, answered when done. -/
def cmdMacFlush : Command where
  opcode := 0x0405
  layout _ := { size := 28, fields := [(0, 2), (8, 8), (16, 12)] }
  range q _ := (!q.b 0 || decide (q.f 8 8 ≤ portCount)) && (!q.b 1 || within 1 4094 (q.f 16 12))
  objs _ := [.macTable]
  run q s :=
    let w : Wait := { opcode := 0x0405, req := q, obj := some .macTable, applied := true }
    .aside w { s with sw := { s.sw with
      edits := s.sw.edits ++ [{ kind := .flush (q.f 0 2) (q.f 8 8) (q.f 16 12), wait := w, issued := s.time.tick }] } }

def execMacFlush (q : Req) (s : State) : Host.Outcome State Fault Refusal := runCommand cmdMacFlush q s

/-- `MAC_LOOKUP` (R371). -/
def cmdMacLookup : Command where
  opcode := 0x0406
  layout _ := { size := 64, fields := [(0, 12), (16, 48)] }
  run q s :=
    let v := q.f 0 12
    let mac := q.f 16 48
    .done stOk
      (match (if s.present 2 (macKey v mac) then Tbl.get? s.banks.active.mac (macKey v mac) else none) with
      | some w => [(1, 1), (1, 1), fb (bit w 13), rz 5, (8, if bit w 13 then 0 else bits w 64 8), rz 16, (32, 0)]
      | none =>
        match s.sw.macs.find? (fun e => e.vlan == v && e.mac == mac) with
        | some e => [(1, 1), (1, 0), (1, 0), rz 5, (8, e.port), rz 16, (32, (s.time.tick - e.tickAt) / tickS)]
        | none => [(1, 0), (1, 0), (1, 0), rz 5, (8, 0), rz 16, (32, 0)]) s

def execMacLookup (q : Req) (s : State) : Host.Outcome State Fault Refusal := runCommand cmdMacLookup q s

/-! ### Mirror sessions (R364, R376) -/

/-- `MIRROR_SET` (R376): a disable answers at quiescence. -/
def cmdMirrorSet : Command where
  opcode := 0x040B
  layout _ := { size := 184, fields := [(0, 5), (8, 11), (32, 152)] }
  range q _ := decide (q.f 8 8 ≤ portCount) && (q.f 144 16 == 0 || within 64 512 (q.f 144 16)) && decide (1 ≤ q.f 160 24)
  objs q := [.session (q.f 0 2)]
  run q s :=
    let k := q.f 0 2
    if bit (q.f 32 56 ||| q.f 88 56) (q.f 8 8) then .done stNotPermitted [] s
    else if (s.mirror k).on ∧ !q.b 2 then
      .aside { obj := some (.session k), applied := true } (s.updMirror k (fun m => { m with cfg := q.body, draining := true }))
    else .done stOk [] (s.updMirror k (fun m => { m with cfg := q.body, phase := if m.on then m.phase else 0 }))

def execMirrorSet (q : Req) (s : State) : Host.Outcome State Fault Refusal := runCommand cmdMirrorSet q s

/-- A disabled mirror session reports quiescent (R364). -/
def execMirrorQuiescent (dt session : Nat) (s : State) : Host.Outcome State Fault Refusal :=
  if 4 ≤ session then .fault .noSuchUnit
  else
    let s1 := s.advance dt
    .next (if (s1.mirror session).draining then
      (s1.updMirror session (fun m => { m with draining := false })).finish (fun w => w.obj = some (Obj.session session)) stOk (fun _ => [])
    else s1)

/-! ### Reads -/

/-- The word of the group entry at an index: a static one, or the snooped one with bit 217 set (R377). -/
def State.groupWord (s : State) (i : Nat) : Nat :=
  let w := Tbl.getD s.banks.active.group i i
  if bit w 15 then w
  else
    match s.sw.groups.find? (fun g => g.index == i) with
    | some g => Fields.pack [(15, i), (1, 1), (12, g.vlan), (1, 1), fb g.ipv6, rz 2, (128, g.group), (56, maskOf (g.ports.map (·.1))),
        (1, if g.ports.any (fun x => x.1 == 56) then 1 else 0), (1, 1)]
    | none => w

/-- The width and active word of an item of `SWITCH_CONFIG_GET` (R377); static MAC entries count in order of VLAN and MAC. -/
def State.switchItem (s : State) (item queue i : Nat) : Nat × Nat :=
  let b := s.banks.active
  if item = 0 then (216, b.vlanWord i)
  else if item = 1 then (160, b.fwdWord i)
  else if item = 2 then (72, ((nth b.mac i).map (·.2)).getD 0)
  else if item = 3 then (1096, Tbl.getD b.rule i i)
  else if item = 4 then (218, s.groupWord i)
  else if item = 5 then (160, b.queueWord i queue)
  else if item = 6 then (128, b.rsvWord i)
  else (184, setBits (s.mirror i).cfg 0 2 i)

/-- Does an item of `SWITCH_CONFIG_GET` exist. -/
def switchIndexOk (item queue i : Nat) : Bool :=
  if item = 0 then within 1 4094 i
  else if item = 1 then decide (i ≤ portCount)
  else if item = 2 then decide (i < 4096)
  else if item = 3 then decide (i < 16384)
  else if item = 4 then decide (i < 32768)
  else if item = 5 then decide (i < portCount) && decide (queue ≤ 8)
  else if item = 6 then decide (i < 4096)
  else item == 7 && decide (i < 4)

/-- `SWITCH_CONFIG_GET` (R377). -/
def cmdSwitchConfigGet : Command where
  opcode := 0x040C
  layout _ := { size := 32, fields := [(0, 8), (16, 16)] }
  range q _ := switchIndexOk (q.f 0 4) (q.f 4 4) (q.f 16 16)
  run q s := .done stOk [s.switchItem (q.f 0 4) (q.f 4 4) (q.f 16 16)] s

def execSwitchConfigGet (q : Req) (s : State) : Host.Outcome State Fault Refusal := runCommand cmdSwitchConfigGet q s

/-- `SWITCH_STATUS` (R378): the read clears `cells_peak` (R10). -/
def cmdSwitchStatus : Command where
  opcode := 0x040D
  run _ s :=
    let w := s.sw
    .done stOk [(32, s.sharedFree), (32, w.peak), (32, w.macs.length), (32, s.banks.active.mac.length), (32, w.groups.length),
      (48, w.ctrLearnFull), (48, w.ctrLearnLimit), (48, w.ctrMoveDenied), (48, w.ctrSnoopFull), (48, w.ctrUnknown), (48, w.ctrVlan),
      (48, w.ctrState)] { s with sw := { w with peak := 0 } }

def execSwitchStatus (q : Req) (s : State) : Host.Outcome State Fault Refusal := runCommand cmdSwitchStatus q s

/-- The five fields of `SWITCH_COUNTERS` (R379). -/
def State.switchCounters (s : State) (kind p k i : Nat) : Fields :=
  let qc := fun j => Tbl.getD s.sw.qCtr (4 * (16 * p + k) + j) 0
  let fc := fun j => Tbl.getD s.sw.flowCtr (4 * i + j) 0
  let m := s.mirror i
  let depth := cellSum (s.queue p k) + cellSum ((s.queue p 9).filter (fun c => c.cls == k))
  if kind = 0 then [(64, qc 0), (64, qc 1), (64, qc 2), (64, if k = 8 then qc 3 else 0), (32, depth)]
  else if kind = 1 then [(64, fc 0), (64, fc 1), (64, fc 2), (64, 0), (32, 0)]
  else if kind = 2 then [(64, Tbl.getD s.sw.ruleHits i 0), (64, 0), (64, 0), (64, 0), (32, 0)]
  else [(64, m.copies), (64, m.drop), (64, m.skipped), (64, m.sampledOut), (32, 0)]

/-- `SWITCH_COUNTERS` (R379). -/
def cmdSwitchCounters : Command where
  opcode := 0x040E
  layout _ := { size := 48, fields := [(0, 2), (8, 12), (32, 16)] }
  range q _ :=
    if q.f 0 2 = 0 then decide (q.f 8 8 < portCount) && decide (q.f 16 4 ≤ 8)
    else if q.f 0 2 = 1 then decide (q.f 32 16 < 4096)
    else if q.f 0 2 = 2 then decide (q.f 32 16 < 16384)
    else decide (q.f 32 16 < 4)
  run q s := .done stOk (s.switchCounters (q.f 0 2) (q.f 8 8) (q.f 16 4) (q.f 32 16)) s

def execSwitchCounters (q : Req) (s : State) : Host.Outcome State Fault Refusal := runCommand cmdSwitchCounters q s

end Sys2Proof.Machine
end

