-- ==== Sys2Proof/Machine/CueRows.lean ====
section
/-!
DEFINITION. Rows of the cue table: the tests a row passes to be armed, arming, and how a row ends
(08_cues.md R222 to R242).
-/
namespace Sys2Proof.Machine

/-! ### Fields of a row (R249) -/

def Row.record (r : Row) : Bool := bit r.req 5
def Row.notify (r : Row) : Bool := bit r.req 6
def Row.scene (r : Row) : Nat := bits r.req 32 16
def Row.slot (r : Row) : Nat := bits r.req 48 16
def Row.when (r : Row) : Nat := bits r.req 96 96
def Row.widthPs (r : Row) : Nat := bits r.req 192 64
def Row.userTag (r : Row) : Nat := bits r.req 256 32

/-- Units of 10 ps nearest to an instant, a half up (R222). -/
def tenPs (u : Int) : Int := (200 * u + 65536) / 131072
/-- The instant of a whole number of 10 ps, 2^-16 ns. -/
def ofTenPs (n : Int) : Int := divNear (n * 65536) 100
/-- A width in ps as whole tens of ps, a half up (R222). -/
def widthTens (ps : Nat) : Nat := (ps + 5) / 10

/-- Reason codes (R225). -/
def rsNone : Nat := 0
def rsLead : Nat := 1
def rsPrefetch : Nat := 2
def rsLink : Nat := 3
def rsStep : Nat := 4
def rsCollision : Nat := 5
def rsCapacity : Nat := 6
def rsTarget : Nat := 7
def rsConfig : Nat := 8
def rsHost : Nat := 9
def rsRoot : Nat := 10
def rsDomain : Nat := 11
def rsWire : Nat := 12

/-- Rows of the cue table (R222). -/
def cueRows : Nat := 65536

/-- Minimum lead of a kind, 2^-16 ns (R222). -/
def minLead (kind : Nat) : Int := if kind = 1 then 2 * uMs else 20 * uUs

/-- What "per target" names (R237): 0 a port, 1 an output, 2 a capture source, 3 none. -/
def rowFamily (kind target : Nat) : Nat × Nat :=
  if kind ≤ 3 then (0, target) else if kind = 4 then (1, target) else if kind = 7 then (3, 0) else (2, target)

/-- Armed rows: not templates. -/
def State.armedRows (s : State) : List (Nat × Row) := s.cue.rows.filter (fun e => !e.2.template)

/-! ### Tests (R225, R234, R237) -/

/-- Is a capture source usable (R234). -/
def State.sourceUsable (s : State) (src : Nat) : Bool :=
  if src < 16 then (s.chan src).state == 2 && (s.chan src).captures else s.inService (src - 16)

/-- Is a row's target usable (R225 `TARGET`). -/
def State.targetUsable (s : State) (r : Row) : Bool :=
  if r.kind ≤ 3 then s.inService r.target
  else if r.kind = 4 then (s.output r.target).running && (s.output r.target).mode == 3
  else s.sourceUsable r.target

/-- Does a bank remove a row's target (R234, R237 `CONFIG`). -/
def Bank.removes (b : Bank) (r : Row) : Bool :=
  if r.kind ≤ 3 then b.mode r.target == 0
  else if r.kind = 4 then b.outMode r.target != 3
  else if r.kind = 7 then false
  else decide (16 ≤ r.target) && b.mode (r.target - 16) == 0

/-- Edges of an `EDGE` row in units of 10 ps (R233). -/
def Row.edges (r : Row) : List Int :=
  if r.param = 2 then [tenPs r.inst, tenPs r.inst + widthTens r.widthPs] else [tenPs r.inst]

/-- Do two rows collide (R237). -/
def State.collide (s : State) (a b : Row) : Bool :=
  if a.kind = 1 ∧ b.kind = 1 ∧ a.target = b.target then
    let p := a.target
    let lo := fun (r : Row) => s.rawAt r.inst - (s.wire p 8 : Int)
    let hi := fun (r : Row) => s.rawAt r.inst + (s.wire p (r.length + 16) : Int)
    decide (lo a < hi b) && decide (lo b < hi a)
  else if (a.kind = 2 ∨ a.kind = 3) ∧ (b.kind = 2 ∨ b.kind = 3) ∧ a.target = b.target then
    s.tickOf a.inst == s.tickOf b.inst && (a.param &&& b.param) != 0
  else if a.kind = 4 ∧ b.kind = 4 ∧ a.target = b.target then
    a.edges.any (fun x => b.edges.any (fun y => decide ((x - y).natAbs < 1000)))
  else if (a.kind = 5 ∨ a.kind = 6) ∧ (b.kind = 5 ∨ b.kind = 6) ∧ a.target = b.target then s.tickOf a.inst == s.tickOf b.inst
  else false

/-- Would some span of `len` that holds `inst` carry more than `limit`, over instants with weights that include it. -/
def spanOver (pts : List (Int × Nat)) (inst len : Int) (limit : Nat) : Bool :=
  pts.any (fun x => decide (inst - len < x.1) && decide (x.1 ≤ inst)
    && decide (limit < ((pts.filter (fun y => decide (x.1 ≤ y.1) && decide (y.1 < x.1 + len))).map (·.2)).sum))

/-- The instant after which the `CONFIG` test looks at the shadow: that of the armed `EQUINOX` row; of a `TAGGED` shadow
without one, the tag's instant once a `PREPARE` has fixed it, and the present before (R237; 13_configuration_banks.md R432). -/
def State.shadowInstant (s : State) (row : Option Int) : Option Int :=
  match row with
  | some t => some t
  | none =>
    if s.banks.state = .tagged then some (if s.rnd.part = .prepared then (s.rnd.inst : Int) else s.nowU) else none

/-- The tests of R237 in the order of its table, over rows armed before: a reason, or none. The inactive edge of a pulse
whose active edge is placed still counts on its output. -/
def State.rowConflict (s : State) (r : Row) : Nat :=
  let live := s.armedRows.map (·.2)
  let mine := live.filter (fun x => rowFamily x.kind x.target == rowFamily r.kind r.target)
  let ones := fun (l : List Row) => (r :: l).map (fun x => (x.inst, 1))
  let bytes := (r :: mine.filter (fun x => x.kind == 1)).map (fun x => (x.inst, x.length))
  let eq := live.find? (·.equinox)
  let falls := if r.kind = 4 then (s.output r.target).pulseEnds else []
  if live.any (s.collide r) ∨ falls.any (fun e => r.edges.any (fun x => decide ((x - tenPs (e + s.time.stepSum)).natAbs < 1000))) then rsCollision
  else if r.kind = 1 ∧ spanOver bytes r.inst (2 * uMs) (if isQ r.target then 262144 else 65536) then rsCapacity
  else if r.kind ≠ 7 ∧ spanOver (ones mine) r.inst (50 * uUs) 64 then rsCapacity
  else if spanOver (ones live) r.inst uMs 8192 ∨ cueRows ≤ s.cue.rows.length then rsCapacity
  else if (s.shadowInstant (eq.map (·.inst))).elim false (fun t => decide (t < r.inst) && s.banks.shadow.removes r) then rsConfig
  else rsNone

/-- Why a row is refused at arming: `LEAD` first, then `TARGET`, then R237. -/
def State.rowRefusal (s : State) (r : Row) : Nat :=
  if r.inst - s.nowU < minLead r.kind then rsLead
  else if !s.targetUsable r then rsTarget
  else s.rowConflict r

/-! ### Arming -/

/-- The lowest free row. -/
def State.freeRow (s : State) : Nat := ((List.range (s.cue.rows.length + 1)).find? (fun i => (Tbl.get? s.cue.rows i).isNone)).getD 0

/-- A row enters the table in the lowest free place. -/
def State.putRow (r : Row) (s : State) : Nat × State :=
  let id := s.freeRow
  (id, { s with cue := { s.cue with rows := Tbl.put s.cue.rows id r, nextSeq := s.cue.nextSeq + 1 } })

/-- A row is armed; it is handed over at once when less than 50 µs remain (R238). -/
def State.armRow (r : Row) (s : State) : Nat × State :=
  s.putRow { r with seqNo := s.cue.nextSeq, handed := decide (r.inst - s.nowU ≤ 50 * uUs) }

/-- The row a `CUE_ADD` layout and an instant make; `root` and `round` name the domain round that arms it, 0 for `CUE_ADD`. -/
def rowOf (req : Nat) (inst : Int) (root round : Nat) : Row := { req := req, inst := inst, root := root, round := round }

/-! ### Ending (R224, R236, R241) -/

/-- Outcome codes of R236; `CANCELLED` is 1. -/
def ocExecuted : Nat := 0
def ocCancelled : Nat := 1
def ocLate : Nat := 2

/-- `CUE_END` is posted, or kept in the engine while firmware is halted: up to 4,096, the oldest `EXECUTED` going first (R241). -/
def State.cueEndEvent (payload : Fields) (executed : Bool) (cause : Time96) (s : State) : State :=
  if s.fw.running ∧ s.cue.kept.isEmpty then s.postAt cause 0x0A01 payload
  else
    let all := s.cue.kept ++ [{ payload := payload, executed := executed, cause := cause, epoch := s.time.stepEpoch }]
    if all.length ≤ 4096 then { s with cue := { s.cue with kept := all } }
    else
      let n := inc48 s.cue.dropped 1
      let left := match all.find? (·.executed) with
        | some o => all.erase o
        | none => all.drop 1
      ({ s with cue := { s.cue with kept := left, dropped := n } }).counterHalf s.cue.dropped n 0x0A04 0 256

/-- Kept outcomes are posted when firmware runs (R241). -/
def State.postKeptCues (s : State) : State :=
  s.cue.kept.foldl (fun t o => t.writeEvent { code := 0x0A01, late := true, cause := o.cause, epoch := o.epoch, payload := o.payload })
    { s with cue := { s.cue with kept := [] } }

/-- The stamp of a row's record (R236): the scheduled edge, the effective tick, or the egress stamp where there is one. -/
def State.rowStamp (s : State) (r : Row) (egress : Option Int) : Option Int :=
  if r.kind = 1 then egress
  else if r.kind = 4 then some (ofTenPs (tenPs r.inst))
  else some (s.timeAt (s.tickOf r.inst * 262144))

/-- A row ends: it is freed, counted, recorded and reported. A `FRAME` row that launched no frame has no egress stamp, and
none is issued (01_architecture.md R19): DESIGN CHOICE (log entry 75), its record's `stamp` is 0 and its event ends before
that field. -/
def State.endRow (id outcome reason : Nat) (egress : Option Int) (s : State) : State :=
  match Tbl.get? s.cue.rows id with
  | none => s
  | some r =>
    let s1 := { s with cue := { s.cue with rows := Tbl.erase s.cue.rows id } }
    if r.equinox then s1
    else
      let n := if outcome = ocExecuted then inc48 s.cue.executed 1 else inc48 s.cue.late 1
      let s2 :=
        if outcome = ocExecuted then ({ s1 with cue := { s1.cue with executed := n } }).counterHalf s.cue.executed n 0x0A04 0 160
        else if outcome = ocLate then ({ s1 with cue := { s1.cue with late := n } }).counterHalf s.cue.late n 0x0A04 0 208
        else s1
      let stamp := (s2.rowStamp r egress).map (fun u => (Time96.ofUnits u).word)
      let s3 := if r.record ∧ outcome ≠ ocCancelled then
          (s2.captureRecord [(96, stamp.getD 0), (32, r.userTag), (16, id), (8, r.target), (4, r.kind), (4, outcome), (8, reason),
            (8, s2.time.stepEpoch), rz 64, (8, 2), rz 8]).2
        else s2
      if outcome = ocLate ∨ r.notify then
        let inst := Time96.ofUnits r.inst
        s3.cueEndEvent ([(16, id), (32, r.userTag), (4, r.kind), (8, r.target), (4, outcome), (8, reason), ft inst]
          ++ (if r.kind = 1 then stamp.toList.map (fun w => (96, w)) else [])) (outcome == ocExecuted)
          (if outcome = ocExecuted then inst else s3.now)
      else s3

end Sys2Proof.Machine
end

