-- ==== Sys2Proof/Machine/Cues.lean ====
section
/-!
DEFINITION. The cue engine: prefetch, hand-over and execution, capture gates, domain cues, and the commands of group 0x0A
(08_cues.md R222 to R254).
-/
namespace Sys2Proof.Machine

/-! ### Prefetch and hand-over (R227, R228, R238) -/

/-- The state with a row changed. -/
def State.updRow (id : Nat) (f : Row → Row) (s : State) : State :=
  match Tbl.get? s.cue.rows id with
  | some r => { s with cue := { s.cue with rows := Tbl.put s.cue.rows id (f r) } }
  | none => s

/-- Frame rows that wait for their frame. -/
def State.unfetched (s : State) : List (Nat × Row) := s.armedRows.filter (fun e => e.2.kind == 1 && e.2.buffered.isNone)

/-- The rows whose frame the prefetch engine may be reading at an offset of the window: armed frame cues whose frame is not
yet buffered, whose lead is at most 2 ms, and whose slot holds the offset (R226, R227). -/
def State.prefetching (s : State) (off : Nat) : List (Nat × Row) :=
  s.unfetched.filter (fun e =>
    let base := cueBufferOffset + 16384 * e.2.slot
    decide (s.nowU ≤ e.2.inst) && decide (e.2.inst ≤ s.nowU + 2 * uMs) && decide (base ≤ off + 63) && decide (off < base + e.2.length))

/-- What the reader of an uncorrectable line does (R504), by its master code (16_faults_and_midwinter.md R526). -/
def State.readerOutcome (master region line : Nat) (s : State) : State :=
  if master = 4 ∧ region = 3 then s.emit (.bar2 (line * 64) true (2 ^ 512 - 1))
  else if master = 8 ∧ region = 1 then { s with ts := { s.ts with ledger := dropWay (line / 8) (line % 8) s.ts.ledger } }
  else if master = 2 ∧ region = 2 then s.dramWrite 2 (lineKey region line) true
  else if master = 7 ∧ region = 3 then
    (s.prefetching (line * 64)).foldl (fun t e => t.endRow e.1 ocLate rsPrefetch none) s
  else s

/-- A reader meets an uncorrectable or poisoned line (R504). -/
def execDramUncorrectableRead (dt master region line : Nat) (soft stuck : List (Nat × Nat)) (s : State) :
    Host.Outcome State Fault Refusal :=
  let s1 := s.advance dt
  if line < regionLines region then
    let (ok, s2) := (s1.hurt (lineKey region line) soft stuck).dramRead master 1 (lineKey region line)
    .next (if ok then s2 else s2.readerOutcome master region line)
  else .fault .noSuchUnit

/-- A cue frame is copied into the launch buffer; an uncorrectable line ends the cue (R227, R228). -/
def State.prefetch (id : Nat) (r : Row) (s : State) : State :=
  let off := cueBufferOffset + 16384 * r.slot
  let (ok, s1) := s.windowRead 7 off r.length
  if ok then s1.updRow id (fun r => { r with buffered := some (ofBytes (Memory.readAll s1.mem.bytes off r.length)) })
  else s1.endRow id ocLate rsPrefetch none

/-- Prefetch of every frame cue within 2 ms of its instant, and not within 1 ms (R228). -/
def execCuePrefetchStart (dt : Nat) (s : State) : Host.Outcome State Fault Refusal :=
  let s1 := s.advance dt
  let due := s1.unfetched.filter (fun e => decide (e.2.inst - 2 * uMs ≤ s1.nowU) && decide (s1.nowU ≤ e.2.inst - uMs))
  .next (due.foldl (fun t e => t.prefetch e.1 e.2) s1)

/-- At the instant minus 1 ms a frame not in the launch buffer ends its cue (R228). -/
def execCuePrefetchDeadline (dt : Nat) (s : State) : Host.Outcome State Fault Refusal :=
  let s1 := s.advance dt
  let due := s1.unfetched.filter (fun e => decide (e.2.inst - uMs ≤ s1.nowU))
  .next (due.foldl (fun t e => t.endRow e.1 ocLate rsPrefetch none) s1)

/-- Armed rows within 50 µs of their instant are handed to their islands (R238). -/
def execCueHandover (dt : Nat) (s : State) : Host.Outcome State Fault Refusal :=
  let s1 := s.advance dt
  .next { s1 with cue := { s1.cue with rows := s1.cue.rows.mapVal (fun r =>
    if !r.template ∧ r.inst - s1.nowU ≤ 50 * uUs then { r with handed := true } else r) } }

/-! ### Execution (R21, R229 to R234) -/

/-- The copy record of a cue frame on its port's wire: sent as it stands in the slot. -/
def cueCopy (r : Row) (data : Nat) : Copy :=
  { frame := { len := r.length + 4, dst := ofBytesBE (toBytes 6 data) }, ingress := 56, cls := 8, untouched := true }

/-- A cue frame is launched so that its first bit after the SFD crosses the lands at the instant, or ends `LATE` (R21, R229, R231). -/
def State.launchCue (id : Nat) (r : Row) (s : State) : State :=
  let p := r.target
  let free := fun (t : State) => t.updPort p (fun x => { x with guard := if x.guard = some id then none else x.guard })
  let start := (s.cueStart p r).toNat
  let stale := fun (t : State) (k : Nat) => (free (t.endRow id ocLate k none))
  if (s.port p).link ≠ .up then (stale s rsLink).stat p 42 1
  else
    match r.buffered with
    | none => stale s rsPrefetch
    | some data =>
      if (s.port p).wire.elim false (fun w => decide (start < w.finish)) then stale s rsWire
      else
        let raw := s.rawAt r.inst
        let w : OnWire := {
          copy := cueCopy r data, start := start, finish := start + s.wire p (r.length + 24), express := true }
        let s1 := (s.updPort p (fun x => { x with wire := some w })).countTx p (cueCopy r data).frame.dst (r.length + 4)
        free ((s1.emit (.frame p .cue [(8 * r.length, data)])).endRow id ocExecuted rsNone (some (s1.txStamp p raw)))

/-- An output is driven to a level at an instant, if that changes it (R233); TIC8 checks each such edge of the output it
watches. -/
def State.driveEdge (o : Nat) (level : Bool) (inst : Int) (s : State) : State :=
  if (s.output o).level = level then s
  else
    (s.updOut o (fun x => { x with
      level := level, placed := if s.watched o then (inst - s.time.stepSum) :: x.placed else x.placed })).showEdge o level inst

/-- Inactive edges of cue pulses due by an instant of the time base are placed: a step of the time base neither shortens nor
lengthens a pulse (05_references_and_holdover.md R139). -/
def State.pulseFalls (upTo : Int) (s : State) : State :=
  (List.range 8).foldl (fun t o =>
    ((t.output o).pulseEnds.filter (fun e => decide (e + s.time.stepSum ≤ upTo))).foldl (fun t e =>
      (t.updOut o (fun x => { x with pulseEnds := x.pulseEnds.erase e })).driveEdge o false (e + s.time.stepSum)) t) s

/-- A gate cue takes effect (R232). The time a gate is closed does not count for the reserved frames that wait behind it
(11_switch_core.md R357). -/
def State.moveGates (r : Row) (s : State) : State :=
  let closed := Tbl.getD s.cue.closedGates r.target 0
  let next := if r.kind = 3 then closed ||| r.param else closed - (closed &&& r.param)
  let hold := fun (c : Copy) =>
    if bit next c.cls ∧ !bit closed c.cls then { c with due := c.due - s.rawNow }
    else if bit closed c.cls ∧ !bit next c.cls then { c with due := c.due + s.rawNow }
    else c
  let s1 := s.updPort r.target (fun x => { x with queues := Tbl.upd x.queues 9 [] (fun q => q.map hold) })
  { s1 with cue := { s1.cue with closedGates := Tbl.put s1.cue.closedGates r.target next } }

/-- A capture gate opens or closes at the row's effective tick (R234); the eight latest moves of a source are kept, each with
the gate's state before it, since a frame's stamp may lie before the row that finds it. -/
def State.moveCapture (r : Row) (s : State) : State :=
  let c := s.cap
  let c1 := if r.target < 16 then
      { c with closedTdc := if r.kind = 5 then c.closedTdc.filter (· ≠ r.target) else r.target :: c.closedTdc.filter (· ≠ r.target) }
    else
      let p := r.target - 16
      { c with openPorts := if r.kind = 5 then p :: c.openPorts.filter (· ≠ p) else c.openPorts.filter (· ≠ p) }
  let mine := ((r.target, s.timeAt (s.tickOf r.inst * 262144) - s.time.stepSum, r.kind == 5, s.captureNow r.target) :: c.moves.filter (fun m => m.1 == r.target)).take 8
  { s with cap := { c1 with moves := mine ++ c.moves.filter (fun m => m.1 != r.target) } }

/-- An edge cue places its edge, or the two edges of its pulse (R233). -/
def State.placeEdge (r : Row) (s : State) : State :=
  let inst := ofTenPs (tenPs r.inst)
  if r.param = 1 then s.driveEdge r.target false inst
  else
    let s1 := s.driveEdge r.target true inst
    if r.param = 2 then
      s1.updOut r.target (fun x => { x with pulseEnds := x.pulseEnds ++ [ofTenPs (tenPs r.inst + widthTens r.widthPs) - s.time.stepSum] })
    else s1

/-- Why a row whose target is no longer usable at its instant ends `LATE` (R225): an armed `EQUINOX` has removed it, or it is
not usable for another reason. -/
def Row.goneReason (r : Row) : Nat := if r.gone then rsConfig else rsTarget

/-- The comparator fires one row; a target no longer usable ends it `LATE` (R222, R225). -/
def State.fireRow (id : Nat) (r : Row) (s : State) : State :=
  let s0 := s.pulseFalls r.inst
  if r.kind = 1 then s0.launchCue id r
  else if !s0.targetUsable r then s0.endRow id ocLate r.goneReason none
  else
    let s1 := if r.kind ≤ 3 then s0.moveGates r else if r.kind = 4 then s0.placeEdge r else s0.moveCapture r
    s1.endRow id ocExecuted rsNone none

/-- Has a row's moment come: its preamble start for a frame, else its instant. -/
def State.rowDue (s : State) (r : Row) : Bool :=
  !r.template && !r.equinox && decide ((if r.kind = 1 then s.cueStart r.target r else s.rawAt r.inst) ≤ s.rawU)

/-- Rows in order of instant, then of arming. -/
def orderRows (l : List (Nat × Row)) : List (Nat × Row) :=
  l.mergeSort (fun a b => decide (a.2.inst < b.2.inst) || (a.2.inst == b.2.inst && decide (a.2.seqNo ≤ b.2.seqNo)))

/-- At their instants the comparators fire the rows that are due (R222 to R234). -/
def execCueExecute (dt : Nat) (s : State) : Host.Outcome State Fault Refusal :=
  let s1 := s.advance dt
  let due := orderRows (s1.cue.rows.filter (fun e => s1.rowDue e.2))
  .next ((due.foldl (fun t e => t.fireRow e.1 e.2) s1).pulseFalls s1.nowU)

/-- A disabled capture ring reports quiescent (R235). -/
def execCaptureRingQuiescent (dt : Nat) (s : State) : Host.Outcome State Fault Refusal :=
  let s1 := s.advance dt
  .next (if s1.cap.draining then
    ({ s1 with cap := { s1.cap with draining := false } }).finish (fun w => w.obj = some Obj.captureRing) stOk (fun _ => [])
  else s1)

/-! ### Commands -/

/-- Rounds an offset of R242 spans: |offset| ≤ 3,600 s. -/
def templateOffsetOk (w : Nat) : Bool := bits w 64 32 == 0 && withinI (-3600 * uS) (3600 * uS) (toSigned 64 (bits w 0 64))

/-- Are the fields of a `CUE_ADD` request in range (R222, R226, R233, R242, R249). -/
def cueFieldsOk (q : Req) (s : State) : Bool :=
  let k := q.f 0 4
  let t := q.f 8 8
  let par := q.f 16 8
  let slot := q.f 48 16
  let len := q.f 64 16
  let width := q.f 192 64
  within 1 6 k
    && (if k ≤ 3 then decide (t < portCount) else if k = 4 then decide (t < 8) else within 9 15 t || within 0x10 0x47 t)
    && (k == 2 || k == 3 || (k == 4 && decide (par ≤ 2)) || par == 0)
    && (q.b 4 || q.f 32 16 == 0)
    && (if k = 1 then decide (slot < 8192) && within 60 (s.banks.active.maxFrame t - 4) len else slot == 0 && len == 0)
    && (if k = 4 ∧ par = 2 then within 1000 100000000000 (widthTens width) else width == 0)
    && (if q.b 4 then templateOffsetOk (q.f 96 96) else Time96.legal (q.f 96 96))

/-- A refusal of `CUE_ADD`: no row is named (log entry 3). -/
def cueRefuse (status reason : Nat) (s : State) : Reply :=
  let (v, s1) := s.draw 16
  .done status [(16, v), (8, reason)] s1

/-- `CUE_ADD` (R249). -/
def cmdCueAdd : Command where
  opcode := 0x0A01
  layout _ := { size := 288, fields := [(0, 7), (8, 16), (32, 48), (96, 192)] }
  range q s := cueFieldsOk q s
  run q s :=
    if q.b 4 then
      if cueRows ≤ s.cue.rows.length then cueRefuse stNotPermitted rsCapacity s
      else
        let (id, s1) := s.putRow { req := q.body, template := true, inst := toSigned 64 (q.f 96 64) }
        .done stOk [(16, id), (8, 0)] s1
    else
      let r := rowOf q.body (Time96.ofWord (q.f 96 96)).units 0 0
      let why := s.rowRefusal r
      if why = rsLead then cueRefuse stLate why s
      else if why ≠ rsNone then cueRefuse stNotPermitted why s
      else
        let (id, s1) := s.armRow r
        .done stOk [(16, id), (8, 0)] s1

def execCueAdd (q : Req) (s : State) : Host.Outcome State Fault Refusal := runCommand cmdCueAdd q s

/-- A row is cancelled: its guard band goes with it (R238). -/
def State.cancelRow (id reason : Nat) (s : State) : State := s.endRow id ocCancelled reason none

/-- `CUE_CANCEL` (R250). -/
def cmdCueCancel : Command where
  opcode := 0x0A02
  layout _ := { size := 48, fields := [(0, 17), (32, 16)] }
  run q s :=
    if q.b 16 then
      .done stOk [] { s with cue := { s.cue with rows := s.cue.rows.filter (fun e => !(e.2.template && e.2.scene == q.f 32 16)) } }
    else
      match Tbl.get? s.cue.rows (q.f 0 16) with
      | none => .done stBadParam [] s
      | some r =>
        if r.equinox then .done stNotPermitted [] s
        else if r.template then .done stOk [] { s with cue := { s.cue with rows := Tbl.erase s.cue.rows (q.f 0 16) } }
        else if r.handed then .done stLate [] s
        else .done stOk [] (s.cancelRow (q.f 0 16) rsHost)

def execCueCancel (q : Req) (s : State) : Host.Outcome State Fault Refusal := runCommand cmdCueCancel q s

/-- State code of a row in `CUE_LIST` (R251). -/
def Row.listState (r : Row) : Nat := if r.equinox then 4 else if r.template then 2 else if r.handed then 3 else 1

/-- Is a row selected by the `states` field: an `EQUINOX` row is an armed row. -/
def Row.selected (r : Row) (states : Nat) : Bool :=
  bit states (if r.template then 1 else if r.handed ∧ !r.equinox then 2 else 0)

/-- `CUE_LIST` (R251). -/
def cmdCueList : Command where
  opcode := 0x0A03
  layout _ := { size := 20, fields := [(0, 20)] }
  run q s :=
    let l := (s.cue.rows.filter (fun e => decide (q.f 0 16 ≤ e.1) && e.2.selected (q.f 16 4))).take 64
    .done stOk ([(8, l.length), rz 56] ++ l.flatMap (fun e => [(288, e.2.req), (16, e.1), (4, e.2.listState), (32, e.2.round), rz 44])) s

def execCueList (q : Req) (s : State) : Host.Outcome State Fault Refusal := runCommand cmdCueList q s

/-- Minimum lead time of a domain cue, ns (07_timing_domain.md R210). -/
def State.domainLeadNs (s : State) : Nat := s.domainLead * 2000 + 100000

/-- `CUE_STATUS` (R252). Free rows that 16 bits cannot hold are a free value (log entry 3). -/
def cmdCueStatus : Command where
  opcode := 0x0A04
  run _ s :=
    let armed := s.armedRows.length
    let room := cueRows - s.cue.rows.length
    let (v, s1) := if room < 65536 then (room, s) else s.draw 16
    .done stOk [(16, armed), (16, s.cue.rows.length - armed), (16, v), rz 16, (64, cueBufferOffset), (32, s.domainLeadNs),
      (48, s.cue.executed), (48, s.cue.late), (48, s.cue.dropped), (48, s.cap.lostPorts), (64, s.cap.producer)] s1

def execCueStatus (q : Req) (s : State) : Host.Outcome State Fault Refusal := runCommand cmdCueStatus q s

/-- `CAPTURE_RING_SET` (R235, R254): a disable answers at quiescence. -/
def cmdCaptureRingSet : Command where
  opcode := 0x0A07
  layout _ := { size := 89, fields := [(0, 89)] }
  range q _ := q.f 0 64 % 4096 == 0 && isPow2 (q.f 64 24) && within 4096 4194304 (q.f 64 24)
    && decide (q.f 0 64 + 32 * q.f 64 24 + 16 ≤ windowBytes)
  objs _ := [.captureRing]
  run q s :=
    let c := s.cap
    if c.enable ∧ (q.f 0 64 ≠ c.offset ∨ q.f 64 24 ≠ c.entries) then .done stNotPermitted [] s
    else if q.b 88 then
      if c.enable then .done stOk [] s
      else .done stOk [] { s with cap := { c with offset := q.f 0 64, entries := q.f 64 24, enable := true, producer := 0, consumer := 0 } }
    else if c.enable then
      .aside { obj := some .captureRing, applied := true } { s with cap := { c with enable := false, draining := true } }
    else .done stOk [] { s with cap := { c with offset := q.f 0 64, entries := q.f 64 24 } }

def execCaptureRingSet (q : Req) (s : State) : Host.Outcome State Fault Refusal := runCommand cmdCaptureRingSet q s

/-- `CUE_FRAME_WRITE` (R254): whole lines, the tail of the last one zero. -/
def cmdCueFrameWrite : Command where
  opcode := 0x0A08
  layout q := { size := 64 + 8 * q.f 32 16, fields := [(0, 48), (64, 8 * q.f 32 16)] }
  range q _ := decide (q.f 0 16 < 8192) && q.f 16 16 % 64 == 0 && within 1 3968 (q.f 32 16)
    && decide ((q.f 16 16 + q.f 32 16 + 63) / 64 * 64 ≤ 16384)
  run q s :=
    if s.armedRows.any (fun e => e.2.kind == 1 && e.2.slot == q.f 0 16) then .done stNotPermitted [] s
    else
      let n := (q.f 32 16 + 63) / 64 * 64
      .done stOk [] (s.windowWrite 4 (cueBufferOffset + 16384 * q.f 0 16 + q.f 16 16)
        ((q.bytes 64 (q.f 32 16) ++ List.replicate 64 0).take n))

def execCueFrameWrite (q : Req) (s : State) : Host.Outcome State Fault Refusal := runCommand cmdCueFrameWrite q s

/-! ### Domain cues (R242 to R247) -/

/-- The template's instance at an instant: `bound` and `scene` clear, `when` as armed (R242). -/
def Row.instance_ (r : Row) (inst : Int) (root round : Nat) : Row :=
  let at_ := inst + r.inst
  rowOf (setBits (setBits (setBits r.req 4 1 0) 32 16 0) 96 96 (Time96.ofUnits at_).word) at_ root round

/-- Why an instance of a template is refused: a device in `dup_id` instantiates no domain cue (R225 `DOMAIN`). -/
def State.instanceRefusal (s : State) (r : Row) : Nat := if s.dom.dupId then rsDomain else s.rowRefusal r

/-- Arm the instances of a scene's templates: whether any was refused for `LEAD`, and for another reason. -/
def State.armScene (scene root round : Nat) (inst : Int) (s : State) : (Bool × Bool) × State :=
  (s.cue.rows.filter (fun e => e.2.template && e.2.scene == scene)).foldl (fun (a : (Bool × Bool) × State) e =>
    let r := e.2.instance_ inst root round
    let why := a.2.instanceRefusal r
    if why = rsNone then (a.1, (a.2.armRow r).2)
    else if why = rsLead then ((true, a.1.2), a.2)
    else ((a.1.1, true), a.2)) ((false, false), s)

/-- Cancel the instances of a root's round not yet handed over. -/
def State.cancelRound (root round : Nat) (s : State) : State :=
  (s.armedRows.filter (fun e => e.2.root == root && e.2.round == round && !e.2.handed && !e.2.equinox)).foldl (fun t e => t.cancelRow e.1 rsRoot) s

/-- Every round and cancel on record changed by `f`. -/
def State.mapRounds (f : CueRound → CueRound) (s : State) : State :=
  { s with cue := { s.cue with rounds := s.cue.rounds.map f, cancels := s.cue.cancels.map f } }

/-- This device's part in a round: it arms or cancels, and keeps the round's record among the last 64 rounds, or the last 64
cancels (R244, R245). -/
def State.joinRound (c : CueRound) (s : State) : State :=
  let ((late, fail), s1) :=
    if c.cancel then ((false, false), s.cancelRound c.root c.round) else s.armScene c.scene c.root c.round c.inst
  let ok := !late && !fail
  let rec_ : CueRound := { c with
    arrived := s.time.tick, okSelf := ok, late := late.toNat, fail := fail.toNat, okMap := if ok then 2 ^ s.deviceId else 0 }
  if c.cancel then { s1 with cue := { s1.cue with cancels := (rec_ :: s1.cue.cancels).take 64 } }
  else { s1 with cue := { s1.cue with rounds := (rec_ :: s1.cue.rounds).take 64 } }

/-- Send a frame to every child. -/
def State.toChildren (kind : Nat) (payload : Fields) (s : State) : State :=
  s.childPorts.foldl (fun t p => t.sendDomain p kind payload) s

/-- Fields of a `CUE_ANNOUNCE` or `CUE_CANCEL` payload, big-endian (R243). -/
def DomFrame.cueRound (f : DomFrame) : Nat := wireField f.payload 0 32
def DomFrame.cueScene (f : DomFrame) : Nat := wireField f.payload 32 16
def DomFrame.cueRoot (f : DomFrame) : Nat := wireField f.payload 48 16
def DomFrame.cueInstant (f : DomFrame) : Int := (Time96.ofWord (wireField f.payload 64 96)).units

/-- A domain cue frame from the parent of the current root, not yet acted on (R244). -/
def State.takesRound (f : DomFrame) (cancel : Bool) (s : State) : Bool :=
  s.dom.parentPort == some f.port && DomFrame.cueRoot f == s.dom.root.rootId && !s.dom.dupId
    && !(if cancel then s.cue.cancels else s.cue.rounds).any (fun c => c.round == DomFrame.cueRound f && c.root == DomFrame.cueRoot f)

/-- A `CUE_ANNOUNCE` frame is relayed and the scene's templates are armed (R244). -/
def execCueAnnounce (dt : Nat) (f : DomFrame) (s : State) : Host.Outcome State Fault Refusal :=
  withPort f.port (s.advance dt) (fun s1 =>
    let (ok, s2) := s1.acceptDomain f
    if !ok ∨ f.kind ≠ 0x10 ∨ !s2.takesRound f false then s2
    else (s2.toChildren 0x10 (rawFields 20 f.payload)).joinRound
      { round := DomFrame.cueRound f, root := DomFrame.cueRoot f, scene := DomFrame.cueScene f, inst := (DomFrame.cueInstant f).toNat })

/-- A cancel frame is relayed and the round's instances are cancelled (R244). -/
def execCueCancelFrame (dt : Nat) (f : DomFrame) (s : State) : Host.Outcome State Fault Refusal :=
  withPort f.port (s.advance dt) (fun s1 =>
    let (ok, s2) := s1.acceptDomain f
    if !ok ∨ f.kind ≠ 0x12 ∨ !s2.takesRound f true then s2
    else (s2.toChildren 0x12 (rawFields 20 f.payload)).joinRound { round := DomFrame.cueRound f, root := DomFrame.cueRoot f, cancel := true })

/-- A child's ack is merged into this device's (R245); in `dup_id` a device relays none (07_timing_domain.md R208). -/
def State.mergeAck (p payload : Nat) (s : State) : State :=
  s.mapRounds (fun c =>
    if c.round == wireField payload 0 32 && c.cancel == bit payload 32 && !c.sent && !c.acked.contains p && c.root == s.dom.root.rootId then
      { c with acked := p :: c.acked, okMap := c.okMap ||| bits payload 160 4096
               late := (c.late + wireField payload 64 16) % 65536, fail := (c.fail + wireField payload 80 16) % 65536 }
    else c)

def execCueAck (dt : Nat) (f : DomFrame) (s : State) : Host.Outcome State Fault Refusal :=
  withPort f.port (s.advance dt) (fun s1 =>
    let (ok, s2) := s1.acceptDomain f
    if ok ∧ f.kind = 0x11 ∧ s2.isChild f.port ∧ !s2.dom.dupId then s2.mergeAck f.port f.payload else s2)

/-- The wait of R245, ticks: 4 µs × (S − L) + 30 µs × (h + 1). -/
def State.ackWait (s : State) : Nat :=
  (4 * (s.subtreeLead - s.leadDepth) + 30 * (s.subtreeHops - s.dom.hops + 1)) * tickUs

/-- Children of the `MEMBERS` map: those whose `MEMBERS` has arrived (R245). -/
def State.memberPorts (s : State) : List Nat := s.childPorts.filter (fun p => (s.port p).trunk.members.isSome)

/-- Is a round's ack or result to be sent: every child of the `MEMBERS` map has acked, or the wait has run out. -/
def State.ackDue (s : State) (c : CueRound) : Bool :=
  !c.sent && (s.memberPorts.all c.acked.contains || decide (c.arrived + s.ackWait ≤ s.time.tick))

/-- The `CUE_ACK` layout of a round (R243). -/
def CueRound.ack (c : CueRound) : Fields :=
  [(32, c.round), fb c.cancel, rz 15, (16, mapCount c.okMap), (16, c.late), (16, c.fail), rz 64, (4096, c.okMap)]

/-- A round's merged ack goes to the parent, or its result is posted at the root, which keeps those of its last 16 rounds
(R245, R246, R254). -/
def State.sendAck (c : CueRound) (s : State) : State :=
  let done := { c with sent := true, members := mapCount s.subtreeMap }
  let s1 := s.mapRounds (fun x => if x == c then done else x)
  if c.mine then
    let l := done :: s1.cue.results
    let kept := l.filter (fun r => decide ((s.cue.nextRound + 2 ^ 32 - r.round) % 2 ^ 32 ≤ 16))
    ({ s1 with cue := { s1.cue with results := kept } }).post 0x0A02
      [(32, c.round), (16, c.scene), (16, mapCount c.okMap), (16, c.late), (16, c.fail), (16, done.members), fb c.cancel]
  else
    match s.dom.parentPort with
    | some p => s1.sendDomain p 0x11 c.ack
    | none => s1

/-- When arming and the children's acks are done, or the wait expires, the ack is sent upward (R245), but not in `dup_id`
(07_timing_domain.md R208). -/
def execCueAckSend (dt : Nat) (s : State) : Host.Outcome State Fault Refusal :=
  let s1 := s.advance dt
  .next (if s1.dom.dupId then s1
  else ((s1.cue.rounds.reverse ++ s1.cue.cancels.reverse).filter s1.ackDue).foldl (fun t c => t.sendAck c) s1)

/-- Is this device a root that announces. -/
def State.rootSpeaks (s : State) : Bool := s.banks.active.domEnable && s.dom.isRoot && !s.dom.dupId

/-- `CUE_DOMAIN_ANNOUNCE` (R246, R253): the root sends the frame and arms its own instances. -/
def cmdCueDomainAnnounce : Command where
  opcode := 0x0A05
  layout _ := { size := 128, fields := [(0, 16), (32, 96)] }
  range q _ := Time96.legal (q.f 32 96)
  run q s :=
    let inst := (Time96.ofWord (q.f 32 96)).units
    if !s.rootSpeaks then .done stNotPermitted [] s
    else if 16 ≤ (s.cue.rounds.filter (fun c => c.mine && !c.sent)).length then .done stBusy [] s
    else if inst - s.nowU < (s.domainLeadNs : Int) * uNs then .done stLate [] s
    else
      let n := s.cue.nextRound
      let s1 := { s with cue := { s.cue with
        nextRound := (n + 1) % 2 ^ 32
        issued := (n, inst.toNat, q.f 0 16) :: s.cue.issued.filter (fun e => decide (s.nowU ≤ (e.2.1 : Int))) } }
      let s2 := s1.toChildren 0x10 [(32, n), (16, q.f 0 16), (16, s.deviceId), (96, q.f 32 96)]
      .done stOk [(32, n)] (s2.joinRound { round := n, root := s.deviceId, scene := q.f 0 16, inst := inst.toNat, mine := true })

def execCueDomainAnnounce (q : Req) (s : State) : Host.Outcome State Fault Refusal := runCommand cmdCueDomainAnnounce q s

/-- `CUE_DOMAIN_CANCEL` (R253): any round this root announced whose instant lies far enough ahead. DEDUCED (log entry 78): a
round it never announced is `NOT_PERMITTED`. -/
def cmdCueDomainCancel : Command where
  opcode := 0x0A06
  layout _ := { size := 32, fields := [(0, 32)] }
  run q s :=
    if !s.rootSpeaks then .done stNotPermitted [] s
    else
      match s.cue.issued.find? (fun e => e.1 == q.f 0 32) with
      | none => if within 1 (s.cue.nextRound - 1) (q.f 0 32) then .done stLate [] s else .done stNotPermitted [] s
      | some (round, inst, scene) =>
        if (inst : Int) - s.nowU < (s.domainLeadNs : Int) * uNs then .done stLate [] s
        else if s.cue.cancels.any (fun d => d.mine && d.round == round) then .done stOk [] s
        else
          let s1 := s.toChildren 0x12 [(32, round), rz 16, (16, s.deviceId), rz 96]
          .done stOk [] (s1.joinRound { round := round, root := s.deviceId, scene := scene, cancel := true, mine := true })

def execCueDomainCancel (q : Req) (s : State) : Host.Outcome State Fault Refusal := runCommand cmdCueDomainCancel q s

/-- `CUE_DOMAIN_RESULT_GET` (R254). -/
def cmdCueDomainResultGet : Command where
  opcode := 0x0A09
  layout _ := { size := 32, fields := [(0, 32)] }
  run q s :=
    match s.cue.results.find? (fun c => c.round == q.f 0 32) with
    | some c => .done stOk c.ack s
    | none => .done stNotPermitted [] s

def execCueDomainResultGet (q : Req) (s : State) : Host.Outcome State Fault Refusal := runCommand cmdCueDomainResultGet q s

end Sys2Proof.Machine
end

