-- ==== Sys2Proof/Machine/BigNum.lean ====
section
/-!
DEFINITION. The arithmetic of the big-number engine: modular powers and inverses, the NIST curves P-256 and P-384,
ECDH, ECDSA and RSA (14_keys_and_big_numbers.md R469, R472, R474). The curves' parameters are those of FIPS 186
(log entry 30).
-/
namespace Sys2Proof.Machine

/-- `b ^ e` modulo `m`, over the bits of `e` (at most `fuel`). -/
def powModAux : Nat → Nat → Nat → Nat → Nat → Nat
  | 0, _, _, _, acc => acc
  | f + 1, b, e, m, acc => if e = 0 then acc else powModAux f (b * b % m) (e / 2) m (if e % 2 = 1 then acc * b % m else acc)

/-- `b ^ e` modulo `m`. -/
def powMod (b e m : Nat) : Nat := powModAux (Nat.log2 e + 1) (b % m) e m (1 % m)

/-- Inverse modulo `m` by Euclid's algorithm: remainders and coefficients. -/
def invModAux : Nat → Int → Int → Int → Int → Int
  | 0, _, _, _, _ => 0
  | f + 1, r0, r1, t0, t1 => if r1 = 0 then t0 else invModAux f r1 (r0 % r1) t1 (t0 - r0 / r1 * t1)

/-- Inverse of `a` modulo `m`, where it exists. -/
def invMod (a m : Nat) : Nat := (invModAux (2 * Nat.log2 m + 4) (m : Int) ((a % m : Nat) : Int) 0 1 % m).toNat

/-- A short Weierstrass curve with a = −3. -/
structure Curve where
  bytes : Nat
  p : Nat
  b : Nat
  n : Nat
  gx : Nat
  gy : Nat
deriving DecidableEq, Repr

/-- NIST P-256. -/
def p256 : Curve where
  bytes := 32
  p := 2 ^ 256 - 2 ^ 224 + 2 ^ 192 + 2 ^ 96 - 1
  b := 0x5ac635d8aa3a93e7b3ebbd55769886bc651d06b0cc53b0f63bce3c3e27d2604b
  n := 0xffffffff00000000ffffffffffffffffbce6faada7179e84f3b9cac2fc632551
  gx := 0x6b17d1f2e12c4247f8bce6e563a440f277037d812deb33a0f4a13945d898c296
  gy := 0x4fe342e2fe1a7f9b8ee7eb4a7c0f9e162bce33576b315ececbb6406837bf51f5

/-- NIST P-384. -/
def p384 : Curve where
  bytes := 48
  p := 2 ^ 384 - 2 ^ 128 - 2 ^ 96 + 2 ^ 32 - 1
  b := 0xb3312fa7e23ee7e4988e056be3f82d19181d9c6efe8141120314088f5013875ac656398d8a2ed19d2a85c8edd3ec2aef
  n := 0xffffffffffffffffffffffffffffffffffffffffffffffffc7634d81f4372ddf581a0db248b0a77aecec196accc52973
  gx := 0xaa87ca22be8b05378eb1c71ef320ad746e1d3b628ba79b9859f741e082542a385502f25dbf55296c3a545e3872760ab7
  gy := 0x3617de4a96262c6f5d9e98bf9292dc29f8f41dbd289a147ce9da3113b5f0b8c00a60b1ce1d7e819d7a431d7c90ea0e5f

/-- Is a point valid (R474): coordinates below p, not both zero, on the curve. -/
def Curve.onCurve (c : Curve) (x y : Nat) : Bool :=
  decide (x < c.p) && decide (y < c.p) && !(x == 0 && y == 0) && (y * y + 3 * x) % c.p == (x * x * x + c.b) % c.p

/-- Sum of two points; none is the point at infinity. -/
def Curve.add (c : Curve) : Option (Nat × Nat) → Option (Nat × Nat) → Option (Nat × Nat)
  | none, q => q
  | p, none => p
  | some (x1, y1), some (x2, y2) =>
    if x1 = x2 ∧ (y1 + y2) % c.p = 0 then none
    else
      let l := if x1 = x2 then (3 * x1 * x1 + (c.p - 3)) * invMod (2 * y1) c.p % c.p
        else (y2 + c.p - y1) * invMod (x2 + c.p - x1) c.p % c.p
      let x := (l * l + (c.p - x1) + (c.p - x2)) % c.p
      some (x, (l * (x1 + c.p - x) + (c.p - y1)) % c.p)

/-- Double and add over the bits of the scalar (at most `fuel`). -/
def Curve.mulAux (c : Curve) : Nat → Nat → Option (Nat × Nat) → Option (Nat × Nat) → Option (Nat × Nat)
  | 0, _, _, acc => acc
  | f + 1, k, q, acc => if k = 0 then acc else Curve.mulAux c f (k / 2) (c.add q q) (if k % 2 = 1 then c.add acc q else acc)

/-- `k` times a point. -/
def Curve.mul (c : Curve) (k : Nat) (q : Nat × Nat) : Option (Nat × Nat) := c.mulAux (Nat.log2 k + 1) k (some q) none

/-- Q = d·G (R462). -/
def Curve.pub (c : Curve) (d : Nat) : Nat × Nat := (c.mul d (c.gx, c.gy)).getD (0, 0)

/-- ECDSA with the nonce of RFC 6979 (R472). -/
def Curve.sign (c : Curve) (d digest : Nat) : Nat × Nat :=
  let k := (if c.bytes = 32 then sha256 else sha384).nonce c.n d digest
  let r := (c.pub k).1 % c.n
  (r, invMod k c.n * ((digest + r * d) % c.n) % c.n)

/-- Does a signature verify (R475). -/
def Curve.verify (c : Curve) (q : Nat × Nat) (digest r s : Nat) : Bool :=
  let w := invMod s c.n
  match c.add (c.mul (digest % c.n * w % c.n) (c.gx, c.gy)) (c.mul (r * w % c.n) q) with
  | some (x, _) => x % c.n == r
  | none => false

/-! ### RSA (R469, R474) -/

/-- An RSA CRT key as imported. -/
structure RsaKey where
  n : Nat
  e : Nat
  p : Nat
  q : Nat
  dp : Nat
  dq : Nat
  qinv : Nat
deriving DecidableEq, Repr

/-- N odd with its top bit set; e odd with 3 ≤ e < 2^32 (R474). -/
def rsaPubOk (len n e : Nat) : Bool := bit n 0 && bit n (len - 1) && decide (n < 2 ^ len) && bit e 0 && within 3 (2 ^ 32 - 1) e

/-- The checks of R469 on an RSA key of `len` bits. -/
def RsaKey.ok (k : RsaKey) (len : Nat) : Bool :=
  rsaPubOk len k.n k.e && k.p * k.q == k.n && k.e * k.dp % (k.p - 1) == 1 && k.e * k.dq % (k.q - 1) == 1 && k.qinv * k.q % k.p == 1
    && k.dp != 0 && k.dq != 0 && k.qinv != 0 && decide (k.dp < k.p - 1) && decide (k.dq < k.q - 1) && decide (k.qinv < k.p)

/-- m^d mod N by the Chinese remainder theorem (R472). -/
def RsaKey.private_ (k : RsaKey) (m : Nat) : Nat :=
  let m1 := powMod m k.dp k.p
  let m2 := powMod m k.dq k.q
  m2 + k.q * (k.qinv * (m1 + k.p * k.q - m2) % k.p)

end Sys2Proof.Machine
end

