-- ==== Sys2Proof/Machine/Keys.lean ====
section
/-!
DEFINITION. The key store, its flash mirror and zeroisation, the big-number engine's lanes and queue, entropy, and the
commands of group 0x0C (14_keys_and_big_numbers.md R461 to R493).
-/
namespace Sys2Proof.Machine

/-! ### Slots (R461, R464, R469) -/

/-- A key slot. -/
def State.slot (s : State) (k : Nat) : KeySlot := Tbl.getD s.keys.slot k {}

/-- Does the active bank name a slot as a `key_slot` (R464): the domain's, or that of an edge port with `auth` set. -/
def State.slotNamed (s : State) (k : Nat) : Bool :=
  let b := s.banks.active
  (b.domEnable && b.domKeySlot == k) || (List.range portCount).any (fun p => b.ptpAuth p != 0 && b.ptpKeySlot p == k)

/-- Has a slot a write requested (R465). -/
def State.slotPending (s : State) (k : Nat) : Bool := s.keys.writes.any (fun w => (Tbl.get? w.slots k).isSome)

/-- Bytes of the material of a type (R469); 0 for a type that is not imported. -/
def materialBytes (typ : Nat) : Nat :=
  if typ = 1 ∨ typ = 2 ∨ typ = 4 then 32 else if typ = 5 then 48 else if typ = 6 then 900 else if typ = 7 then 1348 else if typ = 8 then 1796 else 0

/-- Modulus length of an RSA type, bits. -/
def rsaBits (typ : Nat) : Nat := if typ = 6 then 2048 else if typ = 7 then 3072 else 4096

/-- The curve of an EC type. -/
def curveOf (typ : Nat) : Curve := if typ = 5 then p384 else p256

/-- The seven values of RSA key material (R469): N, e, p, q, dp, dq, qinv. -/
def rsaMaterial (len x : Nat) : List Nat :=
  let h := len / 2
  [bits x 0 len, bits x len 32, bits x (len + 32) h, bits x (len + 32 + h) h, bits x (len + 32 + 2 * h) h, bits x (len + 32 + 3 * h) h,
    bits x (len + 32 + 4 * h) h]

/-- An RSA key from its seven values. -/
def RsaKey.ofList : List Nat → RsaKey
  | [n, e, p, q, dp, dq, qinv] => { n := n, e := e, p := p, q := q, dp := dp, dq := dq, qinv := qinv }
  | _ => { n := 0, e := 0, p := 0, q := 0, dp := 0, dq := 0, qinv := 0 }

/-- Material of a type from its bits. -/
def materialOf (typ x : Nat) : List Nat := if 6 ≤ typ then rsaMaterial (rsaBits typ) x else [x % 2 ^ (8 * materialBytes typ)]

/-- The acceptance test of R469. -/
def materialOk (typ : Nat) (m : List Nat) : Bool :=
  if 6 ≤ typ then (RsaKey.ofList m).ok (rsaBits typ)
  else if 4 ≤ typ then within 1 ((curveOf typ).n - 1) (m.headD 0)
  else m.headD 0 != 0

/-- The public part of a key (R462). -/
def publicOf (typ : Nat) (m : List Nat) : List Nat :=
  if 6 ≤ typ then m.take 2
  else if 4 ≤ typ then
    let q := (curveOf typ).pub (m.headD 0)
    [q.1, q.2]
  else []

/-- A slot's contents for a key. -/
def keyOf (typ : Nat) (m : List Nat) : KeySlot := { typ := typ, mat := m, pub := publicOf typ m }

/-! ### `KEY_IMPORT` entries (R484) -/

/-- One entry: slot, type, bytes, and where its material starts. -/
structure ImportEntry where
  slot : Nat
  typ : Nat
  bytes : Nat
  lo : Nat
deriving DecidableEq, Repr

/-- The entries of a request from a bit on. -/
def importEntries (q : Req) : Nat → Nat → List ImportEntry
  | 0, _ => []
  | n + 1, lo =>
    let e : ImportEntry := { slot := q.f lo 8, typ := q.f (lo + 8) 8, bytes := q.f (lo + 16) 16, lo := lo + 64 }
    e :: importEntries q n (lo + 64 + (e.bytes + 3) / 4 * 32)

/-- The entries of a `KEY_IMPORT` request. -/
def imports (q : Req) : List ImportEntry := importEntries q (q.f 0 4) 32

/-- The material of an entry. -/
def ImportEntry.material (e : ImportEntry) (q : Req) : List Nat := materialOf e.typ (q.f e.lo (8 * e.bytes))

/-- Layout of a `KEY_IMPORT` request. -/
def importLayout (q : Req) : Layout :=
  { size := (imports q).foldl (fun _ e => e.lo + (e.bytes + 3) / 4 * 32) 32
    fields := (0, 5) :: (imports q).flatMap (fun e => [(e.lo - 64, 32), (e.lo, 8 * e.bytes)]) }

/-! ### Writes (R463, R465) -/

/-- Does an operation on a lane or in the queue name a slot (R465). -/
def BnS.names (b : BnS) (k : Nat) : Bool :=
  let uses := fun (j : BnJob) => j.wait.req.b 16 && j.wait.req.f 8 8 == k
  b.queue.any uses || b.lanes.any (fun l => l.2.job.elim false uses)

/-- Request a mirror write for a command, not to end before a tick: it answers when the write is verified. -/
def requestWrite (opcode ready : Nat) (slots : Tbl KeySlot) (acc : Fields) (q : Req) (s : State) : Reply :=
  let w : Wait := { opcode := opcode, req := q, acc := acc }
  .aside w { s with keys := { s.keys with writes := s.keys.writes ++ [{ slots := slots, wait := some w, ready := ready }] } }

/-- The cookie keys a slot table holds, newest generation first: `key_id` counts on past 2^32 − 1 (09_time_service.md R276). -/
def cookiesOf (slots : Tbl KeySlot) : List CookieKey :=
  let l := [253, 254, 255].filterMap (fun k => (Tbl.get? slots k).bind (fun x =>
    if x.typ = 3 then some { keyId := x.pub.headD 0, key := x.mat.headD 0, slot := k : CookieKey } else none))
  l.mergeSort (fun a b => decide ((a.keyId + 2 ^ 32 - b.keyId) % 2 ^ 32 < 2 ^ 31))

/-- Writes to slots since manufacture are 32 bits. -/
def State.commitSlot (s : State) (k : Nat) (x : KeySlot) : KeySlot :=
  { x with writes := ((s.slot k).writes + 1) % 2 ^ 32, writtenAt := s.now }

/-- A mirror write is verified: the slots change, each with its event, and the command responds (R463, R493). -/
def State.writeDone (w : KeyWrite) (s : State) : State :=
  let put := fun (t : Tbl KeySlot) => w.slots.foldl (fun t e => Tbl.put t e.1 (s.commitSlot e.1 e.2)) t
  let slots := put s.keys.slot
  let cookie := w.slots.any (fun e => e.2.typ == 3)
  let s1 := { s with keys := { s.keys with slot := slots, mirror := some slots, salt := true, writes := s.keys.writes.drop 1 } }
  let s2 := w.slots.foldl (fun t e => t.post 0x0C01 [(8, e.1), (8, (s.slot e.1).typ), (8, e.2.typ)]) s1
  let s3 := if cookie then { s2 with ts := { s2.ts with cookies := cookiesOf slots } } else s2
  let s4 := match w.wait with
    | some v => s3.finish (fun x => x == v) stOk (fun x => x.acc)
    | none => s3
  if w.rotation then
    let t := s4.ts
    let overdue := (s4.time.tick - t.rotateDue) / tickS
    let id := (t.cookies.head?.map (·.keyId)).getD 0
    let s5 := ({ s4 with ts := { t with
      rotating := false, rotateLate := false, lastRotation := s4.now
      rotateDue := s4.time.tick + s4.banks.active.cookieRotateS * tickS } }).post 0x0B02 [(32, id), (32, overdue)]
    if t.rotateDue + 60 * tickS < s4.time.tick ∧ !t.rotateLate then s5.tsCount 3 11 else s5
  else if cookie then
    { s4 with ts := { s4.ts with rotateDue := s4.time.tick + s4.banks.active.cookieRotateS * tickS } }
  else s4

/-- A write to a slot that the active bank has come to name since it was requested is refused (R464). -/
def State.writeRefused (w : KeyWrite) (s : State) : State :=
  let s1 := { s with keys := { s.keys with writes := s.keys.writes.drop 1 } }
  match w.wait with
  | some v => s1.finish (fun x => x == v) stNotPermitted (fun _ => [])
  | none => s1

/-- The oldest write requested completes while firmware runs and `SUPPLY_WARN` is clear, once every operation that names
one of its slots has ended (R463, R465); it never touches a slot the active bank names (R464). -/
def execKeyStoreWriteDone (dt : Nat) (s : State) : Host.Outcome State Fault Refusal :=
  let s1 := s.advance dt
  .next (match s1.keys.writes with
    | w :: _ =>
      if s1.fw.running ∧ !s1.plat.warn ∧ !s1.keys.erase ∧ w.ready ≤ s1.time.tick ∧ !w.slots.any (fun e => s1.bn.names e.1) then
        (if w.slots.any (fun e => s1.slotNamed e.1) then s1.writeRefused w else s1.writeDone w)
      else s1
    | [] => s1)

/-! ### Key commands (R483 to R488) -/

/-- `KEY_INFO` (R483): 4,320 bits whatever the slot holds. -/
def cmdKeyInfo : Command where
  opcode := 0x0C01
  layout _ := { size := 8, fields := [(0, 8)] }
  run q s :=
    let k := q.f 0 8
    let x := s.slot k
    let typ := if s.sealBroken then 0 else x.typ
    let len := if typ = 4 then 256 else if typ = 5 then 384 else 0
    let pub := if typ = 4 ∨ typ = 5 then Fields.pack [(len, x.pub.headD 0), (len, (x.pub.drop 1).headD 0)] else if 6 ≤ typ then x.pub.headD 0 else 0
    .done stOk [(8, k), (8, typ), fb (s.slotNamed k), fb (s.slotPending k), rz 14, (32, x.writes), ft x.writtenAt, rz 32, (4096, pub),
      (32, if 6 ≤ typ then (x.pub.drop 1).headD 0 else 0)] s

def execKeyInfo (q : Req) (s : State) : Host.Outcome State Fault Refusal := runCommand cmdKeyInfo q s

/-- What stops a write of slots (R464, R465, R467): with `replace` clear an occupied slot too. -/
def State.writeRefusal (s : State) (slots : List Nat) (replace : Bool) : Option Nat :=
  if s.sealBroken then some stSealBroken
  else if slots.any s.slotPending then some stBusy
  else if slots.any s.slotNamed ∨ (!replace ∧ slots.any (fun k => (s.slot k).typ != 0)) then some stNotPermitted
  else none

/-- `KEY_IMPORT` (R484): all entries in one mirror write. -/
def cmdKeyImport : Command where
  opcode := 0x0C02
  attended _ _ := true
  flashAct := true
  layout := importLayout
  range q _ :=
    let l := imports q
    within 1 8 (q.f 0 4)
      && l.all (fun e => e.typ != 0 && e.typ != 3 && decide (e.typ ≤ 8) && decide (e.slot < 253) && e.bytes == materialBytes e.typ)
      && decide ((l.map (·.slot)).Nodup)
  run q s :=
    match s.writeRefusal ((imports q).map (·.slot)) (q.b 4) with
    | some status => .done status [] s
    | none =>
      if (imports q).all (fun e => materialOk e.typ (e.material q)) then .attend s else .done stInvalidInput [] s
  act q s :=
    match s.writeRefusal ((imports q).map (·.slot)) (q.b 4) with
    | some status => .done status [] s
    | none =>
      requestWrite 0x0C02 0 ((imports q).foldl (fun t e => Tbl.put t e.slot (keyOf e.typ (e.material q))) []) [(4, q.f 0 4)] q s

def execKeyImport (q : Req) (s : State) : Host.Outcome State Fault Refusal := runCommand cmdKeyImport q s

/-- What stops `KEY_GENERATE` (R485). -/
def generateRefusal (q : Req) (s : State) : Option Nat :=
  match s.writeRefusal [q.f 0 8] (q.b 16) with
  | some status => some status
  | none => if !s.bn.entropyOk then some stNotPermitted else none

/-- The fixed time of `KEY_GENERATE`'s computation of Q, in microseconds (R485). -/
def generateUs (typ : Nat) : Nat := if typ = 5 then 330 else 130

/-- `KEY_GENERATE` (R485): a scalar from the entropy source, and Q, in a fixed time. DEDUCED (log entry 222): a slot of the
cookie keys is refused `BAD_PARAM`, and the check of R476 never fails. -/
def cmdKeyGenerate : Command where
  opcode := 0x0C03
  attended _ _ := true
  flashAct := true
  layout _ := { size := 32, fields := [(0, 17)] }
  range q _ := within 4 5 (q.f 8 8) && decide (q.f 0 8 < 253)
  run q s :=
    match generateRefusal q s with
    | some status => .done status [] s
    | none => .attend s
  act q s :=
    match generateRefusal q s with
    | some status => .done status [] s
    | none =>
      let c := curveOf (q.f 8 8)
      let (v, s1) := s.entropy (8 * c.bytes)
      let key := keyOf (q.f 8 8) [1 + v % (c.n - 1)]
      requestWrite 0x0C03 (s.time.tick + generateUs (q.f 8 8) * tickUs) [(q.f 0 8, key)] [(384, key.pub.headD 0), (384, (key.pub.drop 1).headD 0)] q s1

def execKeyGenerate (q : Req) (s : State) : Host.Outcome State Fault Refusal := runCommand cmdKeyGenerate q s

/-- What stops `KEY_DELETE` (R486). -/
def deleteRefusal (q : Req) (s : State) : Option Nat :=
  match s.writeRefusal [q.f 0 8] true with
  | some status => some status
  | none => if (s.slot (q.f 0 8)).typ = 0 then some stNotPermitted else none

/-- `KEY_DELETE` (R486). -/
def cmdKeyDelete : Command where
  opcode := 0x0C04
  attended _ _ := true
  flashAct := true
  layout _ := { size := 32, fields := [(0, 8)] }
  range q _ := decide (q.f 0 8 < 253)
  run q s :=
    match deleteRefusal q s with
    | some status => .done status [] s
    | none => .attend s
  act q s :=
    match deleteRefusal q s with
    | some status => .done status [] s
    | none => requestWrite 0x0C04 0 [(q.f 0 8, {})] [] q s

def execKeyDelete (q : Req) (s : State) : Host.Outcome State Fault Refusal := runCommand cmdKeyDelete q s

/-- The generation after one, skipping 0 (09_time_service.md R276). -/
def nextKeyId (id : Nat) : Nat := if (id + 1) % 2 ^ 32 = 0 then 1 else (id + 1) % 2 ^ 32

/-- The current cookie generation, 0 before the first. -/
def State.cookieId (s : State) : Nat := (s.ts.cookies.head?.map (·.keyId)).getD 0

/-- A fresh cookie key of a generation. -/
def cookieKey (id key : Nat) : KeySlot := { typ := 3, mat := [key], pub := [id] }

/-- What stops `KEY_NTS_INIT` (R487). -/
def ntsInitRefusal (s : State) : Option Nat :=
  if s.sealBroken then some stSealBroken
  else if [253, 254, 255].any s.slotPending then some stBusy
  else if !s.bn.entropyOk then some stNotPermitted
  else none

/-- `KEY_NTS_INIT` (R487): three generations, the newest in use. -/
def cmdKeyNtsInit : Command where
  opcode := 0x0C05
  attended _ _ := true
  flashAct := true
  run _ s :=
    match ntsInitRefusal s with
    | some status => .done status [] s
    | none => .attend s
  act q s :=
    match ntsInitRefusal s with
    | some status => .done status [] s
    | none =>
      let a := nextKeyId s.cookieId
      let b := nextKeyId a
      let c := nextKeyId b
      let (x, s1) := s.entropy 256
      let (y, s2) := s1.entropy 256
      let (z, s3) := s2.entropy 256
      requestWrite 0x0C05 0 [(253, cookieKey a x), (254, cookieKey b y), (255, cookieKey c z)] [(32, c)] q s3

def execKeyNtsInit (q : Req) (s : State) : Host.Outcome State Fault Refusal := runCommand cmdKeyNtsInit q s

/-- Is a `KEY_POLICY_SET` attended (R468): it stages `MIXED` while the active bank holds `KEYSTORE_ONLY`. -/
def policyAttended (q : Req) (s : State) : Bool := q.b 0 && !bit s.banks.active.key 0

/-- `KEY_POLICY_SET` (R488). -/
def cmdKeyPolicySet : Command where
  opcode := 0x0C06
  attended := policyAttended
  layout _ := { size := 32, fields := [(0, 1)] }
  objs _ := stageObjs 0x0C06 0
  run q s :=
    if policyAttended q s then
      match s.stagingRefusal with
      | some status => .done status [] s
      | none => .attend s
    else stage (fun b => { b with key := q.body, keyAttended := false }) s
  act q s := stage (fun b => { b with key := q.body, keyAttended := true }) s

def execKeyPolicySet (q : Req) (s : State) : Host.Outcome State Fault Refusal := runCommand cmdKeyPolicySet q s

/-- `KEY_POLICY_GET` (R488). -/
def cmdKeyPolicyGet : Command where
  opcode := 0x0C07
  run _ s := .done stOk [(1, s.banks.active.key), rz 31] s

def execKeyPolicyGet (q : Req) (s : State) : Host.Outcome State Fault Refusal := runCommand cmdKeyPolicyGet q s

/-! ### Operations (R471 to R476, R489) -/

/-- Slot type an operation takes (R472). -/
def opType (op : Nat) : Nat :=
  if op = 1 ∨ op = 3 ∨ op = 5 then 4 else if op = 2 ∨ op = 4 ∨ op = 6 then 5
  else if op = 7 ∨ op = 0xA then 6 else if op = 8 ∨ op = 0xB then 7 else 8

/-- Is an operation defined. -/
def opKnown (op : Nat) : Bool := within 1 0xC op
/-- Does an operation use a private key. -/
def opPrivate (op : Nat) : Bool := !(op == 5 || op == 6 || decide (0xA ≤ op))
/-- Bytes of one value of an operation: a field element, or an RSA block. -/
def opUnit (op : Nat) : Nat := if op ≤ 6 then (curveOf (opType op)).bytes else rsaBits (opType op) / 8
/-- Bytes of an inline key (R469, R489). -/
def opKeyBytes (op : Nat) : Nat :=
  if op = 5 ∨ op = 6 then 2 * opUnit op else if 0xA ≤ op then opUnit op + 4 else materialBytes (opType op)
/-- Bytes of the public operands (R472). -/
def opPublicBytes (op : Nat) : Nat :=
  if op ≤ 2 then 2 * opUnit op else if op ≤ 4 then opUnit op else if op ≤ 6 then 3 * opUnit op else opUnit op
/-- Bytes of the result (R489). -/
def opResultBytes (op : Nat) : Nat :=
  if op ≤ 2 then opUnit op else if op ≤ 4 then 2 * opUnit op else if op ≤ 6 then 0 else opUnit op

/-- t_op in microseconds (R472). -/
def opUs (op : Nat) : Nat := ([0, 120, 310, 390, 990, 260, 670, 1700, 5000, 11200, 45, 95, 165].drop op).headD 0

/-- The response of a `BN_OP` (R489): the same length for every outcome. -/
def bnReply (op : Nat) (verified aborted over_ : Bool) (result : Nat) : Fields :=
  [(8, op), fb verified, fb aborted, fb over_, rz 21, (8 * opResultBytes op, result)]

/-- What an operation computes: valid operands, verified, result. The key is given by its values (private material, or
the public part). -/
def compute (op : Nat) (key : List Nat) (operands : Nat) : Bool × Bool × Nat :=
  let u := 8 * opUnit op
  let arg := fun (k : Nat) => bits operands (k * u) u
  let c := curveOf (opType op)
  if op ≤ 2 then
    let ok := materialOk (opType op) key && c.onCurve (arg 0) (arg 1)
    (ok, false, if ok then ((c.mul (key.headD 0) (arg 0, arg 1)).getD (0, 0)).1 else 0)
  else if op ≤ 4 then
    let ok := materialOk (opType op) key
    let sg := c.sign (key.headD 0) (arg 0)
    (ok, false, if ok then sg.1 + sg.2 <<< u else 0)
  else if op ≤ 6 then
    let qx := key.headD 0
    let qy := (key.drop 1).headD 0
    let ok := c.onCurve qx qy && within 1 (c.n - 1) (arg 1) && within 1 (c.n - 1) (arg 2)
    (ok, ok && c.verify (qx, qy) (arg 0) (arg 1) (arg 2), 0)
  else if op ≤ 9 then
    let k := RsaKey.ofList key
    let ok := k.ok (rsaBits (opType op)) && within 1 (k.n - 1) (arg 0)
    (ok, false, if ok then k.private_ (arg 0) else 0)
  else
    let n := key.headD 0
    let e := (key.drop 1).headD 0
    let ok := rsaPubOk (rsaBits (opType op)) n e && within 1 (n - 1) (arg 0)
    (ok, false, if ok then powMod (arg 0) e n else 0)

/-- The key and the public operands of a job. -/
def State.jobParts (s : State) (j : BnJob) : List Nat × Nat :=
  let op := j.wait.req.f 0 8
  if j.wait.req.b 16 then
    let x := s.slot (j.wait.req.f 8 8)
    (if opPrivate op then x.mat else x.pub, j.operands)
  else
    let kb := 8 * opKeyBytes op
    let u := 8 * opUnit op
    let key := if opPrivate op then materialOf (opType op) (bits j.operands 0 kb)
      else if op ≤ 6 then [bits j.operands 0 u, bits j.operands u u] else [bits j.operands 0 u, bits j.operands u 32]
    (key, j.operands >>> kb)

/-- Does a request break the operand policy of the active bank (R470). -/
def State.policyBreach (s : State) (q : Req) : Bool :=
  !bit s.banks.active.key 0 && (q.b 17 || q.b 18 || (opPrivate (q.f 0 8) && !q.b 16))

/-- Bits of the operand block of a request (R489). -/
def operandBits (q : Req) : Nat :=
  8 * ((if q.b 16 then 0 else opKeyBytes (q.f 0 8)) + opPublicBytes (q.f 0 8))

/-- `BN_OP` (R489): accepted into the queue; answered at release. -/
def cmdBnOp : Command where
  opcode := 0x0C08
  layout q :=
    if !opKnown (q.f 0 8) then { size := 8 * q.len, fields := [(0, 8 * q.len)] }
    else
      let n := if q.b 17 then 0 else operandBits q
      { size := 192 + n, fields := [(0, 19), (64, 128), (192, n)] }
  range q s :=
    opKnown (q.f 0 8) && (q.b 17 || q.f 64 64 == 0) && (q.b 18 || q.f 128 64 == 0)
      && (!q.b 16 || s.sealBroken || (s.slot (q.f 8 8)).typ == 0 || (s.slot (q.f 8 8)).typ == opType (q.f 0 8))
  run q s :=
    let op := q.f 0 8
    let no := fun (status : Nat) => Reply.done status (bnReply op false false false 0) s
    if q.b 16 ∧ s.sealBroken then no stSealBroken
    else if s.bn.draining then no stDraining
    else if !s.bn.enabled then no stNotPermitted
    else if q.b 16 ∧ s.slotPending (q.f 8 8) then no stBusy
    else if q.b 16 ∧ (s.slot (q.f 8 8)).typ = 0 then no stNotPermitted
    else if 16 ≤ s.bn.queue.length then no stBusy
    else
      let w : Wait := { opcode := 0x0C08, req := q }
      .aside w { s with bn := { s.bn with queue := s.bn.queue ++ [{ wait := w, operands := if q.b 17 then 0 else q.body >>> 192 }] } }

def execBnOp (q : Req) (s : State) : Host.Outcome State Fault Refusal := runCommand cmdBnOp q s

/-- Lane `k`. -/
def State.lane (s : State) (k : Nat) : Lane := Tbl.getD s.bn.lanes k {}
/-- The state with a lane replaced. -/
def State.setLane (k : Nat) (l : Lane) (s : State) : State := { s with bn := { s.bn with lanes := Tbl.put s.bn.lanes k l } }
/-- Is a lane idle. -/
def Lane.idle (l : Lane) : Bool := l.job.isNone && l.zeroDue.isNone

/-- Answer an operation. -/
def State.answerJob (j : BnJob) (status : Nat) (f : Fields) (s : State) : State := s.finish (fun w => w.req == j.wait.req && w.opcode == 0x0C08) status (fun _ => f)

/-- The first queued operation starts on the lowest free lane once its operands are loaded (R470, R473). `data` is the block
read from host memory. -/
def execBnOpStart (dt data : Nat) (s : State) : Host.Outcome State Fault Refusal :=
  let s1 := s.advance dt
  .next (match s1.bn.queue, (List.range 4).find? (fun k => (s1.lane k).idle) with
    | j :: rest, some k =>
      let q := j.wait.req
      let s2 := { s1 with bn := { s1.bn with queue := rest } }
      if s1.policyBreach q then s2.answerJob j stNotPermitted (bnReply (q.f 0 8) false false false 0)
      else
        let block := if q.b 17 then data % 2 ^ operandBits q else j.operands
        s2.setLane k { job := some { j with operands := block, t0 := s1.time.tick, release := s1.time.tick + opUs (q.f 0 8) * tickUs } }
    | _, _ => s1)

/-- Advance an engine counter: 0 OPS_DONE, 1 INVALID_INPUTS, 2 CHECK_FAILS, 3 OVERTIME, 4 ABORTED (R492). -/
def State.bnCount (i n : Nat) (s : State) : State :=
  let b := s.bn
  let old := if i = 0 then b.opsDone else if i = 1 then b.invalid else if i = 2 then b.checkFails else if i = 3 then b.overtime else b.aborted
  let new := inc48 old n
  let b1 := if i = 0 then { b with opsDone := new } else if i = 1 then { b with invalid := new } else if i = 2 then { b with checkFails := new }
    else if i = 3 then { b with overtime := new } else { b with aborted := new }
  ({ s with bn := b1 }).counterHalf old new 0x0C0B 0 (32 + 48 * i)

/-- A lane releases its status and result (R473 to R476). `glitch`: the result fails its own check, which the operations
with a private key have. -/
def State.releaseLane (k : Nat) (j : BnJob) (glitch : Bool) (s : State) : State :=
  let op := j.wait.req.f 0 8
  let (key, operands) := s.jobParts j
  let (ok, verified, result) := compute op key operands
  let failed := glitch && opPrivate op
  let good := ok && !failed
  let s1 := (s.setLane k { job := none, zeroDue := some (s.time.tick + 8 * tickUs) }).bnCount 0 1
  let s2 := if ok then s1 else s1.bnCount 1 1
  let s3 := if ok ∧ failed then (s2.bnCount 2 1).fault 0x32 11 6 0 else s2
  let s4 := if j.overtime then s3.bnCount 3 1 else s3
  let out := j.wait.req.b 18
  let s5 := if good ∧ out then s4.emit (.hostWrite (j.wait.req.f 128 64) (opResultBytes op) result) else s4
  s5.answerJob j (if good then stOk else stInvalidInput) (bnReply op (good && verified) false j.overtime (if good ∧ !out then result else 0))

/-- Is the supply below the recommended operating range (02_self_timed_operation.md R40): a core rail more than 3% low, or
the input below 9.6 V (18_module_and_signals.md R595). -/
def State.belowRange (s : State) : Bool := decide (s.plat.vcore < -30) || decide (s.plat.v12 < 9600)

/-- At t_s + t_op the lane releases; a computation not finished then, which only a supply below its range can bring about, is
released a whole t_op later (R473). -/
def execBnOpRelease (dt lane : Nat) (glitch late : Bool) (s : State) : Host.Outcome State Fault Refusal :=
  let s1 := s.advance dt
  if 4 ≤ lane then .fault .noSuchUnit
  else .next (match (s1.lane lane).job with
    | some j =>
      if s1.time.tick < j.release then s1
      else if late ∧ s1.belowRange then s1.setLane lane { job := some { j with overtime := true, release := j.release + opUs (j.wait.req.f 0 8) * tickUs } }
      else s1.releaseLane lane j glitch
    | none => s1)

/-- A lane finishes its zeroisation and reports idle; a `BN_ABORT` whose lanes are all idle is answered (R473, R490). -/
def execBnLaneZeroised (dt lane : Nat) (s : State) : Host.Outcome State Fault Refusal :=
  let s1 := s.advance dt
  if 4 ≤ lane then .fault .noSuchUnit
  else .next (
    if (s1.lane lane).zeroDue.elim false (fun d => decide (d ≤ s1.time.tick)) then
      let s2 := s1.setLane lane { (s1.lane lane) with zeroDue := none }
      s2.finishAll (fun w => w.opcode == 0x0C09 && s2.bn.lanes.all (fun l => l.2.zeroDue.elim true (fun d => decide (w.due < d)))) stOk
        (fun w => [(8, w.arg)])
    else s1)

/-- Stop the operations that satisfy `p`: each lane or buffer is zeroised within 8 µs, and each is answered (R477). -/
def State.stopJobs (p : BnJob → Bool) (status : Nat) (aborted : Bool) (s : State) : State :=
  let running := s.bn.lanes.filterMap (fun l => l.2.job.filter p)
  let queued := s.bn.queue.filter p
  let s1 := { s with bn := { s.bn with
    queue := s.bn.queue.filter (fun j => !p j)
    lanes := s.bn.lanes.mapVal (fun l => if l.job.elim false p then { l with job := none, zeroDue := some (s.time.tick + 8 * tickUs) } else l) } }
  let s2 := if aborted then s1.bnCount 4 (running.length + queued.length) else s1
  (running ++ queued).foldl (fun t j => t.answerJob j status (bnReply (j.wait.req.f 0 8) false aborted false 0)) s2

/-- `BN_ABORT` (R490): answered once every stopped lane is idle. -/
def cmdBnAbort : Command where
  opcode := 0x0C09
  layout _ := { size := 32, fields := [(0, 1), (4, 3)] }
  run q s :=
    let named := fun (j : BnJob) => !q.b 0 || decide (j.wait.req.src = .host (q.f 4 3))
    let lanes := (s.bn.lanes.filter (fun l => l.2.job.elim false named)).length
    let n := lanes + (s.bn.queue.filter named).length
    if n = 0 then .done stNotPermitted [] s
    else
      let s1 := s.stopJobs named stTimeout true
      if lanes = 0 then .done stOk [(8, n)] s1
      else .aside { applied := true, arg := n, due := s.time.tick + 8 * tickUs } s1

def execBnAbort (q : Req) (s : State) : Host.Outcome State Fault Refusal := runCommand cmdBnAbort q s

/-- Are all lanes idle. -/
def BnS.idle (b : BnS) : Bool := b.lanes.all (fun l => l.2.idle)

/-- `BN_ENABLE` (R491): a disable removes what is queued and answers at quiescence (R477, R478). -/
def cmdBnEnable : Command where
  opcode := 0x0C0A
  layout _ := { size := 32, fields := [(0, 1)] }
  objs _ := [.bn]
  run q s :=
    if q.b 0 = s.bn.enabled then .done stNotPermitted [] s
    else if q.b 0 then .done stOk [] { s with bn := { s.bn with enabled := true } }
    else
      let queued := s.bn.queue
      let s1 := { s with bn := { s.bn with enabled := false, draining := true, queue := [] } }
      .aside { obj := some .bn, applied := true }
        (queued.foldl (fun t j => t.answerJob j stDraining (bnReply (j.wait.req.f 0 8) false false false 0)) s1)

def execBnEnable (q : Req) (s : State) : Host.Outcome State Fault Refusal := runCommand cmdBnEnable q s

/-- The last lane has zeroised: the disable is answered (R478). -/
def execBnDrainComplete (dt : Nat) (s : State) : Host.Outcome State Fault Refusal :=
  let s1 := s.advance dt
  .next (if s1.bn.draining ∧ s1.bn.idle then
    ({ s1 with bn := { s1.bn with draining := false } }).finish (fun w => w.obj = some Obj.bn) stOk (fun _ => [])
  else s1)

/-- `CRYPTO_STATUS` (R492). -/
def cmdCryptoStatus : Command where
  opcode := 0x0C0B
  run _ s :=
    let b := s.bn
    let busy := maskOf ((List.range 4).filter (fun k => !(s.lane k).idle))
    let used := if s.sealBroken then 0 else (s.keys.slot.filter (fun e => e.2.typ != 0)).length
    .done stOk [fb b.enabled, fb b.draining, fb b.entropyOk, (1, s.banks.active.key), (4, busy), (8, b.queue.length), (16, used),
      (48, b.opsDone), (48, b.invalid), (48, b.checkFails), (48, b.overtime), (48, b.aborted)] s

def execCryptoStatus (q : Req) (s : State) : Host.Outcome State Fault Refusal := runCommand cmdCryptoStatus q s

/-! ### Zeroisation (R466, R467) and entropy (R479) -/

/-- Does an operation name a slot. -/
def BnJob.keyed (j : BnJob) : Bool := j.wait.req.b 16

/-- A slot without its key: the count and the instant of its writes since manufacture (R483). -/
def KeySlot.blank (x : KeySlot) : KeySlot := { writes := x.writes, writtenAt := x.writtenAt }

/-- Steps 1, 2 and 4 of R466: salt, store, cache, lanes and queue buffers; writes under way end with `SEAL_BROKEN`. The
physical erase of both flash copies is left to its own moment. -/
def State.zeroiseKeys (cause : Nat) (s : State) : State :=
  let s1 := s.stopJobs BnJob.keyed stSealBroken false
  let waits := s1.keys.writes.filterMap (·.wait)
  let s2 := { s1 with
    keys := { s1.keys with slot := s1.keys.slot.mapVal KeySlot.blank, cache := [], writes := [], mirror := none, salt := false, erase := true }
    ts := { s1.ts with cookies := [], rotating := false } }
  (s2.finishAll (fun w => waits.contains w) stSealBroken (fun _ => [])).post 0x0C02 [(8, cause)]

/-- Both flash copies are erased at the first moment flash is powered with `SUPPLY_WARN` clear (R466). -/
def execKeyMirrorErase (dt : Nat) (s : State) : Host.Outcome State Fault Refusal :=
  let s1 := s.advance dt
  .next (if s1.keys.erase ∧ !s1.plat.warn ∧ s1.plat.inReset.isNone ∧ s1.plat.pwrOk then
    { s1 with keys := { s1.keys with erase := false } }
  else s1)

/-- A health test fails, or the tests have passed for 1 s (R479). -/
def execEntropyHealth (dt : Nat) (good : Bool) (s : State) : Host.Outcome State Fault Refusal :=
  let s1 := s.advance dt
  .next (if good = s1.bn.entropyOk then s1
  else
    let s2 := ({ s1 with bn := { s1.bn with entropyOk := good, generates := if good then 0 else s1.bn.generates } }).post 0x0C03 [fb good]
    if good then s2.conditionEnds 0x33 else s2.condition 0x33 11 6 0)

/-- The key cache is loaded from the slots the active bank names (R480). -/
def State.loadCache (s : State) : State :=
  { s with keys := { s.keys with cache := s.keys.slot.filter (fun e => s.slotNamed e.1) } }

end Sys2Proof.Machine
end

