-- ==== Sys2Proof/Machine/Sram.lean ====
section
/-!
DEFINITION. On-die SRAM words: corrections, uncorrectable words array by array, and the rewriting of table entries from
the active bank (15_stored_data_protection.md R505, R506, R510).
-/
namespace Sys2Proof.Machine

/-- The address field of an SRAM source (16_faults_and_midwinter.md R525). -/
def sramAddress (array bank row : Nat) : Nat := array <<< 56 + bank <<< 48 + row <<< 32

/-- The key under which a word written under the flip mask is kept: its line is row and word (R510). -/
def sramKey (array bank row word : Nat) : Nat := array * 2 ^ 40 + bank * 2 ^ 32 + row * 2 ^ 16 + word

/-- Are an event's erroneous symbols, `n` at least, among those the mask flipped when the word was written (R510; 16 R541).
DESIGN CHOICE (log entry 221): a row does not name the symbols, so that they are taken for the mask's where it flipped as many. -/
def State.sramInjected (s : State) (n array bank row word : Nat) : Bool :=
  (Tbl.get? s.mem.flipped (sramKey array bank row word)).elim false (fun m =>
    decide (n ≤ ((List.range 10).filter (fun k => bits m (8 * k) 8 ≠ 0)).length))

/-- The word is written back: the mask's errors are gone from it (R506). -/
def State.sramWritten (array bank row word : Nat) (s : State) : State :=
  { s with mem := { s.mem with flipped := Tbl.erase s.mem.flipped (sramKey array bank row word) } }

/-- A correction enters its row's classification; a row that becomes severe is flagged for the fuse map (R506). -/
def State.classifyRow (master array bank row : Nat) (s : State) : State :=
  let line := bank * 2 ^ 16 + row
  let (before, was) := repeatOf (s.time.tick - s.mem.window) array line s.mem.sramRepeat
  let count := min (before + 1) 255
  let severe := was || decide (s.mem.severeN ≤ count)
  let s1 := { s with mem := { s.mem with
    sramRepeat := s.mem.sramRepeat.filter (fun r => !(r.region == array && r.line == line))
      ++ [{ region := array, line := line, count := count, last := s.time.tick, severe := severe }] } }
  if severe && !was then
    let known := s.mem.flagged.any (fun r => r.array == array && r.bank == bank && r.row == row)
    let s2 := if known then s1 else { s1 with mem := { s1.mem with
      flagged := s1.mem.flagged ++ [{ array := array, bank := bank, row := row, tickAt := s.now }] } }
    ((s2.fault 0x14 master 1 (sramAddress array bank row)).post 0x0D04 [(4, array), (8, bank), (16, row)]).saveRows
  else s1

/-- Does the part have an SRAM word of these numbers (R505). -/
def sramWord (array bank row word : Nat) : Bool :=
  within 1 6 array && decide (bank < 256) && decide (row < 65536) && decide (word < 65536)

/-- A corrected SRAM word is written back, verified and classified per row; an injected one is only counted (R506, R510). A
verify read that corrects again is a row of its own (log entry 221). -/
def execSramCorrect (dt master array bank row word : Nat) (s : State) : Host.Outcome State Fault Refusal :=
  let s1 := s.advance dt
  if sramWord array bank row word then
    let s2 := (s1.memCount 6).sramWritten array bank row word
    .next (if s1.sramInjected 1 array bank row word then s2 else s2.classifyRow master array bank row)
  else .fault .noSuchUnit

/-- A word of the packet buffer is lost: a frame not started is dropped at egress, one already started ends with an
inverted FCS (R506, 10_port_macs.md R311). Port 56 is H. -/
def State.bufferLost (p id : Nat) (s : State) : State :=
  let x := s.port p
  let s1 := { (s.memCount 8) with host := { (s.memCount 8).host with queue := if p = 56 then s.host.queue.filter (fun c => c.id != id) else s.host.queue } }
  if x.wire.elim false (fun w => w.copy.id == id) ∨ x.cut.elim false (fun w => w.copy.id == id) then
    ({ s1 with trace := stompTrace p id 16384 s1.trace }).stat p 40 1
  else if p = 56 then s1
  else s1.updPort p (fun y => { y with
    queues := y.queues.mapVal (fun q => q.filter (fun c => c.id != id)), slot := y.slot.filter (fun sl => sl.copy.id != id) })

/-- Table numbers: 0 to 6 as the items of `SWITCH_CONFIG_GET` (11_switch_core.md R377); 16 the dynamic MAC entries in
order, 17 the snooped groups by index. -/
def dynMacTable : Nat := 16
def dynGroupTable : Nat := 17

/-- A word of a table is lost: a static or bank entry is absent until it is rewritten, a dynamic one is removed (R506).
DEDUCED (log entry 225): a queue's or a port's settings stay in effect meanwhile. -/
def State.entryLost (array table index : Nat) (s : State) : State :=
  if table = dynMacTable then { s with sw := { s.sw with macs := s.sw.macs.eraseIdx index } }
  else if table = dynGroupTable then { s with sw := { s.sw with groups := s.sw.groups.filter (fun g => g.index != index) } }
  else { s with
    sw := { s.sw with absent := s.sw.absent ++ [(array, table, index)] }
    mem := { s.mem with rewrites := s.mem.rewrites ++ [(array, table, index)] } }

/-- Firmware restores a key slot from the mirror; the key cache keeps what it holds (R506). -/
def State.restoreSlot (k : Nat) (s : State) : State :=
  { s with keys := { s.keys with slot := match s.keys.mirror.bind (fun m => Tbl.get? m k) with
    | some x => Tbl.put s.keys.slot k x
    | none => Tbl.erase s.keys.slot k } }

/-- What the reader of an uncorrectable SRAM word does, by its array (R506). The operands name what the word holds: the
egress port and identity of a frame, the table and index of an entry, a cue row, a key slot. -/
def State.sramOutcome (array a b : Nat) (s : State) : State :=
  if array = 1 then s.bufferLost a b
  else if array = 2 ∨ array = 3 then s.entryLost array a b
  else if array = 4 then s.endRow a ocLate rsPrefetch none
  else if array = 5 then
    if s.fw.running then s.restoreSlot a
    else { s with mem := { s.mem with rewrites := s.mem.rewrites ++ [(5, 0, a)] } }
  else s

/-- An uncorrectable SRAM word is read (R506): counted, `SRAM_UE` raised, and handled per its array. -/
def execSramUncorrectable (dt master array bank row word a b : Nat) (s : State) : Host.Outcome State Fault Refusal :=
  let s1 := s.advance dt
  if sramWord array bank row word && (array != 1 || decide (a ≤ 56)) then
    let injected := s1.sramInjected 2 array bank row word
    let s2 := ((s1.memCount 7).sramWritten array bank row word).faultEvent 0x15 master 1 (sramAddress array bank row) injected
    .next (s2.sramOutcome array a b)
  else .fault .noSuchUnit

/-- Firmware rewrites the oldest absent entry from the active bank, or restores a key slot from its mirror (R506). -/
def execBankEntryRewrite (dt : Nat) (s : State) : Host.Outcome State Fault Refusal :=
  let s1 := s.advance dt
  .next (match s1.mem.rewrites with
    | [] => s1
    | e :: rest =>
      if s1.fw.running then
        let s2 := { s1 with mem := { s1.mem with rewrites := rest } }
        if e.1 = 5 then s2.restoreSlot e.2.2 else { s2 with sw := { s2.sw with absent := s2.sw.absent.erase e } }
      else s1)

end Sys2Proof.Machine
end

