-- ==== Sys2Proof/Machine/Ledger.lean ====
section
/-!
DEFINITION. Classes, admission and the client ledger of the time-service engine (09_time_service.md R255 to R271).
-/
namespace Sys2Proof.Machine

/-! ### Classes (R255, R256) -/

/-- Does an enabled prefix word match a frame's source. -/
def prefixMatches (w : Nat) (f : Frame) : Bool :=
  let len := bits w 16 8
  let vlan := bits w 32 12
  bit w 10 && bit w 11 == f.ipv6 && (vlan == 0 || (f.tagged && f.vid == vlan))
    && (if f.ipv6 then bits w 64 128 >>> (128 - len) == f.ipSrc >>> (128 - len) else bits w 64 32 >>> (32 - len) == f.ipSrc >>> (32 - len))

/-- The prefix entry that decides a frame's class: the longest, then the lowest index (R255). -/
def State.prefixOf (s : State) (f : Frame) : Option (Nat × Nat) :=
  (s.banks.active.pfx.filter (fun e => prefixMatches e.2 f)).foldl (fun (a : Option (Nat × Nat)) e => match a with
    | some x => if bits x.2 16 8 < bits e.2 16 8 then some e else some x
    | none => some e) none

/-- Class and policy of a request (R255). -/
def State.classOf (s : State) (p : Nat) (l2 : Bool) (f : Frame) : Nat × Nat :=
  if s.isTrunk p ∧ (s.port p).trunk.state = .ready then (0, 0)
  else if l2 then (s.banks.active.l2Class, s.banks.active.l2Class)
  else
    match s.prefixOf f with
    | some e => (bits e.2 24 2, bits e.2 28 4)
    | none => (2, 2)

/-- The key of a request's ledger entry: address type, VLAN, key address (R265). -/
def State.ledgerKey (s : State) (l2 : Bool) (f : Frame) : Nat × Nat × Nat :=
  let vlan := if f.tagged then f.vid else 0
  if l2 then (2, vlan, f.src)
  else if f.ipv6 then
    let cut := 128 - s.banks.active.v6KeyLen
    (1, vlan, (f.ipSrc >>> cut) <<< cut)
  else (0, vlan, f.ipSrc)

/-! ### Admission (R259 to R261) -/

/-- Requests per second a port admits (R259). -/
def admitLimit (p : Nat) : Nat := if isQ p then 25000000 else 12500000

/-- A dropped request of a class. -/
def State.admitDrop (cls : Nat) (s : State) : State := s.tsCount cls 1

/-- The strangers' bucket (R261): `halves` half units are taken if it holds them; else the drop and its event. -/
def State.strangerBucket (halves : Nat) (s : State) : Bool × State :=
  let rate := s.banks.active.strangerUnits
  let t := s.ts
  let now := s.time.tick
  let offered := lastSecond now t.offered ++ [(now, halves)]
  let s1 := { s with ts := { t with offered := offered } }
  if rate = 0 then (true, s1)
  else
    let used := t.stranger - 2 * rate * (now - t.strangerTick)
    let cost := halves * tickS
    if used + cost ≤ 2 * rate * (tickS / 100) then (true, { s1 with ts := { s1.ts with stranger := used + cost, strangerTick := now } })
    else
      let quiet := t.capDropAt.elim true (fun d => decide (d + 10 * tickS ≤ now))
      let s2 := { s1 with ts := { s1.ts with stranger := used, strangerTick := now, capDropAt := some now } }
      (false, if quiet then s2.post 0x0B01 [(32, rate), (32, (offered.map (·.2)).sum / 2)] else s2)

/-- Is a request of a class admitted (R259 to R261): the port's rate, the strangers' cap, room in the class's queue.
`halves` is its work in half units. -/
def State.admitReq (p cls halves : Nat) (s : State) : Bool × State :=
  let sec := s.time.tick / tickS
  let old := Tbl.getD s.ts.admitUse p (0, 0)
  let n := if old.1 = sec then old.2 else 0
  if admitLimit p ≤ n then (false, s.admitDrop cls)
  else
    let s1 := { s with ts := { s.ts with admitUse := Tbl.put s.ts.admitUse p (sec, n + 1) } }
    let (ok, s2) := if cls = 2 then s1.strangerBucket halves else (true, s1)
    if !ok ∨ !s2.tsRoom cls then (false, s2.admitDrop cls) else (true, (s2.tsWork cls halves true).tsCount cls 0)

/-! ### The ledger (R265 to R270) -/

/-- One token, in the units an entry holds. -/
def tokenUnit : Nat := 256 * 65536000000000

/-- Rate of a policy, 1/16 request per second; burst; action. -/
def Bank.polRate (b : Bank) (k : Nat) : Nat := bits (b.tspolWord k) 32 32
def Bank.polBurst (b : Bank) (k : Nat) : Nat := bits (b.tspolWord k) 64 16
def Bank.polAction (b : Bank) (k : Nat) : Bool := bit (b.tspolWord k) 4

/-- The key of an entry. -/
def Ledger.key (e : Ledger) : Nat × Nat × Nat := (e.addrType, e.vlan, e.addr)

/-- Live grants of a client. -/
def State.grantsOf (s : State) (k : Nat × Nat × Nat) : List Grant := s.ts.grants.filter (fun g => g.key == k)

/-- The entry of a key. -/
def State.entry (s : State) (k : Nat × Nat × Nat) : Option Ledger := s.ts.ledger.find? (fun e => e.key == k)

/-- The state with an entry changed. -/
def State.updEntry (k : Nat × Nat × Nat) (f : Ledger → Ledger) (s : State) : State :=
  { s with ts := { s.ts with ledger := s.ts.ledger.map (fun e => if e.key == k then f e else e) } }

/-- Has an entry been idle longer than its class's idle time (R267): peers never age. -/
def State.idleEntry (s : State) (e : Ledger) : Bool :=
  let b := s.banks.active
  let idle := fun (n : Nat) => decide (e.seen + (n : Int) * uS < s.stepFree)
  (s.grantsOf e.key).isEmpty && (if e.cls = 2 then idle b.strangerIdleS else if e.cls = 1 then idle b.knownIdleS else false)

/-- The least recently used of a list. -/
def leastRecent (l : List Ledger) : Option Ledger :=
  l.foldl (fun (a : Option Ledger) e => match a with
    | some x => if e.seen < x.seen then some e else some x
    | none => some e) none

/-- The entry a new one takes the way of, with whether that is an eviction; none where no way is left (R267). -/
def State.victim (s : State) (cls : Nat) (ways : List Ledger) : Option (Ledger × Bool) :=
  let free := ways.filter (fun e => (s.grantsOf e.key).isEmpty)
  match ways.find? s.idleEntry with
  | some e => some (e, false)
  | none =>
    match leastRecent (free.filter (fun e => e.cls == 2)) with
    | some e => some (e, true)
    | none => if cls = 2 then none else (leastRecent (free.filter (fun e => e.cls == 1))).map (fun e => (e, true))

/-- An entry as one request leaves it, before its own tokens are judged: refilled on the step-free scale, seen, counted;
after an Equinox that changed the prefix table or a policy its class and policy are derived again and its tokens capped
(R266, R269, R270). -/
def State.touch (s : State) (cls pol : Nat) (e : Ledger) : Ledger :=
  let b := s.banks.active
  let now := s.stepFree
  let add := b.polRate e.policy * 16 * (now - e.seen).toNat
  let full := b.polBurst e.policy * tokenUnit
  let e1 := { e with tokens := min full (e.tokens + add), seen := now, requests := inc48 e.requests 1 }
  if s.ts.derivedAt ≤ e.epoch then e1
  else { e1 with cls := cls, policy := pol, epoch := s.banks.epoch, tokens := min e1.tokens (b.polBurst pol * tokenUnit) }

/-- An admitted request's lookup: its entry as updated, an insertion, an eviction, or none (R267, R268). -/
def State.ledgerLookup (k : Nat × Nat × Nat) (cls pol : Nat) (s : State) : Option Ledger × State :=
  match s.entry k with
  | some e =>
    let e1 := s.touch cls pol e
    (some e1, s.updEntry k (fun _ => e1))
  | none =>
    let bucket := (Config.ledgerHash s.ts.hashSeed k.1 k.2.1 k.2.2).toNat
    let e1 : Ledger := {
      addr := k.2.2, addrType := k.1, vlan := k.2.1, cls := cls, policy := pol, epoch := s.banks.epoch
      tokens := s.banks.active.polBurst pol * tokenUnit, seen := s.stepFree, requests := 1, bucket := bucket }
    let ways := s.ts.ledger.filter (fun e => e.bucket == bucket)
    if ways.length < 8 then (some e1, { s with ts := { s.ts with ledger := s.ts.ledger ++ [e1] } })
    else
      match s.victim cls ways with
      | some (v, evicted) =>
        let s1 := s.updEntry v.key (fun _ => e1)
        (some e1, if evicted then s1.tsCount v.cls 10 else s1)
      | none => (none, s.tsCount cls 9)

/-- A client's entry is freed, and its grants end with it (R269). -/
def State.freeEntry (k : Nat × Nat × Nat) (s : State) : State :=
  { s with ts := { s.ts with ledger := s.ts.ledger.filter (fun e => e.key != k), grants := s.ts.grants.filter (fun g => g.key != k) } }

/-- One token is taken: was there one (R270). An entry under an unlimited policy, or no entry, gives any number. -/
def State.takeToken (k : Nat × Nat × Nat) (e : Option Ledger) (s : State) : Bool × State :=
  match e with
  | none => (true, s)
  | some e =>
    if s.banks.active.polRate e.policy = 0 then (true, s)
    else if e.tokens < tokenUnit then (false, s)
    else (true, s.updEntry k (fun x => { x with tokens := x.tokens - tokenUnit }))

/-- May a kiss be sent to an entry now (R271). -/
def State.kissFree (s : State) (e : Option Ledger) : Bool :=
  e.elim true (fun e => e.kodAt.elim true (fun t => decide (t + (s.banks.active.kodInterval : Int) * uS ≤ s.stepFree)))

/-- A kiss is noted in its entry. -/
def State.noteKiss (k : Nat × Nat × Nat) (code : Nat) (s : State) : State :=
  s.updEntry k (fun e => { e with kodSent := min 255 (e.kodSent + 1), kodCode := code, kodAt := some s.stepFree })

/-- Whole ms of a step-free instant since power-on. -/
def msOf (u : Int) : Nat := (u / uMs).toNat

/-- An entry in the layout of R266. -/
def State.ledgerFields (s : State) (e : Ledger) : Fields :=
  [(128, e.addr), (2, e.addrType), (2, e.cls), (4, e.policy), (12, e.vlan), rz 4, (8, e.epoch % 256), (32, e.tokens * 256 / tokenUnit),
    (48, msOf e.seen), (8, e.kodSent), (8, e.kodCode), (32, e.kodAt.elim 0 msOf), (32, e.ntsKeyId), (48, e.requests),
    (4, (s.grantsOf e.key).length), rz 140]

end Sys2Proof.Machine
end

