-- ==== Sys2Proof/Machine/TimeService.lean ====
section
/-!
DEFINITION. The NTP and NTS servers, the PTP roles on edge ports, and the commands of group 0x0B
(09_time_service.md R257, R258, R262 to R264, R271 to R299).
-/
namespace Sys2Proof.Machine

/-! ### What the server says of the clock (R273, R281) -/

/-- LI (R273). -/
def State.ntpLi (s : State) : Nat :=
  if s.announced.1 = 248 then 3 else if s.leap.pending then (if s.leap.dir then 2 else 1) else 0

/-- Stratum. -/
def State.ntpStratum (s : State) : Nat := if s.ntpLi = 3 then 16 else 1

/-- Reference ID: four ASCII bytes, by the type of the reference in use, or last in use (R273). -/
def State.ntpRefid (s : State) : Nat :=
  let t := s.sel.lastType
  if s.ntpLi = 3 then 0x494E4954
  else if t = 1 then 0x474E5353
  else if t = 2 then 0x41544F4D
  else if t = 5 then 0x50505300
  else if t = 3 then 0x50545000
  else 0x46524551

/-- Root dispersion: E in NTP short format, rounded up, at least 1 unit (R273). -/
def State.ntpDispersion (s : State) : Nat := min 0xFFFFFFFF (max 1 ((s.estError * 65536 + 999999999) / 1000000000))

/-- The reference timestamp's instant (R273). -/
def State.ntpRefTime (s : State) : Time96 :=
  if s.sel.state = .locked ∨ s.sel.state = .acquiring then s.sel.lastUpdate else s.sel.stateAt

/-- The clock is following its domain (R281). -/
def State.followsDomain (s : State) : Bool := s.banks.active.domEnable && s.sel.selected == some 7

/-- timeSource (R281); in the states and references it does not name, a free value (log entry 3). -/
def State.timeSource (s : State) : Option Nat :=
  let t := s.sel.selected.elim 0 s.banks.active.refType
  if s.sel.state = .holdover ∨ s.sel.state = .freerun then some 0xA0
  else if t = 1 then some 0x20 else if t = 2 ∨ t = 5 then some 0x10 else if t = 3 then some 0x40 else none

/-! ### Responses -/

/-- A frame back to a request's sender: addresses and ports change places (R262). -/
def answerFrame (f : Frame) (n : Nat) : Frame :=
  { len := max 64 n, dst := f.src, src := f.dst, tagged := f.tagged, vid := f.vid, pcp := f.pcp, etherType := f.etherType, ipv6 := f.ipv6
    ipProto := f.ipProto, ipSrc := f.ipDst, ipDst := f.ipSrc, l4Src := f.l4Dst, l4Dst := f.l4Src }

/-- The service address answers to a frame come from (R262): where the frame was sent to a group, the first enabled one of its
VLAN and IP version. -/
def State.sourceAddr (s : State) (v : Nat) (f : Frame) : Option Nat :=
  (List.range 16).find? (fun i =>
    let w := s.banks.active.addrWord i
    bit w 4 && (f.etherType == 0x88F7 || bit w 5 == f.ipv6) && (if bits w 8 12 = 0 then !(f.tagged && f.vid != 0) else bits w 8 12 == v))

/-- A frame back to a message's sender (R262). A message sent to a group is answered from a service address, or, where none
is enabled for its VLAN, from the port's own address. -/
def State.answerTo (s : State) (p : Nat) (f : Frame) : Frame :=
  let g := answerFrame f 64
  if !bit f.dst 40 then g
  else
    match s.sourceAddr (s.vlanOf p f) f with
    | some i => { g with src := bits (s.banks.active.addrWord i) 32 48, ipSrc := bits (s.banks.active.addrWord i) 96 128 }
    | none => { g with src := portMac p, ipSrc := 0 }

/-- Bytes of a frame around a UDP payload: Ethernet, tag, IP, UDP and FCS. -/
def udpFrame (f : Frame) (n : Nat) : Nat := 14 + (if f.tagged then 4 else 0) + (if f.ipv6 then 40 else 20) + 8 + n + 4

/-- A response's copy. -/
def answerCopy (s : State) (r : TsReq) (cls what n : Nat) (body : Fields) : Copy :=
  { frame := answerFrame r.frame (udpFrame r.frame n), what := what, tsCls := cls, body := body, stamp := Time96.ofUnits (s.rxStamp r.port r.phase r.lane)
    stampSteps := s.time.stepSum, stampEpoch := s.time.stepEpoch, vid := r.frame.vid }

/-- Queue a response: with no room it is dropped and counted in `POOL_DROP` (R262). -/
def State.tsAnswer (p : Nat) (c : Copy) (s : State) : State :=
  let (ok, s1) := s.tsQueue p c
  if ok then s1 else s1.tsCount c.tsCls 8

/-- A kiss (R271): LI 3, stratum 0, the code, the origin timestamp; the others are 0. `extra` follows it. -/
def kissBody (r : TsReq) (code poll : Nat) (extra : Fields) : Fields :=
  [(3, 4), (3, r.version), (2, 3), (8, 0), (8, poll), fi 8 (-36), (32, 0), (32, 0), (32, code), (64, 0), (64, r.xmit), (64, 0), (64, 0)] ++ extra

/-- log2 (1 / rate), rounded up, of a rate in 1/16 per second (R271). -/
def ratePoll (q4 : Nat) : Int := (((List.range 33).find? (fun k => decide (2 ^ 32 ≤ q4 * 2 ^ k))).getD 32 : Nat) - 28

/-- The poll of a `RATE` kiss, a signed byte: the larger of the request's and the rate's (R271). -/
def ratePollByte (poll q4 : Nat) : Nat := ofSigned 8 (max (toSigned 8 poll) (ratePoll q4))

/-- Kiss codes in ASCII. -/
def kissRATE : Nat := 0x52415445
def kissRSTR : Nat := 0x52535452
def kissDENY : Nat := 0x44454E59
def kissNTSN : Nat := 0x4E54534E

/-- Send a kiss if the interval allows; a second one is dropped and counted unless it is counted already (R271). -/
def State.kiss (r : TsReq) (k : Nat × Nat × Nat) (e : Option Ledger) (cls what code short poll n : Nat) (extra : Fields) (counted : Bool) (s : State) :
    State :=
  if s.kissFree e then
    (s.noteKiss k short).tsAnswer r.port (answerCopy s r cls what (48 + n) (kissBody r code poll extra))
  else if counted then s else s.tsCount cls 5

/-- A request of class `DENY` is dropped, and an entry its client had is freed (R257, R269). -/
def State.denyDrop (k : Nat × Nat × Nat) (s : State) : State := (s.freeEntry k).tsCount 3 0

/-- A request of class `DENY` is dropped, with a kiss for its prefix entry once per `kod_interval` (R257). -/
def State.denied (r : TsReq) (ntp : Bool) (s : State) : State :=
  let s1 := s.denyDrop (s.ledgerKey false r.frame)
  match s.prefixOf r.frame with
  | some e =>
    let due := (Tbl.get? s.ts.denyKiss e.1).elim true (fun t => decide (t + s.banks.active.kodInterval * tickS ≤ s.time.tick))
    if ntp ∧ due then
      ({ s1 with ts := { s1.ts with denyKiss := Tbl.put s1.ts.denyKiss e.1 s1.time.tick } }).tsAnswer r.port
        (answerCopy s r 2 5 48 (kissBody r kissDENY r.poll []))
    else s1
  | none => s1

/-- Does a frame reach the engine: on a port that is `UP`, unmarked (10_port_macs.md R305, R310, R311). -/
def State.reachesEngine (s : State) (p : Nat) (f : Frame) : Bool :=
  (s.port p).link == .up && f.fcsOk && !f.pcsErr && within 64 (s.banks.active.effMax p f.tagged) f.len

/-- Can the engine take an NTP or NTS request on a port: UDP to port 123 of a service address (R258). -/
def State.tsHears (s : State) (p : Nat) (f : Frame) : Bool :=
  s.reachesEngine p f && f.ipProto == 17 && f.l4Dst == 123 && (s.serviceAddr p (s.vlanOf p f) f).elim false (fun i => s.addrMatches i f)

/-- The NTP response's fields ahead of the transmit timestamp (R273). -/
def State.ntpBody (s : State) (r : TsReq) (rx : Time96) : Fields :=
  [(3, 4), (3, r.version), (2, s.ntpLi), (8, s.ntpStratum), (8, r.poll), fi 8 (-36), (32, 0), (32, s.ntpDispersion), (32, s.ntpRefid),
    (64, ntpTimestamp s.utcOffset s.ntpRefTime), (64, r.xmit), (64, ntpTimestamp s.utcOffset rx)]

end Sys2Proof.Machine
namespace Sys2Proof

/-- Is a request one the server answers (R272). -/
def TsReq.good (r : TsReq) : Bool := r.mode == 3 && (r.version == 3 || r.version == 4) && decide (48 ≤ r.udpBytes)

end Sys2Proof
namespace Sys2Proof.Machine

/-- The server answers, kisses or drops a plain request (R270 to R273). -/
def State.ntpServe (r : TsReq) (cls pol : Nat) (s : State) : State :=
  let k := s.ledgerKey false r.frame
  let (e, s1) := s.ledgerLookup k cls pol
  let (ok, s2) := s1.takeToken k e
  let policy := e.elim pol (·.policy)
  let c := e.elim cls (·.cls)
  if !ok then
    let s3 := s2.tsCount c 5
    if s.banks.active.polAction policy then s3
    else s3.kiss r k e c 3 kissRATE 1 (ratePollByte r.poll (s.banks.active.polRate policy)) 0 [] true
  else if bit s.banks.active.ntsRequired c then s2.kiss r k e c 3 kissRSTR 3 r.poll 0 [] false
  else
    let a := answerCopy s2 r c 1 48 []
    s2.tsAnswer r.port { a with body := s2.ntpBody r a.stamp, booked := r.frame.ipv6 }

/-- An NTP request is classified, admitted, rate-checked and answered, kissed or dropped (R257 to R273, R286). -/
def State.ntpRequest (r : TsReq) (s : State) : State :=
  if !s.tsHears r.port r.frame then s
  else
    let (cls, pol) := s.classOf r.port false r.frame
    if !s.ts.ntp then s.tsCount 3 9
    else if cls = 3 then s.denied r true
    else if !r.good then s.tsCount 3 2
    else
      let (ok, s1) := s.admitReq r.port cls 2
      if ok then s1.ntpServe r cls pol else s1

def execNtpRequest (dt : Nat) (r : TsReq) (s : State) : Host.Outcome State Fault Refusal :=
  withPort r.port (s.advance dt) (fun s1 => s1.ntpRequest r)

/-- A request from a `DENY` prefix is dropped at ingress, with a periodic kiss (R257). -/
def execDenyRequest (dt : Nat) (r : TsReq) (s : State) : Host.Outcome State Fault Refusal :=
  withPort r.port (s.advance dt) (fun s1 =>
    if !s1.tsHears r.port r.frame then s1
    else if !(if r.exts.isEmpty then s1.ts.ntp else s1.ts.nts) then s1.tsCount 3 9
    else if (s1.classOf r.port false r.frame).1 = 3 then s1.denied r true
    else s1)

/-! ### NTS (R274 to R277) -/

/-- Seal a cookie under a generation (R275): key_id in the low bits, then nonce, SIV and ciphertext. -/
def State.sealCookie (k : CookieKey) (c2s s2c : Nat) (s : State) : Nat × State :=
  let (nonce, s1) := s.entropy 128
  let plain := toBytesBE 2 15 ++ [0, 0] ++ toBytesBE 32 c2s ++ toBytesBE 32 s2c
  let text := sivSeal k.key (toBytesBE 4 k.keyId) (toBytesBE 16 nonce) plain
  (Fields.pack [(32, k.keyId), (128, nonce), (128, ofBytesBE (text.take 16)), (544, ofBytesBE ((text.drop 16).take 68))], s1)

/-- Open a cookie (R275, R276): its generation, C2S and S2C, where it opens and names AEAD 15. -/
def State.openCookie (s : State) (body : List Nat) : Option (Nat × Nat × Nat) :=
  let c := ofBytesBE body
  match s.ts.cookies.find? (fun k => k.keyId == bits c 0 32) with
  | none => none
  | some k =>
    if body.length ≠ 104 then none
    else
      match sivOpen k.key (toBytesBE 4 k.keyId) (toBytesBE 16 (bits c 32 128)) (toBytesBE 16 (bits c 160 128) ++ toBytesBE 68 (bits c 288 544)) with
      | none => none
      | some p =>
        if p.length = 68 ∧ ofBytesBE (p.take 2) = 15 then some (k.keyId, ofBytesBE ((p.drop 4).take 32), ofBytesBE ((p.drop 36).take 32)) else none

/-- Fresh cookies for a pair of keys. -/
def State.freshCookies (n : Nat) (c2s s2c : Nat) (s : State) : List Nat × State :=
  (List.range n).foldl (fun (a : List Nat × State) _ =>
    match a.2.ts.cookies with
    | k :: _ =>
      let (c, t) := a.2.sealCookie k c2s s2c
      (a.1 ++ [c], t)
    | [] => a) ([], s)

end Sys2Proof.Machine
namespace Sys2Proof

/-- Unique Identifiers, cookies and placeholders of a request. -/
def TsReq.uids (r : TsReq) : List (List Nat) := r.exts.filterMap (fun e => match e with | .uid b => some b | _ => none)

def TsReq.cookies (r : TsReq) : List (List Nat) := r.exts.filterMap (fun e => match e with | .cookie b => some b | _ => none)

def TsReq.holders (r : TsReq) : List Nat := r.exts.filterMap (fun e => match e with | .placeholder n => some n | _ => none)

def TsReq.auths (r : TsReq) : List (List Nat × List Nat) := r.exts.filterMap (fun e => match e with | .auth n t => some (n, t) | _ => none)

/-- Is the last extension field the authenticator. -/
def TsReq.authLast (r : TsReq) : Bool := match r.exts.getLast? with | some (.auth _ _) => true | _ => false

/-- The checks 1 to 4 of R277. -/
def TsReq.ntsGood (r : TsReq) : Bool :=
  r.uids.length == 1 && decide (32 ≤ (r.uids.headD []).length) && r.cookies.length == 1 && decide (r.holders.length ≤ 7)
    && r.auths.length == 1 && r.authLast

/-- Bytes of an extension field with a body of `n` bytes. -/
def extBytes (n : Nat) : Nat := 4 + (n + 3) / 4 * 4

/-- Bytes of an NTS response that returns `k` cookies: header, Unique Identifier, authenticator with nonce, SIV and cookies. -/
def ntsBytes (uid k : Nat) : Nat := 48 + extBytes uid + 8 + 16 + 16 + k * extBytes 104

/-- Cookies a response returns (R277): one, and one per placeholder of 104 bytes, less what would make it longer than the request. -/
def TsReq.returns (r : TsReq) : Nat :=
  let want := 1 + (r.holders.filter (· == 104)).length
  (((List.range (want + 1)).reverse.find? (fun k => decide (ntsBytes (r.uids.headD []).length k ≤ r.udpBytes))).getD 0)

/-- Work of an NTS request in half units (R260). -/
def TsReq.ntsHalves (r : TsReq) : Nat := 5 + (r.returns - 1)

end Sys2Proof
namespace Sys2Proof.Machine

/-- The server answers, kisses or drops an NTS request (R270, R271, R277). -/
def State.ntsServe (r : TsReq) (cls pol : Nat) (s : State) : State :=
  let k := s.ledgerKey false r.frame
  let (e, s1) := s.ledgerLookup k cls pol
  let (ok, s2) := s1.takeToken k e
  let policy := e.elim pol (·.policy)
  let c := e.elim cls (·.cls)
  let uid := r.uids.headD []
  let uidF : Fields := uid.map (fun b => (8, b))
  let opened := (s.openCookie (r.cookies.headD [])).bind (fun x =>
    match r.auths with
    | (nonce, text) :: _ => if (sivOpen x.2.1 r.ad nonce text).isSome then some x else none
    | [] => none)
  if !ok then
    let s3 := s2.tsCount c 5
    if s.banks.active.polAction policy then s3
    else
      let poll := ratePollByte r.poll (s.banks.active.polRate policy)
      match opened with
      | none => s3.kiss r k e c 3 kissRATE 1 poll 0 [] true
      | some x =>
        let (nonce, s4) := s3.entropy 128
        let head := kissBody r kissRATE poll uidF
        let text := sivSeal x.2.2 (Fields.wireBytes head) (toBytesBE 16 nonce) []
        s4.kiss r k e c 3 kissRATE 1 poll (extBytes uid.length + 40) (uidF ++ [(128, nonce)] ++ text.map (fun b => (8, b))) true
  else
    match opened with
    | none => s2.kiss r k e c 4 kissNTSN 4 r.poll (extBytes uid.length) uidF false
    | some x =>
      let s3 := s2.updEntry k (fun e => { e with ntsKeyId := x.1 })
      let (cookies, s4) := s3.freshCookies r.returns x.2.1 x.2.2
      let a := answerCopy s4 r c 2 (ntsBytes uid.length r.returns) []
      s4.tsAnswer r.port { a with
        body := s4.ntpBody r a.stamp, booked := true, s2c := x.2.2, uid := uid, plain := cookies.flatMap (toBytesBE 104) }

/-- An NTS request is checked, authenticated and answered with fresh cookies or an `NTSN` kiss (R257 to R277, R286). -/
def State.ntsRequest (r : TsReq) (s : State) : State :=
  if !s.tsHears r.port r.frame then s
  else
    let (cls, pol) := s.classOf r.port false r.frame
    if !s.ts.nts then s.tsCount 3 9
    else if cls = 3 then s.denied r true
    else if !r.good then s.tsCount 3 2
    else if !r.ntsGood then s.tsCount 3 3
    else
      let (ok, s1) := s.admitReq r.port cls r.ntsHalves
      if ok then s1.ntsServe r cls pol else s1

def execNtsRequest (dt : Nat) (r : TsReq) (s : State) : Host.Outcome State Fault Refusal :=
  withPort r.port (s.advance dt) (fun s1 => s1.ntsRequest r)

/-- A rotation is called for: every `cookie_rotate_s`, while the group holds keys (R276). It is a key-store write that waits
while firmware is not running, `SUPPLY_WARN` stands or the entropy source fails. -/
def execCookieRotate (dt : Nat) (s : State) : Host.Outcome State Fault Refusal :=
  let s1 := s.advance dt
  .next (if s1.ts.cookies.isEmpty ∨ s1.time.tick < s1.ts.rotateDue then s1
  else
    let late := decide (s1.ts.rotateDue + 60 * tickS < s1.time.tick) && !s1.ts.rotateLate
    let s2 := if late then ({ s1 with ts := { s1.ts with rotateLate := true } }).tsCount 3 11 else s1
    if s2.keys.writes.any (·.rotation) ∨ !s2.fw.running ∨ s2.plat.warn ∨ !s2.bn.entropyOk then { s2 with ts := { s2.ts with rotating := true } }
    else
      let slot := (s2.ts.cookies.getLast?.map (·.slot)).getD 253
      let (key, s3) := s2.entropy 256
      { s3 with
        ts := { s3.ts with rotating := true }
        keys := { s3.keys with writes := s3.keys.writes ++ [{ slots := [(slot, cookieKey (nextKeyId s3.cookieId) key)], rotation := true }] } })

/-! ### Service addresses (R258) -/

/-- An ARP request or Neighbor Solicitation for a service address is answered with the service MAC. It is no time-service request (R258), so a `DENY` prefix does not stop it: it counts as a stranger's
(log entry 174). -/
def State.serviceArp (r : TsReq) (s : State) : State :=
  let f := r.frame
  let v := s.vlanOf r.port f
  if !s.reachesEngine r.port f ∨ !s.asksAddress r.port v f then s
  else
    match (List.range 16).find? (fun i =>
        let w := s.banks.active.addrWord i
        bit w 4 && bits w 96 128 == f.target && bit w 5 == f.ipv6 && (if bits w 8 12 = 0 then !(f.tagged && f.vid != 0) else bits w 8 12 == v)) with
    | none => s
    | some i =>
      let cls := min 2 (s.classOf r.port false f).1
      let (ok, s1) := s.admitReq r.port cls 2
      if !ok then s1
      else
        let mac := bits (s.banks.active.addrWord i) 32 48
        s1.tsAnswer r.port { answerCopy s1 r cls 10 0 [(48, mac), (128, f.target)] with frame := { answerFrame f 64 with src := mac } }

def execServiceArp (dt : Nat) (r : TsReq) (s : State) : Host.Outcome State Fault Refusal :=
  withPort r.port (s.advance dt) (fun s1 => s1.serviceArp r)

/-! ### Exchanges this device takes part in (R280, R285; 07_timing_domain.md R192) -/

/-- A Sync is received at a stamp: its origin timestamp is known at once where it is one-step. -/
def PtpPair.onSync (x : PtpPair) (m : PtpMsg) (t2 steps : Int) : PtpPair :=
  { x with syncSeq := m.seq, corr := m.correction, t1 := if m.twoStep then none else some (m.timestamp + m.correction), t2 := some t2, steps := steps }

/-- The Follow_Up of the latest Sync is received. -/
def PtpPair.onFollowUp (x : PtpPair) (m : PtpMsg) : PtpPair :=
  if m.seq = x.syncSeq then { x with t1 := some (m.timestamp + x.corr + m.correction) } else x

/-- A request leaves: its sequenceId; its egress stamp follows. -/
def PtpPair.onRequest (x : PtpPair) (seq : Nat) : PtpPair := { x with reqSeq := seq, t3 := none }

/-- Does a response answer the request of a pair, with no step of the time base since the pair began. -/
def State.answersPair (s : State) (p : Nat) (x : PtpPair) (m : PtpMsg) : Bool :=
  m.seq == x.reqSeq && m.reqIdentity == ownIdentity && m.reqPort == p + 1 && x.steps == s.time.stepSum

/-- The stamps t1, t2 and t3 of a pair, once all are known. -/
def PtpPair.stamps (x : PtpPair) : Option (Int × Int × Int) :=
  match x.t1, x.t2, x.t3 with
  | some a, some b, some c => some (a, b, c)
  | _, _, _ => none

/-! ### PTP (R278 to R285) -/

/-- Bytes of a PTP message's frame: message, AUTHENTICATION TLV, UDP and IP where the port's transport has them. -/
def State.ptpBytes (s : State) (p n : Nat) : Nat :=
  let t := s.banks.active.ptpTransport p
  18 + n + (if s.ptpSigned p then 26 else 0) + (if t = 0 then 0 else if t = 1 then 28 else 48)

/-- The domainNumber of a port's PTP messages: `ptp_domain` on a trunk port (07_timing_domain.md R191), else its own. -/
def State.ptpDomainOf (s : State) (p : Nat) : Nat :=
  if s.isTrunk p then bits s.banks.active.dom 8 8 else s.banks.active.ptpNumber p

/-- A message's first fields: messageType, domainNumber, sourcePortIdentity, sequenceId. -/
def State.ptpHead (s : State) (p msg seq : Nat) : Fields :=
  [(4, msg), rz 4, (8, s.ptpDomainOf p), (64, ownIdentity), (16, p + 1), (16, seq)]

/-- The next sequenceId of a message type on a port. -/
def State.ptpSequence (p msg : Nat) (s : State) : Nat × State :=
  let n := Tbl.getD s.ts.ptpSeq (16 * p + msg) 0
  (n, { s with ts := { s.ts with ptpSeq := Tbl.put s.ts.ptpSeq (16 * p + msg) ((n + 1) % 65536) } })

/-- The UDP port of a PTP message type: 319 for event messages, 320 for the others (R258). -/
def ptpUdpPort (msg : Nat) : Nat := if msg < 8 then 319 else 320

/-- A PTP copy the engine sends on a port to an address: kind, messageType and body. On an edge port it is one unit of work
(R260). -/
def State.ptpSend (p cls what msg n : Nat) (f : Frame) (body : Fields) (booked : Bool) (s : State) : State :=
  let udp := if s.banks.active.ptpTransport p ≠ 0 ∧ f.l4Dst = 0 then ptpUdpPort msg else f.l4Dst
  let c : Copy := { frame := { f with len := max 64 (s.ptpBytes p n), tag := msg, l4Dst := udp }, what := what, tsCls := cls, body := body, booked := booked
                    stamp := s.now, stampSteps := s.time.stepSum, stampEpoch := s.time.stepEpoch }
  let (ok, s1) := (if s.isTrunk p then s else s.tsWork cls 2 false).tsQueue p c
  if ok then s1 else if msg = 8 then s1.tsCount 3 6 else s1.tsCount cls 8

/-- Does a Sync or Pdelay_Resp of a port take the booked path (R282). -/
def Bank.ptpBooked (b : Bank) (p : Nat) : Bool := b.ptpTransport p == 2 || b.ptpAuth p != 0

/-- A frame to a multicast group of PTP on a port: the group addresses of IEEE 1588 for the port's transport (log entry 146). -/
def State.ptpGroup (s : State) (p : Nat) (peer : Bool) : Frame :=
  let t := s.banks.active.ptpTransport p
  if t = 0 then { dst := if peer then 0x0180C200000E else 0x011B19000000, src := portMac p, etherType := 0x88F7 }
  else if t = 1 then
    { dst := if peer then 0x01005E00006B else 0x01005E000181, src := portMac p, etherType := 0x0800, ipProto := 17
      ipDst := if peer then 0xE000006B else 0xE0000181 }
  else
    { dst := if peer then 0x33330000006B else 0x333300000181, src := portMac p, etherType := 0x86DD, ipv6 := true, ipProto := 17
      ipDst := if peer then 0xFF02 * 2 ^ 112 + 0x6B else 0xFF0E * 2 ^ 112 + 0x181 }

/-- A frame to one client, back the way its message came. -/
def State.clientFrame (s : State) (m : PtpMsg) : Frame := s.answerTo m.port m.frame

/-- Is a message layer-2 PTP. -/
def PtpMsg.l2 (m : PtpMsg) : Bool := m.frame.etherType == 0x88F7

/-- Is a PTP message a time-service request by where it arrived and what it is addressed to (R258): a service port, layer-2
PTP or UDP to port 319 or 320, and for unicast UDP a service address. -/
def State.ptpAddressed (s : State) (m : PtpMsg) : Bool :=
  bit s.banks.active.servicePorts m.port && isPtp m.frame && (PtpMsg.l2 m || bit m.frame.dst 40
    || (s.serviceAddr m.port (s.vlanOf m.port m.frame) m.frame).elim false (fun i => s.addrMatches i m.frame))

/-- Is a message's integrity as the port's `auth` asks (R284); a trunk port always asks for it (07_timing_domain.md R191). -/
def State.ptpIntact (s : State) (m : PtpMsg) : Bool :=
  let auth := if s.isTrunk m.port then 2 else s.banks.active.ptpAuth m.port
  match m.tag with
  | none => auth != 2
  | some t =>
    auth == 0 || (match s.ptpKey m.port with
      | some key => hmac128 key m.covered == t
      | none => false)

/-- Is the class of a client allowed a message type by a live grant (R270, R283). -/
def State.granted (s : State) (k : Nat × Nat × Nat) (port msg : Nat) : Bool := s.ts.grants.any (fun g => g.key == k && g.port == port && g.msg == msg)

/-- While PTP is disabled, a message that matches R258 is dropped and counted (R286). -/
def State.ptpDisabled (m : PtpMsg) (s : State) : State := if s.ptpAddressed m then s.tsCount 3 9 else s

/-- Is a granted message to a client of a class skipped while the engine falls short (R283; log entry 84): strangers' are, and those
to known clients once their queue is full. -/
def State.skipsGranted (s : State) (cls : Nat) : Bool := (cls == 2 && s.tsShort) || (cls == 1 && s.tsShort && !s.tsRoom 1)

/-- A PTP message on an edge role passes R255 to R270 and R284, and `f` is done with its class, key and entry. A denied
source's is dropped at ingress (R257). -/
def State.ptpAccept (m : PtpMsg) (token : (Nat × Nat × Nat) → State → Bool) (f : Nat → (Nat × Nat × Nat) → Option Ledger → State → State) (s : State) :
    State :=
  let b := s.banks.active
  let l2 := PtpMsg.l2 m
  if !s.reachesEngine m.port m.frame ∨ b.ptpRole m.port = 0 ∨ m.domain ≠ b.ptpNumber m.port ∨ !s.ptpAddressed m then s
  else
    let (cls, pol) := s.classOf m.port l2 m.frame
    if !s.ts.ptp then s.tsCount 3 9
    else if cls = 3 then s.denyDrop (s.ledgerKey l2 m.frame)
    else if !s.ptpIntact m then s.tsCount 3 4
    else
      let (ok, s1) := s.admitReq m.port cls 2
      if !ok then s1
      else
        let k := s1.ledgerKey l2 m.frame
        let (e, s2) := s1.ledgerLookup k cls pol
        let c := e.elim cls (·.cls)
        let s3 := s2.tsCount c 4
        if token k s3 then
          let (t, s4) := s3.takeToken k e
          if t then f c k e s4 else s4.tsCount c 5
        else f c k e s3

/-- Delay_Resp (R282): the Delay_Req's ingress stamp, its `subns` added to the copied correctionField. -/
def State.delayResp (m : PtpMsg) (c : Nat) (s : State) : State :=
  let t := Time96.ofUnits (s.rxStamp m.port m.phase m.lane)
  s.ptpSend m.port c 9 9 54 (s.clientFrame m) (s.ptpHead m.port 9 m.seq ++ [(48, t.sec), (32, t.ns), fi 64 (m.correction + t.sub), (64, m.identity),
    (16, m.srcPort), fi 8 (s.banks.active.logDelayReq m.port)]) false

/-- Pdelay_Resp (R282), to the request's source (R262): one-step with the turnaround added to the request's correctionField on the
fly, or two-step with its Follow_Up. One the engine sends is a unit of its work (R260); `island` says that the port island does. -/
def State.pdelayResp (m : PtpMsg) (c : Nat) (island : Bool) (s : State) : State :=
  let p := m.port
  let t := Time96.ofUnits (s.rxStamp p m.phase m.lane)
  let two := s.banks.active.ptpTwoStep p
  let copy : Copy := { frame := { s.clientFrame m with len := max 64 (s.ptpBytes p 54), tag := 3, correction := m.correction }
                       what := if two then 15 else 8, tsCls := c, island := island
                       body := s.ptpHead p 3 m.seq ++ [(64, m.identity), (16, m.srcPort)]
                       booked := s.banks.active.ptpBooked p && !two, stamp := t, stampSteps := s.time.stepSum, stampEpoch := s.time.stepEpoch }
  (if island then s else s.tsWork c 2 false).tsAnswer p copy

/-- A Pdelay_Req on a `TC_P2P` port is answered in the port island, with no ledger, tokens or units (R285); a denied source's
is not (R257). -/
def State.islandPdelay (m : PtpMsg) (s : State) : State :=
  if !s.reachesEngine m.port m.frame ∨ m.domain ≠ s.banks.active.ptpNumber m.port then s
  else if !s.ts.ptp then s.ptpDisabled m
  else if (s.classOf m.port (PtpMsg.l2 m) m.frame).1 = 3 then s.tsCount 3 0
  else if !s.ptpIntact m then s.tsCount 3 4
  else s.pdelayResp m 1 true

/-- A message covered by a grant is answered, or skipped and counted while the engine falls short (R283). -/
def State.answerGranted (k : Nat × Nat × Nat) (m : PtpMsg) (msg c : Nat) (f : State → State) (s : State) : State :=
  if s.granted k m.port msg ∧ s.skipsGranted c then s.tsCount 3 8 else f s

/-- A PTP message on an edge role is answered by the engine (R282, R285): Delay_Req on a master, Pdelay_Req on any role
that measures peers. -/
def execPtpEventMessage (dt : Nat) (m : PtpMsg) (s : State) : Host.Outcome State Fault Refusal :=
  withPort m.port (s.advance dt) (fun s1 =>
    let role := s1.banks.active.ptpRole m.port
    if m.msg = 1 ∧ role = 1 then s1.ptpAccept m (fun k t => !t.granted k m.port 9) (fun c k _ t => t.answerGranted k m 9 c (fun u => u.delayResp m c))
    else if m.msg = 2 ∧ role = 4 then s1.islandPdelay m
    else if m.msg = 2 ∧ (role = 1 ∨ role = 2) then s1.ptpAccept m (fun k t => !t.granted k m.port 3)
      (fun c k _ t => t.answerGranted k m 3 c (fun u => u.pdelayResp m c false))
    else if role = 1 ∨ role = 2 then s1.ptpAccept m (fun _ _ => false) (fun _ _ _ t => t)
    else s1)

/-- Does a master port relay the time of an IEEE 802.1AS master: a time-aware relay's, with the `SLAVE` port of the same gPTP domain
following one (07_timing_domain.md R211; PRESUMED, log entry 210). -/
def State.relays (s : State) (p : Nat) : Bool :=
  let b := s.banks.active
  b.ptpRole p == 1 && b.ptpProfile p == 2 && s.ts.masterId.isSome
    && (List.range portCount).any (fun q => b.ptpRole q == 2 && b.ptpProfile q == 2 && b.ptpNumber q == b.ptpNumber p)

/-- The Announce dataset of a master port (R281); a relay passes on that of the master it follows, one step further. -/
def State.announceBody (s : State) (p source : Nat) : Fields :=
  let b := s.banks.active
  let a := s.announced
  let leap := s.leap.pending
  let (gm, steps) := if s.followsDomain then (s.dom.root.rootIdentity, s.dom.hops) else (ownIdentity, 0)
  if s.relays p then
    let m := s.ts.master
    [(8, m.prio1), (8, m.cls), (8, accuracyOf s.estError), (16, s.variance), (8, m.prio2), (64, m.rootIdentity), (16, m.hops + 1), (8, source),
      fi 16 s.utcOffset, (1, 1), (1, 1), fb m.timeTr, fb m.freqTr, fb (leap && !s.leap.dir), fb (leap && s.leap.dir), rz 2]
  else
  [(8, b.tsPrio1), (8, a.1), (8, accuracyOf s.estError), (16, s.variance), (8, b.tsPrio2), (64, gm), (16, steps), (8, source),
    fi 16 s.utcOffset, (1, 1), (1, 1), fb a.2.1, fb a.2.2, fb (leap && !s.leap.dir), fb (leap && s.leap.dir), rz 2]


/-- Send one Sync or Announce to an address on a master port. -/
def State.ptpOriginate (p msg cls : Nat) (f : Frame) (s : State) : State :=
  let b := s.banks.active
  let (seq, s1) := s.ptpSequence p msg
  if msg = 0 then s1.ptpSend p cls (if b.ptpTwoStep p then 7 else 6) 0 44 f (s1.ptpHead p 0 seq) (b.ptpBooked p && !b.ptpTwoStep p)
  else
    let (v, s2) := if s1.timeSource.isNone then s1.draw 8 else (0, s1)
    s2.ptpSend p cls 9 11 64 f (s2.ptpHead p 11 seq ++ s2.announceBody p (s2.timeSource.getD v)) false

/-- The engine originates Sync (0) or Announce (11) on a master port: the multicast one when its interval is up, and those
of live grants that are due. While the engine falls short strangers' are skipped, and those to known clients once their queue
is full (R282, R283; log entry 84). -/
def State.ptpTurn (p msg : Nat) (s : State) : State :=
  let b := s.banks.active
  if b.ptpRole p ≠ 1 ∨ !s.ts.ptp ∨ (s.port p).link ≠ .up ∨ !(msg = 0 ∨ msg = 11) then s
  else
    let due := decide (Tbl.getD s.ts.ptpNext (16 * p + msg) 0 ≤ s.time.tick)
    let s1 := if due then
        let t := { s with ts := { s.ts with
          ptpNext := Tbl.put s.ts.ptpNext (16 * p + msg) (s.time.tick + logTicks (if msg = 0 then b.logSync p else b.logAnnounce p)) } }
        if b.ptpMulticast p ∧ !(msg = 0 ∧ s.relays p) then t.ptpOriginate p msg 1 (s.ptpGroup p (b.ptpProfile p == 1 || b.ptpProfile p == 2)) else t
      else s

    let mine := fun (g : Grant) => g.port == p && g.msg == msg && decide (g.nextAt ≤ s.time.tick)
    let ready := s.ts.grants.filter mine
    let s2 := { s1 with ts := { s1.ts with grants := s1.ts.grants.map (fun g => if mine g then { g with nextAt := s.time.tick + logTicks g.logPeriod } else g) } }
    ready.foldl (fun t g =>
      if t.skipsGranted g.cls then t.tsCount 3 8
      else t.ptpOriginate p msg g.cls { g.frame with l4Dst := 0 }) s2

/-- A grandmaster port of the SMPTE ST 2059-2 profile sends its synchronization metadata TLV (07_timing_domain.md R211). The
manual gives neither its content nor its interval: the content is a free value, and the interval is a second, that profile's
usual one (log entry 176). -/
def State.metadataTurn (p : Nat) (s : State) : State :=
  let b := s.banks.active
  if b.ptpRole p ≠ 1 ∨ b.ptpProfile p ≠ 3 ∨ !s.ts.ptp ∨ (s.port p).link ≠ .up ∨ s.followsDomain
      ∨ s.time.tick < Tbl.getD s.ts.ptpNext (16 * p + 13) 0 then s
  else
    let (seq, s1) := s.ptpSequence p 13
    let (tlv, s2) := s1.draw 424
    let s3 := { s2 with ts := { s2.ts with ptpNext := Tbl.put s2.ts.ptpNext (16 * p + 13) (s2.time.tick + tickS) } }
    s3.ptpSend p 1 9 13 105 (s3.ptpGroup p false) (s3.ptpHead p 13 seq ++ [(424, tlv)]) false

/-- The `SLAVE` port sends Delay_Req to the master it follows at its interval (R280); one of the IEEE 802.1AS profile measures its
link instead (07_timing_domain.md R211). -/
def State.slaveTurn (p : Nat) (s : State) : State :=
  let b := s.banks.active
  if !s.ts.ptp ∨ (s.port p).link ≠ .up ∨ b.ptpProfile p = 2 ∨ s.ts.masterId.isNone ∨ s.time.tick < Tbl.getD s.ts.ptpNext (16 * p + 1) 0 then s
  else
    let (seq, s1) := s.ptpSequence p 1
    let s2 := { s1 with ts := { s1.ts with
      ptpNext := Tbl.put s1.ts.ptpNext (16 * p + 1) (s1.time.tick + logTicks (b.logDelayReq p)), pair := PtpPair.onRequest s1.ts.pair seq } }
    s2.ptpSend p 1 17 1 44 (s2.ptpGroup p false) (s2.ptpHead p 1 seq) false

/-- The engine originates a message whose time has come: Sync or Announce on a master port, with the Follow_Up when the Sync
leaves, the synchronization metadata TLV of SMPTE ST 2059-2 as grandmaster, and Delay_Req on the `SLAVE` port (R280, R282;
07_timing_domain.md R211). -/
def execPtpMessageSend (dt port msg : Nat) (s : State) : Host.Outcome State Fault Refusal :=
  withPort port (s.advance dt) (fun s1 =>
    if msg = 1 ∧ s1.banks.active.ptpRole port = 2 then s1.slaveTurn port
    else if msg = 13 then s1.metadataTurn port
    else s1.ptpTurn port msg)

/-- An Announce on a `MASTER` port is counted, and reported at most once per 10 s (R279, R299). -/
def execPtpForeignMaster (dt : Nat) (m : PtpMsg) (s : State) : Host.Outcome State Fault Refusal :=
  withPort m.port (s.advance dt) (fun s1 =>
    let cls := (s1.classOf m.port (PtpMsg.l2 m) m.frame).1
    if s1.banks.active.ptpRole m.port ≠ 1 ∨ m.msg ≠ 11 ∨ !s1.reachesEngine m.port m.frame then s1
    else if !s1.ts.ptp then s1.ptpDisabled m
    else if cls = 3 then s1.tsCount 3 0
    else if !s1.ptpIntact m then s1.tsCount 3 4
    else
      let s2 := ((s1.tsWork cls 2 false).tsCount cls 4).tsCount 3 5
      if (Tbl.get? s1.ts.foreignAt m.port).elim true (fun t => decide (t + 10 * tickS ≤ s1.time.tick)) then
        ({ s2 with ts := { s2.ts with foreignAt := Tbl.put s2.ts.foreignAt m.port s2.time.tick } }).post 0x0B03
          [(8, m.port), (64, m.identity), (8, m.prio1), (8, m.cls)]
      else s2)

/-! ### The SLAVE port (R280) -/

/-- What any message must pass on the `SLAVE` port: role, link, `domain_number`, and `master_identity` if set. -/
def State.slaveHears (s : State) (m : PtpMsg) : Bool :=
  let b := s.banks.active
  b.ptpRole m.port == 2 && !b.domEnable && s.reachesEngine m.port m.frame && m.domain == b.ptpNumber m.port && isPtp m.frame
    && (b.masterIdentity m.port == 0 || b.masterIdentity m.port == m.identity)

/-- Does the dataset an Announce carries meet R280. -/
def State.masterMeets (s : State) (m : PtpMsg) : Bool := decide (m.cls ≤ s.banks.active.maxClass m.port) && decide (m.steps < 255)

/-- An Announce on the `SLAVE` port (R280): the first master to meet the tests is followed until its Announces stop or fail
them (log entry 175). -/
def State.slaveAnnounce (m : PtpMsg) (s : State) : State :=
  let who := (m.identity, m.srcPort)
  if s.ts.masterId.elim false (· != who) then s
  else if !s.masterMeets m then { s with ts := { s.ts with masterId := none } }
  else
    let data : Hello := {
      s.ts.master with rootIdentity := m.gm, cls := m.cls, prio1 := m.prio1, timeTr := m.timeTr, freqTr := m.freqTr, hops := m.steps }
    ({ s with ts := { s.ts with master := data, masterId := some who, announceAt := some s.time.tick } }).indication 7 true

/-- A time-aware relay passes on a Sync whose origin is known, on each of its master ports of the gPTP domain: with the origin as
received, and in the Follow_Up the correction so far, the link it came over and the residence (07_timing_domain.md R211; PRESUMED,
log entry 210). `q` is the port it came in on, `t2` its ingress stamp. -/
def State.relaySync (q : Nat) (origin corr t2 steps : Int) (s : State) : State :=
  ((List.range portCount).filter (fun p => s.relays p && (s.port p).link == .up && s.banks.active.ptpNumber p == s.banks.active.ptpNumber q)).foldl
    (fun t p =>
      let (seq, t1) := t.ptpSequence p 0
      let at_ := Time96.ofUnits origin
      let c : Copy := {
        frame := { t1.ptpGroup p true with
          len := max 64 (t1.ptpBytes p 44), tag := 0, correction := corr + Tbl.getD t1.ts.linkDelay q 0
          l4Dst := if t1.banks.active.ptpTransport p = 0 then 0 else 319 }
        what := 18, tsCls := 1, body := t1.ptpHead p 0 seq ++ [(48, at_.sec), (32, at_.ns)]
        stamp := Time96.ofUnits t2, stampSteps := steps, stampEpoch := t1.time.stepEpoch }
      ((t1.tsWork 1 2 false).tsAnswer p c)) s

/-- An end station of IEEE 802.1AS has the origin of a Sync: with its measured link delay it gives ref 7 a value, and a relay passes
it on (07_timing_domain.md R211). -/
def State.syncTiming (m : PtpMsg) (x : PtpPair) (s : State) : State :=
  match s.banks.active.ptpProfile m.port == 2, x.t1, x.t2, Tbl.get? s.ts.linkDelay m.port with
  | true, some t1, some t2, some d =>
    let corr := if m.msg = 0 then x.corr else x.corr + m.correction
    let s1 := s.relaySync m.port (t1 - corr) corr t2 x.steps
    if x.steps = s.time.stepSum then s1.refEvent 7 (s1.seriesEvent (t1 + d - t2)) (some (t1 + d - t2)) false else s1
  | _, _, _, _ => s

/-- A timing message of the master followed (R280): the four stamps of a Sync and Delay_Req pair give ref 7 a value, formed as
R192 does with α = 0; in the IEEE 802.1AS profile each Sync does, with the link delay the port measures. -/
def State.slaveTiming (m : PtpMsg) (s : State) : State :=
  let x := s.ts.pair
  let put := fun (y : PtpPair) => { s with ts := { s.ts with pair := y } }
  if s.ts.masterId ≠ some (m.identity, m.srcPort) then s
  else if m.msg = 0 then
    let y := x.onSync m (s.rxStamp m.port m.phase m.lane) s.time.stepSum
    (put y).syncTiming m y
  else if m.msg = 8 then
    let y := x.onFollowUp m
    if m.seq = x.syncSeq then (put y).syncTiming m y else s
  else if m.msg = 9 ∧ s.answersPair m.port x m then
    match x.stamps with
    | some (t1, t2, t3) =>
      let t4 := m.timestamp - m.correction
      let e := (t1 + downOf ((t4 - t1) - (t3 - t2)) 0) - t2
      (put { x with t3 := none }).refEvent 7 (s.seriesEvent e) (some e) false
    | none => s
  else s

/-- A message on the `SLAVE` port is dropped, or is one unit of work (R257, R260, R280, R284). -/
def State.slaveTakes (m : PtpMsg) (s : State) : State :=
  if !s.slaveHears m then s
  else if !s.ts.ptp then s.ptpDisabled m
  else
    let cls := (s.classOf m.port (PtpMsg.l2 m) m.frame).1
    if cls = 3 then s.tsCount 3 0
    else if !s.ptpIntact m then s.tsCount 3 4
    else
      let s1 := (s.tsWork cls 2 false).tsCount cls 4
      if m.msg = 11 then s1.slaveAnnounce m else s1.slaveTiming m

/-- An Announce or timing message on the `SLAVE` port is accepted or rejected (R280). -/
def execPtpSlaveAnnounce (dt port : Nat) (m : PtpMsg) (s : State) : Host.Outcome State Fault Refusal :=
  withPort port (s.advance dt) (fun s1 => State.settleTiming s1 (s1.slaveTakes { m with port := port }))

/-- No acceptable Announce within `announce_timeout` intervals fails ref 7's indication (R280). -/
def execPtpAnnounceTimeout (dt : Nat) (s : State) : Host.Outcome State Fault Refusal :=
  let s1 := s.advance dt
  let b := s1.banks.active
  .next (match (List.range portCount).find? (fun p => b.ptpRole p == 2), s1.ts.announceAt with
    | some p, some t =>
      if t + b.announceTimeout p * logTicks (b.logAnnounce p) ≤ s1.time.tick then
        State.settleTiming s1 (({ s1 with ts := { s1.ts with announceAt := none, masterId := none } }).indication 7 false)
      else s1
    | _, _ => s1)

/-! ### Unicast negotiation (R283) -/

/-- Messages per second of a grant, in 1/65,536. -/
def grantRate (log : Int) : Nat := if 0 ≤ log then 65536 / 2 ^ log.toNat else 65536 * 2 ^ (-log).toNat

/-- Messages per second granted, rounded up. -/
def State.grantUnits (s : State) : Nat := ((s.ts.grants.map (fun g => grantRate g.logPeriod)).sum + 65535) / 65536

/-- The tests of R283 on a request. -/
def State.grantOk (s : State) (m : PtpMsg) (c : Nat) (k : Nat × Nat × Nat) : Bool :=
  let b := s.banks.active
  let others : List Grant := s.ts.grants.filter (fun g => !(g.key == k && g.msg == m.wanted))
  let sum := (others.map (fun g => grantRate g.logPeriod)).sum + grantRate m.logPeriod
  decide (-7 ≤ m.logPeriod) && within 10 b.maxDurationS m.duration && (m.wanted == 0 || m.wanted == 3 || m.wanted == 9 || m.wanted == 11)
    && (decide (c ≤ 1) || (b.strangerGrants && decide (b.strangerMinLog ≤ m.logPeriod)))
    && decide (others.length < 262144) && decide ((others.filter (fun g => g.key == k)).length < 8) && decide (sum ≤ b.grantUnitsMax * 65536)

/-- A signalling answer to a client: the TLV's type, message type, period and duration. -/
def State.signal_ (m : PtpMsg) (c tlv duration : Nat) (s : State) : State :=
  let (seq, s1) := s.ptpSequence m.port 12
  s1.ptpSend m.port c 9 12 54 (s.clientFrame m) (s1.ptpHead m.port 12 seq ++ [(16, tlv), (4, m.wanted), fi 8 m.logPeriod, (32, duration)]) false

/-- A unicast negotiation message is granted, denied, cancelled or acknowledged (R283). -/
def State.negotiate (m : PtpMsg) (c : Nat) (k : Nat × Nat × Nat) (e : Option Ledger) (s : State) : State :=
  if m.tlv = 0 then
    if e.isSome ∧ s.grantOk m c k then
      let g : Grant := { key := k, port := m.port, msg := m.wanted, logPeriod := m.logPeriod, endsAt := s.time.tick + m.duration * tickS, cls := c
                         nextAt := s.time.tick, frame := s.clientFrame m }
      ({ s with ts := { s.ts with grants := s.ts.grants.filter (fun (x : Grant) => !(x.key == k && x.msg == m.wanted)) ++ [g] } }).signal_ m c 5 m.duration
    else (s.tsCount 3 7).signal_ m c 5 0
  else if m.tlv = 1 then
    ({ s with ts := { s.ts with grants := s.ts.grants.filter (fun (x : Grant) => !(x.key == k && x.msg == m.wanted)) } }).signal_ m c 7 0
  else s

def execUnicastNegotiation (dt : Nat) (m : PtpMsg) (s : State) : Host.Outcome State Fault Refusal :=
  withPort m.port (s.advance dt) (fun s1 =>
    if s1.banks.active.ptpRole m.port ≠ 1 ∨ !s1.banks.active.ptpUnicast m.port then s1
    else s1.ptpAccept m (fun _ _ => true) (fun c k e t => t.negotiate m c k e))

/-- A unicast grant reaches its duration and ends (R283). -/
def execGrantExpire (dt : Nat) (s : State) : Host.Outcome State Fault Refusal :=
  let s1 := s.advance dt
  .next { s1 with ts := { s1.ts with grants := s1.ts.grants.filter (fun g => s1.time.tick < g.endsAt) } }

/-- One CANCEL_UNICAST_TRANSMISSION to the client of a grant (R286). -/
def State.cancelGrant (g : Grant) (s : State) : State :=
  let (seq, s1) := s.ptpSequence g.port 12
  s1.ptpSend g.port g.cls 9 12 54 g.frame (s1.ptpHead g.port 12 seq ++ [(16, 6), (4, g.msg)]) false

/-- Cancel the grants that satisfy `p`. -/
def State.cancelGrants (p : Grant → Bool) (s : State) : State :=
  (s.ts.grants.filter p).foldl (fun t g => t.cancelGrant g) { s with ts := { s.ts with grants := s.ts.grants.filter (fun g => !p g) } }

/-- Is a port's link delay measured in the port island, a `TC_P2P` port's (R285), rather than by the engine. -/
def Bank.islandPort (b : Bank) (p : Nat) : Bool := b.ptpRole p == 4

/-- A port sends a Pdelay_Req (R285); one the engine sends is a unit of its work (R260). -/
def State.pdelayAsk (p : Nat) (s : State) : State :=
  let (seq, s1) := s.ptpSequence p 2
  let s2 := { s1 with ts := { s1.ts with
    ptpNext := Tbl.put s1.ts.ptpNext (16 * p + 2) (s1.time.tick + tickS)
    linkPair := Tbl.put s1.ts.linkPair p ({ ({} : PtpPair) with steps := s1.time.stepSum }.onRequest seq) } }
  let c : Copy := { frame := { s2.ptpGroup p true with len := max 64 (s2.ptpBytes p 54), tag := 2 }, what := 16, tsCls := 1, island := s2.banks.active.islandPort p, body := s2.ptpHead p 2 seq
                    stamp := s2.now, stampSteps := s2.time.stepSum, stampEpoch := s2.time.stepEpoch }
  ((if c.island then s2 else s2.tsWork 1 2 false).tsQueue p c).2

/-- A Pdelay_Resp or its Follow_Up is received: one whose integrity fails is dropped and counted (R284); one the engine takes is a
unit of its work and a message of its count (R260, R295). Its answer to the port's own request gives the mean of the two ways, the
far end's turnaround taken out (R285). -/
def State.pdelayTake (p : Nat) (m : PtpMsg) (s00 : State) : State :=
  let island := s00.banks.active.islandPort p
  let cls := (s00.classOf p (PtpMsg.l2 m) m.frame).1
  let s := if island then s00 else (s00.tsWork (min 2 cls) 2 false).tsCount (min 2 cls) 4
  let x := Tbl.getD s.ts.linkPair p {}
  let put := fun (y : PtpPair) (d : Option Int) => { s with ts := { s.ts with
    linkPair := Tbl.put s.ts.linkPair p y
    linkDelay := d.elim s.ts.linkDelay (fun v => Tbl.put s.ts.linkDelay p v) } }
  if m.domain ≠ s.banks.active.ptpNumber p then s00
  else if cls = 3 then s00.tsCount 3 0
  else if !s.ptpIntact m then s00.tsCount 3 4
  else if !s.answersPair p x m then s
  else if m.msg = 3 then
    match x.t3 with
    | some t3 =>
      let t4 := s.rxStamp p m.phase m.lane
      if m.twoStep then put { x with t1 := some m.timestamp, t2 := some t4, corr := m.correction } none
      else put { x with t3 := none } (some (((t4 - t3) - m.correction) / 2))
    | none => s
  else if m.msg = 10 then
    match x.stamps with
    | some (t1, t2, t3) => put { x with t3 := none } (some (((t2 - t3) - (m.timestamp - t1) - x.corr - m.correction) / 2))
    | none => s
  else s

/-- Does a port measure its link delay: a `TC_P2P` port (R285), and one of the IEEE 802.1AS profile, for its Common Mean Link
Delay Service (07_timing_domain.md R211). -/
def State.measuresLink (s : State) (p : Nat) : Bool :=
  let role := s.banks.active.ptpRole p
  role == 4 || ((role == 1 || role == 2) && s.banks.active.ptpProfile p == 2)

/-- A port measures its link delay by Pdelay once per second (R285): it takes the answer heard, or asks. -/
def execPdelayMeasure (dt port : Nat) (heard : Bool) (m : PtpMsg) (phase lane : Nat) (s : State) :
    Host.Outcome State Fault Refusal :=
  withPort port (s.advance dt) (fun s1 =>
    if !s1.measuresLink port ∨ (s1.port port).link ≠ .up ∨ (heard ∧ !s1.reachesEngine port m.frame) then s1
    else if !s1.ts.ptp then (if heard then s1.ptpDisabled { m with port := port } else s1)
    else if heard then s1.pdelayTake port { m with port := port, phase := phase, lane := lane }
    else if Tbl.getD s1.ts.ptpNext (16 * port + 2) 0 ≤ s1.time.tick then s1.pdelayAsk port else s1)

/-- Which function built a copy of the engine's: 0 NTP, 1 NTS, 2 PTP. -/
def Copy.tsFunction (c : Copy) : Nat :=
  if c.what = 1 ∨ c.what = 3 ∨ c.what = 5 then 0 else if c.what = 2 ∨ c.what = 4 then 1 else 2

/-- Has everything a function built been sent. -/
def State.tsSent (s : State) (k : Nat) : Bool :=
  s.copies.all (fun c => !(c.ts && (c.what ≤ 9 || 15 ≤ c.what) && c.tsFunction == k))

/-- A disabled function whose responses already built are sent reports quiescent (R286). -/
def execTsFunctionQuiescent (dt : Nat) (s : State) : Host.Outcome State Fault Refusal :=
  let s1 := s.advance dt
  let left := fun (k : Nat) => if bit s1.ts.draining k ∧ !s1.tsSent k then 2 ^ k else 0
  .next { s1 with ts := { s1.ts with draining := left 0 + left 1 + left 2 } }

/-! ### The commit (R258, R286) -/

/-- Announce a service address on its ports: a gratuitous ARP or an unsolicited Neighbor Advertisement. -/
def State.gratuitous (w : Nat) (s : State) : State :=
  let b := s.banks.active
  let dst := if bit w 5 then 0x333300000001 else broadcastMac
  let n := if bit w 5 then 90 else 64
  ((List.range portCount).filter (fun p => bit b.servicePorts p && (s.port p).link == .up)).foldl (fun t p =>
    (t.emit (.frame p .arp [(48, dst), (48, bits w 32 48), (12, bits w 8 12), (128, bits w 96 128)])).countTx p dst
      (n + if bits w 8 12 = 0 then 0 else 4)) s

/-- The engine follows the active bank, once March step 24 has powered it: what is switched off drains, grants of a disabled PTP or of a port no longer master
are cancelled, changed addresses are announced. `old` is the state before. -/
def State.syncService (old s : State) : State :=
  let b := s.banks.active
  let on := decide (24 ≤ s.plat.stepsDone)
  let slave := fun (x : Bank) => (List.range portCount).any (fun p => x.ptpRole p == 2)
  let off := fun (was now : Bool) (k : Nat) => if was ∧ !now then 2 ^ k else 0
  let s1 := { s with ts := { s.ts with
    ntp := b.ntpEn && on, nts := b.ntsEn && on, ptp := b.ptpEn && on
    draining := s.ts.draining ||| (off s.ts.ntp b.ntpEn 0 + off s.ts.nts b.ntsEn 1 + off s.ts.ptp b.ptpEn 2)
    derivedAt := if old.banks.active.pfx ≠ b.pfx ∨ old.banks.active.tspol ≠ b.tspol then s.banks.epoch else s.ts.derivedAt
    master := if slave b then s.ts.master else {}
    masterId := if slave b then s.ts.masterId else none
    pair := if slave b then s.ts.pair else {}
    announceAt := if !slave b then none else if slave old.banks.active then s.ts.announceAt else some s.time.tick } }
  let s2 := s1.cancelGrants (fun g => !b.ptpEn || b.ptpRole g.port != 1)
  (List.range 16).foldl (fun t i =>
    let w := b.addrWord i
    if bit w 4 ∧ w ≠ old.banks.active.addrWord i then t.gratuitous w else t) s2

/-! ### Commands (R287 to R298) -/

/-- `TS_CONFIG_SET` (R288). -/
def cmdTsConfigSet : Command where
  opcode := 0x0B01
  layout _ := { size := 368, fields := [(0, 4), (8, 80), (96, 83), (184, 64), (256, 112)] }
  range q s :=
    (!q.b 1 || q.b 0) && decide (q.f 8 8 ≤ 7) && decide (q.f 16 8 ≤ 7) && within 64 128 (q.f 24 8) && within 256 8192 (q.f 96 32)
      && within 1 3600 (q.f 160 16) && decide (q.f 184 8 ≤ 2) && within 3600 604800 (q.f 192 32) && withinI (-7) 4 (q.i 240 8)
      && within 10 1000 (q.f 256 16) && decide (q.f 272 32 ≤ 33554432) && within 60 86400 (q.f 304 32) && within 600 604800 (q.f 336 32)
      && (List.range portCount).all (fun p => !(bit (q.f 32 56) p && s.banks.shadow.trunk p && (s.port p).trunk.nbr.isNone))
  objs _ := stageObjs 0x0B01 0
  run q s := stage (fun b => { b with ts := q.body }) s

def execTsConfigSet (q : Req) (s : State) : Host.Outcome State Fault Refusal := runCommand cmdTsConfigSet q s

/-- `TS_CONFIG_GET` (R289). -/
def cmdTsConfigGet : Command where
  opcode := 0x0B02
  layout q :=
    if q.f 0 3 = 2 then { size := 32, fields := [(0, 3), (16, 10)] } else { size := 32, fields := [(0, 3), (8, 8)] }
  range q _ :=
    let i := q.f 8 8
    if q.f 0 3 = 0 then true else if q.f 0 3 = 1 then decide (i < 16) else if q.f 0 3 = 2 then true
    else if q.f 0 3 = 3 then decide (i < 16) else q.f 0 3 == 4 && decide (i < portCount)
  run q s :=
    let b := s.banks.active
    let i := q.f 8 8
    .done stOk [if q.f 0 3 = 0 then (368, b.ts) else if q.f 0 3 = 1 then (224, b.addrWord i) else if q.f 0 3 = 2 then (192, b.pfxWord (q.f 16 10))
      else if q.f 0 3 = 3 then (96, b.tspolWord i) else (176, b.ptpWord i)] s

def execTsConfigGet (q : Req) (s : State) : Host.Outcome State Fault Refusal := runCommand cmdTsConfigGet q s

/-- Is a service address multicast. -/
def addrMulticast (w : Nat) : Bool := if bit w 5 then bits w 216 8 == 0xFF else bits w 124 4 == 0xE

/-- `TS_ADDR_SET` (R290). -/
def cmdTsAddrSet : Command where
  opcode := 0x0B03
  layout _ := { size := 224, fields := [(0, 6), (8, 12), (32, 48), (96, 128)] }
  range q s := decide (q.f 8 12 ≤ 4094) && !q.b 72 && !addrMulticast q.body
    && !(List.range 16).any (fun i =>
      let w := s.banks.shadow.addrWord i
      i != q.f 0 4 && bit w 4 && bit w 5 == q.b 5 && bits w 8 12 == q.f 8 12 && bits w 96 128 == q.f 96 128)
  objs q := stageObjs 0x0B03 (q.f 0 4)
  run q s := stage (fun b => { b with addr := Tbl.put b.addr (q.f 0 4) q.body }) s

def execTsAddrSet (q : Req) (s : State) : Host.Outcome State Fault Refusal := runCommand cmdTsAddrSet q s

/-- `TS_PREFIX_SET` (R291). -/
def cmdTsPrefixSet : Command where
  opcode := 0x0B04
  layout _ := { size := 192, fields := [(0, 12), (16, 10), (28, 16), (64, 128)] }
  range q _ :=
    let len := q.f 16 8
    decide (q.f 32 12 ≤ 4094)
      && (if q.b 11 then decide (len ≤ 128) && q.f 64 128 % 2 ^ (128 - len) == 0
          else decide (len ≤ 32) && q.f 64 32 % 2 ^ (32 - len) == 0 && q.f 96 96 == 0)
  objs q := stageObjs 0x0B04 (q.f 0 10)
  run q s := stage (fun b => { b with pfx := Tbl.put b.pfx (q.f 0 10) q.body }) s

def execTsPrefixSet (q : Req) (s : State) : Host.Outcome State Fault Refusal := runCommand cmdTsPrefixSet q s

/-- `TS_POLICY_SET` (R292). -/
def cmdTsPolicySet : Command where
  opcode := 0x0B05
  layout _ := { size := 96, fields := [(0, 5), (32, 48)] }
  range q _ := decide (1 ≤ q.f 64 16)
  objs q := stageObjs 0x0B05 (q.f 0 4)
  run q s := stage (fun b => { b with tspol := Tbl.put b.tspol (q.f 0 4) q.body }) s

def execTsPolicySet (q : Req) (s : State) : Host.Outcome State Fault Refusal := runCommand cmdTsPolicySet q s

/-- `PTP_PORT_SET` (R293, 07_timing_domain.md R212). -/
def cmdPtpPortSet : Command where
  opcode := 0x0B06
  layout _ := { size := 176, fields := [(0, 21), (24, 152)] }
  range q s :=
    decide (q.f 0 8 < portCount) && !s.banks.shadow.trunk (q.f 0 8) && decide (q.f 8 3 ≤ 4) && decide (q.f 11 3 ≤ 4) && decide (q.f 14 2 ≤ 2)
      && decide (q.f 19 2 ≤ 2) && decide (2 ≤ q.f 56 8)
      && Config.profileAllows (q.f 11 3) (q.f 24 8) (q.i 32 8) (q.i 40 8) (q.i 48 8) (q.f 56 8)
  objs q := stageObjs 0x0B06 (q.f 0 8)
  run q s :=
    if q.f 19 2 ≠ 0 ∧ (s.sealBroken ∨ (s.slot (q.f 64 8)).typ ≠ 2) then .done stNotPermitted [] s
    else stage (fun b => { b with ptp := Tbl.put b.ptp (q.f 0 8) q.body }) s

def execPtpPortSet (q : Req) (s : State) : Host.Outcome State Fault Refusal := runCommand cmdPtpPortSet q s

/-- `TS_STATUS` (R294). -/
def cmdTsStatus : Command where
  opcode := 0x0B07
  run _ s :=
    let t := s.ts
    let load := ((lastSecond s.time.tick t.load).map (·.2)).sum / 2
    .done stOk [fb t.ntp, fb t.nts, fb t.ptp, fb t.rotating, rz 4, (8, s.ntpStratum), (2, s.ntpLi), rz 6, (8, s.announced.1), (32, s.ntpRefid),
      (32, s.ntpDispersion), (32, s.cookieId), (32, t.ledger.length), (32, (t.ledger.filter (fun e => e.cls == 2)).length),
      (32, t.grants.length), (32, s.grantUnits), (32, load), ft t.lastRotation] s

def execTsStatus (q : Req) (s : State) : Host.Outcome State Fault Refusal := runCommand cmdTsStatus q s

/-- `TS_COUNTERS` (R295): the counters of a set clear as they are read. -/
def cmdTsCounters : Command where
  opcode := 0x0B08
  layout _ := { size := 32, fields := [(0, 2)] }
  run q s :=
    let n := if q.f 0 2 = 3 then 12 else 11
    let lo := 16 * q.f 0 2
    .done stOk ((List.range n).map (fun i => (64, Tbl.getD s.ts.counters (lo + i) 0)))
      { s with ts := { s.ts with counters := s.ts.counters.filter (fun e => e.1 < lo || lo + 16 ≤ e.1) } }

def execTsCounters (q : Req) (s : State) : Host.Outcome State Fault Refusal := runCommand cmdTsCounters q s

/-- `TS_LEDGER_GET` (R296). -/
def cmdTsLedgerGet : Command where
  opcode := 0x0B09
  layout _ := { size := 160, fields := [(0, 2), (4, 12), (32, 128)] }
  range q _ := q.f 0 2 != 3
  run q s :=
    match s.entry (q.f 0 2, q.f 4 12, q.f 32 128) with
    | some e => .done stOk ([(1, 1), rz 31] ++ s.ledgerFields e) s
    | none => .done stOk [(1, 0), rz 31, (512, 0)] s

def execTsLedgerGet (q : Req) (s : State) : Host.Outcome State Fault Refusal := runCommand cmdTsLedgerGet q s

/-- Is an entry within a flush's scope (R297). -/
def ledgerFlushed (q : Req) (e : Ledger) : Bool :=
  let len := q.f 8 8
  if q.f 0 2 = 0 then true
  else if q.f 0 2 = 1 then e.cls == q.f 2 2
  else if q.b 16 then e.addrType == 1 && e.addr >>> (128 - len) == q.f 32 128 >>> (128 - len)
  else e.addrType == 0 && e.addr >>> (32 - len) == q.f 32 32 >>> (32 - len)

/-- `TS_LEDGER_FLUSH` (R297): answered when done. -/
def cmdTsLedgerFlush : Command where
  opcode := 0x0B0A
  layout _ := { size := 160, fields := [(0, 4), (8, 9), (32, 128)] }
  range q _ := decide (q.f 0 2 ≤ 2) && (q.f 0 2 != 1 || decide (q.f 2 2 ≤ 2)) && (q.f 0 2 != 2 || decide (q.f 8 8 ≤ if q.b 16 then 128 else 32))
  run _ s := .aside {} s

def execTsLedgerFlush (q : Req) (s : State) : Host.Outcome State Fault Refusal := runCommand cmdTsLedgerFlush q s

/-- A ledger flush completes: its entries go, live grants of them are cancelled, and the command answers (R269, R297). -/
def execLedgerFlushDone (dt : Nat) (s : State) : Host.Outcome State Fault Refusal :=
  let s1 := s.advance dt
  .next (match s1.tci.aside.find? (fun w => w.opcode == 0x0B0A) with
    | none => s1
    | some w =>
      let gone := s1.ts.ledger.filter (ledgerFlushed w.req)
      let s2 := s1.cancelGrants (fun g => gone.any (fun e => e.key == g.key))
      ({ s2 with ts := { s2.ts with ledger := s2.ts.ledger.filter (fun e => !ledgerFlushed w.req e) } }).finish (fun x => x == w) stOk
        (fun _ => [(32, gone.length)]))

/-- `NTS_COOKIE_ISSUE` (R298). -/
def cmdNtsCookieIssue : Command where
  opcode := 0x0B0B
  layout q := { size := 32 + 512 * q.f 0 8, fields := [(0, 16), (32, 512 * q.f 0 8)] }
  range q _ := within 1 16 (q.f 0 8) && within 1 8 (q.f 8 8) && decide (q.f 0 8 * q.f 8 8 ≤ 32)
  run q s :=
    if s.sealBroken then .done stSealBroken [] s
    else if !s.ts.nts ∨ s.ts.cookies.isEmpty then .done stNotPermitted [] s
    else
      let (l, s1) := (List.range (q.f 0 8)).foldl (fun (a : List Nat × State) k =>
        let (c, t) := a.2.freshCookies (q.f 8 8) (q.f (32 + 512 * k) 256) (q.f (288 + 512 * k) 256)
        (a.1 ++ c, t)) ([], s)
      .done stOk ([(32, s.cookieId)] ++ l.map (fun c => (832, c))) s1

def execNtsCookieIssue (q : Req) (s : State) : Host.Outcome State Fault Refusal := runCommand cmdNtsCookieIssue q s

end Sys2Proof.Machine
end

