-- ==== Sys2Proof/Machine/Banks.lean ====
section
/-!
DEFINITION. The configuration banks: validation, preload, the swap, the drain and the reseed, persisting and loading, and
the local commands of group 0x02 with `SYS_FACTORY_DEFAULT` (13_configuration_banks.md R426 to R439, R450 to R456;
12_command_interface.md R424).
-/
namespace Sys2Proof.Machine

/-! ### Validation (R432, R433) -/

/-- A finding: code, opcode of the item's staging command, its index, the related index. -/
abbrev Finding := Nat × Nat × Nat × Nat

/-- No related index. -/
def noIndex : Nat := 0xFFFF

/-- Ports that satisfy `p`. -/
def portsWhere (p : Nat → Bool) : List Nat := (List.range portCount).filter p

/-- `SLAVE_CONFLICT` (09_time_service.md R280). -/
def Bank.slaveFindings (b : Bank) : List Finding :=
  let slaves := portsWhere (fun p => b.ptpRole p == 2)
  slaves.flatMap (fun p =>
    match slaves.find? (· != p) with
    | some o => [(0x01, 0x0B06, p, o)]
    | none => if b.domEnable then [(0x01, 0x0B06, p, noIndex)] else [])

/-- Enabled reservations: flow and word. -/
def Bank.flows (b : Bank) : List (Nat × Nat) := b.rsv.filter (fun e => bit e.2 12)

/-- Reserved rates of a port, kb/s. -/
def Bank.reservedKbps (b : Bank) (p : Nat) : Nat := ((b.flows.filter (fun e => bits e.2 32 8 == p)).map (fun e => bits e.2 64 32)).sum

/-- `RSV_RATE` (11_switch_core.md R356): of ports in service. The item named is a reservation where the port has one. -/
def Bank.rateFindings (b : Bank) : List Finding :=
  (portsWhere (fun p => b.mode p != 0 && decide (95 * b.rate p * 1000 < 100 * (b.reservedKbps p + 1000 * b.xRate p)))).map (fun p =>
    (0x03, if b.reservedKbps p = 0 then 0x0402 else 0x040A, p, noIndex))

/-- The key with the largest weight, the first of equals. -/
def largest (l : List (Nat × Nat)) : Option Nat :=
  (l.foldl (fun (a : Option (Nat × Nat)) e =>
    match a with
    | some x => if x.2 < e.2 then some e else some x
    | none => some e) none).map (·.1)

/-- `RSV_BURST` (R356): names the flow with the largest burst. -/
def Bank.burstFindings (b : Bank) : List Finding :=
  let bursts := b.flows.map (fun e => (e.1, bits e.2 96 32))
  if 16777216 < (bursts.map (·.2)).sum + 1024 * b.tsPoolKib then
    [(0x04, if bursts.isEmpty then 0x0B01 else 0x040A, (largest bursts).getD 0, noIndex)]
  else []

/-- `CELLS` (R374): names the queue with the largest minimum. -/
def Bank.cellFindings (b : Bank) : List Finding :=
  let mins := (List.range portCount).flatMap (fun p => (List.range 9).map (fun k => (16 * p + k, b.minCells p k)))
  let rsv := (b.flows.map (fun e => bits e.2 96 32)).sum
  if 262144 < (mins.map (·.2)).sum + cellsOf (b.tsPoolKib * 1024) + cellsOf rsv + 8192 then
    let k := (largest mins).getD 0
    [(0x05, 0x0409, k / 16, k % 16)]
  else []

/-- `ROLE_ON_TRUNK`: a PTP role on a trunk port, or a trunk port out of service. -/
def Bank.roleFindings (b : Bank) : List Finding :=
  (portsWhere b.trunk).flatMap (fun p =>
    (if b.ptpRole p != 0 then [(0x07, 0x0B06, p, noIndex)] else []) ++ (if b.mode p == 0 then [(0x07, 0x0903, p, noIndex)] else []))

/-- `REF_LINK`. -/
def Bank.refFindings (b : Bank) : List Finding :=
  let tods := refList.filter b.todRx
  refList.flatMap (fun r =>
    let c := b.companion r
    (if b.refType r = 2 ∧ c ≠ 15 ∧ b.refType c ≠ 6 then [(0x08, 0x0701, r, c)] else [])
      ++ (if b.todRx r ∧ tods.head? ≠ some r then [(0x08, 0x0701, r, tods.headD 0)] else [])
      ++ (if b.refType r = 4 ∧ b.mode (b.refParam r) = 0 then [(0x08, 0x0701, r, b.refParam r)] else []))

/-- `KEY_MISSING`: the key store decides. DESIGN CHOICE (log entry 223): an item without an index has index 0. -/
def State.keyFindings (s : State) (b : Bank) : List Finding :=
  (if b.domEnable ∧ (s.slot b.domKeySlot).typ ≠ 1 then [(0x09, 0x0901, 0, b.domKeySlot)] else [])
    ++ (portsWhere (fun p => b.ptpAuth p != 0 && (s.slot (b.ptpKeySlot p)).typ != 2)).map (fun p => (0x09, 0x0B06, p, b.ptpKeySlot p))

/-- `VLAN_REF`; H has a `pvid` too. A static MAC entry is named by its place in order of VLAN and MAC. -/
def Bank.vlanFindings (b : Bank) : List Finding :=
  ((List.range (portCount + 1)).filter (fun p => !b.vlanOn (b.pvid p))).map (fun p => (0x0A, 0x0402, p, b.pvid p))
    ++ (b.mac.zipIdx.filter (fun e => !b.vlanOn (bits e.1.2 0 12))).map (fun e => (0x0A, 0x0404, e.2, bits e.1.2 0 12))
    ++ (b.group.filter (fun e => bit e.2 15 && !b.vlanOn (bits e.2 16 12))).map (fun e => (0x0A, 0x0408, e.1, bits e.2 16 12))
    ++ (b.flows.filter (fun e => b.mode (bits e.2 32 8) == 0)).map (fun e => (0x0A, 0x040A, e.1, bits e.2 32 8))

/-- `CUE_TARGET`: armed rows at or after the instant checked. -/
def State.cueFindings (s : State) (b : Bank) (inst : Int) : List Finding :=
  (s.armedRows.filter (fun e => !e.2.equinox && decide (inst ≤ e.2.inst) && b.removes e.2)).map (fun e => (0x0B, 0x0A01, e.1, noIndex))

/-- Do two banks agree in domain identity (R448). -/
def Bank.sameIdentity (a b : Bank) : Bool :=
  a.domEnable == b.domEnable && a.devId == b.devId && a.domTag == b.domTag && a.domKeySlot == b.domKeySlot

/-- The findings of the shadow, in order of their codes (R433). -/
def State.findings (s : State) (domain : Bool) (inst : Int) : List Finding :=
  let b := s.banks.shadow
  b.slaveFindings
    ++ (portsWhere (fun p => b.trunk p && (b.rxPauseEn p || b.txPauseEn p))).map (fun p => (0x02, 0x0301, p, noIndex))
    ++ b.rateFindings ++ b.burstFindings ++ b.cellFindings
    ++ (portsWhere (fun p => decide (b.maxFrame p + 4 < b.expressMax p))).map (fun p => (0x06, 0x0301, p, noIndex))
    ++ b.roleFindings ++ b.refFindings ++ s.keyFindings b ++ b.vlanFindings ++ s.cueFindings b inst
    ++ (if domain ∧ b.keyAttended then [(0x0C, 0x0C06, 0, noIndex)] else [])
    ++ (if domain ∧ !b.sameIdentity s.banks.active then [(0x0D, 0x0901, noIndex, noIndex)] else [])

/-! ### The swap (R434 to R436) -/

/-- The armed `EQUINOX` row, if any. -/
def State.equinoxRow (s : State) : Option (Nat × Row) := s.cue.rows.find? (fun e => e.2.equinox)

/-- Every unit follows a newly active bank (R436). `old` is the state before. -/
def State.follow (old s : State) : State :=
  let b := old.banks.active
  State.settleTiming old
    (State.syncService old (((((((s.syncChannels).syncRefs).syncOutputs).syncGnss b).syncDomain b).syncPorts b).syncMacs)).loadCache

/-- The commit at t_c: the pointer swaps, `bank_epoch` advances, the old bank is `RETAINED` (R436). -/
def State.commit (round : Nat) (s : State) : State :=
  let b := s.banks
  let s1 := { s with banks := { b with
    active := { b.shadow with keyAttended := false }, shadow := b.active, oldEpoch := b.epoch, epoch := (b.epoch + 1) % 2 ^ 32
    changeId := 0, state := .retained, validated := false, preloaded := false, persisted := false
    drainFrom := s.time.tick, drainDrops := 0, lastCommit := s.now } }
  State.follow s (s1.post 0x0201 [(32, round), (32, s1.banks.epoch)])

/-- The shadow replaced: `edit_count` 0, `change_id` 0, `SEEDED` (R428, R439, R452). -/
def State.seed (b : Bank) (s : State) : State :=
  { s with
    banks := { s.banks with
      shadow := { b with keyAttended := false }, edits := 0, changeId := 0, state := .seeded, validated := false, preloaded := false }
    rnd := { s.rnd with part := if s.rnd.part = .tagged then .idle else s.rnd.part } }

/-- The row commits at the first tick at or after its instant (R436, R445): the `EQUINOX` row ends executed. -/
def State.commitRow (id : Nat) (r : Row) (s : State) : State :=
  let s0 := s.endRow id ocExecuted rsNone none
  let s1 := { s0 with cue := { s0.cue with rows := s0.cue.rows.mapVal (fun x =>
    { x with gone := x.gone || (!x.template && !x.equinox && s.banks.shadow.removes x) }) } }
  if s.banks.state = .armedLocal then s1.commit 0
  else
    let s2 := s1.commit r.round
    { s2 with rnd := { s2.rnd with part := .idle, lastOutcome := 1 } }

/-- Waits that have a swap at the first tick after their preload: `EQUINOX_LOCAL` mode 0 and `SYS_FACTORY_DEFAULT`. -/
def Wait.swaps (w : Wait) : Bool := w.obj == some .shadow && w.arg == 1 && (w.opcode == 0x0205 || w.opcode == 0x010B)

/-- In-band TCI is refused from now on: waiting requests are answered `DRAINING` (12_command_interface.md R418). -/
def State.inbandOff (s : State) : State :=
  let waiting := s.tci.rung.filter (fun e => Src.remote e.2.src)
  waiting.foldl (fun t e => t.respond e.2 e.1 stDraining [])
    { s with inb := { s.inb with enable := false }, tci := { s.tci with rung := s.tci.rung.filter (fun e => !Src.remote e.2.src) } }

/-- An immediate swap; a factory default then disables in-band TCI, erases the stored position and, with `keep_keys` clear,
zeroises the key store (R424, log entry 218). -/
def State.swap (w : Wait) (s : State) : State :=
  let s1 := s.commit 0
  if w.opcode = 0x010B then
    let s2 := s1.inbandOff.storePosition none
    if w.req.b 0 then s2 else s2.zeroiseKeys 2
  else s1

/-- An immediate swap and its response (R424, R434, R455). -/
def State.swapNow (w : Wait) (s : State) : State :=
  let s1 := s.swap w
  s1.finish (fun x => x == w) stOk (fun _ => if w.opcode = 0x0205 then [ft s1.banks.lastCommit, (32, s1.banks.epoch)] else [])

/-- A commit tick is reached: of the armed row, or of an immediate swap, which for `SYS_FACTORY_DEFAULT` waits until
`SUPPLY_WARN` ends (R436, R449). -/
def execEquinoxCommit (dt : Nat) (s : State) : Host.Outcome State Fault Refusal :=
  let s1 := s.advance dt
  .next (match s1.equinoxRow with
    | some (id, r) => if r.inst ≤ s1.nowU then s1.commitRow id r else s1
    | none =>
      match s1.tci.aside.find? Wait.swaps with
      | some w => if w.due ≤ s1.time.tick ∧ !(w.opcode = 0x010B ∧ s1.plat.warn) then s1.swapNow w else s1
      | none => s1)

/-! ### The drain (R437 to R439) -/

/-- Is a copy of an old epoch. -/
def State.isOld (s : State) (c : Copy) : Bool := c.epoch != s.banks.epoch

/-- Old-epoch copies that have not started on a wire: in queues, launch slots and the queue to H. -/
def State.oldWaiting (s : State) : List Copy := s.queuedCopies.filter s.isOld

/-- Does an old-epoch copy still leave on some wire. -/
def State.oldOnWire (s : State) : Bool :=
  s.ports.any (fun e => e.2.wire.elim false (fun w => s.isOld w.copy && decide (s.rawNow < w.finish)) || e.2.cut.elim false (fun w => s.isOld w.copy))

/-- Old-epoch copies that wait are dropped. -/
def State.dropOld (s : State) : State :=
  { s with
    ports := s.ports.mapVal (fun x => { x with
      queues := x.queues.mapVal (fun q => q.filter (fun c => !s.isOld c)), slot := x.slot.filter (fun l => !s.isOld l.copy) })
    host := { s.host with queue := s.host.queue.filter (fun c => !s.isOld c) } }

/-- The drain ends: with no old-epoch copy left, or 10 ms after t_c, when the copies not started are dropped (R438). -/
def execBankDrained (dt : Nat) (s : State) : Host.Outcome State Fault Refusal :=
  let s1 := s.advance dt
  let late := decide (s1.banks.drainFrom + 10 * tickMs ≤ s1.time.tick)
  .next (if s1.banks.state = .retained ∧ (late ∨ (s1.oldWaiting.isEmpty ∧ !s1.oldOnWire)) then
    let n := s1.oldWaiting.length
    let us := (s1.time.tick - s1.banks.drainFrom) / tickUs
    let total := inc48 s1.banks.drainDrop n
    let s2 := { s1.dropOld with banks := { s1.banks with drainDrops := n, drainDrop := total, lastDrain := us, state := .reseeding } }
    (s2.counterHalf s1.banks.drainDrop total 0x0201 0 448).post 0x0204 [(48, n), (32, us)]
  else s1)

/-- Firmware refills the shadow from the new active bank (R439). -/
def execBankReseedDone (dt : Nat) (s : State) : Host.Outcome State Fault Refusal :=
  let s1 := s.advance dt
  .next (if s1.banks.state = .reseeding ∧ s1.fw.running ∧ !s1.flt.frozen then s1.seed s1.banks.active else s1)

/-! ### Flash (R430, R431) -/

/-- A bank slot. -/
def State.bankSlot (s : State) (k : Nat) : BankSlot := Tbl.getD s.banks.slots k {}

/-- The older slot: an empty or failed one before a good one, then the lower epoch. -/
def State.olderSlot (s : State) : Nat :=
  let a := s.bankSlot 0
  let b := s.bankSlot 1
  if !b.ok then 1 else if !a.ok then 0 else if b.epoch < a.epoch then 1 else 0

/-- The active bank's flash copy is verified: while firmware runs and `SUPPLY_WARN` is clear (R430). -/
def execBankPersisted (dt : Nat) (s : State) : Host.Outcome State Fault Refusal :=
  let s1 := s.advance dt
  .next (if s1.banks.persisted ∨ !s1.fw.running ∨ !s1.banks.loaded ∨ s1.plat.warn then s1
  else
    let slot : BankSlot := { bank := s1.banks.active, epoch := s1.banks.epoch, headerOk := true, ok := true }
    ({ s1 with banks := { s1.banks with slots := Tbl.put s1.banks.slots s1.olderSlot slot, persisted := true } }).post 0x0205
      [(32, s1.banks.epoch)])

/-- The slot March loads: the higher epoch whose check passes (R430). -/
def State.goodSlot (s : State) : Option BankSlot :=
  let l := [s.bankSlot 0, s.bankSlot 1].filter (·.ok)
  l.foldl (fun (a : Option BankSlot) x => match a with
    | some y => if y.epoch < x.epoch then some x else some y
    | none => some x) none

/-- A bank becomes active at start, and the shadow is `SEEDED` with a copy of it (R428, R430). -/
def State.loadBank (b : Bank) (epoch : Nat) (persisted : Bool) (s : State) : State :=
  let s1 := { s with banks := { s.banks with active := b, epoch := epoch, oldEpoch := epoch, persisted := persisted, loaded := true } }
  State.follow s (s1.seed b)

/-- March loads the active bank once firmware has started (R430); where no slot passes, `BANK_LOST_LOAD` does. -/
def State.loadAtStart (s : State) : State :=
  if s.banks.loaded then s
  else match s.goodSlot with
    | some x => s.loadBank x.bank x.epoch true
    | none => s

/-- Neither slot passes its check at start (R431): the factory-default bank is loaded, one epoch above the highest a
readable header holds. Operand: which headers are readable, bit per slot. -/
def execBankLostLoad (dt headers : Nat) (s : State) : Host.Outcome State Fault Refusal :=
  let s1 := s.advance dt
  .next (if s1.fw.running ∧ !s1.banks.loaded ∧ s1.goodSlot.isNone then
    let slots := [0, 1].map (fun k => (k, { s1.bankSlot k with ok := false, headerOk := (s1.bankSlot k).headerOk && bit headers k }))
    let top := (slots.filter (fun e => e.2.headerOk)).foldl (fun a e => max a e.2.epoch) 0
    ({ s1 with banks := { s1.banks with slots := slots } }.loadBank {} ((top + 1) % 2 ^ 32) false).fault 0x07 1 1 0
  else s1)

/-! ### Commands (R450 to R456) -/

/-- Why the shadow is not to be changed: `FROZEN` first, then `RETAINED` and `RESEEDING` (R429). -/
def State.shadowBusy (s : State) : Option Nat :=
  if s.flt.frozen then some stNotPermitted
  else match s.banks.state with
    | .retained => some stStaleBank
    | .reseeding => some stStaleBank
    | _ => none

/-- Ticks of the root's own wait (R444): W of 08_cues.md R245; `M` follows. -/
def State.armMargin (s : State) : Nat := max (5 * tickMs) (s.domainLead * 2 * tickUs + tickMs)

/-- The minimum lead of a domain-wide Equinox in ticks (R444). -/
def State.domainMinLead (s : State) : Nat := 2 * s.ackWait + s.armMargin

/-- Codes of R428, R445 and R446. -/
def shadowCode : ShadowState → Nat
  | .seeded => 0
  | .tagged => 1
  | .armedLocal => 2
  | .retained => 3
  | .reseeding => 4
def partCode : PartState → Nat
  | .idle => 0
  | .tagged => 1
  | .prepared => 2
  | .armed => 3
def rootCode : RootState → Nat
  | .idle => 0
  | .preparing => 1
  | .arming => 2
  | .armed => 3
  | .cancelling => 4

/-- `BANK_STATUS` (R451). -/
def cmdBankStatus : Command where
  opcode := 0x0201
  run _ s :=
    let b := s.banks
    let lead := if s.banks.active.domEnable && s.dom.isRoot then (s.domainMinLead + tickUs - 1) / tickUs else 0
    .done stOk [(32, b.epoch), (32, b.edits), (32, b.changeId), (3, shadowCode b.state), fb b.validated, fb b.persisted, rz 1,
      (2, partCode s.rnd.part), (3, rootCode s.rnd.root), rz 21, (32, s.rnd.lastRound), (3, s.rnd.lastOutcome), rz 5,
      (8, s.rnd.lastReasons), rz 16, ft b.lastCommit, ft (s.equinoxRow.elim {} (fun e => Time96.ofUnits e.2.inst)), (32, lead),
      (32, b.lastDrain), (48, b.drainDrop), (48, b.missed)] s

def execBankStatus (q : Req) (s : State) : Host.Outcome State Fault Refusal := runCommand cmdBankStatus q s

/-- `BANK_SEED` (R452). -/
def cmdBankSeed : Command where
  opcode := 0x0202
  layout _ := { size := 32, fields := [(0, 2)] }
  range q _ := decide (q.f 0 2 ≤ 1)
  objs _ := [.shadow]
  run q s :=
    match s.shadowBusy with
    | some status => .done status [] s
    | none =>
      if s.banks.state = .armedLocal ∨ s.rnd.part = .prepared ∨ s.rnd.part = .armed then .done stNotPermitted [] s
      else if q.f 0 2 = 0 then .done stOk [(32, s.banks.epoch)] (s.seed s.banks.active)
      else .done stOk [(32, 0)] (s.seed {})

def execBankSeed (q : Req) (s : State) : Host.Outcome State Fault Refusal := runCommand cmdBankSeed q s

/-- The instant a validation checks: that of the request, or the present (R432, R453). -/
def State.checkInstant (s : State) (w : Nat) : Int := if w = 0 then s.nowU else (Time96.ofWord w).units

/-- `BANK_VALIDATE` (R453): it stands aside until the validation is done. -/
def cmdBankValidate : Command where
  opcode := 0x0203
  layout _ := { size := 128, fields := [(0, 1), (32, 96)] }
  range q _ := Time96.legal (q.f 32 96)
  objs _ := [.shadow]
  run _ s := match s.banks.state with
    | .retained => .done stStaleBank [] s
    | .reseeding => .done stStaleBank [] s
    | _ => .aside { obj := some .shadow } s

def execBankValidate (q : Req) (s : State) : Host.Outcome State Fault Refusal := runCommand cmdBankValidate q s

/-- A validation ends: it sets `validated` and returns its findings (R453). A shadow that an armed row has made `RETAINED` in the
meantime is validated no more. -/
def execValidationDone (dt : Nat) (s : State) : Host.Outcome State Fault Refusal :=
  let s1 := s.advance dt
  .next (match s1.tci.aside.find? (fun w => w.opcode == 0x0203) with
    | none => s1
    | some w =>
      if s1.banks.state = .retained ∨ s1.banks.state = .reseeding then s1.finish (fun x => x == w) stStaleBank (fun _ => [])
      else
      let l := s1.findings (w.req.b 0) (s1.checkInstant (w.req.f 32 96))
      let shown := l.take 255
      let s2 := if l.isEmpty then { s1 with banks := { s1.banks with validated := true } } else s1
      s2.finish (fun x => x == w) stOk (fun _ =>
        [fb l.isEmpty, fb (decide (255 < l.length)), rz 6, (8, shown.length), rz 16, (32, s1.banks.edits)]
          ++ shown.flatMap (fun f => [(8, f.1), rz 8, (16, f.2.1), (16, f.2.2.1), (16, f.2.2.2)])))

/-- `BANK_TAG` (R454): it stands aside for the preload. -/
def cmdBankTag : Command where
  opcode := 0x0204
  layout _ := { size := 64, fields := [(0, 64)] }
  objs _ := [.shadow]
  run q s :=
    match s.shadowBusy with
    | some status => .done status [] s
    | none =>
      if q.f 32 32 ≠ s.banks.edits then .done stStaleBank [] s
      else if q.f 0 32 = 0 then
        if s.rnd.part = .prepared ∨ s.rnd.part = .armed then .done stNotPermitted [] s
        else if s.banks.state = .tagged then
          .done stOk [(32, s.banks.edits)] { s with
            banks := { s.banks with state := .seeded, changeId := 0 }, rnd := { s.rnd with part := .idle } }
        else .done stOk [(32, s.banks.edits)] s
      else if s.banks.state ≠ .seeded ∨ !(s.findings true s.nowU).isEmpty then .done stNotPermitted [] s
      else .aside { obj := some .shadow } { s with banks := { s.banks with validated := true } }

def execBankTag (q : Req) (s : State) : Host.Outcome State Fault Refusal := runCommand cmdBankTag q s

/-- `EQUINOX_LOCAL` (R455): its own checks in the order of the rule's list. -/
def cmdEquinoxLocal : Command where
  opcode := 0x0205
  layout _ := { size := 160, fields := [(0, 1), (32, 128)] }
  range q s := Time96.legal (q.f 64 96)
    && (if q.b 0 then decide ((Time96.ofWord (q.f 64 96)).units - s.nowU ≤ 86400 * uS) else q.f 64 96 == 0)
  objs _ := [.shadow]
  run q s :=
    let inst := (Time96.ofWord (q.f 64 96)).units
    match s.shadowBusy with
    | some status => .done status [] s
    | none =>
      if q.f 32 32 ≠ s.banks.edits then .done stStaleBank [] s
      else if s.banks.state ≠ .seeded ∨ s.equinoxRow.isSome ∨ s.plat.warn
          ∨ !(s.findings false (if q.b 0 then inst else s.nowU)).isEmpty then .done stNotPermitted [] s
      else if q.b 0 ∧ inst - s.nowU < 10 * uMs then .done stLate [] s
      else .aside { obj := some .shadow, inst := Time96.ofUnits inst } { s with banks := { s.banks with validated := true } }

def execEquinoxLocal (q : Req) (s : State) : Host.Outcome State Fault Refusal := runCommand cmdEquinoxLocal q s

/-- The `EQUINOX` row for an instant (R222). -/
def equinoxRowOf (inst : Int) (round : Nat) : Row :=
  { rowOf (7 + (Time96.ofUnits inst).word <<< 96) inst 0 round with equinox := true }

/-- The preload of a waiting `EQUINOX_LOCAL` ends: an immediate swap follows at the next tick, a timed one arms its row
(R435, R449, R455). -/
def State.localLoaded (w : Wait) (s : State) : State :=
  if s.plat.warn ∨ s.flt.frozen then s.finish (fun x => x == w) stNotPermitted (fun _ => [])
  else if w.req.b 0 then
    let row := equinoxRowOf w.inst.units 0
    if w.inst.units < s.nowU then s.finish (fun x => x == w) stLate (fun _ => [])
    else if s.rowConflict row ≠ rsNone then s.finish (fun x => x == w) stNotPermitted (fun _ => [])
    else
      let s1 := (s.armRow row).2
      { s1 with banks := { s1.banks with state := .armedLocal } }.finish (fun x => x == w) stOk
        (fun _ => [ft w.inst, (32, (s.banks.epoch + 1) % 2 ^ 32)])
  else s.updWaits (fun x => x == w) (fun x => { x with arg := 1, due := s.time.tick + 1, applied := true })

/-- A preload of the shadow completes (R435): for `BANK_TAG` the shadow is tagged. -/
def execEquinoxPreloadDone (dt : Nat) (s : State) : Host.Outcome State Fault Refusal :=
  let s1 := s.advance dt
  .next (match s1.tci.aside.find? (fun w => w.obj == some .shadow && w.arg == 0 && w.opcode != 0x0203) with
    | none => s1
    | some w =>
      if !s1.fw.running then s1
      else
        let s2 := { s1 with banks := { s1.banks with preloaded := true } }
        if w.opcode = 0x0204 then
          ({ s2 with
            banks := { s2.banks with state := .tagged, changeId := w.req.f 0 32 }
            rnd := { s2.rnd with part := .tagged } }).finish (fun x => x == w) stOk (fun _ => [(32, s2.banks.edits)])
        else if w.opcode = 0x0205 then s2.localLoaded w
        else s2.updWaits (fun x => x == w) (fun x => { x with arg := 1, due := s2.time.tick + 1, applied := true }))

/-- `EQUINOX_CANCEL` (R456). -/
def cmdEquinoxCancel : Command where
  opcode := 0x0206
  objs _ := [.shadow]
  run _ s :=
    if s.banks.state ≠ .armedLocal then .done stNotPermitted [] s
    else match s.equinoxRow with
      | none => .done stNotPermitted [] s
      | some (id, r) =>
        if r.handed then .done stLate [] s
        else
          let s1 := s.endRow id ocCancelled rsHost none
          .done stOk [] (({ s1 with banks := { s1.banks with state := .seeded } }).post 0x0202 [(32, 0)])

def execEquinoxCancel (q : Req) (s : State) : Host.Outcome State Fault Refusal := runCommand cmdEquinoxCancel q s

/-! ### Factory default (12_command_interface.md R424) -/

/-- Why a factory default is refused: `FROZEN`, an armed row or a prepared participant, then a stale shadow. -/
def State.factoryRefusal (s : State) : Option Nat :=
  if s.flt.frozen ∨ s.equinoxRow.isSome ∨ s.rnd.part = .prepared then some stNotPermitted
  else match s.banks.state with
    | .retained => some stStaleBank
    | .reseeding => some stStaleBank
    | _ => if s.held [.shadow] then some stBusy else none

/-- `SYS_FACTORY_DEFAULT` (R424): tested at acceptance and again at the press; it responds after the swap. DESIGN CHOICE (log entry
218): an action that has waited for a supply warning to end is tested once more. -/
def cmdSysFactoryDefault : Command where
  opcode := 0x010B
  noInband := true
  attended _ _ := true
  flashAct := true
  layout _ := { size := 32, fields := [(0, 1)] }
  objs _ := [.shadow]
  run _ s := match s.factoryRefusal with
    | some status => .done status [] s
    | none => .attend s
  press _ s := s.factoryRefusal
  act _ s := match s.factoryRefusal with
    | some status => .done status [] s
    | none => .aside { obj := some .shadow } (s.seed {})

def execSysFactoryDefault (q : Req) (s : State) : Host.Outcome State Fault Refusal := runCommand cmdSysFactoryDefault q s

end Sys2Proof.Machine
end

