-- ==== Sys2Proof/Machine/Faults.lean ====
section
/-!
DEFINITION. The fault collectors' rows, the sentinel and its takeover, the bank check, factory injection, the Midwinter
record, and the commands of group 0x0E (16_faults_and_midwinter.md R522 to R555).
-/
namespace Sys2Proof.Machine

/-! ### Firmware stops (R395, R403, R477) -/

/-- A wait as it is answered once firmware runs again, nothing of it changed. -/
def Wait.unapplied (w : Wait) : Wait := { w with applied := false }

/-- Firmware stops: a halt, a processor-only restart or a takeover. The window closes, commands in flight are lost, the
big-number engine and key-store writes stop; an immediate swap handed to hardware takes place all the same. -/
def State.stopFirmware (s : State) : State :=
  if !s.fw.running then s
  else
    let swap := s.tci.aside.find? (fun w => w.swaps && w.applied && !(w.opcode == 0x010B && s.plat.warn))
    let lost := s.tci.aside.map (fun w => if w.opcode == 0x010B && s.plat.warn then w.unapplied else w)
    let held := s.win.held.toList.map Wait.unapplied
    let img := s.fw.image s.fw.slot
    let s1 := { s with
      fw := { s.fw.setImage s.fw.slot { img with trials := 0 } with running := false }
      tci := { s.tci with aside := [], lost := s.tci.lost ++ held ++ s.win.actions.map Wait.unapplied ++ lost }
      win := { s.win with
        state := .closed, held := none, actions := [], pressIn := false
        closing := s.win.closing.mapVal (fun e => { e with late := true }) }
      inb := { s.inb with disabling := false }
      bn := { s.bn with
        queue := []
        lanes := s.bn.lanes.mapVal (fun l => if l.job.isSome then { l with job := none, zeroDue := some (s.time.tick + 8 * tickUs) } else l) }
      keys := { s.keys with writes := [] }
      ts := { s.ts with rotating := false }
      meas := { s.meas with linkCals := [] }
      flt := { s.flt with excs := [] }
      plat := { s.plat with flashWork := s.plat.flashWork.filter (fun w => match w with
        | .command _ => false
        | _ => true) } }
    let s2 := match s.win.held with
      | some w => s1.postWindow w.opcode stFaultState
      | none => s1
    State.noteFrom s (swap.elim s2 (fun w => s2.swap w))

/-! ### Takeover (R534 to R538) -/

/-- Do the cores run: from March step 4 on, outside a reset and not held by the sentinel. -/
def State.coreRuns (s : State) : Bool := s.plat.inReset.isNone && decide (4 ≤ s.plat.step) && !s.flt.held

/-- Does the boot ROM accept an image slot (17_power_and_start.md R566). -/
def FwS.accepts (f : FwS) (slot : Bool) : Bool := (f.image slot).valid && decide (f.floor ≤ (f.image slot).version)

/-- Does a takeover now follow the previous one consecutively (R538). -/
def State.consecutive (s : State) : Bool :=
  s.flt.takeAt.isSome || s.flt.takeStart.elim false (fun t => decide (s.time.tick ≤ t + 60 * tickS))

/-- The image slot the sentinel has the boot ROM start, or none, by the count of consecutive takeovers (R538). -/
def State.chooseImage (n : Nat) (s : State) : State :=
  let f := s.flt
  if n ≤ 1 then { s with flt := { f with consec := n }, fw := { s.fw with imageOk := s.fw.accepts s.fw.slot } }
  else if n = 2 then
    let slot := !s.fw.slot
    ({ s with
      flt := { f with consec := n }
      fw := { s.fw with slot := slot, fallback := true, imageOk := s.fw.accepts slot } }).fault 0x06 2 4 0
  else { s with flt := { f with consec := n, held := true }, fw := { s.fw with imageOk := false, recovery := false } }

/-- Is the boot ROM writing a Midwinter record: within 400 ms of a takeover whose firmware has not started (R543). -/
def State.bootWrites (s : State) : Bool :=
  !s.fw.running && s.flt.takeAt.elim false (fun t => decide (s.time.tick < t + 400 * tickMs))

/-- The Midwinter record in DRAM region 2 (R542, R543): one that the boot ROM is still writing is ended `incomplete`.
`failed` is the failed image's version word; how many bytes the record takes is a free value (log entry 3). -/
def State.writeMidwinter (writing : Bool) (code : Nat) (injected : Bool) (failed : Nat) (s : State) : State :=
  match writing, Tbl.get? s.mid.loc 0 with
  | true, some r => { s with mid := { s.mid with loc := Tbl.put s.mid.loc 0 { r with incomplete := true } } }
  | _, _ =>
    let (v, s1) := s.draw 28
    let r : MidRec := {
      seq := s.mid.nextSeq, taken := s.now, cause := code, injected := injected, fwVersion := failed,
      bytes := 160 + v % (2 ^ 28 - 159) }
    { s1 with mid := { s1.mid with loc := Tbl.put s1.mid.loc 0 r, nextSeq := (s1.mid.nextSeq + 1) % 2 ^ 32, copyDue := true } }

/-- `SENTINEL_TAKEOVER` of a takeover: record, source, consecutive count, image slot started (R555). -/
def State.takeoverEvent (record : Option Nat) (code : Nat) (s : State) : Event :=
  { code := 0x0E04, late := true, cause := s.now, epoch := s.time.stepEpoch, payload :=
      [(8, record.getD 255), (8, code), (8, s.flt.consec), fb s.fw.slot] }

/-- The sentinel performs a takeover (R535): the record, `FROZEN` and `TAKEOVER_SEEN`, the Midwinter record, the image to
start. A detection that merges into a record being handled counts as a takeover all the same (R530). -/
def State.takeover (code channel : Nat) (injected : Bool) (s : State) : State :=
  if !s.coreRuns then s
  else
    let failed := versionWord (s.fw.image s.fw.slot).version s.fw.slot s.fw.fallback
    let n := if s.consecutive then s.flt.consec + 1 else 1
    let s1 := s.stopFirmware
    let merged := if injected then none else s1.handling
    let s2 := s1.faultEvent code 3 (if code = 1 then 5 else 6) (channel % 65536) injected
    let i := merged.orElse (fun _ => s2.episode code injected)
    let s3 := match i with
      | some k => s2.updRecord k (fun r => { r with
          serviced := false
          state := if r.state = RecState.quiet then .active else r.state })
      | none => s2
    let s4 := { s3 with flt := { s3.flt with
      frozen := true, takeoverSeen := true, takeRec := i, takeSource := code, takeovers := min (s3.flt.takeovers + 1) 65535
      checkDue := true, held := false } }
    let s5 := s4.writeMidwinter s.bootWrites code injected failed
    let s6 := { s5 with fw := { s5.fw with startReason := 8 } }.chooseImage n
    State.noteFrom s { s6 with flt := { s6.flt with
      takeAt := some s.time.tick, takeStart := none, toPost := s6.flt.toPost ++ [s6.takeoverEvent i code] } }

/-- Exceptions of the last 10 ms. -/
def State.recentExcs (s : State) : List Nat := s.flt.excs.filter (fun t => decide (s.time.tick < t + 10 * tickMs))

/-- Does what the sentinel detects hold (R534): a hang needs 250 ms of running firmware, a storm 64 exceptions in 10 ms. -/
def State.detects (s : State) (code : Nat) : Bool :=
  code == 1 || (code == 2 && s.fw.running && decide (s.fw.startTick + 250 * tickMs ≤ s.time.tick)) || (code == 3 && decide (64 ≤ s.recentExcs.length))

/-- The sentinel detects a failure at a handshake channel. -/
def State.detect (code channel : Nat) (s : State) : State := if s.detects code then s.takeover code channel false else s

/-- The sentinel detects a lockstep, hang or exception storm. Operands: source and handshake channel. -/
def execSentinelTakeover (dt source channel : Nat) (s : State) : Host.Outcome State Fault Refusal :=
  if within 1 3 source then .next ((s.advance dt).detect source channel) else .fault .noSuchUnit

/-- Firmware is not running within 5 s of a takeover: a further failure (R534, R538). The takeover's event says what is
started then. -/
def execTakeoverStartTimeout (dt : Nat) (s : State) : Host.Outcome State Fault Refusal :=
  let s1 := s.advance dt
  .next (match s1.flt.takeAt with
    | some t =>
      if s1.fw.running ∨ s1.flt.held ∨ s1.time.tick < t + 5 * tickS then s1
      else
        let s2 := ({ s1 with flt := { s1.flt with takeAt := some s1.time.tick } }).chooseImage (s1.flt.consec + 1)
        let say := fun (e : Event) => { s2.takeoverEvent s2.flt.takeRec s2.flt.takeSource with cause := e.cause, epoch := e.epoch }
        State.noteFrom s1 { s2 with flt := { s2.flt with
          toPost := s2.flt.toPost.dropLast ++ (s2.flt.toPost.getLast?.map say).toList } }
    | none => s1)

/-- Record `i` is serviced: its quiet timer starts once its condition does not stand (R527, R528). -/
def State.service (i : Nat) (s : State) : State :=
  (s.updRecord i (fun r => { r with serviced := true, servicedAt := s.time.tick })).quieten i

/-- Does a severe status entry stand for the takeover's episode. -/
def State.takeEntry (s : State) : Bool := (s.src s.flt.takeSource).entry.elim false (·.severe)

/-- The bank check after a takeover (R537). Operand: do the units' check words match both banks. The record of the takeover
is serviced; one that merged into another source's record awaits that source's own work too. -/
def execBankCheck (dt : Nat) (same : Bool) (s : State) : Host.Outcome State Fault Refusal :=
  let s1 := s.advance dt
  .next (if !s1.fw.running ∨ !s1.flt.checkDue then s1
  else
    let s2 := { s1 with flt := { s1.flt with checkDue := false, checkFailed := s1.flt.checkFailed || !same }
                        banks := { s1.banks with checkOk := same } }
    let s3 := match s2.flt.takeRec with
      | some i => if within 1 3 (s2.record i).source then s2.service i else s2
      | none => if s2.takeEntry ∨ s2.flt.checkFailed then s2 else { s2 with flt := { s2.flt with frozen := false } }
    State.settleFaults s1 (if same then s3 else s3.fault 0x05 1 1 0))

/-! ### Events of the ledger (R523 to R531, R541) -/

/-- The next injected event of a source that has fallen due (R554). -/
def State.fireInjected (code : Nat) (s : State) : State :=
  match s.flt.injects.find? (fun e => e.2.1 = code && decide (e.1 ≤ s.time.tick)) with
  | some e =>
    ({ s with flt := { s.flt with injects := s.flt.injects.erase e } }).faultEvent code e.2.2.1 e.2.2.2.1 e.2.2.2.2.1 true
  | none => s

/-- A failure of the boot ROM while it writes the Midwinter record ends it `incomplete` (R543). -/
def State.bootFailure (master : Nat) (s : State) : State :=
  if master = 2 ∧ s.bootWrites then
    { s with mid := { s.mid with loc := s.mid.loc.map (fun e => if e.1 = 0 then (0, { e.2 with incomplete := true }) else e) } }
  else s

/-- Does the condition of a condition source hold, by what the block holds of it (R522). -/
def State.conditionHolds (s : State) (code : Nat) : Bool :=
  if code = 0x13 then decide (s.mem.spare ≤ 256)
  else if code = 0x20 then s.ocxo.cold
  else if code = 0x23 then (List.range 8).any (fun o => (s.output o).monFault)
  else if code = 0x24 then s.gnss.rx == .disqualified
  else if code = 0x25 then s.gnss.antenna == .opened || s.gnss.antenna == .short
  else if code = 0x26 then s.dom.dupId
  else if code = 0x30 then s.sealBroken
  else !s.bn.entropyOk

/-- A source raises an event; a condition source only while its condition holds. Operands: source, first-error master,
access and address; or the next injected event of the source falls due. -/
def execFaultEvent (dt source master access address : Nat) (injected : Bool) (s : State) : Host.Outcome State Fault Refusal :=
  let s1 := s.advance dt
  let m := master % 16
  let a := access % 16
  let addr := address % 2 ^ 64
  if (faultSource source).isNone then .fault .noSuchUnit
  else .next (
    if injected then s1.fireInjected source
    else if within 1 3 source then s1.detect source addr
    else if isCondition source then (if s1.conditionHolds source then s1.condition source m a addr else s1)
    else (s1.bootFailure m).fault source m a addr)

/-- Is the work of a real record's source still to be done, where the block holds it: pages to retire, table entries to
rewrite, rows to record, flash pages to rewrite, the bank loaded to be written (15_stored_data_protection.md R501, R506, R508;
13_configuration_banks.md R431). -/
def State.workLeft (s : State) (r : Record) : Bool :=
  if r.injected then false
  else if r.source = 0x10 ∨ r.source = 0x11 then
    s.mem.toRetire.any (fun e => dramAddress (lineKey (lineOf (e.1 * 64)).1 (lineOf (e.1 * 64)).2) / 4096 == r.address / 4096)
  else if r.source = 0x14 then s.plat.flashWork.any (fun w => decide (w = FlashWork.rows))
  else if r.source = 0x16 then s.plat.flashWork.any (fun w => decide (w = FlashWork.refresh (r.address >>> 56)))
  else if r.source = 0x07 then !s.banks.persisted
  else r.source = 0x15 && s.mem.rewrites.any (fun e => e.1 == r.address >>> 56)

/-- Firmware completes the work of a record (R528). A `BANK_CHECK` record never is serviced, and a takeover's own record
only by the bank check (R537). -/
def execFaultServiced (dt index : Nat) (s : State) : Host.Outcome State Fault Refusal :=
  let s1 := s.advance dt
  let r := s1.record index
  if 64 ≤ index then .fault .noSuchUnit
  else .next (
    if !s1.fw.running ∨ !r.state.open_ ∨ r.serviced ∨ r.source = 5 ∨ s1.workLeft r ∨ (s1.flt.takeRec = some index ∧ s1.flt.checkDue) then s1
    else State.settleFaults s1 (s1.service index))

/-- Records that satisfy `p` enter `CLEARED`, one after another. -/
def State.clearWhere (p : Record → Bool) (s : State) : State :=
  (s.flt.records.filter (fun e => p e.2)).foldl (fun t e => State.settleFaults t (t.clearRecord e.1)) s

/-- `MINOR` records whose window has elapsed since `last` clear (R527). -/
def execFaultWindowExpire (dt : Nat) (s : State) : Host.Outcome State Fault Refusal :=
  let s1 := s.advance dt
  .next (s1.clearWhere (fun r =>
    decide (r.state = .minor) && !r.standing && decide (r.lastTick + s1.srcWindow r.source * tickS ≤ s1.time.tick)))

/-- `QUIET` records whose quiet period has elapsed clear (R527). -/
def execFaultQuietExpire (dt : Nat) (s : State) : Host.Outcome State Fault Refusal :=
  let s1 := s.advance dt
  .next (s1.clearWhere (fun r => decide (r.state = .quiet) && decide (r.quietDue ≤ s1.time.tick)))

/-- An uncorrectable read by the core raises an exception (R533). Operands: does the content have a source to be rewritten
from, and, where not, the waiting command that was in progress, by its place among them. -/
def execCoreException (dt : Nat) (hasSource : Bool) (cmd : Nat) (s : State) : Host.Outcome State Fault Refusal :=
  let s1 := s.advance dt
  .next (if !s1.fw.running then s1
  else
    let recent := s1.recentExcs ++ [s1.time.tick]
    let s2 := { s1 with flt := { s1.flt with excs := recent } }
    let s3 := match hasSource, nth s2.tci.aside cmd with
      | false, some w => s2.finish (fun x => x == w) stFaultState (fun _ => [(32, 0)])
      | _, _ => s2
    if recent.length < 64 then s3.fault 0x04 1 1 0 else s3)

/-! ### The Midwinter record (R542 to R545) -/

/-- The location that takes a flash copy: one without a record, else the lower `record_seq` (R544). -/
def MidS.target (m : MidS) : Nat :=
  match Tbl.get? m.loc 1, Tbl.get? m.loc 2 with
  | none, _ => 1
  | _, none => 2
  | some a, some b => if b.seq < a.seq then 2 else 1


/-- Firmware writes the compressed copy to flash (R544). Operands: its stored bytes and whether sections were shortened. -/
def execMidwinterStored (dt bytes : Nat) (truncated : Bool) (s : State) : Host.Outcome State Fault Refusal :=
  let s1 := s.advance dt
  .next (if !s1.fw.running ∨ !s1.mid.copyDue then s1
  else if s1.plat.warn then s1.suspend .midwinter
  else
    match Tbl.get? s1.mid.loc 0 with
    | none => s1
    | some r =>
      let k := s1.mid.target
      let lost := (Tbl.get? s1.mid.loc k).elim false (fun x => !x.released)
      let n := min bytes (2 ^ 25)
      let cut := truncated || decide (2 ^ 25 < bytes)
      let s2 := { s1 with mid := { s1.mid with
        loc := Tbl.put s1.mid.loc k { r with bytes := n, truncated := cut, released := false }
        overwritten := if lost then min (s1.mid.overwritten + 1) 4294967295 else s1.mid.overwritten
        copyDue := false, erase := s1.mid.erase.filter (· ≠ k) } }
      State.noteFrom s1 (s2.post 0x0E05 [(8, k), (32, r.seq), (64, n), fb cut]))

/-- A released flash slot is erased at the next moment flash programming is allowed (R545). -/
def execMidwinterSlotErase (dt : Nat) (s : State) : Host.Outcome State Fault Refusal :=
  let s1 := s.advance dt
  .next (match s1.mid.erase with
    | k :: rest =>
      if s1.plat.warn then s1.suspend (.slotErase (k - 1))
      else State.noteFrom s1 { s1 with mid := { s1.mid with loc := Tbl.erase s1.mid.loc k, erase := rest } }
    | [] => s1)

/-- One step of the CRC-32 of IEEE 802.3, bit-reflected. -/
def crcBit (c : Nat) : Nat := if c % 2 = 1 then (c / 2) ^^^ 0xEDB88320 else c / 2

/-- CRC-32 (IEEE 802.3) of bytes (R542). -/
def crc32 (l : List Nat) : Nat :=
  (l.foldl (fun c b => crcBit (crcBit (crcBit (crcBit (crcBit (crcBit (crcBit (crcBit (c ^^^ (b % 256)))))))))) 0xFFFFFFFF) ^^^ 0xFFFFFFFF

/-- The record header of a location (R542): an incomplete record's section count is a free value (log entry 3). -/
def midHeader (loc : Nat) (r : MidRec) : List Nat :=
  let sections := if r.incomplete then (Config.midwinterByte loc r.seq 38).toNat else 9
  toBytes 128 (Fields.pack [(32, 0x4D574D52), (16, 1), (16, sections), (32, r.seq), ft r.taken, (8, r.cause), fb r.injected,
    fb r.truncated, fb r.incomplete, rz 21, (32, r.fwVersion), (64, r.bytes)])

/-- The section header of the record header: the flash copies are compressed, so that its stored length is a free value. -/
def midSection (loc : Nat) (r : MidRec) : List Nat :=
  let stored := if loc = 0 then 128 else ofBytes ((List.range 8).map (fun k => (Config.midwinterByte loc r.seq (12 + k)).toNat))
  toBytes 32 (Fields.pack [(16, 1), (16, if loc = 0 then 0 else 2), (64, 128), (64, stored), (32, crc32 (midHeader loc r)), rz 64])

/-- A stored byte of a location (R545): what the manual does not give is a free value. -/
def midByte (loc : Nat) (r : MidRec) (k : Nat) : Nat :=
  if k < 32 then (nth (midSection loc r) k).getD 0
  else if loc = 0 ∧ k < 160 then (nth (midHeader loc r) (k - 32)).getD 0
  else (Config.midwinterByte loc r.seq k).toNat

/-! ### Commands (R546 to R554) -/

/-- Codes of R527. -/
def recCode : RecState → Nat
  | .free => 0
  | .minor => 1
  | .active => 2
  | .quiet => 3
  | .cleared => 4

/-- A record in the layout of R526. -/
def recordFields (i : Nat) (r : Record) : Fields :=
  [(8, r.source), (3, recCode r.state), fb r.injected, fb r.serviced, fb r.coincident, fb r.standing, rz 1, (6, i), rz 2,
    (8, r.master), (4, r.access), rz 28, (64, r.address), ft r.first, ft r.last, (32, r.count), (8, r.window),
    (8, r.secSource), (8, r.secondaries), (8, r.linked), ft r.secFirst, rz 32]

/-- The latest record of a source, if it still holds one. -/
def State.latestOf (s : State) (code : Nat) : Option Nat :=
  (s.src code).latest.filter (fun i => decide ((s.record i).source = code) && decide ((s.record i).state ≠ .free))

/-- A source's entry of `FAULT_STATUS`. -/
def State.sourceFields (s : State) (code : Nat) : Fields :=
  let x := s.src code
  [(8, code), (3, (s.latestOf code).elim 0 (fun i => recCode (s.record i).state)), fb (isFixed code), fb (isCondition code),
    fb x.standing, rz 2, (8, s.srcN code), (8, (s.latestOf code).getD 255), (32, s.srcWindow code), (48, x.events), rz 16]

/-- `FAULT_STATUS` (R547). -/
def cmdFaultStatus : Command where
  opcode := 0x0E01
  run _ s := .done stOk
    ([(16, s.flt.quietS), (8, s.flt.used), (8, 26), (16, s.flt.takeovers), rz 16, (48, s.flt.ledgerFull), rz 16]
      ++ faultSources.flatMap (fun e => s.sourceFields e.1)) s

def execFaultStatus (q : Req) (s : State) : Host.Outcome State Fault Refusal := runCommand cmdFaultStatus q s

/-- `FAULT_LEDGER_READ` (R548). -/
def cmdFaultLedgerRead : Command where
  opcode := 0x0E02
  layout _ := { size := 32, fields := [(0, 6), (8, 5)] }
  run q s :=
    let l := ((List.range 64).filter (fun i => decide (q.f 0 6 ≤ i) && q.b (8 + recCode (s.record i).state))).take 32
    .done stOk ([(8, l.length), rz 56] ++ l.flatMap (fun i => recordFields i (s.record i))) s

def execFaultLedgerRead (q : Req) (s : State) : Host.Outcome State Fault Refusal := runCommand cmdFaultLedgerRead q s

/-- `CLEARED` records become `FREE` (R527), one after another. -/
def State.freeRecords (l : List Nat) (s : State) : State := l.foldl (fun t i => State.settleFaults t (t.setRecord i {})) s

/-- `FAULT_CLEAR` (R549). -/
def cmdFaultClear : Command where
  opcode := 0x0E03
  layout _ := { size := 32, fields := [(0, 6), (8, 2)] }
  range q _ := q.f 8 2 != 3
  run q s :=
    let i := q.f 0 6
    let r := s.record i
    if q.f 8 2 = 0 then
      if (r.state = .active ∨ r.state = .quiet) ∧ r.serviced ∧ !r.standing then
        .done stOk [(8, 0)] (State.settleFaults s (s.clearRecord i))
      else .done stNotPermitted [] s
    else if q.f 8 2 = 1 then
      if r.state = .cleared then .done stOk [(8, 1)] (s.freeRecords [i]) else .done stNotPermitted [] s
    else
      let l := (List.range 64).filter (fun k => decide ((s.record k).state = .cleared))
      .done stOk [(8, l.length)] (s.freeRecords l)

def execFaultClear (q : Req) (s : State) : Host.Outcome State Fault Refusal := runCommand cmdFaultClear q s

/-- `FAULT_POLICY_SET` (R550): a zero keeps the value in force. -/
def cmdFaultPolicySet : Command where
  opcode := 0x0E04
  layout _ := { size := 96, fields := [(0, 16), (32, 48)] }
  range q _ := (faultSource (q.f 0 8)).isSome && decide (q.f 32 32 ≤ 2592000) && decide (q.f 64 16 ≤ 3600)
  run q s :=
    let code := q.f 0 8
    let n := q.f 8 8
    if n ≠ 0 ∧ n ≠ s.srcN code ∧ (isFixed code ∨ code = 0x13) then .done stNotPermitted [] s
    else
      let s1 := s.updSrc code (fun x => { x with
        n := if n = 0 then x.n else some n
        windowS := if q.f 32 32 = 0 then x.windowS else some (q.f 32 32) })
      .done stOk [] { s1 with flt := { s1.flt with quietS := if q.f 64 16 = 0 then s1.flt.quietS else q.f 64 16 } }

def execFaultPolicySet (q : Req) (s : State) : Host.Outcome State Fault Refusal := runCommand cmdFaultPolicySet q s

/-- An entry of `MIDWINTER_INFO`. -/
def midInfo : Option MidRec → Fields
  | none => [rz 256]
  | some r => [fb true, fb r.released, fb r.injected, fb r.truncated, fb r.incomplete, rz 11, (8, r.cause), rz 8, (32, r.seq),
      ft r.taken, (64, r.bytes), rz 32]

/-- `MIDWINTER_INFO` (R551). -/
def cmdMidwinterInfo : Command where
  opcode := 0x0E05
  run _ s := .done stOk
    ([(32, s.mid.overwritten), rz 32] ++ [0, 1, 2].flatMap (fun k => midInfo (Tbl.get? s.mid.loc k))) s

def execMidwinterInfo (q : Req) (s : State) : Host.Outcome State Fault Refusal := runCommand cmdMidwinterInfo q s

/-- `MIDWINTER_READ` (R552): inline, or by DMA over PCIe. -/
def cmdMidwinterRead : Command where
  opcode := 0x0E06
  layout _ := { size := 192, fields := [(0, 2), (32, 32), (64, 128)] }
  range q _ := q.f 0 2 != 3 && within 1 (if q.f 128 64 = 0 then 4064 else 16777216) (q.f 32 32)
  run q s :=
    let n := q.f 32 32
    let dma := q.f 128 64
    match Tbl.get? s.mid.loc (q.f 0 2) with
    | none => .done stNotPermitted [] s
    | some r =>
      if r.bytes < q.f 64 64 + n then .done stBadParam [] s
      else if dma = 0 then
        .done stOk ([(32, n), rz 96] ++ (List.range n).map (fun k => (8, midByte (q.f 0 2) r (q.f 64 64 + k)))) s
      else if !s.plat.pcieUp then .done stNotPermitted [] s
      else .done stOk [(32, n), rz 96] (s.emit (.dma dma (q.f 64 64) n))

def execMidwinterRead (q : Req) (s : State) : Host.Outcome State Fault Refusal := runCommand cmdMidwinterRead q s

/-- `MIDWINTER_RELEASE` (R553): a released flash slot awaits its erase (R545). -/
def cmdMidwinterRelease : Command where
  opcode := 0x0E07
  layout _ := { size := 32, fields := [(0, 3)] }
  run q s :=
    let l := bitList (q.f 0 3) 3
    if l.any (fun k => (Tbl.get? s.mid.loc k).isNone) then .done stNotPermitted [] s
    else
      let s1 := { s with mid := { s.mid with
        loc := s.mid.loc.map (fun e => if l.contains e.1 then (e.1, { e.2 with released := true }) else e)
        erase := s.mid.erase ++ l.filter (fun k => k != 0 && !s.mid.erase.contains k) } }
      .done stOk [] (State.noteFrom s s1)

def execMidwinterRelease (q : Req) (s : State) : Host.Outcome State Fault Refusal := runCommand cmdMidwinterRelease q s

/-- `FAULT_INJECT` (R554): the first event is raised at once, the others follow at their spacing. For the sentinel's sources
it is a real takeover, and the command is in flight when firmware stops. -/
def cmdFaultInject : Command where
  opcode := 0x0E80
  layout _ := { size := 128, fields := [(0, 20), (24, 24), (64, 64)] }
  range q _ := (faultSource (q.f 0 8)).isSome && decide (q.f 8 8 ≤ 15) && decide (q.f 16 4 ≤ 6)
    && (if within 1 3 (q.f 0 8) then q.f 24 8 == 1 else decide (1 ≤ q.f 24 8))
  run q s :=
    let code := q.f 0 8
    if !s.plat.factoryTest ∨ !s.plat.service then .done stNotPermitted [] s
    else if within 1 3 code then
      let w : Wait := { opcode := 0x0E80, req := q, applied := true }
      .kept (({ s with tci := { s.tci with aside := s.tci.aside ++ [w] } }).takeover code (q.f 64 16) true)
    else
      let s1 := s.faultEvent code (q.f 8 8) (q.f 16 4) (q.f 64 64) true
      let later := (List.range (q.f 24 8 - 1)).map (fun k =>
        (s.time.tick + (k + 1) * q.f 32 16 * tickMs, code, q.f 8 8, q.f 16 4, q.f 64 64, 1))
      .done stOk [(8, (s1.episode code true).getD 255)] { s1 with flt := { s1.flt with injects := s1.flt.injects ++ later } }

def execFaultInject (q : Req) (s : State) : Host.Outcome State Fault Refusal := runCommand cmdFaultInject q s

end Sys2Proof.Machine
end

