-- ==== Sys2Proof/Machine/Rounds.lean ====
section
/-!
DEFINITION. Domain-wide Equinox rounds: the participant, the merging of votes and acks, the root, and their commands
(13_configuration_banks.md R440 to R449, R457 to R459).
-/
namespace Sys2Proof.Machine

/-! ### Frames (R441) -/

/-- Fields of a round frame's payload, big-endian (07_timing_domain.md R185). -/
def frameRound (f : DomFrame) : Nat := wireField f.payload 0 32
def frameChange (f : DomFrame) : Nat := wireField f.payload 32 32
def frameOrigin (f : DomFrame) : Nat := wireField f.payload 64 16
def frameInstant (f : DomFrame) : Int := (Time96.ofWord (wireField f.payload 80 96)).units

/-- The payload of a down kind. -/
def downFields (round change root instant : Nat) : Fields := [(32, round), (32, change), (16, root), (96, instant)]

/-- The payload of an up kind. -/
def UpRec.fields (u : UpRec) : Fields :=
  [(32, u.round), (16, mapCount u.okMap), (16, u.fails), (8, u.reasons), rz 104, (4096, u.okMap)]

/-! ### Participants (R443, R445) -/

/-- Reason bits of R443 that fail now: on `PREPARE` all of them, on `ARM` all but `NO_TAG`. -/
def State.roundReasons (s : State) (prepare : Bool) (round tag : Nat) (inst : Int) : Nat :=
  let noTag := prepare && !(s.banks.state == .tagged && s.banks.changeId == tag)
  let busy := s.equinoxRow.isSome || ((s.rnd.part == .prepared || s.rnd.part == .armed) && s.rnd.round != round)
  let lead := if prepare then decide (inst < s.nowU) else decide (inst - s.nowU < uMs)
  let cue := !(s.cueFindings s.banks.shadow inst).isEmpty
  Fields.pack [fb noTag, fb busy, fb s.plat.warn, fb s.flt.frozen, fb lead, fb cue]

/-- This device's own vote or ack opens the merge of one upward message (R442). -/
def State.openUp (kind round : Nat) (ok : Bool) (reasons : Nat) (s : State) : State :=
  let u : UpRec := { kind := kind, round := round, arrived := s.time.tick, okMap := if ok then 2 ^ s.deviceId else 0
                     fails := if ok then 0 else 1, reasons := reasons }
  { s with rnd := { s.rnd with up := (u :: s.rnd.up).take 64 } }

/-- A participant meets `PREPARE`: it votes (R445). -/
def State.onPrepare (round tag : Nat) (inst : Int) (s : State) : State :=
  let why := s.roundReasons true round tag inst
  let r := s.rnd
  let r1 :=
    if why = 0 then { r with part := .prepared, round := round, inst := inst.toNat, lastRound := round, lastOutcome := 0, lastReasons := 0 }
    else if r.part = .idle ∨ r.part = .tagged then { r with round := round, lastRound := round, lastOutcome := 4, lastReasons := why }
    else r
  { s with rnd := r1 }.openUp 0x21 round (why == 0) why

/-- A participant meets `ARM`: prepared for the round and with R443 met it arms the `EQUINOX` row (R445). A row the cue table
has no room for is refused with no reason bit, for R443 has none (DEDUCED, log entry 107). -/
def State.onArm (round : Nat) (inst : Int) (s : State) : State :=
  let why := s.roundReasons false round 0 inst
  let row := equinoxRowOf inst round
  if s.rnd.part = .prepared ∧ s.rnd.round = round ∧ why = 0 ∧ s.rowConflict row = rsNone then
    let s1 := (s.armRow row).2
    { s1 with rnd := { s1.rnd with part := .armed } }.openUp 0x23 round true 0
  else
    let mine := s.rnd.part == .prepared && s.rnd.round == round
    { s with rnd := { s.rnd with lastReasons := if mine then why else s.rnd.lastReasons } }.openUp 0x23 round false why

/-- A participant meets a cancel (R445): an armed row not yet handed over is cancelled. -/
def State.onCancel (round : Nat) (s : State) : State :=
  let back := fun (t : State) =>
    ({ t with rnd := { t.rnd with part := .tagged, lastOutcome := 2 } }.post 0x0202 [(32, round)]).openUp 0x25 round true 0
  if s.rnd.round = round ∧ s.rnd.part = .prepared then back s
  else if s.rnd.round = round ∧ s.rnd.part = .armed then
    match s.equinoxRow with
    | some (id, r) => if r.handed then s.openUp 0x25 round false 0 else back (s.endRow id ocCancelled rsRoot none)
    | none => s.openUp 0x25 round true 0
  else s.openUp 0x25 round true 0

/-- What a round and its root are known by (08_cues.md R244). -/
def roundKey (root round : Nat) : Nat := root * 2 ^ 32 + round

/-- A down frame from the parent, of the current root, not acted on before (R442; 08_cues.md R244). -/
def State.takesDown (s : State) (f : DomFrame) : Bool :=
  s.dom.parentPort == some f.port && (frameOrigin f) == s.dom.root.rootId && !s.dom.dupId
    && !s.rnd.seen.contains (roundKey (frameOrigin f) (frameRound f), f.kind)

/-- A round acted on is remembered among the last 64 of its kind (R442; 08_cues.md R244). -/
def rememberRound (e : Nat × Nat) (l : List (Nat × Nat)) : List (Nat × Nat) :=
  (e :: l.filter (fun x => x.2 == e.2)).take 64 ++ l.filter (fun x => x.2 != e.2)

/-- A down frame is relayed and acted on. -/
def takeDown (kind dt : Nat) (f : DomFrame) (act : State → State) (s : State) : Host.Outcome State Fault Refusal :=
  withPort f.port (s.advance dt) (fun s1 =>
    let (ok, s2) := s1.acceptDomain f
    if !ok ∨ f.kind ≠ kind ∨ !s2.takesDown f then s2
    else act ({ s2 with rnd := { s2.rnd with seen := rememberRound (roundKey (frameOrigin f) (frameRound f), kind) s2.rnd.seen } }.toChildren kind
      (rawFields 22 f.payload)))

def execPrepare (dt : Nat) (f : DomFrame) (s : State) : Host.Outcome State Fault Refusal :=
  takeDown 0x20 dt f (fun t => t.onPrepare (frameRound f) (frameChange f) (frameInstant f)) s

def execArm (dt : Nat) (f : DomFrame) (s : State) : Host.Outcome State Fault Refusal :=
  takeDown 0x22 dt f (fun t => t.onArm (frameRound f) (frameInstant f)) s

def execEquinoxCancelFrame (dt : Nat) (f : DomFrame) (s : State) : Host.Outcome State Fault Refusal :=
  takeDown 0x24 dt f (fun t => t.onCancel (frameRound f)) s

/-- A prepared participant reaches T unarmed and stays on its old bank (R445, R447). -/
def execEquinoxMissed (dt : Nat) (s : State) : Host.Outcome State Fault Refusal :=
  let s1 := s.advance dt
  .next (if s1.rnd.part = .prepared ∧ (s1.rnd.inst : Int) ≤ s1.nowU then
    let n := inc48 s1.banks.missed 1
    ({ s1 with banks := { s1.banks with missed := n }, rnd := { s1.rnd with part := .tagged, lastOutcome := 3 } }.counterHalf
      s1.banks.missed n 0x0201 0 496).post 0x0203 [(32, s1.rnd.round), (8, s1.rnd.lastReasons)]
  else s1)

/-! ### Upward messages (R442; 08_cues.md R245) -/

/-- A child's message is merged once into this device's of the same kind and round. -/
def State.mergeUp (f : DomFrame) (s : State) : State :=
  { s with rnd := { s.rnd with up := s.rnd.up.map (fun u =>
    if u.kind == f.kind && u.round == (frameRound f) && !u.sent && !u.acked.contains f.port then
      { u with acked := f.port :: u.acked, okMap := u.okMap ||| bits f.payload 176 4096
               fails := (u.fails + wireField f.payload 48 16) % 65536, reasons := u.reasons ||| bits f.payload 64 8 }
    else u) } }

/-- An upward frame from a child. -/
def takeUp (kind dt : Nat) (f : DomFrame) (s : State) : Host.Outcome State Fault Refusal :=
  withPort f.port (s.advance dt) (fun s1 =>
    let (ok, s2) := s1.acceptDomain f
    if ok ∧ f.kind = kind ∧ s2.isChild f.port ∧ !s2.dom.dupId then s2.mergeUp f else s2)

def execReady (dt : Nat) (f : DomFrame) (s : State) : Host.Outcome State Fault Refusal := takeUp 0x21 dt f s
def execArmed (dt : Nat) (f : DomFrame) (s : State) : Host.Outcome State Fault Refusal := takeUp 0x23 dt f s
def execCancelAck (dt : Nat) (f : DomFrame) (s : State) : Host.Outcome State Fault Refusal := takeUp 0x25 dt f s

/-- Is a merge complete, every child of the `MEMBERS` map heard, or its wait over (08_cues.md R245). -/
def State.upDue (s : State) (u : UpRec) : Bool :=
  s.memberPorts.all u.acked.contains || decide (u.arrived + s.ackWait ≤ s.time.tick)

/-- Does the root's own round hold this merge. -/
def State.ownRound (s : State) (u : UpRec) : Bool := s.rnd.root != .idle && u.round == s.rnd.rootRec.round

/-- A merged vote or ack goes to the parent. -/
def State.sendUp (u : UpRec) (s : State) : State :=
  let s1 := { s with rnd := { s.rnd with up := s.rnd.up.map (fun x => if x == u then { x with sent := true } else x) } }
  match s.dom.parentPort with
  | some p => s1.sendDomain p u.kind u.fields
  | none => s1

def execRoundUpSend (dt : Nat) (s : State) : Host.Outcome State Fault Refusal :=
  let s1 := s.advance dt
  .next (if s1.dom.dupId then s1 else (s1.rnd.up.reverse.filter (fun u => !u.sent && !s1.ownRound u && s1.upDue u)).foldl (fun t u => t.sendUp u) s1)

/-! ### The root (R444, R446) -/

/-- The root's merge of a kind in its round. -/
def State.rootUp (s : State) (kind : Nat) : UpRec :=
  (s.rnd.up.find? (fun u => u.kind == kind && u.round == s.rnd.rootRec.round)).getD {}

/-- T of the root's round, and its arm deadline T − M (R444). -/
def State.roundT (s : State) : Int := s.rnd.rootRec.inst
def State.armDeadline (s : State) : Int := s.roundT - ((s.armMargin * 262144 : Nat) : Int)

/-- The root's record of its round changed. -/
def State.updRoot (st : RootState) (f : RootRec → RootRec) (s : State) : State :=
  { s with rnd := { s.rnd with root := st, rootRec := f s.rnd.rootRec, recDue := s.time.tick + s.ackWait } }

/-- What the merges show so far, in the record. -/
def State.noteRoot (s : State) (r : RootRec) : RootRec :=
  let u := if r.phase then s.rootUp 0x23 else s.rootUp 0x21
  { r with ready := (s.rootUp 0x21).okMap, armed := (s.rootUp 0x23).okMap, cancel := (s.rootUp 0x25).okMap, fails := u.fails, reasons := u.reasons }

/-- The response of `EQUINOX_DOMAIN_START` (R457). -/
def RootRec.response (r : RootRec) : Fields :=
  [(32, r.round), (16, mapCount r.armed), (16, r.fails), (8, r.reasons), fb r.phase, rz 23]

/-- The root cancels its round. In `dup_id` it sends nothing (07_timing_domain.md R208; how its round then ends: DEDUCED,
log 212). -/
def State.rootCancel (byHost : Bool) (s : State) : State :=
  let r := s.rnd.rootRec
  let s1 := if s.dom.dupId then s else s.toChildren 0x24 (downFields r.round 0 s.deviceId 0)
  (s1.onCancel r.round).updRoot .cancelling (fun x => { s.noteRoot x with byHost := byHost })

/-- The round ends at the root: its record is kept among the last 16, and its result is posted. -/
def State.rootEnds (outcome : Nat) (s : State) : State :=
  let r := { s.noteRoot s.rnd.rootRec with outcome := outcome }
  ({ s with rnd := { s.rnd with root := .idle, rootRec := r, results := (r :: s.rnd.results).take 16 } }).post 0x0206
    [(32, r.round), (8, outcome), (16, mapCount r.ready), (16, mapCount r.armed), (8, r.reasons)]

/-- Is this wait the round's start. -/
def startWait (round : Nat) (w : Wait) : Bool := w.opcode == 0x0207 && w.arg == round

/-- The root's round advances (R446). -/
def State.rootAdvance (s : State) : State :=
  let r := s.rnd.rootRec
  match s.rnd.root with
  | .idle => s
  | .preparing =>
    let u := s.rootUp 0x21
    if u.okMap = r.members ∧ !s.plat.warn ∧ !s.dom.dupId then
      ((s.toChildren 0x22 (downFields r.round r.changeId s.deviceId (Time96.ofUnits r.inst).word)).onArm r.round r.inst).updRoot .arming
        (fun x => { x with phase := true })
    else if s.upDue u then s.rootCancel false
    else s
  | .arming =>
    let u := s.rootUp 0x23
    if u.okMap = r.members then
      let s1 := s.updRoot .armed s.noteRoot
      s1.finish (startWait r.round) stOk (fun _ => s1.rnd.rootRec.response)
    else if s.upDue u ∨ s.armDeadline ≤ s.nowU ∨ s.plat.warn then s.rootCancel false
    else s
  | .armed => if s.roundT ≤ s.nowU then s.rootEnds 1 else s
  | .cancelling =>
    if s.upDue (s.rootUp 0x25) then
      let s1 := s.rootEnds 2
      let s2 := s1.finish (startWait r.round) stEquinoxMissed (fun _ => s1.rnd.rootRec.response)
      s2.finishAll (fun w => w.opcode == 0x0208) stOk (fun _ => [(16, mapCount s1.rnd.rootRec.cancel), rz 16])
    else s

def execRootRoundAdvance (dt : Nat) (s : State) : Host.Outcome State Fault Refusal := .next (s.advance dt).rootAdvance

/-- `EQUINOX_DOMAIN_START` (R457). -/
def cmdEquinoxDomainStart : Command where
  opcode := 0x0207
  layout _ := { size := 128, fields := [(0, 128)] }
  range q _ := q.f 0 32 != 0 && Time96.legal (q.f 32 96)
  run q s :=
    let inst := (Time96.ofWord (q.f 32 96)).units
    if !s.rootSpeaks then .done stNotPermitted [] s
    else if s.rnd.root ≠ .idle then .done stBusy [] s
    else if inst - s.nowU < ((s.domainMinLead * 262144 : Nat) : Int) then .done stLate [] s
    else
      let n := s.rnd.nextRound
      let rec_ : RootRec := { round := n, changeId := q.f 0 32, inst := inst.toNat, members := s.subtreeMap }
      let s1 := { s with rnd := { s.rnd with nextRound := (n + 1) % 2 ^ 32, rootRec := rec_, root := .preparing, recDue := s.time.tick + s.ackWait } }
      let s2 := s1.toChildren 0x20 (downFields n (q.f 0 32) s.deviceId (q.f 32 96))
      .aside { arg := n, applied := true } (s2.onPrepare n (q.f 0 32) inst)

def execEquinoxDomainStart (q : Req) (s : State) : Host.Outcome State Fault Refusal := runCommand cmdEquinoxDomainStart q s

/-- `EQUINOX_DOMAIN_CANCEL` (R458). -/
def cmdEquinoxDomainCancel : Command where
  opcode := 0x0208
  layout _ := { size := 32, fields := [(0, 32)] }
  run q s :=
    if s.rnd.root = .idle ∨ q.f 0 32 ≠ s.rnd.rootRec.round then .done stNotPermitted [] s
    else if s.rnd.root = .cancelling then .aside { applied := true } s
    else if s.armDeadline < s.nowU then .done stLate [] s
    else .aside { applied := true } (s.rootCancel true)

def execEquinoxDomainCancel (q : Req) (s : State) : Host.Outcome State Fault Refusal := runCommand cmdEquinoxDomainCancel q s

/-- `EQUINOX_RESULT_GET` (R459). -/
def cmdEquinoxResultGet : Command where
  opcode := 0x0209
  layout _ := { size := 32, fields := [(0, 32)] }
  run q s :=
    match s.rnd.results.find? (fun r => r.round == q.f 0 32) with
    | none => .done stNotPermitted [] s
    | some r =>
      .done stOk [(32, r.round), (32, r.changeId), (96, (Time96.ofUnits r.inst).word), (8, r.outcome), (8, r.reasons),
        (16, mapCount r.members), (16, mapCount r.ready), (16, mapCount r.armed), (16, mapCount r.cancel), rz 16,
        (4096, r.ready), (4096, r.armed), (4096, r.cancel)] s

def execEquinoxResultGet (q : Req) (s : State) : Host.Outcome State Fault Refusal := runCommand cmdEquinoxResultGet q s

end Sys2Proof.Machine
end

