-- ==== Sys2Proof/Machine/Steps.lean ====
section
/-!
DEFINITION. Scheduled steps and slews of the time base and all that a step moves (03_time_base_and_stamps.md R45 to R48,
R72, R73; 05_references_and_holdover.md R134 to R136, R139; 08_cues.md R239; 04_interval_measurement.md R90), and the
gates of the pace monitors (02_self_timed_operation.md R35 to R38).
-/
namespace Sys2Proof.Machine

/-! ### What a step moves -/

/-- Δ of a scheduled change: as given, or the phase against the reference in use (R72, R134); none: no reference, no change. -/
def State.schedDelta (c : Sched) (s : State) : Int := c.delta.getD (s.sel.selected.elim 0 s.netPhase)

/-- Is a scheduled change a step (R47, R72): the first setting always is. With `TIME_VALID` = 1 an attended request of mode
0 or 1 is, its size having been judged on arrival; an attended request of mode 2 and an auto-step are where the phase
measured exceeds the step threshold. Nothing else steps: a change fixed as a first setting that finds `TIME_VALID` = 1 is
slewed (01_architecture.md R20). -/
def State.schedSteps (c : Sched) (s : State) : Bool :=
  if s.time.valid then
    if c.delta.isSome then c.attended
    else (c.attended || c.src == 2) && decide (s.stepThreshold < (s.schedDelta c).natAbs)
  else c.delta.isSome || s.sel.selected.isSome

/-- The scheduled change whose whole second of old time comes first, once it is reached. -/
def State.dueSched (s : State) : Option Sched :=
  (s.time.scheds.filter (fun c => decide ((c.atSec : Int) * uS ≤ s.nowU))).foldl
    (fun a c => if a.elim true (fun b => decide (c.atSec < b.atSec)) then some c else a) none

/-- Measured phases of time references move with the time base (R123). -/
def State.stepRefs (delta : Int) (s : State) : State :=
  refList.foldl (fun t r =>
    if freqOnly (t.banks.active.refType r) then t else t.updRef r (fun x => { x with phase := x.phase.map (· - delta) })) s

/-- Regression gates across a step keep their length on the step-free copy, and the gate in which it falls sets `step_in_gate`,
be its predecessor's result still due (R90). DESIGN CHOICE (log entry 151): a gate whose start a forward step skips opens at the
step and sets `step_in_gate`. `before` is the state ahead of the step. -/
def State.stepJobs (before s : State) : State :=
  { s with meas := { s.meas with job := s.meas.job.mapVal (fun j =>
    let stepped := { j with steps := j.steps ++ [s.stepFree] }
    if !j.running then j
    else if j.openSf before.time.stepSum ≤ before.stepFree then { stepped with sfStart := some (j.openSf before.time.stepSum) }
    else if j.gateStart ≤ s.nowU then { stepped with sfStart := some s.stepFree }
    else j) } }

/-- Outputs at a step: a frequency output not yet started starts at a whole second of the new time (R138), a pulse output
realigns from its first instant at or after the step tick (R139), and `TOD_TX` sends one sentence for each second of the new
time (R142). -/
def State.stepOutputs (s : State) : State :=
  { s with outs := s.outs.mapVal (fun o =>
    if o.mode = 2 then (if s.stepFree < o.startSf then { o with startSf := s.nextSecondSf } else o)
    else { o with realign := true, startSf := max o.startSf s.stepFree, sentSec := none }) }

/-- A forward step skips the instants from the old time up to the new (R239): the `EQUINOX` row executes at the step
tick, every other row ends `LATE` with reason `STEP`. -/
def State.stepCues (old : Int) (s : State) : State :=
  (s.armedRows.filter (fun e => decide (old ≤ e.2.inst) && decide (e.2.inst < s.nowU))).foldl (fun t e =>
    if e.2.equinox then t.commitRow e.1 e.2 else t.endRow e.1 ocLate rsStep none) s

/-- The selector after a step, or after a slew that ends `WAIT_STEP` (R135, R136). With no reference in use it keeps its state
(DEDUCED, log entry 193). -/
def State.afterStep (stepped : Bool) (c : Sched) (s : State) : State :=
  let s1 := { s with sel := { s.sel with setting := false } }
  match s1.sel.selected with
  | none => s1
  | some r =>
    if freqOnly (s1.banks.active.refType r) ∨ s1.sel.state = .loopOpen then s1
    else if stepped ∨ (s1.sel.state = .waitStep ∧ c.delta.isNone) then s1.enterSel .acquiring
    else s1

/-- `TIME_STEP` responds within 5 ms (R72, R73); no other source of a change answers one. DESIGN CHOICE (log entry 150):
of a Δ beyond 64 bits `applied` keeps the low 64. -/
def State.answerStep (c : Sched) (delta : Int) (slewed : Bool) (s : State) : State :=
  if c.src = 1 then
    s.finish (fun w => w.obj == some .timeBase && w.opcode == 0x0504 && w.inst.sec == c.atSec) stOk (fun _ =>
      [ft { sec := c.atSec }, fi 64 delta, (8, s.time.stepEpoch), fb slewed, rz 23])
  else s

/-- A step moves the time base into or out of the day of a leap: the indications follow (R51). A leap it skips is applied by
its own row. -/
def State.leapMoved (s : State) : State :=
  if s.leap.pending ∧ s.leap.pendAt ≤ s.time.sec then s else s.leapFlags

/-- The time base steps by Δ (R46 to R48). -/
def State.applyStep (c : Sched) (delta : Int) (s : State) : State :=
  let old := s.now
  let s1 := { s with time := s.time.stepBy delta }.leapMoved
  let s2 := if s.time.valid then s1.post 0x0501 [ft old, fi 64 delta, (8, s1.time.stepEpoch)] else s1
  let s3 := ((State.stepJobs s (s2.stepRefs delta)).stepOutputs).afterStep true c
  (s3.stepCues old.units).answerStep c delta false

/-- A scheduled change leaves the schedule. -/
def State.takeSched (c : Sched) (s : State) : State := { s with time := { s.time with scheds := s.time.scheds.erase c } }

/-- At the fixed whole second the time base steps. -/
def execTimeStepApply (dt : Nat) (s : State) : Host.Outcome State Fault Refusal :=
  let s1 := s.advance dt
  .next (match s1.dueSched with
    | some c => if s1.schedSteps c then State.settleTiming s1 ((s1.takeSched c).applyStep c (s1.schedDelta c)) else s1
    | none => s1)

/-- At the fixed whole second a change that R47 makes a slew starts, at the phase slope limit; a first setting whose
reference has gone sets nothing. The selector's own setting that finds `TIME_VALID` = 1 is treated as a selection
(05_references_and_holdover.md R125, R136). -/
def State.startSched (c : Sched) (s : State) : State :=
  if c.src = 0 ∧ s.time.valid then
    let s1 := { s with sel := { s.sel with setting := false } }
    match s1.sel.selected with
    | some r => if s1.sel.state = .loopOpen then s1 else s1.treatPhase r
    | none => s1
  else
    let delta := s.schedDelta c
    let s1 := if s.time.valid then { s with time := s.time.startSlew delta s.banks.active.slopeLimit } else s
    (s1.afterStep false c).answerStep c delta true

def execSlewStart (dt : Nat) (s : State) : Host.Outcome State Fault Refusal :=
  let s1 := s.advance dt
  .next (match s1.dueSched with
    | some c => if s1.schedSteps c then s1 else State.settleTiming s1 ((s1.takeSched c).startSched c)
    | none => s1)

/-! ### Pace monitors -/

/-- Lowest headroom and the unit that gave it; the lowest number wins a tie (R36). -/
def lowestPace : List (Nat × Int) → Nat × Int
  | [] => (0, 0)
  | [e] => e
  | e :: rest => let r := lowestPace rest; if e.2 ≤ r.2 then e else r

/-- Reported headroom of a unit from the replica cycles of its gate, in percent (R33), in 8 signed bits. DESIGN CHOICE (log
entry 152): a value beyond them saturates. -/
def paceHeadroom (u measured : Nat) : Int :=
  let needed : Int := Config.paceNeeded u
  clamp (-128) 127 ((100 * ((measured : Int) - needed)) / needed)

/-- One gate's summary: headroom of units 0 to 17 in percent, and the highest junction reading (R35 to R38). -/
def PaceS.gate (units : List (Nat × Int)) (tj : Int) (p : PaceS) : PaceS :=
  let m := lowestPace units
  let low := decide (m.2 < (p.pct : Int))
  let neg := decide (m.2 < 0)
  let fabric := units.filter (fun e => decide (e.1 < 10))
  let force := fabric.any (fun e => decide (e.2 < 0))
  let good := if fabric.all (fun e => decide (2 ≤ e.2)) then min 100 (p.goodGates + 1) else 0
  { p with
    headroom := units, lowest := units.map (fun e => (e.1, min e.2 ((Tbl.get? p.lowest e.1).getD e.2)))
    valid := true, low := low, negative := neg, negSeen := p.negSeen || (neg && !p.negative)
    safForced := force || (p.safForced && decide (good < 100))
    minHeadroom := m.2, minUnit := m.1, tjMax := tj
    lowQuiet := if low then 0 else min 100 (p.lowQuiet + 1), negQuiet := if neg then 0 else min 100 (p.negQuiet + 1), goodGates := good }

/-- Is this tick the close of a 1 ms gate not yet closed: gates are 250,000 ticks long (R33, R36). -/
def State.paceGateDue (s : State) : Bool := s.time.tick % tickMs == 0 && decide (s.pace.gateAt < s.time.tick)


/-- A 1 ms pace gate closes, once the fabric pipelines have started in March (R36 to R38). `tj` is the highest
junction reading in °C. DESIGN CHOICE (log entry 152): a junction reading beyond 8 signed bits saturates. DESIGN CHOICE (log entry
200): the TIME96 close of R37 is the event entry's cause and no field of its payload. -/
def execPaceGateClose (dt : Nat) (readings : PaceReadings) (tj : Int) (s : State) : Host.Outcome State Fault Refusal :=
  let s1 := s.advance dt
  .next (if s1.plat.step < 5 ∨ !s1.paceGateDue then s1
  else
    let p := s1.pace
    let q : PaceS := { p.gate (paceUnits.map (fun u => (u, paceHeadroom u ((nth readings.counts u).getD 0)))) (clamp (-128) 127 tj) with gateAt := s1.time.tick }
    let body : Fields := [fi 8 q.minHeadroom, (5, q.minUnit)]
    let s2 := { s1 with pace := q }
    let s3 := if q.low ∧ !p.low ∧ p.lowQuiet = 100 then s2.post 0x0101 body else s2
    let s4 := if q.negative ∧ !p.negative ∧ p.negQuiet = 100 then s3.post 0x0102 body else s3
    (readings.dry.filter (fun k => decide (k < portCount))).foldl (fun t k => t.underrun k) s4)

end Sys2Proof.Machine
end

