-- ==== Sys2Proof/Machine/Platform.lean ====
section
/-!
DEFINITION. Supplies and their warnings, the kinds of reset, March, the boot ROM, the PCIe link, and the commands of group
0x0F (17_power_and_start.md R556 to R574; 12_command_interface.md R381; 18_module_and_signals.md R584).
-/
namespace Sys2Proof.Machine

/-! ### Monitors (R557 to R560) -/

/-- Are the internal rails on: from March step 1 on, outside a reset. -/
def State.railsOn (s : State) : Bool := s.plat.inReset.isNone && decide (1 ≤ s.plat.step)

/-- The level of `INT_N`, and of `FAULT_N`: both released in standby and in a reset (18_module_and_signals.md R581). -/
def State.intPin (s : State) : Bool := s.intN || !s.railsOn
def State.faultPin (s : State) : Bool := !s.flt.faultN || !s.railsOn

/-- The rails at or below their warning level, a bit per code of R557; the internal rails only while they are on. -/
def railsLow (r : Rails) (warnMv : Nat) (on : Bool) : Nat :=
  maskOf ((if r.v12 ≤ warnMv then [0] else []) ++ (if r.vsb ≤ 3100 then [1] else [])
    ++ (if on ∧ r.vcore ≤ -50 then [2] else []) ++ (if on ∧ r.vdram ≤ -30 then [3] else []))

/-- A tick since which something holds: kept while it holds. -/
def sinceTick (holds : Bool) (old : Option Nat) (tick : Nat) : Option Nat := if holds then old.orElse (fun _ => some tick) else none

/-- The monitors read: levels, the lowest readings, and since when the clear and restart conditions hold. -/
def State.readRails (r : Rails) (s : State) : State :=
  let p := s.plat
  let low := railsLow r p.warnMv s.railsOn
  { s with plat := { p with
    v12 := r.v12, v12Min := some (p.v12Min.elim r.v12 (min r.v12)), v12Ep := min p.v12Ep r.v12, vsb := r.vsb, vcore := r.vcore, vdram := r.vdram
    vcoreMin := if s.railsOn then some (p.vcoreMin.elim r.vcore (min r.vcore)) else p.vcoreMin
    vcoreEp := if s.railsOn then min p.vcoreEp r.vcore else p.vcoreEp
    tcase := r.tcase, tjMax := r.tjMax, inputMw := r.inputMw, warnRails := low, ovenHot := p.ovenHot && decide (8000 ≤ r.v12)
    clearAt := sinceTick (low == 0 && p.pwrOk) p.clearAt s.time.tick
    above12At := sinceTick (!bit low 0) p.above12At s.time.tick } }

/-- The reading of a rail as `SUPPLY_WARNING` carries it (R574). -/
def PlatS.reading (p : PlatS) (k : Nat) : Int :=
  if k = 0 then p.v12 else if k = 1 then p.vsb else if k = 2 then p.vcore else if k = 3 then p.vdram else 0

/-- `SUPPLY_WARN` sets (R559, R560): one `SUPPLY` event and `SUPPLY_WARNING`. -/
def State.setWarn (code : Nat) (s : State) : State :=
  if s.plat.warn then s
  else
    let s1 := { s with plat := { s.plat with
      warn := true, warnTick := s.time.tick, lastWarn := s.now, v12Ep := s.plat.v12, vcoreEp := s.plat.vcore } }
    State.noteFrom s ((s1.fault 0x40 15 6 0).post 0x0F01 [(3, code), fi 16 (s.plat.reading code)])

/-- The lowest rail that has fallen below its warning level sets the warning. `old` is the state before the reading. -/
def State.warnIfFallen (old s : State) : State :=
  match (bitList s.plat.warnRails 4).find? (fun k => !bit old.plat.warnRails k) with
  | some k => s.setWarn k
  | none => s

/-- A rail's reading has fallen to its warning level past its filter time. -/
def execSupplyWarnSet (dt : Nat) (r : Rails) (s : State) : Host.Outcome State Fault Refusal :=
  let s1 := s.advance dt
  .next (if s1.plat.standby then State.warnIfFallen s1 (s1.readRails r) else s1)

/-- Suspended work resumes in the order in which it was suspended (R560). -/
def State.resume (w : FlashWork) (s : State) : State :=
  match w with
  | .command w =>
    match s.tci.aside.find? (fun x => x.opcode == w.opcode && x.req == w.req) with
    | some x => cmdSysFwWrite.execute x.req { s with tci := { s.tci with aside := s.tci.aside.erase x } }
    | none => s
  | .position => match s.gnss.toStore with
    | some p => if s.fw.running then { s with gnss := { s.gnss with stored := p, toStore := none } } else s
    | none => s
  | .refresh part => s.flashRefresh part
  | .warnLevel => { s with plat := { s.plat with warnMvFlash := s.plat.warnMv } }
  | .memPolicy => s.savePolicy
  | .rows => s.saveRows
  | .midwinter => s
  | .slotErase _ => s

/-- `SUPPLY_WARN` clears (R560). -/
def State.clearWarn (s : State) : State :=
  let p := s.plat
  let n := inc48 p.supplyEvents 1
  let d := s.time.tick - p.warnTick
  let ms := p.warnTicks / tickMs
  let ms2 := (p.warnTicks + d) / tickMs
  let s1 := { s with plat := { p with warn := false, supplyEvents := n, warnTicks := p.warnTicks + d, flashWork := [] } }
  let s2 := (s1.counterHalf p.supplyEvents n 0x0F01 0 192).counterHalf (ms % 2 ^ 48) (ms2 % 2 ^ 48) 0x0F01 0 240
  let s3 := State.noteFrom s (s2.post 0x0F02 [(32, d / tickMs), (16, p.v12Ep), fi 16 p.vcoreEp])
  p.flashWork.foldl (fun t w => t.resume w) s3

/-- The rails are read; the warning clears once every rail has been above its level, with `PWR_OK` high, for 5 ms (R560). -/
def execSupplyWarnClear (dt : Nat) (r : Rails) (s : State) : Host.Outcome State Fault Refusal :=
  let s1 := s.advance dt
  let s2 := State.warnIfFallen s1 (s1.readRails r)
  .next (if !s1.plat.standby then s1
  else if s2.plat.warn ∧ s2.plat.clearAt.elim false (fun t => decide (t + 5 * tickMs ≤ s2.time.tick)) then s2.clearWarn
  else s2)

/-! ### Resets (R562 to R564) -/

/-- Why the part is held in reset. -/
def PlatS.hold (p : PlatS) : Option ResetCause :=
  if !p.standby then some .powerOn
  else if !p.resetN then some .resetN
  else if p.hot then some .thermal
  else if p.supplyWait then some .supply
  else none

/-- The hold follows what causes it. -/
def State.setHold (s : State) : State := { s with plat := { s.plat with inReset := s.plat.hold } }

/-- The image state kept through a full reset (R566, R567): an unconfirmed image that ran has had one more trial start. -/
def FwS.afterReset (f : FwS) (tick reason : Nat) : FwS :=
  let img := f.image f.slot
  let g := if f.running ∧ !img.confirmed then f.setImage f.slot { img with trials := img.trials + 1 } else f
  { imgA := g.imgA, imgB := g.imgB, nextSlot := f.nextSlot, staged := f.staged, floor := f.floor, startReason := reason, resetTick := tick }

/-- Memory protection after a full reset: what flash and fuses hold, and cells that fail;
rows whose spares are fused are flagged no more (R496, R501, R502, R507, R520). -/
def MemS.afterReset (m : MemS) : MemS :=
  { erasure := m.erasure, retired := m.retiredFlash, retiredFlash := m.retiredFlash, spare := 4096 - m.retiredFlash.length
    flagged := m.flaggedFlash.filter (fun r => !r.fused), flaggedFlash := m.flaggedFlash.filter (fun r => !r.fused)
    severeN := m.policyFlash.1, windowH := m.policyFlash.2.1, patrolH := m.policyFlash.2.2, policyFlash := m.policyFlash
    flash := m.flash, sparesLeft := m.sparesLeft
    lines := (m.lines.filter (fun e => !e.2.stuck.isEmpty)).map (fun e =>
      (e.1, { stuck := e.2.stuck, poison := decide (e.1 / 2 ^ 32 = 3) })) }

/-- A full reset (R562): everything outside the standby domain, with what flash and fuses keep, and the straps sampled. DESIGN
CHOICE (log entry 189): the raw tick index, which counts from power-on (04_interval_measurement.md R82), runs on. The
ledger starts empty, and a broken seal stands in it (R407, R531). -/
def State.fullReset (reason : Nat) (service factory : Bool) (s : State) : State :=
  let z := State.reset
  let s1 := { z with
    time := { z.time with tick := s.time.tick, rawBase := s.time.rawBase }
    leap := { z.leap with table := s.leap.flash, flash := s.leap.flash }
    win := { z.win with present := s.win.present, raw := s.win.raw, rawAt := s.win.rawAt }
    sealLoop := s.sealLoop
    inb := { z.inb with enable := s.inb.enable }
    fw := s.fw.afterReset s.time.tick reason
    ocxo := { z.ocxo with devMk := s.ocxo.devMk }
    refs := refList.map (fun r => (r, { since := s.time.tick }))
    sel := { z.sel with since := s.time.tick }
    gnss := { z.gnss with stored := s.gnss.stored, since := s.time.tick }
    dom := { z.dom with resetCount := (s.dom.resetCount + 1) % 65536 }
    banks := { z.banks with slots := s.banks.slots }
    keys := { z.keys with slot := s.keys.slot.mapVal KeySlot.blank, mirror := s.keys.mirror, salt := s.keys.salt, erase := s.keys.erase }
    mem := s.mem.afterReset
    flt := { z.flt with recoveries := s.flt.recoveries }
    mid := { z.mid with
      loc := Tbl.erase s.mid.loc 0, nextSeq := s.mid.nextSeq
      erase := ([1, 2] : List Nat).filter (fun k => (Tbl.get? s.mid.loc k).elim false (·.released)) }
    plat := { s.plat with
      pcieUp := false, pcieGen := 0, pcieWidth := 0, service := service, factoryTest := factory, warnMv := s.plat.warnMvFlash, flashWork := []
      step := 0, stepsDone := 0, doneUs := [], marchFallback := false, resetAt := s.time.tick }
    trace := s.trace, free := s.free, pending := s.pending }
  let s2 := s1.setHold
  if s2.sealBroken then s2.condition 0x30 15 6 0 else s2

/-- The standby domain restarts too (R562): counters, lowest readings and `RECOVERIES` start over, and so does the raw tick
index, which counts from power-on (04_interval_measurement.md R82). -/
def State.standbyReset (s : State) : State :=
  let p := s.plat
  ({ s with
    time := { s.time with rawBase := s.time.tick }
    flt := { s.flt with recoveries := 0 }
    sealLoop := { s.sealLoop with latch := false }
    plat := { p with
      warn := false, warnTick := 0, clearAt := none, supplyEvents := 0, warnTicks := 0, lastWarn := {}, v12Min := some p.v12, vcoreMin := some p.vcore
      hot := false, supplyWait := false, ovenHot := false } }).setHold

/-! ### The seal loop (12_command_interface.md R406, R407) -/

/-- Ticks between two checks of the loop. -/
def sealPeriod : Nat := 10 * tickUs

/-- The level driven on `SEAL_LOOP_A` at a tick: pseudo-random once armed, low before (18_module_and_signals.md R581). -/
def SealS.drive (l : SealS) (tick : Nat) : Bool := l.armed && Config.sealBit (tick / sealPeriod)

/-- One check of the loop at a tick: the level read on `SEAL_LOOP_B` against the one driven on `SEAL_LOOP_A`. DESIGN CHOICE (log
entry 217): `SEAL_CLOSED` clears at the first bit that does not come back and sets after 1 ms without one. -/
def SealS.check (l : SealS) (tick : Nat) (level : Bool) : SealS :=
  if level = l.drive tick then
    (if !l.closed ∧ l.missAt + tickMs ≤ tick then { l with closed := true, closedAt := tick } else l)
  else { l with closed := false, closedAt := if l.closed then tick else l.closedAt, missAt := tick }

/-- Have mismatches persisted for 1 ms by a tick: the loop is broken. -/
def SealS.broken (l : SealS) (tick : Nat) : Bool := !l.closed && decide (l.closedAt + tickMs ≤ tick)

/-- Checks in a row from a tick on. -/
def SealS.checks (l : SealS) : Nat → List Bool → SealS
  | _, [] => l
  | tick, b :: rest => (l.check tick b).checks (tick + sealPeriod) rest

/-- An armed seal loop breaks (R404, R407, R408): both records set, the key store is zeroised, and held actions that need a
key end. -/
def State.breakSeal (s : State) : State :=
  if !s.sealLoop.armed ∨ s.sealBroken then s
  else
    let keyed := fun (w : Wait) => w.opcode / 256 == 0x0C
    let gone := s.win.actions.filter keyed
    let s1 := ({ s with
      sealLoop := { s.sealLoop with latch := true, flash := true }
      win := { s.win with actions := s.win.actions.filter (fun w => !keyed w) } }).zeroiseKeys 1
    let s2 := gone.foldl (fun t w => t.endWait w stSealBroken []) s1
    State.noteFrom s ((s2.condition 0x30 15 6 0).postSeal)

/-- A full reset scheduled by `PLAT_RESET` begins (R572). Operands: the straps. -/
def execFullReset (dt : Nat) (service factory : Bool) (s : State) : Host.Outcome State Fault Refusal :=
  let s1 := s.advance dt
  .next (if s1.fw.restarts.any (fun e => e.2 == 0 && decide (e.1 ≤ s1.time.tick)) then s1.fullReset 5 service factory else s1)

/-- `RESET_N` has been low for 10 µs (R558). -/
def execResetNAssert (dt : Nat) (service factory : Bool) (s : State) : Host.Outcome State Fault Refusal :=
  let s1 := s.advance dt
  .next (if !s1.plat.resetN then s1
  else
    let s2 := { s1 with plat := { s1.plat with resetN := false } }
    if s1.plat.standby then s2.fullReset 1 service factory else s2)

/-- `RESET_N` returns high: the hold ends. -/
def execResetNRelease (dt : Nat) (s : State) : Host.Outcome State Fault Refusal :=
  let s1 := s.advance dt
  .next ({ s1 with plat := { s1.plat with resetN := true } }).setHold

/-- The standby input is at or below 2,900 mV: nothing runs until it rises. The reset itself counts at the rise. -/
def State.standbyLost (service factory : Bool) (s : State) : State :=
  let s1 := ({ s with plat := { s.plat with standby := false } }.fullReset 0 service factory).standbyReset
  { s1 with dom := { s1.dom with resetCount := s.dom.resetCount } }

/-- The standby input rises above 2,900 mV (R562, R584): everything is reset, the straps are sampled, and an armed loop is
checked before the mirror is read (R406). Operands: the reading, the straps, and the levels the checks of the loop read. The
loop counts as closed until a check fails. -/
def execPowerOnReset (dt vsb : Nat) (service factory : Bool) (back : List Bool) (s : State) : Host.Outcome State Fault Refusal :=
  let s1 := s.advance dt
  .next (if s1.plat.standby ∨ vsb ≤ 2900 then s1
  else
    let now := s1.time.tick
    let l := ({ s1.sealLoop with closed := true, closedAt := now }).checks now back
    let s2 := { s1 with plat := { s1.plat with standby := true, standbyAt := now, vsb := vsb }, sealLoop := l }
    let s3 := (s2.fullReset 0 service factory).standbyReset
    if l.broken l.missAt then s3.breakSeal else s3)

/-- A rail reaches its reset level (R557, R561): the standby input takes the part down until it rises again; a supply reset
awaits its restart conditions (R564). -/
def execRailResetLevel (dt : Nat) (r : Rails) (service factory : Bool) (s : State) : Host.Outcome State Fault Refusal :=
  let s1 := s.advance dt
  let s2 := State.warnIfFallen s1 (s1.readRails r)
  .next (if !s1.plat.standby then s1
  else if r.vsb ≤ 2900 then s2.standbyLost service factory
  else if !s1.railsOn then s2
  else if r.v12 ≤ 9600 then { s2 with plat := { s2.plat with supplyWait := true } }.fullReset 2 service factory
  else if r.vcore ≤ -70 ∨ r.vdram ≤ -50 then { s2 with plat := { s2.plat with supplyWait := true } }.fullReset 3 service factory
  else s2)

/-- A junction reads 125 °C or more (R564). Operands: the reading in 1/256 °C and the straps. -/
def execThermalTrip (dt : Nat) (tj : Int) (service factory : Bool) (s : State) : Host.Outcome State Fault Refusal :=
  let s1 := s.advance dt
  .next (if tj < 32000 ∨ s1.plat.hot ∨ !s1.plat.standby then s1
  else { s1 with plat := { s1.plat with hot := true, tjMax := tj } }.fullReset 4 service factory)

/-- The junction reads below 110 °C: the thermal hold ends (R564). -/
def execThermalRelease (dt : Nat) (tj : Int) (s : State) : Host.Outcome State Fault Refusal :=
  let s1 := s.advance dt
  .next (if s1.plat.hot ∧ tj < 28160 then ({ s1 with plat := { s1.plat with hot := false, tjMax := tj } }).setHold else s1)

/-! ### March (R558, R565, R584) -/

/-- Can March start: standby for 10 ms, no reset held, `PWR_OK` high, 12 V above its warning level, no warning standing. -/
def State.canMarch (s : State) : Bool :=
  let p := s.plat
  p.inReset.isNone && p.step == 0 && p.pwrOk && !bit p.warnRails 0 && !p.warn && decide (p.standbyAt + 10 * tickMs ≤ s.time.tick)

/-- A March step starts (R565). -/
def State.startStep (k : Nat) (s : State) : State :=
  let p := { s.plat with step := k, stepAt := s.time.tick }
  if k = 1 then { s with plat := { p with marchT0 := s.time.tick, marchReason := s.fw.startReason, stepsDone := 0, doneUs := [] } }
  else if k = 2 then { s with plat := { p with ovenHot := true }, ocxo := { s.ocxo with heaterAt := some s.time.tick } }
  else { s with plat := p }

/-- March starts where it can. -/
def State.tryMarch (s : State) : State := if s.canMarch then s.startStep 1 else s

/-- Ports of a SerDes group enter `DOWN`, or stay `DISABLED` (R565, 10_port_macs.md R305). -/
def State.powerGroup (g : Nat) (s : State) : State :=
  ((List.range portCount).filter (fun p => laneGroup p == g)).foldl (fun t p =>
    if t.inService p ∧ (t.port p).link = .disabled ∧ !(t.port p).draining then t.startPcs p else t) s

/-- The step in progress completes: the tick starts with the clean-up PLL's lock at step 2, the retirement list applies at
step 3, port groups, the receiver and the engines come up at theirs. -/
def State.completeStep (s : State) : State :=
  let k := s.plat.step
  let us := (s.time.tick - s.plat.marchT0) / tickUs
  let s1 := { s with plat := { s.plat with stepsDone := k, doneUs := Tbl.put s.plat.doneUs k us } }
  if k = 2 then { s1 with time := { s1.time with counting := true }, ocxo := { s1.ocxo with pllLocked := true, pllPhase := none } }
  else if k = 3 then s1.spareFault
  else if 13 ≤ k ∧ k ≤ 22 then State.settleTiming s1 (s1.powerGroup (k - 13))
  else if k = 23 then State.settleTiming s1 (s1.syncGnss s1.banks.active)
  else if k = 24 then
    (State.syncService s1 { s1 with plat := { s1.plat with step := 25 } }).post 0x0F03 [(32, us), fb s1.plat.marchFallback]
  else s1

/-- Can the step in progress complete: step 4 once firmware has loaded the active bank. -/
def State.stepEnds (s : State) : Bool :=
  decide (s.plat.stepsDone < s.plat.step) && decide (s.plat.step ≤ 24) && (s.plat.step != 4 || (s.fw.running && s.banks.loaded))

/-- Can the next step start: the last one complete, 2 ms after its start, and no warning (R559, R565). -/
def State.nextStarts (s : State) : Bool :=
  s.plat.step == s.plat.stepsDone && decide (s.plat.step < 24) && !s.plat.warn && decide (s.plat.stepAt + 2 * tickMs ≤ s.time.tick)

/-- March goes on: the step in progress completes if it has not, and the next one starts when it can. -/
def execMarchStep (dt : Nat) (s : State) : Host.Outcome State Fault Refusal :=
  let s1 := s.advance dt
  .next (if s1.plat.inReset.isSome then s1
  else if s1.plat.step = 0 then s1.tryMarch
  else
    let s2 := if s1.stepEnds then s1.completeStep else s1
    if s2.nextStarts then s2.startStep (s2.plat.step + 1) else s2)

/-- `PWR_OK` rises (R558). -/
def execPwrOkRise (dt : Nat) (r : Rails) (s : State) : Host.Outcome State Fault Refusal :=
  let s1 := s.advance dt
  let s2 := { s1 with plat := { s1.plat with pwrOk := true } }
  .next (if s1.plat.standby then (State.warnIfFallen s2 (s2.readRails r)).tryMarch else s2)

/-- `PWR_OK` has been low for 100 µs (R558): once March has started it counts as a rail below its warning level, code 4 where
no rail is. -/
def execPwrOkFall (dt : Nat) (s : State) : Host.Outcome State Fault Refusal :=
  let s1 := s.advance dt
  let s2 := { s1 with plat := { s1.plat with pwrOk := false, clearAt := none } }
  .next (if s2.railsOn then s2.setWarn ((bitList s2.plat.warnRails 4).headD 4) else s2)

/-- March restarts after a supply reset (R564): 12 V above its warning level for 100 ms, or 100 ms after the reset of a core or
DRAM rail. -/
def execSupplyRestart (dt : Nat) (r : Rails) (s : State) : Host.Outcome State Fault Refusal :=
  let s1 := s.advance dt
  let s2 := State.warnIfFallen s1 (s1.readRails r)
  let since := if s2.fw.startReason = 2 then s2.plat.above12At else some s2.plat.resetAt
  .next (if !s1.plat.standby then s1
  else if s2.plat.supplyWait ∧ s2.plat.pwrOk ∧ !bit s2.plat.warnRails 0
      ∧ since.elim false (fun t => decide (t + 100 * tickMs ≤ s2.time.tick)) then
    (({ s2 with plat := { s2.plat with supplyWait := false } }).setHold).tryMarch
  else s2)

/-! ### Images (R566 to R568) -/

/-- Has an image used up its trial starts (R567). -/
def Image.spent (i : Image) : Bool := !i.confirmed && decide (2 ≤ i.trials)

/-- The slot the boot ROM starts, if any: `next_slot`, else the other one as the fallback (R567). A spent image with no
valid other starts again. -/
def FwS.choice (f : FwS) : Option Bool :=
  let a := f.nextSlot
  if f.accepts a ∧ !(f.image a).spent then some a
  else if f.accepts (!a) then some (!a)
  else if f.accepts a then some a
  else none

/-- The image running becomes confirmed after 60 s (R567). -/
def execImageConfirm (dt : Nat) (s : State) : Host.Outcome State Fault Refusal :=
  let s1 := s.advance dt
  .next (if s1.fw.running ∧ s1.fw.startTick + 60 * tickS ≤ s1.time.tick then
    { s1 with fw := s1.fw.setImage s1.fw.slot { (s1.fw.image s1.fw.slot) with confirmed := true, trials := 0 } }
  else s1)

/-- A processor-only restart scheduled by `PLAT_RESET` or by an activation begins (R562, R568, R572): firmware stops, or the
recovery ends, and the boot ROM selects the image again. A core pair that the sentinel holds stays held (R538). -/
def execProcessorOnlyRestart (dt : Nat) (s : State) : Host.Outcome State Fault Refusal :=
  let s1 := s.advance dt
  .next (match s1.fw.restarts.find? (fun e => e.2 != 0 && decide (e.1 ≤ s1.time.tick)) with
  | none => s1
  | some e =>
    let s2 := { s1 with fw := { s1.fw with restarts := s1.fw.restarts.erase e } }
    if !s2.coreRuns then s2
    else
      let s3 := s2.stopFirmware
      { s3 with fw := { s3.fw with
        imageOk := false, recovery := false
        startReason := if s2.fw.recovery then s2.fw.startReason else if e.2 = 7 then 7 else 6 } })

/-! ### The PCIe link (12_command_interface.md R381; R558) -/

/-- A function-level reset (0), hot reset (1), loss of the link (2) or low `PERST_N` (3). `frames` are the descriptors not
started of transmit rings 0 to 3. -/
def execPcieLinkReset (dt kind : Nat) (frames : List Nat) (s : State) : Host.Outcome State Fault Refusal :=
  let s1 := s.advance dt
  let drop := fun (t : State) (k : Nat) =>
    if (t.ring k).enable then
      let t1 := if k < 4 then t.hostCount 5 (min ((nth frames k).getD 0) (t.ring k).left) else t
      t1.updRing k (fun r => { r with enable := false, idx := r.tailIdx })
    else t
  if 4 ≤ kind then .fault .noSuchUnit
  else
    let s2 := (List.range 8).foldl drop s1
    .next { s2 with
      stamps := if s2.stamps.enable then { s2.stamps with enable := false, draining := true } else s2.stamps
      intr := { s2.intr with mask := 0x0FFF, msixEn := false, delayed := 0 }
      plat := { s2.plat with
        pcieUp := s2.plat.pcieUp && kind == 0, pcieGen := if kind = 0 then s2.plat.pcieGen else 0
        pcieWidth := if kind = 0 then s2.plat.pcieWidth else 0, perst := s2.plat.perst && kind != 3 } }

/-- `PERST_N` is released (R558). -/
def execPerstNRelease (dt : Nat) (s : State) : Host.Outcome State Fault Refusal :=
  let s1 := s.advance dt
  .next { s1 with plat := { s1.plat with perst := true } }

/-- Does the endpoint train to a generation and a width (12_command_interface.md R380): Gen1 to Gen4, x1, x2 or x4. -/
def linkTrains (l : Training) : Bool := within 1 4 l.gen && [1, 2, 4].contains l.width

/-- Training completes: from March step 1 on, with `PERST_N` released. Operand: what the link has trained to, and whether the
host enables MSI-X. -/
def execPcieLinkUp (dt : Nat) (link : Training) (s : State) : Host.Outcome State Fault Refusal :=
  let s1 := s.advance dt
  .next (if s1.plat.perst ∧ s1.railsOn ∧ linkTrains link then
    { s1 with
      plat := { s1.plat with pcieUp := true, pcieGen := link.gen, pcieWidth := link.width }
      intr := { s1.intr with msixEn := link.msix } }
  else s1)

/-! ### Commands of group 0x0F (R569 to R573) -/


/-- Milliseconds `SUPPLY_WARN` has stood, the episode in progress among them. -/
def State.warnMs (s : State) : Nat :=
  (s.plat.warnTicks + (if s.plat.warn then s.time.tick - s.plat.warnTick else 0)) / tickMs

/-- `PLAT_STATUS` (R570): the read clears its lowest readings to 0 (R10), and the next reading starts them over. -/
def cmdPlatStatus : Command where
  opcode := 0x0F01
  run _ s :=
    let p := s.plat
    .done stOk [fb p.warn, fb p.pwrOk, fb (decide (22 ≤ p.stepsDone)), fb (decide (24 ≤ p.stepsDone)), fb s.flashWaits,
      (3, p.warnRails), fb (bit p.warnRails 3), rz 7, (5, p.step), rz 3, (8, s.fw.startReason), (16, p.v12), (16, p.v12Min.getD 0),
      fi 16 p.vcore, fi 16 (p.vcoreMin.getD 0), (16, p.vsb), (16, p.warnMv), fi 16 p.tcase, fi 16 p.tjMax, (32, p.inputMw),
      (48, p.supplyEvents), (48, s.warnMs), ft p.lastWarn] { s with plat := { p with v12Min := none, vcoreMin := none } }

def execPlatStatus (q : Req) (s : State) : Host.Outcome State Fault Refusal := runCommand cmdPlatStatus q s

/-- `PLAT_SUPPLY_SET` (R571): the monitor follows at once, the flash copy when no warning stands. -/
def cmdPlatSupplySet : Command where
  opcode := 0x0F02
  layout _ := { size := 32, fields := [(0, 16)] }
  range q _ := within 10400 11400 (q.f 0 16) && q.f 0 16 % 50 == 0
  run q s :=
    let p := { s.plat with warnMv := q.f 0 16 }
    let r : Rails := { v12 := p.v12, vsb := p.vsb, vcore := p.vcore, vdram := p.vdram, tcase := p.tcase, tjMax := p.tjMax, inputMw := p.inputMw }
    let s1 := if p.warn then ({ s with plat := p }).suspend .warnLevel else { s with plat := { p with warnMvFlash := p.warnMv } }
    .done stOk [] (State.warnIfFallen s (s1.readRails r))

def execPlatSupplySet (q : Req) (s : State) : Host.Outcome State Fault Refusal := runCommand cmdPlatSupplySet q s

/-- `PLAT_RESET` (R572). -/
def cmdPlatReset : Command where
  opcode := 0x0F03
  layout _ := { size := 32, fields := [(0, 2), (16, 16)] }
  range q _ := decide (q.f 0 2 ≤ 1) && decide (q.f 16 16 ≤ 10000)
  run q s := .done stOk [] { s with fw := { s.fw with restarts := s.fw.restarts ++ [(s.time.tick + q.f 16 16 * tickMs, q.f 0 2)] } }

def execPlatReset (q : Req) (s : State) : Host.Outcome State Fault Refusal := runCommand cmdPlatReset q s

/-- `PLAT_MARCH_LOG` (R573). -/
def cmdPlatMarchLog : Command where
  opcode := 0x0F04
  run _ s := .done stOk
    ([(8, s.plat.stepsDone), (8, s.plat.marchReason), fb s.plat.marchFallback, rz 15]
      ++ (List.range 24).map (fun k => (32, Tbl.getD s.plat.doneUs (k + 1) 0))) s

def execPlatMarchLog (q : Req) (s : State) : Host.Outcome State Fault Refusal := runCommand cmdPlatMarchLog q s

end Sys2Proof.Machine
end

