-- ==== Sys2Proof/Machine/Table.lean ====
section
/-!
DEFINITION. The opcode catalogue (12_command_interface.md R413): what command an opcode names.
-/
namespace Sys2Proof.Machine

/-- Commands of group 0x01, in opcode order. -/
def cmdsSystem : List Command :=
  [cmdSysInfo, cmdSysPaceSet, cmdSysPaceGet, cmdSysAttendCancel, cmdSysInbandSet, cmdSysInbandSend,
   cmdSysWindowRead, cmdSysWindowWrite, cmdSysFwWrite, cmdSysSealProvision, cmdSysFactoryDefault,
   cmdSysFwActivate, cmdSysTraceRead]

/-- Commands of group 0x02, in opcode order. -/
def cmdsBank : List Command :=
  [cmdBankStatus, cmdBankSeed, cmdBankValidate, cmdBankTag, cmdEquinoxLocal, cmdEquinoxCancel,
   cmdEquinoxDomainStart, cmdEquinoxDomainCancel, cmdEquinoxResultGet]

/-- Commands of group 0x03, in opcode order. -/
def cmdsPort : List Command :=
  [cmdPortConfigSet, cmdPortConfigGet, cmdPortStatus, cmdPortStats, cmdHostRingSet, cmdHostCounters]

/-- Commands of group 0x04, in opcode order. -/
def cmdsSwitch : List Command :=
  [cmdVlanSet, cmdPortFwdSet, cmdPortStateSet, cmdMacStaticSet, cmdMacFlush, cmdMacLookup, cmdFlowRuleSet,
   cmdMcastGroupSet, cmdQueueSet, cmdRsvSet, cmdMirrorSet, cmdSwitchConfigGet, cmdSwitchStatus, cmdSwitchCounters]

/-- Commands of group 0x05, in opcode order. -/
def cmdsTime : List Command :=
  [cmdTimeGet, cmdTimeSetFreq, cmdTimeAdjPhase, cmdTimeStep, cmdLeapTableSet, cmdLeapTableGet, cmdStampLatencySet,
   cmdStampLatencyGet, cmdStampRingSet, cmdStampCounters]

/-- Commands of group 0x06, in opcode order. -/
def cmdsMeas : List Command :=
  [cmdMeasChannelSet, cmdMeasChannelGet, cmdMeasStart, cmdMeasStop, cmdMeasResultGet, cmdMeasCalGet,
   cmdMeasCalRun, cmdOcxoStatus]

/-- Commands of group 0x07, in opcode order. -/
def cmdsRef : List Command :=
  [cmdRefConfigSet, cmdRefConfigGet, cmdRefStatus, cmdSelModeSet, cmdSelStatus, cmdLoopSet, cmdTimingPolicySet,
   cmdTimingPolicyGet, cmdOutputSet, cmdOutputGet, cmdHoldoverStatus]

/-- Commands of group 0x08, in opcode order. -/
def cmdsGnss : List Command :=
  [cmdGnssConfigSet, cmdGnssConfigGet, cmdGnssStatus, cmdGnssSatList, cmdGnssSurveyRestart, cmdGnssReset]

/-- Commands of group 0x09, in opcode order. -/
def cmdsDomain : List Command :=
  [cmdDomainConfigSet, cmdDomainConfigGet, cmdPortTimingSet, cmdTrunkStatus, cmdFibrePairSet, cmdDomainStatus,
   cmdLinkCalRun, cmdDomainMembers]

/-- Commands of group 0x0A, in opcode order. -/
def cmdsCue : List Command :=
  [cmdCueAdd, cmdCueCancel, cmdCueList, cmdCueStatus, cmdCueDomainAnnounce, cmdCueDomainCancel, cmdCaptureRingSet,
   cmdCueFrameWrite, cmdCueDomainResultGet]

/-- Commands of group 0x0B, in opcode order. -/
def cmdsService : List Command :=
  [cmdTsConfigSet, cmdTsConfigGet, cmdTsAddrSet, cmdTsPrefixSet, cmdTsPolicySet, cmdPtpPortSet, cmdTsStatus,
   cmdTsCounters, cmdTsLedgerGet, cmdTsLedgerFlush, cmdNtsCookieIssue]

/-- Commands of group 0x0C, in opcode order. -/
def cmdsKey : List Command :=
  [cmdKeyInfo, cmdKeyImport, cmdKeyGenerate, cmdKeyDelete, cmdKeyNtsInit, cmdKeyPolicySet, cmdKeyPolicyGet,
   cmdBnOp, cmdBnAbort, cmdBnEnable, cmdCryptoStatus]

/-- Commands of group 0x0D, in opcode order. -/
def cmdsMem : List Command :=
  [cmdMemStatus, cmdMemPolicySet, cmdMemScrub, cmdMemCounters, cmdMemRetiredList, cmdMemFlashStatus,
   cmdMemSramFlags, cmdMemFlipArm, cmdMemFuseProgram]

/-- Commands of group 0x0E, in opcode order. -/
def cmdsFault : List Command :=
  [cmdFaultStatus, cmdFaultLedgerRead, cmdFaultClear, cmdFaultPolicySet, cmdMidwinterInfo, cmdMidwinterRead,
   cmdMidwinterRelease, cmdFaultInject]

/-- Commands of group 0x0F, in opcode order. -/
def cmdsPlat : List Command :=
  [cmdPlatStatus, cmdPlatSupplySet, cmdPlatReset, cmdPlatMarchLog]

/-- The catalogue. -/
def catalogue : List Command :=
  cmdsSystem ++ cmdsBank ++ cmdsPort ++ cmdsSwitch ++ cmdsTime ++ cmdsMeas ++ cmdsRef ++ cmdsGnss ++ cmdsDomain ++ cmdsCue ++ cmdsService ++ cmdsKey ++ cmdsMem ++ cmdsFault ++ cmdsPlat

/-- The command an opcode names; none: `BAD_OPCODE`. -/
def commandOf (opcode : Nat) : Option Command := catalogue.find? (fun c => c.opcode == opcode)

/-- A request is executed by its opcode (R390 step 1). -/
def State.executeOpcode (opcode : Nat) (q : Req) (s : State) : State :=
  match commandOf opcode with
  | some c => c.execute q s
  | none => s.respond q opcode stBadOpcode []

/-- A request is served by its opcode. -/
def State.serveOpcode (opcode : Nat) (q : Req) (s : State) : State := s.serveWith opcode q (fun t => t.executeOpcode opcode q)

end Sys2Proof.Machine
end

