-- ==== Sys2Proof/Machine/Registers.lean ====
section
/-!
DEFINITION. BAR0's registers, the attended window and `PRESENT_N`, the seal loop, and in-band TCI
(12_command_interface.md R382 to R386, R388, R402 to R404, R406 to R412, R418, R419).
-/
namespace Sys2Proof.Machine

/-! ### Register contents (R384) -/

/-- States of a mailbox (R384). -/
def mbxCode : MbxState → Nat
  | .free => 0
  | .busy => 1
  | .done => 2
  | .pending => 3

/-- States of the window (R403). -/
def winCode : Win → Nat
  | .closed => 0
  | .opened => 1
  | .pressing => 2

/-- Whole seconds left in the window, rounded up. -/
def State.windowLeft (s : State) : Nat :=
  if s.win.state = .closed then 0 else (s.win.deadline - s.time.tick + tickS - 1) / tickS

/-- The register `PRESENCE_STATE`. -/
def State.presence (s : State) : Nat :=
  Fields.pack [(2, winCode s.win.state), fb s.win.present, (3, s.win.mbx), fb s.sealLoop.armed, fb s.sealLoop.closed, fb s.sealBroken,
    rz 7, (8, s.windowLeft), (8, s.win.stray)]

/-- The register `PACE_SUMMARY` (02_self_timed_operation.md R36). -/
def PaceS.summary (p : PaceS) : Nat :=
  if p.valid then
    Fields.pack [fi 8 p.minHeadroom, (5, p.minUnit), fb p.low, fb p.negative, fb true, fb p.negSeen, fb p.safForced, rz 6, fi 8 p.tjMax]
  else Fields.pack [rz 16, fb p.negSeen, fb p.safForced, rz 14]

/-- The 32-bit word at an aligned offset below `0x0001_0000`; a reserved offset reads 0. -/
def State.register (s : State) (offset : Nat) : Nat :=
  let ring := fun (k : Nat) => (s.ring k).tail
  if offset = 0x00 then idCode
  else if offset = 0x04 then s.fwVersion
  else if offset = 0x08 then Fields.pack [fb s.fw.running, fb s.plat.service, fb s.plat.factoryTest, fb (s.inb.enable && s.fw.everStarted), fb s.plat.pcieUp]
  else if offset = 0x14 then
    Fields.pack ((List.range 8).map (fun k => (2, mbxCode (s.mailbox k).state)) ++ [(8, s.tci.doorbellErr)])
  else if offset = 0x18 then s.intr.status
  else if offset = 0x1C then s.intr.mask
  else if 0x20 ≤ offset ∧ offset < 0x40 ∧ offset % 4 = 0 then (s.mailbox ((offset - 0x20) / 4)).seq
  else if offset = 0x40 then bits s.snap.seconds 0 32
  else if offset = 0x44 then bits s.snap.seconds 32 16
  else if offset = 0x48 then s.snap.nanoseconds
  else if offset = 0x4C then
    Fields.pack [(16, s.snap.subns), fb s.snap.timeValid, fb s.snap.leapPending, fb s.snap.leapDir, (8, s.snap.stepEpoch), fb s.snap.slewing]
  else if offset = 0x50 then s.evt.head
  else if offset = 0x54 then s.evt.tail
  else if offset = 0x58 then s.evt.lost
  else if offset = 0x60 then s.pace.summary
  else if offset = 0x64 then s.faultSummary
  else if offset = 0x68 then s.presence
  else if offset = 0x70 then s.intr.holdRx + s.intr.holdTx <<< 16
  else if 0x80 ≤ offset ∧ offset < 0xA0 ∧ offset % 4 = 0 then ring ((offset - 0x80) / 4)
  else 0

/-! ### Writes (R385, R386) -/


/-- A write to `INT_STATUS`. -/
def State.clearInt (value : Nat) (s : State) : State :=
  { s with intr := { s.intr with status := clearBits s.intr.status value } }

/-- A write to `INT_MASK`: a vector whose mask bit clears while its status bit is 1 signals, unless it has signalled since that
bit was last set. -/
def State.setMask (value : Nat) (s : State) : State :=
  ((List.range 12).filter (fun k => bit s.intr.mask k && !bit value k && bit s.intr.status k && !bit s.intr.signalled k)).foldl
    (fun t k => t.signal k) { s with intr := { s.intr with mask := value % 4096 } }

/-- A write to `EVT_TAIL` frees entries: lost events are reported as soon as one is free (R398). -/
def State.setEvtTail (value : Nat) (s : State) : State :=
  let s1 := { s with evt := { s.evt with tail := value % 1024 } }
  if s1.fw.running then s1.reportLost else s1

/-- The doorbell of a mailbox: the request its area holds is served (R388). -/
def State.ringArea (k : Nat) (s : State) : State :=
  let (opcode, q) := reqOf k (s.mailbox k).area
  s.doorbell k (State.serveOpcode opcode q)

/-- A 32-bit write to a register: a write to a read-only or reserved place is ignored. -/
def State.writeReg (offset value : Nat) (s : State) : State :=
  if offset = 0x10 then (bitList value 8).foldl (fun t k => t.ringArea k) s
  else if offset = 0x14 then
    { s with tci := { s.tci with doorbellErr := maskOf ((bitList s.tci.doorbellErr 8).filter (fun k => !bit value (16 + k))) } }
  else if offset = 0x18 then s.clearInt value
  else if offset = 0x1C then s.setMask value
  else if offset = 0x54 then s.setEvtTail value
  else if offset = 0x60 then (if bit value 16 then { s with pace := { s.pace with negSeen := false } } else s)
  else if offset = 0x64 then
    (if bit value 2 then State.noteFrom s { s with flt := { s.flt with takeoverSeen := false } } else s)
  else if offset = 0x70 then { s with intr := { s.intr with holdRx := bits value 0 16, holdTx := bits value 16 16 } }
  else if 0x80 ≤ offset ∧ offset < 0xA0 ∧ offset % 4 = 0 then s.updRing ((offset - 0x80) / 4) (fun r => { r with tail := value % 4096 })
  else s

/-- Bytes stored into the mailbox areas: a mailbox that is `BUSY` or `PENDING` ignores them (R388). -/
def State.writeArea (offset : Nat) (data : List Nat) (s : State) : State :=
  data.zipIdx.foldl (fun t e =>
    let at_ := offset + e.2
    let k := (at_ - 0x10000) / 0x1000
    if at_ < 0x10000 ∨ 0x18000 ≤ at_ then t
    else match (t.mailbox k).state with
      | .busy => t
      | .pending => t
      | _ => t.updMailbox k (fun m => { m with area := setBits m.area (8 * (at_ % 0x1000)) 8 e.1 })) s

/-- A 32-bit write to the MSI-X table (R380, log entry 215): the message address ends in two bits 0, the vector control holds its
mask bit alone, and a pending vector that is no longer masked goes out. -/
def State.writeEntry (offset value : Nat) (s : State) : State :=
  let k := (offset - 0x40000) / 16
  let j := offset / 4 % 4
  let v := if j = 0 then value - value % 4 else if j = 3 then value % 2 else value
  let s1 := { s with intr := { s.intr with table := Tbl.put s.intr.table k (setBits (s.intr.entry k) (32 * j) 32 v) } }
  if bit s1.intr.pba k ∧ !bit (s1.intr.entry k) 96 then
    ({ s1 with intr := { s1.intr with pba := clearBits s1.intr.pba (2 ^ k) } }).sendVector k
  else s1

/-- An aligned 32-bit write to a register or to the MSI-X table. -/
def State.writeWord (offset value : Nat) (s : State) : State :=
  if offset < 0x10000 then s.writeReg offset value
  else if 0x40000 ≤ offset ∧ offset < 0x400C0 then s.writeEntry offset value
  else s

/-- A write of `size` bytes at an offset of BAR0 (R385): aligned words, and aligned register pairs; a mailbox area takes any size
and alignment. -/
def State.barWrite (offset size value : Nat) (s : State) : State :=
  if 0x10000 ≤ offset ∧ offset < 0x40000 then s.writeArea offset (toBytes size value)
  else if size = 4 ∧ offset % 4 = 0 then s.writeWord offset (value % 2 ^ 32)
  else if size = 8 ∧ offset % 8 = 0 then (s.writeWord offset (value % 2 ^ 32)).writeWord (offset + 4) (bits value 32 32)
  else s

/-! ### Reads (R385) -/

/-- A read of an aligned register: its word, and what the read does. `TIME_SNAP_SEC` captures the time base first; an RC field
clears (00_scope.md R10). -/
def State.readReg (offset : Nat) (s : State) : Nat × State :=
  if offset = 0x40 then (s.takeSnap.register 0x40, s.takeSnap)
  else if offset = 0x58 then (s.evt.lost, { s with evt := { s.evt with lost := 0 } })
  else if offset = 0x68 then (s.presence, { s with win := { s.win with stray := 0 } })
  else (s.register offset, s)

/-- A byte of the mailbox areas, the event ring, the MSI-X table or its pending bits; any other reads 0. -/
def State.areaByte (s : State) (a : Nat) : Nat :=
  if a < 0x18000 then bits (s.mailbox ((a - 0x10000) / 0x1000)).area (8 * (a % 0x1000)) 8
  else if a < 0x20000 then 0
  else if a < 0x40000 then bits (Tbl.getD s.evt.ring ((a - 0x20000) / 128) 0) (8 * (a % 128)) 8
  else if a < 0x400C0 then bits (s.intr.entry ((a - 0x40000) / 16)) (8 * (a % 16)) 8
  else if 0x41000 ≤ a ∧ a < 0x41002 then bits s.intr.pba (8 * (a - 0x41000)) 8
  else 0

/-- A read of `size` bytes at an offset of BAR0: the registers take aligned words and aligned pairs, and a read of any other size
or alignment there returns 0. -/
def State.barRead (offset size : Nat) (s : State) : Nat × State :=
  if 0x10000 ≤ offset then (ofBytes ((List.range size).map (fun i => s.areaByte (offset + i))), s)
  else if size = 4 ∧ offset % 4 = 0 then s.readReg offset
  else if size = 8 ∧ offset % 8 = 0 then
    let (lo, s1) := s.readReg offset
    let (hi, s2) := s1.readReg (offset + 4)
    (lo + hi <<< 32, s2)
  else (0, if offset ≤ 0x40 ∧ 0x40 < offset + size then s.takeSnap else s)

/-! ### SPI (R382, R383) -/

/-- The word an SPI read samples: beyond `0x0003_FFFF` it is 0. -/
def State.spiSample (a : Nat) (s : State) : Nat × State := if 0x40000 ≤ a then (0, s) else s.barRead (a - a % 4) 4

/-- `n` data bytes read over SPI from an offset up: each word is sampled as its first byte is driven. `word` is the one sampled
last. -/
def State.spiRead : Nat → Nat → Nat → State → List Nat × State
  | 0, _, _, s => ([], s)
  | n + 1, a, word, s =>
    let (w, s1) := if a % 4 = 0 then s.spiSample a else (word, s)
    let (rest, s2) := State.spiRead n (a + 1) w s1
    (bits w (8 * (a % 4)) 8 :: rest, s2)

/-- Data bytes written over SPI from an offset up: a register takes a complete aligned word at its last bit, a mailbox area each
byte. `part` holds the bytes of the word under way. -/
def State.spiWrite : List Nat → Nat → List Nat → State → State
  | [], _, _, s => s
  | b :: rest, a, part, s =>
    if a < 0x10000 then
      let word := if a % 4 = 0 then [b] else part ++ [b]
      if a % 4 = 3 ∧ word.length = 4 then State.spiWrite rest (a + 1) [] (s.writeReg (a - 3) (ofBytes word))
      else State.spiWrite rest (a + 1) word s
    else if a < 0x40000 then State.spiWrite rest (a + 1) [] (s.writeArea a [b])
    else s

/-- An SPI transaction, by the bytes on `SPI_MOSI` while `SPI_CS_N` is low: instruction, offset, for a read a dummy byte, data. With
any other instruction it is ignored and `SPI_MISO` stays high-impedance. A word read in part from its middle is sampled as its first byte is driven. -/
def State.spi (mosi : List Nat) (s : State) : State :=
  match mosi with
  | 0x02 :: a :: b :: c :: data => s.spiWrite data (ofBytesBE [a, b, c]) []
  | 0x03 :: a :: b :: c :: _ :: data =>
    let off := ofBytesBE [a, b, c]
    let (w, s1) := if off % 4 = 0 ∨ data = [] then (0, s) else s.spiSample off
    let (out, s2) := s1.spiRead data.length off w
    s2.emit (.miso out)
  | _ => s.emit (.miso [])

/-- A host access to BAR0, over PCIe while its link is up or over SPI. -/
def execRegisterWrite (dt offset : Nat) (access : Access) (value : Nat) (s : State) : Host.Outcome State Fault Refusal :=
  let s1 := s.advance dt
  .next (match access with
  | .write size => if s1.plat.pcieUp then s1.barWrite offset size value else s1
  | .read size =>
    if s1.plat.pcieUp then
      let (v, s2) := s1.barRead offset size
      s2.emit (.bar0 offset size v)
    else s1
  | .spi instruction n =>
    s1.spi (instruction % 256 :: toBytesBE 3 offset ++ (if instruction % 256 = 3 then [0] else []) ++ toBytes n value))

def execIntStatusClear (dt value : Nat) (s : State) : Host.Outcome State Fault Refusal := .next ((s.advance dt).clearInt value)
def execIntMaskWrite (dt value : Nat) (s : State) : Host.Outcome State Fault Refusal := .next ((s.advance dt).setMask value)
def execEvtTailWrite (dt value : Nat) (s : State) : Host.Outcome State Fault Refusal := .next ((s.advance dt).setEvtTail value)

/-- A read of `EVT_LOST` returns the count and clears it. -/
def execEvtLostRead (dt : Nat) (s : State) : Host.Outcome State Fault Refusal :=
  let (v, s1) := (s.advance dt).readReg 0x58
  .next (s1.emit (.read 0x58 v))

/-- A read of `PRESENCE_STATE` returns it and clears `STRAY_PRESSES`. -/
def execStrayPressesRead (dt : Nat) (s : State) : Host.Outcome State Fault Refusal :=
  let (v, s1) := (s.advance dt).readReg 0x68
  .next (s1.emit (.read 0x68 v))

/-- A ring vector delayed by `HPORT_HOLDOFF` signals once the interval has run out (R386). -/
def execHportHoldoffExpire (dt vector : Nat) (s : State) : Host.Outcome State Fault Refusal :=
  let s1 := s.advance dt
  if 12 ≤ vector then .fault .noSuchUnit
  else .next (
    let due := (Tbl.get? s1.intr.lastVec vector).elim true (fun t => decide (t + s1.intr.holdoff vector ≤ s1.time.tick))
    if bit s1.intr.delayed vector ∧ due then
      ({ s1 with intr := { s1.intr with delayed := clearBits s1.intr.delayed (2 ^ vector) } }).signal vector
    else s1)

/-! ### The window and `PRESENT_N` (R402 to R404) -/

/-- Does the window still stand: open or pressing, its 60 s not yet over. -/
def State.windowStands (s : State) : Bool := s.win.state != .closed && decide (s.time.tick < s.win.deadline)

/-- The raw level of `PRESENT_N` since the previous command, and since when it has stood (R402). -/
def State.feedPin (pin : PinTrace) (s : State) : State :=
  let s1 := s.advance pin.dt
  match (pin.changes.filter (fun e => decide (e.1 ≤ pin.dt))).getLast? with
  | some (after, low) => { s1 with win := { s1.win with raw := low, rawAt := s.time.tick + after } }
  | none => s1

/-- Does the debounced level change now: the raw level has been stable at the other value for 10 ms (R402). -/
def State.debounced (s : State) : Bool := s.win.raw != s.win.present && decide (s.win.rawAt + 10 * tickMs ≤ s.time.tick)

/-- A debounced falling edge. -/
def execPresentPressStart (pin : PinTrace) (s : State) : Host.Outcome State Fault Refusal :=
  let s1 := s.feedPin pin
  .next (if s1.win.present ∨ !s1.debounced then s1
  else
    let s2 := { s1 with win := { s1.win with present := true, pressAt := s1.time.tick, counted := false, pressIn := false } }
    match s1.windowStands, s1.win.held with
    | true, some w =>
      State.noteFrom s1 ({ s2 with win := { s2.win with state := .pressing, pressIn := true } }.postWindow w.opcode stAttendPending)
    | _, _ => s2)

/-- A debounced rising edge: a press under way ends without qualifying. -/
def execPresentRelease (pin : PinTrace) (s : State) : Host.Outcome State Fault Refusal :=
  let s1 := s.feedPin pin
  .next (if !s1.win.present ∨ !s1.debounced then s1
  else
    let s2 := { s1 with win := { s1.win with present := false, pressIn := false } }
    match s1.win.state, s1.win.held with
    | .pressing, some w => State.noteFrom s1 ({ s2 with win := { s2.win with state := .opened } }.postWindow w.opcode stAttendPending)
    | _, _ => s2)

/-- An attended action is carried out: its status and the state, or none while it waits for a condition of its own. -/
def State.actOn (w : Wait) (s : State) : Option Nat × State :=
  match commandOf w.opcode with
  | none => (some stBadOpcode, s.respond w.req w.opcode stBadOpcode [])
  | some c =>
    match c.act w.req s with
    | .done status payload t => (some status, t.respond w.req w.opcode status payload)
    | r => (none, conclude c w.req r)

/-- Does a supply warning suspend an attended command's action. -/
def Wait.suspended (w : Wait) (s : State) : Bool := s.plat.warn && (commandOf w.opcode).elim false (·.flashAct)

/-- The press qualifies: the window closes, and the command is executed, or held until the warning ends. An action that stands
aside without a warning has its event posted with its final status (R400). -/
def State.qualify (w : Wait) (s : State) : State :=
  let s1 := { s with win := { s.win with state := .closed, held := none, pressIn := false } }
  State.noteFrom s (match (commandOf w.opcode).bind (fun c => c.press w.req s1) with
    | some status => (s1.respond w.req w.opcode status []).postWindow w.opcode status
    | none =>
      if w.suspended s1 then { s1 with win := { s1.win with actions := s1.win.actions ++ [w] } }.postWindow w.opcode stAttendPending
      else match s1.actOn w with
        | (some status, s2) => s2.postWindow w.opcode status
        | (none, s2) => s2.closeLater w.opcode)

/-- The debounced level has been low for 200 ms: the command executes, or, while `CLOSED`, a stray press is counted. -/
def execPressQualified (dt : Nat) (s : State) : Host.Outcome State Fault Refusal :=
  let s1 := s.advance dt
  .next (if !s1.win.present ∨ s1.win.counted ∨ s1.time.tick < s1.win.pressAt + 200 * tickMs then s1
  else
    let s2 := { s1 with win := { s1.win with counted := true } }
    match s2.win.state, s2.win.held with
    | .pressing, some w => if s2.windowStands then s2.qualify w else s1
    | .closed, _ => { s2 with win := { s2.win with stray := min (s2.win.stray + 1) 255 } }
    | _, _ => s2)

/-- The 60 s are over. -/
def execAttendWindowExpire (dt : Nat) (s : State) : Host.Outcome State Fault Refusal :=
  let s1 := s.advance dt
  .next (if s1.win.state ≠ .closed ∧ s1.win.deadline ≤ s1.time.tick then s1.closeWindow stAttendExpired else s1)

/-- The first action held by a supply warning is carried out once the warning has ended (R404). -/
def execAttendActionResume (dt : Nat) (s : State) : Host.Outcome State Fault Refusal :=
  let s1 := s.advance dt
  .next (match s1.win.actions with
    | w :: rest =>
      if s1.plat.warn ∨ !(s1.fw.running ∨ s1.fw.recovery) then s1
      else (({ s1 with win := { s1.win with actions := rest } }).actOn w).2
    | [] => s1)

/-! ### The seal loop (R406 to R408) -/

/-- Mismatches have persisted for 1 ms on an armed loop. DESIGN CHOICE (log entry 217): a loop whose last check failed goes on failing
until `SEAL_CLOSED_CHANGE` shows otherwise. -/
def execSealBreak (dt : Nat) (s : State) : Host.Outcome State Fault Refusal :=
  let s1 := s.advance dt
  .next (if s1.sealLoop.broken s1.time.tick then s1.breakSeal else s1)

/-- The last checks of the loop up to now, of which one may show that its continuity appears or disappears. -/
def execSealClosedChange (dt : Nat) (back : List Bool) (s : State) : Host.Outcome State Fault Refusal :=
  let s1 := s.advance dt
  let last := s1.time.tick / sealPeriod * sealPeriod
  let l := s1.sealLoop.checks (last - (back.length - 1) * sealPeriod) back
  let s2 := { s1 with sealLoop := l }
  .next (if l.closed = s1.sealLoop.closed then s2 else s2.postSeal)

/-! ### In-band TCI (R409 to R412) -/

/-- Fields of a kind `0x30` payload, big-endian; the message lies as a mailbox holds it (R410). -/
def DomFrame.target (f : DomFrame) : Nat := wireField f.payload 0 16
def DomFrame.origin (f : DomFrame) : Nat := wireField f.payload 16 16
def DomFrame.txn (f : DomFrame) : Nat := wireField f.payload 32 32
def DomFrame.answers (f : DomFrame) : Bool := bit f.payload 64
def DomFrame.message (f : DomFrame) : Nat := f.payload >>> 96

/-- A frame for another device is relayed in hardware, or dropped (R412). -/
def State.relayInband (f : DomFrame) (s : State) : State :=
  match s.routeTo (DomFrame.target f) with
  | some p => s.sendDomain p 0x30 (rawFields f.bytes f.payload)
  | none => s

/-- In-band requests accepted and waiting. -/
def State.inbandWaiting (s : State) : Nat := (s.tci.rung.filter (fun e => Src.remote e.2.src)).length

/-- A refused in-band request is answered by firmware, which it waits for (R409; 01_architecture.md R15). -/
def State.refuseInband (q : Req) (opcode status : Nat) (s : State) : State :=
  if s.fw.running then s.respond q opcode status []
  else { s with inb := { s.inb with refused := s.inb.refused ++ [(opcode, q, status)] } }

/-- A request for this device is accepted and served, or refused with the status of R390 (R409, R411). DESIGN CHOICE (log entry
214): a message over the 1,024 bytes of R410 is answered `BAD_LENGTH`. -/
def State.takeRequest (f : DomFrame) (s : State) : State :=
  let m := DomFrame.message f
  let (opcode, q0) := reqOf 0 m
  let q := { q0 with src := .inband f.port (DomFrame.origin f) (DomFrame.txn f) }
  let refuse := fun (status : Nat) => s.refuseInband q opcode status
  match commandOf opcode with
  | none => refuse stBadOpcode
  | some c =>
    if !s.inb.enable ∨ s.dom.dupId ∨ c.noInband ∨ isService opcode ∨ c.attended q s then refuse stNotPermitted
    else if inbandMost + 12 < f.bytes then refuse stBadLength
    else if 16 ≤ s.inbandWaiting then refuse stBusy
    else c.serve q s

/-- A kind `0x30` frame that R186 accepts on a trunk port. -/
def takeInband (dt : Nat) (f : DomFrame) (answer : Bool) (act : State → State) (s : State) : Host.Outcome State Fault Refusal :=
  withPort f.port (s.advance dt) (fun s1 =>
    let (ok, s2) := s1.acceptDomain f
    if !ok ∨ f.kind ≠ 0x30 ∨ DomFrame.answers f ≠ answer then s2
    else if DomFrame.target f ≠ s2.deviceId then s2.relayInband f
    else act s2)

def execInbandRequest (dt : Nat) (f : DomFrame) (s : State) : Host.Outcome State Fault Refusal :=
  takeInband dt f false (State.takeRequest f) s

/-- A response completes the `SYS_INBAND_SEND` of its transaction (R419). -/
def State.takeResponse (f : DomFrame) (s : State) : State :=
  s.finish (fun w => w.opcode == 0x0106 && w.arg == DomFrame.txn f) stOk
    (fun _ => [(16, DomFrame.origin f), rz 16, (8 * f.bytes - 96, DomFrame.message f)])

def execInbandResponse (dt : Nat) (f : DomFrame) (s : State) : Host.Outcome State Fault Refusal :=
  takeInband dt f true (fun t => if t.fw.running then t.takeResponse f else t) s

/-- `timeout_ms` runs out (R419). -/
def execInbandTimeout (dt : Nat) (s : State) : Host.Outcome State Fault Refusal :=
  let s1 := s.advance dt
  .next (if s1.fw.running then s1.finishAll (fun w => w.opcode == 0x0106 && decide (w.due ≤ s1.time.tick)) stTimeout (fun _ => []) else s1)

/-- The in-band request executing has ended: a disable is answered (R418). -/
def execInbandQuiescent (dt : Nat) (s : State) : Host.Outcome State Fault Refusal :=
  let s1 := s.advance dt
  .next (if s1.inb.disabling ∧ !s1.tci.aside.any (fun w => Src.remote w.req.src) then
    ({ s1 with inb := { s1.inb with disabling := false } }).finish (fun w => w.obj == some Obj.inband) stOk (fun _ => [])
  else s1)

end Sys2Proof.Machine
end

