-- ==== Sys2Proof/Machine/Firmware.lean ====
section
/-!
DEFINITION. Firmware starts, and the boot ROM's choice of image (17_power_and_start.md R562 to R568; 12_command_interface.md
R395, R398; 16_faults_and_midwinter.md R535, R536).
-/
namespace Sys2Proof.Machine

/-- Execute the rung requests that satisfy `p`, in the order rung (R395). A request answered by an earlier one's action is no
longer among them (R418). -/
def State.runRung (p : Nat × Req → Bool) (s : State) : State :=
  (s.tci.rung.filter p).foldl (fun t e =>
    if t.tci.rung.contains e then ({ t with tci := { t.tci with rung := t.tci.rung.erase e } }).serveOpcode e.1 e.2 else t) s

/-- The boot ROM chooses the image to start, or stays in recovery, raising `BOOT_FALLBACK`, and serves mailbox 0 (R567, R568). -/
def execBootImageSelect (dt : Nat) (s : State) : Host.Outcome State Fault Refusal :=
  let s1 := s.advance dt
  .next (if !s1.coreRuns ∨ s1.fw.running ∨ s1.fw.imageOk ∨ s1.fw.recovery ∨ s1.flt.takeAt.isSome then s1
  else
    match s1.fw.choice with
    | none => (({ s1 with fw := { s1.fw with recovery := true } }).fault 0x06 2 4 0).runRung (fun e => decide (e.2.src = Src.host 0))
    | some slot =>
      let other := slot != s1.fw.nextSlot
      let s2 := { s1 with
        fw := { s1.fw with slot := slot, fallback := other, imageOk := true }
        plat := { s1.plat with marchFallback := if s1.fw.everStarted then s1.plat.marchFallback else other } }
      if other then s2.fault 0x06 2 4 0 else s2)

/-- The key store is read from its mirror at the first start after a full reset (14_keys_and_big_numbers.md R463). -/
def State.readMirror (s : State) : State :=
  match s.keys.mirror with
  | some slots => { s with
      keys := { s.keys with slot := slots }
      ts := { s.ts with cookies := cookiesOf slots, rotateDue := s.time.tick + s.banks.active.cookieRotateS * tickS } }
  | none => ({ s with keys := { s.keys with slot := s.keys.slot.mapVal KeySlot.blank }, ts := { s.ts with cookies := [] } }.fault 0x31 1 1 0).post 0x0C02 [(8, 3)]

/-- The events of a start, in their order (R535): takeovers, the causes kept while firmware was down, then `FW_STARTED`. -/
def State.postStart (s : State) : State :=
  let kept := s.flt.toPost ++ s.evt.kept
  let s1 := kept.foldl (fun t e => t.writeEvent e) { s with flt := { s.flt with toPost := [] }, evt := { s.evt with kept := [] } }
  s1.postKeptCues.repostResults.post 0x0107 [(32, s1.fwVersion), (8, s1.fw.startReason)]

/-- Commands in flight when firmware stopped are answered (R395). -/
def State.answerLost (s : State) : State :=
  s.tci.lost.foldl (fun t w => t.endWait w stFaultState [fb w.applied, rz 31]) { s with tci := { s.tci with lost := [] } }

/-- In-band requests refused while firmware was not running are answered (R409). -/
def State.answerRefused (s : State) : State :=
  s.inb.refused.foldl (fun t e => t.respond e.2.1 e.1 e.2.2 []) { s with inb := { s.inb with refused := [] } }

/-- Firmware starts from the image the boot ROM holds: it posts its events, reads the mirror and loads the active bank if
this is the first start since a full reset, enables the big-number engine, answers and executes what waits. -/
def execFwStarted (dt : Nat) (s : State) : Host.Outcome State Fault Refusal :=
  let s1 := s.advance dt
  .next (if !s1.coreRuns ∨ s1.fw.running ∨ !s1.fw.imageOk then s1
  else
    let (seed, s2) := s1.entropy 128
    let s3 := { s2 with
      fw := { s2.fw with running := true, everStarted := true, startTick := s2.time.tick }
      bn := { s2.bn with enabled := true, draining := false }
      ts := { s2.ts with hashSeed := seed }
      flt := { s2.flt with takeAt := none, takeStart := if s2.flt.takeAt.isSome then some s2.time.tick else s2.flt.takeStart } }
    let s4 := s3.postStart
    let s5 := if s1.banks.loaded then s4 else (s4.loadAtStart).readMirror.loadCache
    State.noteFrom s1 (s5.storeWaiting.answerLost.answerRefused.runRung (fun _ => true)))

end Sys2Proof.Machine
end

