-- ==== Sys2Proof/Machine/TrunkLink.lean ====
section
/-!
DEFINITION. The trunk exchange: the High Accuracy profile on trunk ports, and the series values it yields at both ends of a
link (07_timing_domain.md R191 to R194).
-/
namespace Sys2Proof.Machine

/-- A message of the trunk exchange is queued: layer 2, to the group of R191, signed as it leaves. Sync and Delay_Resp take the
booked path. -/
def State.trunkSend (p what msg n : Nat) (body : Fields) (booked : Bool) (s : State) : State :=
  let f : Frame := { len := max 64 (44 + n), dst := domainGroup, src := portMac p, etherType := 0x88F7, tag := msg }
  let c : Copy := { frame := f, what := what, body := body, booked := booked, stamp := s.now, stampSteps := s.time.stepSum, stampEpoch := s.time.stepEpoch }
  (s.tsQueue p c).2

/-- Does a port run the exchange: a joined trunk port whose neighbour is heard (R184, R206). -/
def State.runsExchange (s : State) (p : Nat) : Bool := s.domainRx p && s.isTrunk p && (s.port p).trunk.state != .down

/-- A series value of an interval goes to the port's series, and to ref 7 where the port is the parent's (R192, R193). -/
def State.seriesValue (p : Nat) (e : Int) (forced : Bool) (s : State) : State :=
  if (s.port p).trunk.state = .measuring ∨ (s.port p).trunk.state = .ready then (s.takeSeries p e forced).feedRef7 p e forced else s

/-- The slave end's turn: the interval's value is e carried forward by the changes of recovered-clock phase `moves`, one for
each millisecond (R192); then it asks with a Delay_Req (R191). -/
def State.slaveEndTurn (p : Nat) (moves : List Int) (s : State) : State :=
  let x := (s.port p).trunk.pair
  let s1 := match x.e with
    | some e => s.seriesValue p (if moves.isEmpty then e else e + divNear moves.sum moves.length) x.forced
    | none => s
  let (seq, s2) := s1.ptpSequence p 1
  (s2.updTrunk p (fun t => { t with pair := { t.pair with e := none, forced := false, reqSeq := seq, t3 := none } })).trunkSend p 13 1 44
    (s2.ptpHead p 1 seq) false

/-- The root's dataset as a trunk Announce carries it (R191), with leap61 or leap59 while a leap is pending
(03_time_base_and_stamps.md R51). -/
def State.rootAnnounce (s : State) : Fields :=
  let h := s.dom.root
  [(8, h.prio1), (8, h.cls), (8, h.accuracy), (16, h.variance), (8, h.prio2), (64, h.rootIdentity), (16, s.dom.hops), fi 16 s.utcOffset,
    fb h.timeTr, fb h.freqTr, fb (s.leap.pending && !s.leap.dir), fb (s.leap.pending && s.leap.dir), rz 4]

/-- The master end's turn (R191, R192): its series value is the negation of the slave's `nbr_phase` (log entry 170); it sends
Sync, and Announce once a second. Its d_down follows from the last r and the pair's α as the master end applies it (R194). -/
def State.masterEndTurn (p : Nat) (s : State) : State :=
  let t := (s.port p).trunk
  let s1 := match t.nbr with
    | some (_, h) => if h.nbrPhaseValid then s.seriesValue p (-h.nbrPhase) false else s
    | none => s
  let (seq, s2) := s1.ptpSequence p 0
  let s3 := (s2.updTrunk p (fun t => { t with down := downOf t.rtt (s2.banks.active.appliedAlpha p false) })).trunkSend p 12 0 44 (s2.ptpHead p 0 seq) true
  if s3.time.tick < t.annAt then s3
  else
    let (k, s4) := s3.ptpSequence p 11
    (s4.updTrunk p (fun t => { t with annAt := s4.time.tick + tickS })).trunkSend p 14 11 64 (s4.ptpHead p 11 k ++ s4.rootAnnounce) false

/-- The L1_SYNC TLV this end sends (R190; PRESUMED, log entry 195): txCoherent, rxCoherent and congruent required, no optional
parameters; the transmit clock is coherent with the time base (R188), the receive clock coherent and congruent while it is
locked. -/
def Trunk.l1Sync (t : Trunk) : Fields :=
  [(16, 0x8001), (16, 2), fb true, fb true, fb true, rz 5, fb true, fb t.l1Locked, fb t.l1Locked, rz 5]

/-- Each second a trunk port sends the far end its L1SYNC message (R190, log entry 195). -/
def State.l1syncTurn (p : Nat) (s : State) : State :=
  let t := (s.port p).trunk
  if s.time.tick < t.l1At then s
  else
    let (k, s1) := s.ptpSequence p 12
    (s1.updTrunk p (fun t => { t with l1At := s.time.tick + tickS })).trunkSend p 14 12 50 (s1.ptpHead p 12 k ++ t.l1Sync) false

/-- A trunk port's turn, every 125 ms (R190, R191). -/
def State.exchangeTurn (p : Nat) (moves : List Int) (s : State) : State :=
  if !s.runsExchange p ∨ s.time.tick < (s.port p).trunk.turnAt then s
  else
    let s1 := (s.updTrunk p (fun t => { t with turnAt := s.time.tick + 125 * tickMs })).l1syncTurn p
    if s1.slaveEnd p then s1.slaveEndTurn p moves else s1.masterEndTurn p

/-- Is r a phase hit against the r before it (R193). -/
def rttHit (old : Option Int) (r : Int) : Bool :=
  old.elim false (fun x => decide (10 * uNs < ((r - x).natAbs : Int))) || decide (400000 * uNs < r)

/-- A Sync and Delay_Req pair is complete (R192): r, d_down and e. An r that is a hit leaves the one before it to be compared
with until the third hit in a row (R193; log entry 177). -/
def State.pairDone (p : Nat) (t1 t2 t3 t4 : Int) (s : State) : State :=
  let t := (s.port p).trunk
  let r := (t4 - t1) - (t3 - t2)
  let dn := downOf r (s.banks.active.appliedAlpha p true)
  let hit := rttHit t.prevRtt r
  s.updTrunk p (fun t => { t with
    rtt := r, down := dn, prevRtt := if hit ∧ t.series.hitRun < 2 then t.prevRtt else some r
    pair := { t.pair with e := some ((t1 + dn) - t2), forced := t.pair.forced || hit, t3 := none } })

/-- A Delay_Req is answered by the master end with its ingress stamp (R191; 09_time_service.md R282). -/
def State.trunkDelayResp (p : Nat) (m : PtpMsg) (s : State) : State :=
  let t := Time96.ofUnits (s.rxStamp p m.phase m.lane)
  s.trunkSend p 14 9 54 (s.ptpHead p 9 m.seq ++ [(48, t.sec), (32, t.ns), fi 64 (m.correction + t.sub), (64, m.identity), (16, m.srcPort)]) true

/-- A message of the exchange is received on a trunk port: in `ptp_domain`, and intact under the domain key (R191). No
decision reads an Announce. -/
def State.exchangeTake (p : Nat) (m : PtpMsg) (s : State) : State :=
  if !s.runsExchange p ∨ m.domain ≠ s.ptpDomainOf p ∨ !PtpMsg.l2 m ∨ !s.ptpIntact m then s
  else
    let x := (s.port p).trunk.pair
    if m.msg = 1 then (if s.slaveEnd p then s else s.trunkDelayResp p m)
    else if !s.slaveEnd p then s
    else if m.msg = 0 then s.updTrunk p (fun t => { t with pair := t.pair.onSync m (s.rxStamp p m.phase m.lane) s.time.stepSum })
    else if m.msg = 9 ∧ s.answersPair p x m then
      match x.stamps with
      | some (t1, t2, t3) => s.pairDone p t1 t2 t3 (m.timestamp + m.correction)
      | none => s
    else s

/-- The exchange of a trunk port (R191, R192): the port takes the message heard, or it is the port's turn. A
complete pair yields a phase value for the series. -/
def execTrunkExchange (dt port : Nat) (heard : Bool) (m : PtpMsg) (phase lane : Nat) (moves : List Int) (s : State) :
    Host.Outcome State Fault Refusal :=
  withPort port (s.advance dt) (fun s1 =>
    State.settleTiming s1 (if heard then s1.exchangeTake port { m with port := port, phase := phase, lane := lane }
      else s1.exchangeTurn port moves))

/-- An ESMC PDU is sent each second, or at once on a change of the quality level (R189). The slow protocol PDU of 64 bytes counts as a
transmitted frame (10_port_macs.md R328; its length and destination: PRESUMED, log 211). -/
def execEsmcSend (dt port : Nat) (s : State) : Host.Outcome State Fault Refusal :=
  withPort port (s.advance dt) (fun s1 =>
    let t := (s1.port port).trunk
    let ql := s1.qualityLevel
    if s1.banks.active.esmcTx port ∧ (s1.port port).link = .up
        ∧ (ql ≠ t.esmcSent ∨ t.esmcTxAt.elim true (fun x => decide (x + tickS ≤ s1.time.tick))) then
      ((s1.updTrunk port (fun t => { t with esmcSent := ql, esmcTxAt := some s1.time.tick })).countTx port 0x0180C2000002 64).emit (.frame port .esmc [(4, ql)])
    else s1)

end Sys2Proof.Machine
end

