-- ==== Sys2Proof/Machine/Dispatch.lean ====
section
/-!
DEFINITION. One arm per command of the opcode table; every arm is one direct call of that command's meaning.
-/
namespace Sys2Proof.Machine

def exec (i : Instr) (s : State) : Host.Outcome State Fault Refusal :=
  match i with
  | .sysInfo q => Sys2Proof.Machine.execSysInfo q s
  | .sysPaceSet q => Sys2Proof.Machine.execSysPaceSet q s
  | .sysPaceGet q => Sys2Proof.Machine.execSysPaceGet q s
  | .sysAttendCancel q => Sys2Proof.Machine.execSysAttendCancel q s
  | .sysInbandSet q => Sys2Proof.Machine.execSysInbandSet q s
  | .sysInbandSend q => Sys2Proof.Machine.execSysInbandSend q s
  | .sysWindowRead q => Sys2Proof.Machine.execSysWindowRead q s
  | .sysWindowWrite q => Sys2Proof.Machine.execSysWindowWrite q s
  | .sysFwWrite q => Sys2Proof.Machine.execSysFwWrite q s
  | .sysFwActivate q => Sys2Proof.Machine.execSysFwActivate q s
  | .sysSealProvision q => Sys2Proof.Machine.execSysSealProvision q s
  | .sysFactoryDefault q => Sys2Proof.Machine.execSysFactoryDefault q s
  | .sysTraceRead q => Sys2Proof.Machine.execSysTraceRead q s
  | .bankStatus q => Sys2Proof.Machine.execBankStatus q s
  | .bankSeed q => Sys2Proof.Machine.execBankSeed q s
  | .bankValidate q => Sys2Proof.Machine.execBankValidate q s
  | .bankTag q => Sys2Proof.Machine.execBankTag q s
  | .equinoxLocal q => Sys2Proof.Machine.execEquinoxLocal q s
  | .equinoxCancel q => Sys2Proof.Machine.execEquinoxCancel q s
  | .equinoxDomainStart q => Sys2Proof.Machine.execEquinoxDomainStart q s
  | .equinoxDomainCancel q => Sys2Proof.Machine.execEquinoxDomainCancel q s
  | .equinoxResultGet q => Sys2Proof.Machine.execEquinoxResultGet q s
  | .portConfigSet q => Sys2Proof.Machine.execPortConfigSet q s
  | .portConfigGet q => Sys2Proof.Machine.execPortConfigGet q s
  | .portStatus q => Sys2Proof.Machine.execPortStatus q s
  | .portStats q => Sys2Proof.Machine.execPortStats q s
  | .hostRingSet q => Sys2Proof.Machine.execHostRingSet q s
  | .hostCounters q => Sys2Proof.Machine.execHostCounters q s
  | .vlanSet q => Sys2Proof.Machine.execVlanSet q s
  | .portFwdSet q => Sys2Proof.Machine.execPortFwdSet q s
  | .portStateSet q => Sys2Proof.Machine.execPortStateSet q s
  | .macStaticSet q => Sys2Proof.Machine.execMacStaticSet q s
  | .macFlush q => Sys2Proof.Machine.execMacFlush q s
  | .macLookup q => Sys2Proof.Machine.execMacLookup q s
  | .flowRuleSet q => Sys2Proof.Machine.execFlowRuleSet q s
  | .mcastGroupSet q => Sys2Proof.Machine.execMcastGroupSet q s
  | .queueSet q => Sys2Proof.Machine.execQueueSet q s
  | .rsvSet q => Sys2Proof.Machine.execRsvSet q s
  | .mirrorSet q => Sys2Proof.Machine.execMirrorSet q s
  | .switchConfigGet q => Sys2Proof.Machine.execSwitchConfigGet q s
  | .switchStatus q => Sys2Proof.Machine.execSwitchStatus q s
  | .switchCounters q => Sys2Proof.Machine.execSwitchCounters q s
  | .timeGet q => Sys2Proof.Machine.execTimeGet q s
  | .timeSetFreq q => Sys2Proof.Machine.execTimeSetFreq q s
  | .timeAdjPhase q => Sys2Proof.Machine.execTimeAdjPhase q s
  | .timeStep q => Sys2Proof.Machine.execTimeStep q s
  | .leapTableSet q => Sys2Proof.Machine.execLeapTableSet q s
  | .leapTableGet q => Sys2Proof.Machine.execLeapTableGet q s
  | .stampLatencySet q => Sys2Proof.Machine.execStampLatencySet q s
  | .stampLatencyGet q => Sys2Proof.Machine.execStampLatencyGet q s
  | .stampRingSet q => Sys2Proof.Machine.execStampRingSet q s
  | .stampCounters q => Sys2Proof.Machine.execStampCounters q s
  | .measChannelSet q => Sys2Proof.Machine.execMeasChannelSet q s
  | .measChannelGet q => Sys2Proof.Machine.execMeasChannelGet q s
  | .measStart q => Sys2Proof.Machine.execMeasStart q s
  | .measStop q => Sys2Proof.Machine.execMeasStop q s
  | .measResultGet q => Sys2Proof.Machine.execMeasResultGet q s
  | .measCalGet q => Sys2Proof.Machine.execMeasCalGet q s
  | .measCalRun q => Sys2Proof.Machine.execMeasCalRun q s
  | .ocxoStatus q => Sys2Proof.Machine.execOcxoStatus q s
  | .refConfigSet q => Sys2Proof.Machine.execRefConfigSet q s
  | .refConfigGet q => Sys2Proof.Machine.execRefConfigGet q s
  | .refStatus q => Sys2Proof.Machine.execRefStatus q s
  | .selModeSet q => Sys2Proof.Machine.execSelModeSet q s
  | .selStatus q => Sys2Proof.Machine.execSelStatus q s
  | .loopSet q => Sys2Proof.Machine.execLoopSet q s
  | .timingPolicySet q => Sys2Proof.Machine.execTimingPolicySet q s
  | .timingPolicyGet q => Sys2Proof.Machine.execTimingPolicyGet q s
  | .outputSet q => Sys2Proof.Machine.execOutputSet q s
  | .outputGet q => Sys2Proof.Machine.execOutputGet q s
  | .holdoverStatus q => Sys2Proof.Machine.execHoldoverStatus q s
  | .gnssConfigSet q => Sys2Proof.Machine.execGnssConfigSet q s
  | .gnssConfigGet q => Sys2Proof.Machine.execGnssConfigGet q s
  | .gnssStatus q => Sys2Proof.Machine.execGnssStatus q s
  | .gnssSatList q => Sys2Proof.Machine.execGnssSatList q s
  | .gnssSurveyRestart q => Sys2Proof.Machine.execGnssSurveyRestart q s
  | .gnssReset q => Sys2Proof.Machine.execGnssReset q s
  | .domainConfigSet q => Sys2Proof.Machine.execDomainConfigSet q s
  | .domainConfigGet q => Sys2Proof.Machine.execDomainConfigGet q s
  | .portTimingSet q => Sys2Proof.Machine.execPortTimingSet q s
  | .fibrePairSet q => Sys2Proof.Machine.execFibrePairSet q s
  | .trunkStatus q => Sys2Proof.Machine.execTrunkStatus q s
  | .domainStatus q => Sys2Proof.Machine.execDomainStatus q s
  | .linkCalRun q => Sys2Proof.Machine.execLinkCalRun q s
  | .domainMembers q => Sys2Proof.Machine.execDomainMembers q s
  | .cueAdd q => Sys2Proof.Machine.execCueAdd q s
  | .cueCancel q => Sys2Proof.Machine.execCueCancel q s
  | .cueList q => Sys2Proof.Machine.execCueList q s
  | .cueStatus q => Sys2Proof.Machine.execCueStatus q s
  | .cueDomainAnnounce q => Sys2Proof.Machine.execCueDomainAnnounce q s
  | .cueDomainCancel q => Sys2Proof.Machine.execCueDomainCancel q s
  | .captureRingSet q => Sys2Proof.Machine.execCaptureRingSet q s
  | .cueFrameWrite q => Sys2Proof.Machine.execCueFrameWrite q s
  | .cueDomainResultGet q => Sys2Proof.Machine.execCueDomainResultGet q s
  | .tsConfigSet q => Sys2Proof.Machine.execTsConfigSet q s
  | .tsConfigGet q => Sys2Proof.Machine.execTsConfigGet q s
  | .tsAddrSet q => Sys2Proof.Machine.execTsAddrSet q s
  | .tsPrefixSet q => Sys2Proof.Machine.execTsPrefixSet q s
  | .tsPolicySet q => Sys2Proof.Machine.execTsPolicySet q s
  | .ptpPortSet q => Sys2Proof.Machine.execPtpPortSet q s
  | .tsStatus q => Sys2Proof.Machine.execTsStatus q s
  | .tsCounters q => Sys2Proof.Machine.execTsCounters q s
  | .tsLedgerGet q => Sys2Proof.Machine.execTsLedgerGet q s
  | .tsLedgerFlush q => Sys2Proof.Machine.execTsLedgerFlush q s
  | .ntsCookieIssue q => Sys2Proof.Machine.execNtsCookieIssue q s
  | .keyInfo q => Sys2Proof.Machine.execKeyInfo q s
  | .keyImport q => Sys2Proof.Machine.execKeyImport q s
  | .keyGenerate q => Sys2Proof.Machine.execKeyGenerate q s
  | .keyDelete q => Sys2Proof.Machine.execKeyDelete q s
  | .keyNtsInit q => Sys2Proof.Machine.execKeyNtsInit q s
  | .keyPolicySet q => Sys2Proof.Machine.execKeyPolicySet q s
  | .keyPolicyGet q => Sys2Proof.Machine.execKeyPolicyGet q s
  | .bnOp q => Sys2Proof.Machine.execBnOp q s
  | .bnAbort q => Sys2Proof.Machine.execBnAbort q s
  | .bnEnable q => Sys2Proof.Machine.execBnEnable q s
  | .cryptoStatus q => Sys2Proof.Machine.execCryptoStatus q s
  | .memStatus q => Sys2Proof.Machine.execMemStatus q s
  | .memPolicySet q => Sys2Proof.Machine.execMemPolicySet q s
  | .memScrub q => Sys2Proof.Machine.execMemScrub q s
  | .memCounters q => Sys2Proof.Machine.execMemCounters q s
  | .memRetiredList q => Sys2Proof.Machine.execMemRetiredList q s
  | .memFlashStatus q => Sys2Proof.Machine.execMemFlashStatus q s
  | .memSramFlags q => Sys2Proof.Machine.execMemSramFlags q s
  | .memFlipArm q => Sys2Proof.Machine.execMemFlipArm q s
  | .memFuseProgram q => Sys2Proof.Machine.execMemFuseProgram q s
  | .faultStatus q => Sys2Proof.Machine.execFaultStatus q s
  | .faultLedgerRead q => Sys2Proof.Machine.execFaultLedgerRead q s
  | .faultClear q => Sys2Proof.Machine.execFaultClear q s
  | .faultPolicySet q => Sys2Proof.Machine.execFaultPolicySet q s
  | .midwinterInfo q => Sys2Proof.Machine.execMidwinterInfo q s
  | .midwinterRead q => Sys2Proof.Machine.execMidwinterRead q s
  | .midwinterRelease q => Sys2Proof.Machine.execMidwinterRelease q s
  | .faultInject q => Sys2Proof.Machine.execFaultInject q s
  | .platStatus q => Sys2Proof.Machine.execPlatStatus q s
  | .platSupplySet q => Sys2Proof.Machine.execPlatSupplySet q s
  | .platReset q => Sys2Proof.Machine.execPlatReset q s
  | .platMarchLog q => Sys2Proof.Machine.execPlatMarchLog q s
  | .timeSnapCapture dt => Sys2Proof.Machine.execTimeSnapCapture dt s
  | .intStatusClear dt value => Sys2Proof.Machine.execIntStatusClear dt value s
  | .intMaskWrite dt value => Sys2Proof.Machine.execIntMaskWrite dt value s
  | .evtTailWrite dt value => Sys2Proof.Machine.execEvtTailWrite dt value s
  | .evtLostRead dt => Sys2Proof.Machine.execEvtLostRead dt s
  | .strayPressesRead dt => Sys2Proof.Machine.execStrayPressesRead dt s
  | .hportTxTailWrite dt ring value => Sys2Proof.Machine.execHportTxTailWrite dt ring value s
  | .hportRxTailWrite dt ring value => Sys2Proof.Machine.execHportRxTailWrite dt ring value s
  | .registerWrite dt offset access value => Sys2Proof.Machine.execRegisterWrite dt offset access value s
  | .pcieLinkReset dt kind frames => Sys2Proof.Machine.execPcieLinkReset dt kind frames s
  | .perstNRelease dt => Sys2Proof.Machine.execPerstNRelease dt s
  | .pwrOkRise dt r => Sys2Proof.Machine.execPwrOkRise dt r s
  | .pwrOkFall dt => Sys2Proof.Machine.execPwrOkFall dt s
  | .resetNAssert dt service factory => Sys2Proof.Machine.execResetNAssert dt service factory s
  | .powerOnReset dt vsb service factory back => Sys2Proof.Machine.execPowerOnReset dt vsb service factory back s
  | .fullReset dt service factory => Sys2Proof.Machine.execFullReset dt service factory s
  | .supplyWarnSet dt r => Sys2Proof.Machine.execSupplyWarnSet dt r s
  | .supplyWarnClear dt r => Sys2Proof.Machine.execSupplyWarnClear dt r s
  | .railResetLevel dt r service factory => Sys2Proof.Machine.execRailResetLevel dt r service factory s
  | .thermalTrip dt tj service factory => Sys2Proof.Machine.execThermalTrip dt tj service factory s
  | .thermalRelease dt tj => Sys2Proof.Machine.execThermalRelease dt tj s
  | .supplyRestart dt r => Sys2Proof.Machine.execSupplyRestart dt r s
  | .marchStep dt => Sys2Proof.Machine.execMarchStep dt s
  | .bootImageSelect dt => Sys2Proof.Machine.execBootImageSelect dt s
  | .fwStarted dt => Sys2Proof.Machine.execFwStarted dt s
  | .imageConfirm dt => Sys2Proof.Machine.execImageConfirm dt s
  | .presentPressStart pin => Sys2Proof.Machine.execPresentPressStart pin s
  | .presentRelease pin => Sys2Proof.Machine.execPresentRelease pin s
  | .pressQualified dt => Sys2Proof.Machine.execPressQualified dt s
  | .attendWindowExpire dt => Sys2Proof.Machine.execAttendWindowExpire dt s
  | .attendActionResume dt => Sys2Proof.Machine.execAttendActionResume dt s
  | .sealBreak dt => Sys2Proof.Machine.execSealBreak dt s
  | .keyMirrorErase dt => Sys2Proof.Machine.execKeyMirrorErase dt s
  | .paceGateClose dt readings tj => Sys2Proof.Machine.execPaceGateClose dt readings tj s
  | .timeStepApply dt => Sys2Proof.Machine.execTimeStepApply dt s
  | .slewStart dt => Sys2Proof.Machine.execSlewStart dt s
  | .slewEnd dt => Sys2Proof.Machine.execSlewEnd dt s
  | .leapApplied dt => Sys2Proof.Machine.execLeapApplied dt s
  | .leapPendingStart dt => Sys2Proof.Machine.execLeapPendingStart dt s
  | .leapTablePersist dt => Sys2Proof.Machine.execLeapTablePersist dt s
  | .frameReceive dt port phase lane f => Sys2Proof.Machine.execFrameReceive dt port phase lane f s
  | .classificationPass dt port => Sys2Proof.Machine.execClassificationPass dt port s
  | .learningWrite dt => Sys2Proof.Machine.execLearningWrite dt s
  | .liveEditAck dt => Sys2Proof.Machine.execLiveEditAck dt s
  | .macAging dt => Sys2Proof.Machine.execMacAging dt s
  | .snoopPacket dt port vlan kind ms v6 groups => Sys2Proof.Machine.execSnoopPacket dt port vlan kind ms v6 groups s
  | .snoopLapse dt => Sys2Proof.Machine.execSnoopLapse dt s
  | .egressDecision dt turn => Sys2Proof.Machine.execEgressDecision dt turn s
  | .preemptCut dt port => Sys2Proof.Machine.execPreemptCut dt port s
  | .bookedSlotBook dt port phase => Sys2Proof.Machine.execBookedSlotBook dt port phase s
  | .bookedSlotLaunch dt turn => Sys2Proof.Machine.execBookedSlotLaunch dt turn s
  | .bookedSlotLost dt port late => Sys2Proof.Machine.execBookedSlotLost dt port late s
  | .guardBandOpen dt port => Sys2Proof.Machine.execGuardBandOpen dt port s
  | .pauseReceive dt port f => Sys2Proof.Machine.execPauseReceive dt port f s
  | .pauseTimerExpire dt port => Sys2Proof.Machine.execPauseTimerExpire dt port s
  | .pauseGenerate dt port => Sys2Proof.Machine.execPauseGenerate dt port s
  | .verifySend dt port => Sys2Proof.Machine.execVerifySend dt port s
  | .verifyTimeout dt port => Sys2Proof.Machine.execVerifyTimeout dt port s
  | .respondReceive dt port => Sys2Proof.Machine.execRespondReceive dt port s
  | .verifyReceive dt port => Sys2Proof.Machine.execVerifyReceive dt port s
  | .fragmentReceive dt port phase lane bytes count start mcrc last => Sys2Proof.Machine.execFragmentReceive dt port phase lane bytes count start mcrc last s
  | .linkLoss dt port cause => Sys2Proof.Machine.execLinkLoss dt port cause s
  | .linkUp dt port skew => Sys2Proof.Machine.execLinkUp dt port skew s
  | .linkHoldExpire dt port => Sys2Proof.Machine.execLinkHoldExpire dt port s
  | .portQuiescent dt port => Sys2Proof.Machine.execPortQuiescent dt port s
  | .hostTxDescriptor dt ring d f => Sys2Proof.Machine.execHostTxDescriptor dt ring d f s
  | .hostRxDeliver dt ring => Sys2Proof.Machine.execHostRxDeliver dt ring s
  | .hostRingQuiescent dt ring frames => Sys2Proof.Machine.execHostRingQuiescent dt ring frames s
  | .stampRingQuiescent dt => Sys2Proof.Machine.execStampRingQuiescent dt s
  | .mirrorQuiescent dt session => Sys2Proof.Machine.execMirrorQuiescent dt session s
  | .tdcEdge dt ch n k => Sys2Proof.Machine.execTdcEdge dt ch n k s
  | .calTableComplete dt ch hits => Sys2Proof.Machine.execCalTableComplete dt ch hits s
  | .regressionGateClose dt job => Sys2Proof.Machine.execRegressionGateClose dt job s
  | .measChannelQuiescent dt ch => Sys2Proof.Machine.execMeasChannelQuiescent dt ch s
  | .measJobQuiescent dt job => Sys2Proof.Machine.execMeasJobQuiescent dt job s
  | .ocxoWarmChange dt devMk heaterMw => Sys2Proof.Machine.execOcxoWarmChange dt devMk heaterMw s
  | .refEvaluation dt ref => Sys2Proof.Machine.execRefEvaluation dt ref s
  | .refLos dt ref => Sys2Proof.Machine.execRefLos dt ref s
  | .refPhaseHit dt ref => Sys2Proof.Machine.execRefPhaseHit dt ref s
  | .refSourceStatusFail dt ref => Sys2Proof.Machine.execRefSourceStatusFail dt ref s
  | .refSelect dt => Sys2Proof.Machine.execRefSelect dt s
  | .waitToRestoreExpire dt => Sys2Proof.Machine.execWaitToRestoreExpire dt s
  | .loopUpdate dt => Sys2Proof.Machine.execLoopUpdate dt s
  | .lockAchieved dt => Sys2Proof.Machine.execLockAchieved dt s
  | .holdoverSample dt theta => Sys2Proof.Machine.execHoldoverSample dt theta s
  | .holdoverWrite dt theta => Sys2Proof.Machine.execHoldoverWrite dt theta s
  | .autoStepTest dt => Sys2Proof.Machine.execAutoStepTest dt s
  | .refQuiescent dt ref => Sys2Proof.Machine.execRefQuiescent dt ref s
  | .outputEdge dt output => Sys2Proof.Machine.execOutputEdge dt output s
  | .outputQuiescent dt output => Sys2Proof.Machine.execOutputQuiescent dt output s
  | .toutMonitorCheck dt output counted => Sys2Proof.Machine.execToutMonitorCheck dt output counted s
  | .todSentenceSend dt => Sys2Proof.Machine.execTodSentenceSend dt s
  | .todSentenceReceive dt chars => Sys2Proof.Machine.execTodSentenceReceive dt chars s
  | .gnssEpoch dt e => Sys2Proof.Machine.execGnssEpoch dt e s
  | .gnssIndicator dt => Sys2Proof.Machine.execGnssIndicator dt s
  | .gnssSignalLoss dt => Sys2Proof.Machine.execGnssSignalLoss dt s
  | .gnssSurveyDone dt => Sys2Proof.Machine.execGnssSurveyDone dt s
  | .gnssBackgroundFix dt x y z => Sys2Proof.Machine.execGnssBackgroundFix dt x y z s
  | .gnssDisqualify dt => Sys2Proof.Machine.execGnssDisqualify dt s
  | .gnssRecover dt => Sys2Proof.Machine.execGnssRecover dt s
  | .gnssAntenna dt ma held => Sys2Proof.Machine.execGnssAntenna dt ma held s
  | .gnssQuiescent dt => Sys2Proof.Machine.execGnssQuiescent dt s
  | .helloSend dt => Sys2Proof.Machine.execHelloSend dt s
  | .hello dt f => Sys2Proof.Machine.execHello dt f s
  | .heartbeatStale dt => Sys2Proof.Machine.execHeartbeatStale dt s
  | .membersSend dt => Sys2Proof.Machine.execMembersSend dt s
  | .members dt f => Sys2Proof.Machine.execMembers dt f s
  | .dupIdClear dt => Sys2Proof.Machine.execDupIdClear dt s
  | .trunkExchange dt port heard m phase lane moves => Sys2Proof.Machine.execTrunkExchange dt port heard m phase lane moves s
  | .trunkState dt port => Sys2Proof.Machine.execTrunkState dt port s
  | .l1syncChange dt port x => Sys2Proof.Machine.execL1syncChange dt port x s
  | .domainQuiescent dt => Sys2Proof.Machine.execDomainQuiescent dt s
  | .linkCalGateClose dt => Sys2Proof.Machine.execLinkCalGateClose dt s
  | .esmcSend dt port => Sys2Proof.Machine.execEsmcSend dt port s
  | .esmcReceive dt port ql => Sys2Proof.Machine.execEsmcReceive dt port ql s
  | .cueAnnounce dt f => Sys2Proof.Machine.execCueAnnounce dt f s
  | .cueCancelFrame dt f => Sys2Proof.Machine.execCueCancelFrame dt f s
  | .cueAck dt f => Sys2Proof.Machine.execCueAck dt f s
  | .cueAckSend dt => Sys2Proof.Machine.execCueAckSend dt s
  | .cuePrefetchStart dt => Sys2Proof.Machine.execCuePrefetchStart dt s
  | .cuePrefetchDeadline dt => Sys2Proof.Machine.execCuePrefetchDeadline dt s
  | .cueHandover dt => Sys2Proof.Machine.execCueHandover dt s
  | .cueExecute dt => Sys2Proof.Machine.execCueExecute dt s
  | .captureRingQuiescent dt => Sys2Proof.Machine.execCaptureRingQuiescent dt s
  | .prepare dt f => Sys2Proof.Machine.execPrepare dt f s
  | .ready dt f => Sys2Proof.Machine.execReady dt f s
  | .arm dt f => Sys2Proof.Machine.execArm dt f s
  | .armed dt f => Sys2Proof.Machine.execArmed dt f s
  | .equinoxCancelFrame dt f => Sys2Proof.Machine.execEquinoxCancelFrame dt f s
  | .cancelAck dt f => Sys2Proof.Machine.execCancelAck dt f s
  | .roundUpSend dt => Sys2Proof.Machine.execRoundUpSend dt s
  | .rootRoundAdvance dt => Sys2Proof.Machine.execRootRoundAdvance dt s
  | .equinoxMissed dt => Sys2Proof.Machine.execEquinoxMissed dt s
  | .equinoxPreloadDone dt => Sys2Proof.Machine.execEquinoxPreloadDone dt s
  | .equinoxCommit dt => Sys2Proof.Machine.execEquinoxCommit dt s
  | .bankDrained dt => Sys2Proof.Machine.execBankDrained dt s
  | .bankReseedDone dt => Sys2Proof.Machine.execBankReseedDone dt s
  | .bankPersisted dt => Sys2Proof.Machine.execBankPersisted dt s
  | .bankLostLoad dt headers => Sys2Proof.Machine.execBankLostLoad dt headers s
  | .inbandRequest dt f => Sys2Proof.Machine.execInbandRequest dt f s
  | .inbandResponse dt f => Sys2Proof.Machine.execInbandResponse dt f s
  | .inbandTimeout dt => Sys2Proof.Machine.execInbandTimeout dt s
  | .inbandQuiescent dt => Sys2Proof.Machine.execInbandQuiescent dt s
  | .ntpRequest dt r => Sys2Proof.Machine.execNtpRequest dt r s
  | .ntsRequest dt r => Sys2Proof.Machine.execNtsRequest dt r s
  | .denyRequest dt r => Sys2Proof.Machine.execDenyRequest dt r s
  | .serviceArp dt r => Sys2Proof.Machine.execServiceArp dt r s
  | .ptpEventMessage dt m => Sys2Proof.Machine.execPtpEventMessage dt m s
  | .ptpMessageSend dt port msg => Sys2Proof.Machine.execPtpMessageSend dt port msg s
  | .ptpForeignMaster dt m => Sys2Proof.Machine.execPtpForeignMaster dt m s
  | .ptpSlaveAnnounce dt port m => Sys2Proof.Machine.execPtpSlaveAnnounce dt port m s
  | .ptpAnnounceTimeout dt => Sys2Proof.Machine.execPtpAnnounceTimeout dt s
  | .unicastNegotiation dt m => Sys2Proof.Machine.execUnicastNegotiation dt m s
  | .grantExpire dt => Sys2Proof.Machine.execGrantExpire dt s
  | .pdelayMeasure dt port heard m phase lane => Sys2Proof.Machine.execPdelayMeasure dt port heard m phase lane s
  | .cookieRotate dt => Sys2Proof.Machine.execCookieRotate dt s
  | .tsFunctionQuiescent dt => Sys2Proof.Machine.execTsFunctionQuiescent dt s
  | .ledgerFlushDone dt => Sys2Proof.Machine.execLedgerFlushDone dt s
  | .bnOpStart dt data => Sys2Proof.Machine.execBnOpStart dt data s
  | .bnOpRelease dt lane glitch late => Sys2Proof.Machine.execBnOpRelease dt lane glitch late s
  | .bnLaneZeroised dt lane => Sys2Proof.Machine.execBnLaneZeroised dt lane s
  | .bnDrainComplete dt => Sys2Proof.Machine.execBnDrainComplete dt s
  | .keyStoreWriteDone dt => Sys2Proof.Machine.execKeyStoreWriteDone dt s
  | .entropyHealth dt good => Sys2Proof.Machine.execEntropyHealth dt good s
  | .dramReadCorrect dt master region line soft stuck => Sys2Proof.Machine.execDramReadCorrect dt master region line soft stuck s
  | .repeatWindowExpire dt => Sys2Proof.Machine.execRepeatWindowExpire dt s
  | .dramErasureMark dt device => Sys2Proof.Machine.execDramErasureMark dt device s
  | .dramUncorrectableRead dt master region line soft stuck => Sys2Proof.Machine.execDramUncorrectableRead dt master region line soft stuck s
  | .pageRetire dt => Sys2Proof.Machine.execPageRetire dt s
  | .retirementPersist dt => Sys2Proof.Machine.execRetirementPersist dt s
  | .patrolLine dt soft stuck => Sys2Proof.Machine.execPatrolLine dt soft stuck s
  | .memScrubDone dt => Sys2Proof.Machine.execMemScrubDone dt s
  | .sramCorrect dt master array bank row word => Sys2Proof.Machine.execSramCorrect dt master array bank row word s
  | .sramUncorrectable dt master array bank row word a b => Sys2Proof.Machine.execSramUncorrectable dt master array bank row word a b s
  | .bankEntryRewrite dt => Sys2Proof.Machine.execBankEntryRewrite dt s
  | .flashRefreshScan dt part device page corrected ageDays lostSectors badBlocks => Sys2Proof.Machine.execFlashRefreshScan dt part device page corrected ageDays lostSectors badBlocks s
  | .flipMaskWrite dt data => Sys2Proof.Machine.execFlipMaskWrite dt data s
  | .faultEvent dt source master access address injected => Sys2Proof.Machine.execFaultEvent dt source master access address injected s
  | .faultServiced dt index => Sys2Proof.Machine.execFaultServiced dt index s
  | .faultWindowExpire dt => Sys2Proof.Machine.execFaultWindowExpire dt s
  | .faultQuietExpire dt => Sys2Proof.Machine.execFaultQuietExpire dt s
  | .sentinelTakeover dt source channel => Sys2Proof.Machine.execSentinelTakeover dt source channel s
  | .takeoverStartTimeout dt => Sys2Proof.Machine.execTakeoverStartTimeout dt s
  | .bankCheck dt same => Sys2Proof.Machine.execBankCheck dt same s
  | .midwinterStored dt bytes truncated => Sys2Proof.Machine.execMidwinterStored dt bytes truncated s
  | .midwinterSlotErase dt => Sys2Proof.Machine.execMidwinterSlotErase dt s
  | .coreException dt hasSource cmd => Sys2Proof.Machine.execCoreException dt hasSource cmd s
  | .resetNRelease dt => Sys2Proof.Machine.execResetNRelease dt s
  | .processorOnlyRestart dt => Sys2Proof.Machine.execProcessorOnlyRestart dt s
  | .pcieLinkUp dt link => Sys2Proof.Machine.execPcieLinkUp dt link s
  | .hportHoldoffExpire dt vector => Sys2Proof.Machine.execHportHoldoffExpire dt vector s
  | .sealClosedChange dt back => Sys2Proof.Machine.execSealClosedChange dt back s
  | .validationDone dt => Sys2Proof.Machine.execValidationDone dt s
  | .antennaBiasReapply dt ma => Sys2Proof.Machine.execAntennaBiasReapply dt ma s
  | .bar2Write dt offset access => Sys2Proof.Machine.execBar2Write dt offset access s

end Sys2Proof.Machine
end

