-- ==== Sys2Proof/Safety.lean ====
section
/-!
DEFINITION. What counts as a safe run, in the terms the statements use: a step that answers a next state, the canonical form
of a state, and what it means that firmware takes a request and answers it.
-/
namespace Sys2Proof.Machine

/-- The outcome is a next state. -/
def Completes (o : Host.Outcome State Fault Refusal) : Prop := ∃ t, o = .next t

/-- The outcome is a next state that satisfies `P`. -/
def CompletesWith (o : Host.Outcome State Fault Refusal) (P : State → Prop) : Prop := ∃ t, o = .next t ∧ P t

/-- The form every reachable state has: the host-visible window's bytes are in canonical form, and the reserved bits of
`INT_MASK` are 0 (12_command_interface.md R384, 00_scope.md R6). -/
def State.canonical (s : State) : Prop := Memory.wf s.mem.bytes = true ∧ s.intr.mask < 2 ^ 12

/-- The state in which a request of an opcode, written into mailbox `k`, is rung: the mailbox's area begins with it and the
mailbox is `BUSY` (12_command_interface.md R387, R388). -/
def State.rung (s : State) (opcode : Nat) (q : Req) (k : Nat) : State :=
  (s.updMailbox k (fun m => { m with area := areaWith opcode q m.area })).updMailbox k (fun m => { m with state := .busy })

/-- Answer a request of an opcode in mailbox `k` (R387, R388). -/
def State.reply (s : State) (opcode : Nat) (q : Req) (k status : Nat) (payload : Fields) : State :=
  s.writeResponse k q.quiet { opcode := opcode, seq := q.seq, status := status, payload := payload }

/-- The state after a request of an opcode was written into mailbox `k`, rung and answered there with a status and a payload,
nothing else having changed. -/
def State.answered (s : State) (opcode : Nat) (q : Req) (k status : Nat) (payload : Fields) : State :=
  (s.rung opcode q k).reply opcode q k status payload

/-- The request of an opcode left waiting as `w` (R393). -/
def State.aside (s : State) (opcode : Nat) (q : Req) (w : Wait) : State :=
  { s with tci := { s.tci with aside := s.tci.aside ++ [{ w with opcode := opcode, req := q }] } }

/-- The state after a request of an opcode was written into mailbox `k`, rung and left waiting as `w`. -/
def State.waiting (s : State) (opcode : Nat) (q : Req) (k : Nat) (w : Wait) : State := (s.rung opcode q k).aside opcode q w

/-- Stage one change of the shadow bank (13_configuration_banks.md R429). -/
def State.staged (s : State) (upd : Bank → Bank) : State :=
  { s with banks := { s.banks with
    shadow := upd s.banks.shadow, edits := (s.banks.edits + 1) % 2 ^ 32, validated := false, preloaded := false } }

/-- Between `s` and `t` an attended request of an opcode in mailbox `k` has opened the window for 60 s and answered
`ATTEND_PENDING`; nothing but the window, the mailbox, the event ring and the interrupts changed (R402, R403). -/
def Opened (opcode : Nat) (q : Req) (k : Nat) (s t : State) : Prop :=
  t = { s with win := t.win, tci := { s.tci with mbx := t.tci.mbx }, evt := t.evt, intr := t.intr, trace := t.trace }
  ∧ t.win.state = .opened ∧ t.win.mbx = k ∧ t.win.deadline = s.time.tick + 60 * tickS
  ∧ (∃ w, t.win.held = some w ∧ w.opcode = opcode ∧ w.req = q)
  ∧ (t.mailbox k).state = .pending
  ∧ (t.mailbox k).resp = some { opcode := opcode, interim := true, seq := q.seq, status := stAttendPending, payload := [] }

/-! ### What a shared operation may change, as the frames of the statements name it -/

/-- What raising interrupts may change: the status and what the vectors have signalled. -/
def IntrS.raisedTo (a b : IntrS) : IntrS := { a with status := b.status, lastVec := b.lastVec, delayed := b.delayed }

/-- What sending domain frames may change: the sequence and the frames that await their egress decision. -/
def DomS.sentTo (a b : DomS) : DomS := { a with txSeq := b.txSeq, queue := b.queue }

/-- What opening or closing the attended window may change. -/
def WinS.heldTo (a b : WinS) : WinS :=
  { a with
    state := b.state, mbx := b.mbx, deadline := b.deadline, held := b.held, pressIn := b.pressIn }

/-- What taking a request may change: everything of the interface but the commands lost when firmware stopped. -/
def TciS.servedTo (a b : TciS) : TciS := { b with lost := a.lost }

/-- What noting a fault may change: the ledger, its sources and the signals driven from it. -/
def FltS.notedTo (a b : FltS) : FltS :=
  { a with
    records := b.records, src := b.src, frozen := b.frozen, faultN := b.faultN, recoveries := b.recoveries
    ledgerFull := b.ledgerFull, nextOpen := b.nextOpen, takeRec := b.takeRec }

/-- What answering waiting commands may change: the mailboxes and the commands that wait. -/
def TciS.answeredTo (a b : TciS) : TciS := { a with mbx := b.mbx, aside := b.aside }

/-- What reading and storing window memory may change: its bytes, the state of its lines and the error records. -/
def MemS.storedTo (a b : MemS) : MemS :=
  { a with
    bytes := b.bytes, lines := b.lines, recent := b.recent, repeats := b.repeats, toRetire := b.toRetire, flip := b.flip
    counters := b.counters }

/-- What judging and selecting references may change of the selector. -/
def SelS.judgedTo (a b : SelS) : SelS :=
  { b with
    mode := a.mode, manual := a.manual, wtr := a.wtr, actMode := a.actMode, actManual := a.actManual, actWtr := a.actWtr
    loopHeld := a.loopHeld, integ := a.integ, everLocked := a.everLocked, yHist := a.yHist, lastUpdate := a.lastUpdate }

/-- What ending cue rows may change. -/
def CueS.endedTo (a b : CueS) : CueS :=
  { a with
    rows := b.rows, executed := b.executed, late := b.late, dropped := b.dropped, kept := b.kept }

/-- Firmware takes the request and its checks of R390 and R393 pass: it comes from mailbox `k` of the eight, which is `FREE` or
`DONE` and did not answer this sequence number last (R396); firmware is running; no check fails. -/
def Command.passes (c : Command) (q : Req) (k : Nat) (s : State) : Bool :=
  q.src == .host k && decide (k < 8) && (decide ((s.mailbox k).state = .free) || decide ((s.mailbox k).state = .done))
    && !(s.mailbox k).repeats q && s.fw.running && (c.refusal q (s.rung c.opcode q k)).isNone

/-- The request a command is, with the command's record: the rows of the Torvuth Command Interface. -/
def request : Instr → Option (Command × Req)
  | .sysInfo q => some (cmdSysInfo, q)
  | .sysPaceSet q => some (cmdSysPaceSet, q)
  | .sysPaceGet q => some (cmdSysPaceGet, q)
  | .sysAttendCancel q => some (cmdSysAttendCancel, q)
  | .sysInbandSet q => some (cmdSysInbandSet, q)
  | .sysInbandSend q => some (cmdSysInbandSend, q)
  | .sysWindowRead q => some (cmdSysWindowRead, q)
  | .sysWindowWrite q => some (cmdSysWindowWrite, q)
  | .sysFwWrite q => some (cmdSysFwWrite, q)
  | .sysFwActivate q => some (cmdSysFwActivate, q)
  | .sysSealProvision q => some (cmdSysSealProvision, q)
  | .sysFactoryDefault q => some (cmdSysFactoryDefault, q)
  | .sysTraceRead q => some (cmdSysTraceRead, q)
  | .bankStatus q => some (cmdBankStatus, q)
  | .bankSeed q => some (cmdBankSeed, q)
  | .bankValidate q => some (cmdBankValidate, q)
  | .bankTag q => some (cmdBankTag, q)
  | .equinoxLocal q => some (cmdEquinoxLocal, q)
  | .equinoxCancel q => some (cmdEquinoxCancel, q)
  | .equinoxDomainStart q => some (cmdEquinoxDomainStart, q)
  | .equinoxDomainCancel q => some (cmdEquinoxDomainCancel, q)
  | .equinoxResultGet q => some (cmdEquinoxResultGet, q)
  | .portConfigSet q => some (cmdPortConfigSet, q)
  | .portConfigGet q => some (cmdPortConfigGet, q)
  | .portStatus q => some (cmdPortStatus, q)
  | .portStats q => some (cmdPortStats, q)
  | .hostRingSet q => some (cmdHostRingSet, q)
  | .hostCounters q => some (cmdHostCounters, q)
  | .vlanSet q => some (cmdVlanSet, q)
  | .portFwdSet q => some (cmdPortFwdSet, q)
  | .portStateSet q => some (cmdPortStateSet, q)
  | .macStaticSet q => some (cmdMacStaticSet, q)
  | .macFlush q => some (cmdMacFlush, q)
  | .macLookup q => some (cmdMacLookup, q)
  | .flowRuleSet q => some (cmdFlowRuleSet, q)
  | .mcastGroupSet q => some (cmdMcastGroupSet, q)
  | .queueSet q => some (cmdQueueSet, q)
  | .rsvSet q => some (cmdRsvSet, q)
  | .mirrorSet q => some (cmdMirrorSet, q)
  | .switchConfigGet q => some (cmdSwitchConfigGet, q)
  | .switchStatus q => some (cmdSwitchStatus, q)
  | .switchCounters q => some (cmdSwitchCounters, q)
  | .timeGet q => some (cmdTimeGet, q)
  | .timeSetFreq q => some (cmdTimeSetFreq, q)
  | .timeAdjPhase q => some (cmdTimeAdjPhase, q)
  | .timeStep q => some (cmdTimeStep, q)
  | .leapTableSet q => some (cmdLeapTableSet, q)
  | .leapTableGet q => some (cmdLeapTableGet, q)
  | .stampLatencySet q => some (cmdStampLatencySet, q)
  | .stampLatencyGet q => some (cmdStampLatencyGet, q)
  | .stampRingSet q => some (cmdStampRingSet, q)
  | .stampCounters q => some (cmdStampCounters, q)
  | .measChannelSet q => some (cmdMeasChannelSet, q)
  | .measChannelGet q => some (cmdMeasChannelGet, q)
  | .measStart q => some (cmdMeasStart, q)
  | .measStop q => some (cmdMeasStop, q)
  | .measResultGet q => some (cmdMeasResultGet, q)
  | .measCalGet q => some (cmdMeasCalGet, q)
  | .measCalRun q => some (cmdMeasCalRun, q)
  | .ocxoStatus q => some (cmdOcxoStatus, q)
  | .refConfigSet q => some (cmdRefConfigSet, q)
  | .refConfigGet q => some (cmdRefConfigGet, q)
  | .refStatus q => some (cmdRefStatus, q)
  | .selModeSet q => some (cmdSelModeSet, q)
  | .selStatus q => some (cmdSelStatus, q)
  | .loopSet q => some (cmdLoopSet, q)
  | .timingPolicySet q => some (cmdTimingPolicySet, q)
  | .timingPolicyGet q => some (cmdTimingPolicyGet, q)
  | .outputSet q => some (cmdOutputSet, q)
  | .outputGet q => some (cmdOutputGet, q)
  | .holdoverStatus q => some (cmdHoldoverStatus, q)
  | .gnssConfigSet q => some (cmdGnssConfigSet, q)
  | .gnssConfigGet q => some (cmdGnssConfigGet, q)
  | .gnssStatus q => some (cmdGnssStatus, q)
  | .gnssSatList q => some (cmdGnssSatList, q)
  | .gnssSurveyRestart q => some (cmdGnssSurveyRestart, q)
  | .gnssReset q => some (cmdGnssReset, q)
  | .domainConfigSet q => some (cmdDomainConfigSet, q)
  | .domainConfigGet q => some (cmdDomainConfigGet, q)
  | .portTimingSet q => some (cmdPortTimingSet, q)
  | .fibrePairSet q => some (cmdFibrePairSet, q)
  | .trunkStatus q => some (cmdTrunkStatus, q)
  | .domainStatus q => some (cmdDomainStatus, q)
  | .linkCalRun q => some (cmdLinkCalRun, q)
  | .domainMembers q => some (cmdDomainMembers, q)
  | .cueAdd q => some (cmdCueAdd, q)
  | .cueCancel q => some (cmdCueCancel, q)
  | .cueList q => some (cmdCueList, q)
  | .cueStatus q => some (cmdCueStatus, q)
  | .cueDomainAnnounce q => some (cmdCueDomainAnnounce, q)
  | .cueDomainCancel q => some (cmdCueDomainCancel, q)
  | .captureRingSet q => some (cmdCaptureRingSet, q)
  | .cueFrameWrite q => some (cmdCueFrameWrite, q)
  | .cueDomainResultGet q => some (cmdCueDomainResultGet, q)
  | .tsConfigSet q => some (cmdTsConfigSet, q)
  | .tsConfigGet q => some (cmdTsConfigGet, q)
  | .tsAddrSet q => some (cmdTsAddrSet, q)
  | .tsPrefixSet q => some (cmdTsPrefixSet, q)
  | .tsPolicySet q => some (cmdTsPolicySet, q)
  | .ptpPortSet q => some (cmdPtpPortSet, q)
  | .tsStatus q => some (cmdTsStatus, q)
  | .tsCounters q => some (cmdTsCounters, q)
  | .tsLedgerGet q => some (cmdTsLedgerGet, q)
  | .tsLedgerFlush q => some (cmdTsLedgerFlush, q)
  | .ntsCookieIssue q => some (cmdNtsCookieIssue, q)
  | .keyInfo q => some (cmdKeyInfo, q)
  | .keyImport q => some (cmdKeyImport, q)
  | .keyGenerate q => some (cmdKeyGenerate, q)
  | .keyDelete q => some (cmdKeyDelete, q)
  | .keyNtsInit q => some (cmdKeyNtsInit, q)
  | .keyPolicySet q => some (cmdKeyPolicySet, q)
  | .keyPolicyGet q => some (cmdKeyPolicyGet, q)
  | .bnOp q => some (cmdBnOp, q)
  | .bnAbort q => some (cmdBnAbort, q)
  | .bnEnable q => some (cmdBnEnable, q)
  | .cryptoStatus q => some (cmdCryptoStatus, q)
  | .memStatus q => some (cmdMemStatus, q)
  | .memPolicySet q => some (cmdMemPolicySet, q)
  | .memScrub q => some (cmdMemScrub, q)
  | .memCounters q => some (cmdMemCounters, q)
  | .memRetiredList q => some (cmdMemRetiredList, q)
  | .memFlashStatus q => some (cmdMemFlashStatus, q)
  | .memSramFlags q => some (cmdMemSramFlags, q)
  | .memFlipArm q => some (cmdMemFlipArm, q)
  | .memFuseProgram q => some (cmdMemFuseProgram, q)
  | .faultStatus q => some (cmdFaultStatus, q)
  | .faultLedgerRead q => some (cmdFaultLedgerRead, q)
  | .faultClear q => some (cmdFaultClear, q)
  | .faultPolicySet q => some (cmdFaultPolicySet, q)
  | .midwinterInfo q => some (cmdMidwinterInfo, q)
  | .midwinterRead q => some (cmdMidwinterRead, q)
  | .midwinterRelease q => some (cmdMidwinterRelease, q)
  | .faultInject q => some (cmdFaultInject, q)
  | .platStatus q => some (cmdPlatStatus, q)
  | .platSupplySet q => some (cmdPlatSupplySet, q)
  | .platReset q => some (cmdPlatReset, q)
  | .platMarchLog q => some (cmdPlatMarchLog, q)
  | _ => none

end Sys2Proof.Machine
end

