-- ==== Sys2Proof/Certificates/Slice0/Obligations.lean ====
section
/-!
DEFINITION. The statements about this model that are to be proved. One statement covers a family of commands, case by case; a
command of the interface is spoken of when firmware takes it and its checks pass (`Command.passes`), an event of the part once
the time it states has passed (`s.advance dt = u`).
-/
open Sys2Proof Sys2Proof.Machine

/-- A step of a state with a command at the front of its queue is that command's effect on the state with the queue's rest
(log entry 1). -/
def Obligations.StepRunsFrontCommand : Prop :=
  ∀ (c : Instr) (s : State), step { s with pending := c :: s.pending } = exec c s

/-- With an empty queue one tick of `CLK_SYS` passes: the model's choice, log entry 2. -/
def Obligations.EmptyQueueTicks : Prop :=
  ∀ s : State, s.pending = [] → step s = .next (s.advance 1) ∧ (s.advance 1).time.tick = s.time.tick + 1

/-- What the registers of BAR0 read right after reset, where R384 gives a value. -/
def Obligations.ResetRegisters : Prop :=
  State.reset.register 0x1C = 0x0FFF ∧
  (∀ offset ∈ [0x04, 0x14, 0x18, 0x20, 0x24, 0x28, 0x2C, 0x30, 0x34, 0x38, 0x3C, 0x50, 0x54, 0x58, 0x70, 0x80, 0x84, 0x88, 0x8C, 0x90,
      0x94, 0x98, 0x9C], State.reset.register offset = 0) ∧
  bit (State.reset.register 0x08) 0 = false ∧ bit (State.reset.register 0x08) 4 = false ∧
  bits (State.reset.register 0x64) 0 3 = 0 ∧ bit (State.reset.register 0x64) 4 = false ∧
  bits (State.reset.register 0x64) 8 7 = 0 ∧ bits (State.reset.register 0x64) 16 16 = 0 ∧
  bits (State.reset.register 0x68) 0 6 = 0 ∧ bits (State.reset.register 0x68) 16 16 = 0 ∧ State.reset.pending = []

/-- The state after reset has the canonical form. -/
def Obligations.ResetIsCanonical : Prop :=
  State.canonical State.reset

/-- Every step keeps the canonical form: reserved bits of `INT_MASK` read 0 (R6) and the window memory stays canonical. -/
def Obligations.StepKeepsCanonical : Prop :=
  ∀ s t : State, s.canonical → step s = .next t → t.canonical

/-- No command changes the queue: its effect is on everything but the commands that wait (log entry 1). -/
def Obligations.CommandsKeepQueue : Prop :=
  ∀ (c : Instr) (s t : State), exec c s = .next t → t.pending = s.pending

/-- The request a mailbox area holds is the request the host wrote, field by field (R387). -/
def Obligations.RequestRoundTrip : Prop :=
  ∀ (k op area : Nat) (q : Req), op < 2 ^ 16 → q.src = .host k → q.seq < 2 ^ 16 → q.len < 2 ^ 16 → q.rsv < 2 ^ 77 →
    q.payload < 2 ^ (8 * q.len) →
    (reqOf k (areaWith op q area)).1 = op ∧
    { (reqOf k (areaWith op q area)).2 with payload := (reqOf k (areaWith op q area)).2.body } = q

/-- Every well-formed command answers a next state: nothing the part can be told to do stops the model. -/
def Obligations.WellFormedCommandsComplete : Prop :=
  ∀ (c : Instr) (s : State), c.wf = true → Completes (exec c s)

/-- A command that names a unit the part does not have stops with the fault `noSuchUnit`: the model's reading, log entry 11. -/
def Obligations.UnknownUnitsFault : Prop :=
  (∀ (c : Instr) (cmd : Command) (q : Req) (k : Nat) (s : State), request c = some (cmd, q) → q.src = .host k → 8 ≤ k →
      exec c s = .fault .noSuchUnit) ∧
  (∀ (c : Instr) (cmd : Command) (q : Req) (p origin txn : Nat) (s : State), request c = some (cmd, q) → q.src = .inband p origin txn → 56 ≤ p →
      exec c s = .fault .noSuchUnit) ∧
  (∀ (dt ring value : Nat) (s : State), 4 ≤ ring →
      exec (.hportTxTailWrite dt ring value) s = .fault .noSuchUnit) ∧
  (∀ (dt ring value : Nat) (s : State), 4 ≤ ring →
      exec (.hportRxTailWrite dt ring value) s = .fault .noSuchUnit) ∧
  (∀ (dt kind : Nat) (frames : List Nat) (s : State), 4 ≤ kind →
      exec (.pcieLinkReset dt kind frames) s = .fault .noSuchUnit) ∧
  (∀ (dt port phase lane : Nat) (f : Frame) (s : State), 56 ≤ port →
      exec (.frameReceive dt port phase lane f) s = .fault .noSuchUnit) ∧
  (∀ (dt port : Nat) (s : State), 56 ≤ port →
      exec (.classificationPass dt port) s = .fault .noSuchUnit) ∧
  (∀ (dt port vlan kind ms : Nat) (v6 : Bool) (groups : List Nat) (s : State), 56 ≤ port →
      exec (.snoopPacket dt port vlan kind ms v6 groups) s = .fault .noSuchUnit) ∧
  (∀ (dt : Nat) (turn : PortTurn) (s : State), 56 ≤ turn.port →
      exec (.egressDecision dt turn) s = .fault .noSuchUnit) ∧
  (∀ (dt port : Nat) (s : State), 56 ≤ port →
      exec (.preemptCut dt port) s = .fault .noSuchUnit) ∧
  (∀ (dt port phase : Nat) (s : State), 56 ≤ port →
      exec (.bookedSlotBook dt port phase) s = .fault .noSuchUnit) ∧
  (∀ (dt : Nat) (turn : PortTurn) (s : State), 56 ≤ turn.port →
      exec (.bookedSlotLaunch dt turn) s = .fault .noSuchUnit) ∧
  (∀ (dt port : Nat) (late : Bool) (s : State), 56 ≤ port →
      exec (.bookedSlotLost dt port late) s = .fault .noSuchUnit) ∧
  (∀ (dt port : Nat) (s : State), 56 ≤ port →
      exec (.guardBandOpen dt port) s = .fault .noSuchUnit) ∧
  (∀ (dt port : Nat) (f : Frame) (s : State), 56 ≤ port →
      exec (.pauseReceive dt port f) s = .fault .noSuchUnit) ∧
  (∀ (dt port : Nat) (s : State), 56 ≤ port →
      exec (.pauseTimerExpire dt port) s = .fault .noSuchUnit) ∧
  (∀ (dt port : Nat) (s : State), 56 ≤ port →
      exec (.pauseGenerate dt port) s = .fault .noSuchUnit) ∧
  (∀ (dt port : Nat) (s : State), 56 ≤ port →
      exec (.verifySend dt port) s = .fault .noSuchUnit) ∧
  (∀ (dt port : Nat) (s : State), 56 ≤ port →
      exec (.verifyTimeout dt port) s = .fault .noSuchUnit) ∧
  (∀ (dt port : Nat) (s : State), 56 ≤ port →
      exec (.respondReceive dt port) s = .fault .noSuchUnit) ∧
  (∀ (dt port : Nat) (s : State), 56 ≤ port →
      exec (.verifyReceive dt port) s = .fault .noSuchUnit) ∧
  (∀ (dt port phase lane bytes count : Nat) (start mcrc : Bool) (last : Option Frame) (s : State), 56 ≤ port →
      exec (.fragmentReceive dt port phase lane bytes count start mcrc last) s = .fault .noSuchUnit) ∧
  (∀ (dt port cause : Nat) (s : State), 56 ≤ port →
      exec (.linkLoss dt port cause) s = .fault .noSuchUnit) ∧
  (∀ (dt port : Nat) (skew : List Int) (s : State), 56 ≤ port →
      exec (.linkUp dt port skew) s = .fault .noSuchUnit) ∧
  (∀ (dt port : Nat) (s : State), 56 ≤ port →
      exec (.linkHoldExpire dt port) s = .fault .noSuchUnit) ∧
  (∀ (dt port : Nat) (s : State), 56 ≤ port →
      exec (.portQuiescent dt port) s = .fault .noSuchUnit) ∧
  (∀ (dt ring : Nat) (d : TxSend) (f : Frame) (s : State), 4 ≤ ring →
      exec (.hostTxDescriptor dt ring d f) s = .fault .noSuchUnit) ∧
  (∀ (dt ring : Nat) (s : State), 4 ≤ ring →
      exec (.hostRxDeliver dt ring) s = .fault .noSuchUnit) ∧
  (∀ (dt ring frames : Nat) (s : State), 8 ≤ ring →
      exec (.hostRingQuiescent dt ring frames) s = .fault .noSuchUnit) ∧
  (∀ (dt session : Nat) (s : State), 4 ≤ session →
      exec (.mirrorQuiescent dt session) s = .fault .noSuchUnit) ∧
  (∀ (dt ch n k : Nat) (s : State), (16 ≤ ch ∨ 4096 ≤ k) →
      exec (.tdcEdge dt ch n k) s = .fault .noSuchUnit) ∧
  (∀ (dt ch : Nat) (hits : List Nat) (s : State), 16 ≤ ch →
      exec (.calTableComplete dt ch hits) s = .fault .noSuchUnit) ∧
  (∀ (dt job : Nat) (s : State), 16 ≤ job →
      exec (.regressionGateClose dt job) s = .fault .noSuchUnit) ∧
  (∀ (dt ch : Nat) (s : State), 16 ≤ ch →
      exec (.measChannelQuiescent dt ch) s = .fault .noSuchUnit) ∧
  (∀ (dt job : Nat) (s : State), 16 ≤ job →
      exec (.measJobQuiescent dt job) s = .fault .noSuchUnit) ∧
  (∀ (dt ref : Nat) (s : State), 8 ≤ ref →
      exec (.refEvaluation dt ref) s = .fault .noSuchUnit) ∧
  (∀ (dt ref : Nat) (s : State), 8 ≤ ref →
      exec (.refLos dt ref) s = .fault .noSuchUnit) ∧
  (∀ (dt ref : Nat) (s : State), 8 ≤ ref →
      exec (.refPhaseHit dt ref) s = .fault .noSuchUnit) ∧
  (∀ (dt ref : Nat) (s : State), 8 ≤ ref →
      exec (.refSourceStatusFail dt ref) s = .fault .noSuchUnit) ∧
  (∀ (dt ref : Nat) (s : State), 8 ≤ ref →
      exec (.refQuiescent dt ref) s = .fault .noSuchUnit) ∧
  (∀ (dt output : Nat) (s : State), 8 ≤ output →
      exec (.outputEdge dt output) s = .fault .noSuchUnit) ∧
  (∀ (dt output : Nat) (s : State), 9 ≤ output →
      exec (.outputQuiescent dt output) s = .fault .noSuchUnit) ∧
  (∀ (dt output counted : Nat) (s : State), 8 ≤ output →
      exec (.toutMonitorCheck dt output counted) s = .fault .noSuchUnit) ∧
  (∀ (dt : Nat) (f : DomFrame) (s : State), 56 ≤ f.port →
      exec (.hello dt f) s = .fault .noSuchUnit) ∧
  (∀ (dt : Nat) (f : DomFrame) (s : State), 56 ≤ f.port →
      exec (.members dt f) s = .fault .noSuchUnit) ∧
  (∀ (dt port : Nat) (heard : Bool) (m : PtpMsg) (phase lane : Nat) (moves : List Int) (s : State), 56 ≤ port →
      exec (.trunkExchange dt port heard m phase lane moves) s = .fault .noSuchUnit) ∧
  (∀ (dt port : Nat) (s : State), 56 ≤ port →
      exec (.trunkState dt port) s = .fault .noSuchUnit) ∧
  (∀ (dt port : Nat) (x : L1Peer) (s : State), 56 ≤ port →
      exec (.l1syncChange dt port x) s = .fault .noSuchUnit) ∧
  (∀ (dt port : Nat) (s : State), 56 ≤ port →
      exec (.esmcSend dt port) s = .fault .noSuchUnit) ∧
  (∀ (dt port : Nat) (ql : Option Nat) (s : State), 56 ≤ port →
      exec (.esmcReceive dt port ql) s = .fault .noSuchUnit) ∧
  (∀ (dt : Nat) (f : DomFrame) (s : State), 56 ≤ f.port →
      exec (.cueAnnounce dt f) s = .fault .noSuchUnit) ∧
  (∀ (dt : Nat) (f : DomFrame) (s : State), 56 ≤ f.port →
      exec (.cueCancelFrame dt f) s = .fault .noSuchUnit) ∧
  (∀ (dt : Nat) (f : DomFrame) (s : State), 56 ≤ f.port →
      exec (.cueAck dt f) s = .fault .noSuchUnit) ∧
  (∀ (dt : Nat) (f : DomFrame) (s : State), 56 ≤ f.port →
      exec (.prepare dt f) s = .fault .noSuchUnit) ∧
  (∀ (dt : Nat) (f : DomFrame) (s : State), 56 ≤ f.port →
      exec (.ready dt f) s = .fault .noSuchUnit) ∧
  (∀ (dt : Nat) (f : DomFrame) (s : State), 56 ≤ f.port →
      exec (.arm dt f) s = .fault .noSuchUnit) ∧
  (∀ (dt : Nat) (f : DomFrame) (s : State), 56 ≤ f.port →
      exec (.armed dt f) s = .fault .noSuchUnit) ∧
  (∀ (dt : Nat) (f : DomFrame) (s : State), 56 ≤ f.port →
      exec (.equinoxCancelFrame dt f) s = .fault .noSuchUnit) ∧
  (∀ (dt : Nat) (f : DomFrame) (s : State), 56 ≤ f.port →
      exec (.cancelAck dt f) s = .fault .noSuchUnit) ∧
  (∀ (dt : Nat) (f : DomFrame) (s : State), 56 ≤ f.port →
      exec (.inbandRequest dt f) s = .fault .noSuchUnit) ∧
  (∀ (dt : Nat) (f : DomFrame) (s : State), 56 ≤ f.port →
      exec (.inbandResponse dt f) s = .fault .noSuchUnit) ∧
  (∀ (dt : Nat) (r : TsReq) (s : State), 56 ≤ r.port →
      exec (.ntpRequest dt r) s = .fault .noSuchUnit) ∧
  (∀ (dt : Nat) (r : TsReq) (s : State), 56 ≤ r.port →
      exec (.ntsRequest dt r) s = .fault .noSuchUnit) ∧
  (∀ (dt : Nat) (r : TsReq) (s : State), 56 ≤ r.port →
      exec (.denyRequest dt r) s = .fault .noSuchUnit) ∧
  (∀ (dt : Nat) (r : TsReq) (s : State), 56 ≤ r.port →
      exec (.serviceArp dt r) s = .fault .noSuchUnit) ∧
  (∀ (dt : Nat) (m : PtpMsg) (s : State), 56 ≤ m.port →
      exec (.ptpEventMessage dt m) s = .fault .noSuchUnit) ∧
  (∀ (dt port msg : Nat) (s : State), 56 ≤ port →
      exec (.ptpMessageSend dt port msg) s = .fault .noSuchUnit) ∧
  (∀ (dt : Nat) (m : PtpMsg) (s : State), 56 ≤ m.port →
      exec (.ptpForeignMaster dt m) s = .fault .noSuchUnit) ∧
  (∀ (dt port : Nat) (m : PtpMsg) (s : State), 56 ≤ port →
      exec (.ptpSlaveAnnounce dt port m) s = .fault .noSuchUnit) ∧
  (∀ (dt : Nat) (m : PtpMsg) (s : State), 56 ≤ m.port →
      exec (.unicastNegotiation dt m) s = .fault .noSuchUnit) ∧
  (∀ (dt port : Nat) (heard : Bool) (m : PtpMsg) (phase lane : Nat) (s : State), 56 ≤ port →
      exec (.pdelayMeasure dt port heard m phase lane) s = .fault .noSuchUnit) ∧
  (∀ (dt lane : Nat) (glitch late : Bool) (s : State), 4 ≤ lane →
      exec (.bnOpRelease dt lane glitch late) s = .fault .noSuchUnit) ∧
  (∀ (dt lane : Nat) (s : State), 4 ≤ lane →
      exec (.bnLaneZeroised dt lane) s = .fault .noSuchUnit) ∧
  (∀ (dt master region line : Nat) (soft stuck : List (Nat × Nat)) (s : State), regionLines region ≤ line →
      exec (.dramReadCorrect dt master region line soft stuck) s = .fault .noSuchUnit) ∧
  (∀ (dt device : Nat) (s : State), 10 ≤ device →
      exec (.dramErasureMark dt device) s = .fault .noSuchUnit) ∧
  (∀ (dt master region line : Nat) (soft stuck : List (Nat × Nat)) (s : State), regionLines region ≤ line →
      exec (.dramUncorrectableRead dt master region line soft stuck) s = .fault .noSuchUnit) ∧
  (∀ (dt master array bank row word : Nat) (s : State), sramWord array bank row word = false →
      exec (.sramCorrect dt master array bank row word) s = .fault .noSuchUnit) ∧
  (∀ (dt master array bank row word a b : Nat) (s : State), (sramWord array bank row word = false ∨ (array = 1 ∧ 56 < a)) →
      exec (.sramUncorrectable dt master array bank row word a b) s = .fault .noSuchUnit) ∧
  (∀ (dt part device page corrected ageDays lostSectors badBlocks : Nat) (s : State), (8 ≤ part ∨ 2 ≤ device) →
      exec (.flashRefreshScan dt part device page corrected ageDays lostSectors badBlocks) s = .fault .noSuchUnit) ∧
  (∀ (dt source master access address : Nat) (injected : Bool) (s : State), faultSource source = none →
      exec (.faultEvent dt source master access address injected) s = .fault .noSuchUnit) ∧
  (∀ (dt index : Nat) (s : State), 64 ≤ index →
      exec (.faultServiced dt index) s = .fault .noSuchUnit) ∧
  (∀ (dt source channel : Nat) (s : State), (source = 0 ∨ 3 < source) →
      exec (.sentinelTakeover dt source channel) s = .fault .noSuchUnit) ∧
  (∀ (dt vector : Nat) (s : State), 12 ≤ vector →
      exec (.hportHoldoffExpire dt vector) s = .fault .noSuchUnit)

/-- A doorbell on a mailbox that is `BUSY` or `PENDING` sets its error bit and does nothing else (R384, R388). -/
def Obligations.BusyMailboxDoorbell : Prop :=
  ∀ (c : Instr) (cmd : Command) (q : Req) (k : Nat) (s : State), request c = some (cmd, q) → q.src = .host k → k < 8 →
    ((s.mailbox k).state = .busy ∨ (s.mailbox k).state = .pending) →
    exec c s = .next { s with tci := { s.tci with doorbellErr := s.tci.doorbellErr ||| 2 ^ k } }

/-- The checks of R390 and R393 in their order, for every command of the interface: a refused request changes nothing but its
answer. -/
def Obligations.RefusedRequestAnswers : Prop :=
  (∀ (c : Instr) (cmd : Command) (q : Req) (k : Nat) (s u : State), request c = some (cmd, q) → q.src = .host k → k < 8 →
      ((s.mailbox k).state = .free ∨ (s.mailbox k).state = .done) → (s.mailbox k).repeats q = false → s.fw.running = true → u = s.rung cmd.opcode q k →
      isService cmd.opcode = true → s.plat.service = false →
      exec c s = .next (s.answered cmd.opcode q k stNotPermitted [])) ∧
  (∀ (c : Instr) (cmd : Command) (q : Req) (k : Nat) (s u : State), request c = some (cmd, q) → q.src = .host k → k < 8 →
      ((s.mailbox k).state = .free ∨ (s.mailbox k).state = .done) → (s.mailbox k).repeats q = false → s.fw.running = true → u = s.rung cmd.opcode q k →
      (isService cmd.opcode && !s.plat.service) = false → (cmd.layout q).lengthOk q = false →
      exec c s = .next (s.answered cmd.opcode q k stBadLength [])) ∧
  (∀ (c : Instr) (cmd : Command) (q : Req) (k : Nat) (s u : State), request c = some (cmd, q) → q.src = .host k → k < 8 →
      ((s.mailbox k).state = .free ∨ (s.mailbox k).state = .done) → (s.mailbox k).repeats q = false → s.fw.running = true → u = s.rung cmd.opcode q k →
      (isService cmd.opcode && !s.plat.service) = false → (cmd.layout q).lengthOk q = true →
      ((cmd.layout q).reservedOk q && cmd.range q u) = false →
      exec c s = .next (s.answered cmd.opcode q k stBadParam [])) ∧
  (∀ (c : Instr) (cmd : Command) (q : Req) (k : Nat) (s u : State), request c = some (cmd, q) → q.src = .host k → k < 8 →
      ((s.mailbox k).state = .free ∨ (s.mailbox k).state = .done) → (s.mailbox k).repeats q = false → s.fw.running = true → u = s.rung cmd.opcode q k →
      (isService cmd.opcode && !s.plat.service) = false → (cmd.layout q).lengthOk q = true →
      ((cmd.layout q).reservedOk q && cmd.range q u) = true → s.held (cmd.objs q) = true →
      exec c s = .next (s.answered cmd.opcode q k stBusy []))

/-- A repeated request is not executed again; the mailbox returns to `DONE` with its response unchanged (R396; how the area
and the interrupt show it: log entry 145). -/
def Obligations.RepeatedRequestKeepsResponse : Prop :=
  ∀ (c : Instr) (cmd : Command) (q : Req) (k : Nat) (s : State) (r : Resp), request c = some (cmd, q) → q.src = .host k → k < 8 →
    (s.mailbox k).state = .done → (s.mailbox k).resp = some r → q.seq = (s.mailbox k).seq → s.fw.running = true →
    CompletesWith (exec c s) (fun t => (t.mailbox k).state = .done ∧ (t.mailbox k).resp = some r ∧ (t.mailbox k).seq = (s.mailbox k).seq
      ∧ (t.mailbox k).area = r.overArea (areaWith cmd.opcode q (s.mailbox k).area)
      ∧ (∀ j, j ≠ k → t.mailbox j = s.mailbox j)
      ∧ t = { s with tci := { s.tci with mbx := t.tci.mbx }, intr := t.intr, trace := t.trace })

/-- A request rung while firmware is stopped leaves its mailbox `BUSY` and waits (R395). -/
def Obligations.StoppedFirmwareLeavesRequest : Prop :=
  ∀ (c : Instr) (cmd : Command) (q : Req) (k : Nat) (s u : State), request c = some (cmd, q) → q.src = .host k → k < 8 →
    ((s.mailbox k).state = .free ∨ (s.mailbox k).state = .done) → s.fw.running = false → (s.fw.recovery = false ∨ k ≠ 0) →
    u = s.rung cmd.opcode q k →
    exec c s = .next { u with tci := { u.tci with rung := u.tci.rung ++ [(cmd.opcode, q)] } }

/-- Events enter the ring until one entry is left; one that finds no free entry is counted and leaves a gap in `event_seq`,
and `EVENTS_LOST` tells how many once an entry is free (R398). -/
def Obligations.EventRingEntries : Prop :=
  (∀ (e : Event) (s : State), s.evt.head < 1024 → s.evt.tail < 1024 →
    (s.evt.room = 1023 ↔ s.evt.head = s.evt.tail) ∧
    (s.evt.lostSince = 0 → (s.evt.head + 1) % 1024 ≠ s.evt.tail →
      (s.writeEvent e).evt = { s.evt with
        ring := Tbl.put s.evt.ring s.evt.head (Event.entry { e with seq := s.evt.seq }), head := (s.evt.head + 1) % 1024, seq := (s.evt.seq + 1) % 65536 }
      ∧ bit (s.writeEvent e).intr.status 1 = true) ∧
    ((s.evt.head + 1) % 1024 = s.evt.tail →
      s.writeEvent e = { s with evt := { s.evt with
        lost := min (s.evt.lost + 1) (2 ^ 32 - 1), lostSince := s.evt.lostSince + 1, seq := (s.evt.seq + 1) % 65536 } }) ∧
    (s.evt.lostSince ≠ 0 → (s.evt.head + 1) % 1024 ≠ s.evt.tail → (s.evt.head + 2) % 1024 = s.evt.tail →
      (s.writeEvent e).evt = { s.evt with
        ring := Tbl.put s.evt.ring s.evt.head (Event.entry { code := 0x0104, cause := s.now, epoch := s.time.stepEpoch, payload := [(32, s.evt.lostSince)], seq := s.evt.seq })
        head := (s.evt.head + 1) % 1024, seq := (s.evt.seq + 2) % 65536, lost := min (s.evt.lost + 1) (2 ^ 32 - 1), lostSince := 1 }) ∧
    (s.evt.lostSince ≠ 0 → (s.evt.head + 1) % 1024 ≠ s.evt.tail → (s.evt.head + 2) % 1024 ≠ s.evt.tail →
      (s.writeEvent e).evt = { s.evt with
        ring := Tbl.put (Tbl.put s.evt.ring s.evt.head (Event.entry { code := 0x0104, cause := s.now, epoch := s.time.stepEpoch, payload := [(32, s.evt.lostSince)], seq := s.evt.seq }))
          ((s.evt.head + 1) % 1024) (Event.entry { e with seq := (s.evt.seq + 1) % 65536 })
        head := (s.evt.head + 2) % 1024, seq := (s.evt.seq + 2) % 65536, lostSince := 0 })) ∧
  (∀ (dt value : Nat) (s u : State), s.advance dt = u → u.fw.running = true → u.evt.lostSince ≠ 0 → u.evt.head < 1024 →
    (u.evt.head + 1) % 1024 ≠ value % 1024 →
    CompletesWith (exec (.evtTailWrite dt value) s) (fun t => t.evt = { u.evt with
        ring := Tbl.put u.evt.ring u.evt.head (Event.entry { code := 0x0104, cause := u.now, epoch := u.time.stepEpoch, payload := [(32, u.evt.lostSince)], seq := u.evt.seq })
        head := (u.evt.head + 1) % 1024, tail := value % 1024, seq := (u.evt.seq + 1) % 65536, lostSince := 0 })) ∧
  (∀ (cause : Time96) (code : Nat) (payload : Fields) (s : State), s.fw.running = false →
    s.postAt cause code payload = { s with evt := { s.evt with
        kept := s.evt.kept ++ [{ code := code, late := true, cause := cause, epoch := s.time.stepEpoch, payload := payload }] } })

/-- When an MSI-X vector signals, when it becomes pending, and when `INT_N` is low (R386). -/
def Obligations.InterruptVectors : Prop :=
  (∀ (k : Nat) (s : State), k < 12 → bit s.intr.status k = true → s.raiseInt k = s) ∧
  (∀ (k : Nat) (s : State), k < 12 → bit s.intr.status k = false → bit s.intr.mask k = true →
      s.raiseInt k = { s with intr := { s.intr with
        status := s.intr.status ||| 2 ^ k, signalled := clearBits s.intr.signalled (2 ^ k) } }) ∧
  (∀ (k : Nat) (s : State), k < 12 → bit s.intr.status k = false → bit s.intr.mask k = false → s.intr.msixEn = true →
      s.intr.holdoff k = 0 → bit (s.intr.entry k) 96 = false →
      (s.raiseInt k).trace = .vector k (bits (s.intr.entry k) 0 96) :: s.trace
      ∧ (s.raiseInt k).intr.status = s.intr.status ||| 2 ^ k ∧ bit (s.raiseInt k).intr.signalled k = true) ∧
  (∀ (k : Nat) (s : State), k < 12 → bit s.intr.status k = false → bit s.intr.mask k = false → s.intr.msixEn = true →
      s.intr.holdoff k = 0 → bit (s.intr.entry k) 96 = true →
      (s.raiseInt k).trace = s.trace ∧ (s.raiseInt k).intr.status = s.intr.status ||| 2 ^ k
      ∧ (s.raiseInt k).intr.pba = s.intr.pba ||| 2 ^ k) ∧
  (∀ (dt value k : Nat) (s u : State), s.advance dt = u → k < 12 → bit u.intr.mask k = true → bit u.intr.status k = true →
      bit u.intr.signalled k = false → bit value k = false → u.intr.msixEn = true → u.intr.holdoff k = 0 →
      bit (u.intr.entry k) 96 = false →
      CompletesWith (exec (.intMaskWrite dt value) s) (fun t => .vector k (bits (u.intr.entry k) 0 96) ∈ t.trace)) ∧
  (∀ (dt value : Nat) (s u : State), s.advance dt = u →
      (∀ k, k < 12 → bit u.intr.status k = true → bit u.intr.signalled k = true) →
      exec (.intMaskWrite dt value) s = .next { u with intr := { u.intr with mask := value % 4096 } }) ∧
  (∀ s : State, s.intN = false ↔ ∃ k, k < 12 ∧ bit s.intr.status k = true ∧ bit s.intr.mask k = false)

/-- `SYS_PACE_SET` sets `pace_low_pct`, 5 to 30, 10 after reset, or answers `BAD_PARAM`; `SYS_PACE_GET` reads the gates and
restarts the lowest headroom (R416). -/
def Obligations.PaceThresholdSet : Prop :=
  State.reset.pace.pct = 10 ∧
  (∀ (q : Req) (k : Nat) (s : State), q.src = .host k → k < 8 → ((s.mailbox k).state = .free ∨ (s.mailbox k).state = .done) →
    (s.mailbox k).repeats q = false → s.fw.running = true → q.len = 4 → q.rsv = 0 →
    exec (.sysPaceSet q) s = .next (
      if 5 ≤ q.f 0 8 ∧ q.f 0 8 ≤ 30 ∧ q.f 8 24 = 0 then ({ s with pace := { s.pace with pct := q.f 0 8 } } : State).answered 0x0102 q k stOk []
      else s.answered 0x0102 q k stBadParam [])) ∧
  (∀ (q : Req) (k : Nat) (s : State), q.src = .host k → k < 8 → ((s.mailbox k).state = .free ∨ (s.mailbox k).state = .done) →
    (s.mailbox k).repeats q = false → s.fw.running = true → q.len = 0 → q.rsv = 0 →
    exec (.sysPaceGet q) s = .next (({ s with pace := { s.pace with lowest := s.pace.headroom } } : State).answered 0x0103 q k stOk
      ((List.range 18).flatMap (fun u => [fi 8 (if s.pace.valid then Tbl.getD s.pace.headroom u 0 else 0),
          fi 8 (if s.pace.valid then Tbl.getD s.pace.lowest u 0 else 0), rz 16])
        ++ [(8, s.pace.pct), fb s.pace.valid, rz 23])))

/-- `MIDWINTER_RELEASE` releases the records at the locations it names, or refuses (R553). -/
def Obligations.MidwinterReleaseNamesLocations : Prop :=
  (∀ (q : Req) (k : Nat) (s : State), q.src = .host k → k < 8 → ((s.mailbox k).state = .free ∨ (s.mailbox k).state = .done) →
      (s.mailbox k).repeats q = false → s.fw.running = true → q.len = 4 → q.rsv = 0 → q.f 3 29 = 0 →
      (∀ j, j < 3 → q.b j = true → (Tbl.get? s.mid.loc j).isSome = true) →
      CompletesWith (exec (.midwinterRelease q) s) (fun t =>
        (∀ j, Tbl.get? t.mid.loc j = (Tbl.get? s.mid.loc j).map (fun x => if j < 3 ∧ q.b j = true then { x with released := true } else x))
        ∧ (t.midwinter = true ↔ ∃ e ∈ t.mid.loc, e.2.released = false)
        ∧ (t.mailbox k).resp = some { opcode := 0x0E07, seq := q.seq, status := stOk, payload := [] })) ∧
  (∀ (q : Req) (k : Nat) (s : State), q.src = .host k → k < 8 → ((s.mailbox k).state = .free ∨ (s.mailbox k).state = .done) →
      (s.mailbox k).repeats q = false → s.fw.running = true → q.len = 4 → q.rsv = 0 → q.f 3 29 = 0 →
      (∃ j, j < 3 ∧ q.b j = true ∧ Tbl.get? s.mid.loc j = none) →
      exec (.midwinterRelease q) s = .next (s.answered 0x0E07 q k stNotPermitted [])) ∧
  (∀ (q : Req) (k : Nat) (s : State), q.src = .host k → k < 8 → ((s.mailbox k).state = .free ∨ (s.mailbox k).state = .done) →
      (s.mailbox k).repeats q = false → s.fw.running = true → q.len = 4 → q.rsv = 0 → q.f 3 29 ≠ 0 →
      exec (.midwinterRelease q) s = .next (s.answered 0x0E07 q k stBadParam []))

/-- A domain frame is tested in the order of R186 and counted under the first test it fails. -/
def Obligations.DomainFrameTests : Prop :=
  (∀ (dt : Nat) (f : DomFrame) (c : Instr) (s u : State), c ∈ ([.hello dt f, .members dt f, .cueAnnounce dt f, .cueCancelFrame dt f, .cueAck dt f, .prepare dt f, .ready dt f,
        .arm dt f, .armed dt f, .equinoxCancelFrame dt f, .cancelAck dt f, .inbandRequest dt f, .inbandResponse dt f] : List Instr) →
      s.advance dt = u → f.port < 56 → u.domainRx f.port = true → u.isTrunk f.port = true →
      f.version ≠ 1 →
      CompletesWith (exec c s) (fun t => (t.port f.port).trunk = { (u.port f.port).trunk with
          badFrame := inc48 (u.port f.port).trunk.badFrame 1, badSince := some ((u.port f.port).trunk.badSince.getD u.time.tick) }
        ∧ t.dom = u.dom ∧ t.cue = u.cue ∧ t.rnd = u.rnd)) ∧
  (∀ (dt : Nat) (f : DomFrame) (c : Instr) (s u : State), c ∈ ([.hello dt f, .members dt f, .cueAnnounce dt f, .cueCancelFrame dt f, .cueAck dt f, .prepare dt f, .ready dt f,
        .arm dt f, .armed dt f, .equinoxCancelFrame dt f, .cancelAck dt f, .inbandRequest dt f, .inbandResponse dt f] : List Instr) →
      s.advance dt = u → f.port < 56 → u.domainRx f.port = true → u.isTrunk f.port = true →
      f.version = 1 → f.tag ≠ u.banks.active.domTag →
      CompletesWith (exec c s) (fun t => (t.port f.port).trunk = { (u.port f.port).trunk with
          tagMismatch := inc48 (u.port f.port).trunk.tagMismatch 1, badSince := some ((u.port f.port).trunk.badSince.getD u.time.tick) }
        ∧ t.dom = u.dom ∧ t.cue = u.cue ∧ t.rnd = u.rnd)) ∧
  (∀ (dt : Nat) (f : DomFrame) (c : Instr) (s u : State), c ∈ ([.hello dt f, .members dt f, .cueAnnounce dt f, .cueCancelFrame dt f, .cueAck dt f, .prepare dt f, .ready dt f,
        .arm dt f, .armed dt f, .equinoxCancelFrame dt f, .cancelAck dt f, .inbandRequest dt f, .inbandResponse dt f] : List Instr) →
      s.advance dt = u → f.port < 56 → u.domainRx f.port = true → u.isTrunk f.port = true →
      f.version = 1 → f.tag = u.banks.active.domTag → u.macOk f = false →
      CompletesWith (exec c s) (fun t => (t.port f.port).trunk = { (u.port f.port).trunk with
          authFail := inc48 (u.port f.port).trunk.authFail 1, badSince := some ((u.port f.port).trunk.badSince.getD u.time.tick) }
        ∧ t.dom = u.dom ∧ t.cue = u.cue ∧ t.rnd = u.rnd)) ∧
  (∀ (dt : Nat) (f : DomFrame) (c : Instr) (s u : State), c ∈ ([.hello dt f, .members dt f, .cueAnnounce dt f, .cueCancelFrame dt f, .cueAck dt f, .prepare dt f, .ready dt f,
        .arm dt f, .armed dt f, .equinoxCancelFrame dt f, .cancelAck dt f, .inbandRequest dt f, .inbandResponse dt f] : List Instr) →
      s.advance dt = u → f.port < 56 → u.domainRx f.port = true → u.isTrunk f.port = true →
      f.version = 1 → f.tag = u.banks.active.domTag → u.macOk f = true → u.seqFresh f = false →
      CompletesWith (exec c s) (fun t => (t.port f.port).trunk = { (u.port f.port).trunk with
          replay := inc48 (u.port f.port).trunk.replay 1, badSince := some ((u.port f.port).trunk.badSince.getD u.time.tick) }
        ∧ t.dom = u.dom ∧ t.cue = u.cue ∧ t.rnd = u.rnd))

/-- Every byte of window memory outside the bytes a command stores to reads as before. -/
def Obligations.StoresTouchOnlyTheirBytes : Prop :=
  (∀ (q : Req) (s t : State) (a : Nat), Memory.wf s.mem.bytes = true → exec (.sysWindowWrite q) s = .next t →
      (a < q.f 0 64 ∨ q.f 0 64 + q.f 64 32 ≤ a) → Memory.read t.mem.bytes a = Memory.read s.mem.bytes a) ∧
  (∀ (q : Req) (s t : State) (a lo : Nat), Memory.wf s.mem.bytes = true → exec (.cueFrameWrite q) s = .next t →
      lo = cueBufferOffset + 16384 * q.f 0 16 + q.f 16 16 → (a < lo ∨ lo + (q.f 32 16 + 63) / 64 * 64 ≤ a) → Memory.read t.mem.bytes a = Memory.read s.mem.bytes a) ∧
  (∀ (dt offset : Nat) (data : List Nat) (s t : State) (a : Nat), Memory.wf s.mem.bytes = true →
      exec (.bar2Write dt offset (.write data)) s = .next t → (a < offset ∨ offset + data.length ≤ a) → Memory.read t.mem.bytes a = Memory.read s.mem.bytes a) ∧
  (∀ (dt : Nat) (data : List Nat) (s t : State) (a : Nat), Memory.wf s.mem.bytes = true →
      exec (.flipMaskWrite dt data) s = .next t → (a < 64 * s.mem.flipLine ∨ 64 * s.mem.flipLine + 64 ≤ a) → Memory.read t.mem.bytes a = Memory.read s.mem.bytes a) ∧
  (∀ (s t : State) (a : Nat), Memory.wf s.mem.bytes = true →
    (
    (∃ q, exec (.cueCancel q) s = .next t) ∨ (∃ dt, exec (.cueExecute dt) s = .next t)
    ∨ (∃ dt, exec (.rootRoundAdvance dt) s = .next t) ∨ (∃ dt, exec (.cuePrefetchDeadline dt) s = .next t)
    ∨ (∃ dt, exec (.equinoxCommit dt) s = .next t) ∨ (∃ dt f, exec (.equinoxCancelFrame dt f) s = .next t)
    ∨ (∃ q, exec (.cueDomainCancel q) s = .next t) ∨ (∃ dt ch n k, exec (.tdcEdge dt ch n k) s = .next t)
    ∨ (∃ dt port phase lane bytes count start mcrc last, exec (.fragmentReceive dt port phase lane bytes count start mcrc last) s = .next t)
    ∨ (∃ dt port phase lane f, exec (.frameReceive dt port phase lane f) s = .next t)
    ∨ (∃ dt, exec (.cuePrefetchStart dt) s = .next t)
    ∨ (∃ dt master region line soft stuck, exec (.dramUncorrectableRead dt master region line soft stuck) s = .next t)
    ∨ (∃ q, exec (.equinoxCancel q) s = .next t) ∨ (∃ q, exec (.cueDomainAnnounce q) s = .next t)
    ∨ (∃ dt, exec (.timeStepApply dt) s = .next t) ∨ (∃ dt f, exec (.cueAnnounce dt f) s = .next t)
    ∨ (∃ dt f, exec (.cueCancelFrame dt f) s = .next t)
    ∨ (∃ dt master array bank row word a b, exec (.sramUncorrectable dt master array bank row word a b) s = .next t)
    ∨ (∃ q, exec (.equinoxDomainCancel q) s = .next t) ∨ (∃ dt port f, exec (.pauseReceive dt port f) s = .next t)) →
      (a < s.cap.offset ∨ s.cap.offset + 32 * s.cap.entries + 8 ≤ a) → Memory.read t.mem.bytes a = Memory.read s.mem.bytes a)

/-- What a reset leaves as it was (R562): whatever the part holds in flash or in fuses. -/
def Obligations.ResetKeepsFlash : Prop :=
  (∀ (dt : Nat) (service factory : Bool) (s t : State), exec (.fullReset dt service factory) s = .next t →
      t.leap.flash = s.leap.flash ∧ t.ocxo.devMk = s.ocxo.devMk ∧ t.gnss.stored = s.gnss.stored ∧ t.banks.slots = s.banks.slots
      ∧ t.mem.retiredFlash = s.mem.retiredFlash ∧ t.mem.erasure = s.mem.erasure ∧ t.mem.flaggedFlash.filter (fun x => !x.fused) = s.mem.flaggedFlash.filter (fun x => !x.fused)
      ∧ t.mem.policyFlash = s.mem.policyFlash
      ∧ t.mid.nextSeq = s.mid.nextSeq ∧ t.free = s.free
      ∧ t.sealLoop = s.sealLoop ∧ t.keys.mirror = s.keys.mirror ∧ t.flt.recoveries = s.flt.recoveries) ∧
  (∀ (dt : Nat) (service factory : Bool) (s t : State), exec (.resetNAssert dt service factory) s = .next t →
      t.leap.flash = s.leap.flash ∧ t.ocxo.devMk = s.ocxo.devMk ∧ t.gnss.stored = s.gnss.stored ∧ t.banks.slots = s.banks.slots
      ∧ t.mem.retiredFlash = s.mem.retiredFlash ∧ t.mem.erasure = s.mem.erasure ∧ t.mem.flaggedFlash.filter (fun x => !x.fused) = s.mem.flaggedFlash.filter (fun x => !x.fused)
      ∧ t.mem.policyFlash = s.mem.policyFlash
      ∧ t.mid.nextSeq = s.mid.nextSeq ∧ t.free = s.free
      ∧ t.sealLoop = s.sealLoop ∧ t.keys.mirror = s.keys.mirror ∧ t.flt.recoveries = s.flt.recoveries) ∧
  (∀ (dt : Nat) (tj : Int) (service factory : Bool) (s t : State), exec (.thermalTrip dt tj service factory) s = .next t →
      t.leap.flash = s.leap.flash ∧ t.ocxo.devMk = s.ocxo.devMk ∧ t.gnss.stored = s.gnss.stored ∧ t.banks.slots = s.banks.slots
      ∧ t.mem.retiredFlash = s.mem.retiredFlash ∧ t.mem.erasure = s.mem.erasure ∧ t.mem.flaggedFlash.filter (fun x => !x.fused) = s.mem.flaggedFlash.filter (fun x => !x.fused)
      ∧ t.mem.policyFlash = s.mem.policyFlash
      ∧ t.mid.nextSeq = s.mid.nextSeq ∧ t.free = s.free
      ∧ t.sealLoop = s.sealLoop ∧ t.keys.mirror = s.keys.mirror ∧ t.flt.recoveries = s.flt.recoveries) ∧
  (∀ (dt : Nat) (r : Rails) (service factory : Bool) (s t : State), exec (.railResetLevel dt r service factory) s = .next t →
      t.leap.flash = s.leap.flash ∧ t.ocxo.devMk = s.ocxo.devMk ∧ t.gnss.stored = s.gnss.stored ∧ t.banks.slots = s.banks.slots
      ∧ t.mem.retiredFlash = s.mem.retiredFlash ∧ t.mem.erasure = s.mem.erasure ∧ t.mem.flaggedFlash.filter (fun x => !x.fused) = s.mem.flaggedFlash.filter (fun x => !x.fused)
      ∧ t.mem.policyFlash = s.mem.policyFlash
      ∧ t.mid.nextSeq = s.mid.nextSeq ∧ t.free = s.free) ∧
  (∀ (dt vsb : Nat) (service factory : Bool) (back : List Bool) (s t : State), exec (.powerOnReset dt vsb service factory back) s = .next t →
      t.leap.flash = s.leap.flash ∧ t.ocxo.devMk = s.ocxo.devMk ∧ t.gnss.stored = s.gnss.stored ∧ t.banks.slots = s.banks.slots
      ∧ t.mem.retiredFlash = s.mem.retiredFlash ∧ t.mem.erasure = s.mem.erasure ∧ t.mem.flaggedFlash.filter (fun x => !x.fused) = s.mem.flaggedFlash.filter (fun x => !x.fused)
      ∧ t.mem.policyFlash = s.mem.policyFlash
      ∧ t.mid.nextSeq = s.mid.nextSeq ∧ t.free = s.free) ∧
  (∀ (dt : Nat) (service factory : Bool) (s u t : State), s.advance dt = u → exec (.fullReset dt service factory) s = .next t →
      u.fw.restarts.any (fun e => e.2 == 0 && decide (e.1 ≤ u.time.tick)) = true →
      t = { State.reset with
        time := t.time, leap := t.leap, intr := t.intr, evt := t.evt, win := t.win, sealLoop := t.sealLoop, inb := t.inb, fw := t.fw
        ocxo := t.ocxo, refs := refList.map (fun r => (r, { since := u.time.tick })), sel := { State.reset.sel with since := u.time.tick }
        gnss := t.gnss, dom := { State.reset.dom with resetCount := (u.dom.resetCount + 1) % 65536 }, banks := t.banks
        keys := t.keys, mem := u.mem.afterReset, flt := t.flt, mid := t.mid, plat := t.plat, trace := t.trace, free := t.free, pending := t.pending }
      ∧ t.fw.running = false ∧ t.fw.startReason = 5)

/-- The system commands, opcode group 0x01: what each answers and does when its checks pass (12_command_interface.md R414 to
R424, R402, R403, R409, R411, R419). -/
def Obligations.SystemCommands : Prop :=
  (∀ q k s, cmdSysInfo.passes q k s = true →
      exec (.sysInfo q) s = .next (s.answered 0x0101 q k stOk [(32, idCode), (32, s.fwVersion), (32, s.imageWord false),
          (32, s.imageWord true), fb s.fw.nextSlot, fb s.fw.staged, rz 30, (64, Config.serial.toNat), (64,
          Config.eui64.toNat), (48, Config.macBase.toNat), rz 16, (32, (s.time.tick - s.fw.resetTick) / tickS), (32,
          if s.fw.running then (s.time.tick - s.fw.startTick) / tickS else 0), (8, s.fw.startReason), rz 24])) ∧
  (∀ q k s, cmdSysPaceSet.passes q k s = true →
      exec (.sysPaceSet q) s = .next (({ s with pace := { s.pace with pct := q.f 0 8 } } : State).answered 0x0102 q k stOk [])) ∧
  (∀ q k s, cmdSysPaceGet.passes q k s = true →
      exec (.sysPaceGet q) s = .next (({ s with pace := { s.pace with lowest := s.pace.headroom } } : State).answered 0x0103 q k stOk ((paceUnits.flatMap (fun u => [fi 8 (if s.pace.valid then Tbl.getD s.pace.headroom u 0 else 0), fi 8 (if s.pace.valid then Tbl.getD s.pace.lowest u 0 else 0), rz 16])) ++ [(8, s.pace.pct), fb s.pace.valid, rz 23]))) ∧
  (∀ q k s w, cmdSysAttendCancel.passes q k s = true → s.win.state ≠ .closed → s.win.held = some w →
      CompletesWith (exec (.sysAttendCancel q) s) (fun t => t.win.state = .closed ∧ t.win.held = none
          ∧ (t.mailbox k).state = .done
        ∧ (t.mailbox k).resp = some { opcode := 0x0104, seq := q.seq, status := stOk, payload := [] })) ∧
  (∀ q k s, cmdSysAttendCancel.passes q k s = true → s.win.state = .closed →
      exec (.sysAttendCancel q) s = .next (s.answered 0x0104 q k stNotPermitted [])) ∧
  (∀ q k s, cmdSysInbandSet.passes q k s = true → q.b 0 = false → s.inb.enable = true →
      CompletesWith (exec (.sysInbandSet q) s) (fun t => t.inb.enable = false ∧ t.inb.disabling = true ∧ (∃ w ∈ t.tci.aside,
          w.opcode = 0x0105 ∧ w.req = q)
        ∧ t.tci.rung.all (fun e => !Src.remote e.2.src) = true)) ∧
  (∀ q k s, cmdSysInbandSet.passes q k s = true → q.b 0 = true → s.inb.enable = false → s.win.state = .closed →
      CompletesWith (exec (.sysInbandSet q) s) (Opened 0x0105 q k s)) ∧
  (∀ q k s, cmdSysInbandSend.passes q k s = true → s.joined = true → s.dom.dupId = false →
      CompletesWith (exec (.sysInbandSend q) s) (fun t => t.inb.txnNext = (s.inb.txnNext + 1) % 2 ^ 32
        ∧ t.tci.aside = s.tci.aside ++ [{ opcode := 0x0106, req := q, applied := true, arg := s.inb.txnNext, due := s.time.tick + (if q.f 32 32 = 0 then 100 else q.f 32 32) * tickMs }]
        ∧ (∀ p, s.routeTo (q.f 0 12) = some p → (s.port p).link = .up → s.domainKey.isSome = true →
            ∃ fs, t.dom.queue = s.dom.queue ++ [{ port := p, kind := 0x30, fields := fs }]))) ∧
  (∀ q k s, cmdSysWindowRead.passes q k s = true → ((s.rung 0x0107 q k).windowRead 4 (q.f 0 64) (q.f 64 32)).1 = true →
      let u := s.rung 0x0107 q k
      exec (.sysWindowRead q) s = .next ((u.windowRead 4 (q.f 0 64) (q.f 64 32)).2.reply 0x0107 q k stOk ((Memory.readAll s.mem.bytes (q.f 0 64) (q.f 64 32)).map (fun b => (8, b))))) ∧
  (∀ q k s, cmdSysWindowWrite.passes q k s = true → (q.f 64 32 = 0 ∨ cueBufferOffset + cueBufferBytes ≤ q.f 0 64
      ∨ q.f 0 64 + q.f 64 32 ≤ cueBufferOffset) →
      let u := s.rung 0x0108 q k
      exec (.sysWindowWrite q) s = .next ((if q.b 96 then u.windowZero 4 (q.f 0 64) (q.f 64 32) else u.windowWrite 4 (q.f 0 64) (q.bytes 128 (q.f 64 32))).reply 0x0108 q k stOk [])) ∧
  (∀ q k s, cmdSysFwWrite.passes q k s = true → (q.f 0 32 = 0 ∨ q.f 0 32 = (s.fw.image s.fw.spareSlot).bytes) →
      q.f 0 32 + q.f 32 16 ≤ imageMax → s.plat.warn = false →
      CompletesWith (exec (.sysFwWrite q) s) (fun t => (t.mailbox k).resp = some { opcode := 0x0109, seq := q.seq, status := stOk, payload := [] }
        ∧ (t.fw.image s.fw.spareSlot).bytes = q.f 0 32 + q.f 32 16 ∧ (t.fw.image s.fw.spareSlot).valid = false
        ∧ (t.fw.image s.fw.spareSlot).data = (if q.f 0 32 = 0 then [] else (s.fw.image s.fw.spareSlot).data)
            ++ q.bytes 64 (q.f 32 16)
        ∧ t.fw.image s.fw.slot = s.fw.image s.fw.slot)) ∧
  (∀ q k s, cmdSysFwActivate.passes q k s = true → s.win.state = .closed →
      CompletesWith (exec (.sysFwActivate q) s) (fun t => match s.activation (q.f 0 32) with
        | .inr _ => Opened 0x010C q k s t
        | .inl status => t = s.answered 0x010C q k status [])) ∧
  (∀ q k s, cmdSysSealProvision.passes q k s = true → s.win.state = .closed →
      CompletesWith (exec (.sysSealProvision q) s) (Opened 0x010A q k s)) ∧
  (∀ q k s, cmdSysFactoryDefault.passes q k s = true → s.win.state = .closed → s.factoryRefusal = none →
      CompletesWith (exec (.sysFactoryDefault q) s) (Opened 0x010B q k s)) ∧
  (∀ q k s u, cmdSysTraceRead.passes q k s = true → u = s.traceGrown → u.fw.traceBase ≤ q.f 0 32 →
      CompletesWith (exec (.sysTraceRead q) s) (fun t => ∃ text, text = u.fw.traceText (q.f 0 32)
        ∧ t = u.answered 0x0180 q k stOk ([(16, text.length), rz 16, (32, q.f 0 32 + text.length), rz 64]
            ++ text.map (fun b => (8, b))))) ∧
  (∀ q k s u, cmdSysTraceRead.passes q k s = true → u = s.traceGrown → q.f 0 32 < u.fw.traceBase →
      exec (.sysTraceRead q) s = .next (u.answered 0x0180 q k stOk [(16, 0), rz 16, (32, u.fw.traceBase), rz 64]))

/-- The bank and Equinox commands, opcode group 0x02: what each answers and does when its checks pass
(13_configuration_banks.md R429, R433 to R435, R441 to R460). -/
def Obligations.BankCommands : Prop :=
  (∀ q k s, cmdBankStatus.passes q k s = true →
      let b := s.banks
      let lead := if s.banks.active.domEnable && s.dom.isRoot then (s.domainMinLead + tickUs - 1) / tickUs else 0
      exec (.bankStatus q) s = .next (s.answered 0x0201 q k stOk [(32, b.epoch), (32, b.edits), (32, b.changeId),
          (3, shadowCode b.state), fb b.validated, fb b.persisted, rz 1, (2, partCode s.rnd.part), (3, rootCode s.rnd.root),
          rz 21, (32, s.rnd.lastRound), (3, s.rnd.lastOutcome), rz 5, (8, s.rnd.lastReasons), rz 16, ft b.lastCommit,
          ft (s.equinoxRow.elim {} (fun e => Time96.ofUnits e.2.inst)), (32, lead), (32, b.lastDrain), (48, b.drainDrop), (48,
          b.missed)])) ∧
  (∀ q k s, cmdBankSeed.passes q k s = true → s.shadowBusy = none → s.banks.state ≠ .armedLocal → s.rnd.part ≠ .prepared →
      s.rnd.part ≠ .armed →
      exec (.bankSeed q) s = .next ((s.seed (if q.f 0 2 = 0 then s.banks.active else {})).answered 0x0202 q k stOk [(32, if q.f 0 2 = 0 then s.banks.epoch else 0)])) ∧
  (∀ q k s, cmdBankValidate.passes q k s = true → s.banks.state ≠ .retained → s.banks.state ≠ .reseeding →
      exec (.bankValidate q) s = .next (s.waiting 0x0203 q k { obj := some .shadow })) ∧
  (∀ q k s, cmdBankTag.passes q k s = true → s.shadowBusy = none → q.f 32 32 = s.banks.edits → q.f 0 32 = 0 →
      s.banks.state = .tagged → s.rnd.part ≠ .prepared → s.rnd.part ≠ .armed →
      exec (.bankTag q) s = .next (({ s with banks := { s.banks with state := .seeded, changeId := 0 }, rnd := { s.rnd with part := .idle } } : State).answered 0x0204 q k stOk [(32, s.banks.edits)])) ∧
  (∀ q k s, cmdBankTag.passes q k s = true → s.shadowBusy = none → q.f 32 32 = s.banks.edits → q.f 0 32 ≠ 0 →
      s.banks.state = .seeded → ((s.rung 0x0204 q k).findings true s.nowU).isEmpty = true →
      exec (.bankTag q) s = .next (({ s with banks := { s.banks with validated := true } } : State).waiting 0x0204 q k { obj := some .shadow })) ∧
  (∀ q k s, cmdBankTag.passes q k s = true → s.shadowBusy = none → q.f 32 32 ≠ s.banks.edits →
      exec (.bankTag q) s = .next (s.answered 0x0204 q k stStaleBank [])) ∧
  (∀ q k s, cmdEquinoxLocal.passes q k s = true → s.shadowBusy = none → q.f 32 32 = s.banks.edits → s.banks.state = .seeded →
      s.equinoxRow = none → s.plat.warn = false → q.b 0 = false → ((s.rung 0x0205 q k).findings false s.nowU).isEmpty = true →
      exec (.equinoxLocal q) s = .next (({ s with banks := { s.banks with validated := true } } : State).waiting 0x0205 q k { obj := some .shadow, inst := Time96.ofUnits (Time96.ofWord (q.f 64 96)).units })) ∧
  (∀ q k s, cmdEquinoxLocal.passes q k s = true → s.shadowBusy = none → q.f 32 32 = s.banks.edits → s.banks.state = .seeded →
      s.equinoxRow = none → s.plat.warn = false → q.b 0 = true →
      ((s.rung 0x0205 q k).findings false (Time96.ofWord (q.f 64 96)).units).isEmpty = true →
      10 * uMs ≤ (Time96.ofWord (q.f 64 96)).units - s.nowU →
      exec (.equinoxLocal q) s = .next (({ s with banks := { s.banks with validated := true } } : State).waiting 0x0205 q k { obj := some .shadow, inst := Time96.ofUnits (Time96.ofWord (q.f 64 96)).units })) ∧
  (∀ q k s id r, cmdEquinoxCancel.passes q k s = true → s.banks.state = .armedLocal → s.equinoxRow = some (id, r) →
      r.handed = false →
      CompletesWith (exec (.equinoxCancel q) s) (fun t => t.banks.state = .seeded ∧ Tbl.get? t.cue.rows id = none
        ∧ (t.mailbox k).resp = some { opcode := 0x0206, seq := q.seq, status := stOk, payload := [] })) ∧
  (∀ q k s, cmdEquinoxDomainStart.passes q k s = true → s.rootSpeaks = true → s.rnd.root = .idle →
      ((s.domainMinLead * 262144 : Nat) : Int) ≤ (Time96.ofWord (q.f 32 96)).units - s.nowU →
      CompletesWith (exec (.equinoxDomainStart q) s) (fun t => t.rnd.nextRound = (s.rnd.nextRound + 1) % 2 ^ 32
          ∧ t.rnd.root = .preparing ∧ t.rnd.rootRec.round = s.rnd.nextRound
        ∧ t.rnd.rootRec.changeId = q.f 0 32 ∧ (∃ w ∈ t.tci.aside, w.opcode = 0x0207 ∧ w.req = q ∧ w.arg = s.rnd.nextRound))) ∧
  (∀ q k s, cmdEquinoxDomainCancel.passes q k s = true → s.rnd.root = .cancelling → q.f 0 32 = s.rnd.rootRec.round →
      exec (.equinoxDomainCancel q) s = .next (s.waiting 0x0208 q k { applied := true })) ∧
  (∀ q k s, cmdEquinoxDomainCancel.passes q k s = true → s.rnd.root ≠ .idle → s.rnd.root ≠ .cancelling →
      q.f 0 32 = s.rnd.rootRec.round → s.nowU ≤ s.armDeadline →
      CompletesWith (exec (.equinoxDomainCancel q) s) (fun t => t.rnd.root = .cancelling ∧ (∃ w ∈ t.tci.aside,
          w.opcode = 0x0208 ∧ w.req = q))) ∧
  (∀ q k s r, cmdEquinoxResultGet.passes q k s = true → s.rnd.results.find? (fun r => r.round == q.f 0 32) = some r →
      exec (.equinoxResultGet q) s = .next (s.answered 0x0209 q k stOk [(32, r.round), (32, r.changeId),
          (96, (Time96.ofUnits r.inst).word), (8, r.outcome), (8, r.reasons), (16, mapCount r.members), (16,
          mapCount r.ready), (16, mapCount r.armed), (16, mapCount r.cancel), rz 16, (4096, r.ready), (4096, r.armed), (4096,
          r.cancel)]))

/-- The port and host-port commands, opcode group 0x03: what each answers and does when its checks pass (10_port_macs.md R329
to R336). -/
def Obligations.PortCommands : Prop :=
  (∀ q k s, cmdPortConfigSet.passes q k s = true → s.flt.frozen = false → s.banks.state = .seeded →
      exec (.portConfigSet q) s = .next ((s.staged fun b => { b with port := Tbl.put b.port (q.f 0 8) q.body }).answered 0x0301 q k stOk [])) ∧
  (∀ q k s, cmdPortConfigGet.passes q k s = true →
      exec (.portConfigGet q) s = .next (s.answered 0x0302 q k stOk [(136, s.banks.active.portWord (q.f 0 8))])) ∧
  (∀ q k s, cmdPortStatus.passes q k s = true →
      let p := q.f 0 8
      let x := s.port p
      let left := if s.paused p then ((x.pauseUntil.getD 0 - s.rawNow) * s.rate p + 64 * 8000 * 65536 - 1) / (64 * 8000 * 65536) else 0
      let hold := if x.link = .hold then (x.holdDue - s.time.tick + tickMs - 1) / tickMs else 0
      exec (.portStatus q) s = .next (s.answered 0x0303 q k stOk ([(8, p), (2, linkCode x.link), fb x.blockLock, fb x.amLock,
          fb x.fecLock, fb x.hiBer, fb x.localFault, fb x.remoteFault, (3, x.preempt), fb (s.paused p),
          fb (x.pauseSending && decide (s.banks.active.pauseLo p * 512 < x.fifo)), rz 11, (16, left), (16, hold), (32,
          x.fifo), rz 32, ft x.lastChange] ++ x.skew.map (fun k => fi 32 k)))) ∧
  (∀ q k s, cmdPortStats.passes q k s = true →
      exec (.portStats q) s = .next (s.answered 0x0304 q k stOk ((List.range 54).flatMap (fun k => [(48, Tbl.getD (s.port (q.f 0 8)).stats k 0), rz 16])))) ∧
  (∀ q k s i, cmdHostRingSet.passes q k s = true → i = q.f 0 2 + (if q.b 2 then 4 else 0) → (s.ring i).enable = false →
      q.b 3 = true →
      exec (.hostRingSet q) s = .next ((s.updRing i (fun r => { r with enable := true, base := q.f 32 64, entries := q.f 96 16, bufKib := q.f 112 16, idx := 0, tail := 0 })).answered 0x0305 q k stOk [])) ∧
  (∀ q k s i, cmdHostRingSet.passes q k s = true → i = q.f 0 2 + (if q.b 2 then 4 else 0) → (s.ring i).enable = true →
      q.b 3 = false → (s.ring i).base = q.f 32 64 → (s.ring i).entries = q.f 96 16 → (s.ring i).bufKib = q.f 112 16 →
      exec (.hostRingSet q) s = .next ((s.updRing i (fun r => { r with enable := false, draining := true })).waiting 0x0305 q k { obj := some (ringObj i), applied := true, arg := i })) ∧
  (∀ q k s i, cmdHostRingSet.passes q k s = true → i = q.f 0 2 + (if q.b 2 then 4 else 0) → (s.ring i).enable = false →
      q.b 3 = false →
      exec (.hostRingSet q) s = .next ((s.updRing i (fun r => { r with base := q.f 32 64, entries := q.f 96 16, bufKib := q.f 112 16 })).answered 0x0305 q k stOk [])) ∧
  (∀ q k s, cmdHostCounters.passes q k s = true →
      exec (.hostCounters q) s = .next (({ s with host := { s.host with counters := [] } } : State).answered 0x0306 q k stOk ((List.range 10).map (fun k => (64, Tbl.getD s.host.counters k 0)))))

/-- The switch commands, opcode group 0x04: what each answers and does when its checks pass (11_switch_core.md R347, R364 to
R380). -/
def Obligations.SwitchCommands : Prop :=
  (∀ q k s, cmdVlanSet.passes q k s = true → s.flt.frozen = false → s.banks.state = .seeded →
      exec (.vlanSet q) s = .next ((s.staged fun b => { b with vlan := Tbl.put b.vlan (q.f 0 12) q.body }).answered 0x0401 q k stOk [])) ∧
  (∀ q k s, cmdPortFwdSet.passes q k s = true → s.flt.frozen = false → s.banks.state = .seeded →
      exec (.portFwdSet q) s = .next ((s.staged fun b => { b with fwd := Tbl.put b.fwd (q.f 0 8) q.body }).answered 0x0402 q k stOk [])) ∧
  (∀ q k s, cmdPortStateSet.passes q k s = true →
      exec (.portStateSet q) s = .next (({ s with sw := { s.sw with edits := s.sw.edits ++ [{ kind := .portState (q.f 0 8) (q.f 8 2), wait := { opcode := 0x0403, req := q, obj := some (.port (q.f 0 8)), applied := true }, issued := s.time.tick }] } } : State).waiting 0x0403 q k { opcode := 0x0403, req := q, obj := some (.port (q.f 0 8)), applied := true })) ∧
  (∀ q k s table, cmdMacStaticSet.passes q k s = true → table = (if q.b 12 then Tbl.put s.banks.shadow.mac (macKey (q.f 0 12) (q.f 16 48)) q.body else Tbl.erase s.banks.shadow.mac (macKey (q.f 0 12) (q.f 16 48))) → table.length ≤ 4096 → s.flt.frozen = false → s.banks.state = .seeded →
      exec (.macStaticSet q) s = .next ((s.staged fun b => { b with mac := table }).answered 0x0404 q k stOk [])) ∧
  (∀ q k s, cmdMacFlush.passes q k s = true →
      exec (.macFlush q) s = .next (({ s with sw := { s.sw with edits := s.sw.edits ++ [{ kind := .flush (q.f 0 2) (q.f 8 8) (q.f 16 12), wait := { opcode := 0x0405, req := q, obj := some .macTable, applied := true }, issued := s.time.tick }] } } : State).waiting 0x0405 q k { opcode := 0x0405, req := q, obj := some .macTable, applied := true })) ∧
  (∀ q k s, cmdMacLookup.passes q k s = true →
      let v := q.f 0 12
      let mac := q.f 16 48
      exec (.macLookup q) s = .next (s.answered 0x0406 q k stOk (match (if s.present 2 (macKey v mac) then Tbl.get? s.banks.active.mac (macKey v mac) else none) with | some w => [(1, 1), (1, 1), fb (bit w 13), rz 5, (8, if bit w 13 then 0 else bits w 64 8), rz 16, (32, 0)] | none => match s.sw.macs.find? (fun e => e.vlan == v && e.mac == mac) with | some e => [(1, 1), (1, 0), (1, 0), rz 5, (8, e.port), rz 16, (32, (s.time.tick - e.tickAt) / tickS)] | none => [(1, 0), (1, 0), (1, 0), rz 5, (8, 0), rz 16, (32, 0)]))) ∧
  (∀ q k s, cmdFlowRuleSet.passes q k s = true → s.flt.frozen = false → s.banks.state = .seeded →
      exec (.flowRuleSet q) s = .next ((s.staged fun b => { b with rule := Tbl.put b.rule (q.f 0 14) q.body }).answered 0x0407 q k stOk [])) ∧
  (∀ q k s, cmdMcastGroupSet.passes q k s = true → s.flt.frozen = false → s.banks.state = .seeded →
      exec (.mcastGroupSet q) s = .next ((s.staged fun b => { b with group := Tbl.put b.group (q.f 0 15) q.body }).answered 0x0408 q k stOk [])) ∧
  (∀ q k s, cmdQueueSet.passes q k s = true → s.flt.frozen = false → s.banks.state = .seeded →
      exec (.queueSet q) s = .next ((s.staged fun b => { b with queue := Tbl.put b.queue (16 * q.f 0 8 + q.f 8 4) q.body }).answered 0x0409 q k stOk [])) ∧
  (∀ q k s, cmdRsvSet.passes q k s = true → s.flt.frozen = false → s.banks.state = .seeded →
      exec (.rsvSet q) s = .next ((s.staged fun b => { b with rsv := Tbl.put b.rsv (q.f 0 12) q.body }).answered 0x040A q k stOk [])) ∧
  (∀ q k s, cmdMirrorSet.passes q k s = true → bit (q.f 32 56 ||| q.f 88 56) (q.f 8 8) = false → q.b 2 = true →
      exec (.mirrorSet q) s = .next ((s.updMirror (q.f 0 2) (fun m => { m with cfg := q.body, phase := if m.on then m.phase else 0 })).answered 0x040B q k stOk [])) ∧
  (∀ q k s, cmdMirrorSet.passes q k s = true → bit (q.f 32 56 ||| q.f 88 56) (q.f 8 8) = false →
      (s.mirror (q.f 0 2)).on = true → q.b 2 = false →
      exec (.mirrorSet q) s = .next ((s.updMirror (q.f 0 2) (fun m => { m with cfg := q.body, draining := true })).waiting 0x040B q k { obj := some (.session (q.f 0 2)), applied := true })) ∧
  (∀ q k s, cmdMirrorSet.passes q k s = true → bit (q.f 32 56 ||| q.f 88 56) (q.f 8 8) = true →
      exec (.mirrorSet q) s = .next (s.answered 0x040B q k stNotPermitted [])) ∧
  (∀ q k s, cmdSwitchConfigGet.passes q k s = true →
      exec (.switchConfigGet q) s = .next (s.answered 0x040C q k stOk [s.switchItem (q.f 0 4) (q.f 4 4) (q.f 16 16)])) ∧
  (∀ q k s, cmdSwitchStatus.passes q k s = true →
      let w := s.sw
      exec (.switchStatus q) s = .next (({ s with sw := { w with peak := 0 } } : State).answered 0x040D q k stOk [(32, s.sharedFree), (32, w.peak), (32, w.macs.length), (32, s.banks.active.mac.length), (32, w.groups.length), (48, w.ctrLearnFull), (48, w.ctrLearnLimit), (48, w.ctrMoveDenied), (48, w.ctrSnoopFull), (48, w.ctrUnknown), (48, w.ctrVlan), (48, w.ctrState)])) ∧
  (∀ q k s, cmdSwitchCounters.passes q k s = true →
      exec (.switchCounters q) s = .next (s.answered 0x040E q k stOk (s.switchCounters (q.f 0 2) (q.f 8 8) (q.f 16 4) (q.f 32 16))))

/-- The time-base and stamp commands, opcode group 0x05: what each answers and does when its checks pass
(03_time_base_and_stamps.md R68 to R78). -/
def Obligations.TimeCommands : Prop :=
  (∀ q k s, cmdTimeGet.passes q k s = true →
      exec (.timeGet q) s = .next (s.answered 0x0501 q k stOk [ft s.now, fi 64 s.time.freqAdj, (48, s.time.inc),
          (16, s.time.dither), (8, s.time.stepEpoch), fb s.time.valid, fb (!s.sel.loopHeld), fb s.time.slew.active,
          fb s.leap.pending, fb s.leap.dir, rz 19, fi 16 s.utcOffset, fi 64 s.time.slewRemaining])) ∧
  (∀ q k s, cmdTimeSetFreq.passes q k s = true → s.sel.loopHeld = true →
      exec (.timeSetFreq q) s = .next (({ s with time := s.time.setFreq (q.i 0 64) } : State).answered 0x0502 q k stOk [ft s.now])) ∧
  (∀ q k s, cmdTimeSetFreq.passes q k s = true → s.sel.loopHeld = false →
      exec (.timeSetFreq q) s = .next (s.answered 0x0502 q k stNotPermitted [])) ∧
  (∀ q k s slope, cmdTimeAdjPhase.passes q k s = true → s.sel.loopHeld = true →
      slope = (if q.f 64 32 = 0 then s.banks.active.slopeLimit else q.f 64 32) →
      exec (.timeAdjPhase q) s = .next (({ s with time := s.time.startSlew (q.i 0 64) slope } : State).answered 0x0503 q k stOk [ft s.now, (32, slewMs (s.time.startSlew (q.i 0 64) slope).slew.rem56 slope)])) ∧
  (∀ q k s, cmdTimeAdjPhase.passes q k s = true → s.sel.loopHeld = false →
      exec (.timeAdjPhase q) s = .next (s.answered 0x0503 q k stNotPermitted [])) ∧
  (∀ q k s, cmdTimeStep.passes q k s = true → q.f 0 8 ≠ 2 → q.f 192 96 = 0 → stepAttended q s = false →
      exec (.timeStep q) s = .next (({ s with time := { s.time with scheds := s.time.scheds ++ [{ atSec := s.nextStepSecond, delta := some (stepDelta q), src := 1, asStep := !s.time.valid }] } } : State).waiting 0x0504 q k { obj := some .timeBase, applied := true, inst := { sec := s.nextStepSecond } })) ∧
  (∀ q k s, cmdTimeStep.passes q k s = true → q.f 0 8 ≠ 2 → stepAttended q s = true → s.win.state = .closed →
      CompletesWith (exec (.timeStep q) s) (Opened 0x0504 q k s)) ∧
  (∀ q k s, cmdTimeStep.passes q k s = true → q.f 0 8 = 2 → s.qualifiedSelected = true → s.time.valid = false → q.f 192 96 = 0 →
      exec (.timeStep q) s = .next (({ s with time := { s.time with scheds := s.time.scheds ++ [{ atSec := s.nextStepSecond, delta := none, asStep := true, src := 1 }] } } : State).waiting 0x0504 q k { obj := some .timeBase, applied := true, inst := { sec := s.nextStepSecond } })) ∧
  (∀ q k s, cmdLeapTableSet.passes q k s = true → leapPendingAt s.time.sec s.leap.table = none →
      exec (.leapTableSet q) s = .next (({ s with leap := { s.leap with table := leapRequest q, flashDirty := true } } : State).leapFlags.answered 0x0505 q k stOk [(8, q.f 0 8)])) ∧
  (∀ q k s, cmdLeapTableGet.passes q k s = true →
      exec (.leapTableGet q) s = .next (s.answered 0x0506 q k stOk ((8,
          s.leap.table.length) :: rz 120 :: s.leap.table.flatMap (fun e => [(48, e.1), fi 16 e.2, rz 64])))) ∧
  (∀ q k s, cmdStampLatencySet.passes q k s = true → s.flt.frozen = false → s.banks.state = .seeded →
      exec (.stampLatencySet q) s = .next ((s.staged fun b => { b with lat := Tbl.put b.lat (q.f 0 8) q.body }).answered 0x0507 q k stOk [])) ∧
  (∀ q k s, cmdStampLatencyGet.passes q k s = true →
      let p := q.f 0 8
      let fac := Config.factoryLatency p
      exec (.stampLatencyGet q) s = .next (s.answered 0x0508 q k stOk ([fi 32 (s.banks.active.rxUserPs p),
          fi 32 (s.banks.active.txUserPs p), (8, fac.length), rz 56] ++ fac.flatMap (fun e => [(8, e.1.toNat), rz 24,
          (32, e.2.1.toNat), (32, e.2.2.toNat), rz 32])))) ∧
  (∀ q k s, cmdStampRingSet.passes q k s = true → s.stamps.enable = false → q.b 80 = true →
      exec (.stampRingSet q) s = .next (({ s with stamps := { base := q.f 0 64, entries := q.f 64 16, enable := true, idx := 0, phase := true, consumer := 0 } } : State).answered 0x0509 q k stOk [])) ∧
  (∀ q k s, cmdStampRingSet.passes q k s = true → s.stamps.enable = true → q.f 0 64 = s.stamps.base →
      q.f 64 16 = s.stamps.entries → q.b 80 = false →
      exec (.stampRingSet q) s = .next (({ s with stamps := { s.stamps with enable := false, draining := true } } : State).waiting 0x0509 q k { obj := some .stampRing, applied := true })) ∧
  (∀ q k s, cmdStampCounters.passes q k s = true →
      let p := s.port (q.f 0 8)
      exec (.stampCounters q) s = .next (s.answered 0x050A q k stOk [(64, p.stBooked), (64, p.stMiss), (64, p.stRing),
          (64, p.stTc)]))

/-- The measurement commands, opcode group 0x06: what each answers and does when its checks pass (04_interval_measurement.md
R99 to R107). -/
def Obligations.MeasurementCommands : Prop :=
  (∀ q k s, cmdMeasChannelSet.passes q k s = true → 8 < q.f 0 4 → s.feeds (q.f 0 4) = false → q.b 16 = true →
      exec (.measChannelSet q) s = .next (({ s.updChan (q.f 0 4) (fun c => { c with cfg := q.f 0 160, calRun := false, rejectRun := 0 }.calibrate s.time.tick) with cap := { s.cap with closedTdc := s.cap.closedTdc.filter (· ≠ q.f 0 4), moves := s.cap.moves.filter (fun m => m.1 != q.f 0 4) } } : State).answered 0x0601 q k stOk [])) ∧
  (∀ q k s, cmdMeasChannelSet.passes q k s = true → 8 < q.f 0 4 → s.feeds (q.f 0 4) = false → q.b 16 = false →
      (s.chan (q.f 0 4)).state ≠ 0 →
      exec (.measChannelSet q) s = .next ((s.updChan (q.f 0 4) (fun c => { c with cfg := q.f 0 160, state := 0, draining := true })).waiting 0x0601 q k { obj := some (.channel (q.f 0 4)), applied := true })) ∧
  (∀ q k s, cmdMeasChannelSet.passes q k s = true → q.f 0 4 ≤ 8 →
      exec (.measChannelSet q) s = .next (s.answered 0x0601 q k stNotPermitted [])) ∧
  (∀ q k s, cmdMeasChannelGet.passes q k s = true →
      let ch := q.f 0 4
      let c := s.chan ch
      exec (.measChannelGet q) s = .next ((s.updChan ch (fun c => { c with overrunSeen := false })).answered 0x0602 q k stOk [(160, setBits c.cfg 0 4 ch), (2, c.state), fb (decide (ch ≤ 8)), fb c.overrunSeen, rz 28, (48, c.events), (16, c.generation), (48, c.overruns), (48, c.calRejects), (48, c.captureLost), rz 16, ft c.installedAt])) ∧
  (∀ q k s, cmdMeasStart.passes q k s = true → (s.job (q.f 0 4)).running = false → (s.chan (q.f 8 4)).running = true →
      (q.b 16 = true → (s.chan (q.f 12 4)).running = true) → s.nowU ≤ s.jobStart q →
      CompletesWith (exec (.measStart q) s) (fun t => (t.job (q.f 0 4)).running = true ∧ (t.job (q.f 0 4)).cfg = q.f 0 192
          ∧ (t.job (q.f 0 4)).gateStart = s.jobStart q
        ∧ (t.job (q.f 0 4)).result = none ∧ (t.mailbox k).resp = some { opcode := 0x0603, seq := q.seq, status := stOk, payload := [ft (Time96.ofUnits (s.jobStart q))] })) ∧
  (∀ q k s, cmdMeasStop.passes q k s = true → (s.job (q.f 0 4)).running = true →
      CompletesWith (exec (.measStop q) s) (fun t => (t.job (q.f 0 4)).running = false ∧ (t.job (q.f 0 4)).stopping = true
          ∧ (t.job (q.f 0 4)).evA = []
        ∧ (∃ w ∈ t.tci.aside, w.opcode = 0x0604 ∧ w.req = q))) ∧
  (∀ q k s r, cmdMeasResultGet.passes q k s = true → (s.job (q.f 0 4)).result = some r →
      exec (.measResultGet q) s = .next (s.answered 0x0605 q k stOk [(512, setBits r.word 24 8 (if r.posted then bits r.word 24 8 else (s.job (q.f 0 4)).missed))])) ∧
  (∀ q k s, cmdMeasResultGet.passes q k s = true → (s.job (q.f 0 4)).result = none →
      exec (.measResultGet q) s = .next (s.answered 0x0605 q k stOk [(4, q.f 0 4), (4, (s.job (q.f 0 4)).chA),
          (4, (s.job (q.f 0 4)).chB), fb (s.job (q.f 0 4)).diff, fb (s.job (q.f 0 4)).onTime, rz 2, (8, 5), rz 480])) ∧
  (∀ q k s tbl, cmdMeasCalGet.passes q k s = true → (s.chan (q.f 0 4)).hits = some tbl →
      exec (.measCalGet q) s = .next (s.answered 0x0606 q k stOk ([(16, (s.chan (q.f 0 4)).generation), rz 16]
          ++ (List.range 1024).map (fun j => (16, hitsOf tbl (1024 * q.f 8 2 + j)))))) ∧
  (∀ q k s, cmdMeasCalGet.passes q k s = true → (s.chan (q.f 0 4)).hits = none →
      exec (.measCalGet q) s = .next (s.answered 0x0606 q k stNotPermitted [])) ∧
  (∀ q k s, cmdMeasCalRun.passes q k s = true → 8 < q.f 0 4 → (s.chan (q.f 0 4)).state ≠ 0 → s.feeds (q.f 0 4) = false →
      exec (.measCalRun q) s = .next ((s.updChan (q.f 0 4) (fun c => { c with calRun := true }.calibrate s.time.tick)).waiting 0x0607 q k { obj := some (.channel (q.f 0 4)), applied := true })) ∧
  (∀ q k s, cmdOcxoStatus.passes q k s = true →
      let o := s.ocxo
      let sel := s.sel.selected.filter (fun r => (s.ref r).state = .qualified)
      let off : Int := match sel.bind (fun r => (s.ref r).rawY) with
      | some y => ratNear ((1 / (1 + mkRat y 1000000000000000) - 1) * 1000000000000000)
      | none => 0
      exec (.ocxoStatus q) s = .next (s.answered 0x0608 q k stOk [fb o.warm, fb o.pllLocked, rz 14, fi 16 o.devMk,
          (32, o.heaterAt.elim 0 (fun t => (s.time.tick - t) / tickS)), (32, o.heaterMw), fb sel.isSome, rz 31, fi 64 off,
          fi 64 o.phaseWalk]))

/-- The reference, loop and output commands, opcode group 0x07: what each answers and does when its checks pass
(05_references_and_holdover.md R145 to R156). -/
def Obligations.ReferenceCommands : Prop :=
  (∀ q k s, cmdRefConfigSet.passes q k s = true → s.flt.frozen = false → s.banks.state = .seeded →
      exec (.refConfigSet q) s = .next ((s.staged fun b => { b with ref := Tbl.put b.ref (q.f 0 4) (if q.f 8 8 = 1 then setBits q.body 26 1 1 else q.body) }).answered 0x0701 q k stOk [])) ∧
  (∀ q k s, cmdRefConfigGet.passes q k s = true →
      exec (.refConfigGet q) s = .next (s.answered 0x0702 q k stOk (s.banks.active.refShown (q.f 0 4)))) ∧
  (∀ q k s, cmdRefStatus.passes q k s = true →
      let r := q.f 0 4
      let x := s.ref r
      exec (.refStatus q) s = .next (s.answered 0x0703 q k stOk [(4, r), (4, s.refReport r), (4, x.cause),
          fb (s.sel.selected == some r), fb x.statusOk, (2, x.basis), rz 16, (32, (s.time.tick - x.since) / tickS),
          fi 64 x.offset, fi 64 x.drift, fi 64 (if freqOnly (s.banks.active.refType r) then 0 else x.phase.getD 0), (48,
          x.disqs), (48, x.phaseHits), rz 32])) ∧
  (∀ q k s, cmdSelModeSet.passes q k s = true → (q.f 0 2 = 2 → s.banks.active.refType (q.f 4 4) ≠ 0
      ∧ s.banks.active.rank (q.f 4 4) ≠ 0) →
      exec (.selModeSet q) s = .next (({ s with sel := { s.sel with mode := q.f 0 2, manual := q.f 4 4, wtr := q.f 32 32 } } : State).answered 0x0704 q k stOk [])) ∧
  (∀ q k s, cmdSelStatus.passes q k s = true →
      let a := s.announced
      exec (.selStatus q) s = .next (s.answered 0x0705 q k stOk [(4, selCode s.sel.state), (4, s.sel.selected.getD 15),
          (2, s.sel.mode), fb (!s.sel.loopHeld), fb (s.sel.state == .waitStep), fb (s.sel.blocked && s.banks.active.autoStep),
          fb a.2.1, fb a.2.2, rz 1, (8, a.1), rz 8, (32, (s.time.tick - s.sel.since) / tickS), (32, s.wtrRemaining), (32,
          s.estError), fi 64 s.sel.pendingPhase, fi 64 s.time.freqAdj])) ∧
  (∀ q k s, cmdLoopSet.passes q k s = true → s.sel.loopHeld = !q.b 0 →
      CompletesWith (exec (.loopSet q) s) (fun t => t.sel.loopHeld = q.b 0 ∧ t.time.freqAdj = s.time.freqAdj
        ∧ (q.b 0 = true → t.sel.state = .loopOpen)
        ∧ (t.mailbox k).resp = some { opcode := 0x0706, seq := q.seq, status := stOk, payload := [fi 64 s.time.freqAdj] })) ∧
  (∀ q k s, cmdTimingPolicySet.passes q k s = true → s.flt.frozen = false → s.banks.state = .seeded →
      exec (.timingPolicySet q) s = .next ((s.staged fun b => { b with policy := q.body }).answered 0x0707 q k stOk [])) ∧
  (∀ q k s, cmdTimingPolicyGet.passes q k s = true →
      exec (.timingPolicyGet q) s = .next (s.answered 0x0708 q k stOk [(160, s.banks.active.policy)])) ∧
  (∀ q k s, cmdOutputSet.passes q k s = true → s.flt.frozen = false → s.banks.state = .seeded →
      exec (.outputSet q) s = .next ((s.staged fun b => { b with out := Tbl.put b.out (q.f 0 4) (setBits q.body 128 64 (ofSigned 64 (roundOffset (q.i 128 64)))) }).answered 0x0709 q k stOk [])) ∧
  (∀ q k s, cmdOutputGet.passes q k s = true →
      let o := s.output (q.f 0 4)
      exec (.outputGet q) s = .next (s.answered 0x070A q k stOk [(192, s.banks.active.outWord (q.f 0 4)), fb o.running,
          fb o.monFault, rz 62, fi 64 o.monError, (48, o.suppressed), rz 16])) ∧
  (∀ q k s, cmdHoldoverStatus.passes q k s = true →
      let h := s.hold
      exec (.holdoverStatus q) s = .next (s.answered 0x070B q k stOk [fb s.modelValid, rz 31, (32, s.learnedS),
          fi 64 (ratNear h.y0), fi 64 (ratNear h.a), fi 64 (ratNear h.c), ft { sec := h.tRef }, fi 16 h.thetaRef, rz 16, (32,
          h.rms), (32, h.lastS)]))

/-- The satellite-receiver commands, opcode group 0x08: what each answers and does when its checks pass
(06_satellite_receiver.md R176 to R182). -/
def Obligations.ReceiverCommands : Prop :=
  (∀ q k s, cmdGnssConfigSet.passes q k s = true → s.flt.frozen = false → s.banks.state = .seeded →
      exec (.gnssConfigSet q) s = .next ((s.staged fun b => { b with gnss := q.body }).answered 0x0801 q k stOk [])) ∧
  (∀ q k s, cmdGnssConfigGet.passes q k s = true →
      exec (.gnssConfigGet q) s = .next (s.answered 0x0802 q k stOk [(480, s.banks.active.gnss)])) ∧
  (∀ q k s, cmdGnssStatus.passes q k s = true →
      let g := s.gnss
      exec (.gnssStatus q) s = .next (s.answered 0x0803 q k stOk [(3, rxCode g.rx), fb g.solution, fb g.dual,
          fb g.stored.isSome, (2, antennaCode g.antenna), fb g.leapMismatch, rz 7, (8, g.hard), (8, g.soft), (8, g.satsUsed),
          (8, g.sats.length), (8, g.jam1), (8, g.jam5), (32, (s.time.tick - g.since) / tickS), (32,
          if g.rx = .survey then g.surveyS else 0), (32, g.sigma), (16, g.antennaMa), rz 16, (32, g.tacc), rz 32,
          fi 64 g.held.1, fi 64 g.held.2.1, fi 64 g.held.2.2, fi 16 g.bcUtc, fi 16 g.bcNext, (48, g.bcLeap), rz 16, (48,
          g.disqs)])) ∧
  (∀ q k s, cmdGnssSatList.passes q k s = true →
      exec (.gnssSatList q) s = .next (s.answered 0x0804 q k stOk ([(8, s.gnss.sats.length), rz 56]
          ++ s.gnss.sats.map (fun e => (64, e))))) ∧
  (∀ q k s, cmdGnssSurveyRestart.passes q k s = true → s.gnssBank.gnssFixed = false → s.gnss.rx ≠ .off →
      s.gnss.rx ≠ .acquiring →
      CompletesWith (exec (.gnssSurveyRestart q) s) (fun t => t.gnss.rx = .survey ∧ t.gnss.fixes = 0 ∧ t.gnss.surveyS = 0
          ∧ (s.plat.warn = false → t.gnss.stored = none)
        ∧ (t.mailbox k).resp = some { opcode := 0x0805, seq := q.seq, status := stOk, payload := [] })) ∧
  (∀ q k s, cmdGnssReset.passes q k s = true → s.gnss.rx ≠ .off → q.b 2 = false →
      CompletesWith (exec (.gnssReset q) s) (fun t => t.gnss.rx = .acquiring
          ∧ t.gnss.ephs = (if q.f 0 2 = 0 then s.gnss.ephs else []) ∧ t.gnss.almanac = (s.gnss.almanac && q.f 0 2 != 2)
        ∧ t.gnss.stored = s.gnss.stored ∧ (t.mailbox k).resp = some { opcode := 0x0806, seq := q.seq, status := stOk, payload := [] })) ∧
  (∀ q k s, cmdGnssReset.passes q k s = true → s.gnss.rx ≠ .off → q.b 2 = true →
      CompletesWith (exec (.gnssReset q) s) (fun t => t.gnss.rx = .acquiring ∧ (s.plat.warn = false → t.gnss.stored = none)
          ∧ (t.mailbox k).resp = some { opcode := 0x0806, seq := q.seq, status := stOk, payload := [] }))

/-- The timing-domain commands, opcode group 0x09: what each answers and does when its checks pass (07_timing_domain.md R195,
R213 to R219). -/
def Obligations.DomainCommands : Prop :=
  (∀ q k s, cmdDomainConfigSet.passes q k s = true → (Tbl.getD s.keys.slot (q.f 64 8) {}).typ = 1 → s.flt.frozen = false →
      s.banks.state = .seeded →
      exec (.domainConfigSet q) s = .next ((s.staged fun b => { b with dom := q.body }).answered 0x0901 q k stOk [])) ∧
  (∀ q k s, cmdDomainConfigGet.passes q k s = true →
      exec (.domainConfigGet q) s = .next (s.answered 0x0902 q k stOk [(96, s.banks.active.dom)])) ∧
  (∀ q k s, cmdPortTimingSet.passes q k s = true → s.flt.frozen = false → s.banks.state = .seeded →
      exec (.portTimingSet q) s = .next ((s.staged fun b => { b with ptim := Tbl.put b.ptim (q.f 0 8) q.body }).answered 0x0903 q k stOk [])) ∧
  (∀ q k s, cmdFibrePairSet.passes q k s = true → s.flt.frozen = false → s.banks.state = .seeded →
      exec (.fibrePairSet q) s = .next ((s.staged fun b => { b with pair := Tbl.put b.pair (q.f 0 4) q.body }).answered 0x0905 q k stOk [])) ∧
  (∀ q k s, cmdTrunkStatus.passes q k s = true →
      let p := q.f 0 8
      let t := (s.port p).trunk
      exec (.trunkStatus q) s = .next (s.answered 0x0904 q k stOk [(8, p), (2, trunkCode t.state), (2, s.trunkRole p),
          (3, t.l1), fb (s.slaveEnd p), (16, t.nbr.elim 0xFFFF (·.1)), (16, t.nbr.elim 0xFFFF (·.2.parentId)), (8,
          t.nbr.elim 255 (·.2.hops)), rz 8, fi 64 t.rtt, fi 64 t.down, fi 64 t.phase, (48, t.authFail), (48, t.replay), (48,
          t.badFrame), (48, t.onEdge), (48, t.tagMismatch)])) ∧
  (∀ q k s, cmdDomainStatus.passes q k s = true →
      let d := s.dom
      exec (.domainStatus q) s = .next (s.answered 0x0906 q k stOk [fb s.joined, fb d.isRoot, fb d.dupId, rz 5,
          (8, d.parentPort.getD 255), (16, d.parentPort.elim 0xFFFF (fun p => (s.port p).trunk.nbr.elim 0xFFFF (·.1))), (16,
          d.root.rootId), (8, d.hops), (8, d.root.cls), (32, d.pathCost), (32, d.pathDelay), (16, s.leadDepth), (16,
          s.domainLead), (16, mapCount s.subtreeMap), rz 16, ft d.lastChange, (48, d.changes)])) ∧
  (∀ q k s, cmdLinkCalRun.passes q k s = true → s.dom.parentPort = some (q.f 0 8) → s.sel.selected = some 7 →
      (s.chan (q.f 8 4)).state = 2 → s.channelUhz (s.chan (q.f 8 4)) = 1000000 →
      exec (.linkCalRun q) s = .next (({ s with meas := { s.meas with linkCals := s.meas.linkCals ++ [{ wait := { opcode := 0x0907, req := q, obj := some (.channel (q.f 8 4)), also := [.port (q.f 0 8)] }, closeTick := s.time.tick + q.f 32 32 * tickS, ch := q.f 8 4, port := q.f 0 8, zero := q.i 64 64, before := (s.chan (q.f 8 4)).lastRaw }] } } : State).waiting 0x0907 q k { opcode := 0x0907, req := q, obj := some (.channel (q.f 8 4)), also := [.port (q.f 0 8)] })) ∧
  (∀ q k s, cmdDomainMembers.passes q k s = true →
      exec (.domainMembers q) s = .next (s.answered 0x0908 q k stOk [(16, mapCount s.subtreeMap), rz 48, (4096, s.subtreeMap)]))

/-- The cue commands, opcode group 0x0A: what each answers and does when its checks pass (08_cues.md R222 to R251). -/
def Obligations.CueCommands : Prop :=
  (∀ q k s, cmdCueAdd.passes q k s = true → q.b 4 = true → s.cue.rows.length < cueRows →
      CompletesWith (exec (.cueAdd q) s) (fun t => ∃ id,
          Tbl.get? t.cue.rows id = some { req := q.body, template := true, inst := toSigned 64 (q.f 96 64) }
        ∧ (t.mailbox k).resp = some { opcode := 0x0A01, seq := q.seq, status := stOk, payload := [(16, id), (8, 0)] })) ∧
  (∀ q k s, cmdCueAdd.passes q k s = true → q.b 4 = false →
      (s.rung 0x0A01 q k).rowRefusal (rowOf q.body (Time96.ofWord (q.f 96 96)).units 0 0) = rsNone →
      CompletesWith (exec (.cueAdd q) s) (fun t => ∃ id r, Tbl.get? t.cue.rows id = some r ∧ r.req = q.body
          ∧ r.inst = (Time96.ofWord (q.f 96 96)).units ∧ r.template = false
        ∧ (t.mailbox k).resp = some { opcode := 0x0A01, seq := q.seq, status := stOk, payload := [(16, id), (8, 0)] })) ∧
  (∀ q k s r, cmdCueCancel.passes q k s = true → q.b 16 = false → Tbl.get? s.cue.rows (q.f 0 16) = some r →
      r.equinox = false → r.template = true →
      exec (.cueCancel q) s = .next (({ s with cue := { s.cue with rows := Tbl.erase s.cue.rows (q.f 0 16) } } : State).answered 0x0A02 q k stOk [])) ∧
  (∀ q k s, cmdCueCancel.passes q k s = true → q.b 16 = true →
      exec (.cueCancel q) s = .next (({ s with cue := { s.cue with rows := s.cue.rows.filter (fun e => !(e.2.template && e.2.scene == q.f 32 16)) } } : State).answered 0x0A02 q k stOk [])) ∧
  (∀ q k s r, cmdCueCancel.passes q k s = true → q.b 16 = false → Tbl.get? s.cue.rows (q.f 0 16) = some r →
      r.equinox = false → r.template = false → r.handed = false →
      CompletesWith (exec (.cueCancel q) s) (fun t => Tbl.get? t.cue.rows (q.f 0 16) = none
          ∧ (t.mailbox k).resp = some { opcode := 0x0A02, seq := q.seq, status := stOk, payload := [] })) ∧
  (∀ q k s, cmdCueCancel.passes q k s = true → q.b 16 = false → Tbl.get? s.cue.rows (q.f 0 16) = none →
      exec (.cueCancel q) s = .next (s.answered 0x0A02 q k stBadParam [])) ∧
  (∀ q k s, cmdCueList.passes q k s = true →
      let l := (s.cue.rows.filter (fun e => decide (q.f 0 16 ≤ e.1) && e.2.selected (q.f 16 4))).take 64
      exec (.cueList q) s = .next (s.answered 0x0A03 q k stOk ([(8, l.length), rz 56] ++ l.flatMap (fun e => [(288, e.2.req),
          (16, e.1), (4, e.2.listState), (32, e.2.round), rz 44])))) ∧
  (∀ q k s, cmdCueStatus.passes q k s = true → s.cue.rows ≠ [] →
      exec (.cueStatus q) s = .next (s.answered 0x0A04 q k stOk [(16, s.armedRows.length),
          (16, s.cue.rows.length - s.armedRows.length), (16, cueRows - s.cue.rows.length), rz 16, (64, cueBufferOffset), (32,
          s.domainLeadNs), (48, s.cue.executed), (48, s.cue.late), (48, s.cue.dropped), (48, s.cap.lostPorts), (64,
          s.cap.producer)])) ∧
  (∀ q k s, cmdCueDomainAnnounce.passes q k s = true → s.rootSpeaks = true →
      (s.cue.rounds.filter (fun c => c.mine && !c.sent)).length < 16 →
      (s.domainLeadNs : Int) * uNs ≤ (Time96.ofWord (q.f 32 96)).units - s.nowU →
      CompletesWith (exec (.cueDomainAnnounce q) s) (fun t => t.cue.nextRound = (s.cue.nextRound + 1) % 2 ^ 32
          ∧ (∃ c ∈ t.cue.rounds, c.round = s.cue.nextRound ∧ c.scene = q.f 0 16 ∧ c.mine = true)
        ∧ (t.mailbox k).resp = some { opcode := 0x0A05, seq := q.seq, status := stOk, payload := [(32, s.cue.nextRound)] })) ∧
  (∀ q k s x, cmdCueDomainCancel.passes q k s = true → s.rootSpeaks = true →
      s.cue.issued.find? (fun e => e.1 == q.f 0 32) = some x → (s.domainLeadNs : Int) * uNs ≤ (x.2.1 : Int) - s.nowU →
      s.cue.cancels.any (fun d => d.mine && d.round == x.1) = false →
      CompletesWith (exec (.cueDomainCancel q) s) (fun t => (∃ d ∈ t.cue.cancels, d.round = x.1 ∧ d.root = s.deviceId
          ∧ d.cancel = true ∧ d.mine = true)
        ∧ (t.mailbox k).resp = some { opcode := 0x0A06, seq := q.seq, status := stOk, payload := [] })) ∧
  (∀ q k s, cmdCaptureRingSet.passes q k s = true → s.cap.enable = false → q.b 88 = true →
      exec (.captureRingSet q) s = .next (({ s with cap := { s.cap with offset := q.f 0 64, entries := q.f 64 24, enable := true, producer := 0, consumer := 0 } } : State).answered 0x0A07 q k stOk [])) ∧
  (∀ q k s, cmdCaptureRingSet.passes q k s = true → s.cap.enable = true → q.f 0 64 = s.cap.offset →
      q.f 64 24 = s.cap.entries → q.b 88 = false →
      exec (.captureRingSet q) s = .next (({ s with cap := { s.cap with enable := false, draining := true } } : State).waiting 0x0A07 q k { obj := some .captureRing, applied := true })) ∧
  (∀ q k s n, cmdCueFrameWrite.passes q k s = true → s.armedRows.any (fun e => e.2.kind == 1 && e.2.slot == q.f 0 16) = false → n = (q.f 32 16 + 63) / 64 * 64 →
      let u := s.rung 0x0A08 q k
      exec (.cueFrameWrite q) s = .next ((u.windowWrite 4 (cueBufferOffset + 16384 * q.f 0 16 + q.f 16 16) ((q.bytes 64 (q.f 32 16) ++ List.replicate 64 0).take n)).reply 0x0A08 q k stOk [])) ∧
  (∀ q k s c, cmdCueDomainResultGet.passes q k s = true → s.cue.results.find? (fun c => c.round == q.f 0 32) = some c →
      exec (.cueDomainResultGet q) s = .next (s.answered 0x0A09 q k stOk c.ack))

/-- The time-service commands, opcode group 0x0B: what each answers and does when its checks pass (09_time_service.md R286 to
R299). -/
def Obligations.TimeServiceCommands : Prop :=
  (∀ q k s, cmdTsConfigSet.passes q k s = true → s.flt.frozen = false → s.banks.state = .seeded →
      exec (.tsConfigSet q) s = .next ((s.staged fun b => { b with ts := q.body }).answered 0x0B01 q k stOk [])) ∧
  (∀ q k s, cmdTsConfigGet.passes q k s = true →
      let b := s.banks.active
      let i := q.f 8 8
      exec (.tsConfigGet q) s = .next (s.answered 0x0B02 q k stOk [if q.f 0 3 = 0 then (368, b.ts) else if q.f 0 3 = 1 then (224, b.addrWord i) else if q.f 0 3 = 2 then (192, b.pfxWord (q.f 16 10)) else if q.f 0 3 = 3 then (96, b.tspolWord i) else (176, b.ptpWord i)])) ∧
  (∀ q k s, cmdTsAddrSet.passes q k s = true → s.flt.frozen = false → s.banks.state = .seeded →
      exec (.tsAddrSet q) s = .next ((s.staged fun b => { b with addr := Tbl.put b.addr (q.f 0 4) q.body }).answered 0x0B03 q k stOk [])) ∧
  (∀ q k s, cmdTsPrefixSet.passes q k s = true → s.flt.frozen = false → s.banks.state = .seeded →
      exec (.tsPrefixSet q) s = .next ((s.staged fun b => { b with pfx := Tbl.put b.pfx (q.f 0 10) q.body }).answered 0x0B04 q k stOk [])) ∧
  (∀ q k s, cmdTsPolicySet.passes q k s = true → s.flt.frozen = false → s.banks.state = .seeded →
      exec (.tsPolicySet q) s = .next ((s.staged fun b => { b with tspol := Tbl.put b.tspol (q.f 0 4) q.body }).answered 0x0B05 q k stOk [])) ∧
  (∀ q k s, ({ cmdPtpPortSet with range := fun _ _ => true } : Command).passes q k s = true → q.f 0 8 < portCount →
      s.banks.shadow.trunk (q.f 0 8) = false → q.f 8 3 ≤ 4 → q.f 11 3 ≤ 4 → q.f 14 2 ≤ 2 → 2 ≤ q.f 56 8 → q.f 19 2 = 0 →
      s.flt.frozen = false → s.banks.state = .seeded →
      exec (.ptpPortSet q) s = .next (if Config.profileAllows (q.f 11 3) (q.f 24 8) (q.i 32 8) (q.i 40 8) (q.i 48 8) (q.f 56 8) then (s.staged fun b => { b with ptp := Tbl.put b.ptp (q.f 0 8) q.body }).answered 0x0B06 q k stOk [] else s.answered 0x0B06 q k stBadParam [])) ∧
  (∀ q k s, cmdTsStatus.passes q k s = true →
      let t := s.ts
      let load := ((lastSecond s.time.tick t.load).map (·.2)).sum / 2
      exec (.tsStatus q) s = .next (s.answered 0x0B07 q k stOk [fb t.ntp, fb t.nts, fb t.ptp, fb t.rotating, rz 4,
          (8, s.ntpStratum), (2, s.ntpLi), rz 6, (8, s.announced.1), (32, s.ntpRefid), (32, s.ntpDispersion), (32,
          s.cookieId), (32, t.ledger.length), (32, (t.ledger.filter (fun e => e.cls == 2)).length), (32, t.grants.length),
          (32, s.grantUnits), (32, load), ft t.lastRotation])) ∧
  (∀ q k s, cmdTsCounters.passes q k s = true →
      let n := if q.f 0 2 = 3 then 12 else 11
      let lo := 16 * q.f 0 2
      exec (.tsCounters q) s = .next (({ s with ts := { s.ts with counters := s.ts.counters.filter (fun e => e.1 < lo || lo + 16 ≤ e.1) } } : State).answered 0x0B08 q k stOk ((List.range n).map (fun i => (64, Tbl.getD s.ts.counters (lo + i) 0))))) ∧
  (∀ q k s e, cmdTsLedgerGet.passes q k s = true → s.entry (q.f 0 2, q.f 4 12, q.f 32 128) = some e →
      exec (.tsLedgerGet q) s = .next (s.answered 0x0B09 q k stOk ([(1, 1), rz 31] ++ s.ledgerFields e))) ∧
  (∀ q k s, cmdTsLedgerGet.passes q k s = true → s.entry (q.f 0 2, q.f 4 12, q.f 32 128) = none →
      exec (.tsLedgerGet q) s = .next (s.answered 0x0B09 q k stOk [(1, 0), rz 31, (512, 0)])) ∧
  (∀ q k s, cmdTsLedgerFlush.passes q k s = true →
      exec (.tsLedgerFlush q) s = .next (s.waiting 0x0B0A q k {})) ∧
  (∀ q k s, cmdNtsCookieIssue.passes q k s = true → s.sealBroken = false → s.ts.nts = true → s.ts.cookies ≠ [] →
      CompletesWith (exec (.ntsCookieIssue q) s) (fun t => ∃ l : List Nat, l.length = q.f 0 8 * q.f 8 8
          ∧ (t.mailbox k).state = .done
        ∧ (t.mailbox k).resp = some { opcode := 0x0B0B, seq := q.seq, status := stOk, payload := [(32, s.cookieId)] ++ l.map (fun c => (832, c)) }))

/-- The key and big-number commands, opcode group 0x0C: what each answers and does when its checks pass
(14_keys_and_big_numbers.md R464 to R493). -/
def Obligations.KeyCommands : Prop :=
  (∀ q k s, cmdKeyInfo.passes q k s = true →
      let slot := q.f 0 8
      let x := s.slot slot
      let typ := if s.sealBroken then 0 else x.typ
      let len := if typ = 4 then 256 else if typ = 5 then 384 else 0
      let pub := if typ = 4 ∨ typ = 5 then Fields.pack [(len, x.pub.headD 0),
          (len, (x.pub.drop 1).headD 0)] else if 6 ≤ typ then x.pub.headD 0 else 0
      exec (.keyInfo q) s = .next (s.answered 0x0C01 q k stOk [(8, slot), (8, typ), fb (s.slotNamed slot),
          fb (s.slotPending slot), rz 14, (32, x.writes), ft x.writtenAt, rz 32, (4096, pub), (32,
          if 6 ≤ typ then (x.pub.drop 1).headD 0 else 0)])) ∧
  (∀ q k s, cmdKeyImport.passes q k s = true → s.win.state = .closed →
      s.writeRefusal ((imports q).map (·.slot)) (q.b 4) = none →
      (imports q).all (fun e => materialOk e.typ (e.material q)) = true →
      CompletesWith (exec (.keyImport q) s) (Opened 0x0C02 q k s)) ∧
  (∀ q k s, cmdKeyGenerate.passes q k s = true → s.win.state = .closed → generateRefusal q s = none →
      CompletesWith (exec (.keyGenerate q) s) (Opened 0x0C03 q k s)) ∧
  (∀ q k s, cmdKeyDelete.passes q k s = true → s.win.state = .closed → deleteRefusal q s = none →
      CompletesWith (exec (.keyDelete q) s) (Opened 0x0C04 q k s)) ∧
  (∀ q k s, cmdKeyNtsInit.passes q k s = true → s.win.state = .closed → ntsInitRefusal s = none →
      CompletesWith (exec (.keyNtsInit q) s) (Opened 0x0C05 q k s)) ∧
  (∀ q k s, cmdKeyPolicySet.passes q k s = true → q.b 0 = false → s.flt.frozen = false → s.banks.state = .seeded →
      exec (.keyPolicySet q) s = .next ((s.staged fun b => { b with key := q.body, keyAttended := false }).answered 0x0C06 q k stOk [])) ∧
  (∀ q k s, cmdKeyPolicySet.passes q k s = true → q.b 0 = true → bit s.banks.active.key 0 = false → s.win.state = .closed →
      s.flt.frozen = false → s.banks.state = .seeded →
      CompletesWith (exec (.keyPolicySet q) s) (Opened 0x0C06 q k s)) ∧
  (∀ q k s, cmdKeyPolicyGet.passes q k s = true →
      exec (.keyPolicyGet q) s = .next (s.answered 0x0C07 q k stOk [(1, s.banks.active.key), rz 31])) ∧
  (∀ q k s, cmdBnOp.passes q k s = true → s.sealBroken = false → s.bn.draining = false → s.bn.enabled = true →
      s.bn.queue.length < 16 → (q.b 16 = true → s.slotPending (q.f 8 8) = false ∧ (s.slot (q.f 8 8)).typ ≠ 0) →
      exec (.bnOp q) s = .next (({ s with bn := { s.bn with queue := s.bn.queue ++ [{ wait := { opcode := 0x0C08, req := q }, operands := if q.b 17 then 0 else q.body >>> 192 }] } } : State).waiting 0x0C08 q k { opcode := 0x0C08, req := q })) ∧
  (∀ q k s, cmdBnAbort.passes q k s = true → q.b 0 = false → s.bn.lanes.filter (fun l => l.2.job.isSome) = [] →
      s.bn.queue ≠ [] →
      CompletesWith (exec (.bnAbort q) s) (fun t => t.bn.queue = []
          ∧ (t.mailbox k).resp = some { opcode := 0x0C09, seq := q.seq, status := stOk, payload := [(8, s.bn.queue.length)] })) ∧
  (∀ q k s, cmdBnEnable.passes q k s = true → q.b 0 = true → s.bn.enabled = false →
      exec (.bnEnable q) s = .next (({ s with bn := { s.bn with enabled := true } } : State).answered 0x0C0A q k stOk [])) ∧
  (∀ q k s, cmdBnEnable.passes q k s = true → q.b 0 = false → s.bn.enabled = true →
      CompletesWith (exec (.bnEnable q) s) (fun t => t.bn.enabled = false ∧ t.bn.draining = true ∧ t.bn.queue = []
          ∧ (∃ w ∈ t.tci.aside, w.opcode = 0x0C0A ∧ w.req = q))) ∧
  (∀ q k s, cmdCryptoStatus.passes q k s = true →
      let b := s.bn
      let busy := maskOf ((List.range 4).filter (fun k => !(s.lane k).idle))
      let used := if s.sealBroken then 0 else (s.keys.slot.filter (fun e => e.2.typ != 0)).length
      exec (.cryptoStatus q) s = .next (s.answered 0x0C0B q k stOk [fb b.enabled, fb b.draining, fb b.entropyOk,
          (1, s.banks.active.key), (4, busy), (8, b.queue.length), (16, used), (48, b.opsDone), (48, b.invalid), (48,
          b.checkFails), (48, b.overtime), (48, b.aborted)]))

/-- The memory commands, opcode group 0x0D: what each answers and does when its checks pass (15_stored_data_protection.md R510
to R520). -/
def Obligations.MemoryCommands : Prop :=
  (∀ q k s, cmdMemStatus.passes q k s = true →
      let m := s.mem
      exec (.memStatus q) s = .next (s.answered 0x0D01 q k stOk [(4, m.erasure.getD 15), fb m.scrub.isSome, fb s.flashWaits,
          fb m.flipArmed, rz 9, (16, m.spare), (16, m.repeats.length), (16, (m.flagged.filter (fun r => !r.fused)).length),
          ft m.lastPatrol, (8, m.severeN), rz 8, (16, m.windowH), (16, m.patrolH), rz 16])) ∧
  (∀ q k s, cmdMemPolicySet.passes q k s = true →
      let s1 := { s with mem := { s.mem with severeN := q.f 0 8, windowH := q.f 16 16, patrolH := q.f 32 16 } }
      exec (.memPolicySet q) s = .next ((if s.plat.warn then s1.suspend .memPolicy else s1.savePolicy).answered 0x0D02 q k stOk [])) ∧
  (∀ q k s first count, cmdMemScrub.passes q k s = true → first = q.f 32 64 / 64 →
      count = (if q.f 96 64 = 0 then regionLines (q.f 0 8) - first else q.f 96 64 / 64) →
      exec (.memScrub q) s = .next (({ s with mem := { s.mem with scrub := some { wait := {}, region := q.f 0 8, first := first, count := count, start := s.time.tick } } } : State).waiting 0x0D03 q k { obj := some .scrub, applied := true })) ∧
  (∀ q k s, cmdMemCounters.passes q k s = true →
      exec (.memCounters q) s = .next (s.answered 0x0D04 q k stOk ((List.range 21).map (fun k => (64,
          Tbl.getD s.mem.counters k 0))))) ∧
  (∀ q k s, cmdMemRetiredList.passes q k s = true →
      let l := (s.mem.retired.drop (q.f 0 16)).take 64
      exec (.memRetiredList q) s = .next (s.answered 0x0D05 q k stOk ([(8, l.length), rz 24]
          ++ l.flatMap (fun r => [(32, r.page), (8, r.cause), rz 24, ft r.tickAt, rz 32])))) ∧
  (∀ q k s, cmdMemFlashStatus.passes q k s = true →
      let f := Tbl.getD s.mem.flash (q.f 0 8) {}
      let p := flashPartition (q.f 0 8)
      exec (.memFlashStatus q) s = .next (s.answered 0x0D06 q k stOk [(8, p.1), (8, p.2), (16, f.maxCorrected),
          (32, f.badBlocks), (32, f.maxErase), ft f.lastScan])) ∧
  (∀ q k s, cmdMemSramFlags.passes q k s = true →
      let l := (s.mem.flagged.drop (q.f 0 16)).take 64
      exec (.memSramFlags q) s = .next (s.answered 0x0D07 q k stOk ([(8, l.length), rz 24]
          ++ l.flatMap (fun r => [(4, r.array), rz 4, (8, r.bank), (16, r.row), fb r.fused, rz 31, ft r.tickAt, rz 32])))) ∧
  (∀ q k s, cmdMemFlipArm.passes q k s = true → s.plat.factoryTest = true → q.f 0 4 ≠ 5 → ¬(q.f 0 4 = 0 ∧ q.f 8 8 = 0) →
      ¬(q.b 4 = true ∧ s.mem.flipArmed = true) →
      exec (.memFlipArm q) s = .next (({ s with mem := { s.mem with flip := q.f 0 144 } } : State).answered 0x0D80 q k stOk [])) ∧
  (∀ q k s, cmdMemFlipArm.passes q k s = true → s.plat.factoryTest = false →
      exec (.memFlipArm q) s = .next (s.answered 0x0D80 q k stNotPermitted [])) ∧
  (∀ q k s, cmdMemFuseProgram.passes q k s = true → s.plat.warn = false → s.mem.flagged = [] →
      CompletesWith (exec (.memFuseProgram q) s) (fun t => t.mem.flagged = [] ∧ t.mem.fuseDone = s.mem.fuseDone
        ∧ (t.mailbox k).resp = some { opcode := 0x0D81, seq := q.seq, status := stOk, payload := [(16, 0), (16, (s.mem.sparesLeft.map (·.2)).foldl min 4)] })) ∧
  (∀ q k s, cmdMemFuseProgram.passes q k s = true → s.plat.warn = true →
      exec (.memFuseProgram q) s = .next (s.answered 0x0D81 q k stNotPermitted [])) ∧
  (∀ q k s, cmdMemFuseProgram.passes q k s = true → s.plat.warn = false → (∀ r ∈ s.mem.flagged, r.bank < 256 ∧ (r.fused = true
      ∨ (s.mem.flagged.filter (fun x => !x.fused && x.array == r.array && x.bank == r.bank)).length ≤ s.mem.spareRows r.array r.bank)) →
      CompletesWith (exec (.memFuseProgram q) s) (fun t => t.mem.flagged = s.mem.flagged.map (fun r => { r with fused := true }) ∧ t.mem.fuseDone = (s.mem.fuseDone || s.mem.flagged.any (fun r => !r.fused))
        ∧ (∃ left, (t.mailbox k).resp = some { opcode := 0x0D81, seq := q.seq, status := stOk, payload := [(16, (s.mem.flagged.filter (fun r => !r.fused)).length), (16, left)] }))) ∧
  (∀ q k s r n, cmdMemFuseProgram.passes q k s = true → s.plat.warn = false → s.mem.flagged = [r] → r.fused = false →
      s.mem.spareRows r.array r.bank = n + 1 →
      CompletesWith (exec (.memFuseProgram q) s) (fun t => t.mem.flagged = [{ r with fused := true }] ∧ t.mem.fuseDone = true
          ∧ t.mem.spareRows r.array r.bank = n
        ∧ (t.mailbox k).resp = some { opcode := 0x0D81, seq := q.seq, status := stOk, payload := [(16, 1), (16, (t.mem.sparesLeft.map (·.2)).foldl min 4)] })) ∧
  (∀ q k s r, cmdMemFuseProgram.passes q k s = true → s.plat.warn = false → s.mem.flagged = [r] → r.fused = false →
      s.mem.spareRows r.array r.bank = 0 →
      CompletesWith (exec (.memFuseProgram q) s) (fun t => t.mem.flagged = [r] ∧ t.mem.sparesLeft = s.mem.sparesLeft
          ∧ t.mem.fuseDone = s.mem.fuseDone
        ∧ (t.mailbox k).resp = some { opcode := 0x0D81, seq := q.seq, status := stBusy, payload := [] }))

/-- The fault and Midwinter commands, opcode group 0x0E: what each answers and does when its checks pass
(16_faults_and_midwinter.md R525 to R555). -/
def Obligations.FaultCommands : Prop :=
  (∀ q k s, cmdFaultStatus.passes q k s = true →
      exec (.faultStatus q) s = .next (s.answered 0x0E01 q k stOk ([(16, s.flt.quietS), (8, s.flt.used), (8, 26),
          (16, s.flt.takeovers), rz 16, (48, s.flt.ledgerFull), rz 16] ++ faultSources.flatMap (fun e => s.sourceFields e.1)))) ∧
  (∀ q k s, cmdFaultLedgerRead.passes q k s = true →
      let l := ((List.range 64).filter (fun i => decide (q.f 0 6 ≤ i) && q.b (8 + recCode (s.record i).state))).take 32
      exec (.faultLedgerRead q) s = .next (s.answered 0x0E02 q k stOk ([(8, l.length), rz 56]
          ++ l.flatMap (fun i => recordFields i (s.record i))))) ∧
  (∀ q k s, cmdFaultClear.passes q k s = true → s.flt.src.any (fun e => e.2.entry.elim false (·.severe)) = false →
      q.f 8 2 = 0 → ((s.record (q.f 0 6)).state = .active ∨ (s.record (q.f 0 6)).state = .quiet) →
      (s.record (q.f 0 6)).serviced = true → (s.record (q.f 0 6)).standing = false →
      CompletesWith (exec (.faultClear q) s) (fun t => (t.record (q.f 0 6)).state = .cleared
          ∧ (t.mailbox k).resp = some { opcode := 0x0E03, seq := q.seq, status := stOk, payload := [(8, 0)] })) ∧
  (∀ q k s, cmdFaultClear.passes q k s = true → s.flt.src.any (fun e => e.2.entry.elim false (·.severe)) = false →
      q.f 8 2 = 1 → (s.record (q.f 0 6)).state = .cleared →
      CompletesWith (exec (.faultClear q) s) (fun t => (t.record (q.f 0 6)).state = .free
          ∧ (t.mailbox k).resp = some { opcode := 0x0E03, seq := q.seq, status := stOk, payload := [(8, 1)] })) ∧
  (∀ q k s, cmdFaultPolicySet.passes q k s = true → (q.f 8 8 = 0 ∨ q.f 8 8 = s.srcN (q.f 0 8) ∨ (isFixed (q.f 0 8) = false
      ∧ q.f 0 8 ≠ 0x13)) →
      CompletesWith (exec (.faultPolicySet q) s) (fun t => (q.f 8 8 ≠ 0 → t.srcN (q.f 0 8) = q.f 8 8) ∧ (q.f 32 32 ≠ 0 →
          t.srcWindow (q.f 0 8) = q.f 32 32)
        ∧ t.flt.quietS = (if q.f 64 16 = 0 then s.flt.quietS else q.f 64 16)
        ∧ (t.mailbox k).resp = some { opcode := 0x0E04, seq := q.seq, status := stOk, payload := [] })) ∧
  (∀ q k s, cmdMidwinterInfo.passes q k s = true →
      exec (.midwinterInfo q) s = .next (s.answered 0x0E05 q k stOk ([(32, s.mid.overwritten), rz 32] ++ [0, 1,
          2].flatMap (fun k => midInfo (Tbl.get? s.mid.loc k))))) ∧
  (∀ q k s r, cmdMidwinterRead.passes q k s = true → Tbl.get? s.mid.loc (q.f 0 2) = some r → q.f 64 64 + q.f 32 32 ≤ r.bytes →
      q.f 128 64 = 0 →
      exec (.midwinterRead q) s = .next (s.answered 0x0E06 q k stOk ([(32, q.f 32 32), rz 96]
          ++ (List.range (q.f 32 32)).map (fun k => (8, midByte (q.f 0 2) r (q.f 64 64 + k)))))) ∧
  (∀ q k s r, cmdMidwinterRead.passes q k s = true → Tbl.get? s.mid.loc (q.f 0 2) = some r → q.f 64 64 + q.f 32 32 ≤ r.bytes →
      q.f 128 64 ≠ 0 → s.plat.pcieUp = true →
      exec (.midwinterRead q) s = .next ((s.emit (.dma (q.f 128 64) (q.f 64 64) (q.f 32 32))).answered 0x0E06 q k stOk [(32, q.f 32 32), rz 96])) ∧
  (∀ q k s, cmdMidwinterRelease.passes q k s = true → (bitList (q.f 0 3) 3).all (fun k => (Tbl.get? s.mid.loc k).isSome) = true →
      CompletesWith (exec (.midwinterRelease q) s) (fun t => (∀ e ∈ t.mid.loc, (bitList (q.f 0 3) 3).contains e.1 = true →
          e.2.released = true)
        ∧ (∀ k, k ≠ 0 → (bitList (q.f 0 3) 3).contains k = true → k ∈ t.mid.erase)
        ∧ (t.mailbox k).resp = some { opcode := 0x0E07, seq := q.seq, status := stOk, payload := [] })) ∧
  (∀ q k s, cmdFaultInject.passes q k s = true → s.plat.factoryTest = true → s.plat.service = true → 3 < q.f 0 8 →
      CompletesWith (exec (.faultInject q) s) (fun t => ∃ v,
          (t.mailbox k).resp = some { opcode := 0x0E80, seq := q.seq, status := stOk, payload := [(8, v)] }
        ∧ t.flt.injects.length = s.flt.injects.length + (q.f 24 8 - 1))) ∧
  (∀ q k s, cmdFaultInject.passes q k s = true → (s.plat.factoryTest = false ∨ s.plat.service = false) →
      exec (.faultInject q) s = .next (s.answered 0x0E80 q k stNotPermitted []))

/-- The platform commands, opcode group 0x0F: what each answers and does when its checks pass (17_power_and_start.md R569 to
R573). -/
def Obligations.PlatformCommands : Prop :=
  (∀ q k s, cmdPlatStatus.passes q k s = true →
      let p := s.plat
      exec (.platStatus q) s = .next (({ s with plat := { p with v12Min := none, vcoreMin := none } } : State).answered 0x0F01 q k stOk [fb p.warn, fb p.pwrOk, fb (decide (22 ≤ p.stepsDone)), fb (decide (24 ≤ p.stepsDone)), fb s.flashWaits, (3, p.warnRails), fb (bit p.warnRails 3), rz 7, (5, p.step), rz 3, (8, s.fw.startReason), (16, p.v12), (16, p.v12Min.getD 0), fi 16 p.vcore, fi 16 (p.vcoreMin.getD 0), (16, p.vsb), (16, p.warnMv), fi 16 p.tcase, fi 16 p.tjMax, (32, p.inputMw), (48, p.supplyEvents), (48, s.warnMs), ft p.lastWarn])) ∧
  (∀ q k s, cmdPlatSupplySet.passes q k s = true → s.plat.warn = false →
      CompletesWith (exec (.platSupplySet q) s) (fun t => t.plat.warnMv = q.f 0 16 ∧ t.plat.warnMvFlash = q.f 0 16
        ∧ (t.mailbox k).resp = some { opcode := 0x0F02, seq := q.seq, status := stOk, payload := [] })) ∧
  (∀ q k s, cmdPlatReset.passes q k s = true →
      exec (.platReset q) s = .next (({ s with fw := { s.fw with restarts := s.fw.restarts ++ [(s.time.tick + q.f 16 16 * tickMs, q.f 0 2)] } } : State).answered 0x0F03 q k stOk [])) ∧
  (∀ q k s, cmdPlatMarchLog.passes q k s = true →
      exec (.platMarchLog q) s = .next (s.answered 0x0F04 q k stOk ([(8, s.plat.stepsDone), (8, s.plat.marchReason),
          fb s.plat.marchFallback, rz 15] ++ (List.range 24).map (fun k => (32, Tbl.getD s.plat.doneUs (k + 1) 0)))))

/-- Register accesses, ring tails and the PCIe link: what each event does when its condition holds, and that it does nothing
when it does not (12_command_interface.md, 01_architecture.md, 03_time_base_and_stamps.md). -/
def Obligations.RegisterEvents : Prop :=
  (∀ (dt : Nat) (s u : State), s.advance dt = u →
      exec (.timeSnapCapture dt) s = .next ({ u with snap := {
        seconds := u.time.sec, nanoseconds := u.time.ns, subns := u.time.frac / 2 ^ 24, timeValid := u.time.valid
        leapPending := u.leap.pending, leapDir := u.leap.dir, stepEpoch := u.time.stepEpoch, slewing := u.time.slew.active } })) ∧
  (∀ (dt value : Nat) (s u : State), s.advance dt = u →
      CompletesWith (exec (.intStatusClear dt value) s) (fun t => t = { u with intr := { u.intr with status := t.intr.status } }
        ∧ ∀ k, k < 12 → bit t.intr.status k = (bit u.intr.status k && !bit value k))) ∧
  (∀ (dt value : Nat) (s u : State), s.advance dt = u →
      CompletesWith (exec (.intMaskWrite dt value) s) (fun t => t = { u with intr := t.intr, trace := t.trace }
          ∧ t.intr.mask = value % 4096 ∧ t.intr.status = u.intr.status)) ∧
  (∀ (dt value : Nat) (s u : State), s.advance dt = u → (u.evt.lostSince = 0 ∨ u.fw.running = false) →
      exec (.evtTailWrite dt value) s = .next ({ u with evt := { u.evt with tail := value % 1024 } })) ∧
  (∀ (dt value : Nat) (s u : State), s.advance dt = u →
      CompletesWith (exec (.evtTailWrite dt value) s) (fun t => t.evt.tail = value % 1024)) ∧
  (∀ (dt : Nat) (s u : State), s.advance dt = u →
      exec (.evtLostRead dt) s = .next ({ u with evt := { u.evt with lost := 0 }, trace := .read 0x58 u.evt.lost :: u.trace })) ∧
  (∀ (dt : Nat) (s u : State), s.advance dt = u →
      exec (.strayPressesRead dt) s = .next ({ u with win := { u.win with stray := 0 }, trace := .read 0x68 u.presence :: u.trace })) ∧
  (∀ (dt ring value : Nat) (s u : State), s.advance dt = u → ring < 4 →
      exec (.hportTxTailWrite dt ring value) s = .next (u.updRing ring (fun r => { r with tail := value % 4096 }))) ∧
  (∀ (dt ring value : Nat) (s u : State), s.advance dt = u → ring < 4 →
      exec (.hportRxTailWrite dt ring value) s = .next (u.updRing (4 + ring) (fun r => { r with tail := value % 4096 }))) ∧
  (∀ (dt offset : Nat) (access : Access) (value : Nat) (s u : State) size, s.advance dt = u → u.plat.pcieUp = true →
      access = .write size → offset < 0x10000 → size ≠ 4 → size ≠ 8 →
      exec (.registerWrite dt offset access value) s = .next (u)) ∧
  (∀ (dt offset : Nat) (access : Access) (value : Nat) (s u : State), s.advance dt = u → u.plat.pcieUp = true →
      offset = 0x60 → access = .write 4 → value < 2 ^ 32 → bit value 16 = true →
      exec (.registerWrite dt offset access value) s = .next ({ u with pace := { u.pace with negSeen := false } })) ∧
  (∀ (dt offset : Nat) (access : Access) (value : Nat) (s u : State), s.advance dt = u → u.plat.pcieUp = true →
      offset = 0x70 → access = .write 4 → value < 2 ^ 32 →
      exec (.registerWrite dt offset access value) s = .next ({ u with intr := { u.intr with holdRx := bits value 0 16, holdTx := bits value 16 16 } })) ∧
  (∀ (dt offset : Nat) (access : Access) (value : Nat) (s u : State), s.advance dt = u → u.plat.pcieUp = true →
      offset = 0x18 → access = .write 4 → value < 2 ^ 32 →
      CompletesWith (exec (.registerWrite dt offset access value) s) (fun t => t = { u with intr := { u.intr with status := t.intr.status } }
        ∧ ∀ k, k < 12 → bit t.intr.status k = (bit u.intr.status k && !bit value k))) ∧
  (∀ (dt offset : Nat) (access : Access) (value : Nat) (s u : State) size, s.advance dt = u → u.plat.pcieUp = true →
      access = .read size →
      exec (.registerWrite dt offset access value) s = .next ((u.barRead offset size).2.emit (.bar0 offset size (u.barRead offset size).1))) ∧
  (∀ (dt offset : Nat) (access : Access) (value : Nat) (s u : State) size, s.advance dt = u → u.plat.pcieUp = false →
      (access = .read size ∨ access = .write size) →
      exec (.registerWrite dt offset access value) s = .next (u)) ∧
  (∀ (dt offset : Nat) (access : Access) (value : Nat) (s u : State) n, s.advance dt = u → access = .spi 3 n →
      offset < 2 ^ 24 → offset % 4 = 0 →
      exec (.registerWrite dt offset access value) s = .next ((u.spiRead n offset 0).2.emit (.miso (u.spiRead n offset 0).1))) ∧
  (∀ (dt offset : Nat) (access : Access) (value : Nat) (s u : State) n, s.advance dt = u → access = .spi 2 n → offset < 2 ^ 24 →
      exec (.registerWrite dt offset access value) s = .next (u.spiWrite (toBytes n value) offset [])) ∧
  (∀ (dt offset : Nat) (access : Access) (value : Nat) (s u : State) instruction n, s.advance dt = u →
      access = .spi instruction n → instruction % 256 ≠ 2 → instruction % 256 ≠ 3 →
      exec (.registerWrite dt offset access value) s = .next (u.emit (.miso []))) ∧
  (∀ (dt kind : Nat) (frames : List Nat) (s u : State), s.advance dt = u → kind < 4 →
      CompletesWith (exec (.pcieLinkReset dt kind frames) s) (fun t => t.intr = { u.intr with mask := 0x0FFF, msixEn := false, delayed := 0 } ∧ t.stamps.enable = false
        ∧ t.stamps.draining = (u.stamps.draining || u.stamps.enable) ∧ (∀ k, k < 8 → (t.ring k).enable = false)
        ∧ t.plat = { u.plat with
            pcieUp := u.plat.pcieUp && kind == 0, perst := u.plat.perst && kind != 3
            pcieGen := if kind = 0 then u.plat.pcieGen else 0, pcieWidth := if kind = 0 then u.plat.pcieWidth else 0 }
                ∧ t.tci = u.tci)) ∧
  (∀ (dt : Nat) (s u : State), s.advance dt = u →
      exec (.perstNRelease dt) s = .next ({ u with plat := { u.plat with perst := true } })) ∧
  (∀ (dt : Nat) (link : Training) (s u : State), s.advance dt = u → u.plat.perst = true → u.railsOn = true → 1 ≤ link.gen →
      link.gen ≤ 4 → (link.width = 1 ∨ link.width = 2 ∨ link.width = 4) →
      exec (.pcieLinkUp dt link) s = .next ({ u with plat := { u.plat with pcieUp := true, pcieGen := link.gen, pcieWidth := link.width }, intr := { u.intr with msixEn := link.msix } })) ∧
  (∀ (dt : Nat) (link : Training) (s u : State), s.advance dt = u → u.plat.perst = false →
      exec (.pcieLinkUp dt link) s = .next (u)) ∧
  (∀ (dt vector : Nat) (s u : State) last, s.advance dt = u → vector < 12 → bit u.intr.delayed vector = true →
      u.intr.msixEn = true → Tbl.get? u.intr.lastVec vector = some last → last + u.intr.holdoff vector ≤ u.time.tick →
      bit (u.intr.entry vector) 96 = false →
      exec (.hportHoldoffExpire dt vector) s = .next ({ u with
        intr := { u.intr with delayed := clearBits u.intr.delayed (2 ^ vector), signalled := u.intr.signalled ||| 2 ^ vector
                              lastVec := Tbl.put u.intr.lastVec vector u.time.tick }
        trace := .vector vector (bits (u.intr.entry vector) 0 96) :: u.trace })) ∧
  (∀ (dt offset : Nat) (access : WindowAccess) (s u : State) data, s.advance dt = u → access = .write data →
      u.plat.pcieUp = true → Memory.wf u.mem.bytes = true →
      CompletesWith (exec (.bar2Write dt offset access) s) (fun t => ∀ a, Memory.read t.mem.bytes a = (if offset ≤ a
          ∧ a < min windowBytes (offset + data.length) then BitVec.ofNat 8 ((nth data (a - offset)).getD 0)
        else Memory.read u.mem.bytes a))) ∧
  (∀ (dt offset : Nat) (access : WindowAccess) (s u : State) n, s.advance dt = u → access = .read n → u.plat.pcieUp = true →
      offset + n ≤ windowBytes → (u.windowRead 4 offset n).1 = true →
      CompletesWith (exec (.bar2Write dt offset access) s) (fun t => t.trace = .bar2 offset false (ofBytes (Memory.readAll u.mem.bytes offset n)) :: (u.windowRead 4 offset n).2.trace ∧ t.mem.bytes = u.mem.bytes)) ∧
  (∀ (dt offset : Nat) (access : WindowAccess) (s u : State) n, s.advance dt = u → access = .read n → u.plat.pcieUp = true →
      offset + n ≤ windowBytes → (u.windowRead 4 offset n).1 = false →
      CompletesWith (exec (.bar2Write dt offset access) s) (fun t => t.trace = .bar2 offset true (2 ^ (8 * n) - 1) :: (u.windowRead 4 offset n).2.trace ∧ t.mem.bytes = u.mem.bytes)) ∧
  (∀ (dt offset : Nat) (access : WindowAccess) (s u : State), s.advance dt = u → u.plat.pcieUp = false →
      exec (.bar2Write dt offset access) s = .next (u))

/-- Supplies, resets and the thermal trip: what each event does when its condition holds, and that it does nothing when it
does not (17_power_and_start.md). -/
def Obligations.PowerEvents : Prop :=
  (∀ (dt : Nat) (r : Rails) (s u : State), s.advance dt = u → u.plat.standby = false →
      exec (.pwrOkRise dt r) s = .next ({ u with plat := { u.plat with pwrOk := true } })) ∧
  (∀ (dt : Nat) (r : Rails) (s u : State), s.advance dt = u →
      CompletesWith (exec (.pwrOkRise dt r) s) (fun t => t.plat.pwrOk = true)) ∧
  (∀ (dt : Nat) (s u : State), s.advance dt = u → u.railsOn = false →
      exec (.pwrOkFall dt) s = .next ({ u with plat := { u.plat with pwrOk := false, clearAt := none } })) ∧
  (∀ (dt : Nat) (s u : State), s.advance dt = u → u.railsOn = true →
      CompletesWith (exec (.pwrOkFall dt) s) (fun t => t.plat.pwrOk = false ∧ t.plat.warn = true ∧ (u.plat.warn = false →
          t.plat.warnTick = u.time.tick ∧ t.plat.lastWarn = u.now))) ∧
  (∀ (dt : Nat) (service factory : Bool) (s u : State), s.advance dt = u → u.plat.resetN = true → u.plat.standby = true →
      CompletesWith (exec (.resetNAssert dt service factory) s) (fun t => t.plat.resetN = false ∧ t.fw.startReason = 1
          ∧ t.fw.running = false ∧ t.plat.step = 0 ∧ t.plat.pcieUp = false ∧ t.dom.resetCount = (u.dom.resetCount + 1) % 65536
        ∧ t.leap.table = u.leap.flash ∧ t.banks.slots = u.banks.slots ∧ t.keys.mirror = u.keys.mirror ∧ t.mem.bytes = []
            ∧ t.pending = u.pending)) ∧
  (∀ (dt : Nat) (service factory : Bool) (s u : State), s.advance dt = u → u.plat.resetN = true → u.plat.standby = false →
      exec (.resetNAssert dt service factory) s = .next ({ u with plat := { u.plat with resetN := false } })) ∧
  (∀ (dt vsb : Nat) (service factory : Bool) (back : List Bool) (s u : State), s.advance dt = u → u.plat.standby = false →
      2900 < vsb → back = [] →
      CompletesWith (exec (.powerOnReset dt vsb service factory back) s) (fun t => t.plat.standby = true
          ∧ t.plat.standbyAt = u.time.tick ∧ t.plat.vsb = vsb ∧ t.sealLoop.closed = true ∧ t.sealLoop.latch = false
        ∧ t.fw.startReason = 0 ∧ t.plat.warn = false ∧ t.flt.recoveries = 0 ∧ t.fw.running = false ∧ t.plat.step = 0
            ∧ t.plat.pcieUp = false ∧ t.dom.resetCount = (u.dom.resetCount + 1) % 65536
        ∧ t.leap.table = u.leap.flash ∧ t.banks.slots = u.banks.slots ∧ t.keys.mirror = u.keys.mirror ∧ t.mem.bytes = []
            ∧ t.pending = u.pending)) ∧
  (∀ (dt vsb : Nat) (service factory : Bool) (back : List Bool) (s u : State), s.advance dt = u → (u.plat.standby = true
      ∨ vsb ≤ 2900) →
      exec (.powerOnReset dt vsb service factory back) s = .next (u)) ∧
  (∀ (dt : Nat) (service factory : Bool) (s u : State), s.advance dt = u →
      u.fw.restarts.any (fun e => e.2 == 0 && decide (e.1 ≤ u.time.tick)) = true →
      CompletesWith (exec (.fullReset dt service factory) s) (fun t => t.fw.startReason = 5 ∧ t.fw.running = false
          ∧ t.plat.step = 0 ∧ t.plat.pcieUp = false ∧ t.dom.resetCount = (u.dom.resetCount + 1) % 65536
        ∧ t.leap.table = u.leap.flash ∧ t.banks.slots = u.banks.slots ∧ t.keys.mirror = u.keys.mirror ∧ t.mem.bytes = []
            ∧ t.pending = u.pending)) ∧
  (∀ (dt : Nat) (service factory : Bool) (s u : State), s.advance dt = u → u.fw.restarts = [] →
      exec (.fullReset dt service factory) s = .next (u)) ∧
  (∀ (dt : Nat) (r : Rails) (s u : State), s.advance dt = u → u.plat.standby = true → u.plat.warn = false →
      bit u.plat.warnRails 0 = false → bit (railsLow r u.plat.warnMv u.railsOn) 0 = true →
      CompletesWith (exec (.supplyWarnSet dt r) s) (fun t => t.plat.warn = true ∧ t.plat.warnTick = u.time.tick
          ∧ t.plat.v12 = r.v12 ∧ t.plat.warnRails = railsLow r u.plat.warnMv u.railsOn)) ∧
  (∀ (dt : Nat) (r : Rails) (s u : State), s.advance dt = u → u.plat.standby = false →
      exec (.supplyWarnSet dt r) s = .next (u)) ∧
  (∀ (dt : Nat) (r : Rails) (s u : State) since, s.advance dt = u → u.plat.standby = true → u.plat.warn = true →
      railsLow r u.plat.warnMv u.railsOn = 0 → u.plat.pwrOk = true → u.plat.clearAt = some since →
      since + 5 * tickMs ≤ u.time.tick → u.plat.flashWork = [] →
      CompletesWith (exec (.supplyWarnClear dt r) s) (fun t => t.plat.warn = false
          ∧ t.plat.supplyEvents = inc48 u.plat.supplyEvents 1
          ∧ t.plat.warnTicks = u.plat.warnTicks + (u.time.tick - u.plat.warnTick))) ∧
  (∀ (dt : Nat) (r : Rails) (service factory : Bool) (s u : State), s.advance dt = u → u.plat.standby = true → r.vsb ≤ 2900 →
      CompletesWith (exec (.railResetLevel dt r service factory) s) (fun t => t.plat.standby = false ∧ t.fw.startReason = 0
          ∧ t.fw.running = false ∧ t.plat.step = 0 ∧ t.dom.resetCount = u.dom.resetCount)) ∧
  (∀ (dt : Nat) (r : Rails) (service factory : Bool) (s u : State), s.advance dt = u → u.plat.standby = true → 2900 < r.vsb →
      u.railsOn = true → r.v12 ≤ 9600 →
      CompletesWith (exec (.railResetLevel dt r service factory) s) (fun t => t.fw.startReason = 2 ∧ t.plat.supplyWait = true
          ∧ t.plat.step = 0 ∧ t.fw.running = false ∧ t.dom.resetCount = (u.dom.resetCount + 1) % 65536)) ∧
  (∀ (dt : Nat) (r : Rails) (service factory : Bool) (s u : State), s.advance dt = u → u.plat.standby = true → 2900 < r.vsb →
      u.railsOn = true → 9600 < r.v12 → (r.vcore ≤ -70 ∨ r.vdram ≤ -50) →
      CompletesWith (exec (.railResetLevel dt r service factory) s) (fun t => t.fw.startReason = 3 ∧ t.plat.supplyWait = true
          ∧ t.plat.step = 0 ∧ t.fw.running = false ∧ t.dom.resetCount = (u.dom.resetCount + 1) % 65536)) ∧
  (∀ (dt : Nat) (tj : Int) (service factory : Bool) (s u : State), s.advance dt = u → 32000 ≤ tj → u.plat.hot = false →
      u.plat.standby = true →
      CompletesWith (exec (.thermalTrip dt tj service factory) s) (fun t => t.plat.hot = true ∧ t.plat.tjMax = tj
          ∧ t.fw.startReason = 4 ∧ t.fw.running = false ∧ t.plat.step = 0 ∧ t.plat.pcieUp = false
          ∧ t.dom.resetCount = (u.dom.resetCount + 1) % 65536
        ∧ t.leap.table = u.leap.flash ∧ t.banks.slots = u.banks.slots ∧ t.keys.mirror = u.keys.mirror ∧ t.mem.bytes = []
            ∧ t.pending = u.pending)) ∧
  (∀ (dt : Nat) (tj : Int) (service factory : Bool) (s u : State), s.advance dt = u → tj < 32000 →
      exec (.thermalTrip dt tj service factory) s = .next (u)) ∧
  (∀ (dt : Nat) (tj : Int) (s u : State), s.advance dt = u → u.plat.hot = true → tj < 28160 →
      CompletesWith (exec (.thermalRelease dt tj) s) (fun t => t = { u with plat := { u.plat with hot := false, tjMax := tj, inReset := t.plat.inReset } }
        ∧ t.plat.inReset = ({ u with plat := { u.plat with hot := false, tjMax := tj } } : State).plat.hold)) ∧
  (∀ (dt : Nat) (tj : Int) (s u : State), s.advance dt = u → 28160 ≤ tj →
      exec (.thermalRelease dt tj) s = .next (u)) ∧
  (∀ (dt : Nat) (r : Rails) (s u : State) v, s.advance dt = u → u.plat.standby = true →
      State.warnIfFallen u (u.readRails r) = v → v.fw.startReason ≠ 2 → v.plat.supplyWait = true → v.plat.pwrOk = true →
      bit v.plat.warnRails 0 = false → v.plat.resetAt + 100 * tickMs ≤ v.time.tick →
      CompletesWith (exec (.supplyRestart dt r) s) (fun t => t.plat.supplyWait = false ∧ t.fw = v.fw ∧ t.banks = v.banks)) ∧
  (∀ (dt : Nat) (s u : State), s.advance dt = u →
      CompletesWith (exec (.resetNRelease dt) s) (fun t => t = { u with plat := { u.plat with resetN := true, inReset := t.plat.inReset } }
        ∧ t.plat.inReset = ({ u with plat := { u.plat with resetN := true } } : State).plat.hold)) ∧
  (∀ (dt : Nat) (s u : State) ev, s.advance dt = u → u.fw.restarts.find? (fun e => e.2 != 0 && decide (e.1 ≤ u.time.tick)) = some ev → u.coreRuns = true →
      CompletesWith (exec (.processorOnlyRestart dt) s) (fun t => t.fw.running = false ∧ t.fw.imageOk = false
          ∧ t.fw.recovery = false ∧ t.tci.aside = (if u.fw.running then [] else u.tci.aside))) ∧
  (∀ (dt : Nat) (s u : State), s.advance dt = u → u.fw.restarts = [] →
      exec (.processorOnlyRestart dt) s = .next (u))

/-- March, the boot ROM, firmware start, presence presses and the seal: what each event does when its condition holds, and
that it does nothing when it does not (17_power_and_start.md, 12_command_interface.md). -/
def Obligations.StartAndPresenceEvents : Prop :=
  (∀ (dt : Nat) (s u : State), s.advance dt = u → u.plat.inReset = none → u.plat.step = 0 → u.canMarch = true →
      exec (.marchStep dt) s = .next ({ u with plat := { u.plat with
        step := 1, stepAt := u.time.tick, marchT0 := u.time.tick, marchReason := u.fw.startReason, stepsDone := 0,
            doneUs := [] } })) ∧
  (∀ (dt : Nat) (s u : State), s.advance dt = u → u.plat.inReset = none → u.plat.step = 5 → u.plat.stepsDone < 5 →
      CompletesWith (exec (.marchStep dt) s) (fun t => t.plat.stepsDone = 5
          ∧ Tbl.get? t.plat.doneUs 5 = some ((u.time.tick - u.plat.marchT0) / tickUs))) ∧
  (∀ (dt : Nat) (s u : State), s.advance dt = u → u.plat.inReset ≠ none →
      exec (.marchStep dt) s = .next (u)) ∧
  (∀ (dt : Nat) (s u : State) slot, s.advance dt = u → u.coreRuns = true → u.fw.running = false → u.fw.imageOk = false →
      u.fw.recovery = false → u.flt.takeAt = none → u.fw.choice = some slot → slot = u.fw.nextSlot →
      CompletesWith (exec (.bootImageSelect dt) s) (fun t => t.fw = { u.fw with slot := slot, fallback := false, imageOk := true } ∧ t.banks = u.banks ∧ t.tci = u.tci)) ∧
  (∀ (dt : Nat) (s u : State), s.advance dt = u → u.coreRuns = true → u.fw.running = false → u.fw.imageOk = false →
      u.fw.recovery = false → u.flt.takeAt = none → u.fw.choice = none → u.tci.rung = [] →
      CompletesWith (exec (.bootImageSelect dt) s) (fun t => t.fw = { u.fw with recovery := true })) ∧
  (∀ (dt : Nat) (s u : State), s.advance dt = u → u.coreRuns = true → u.fw.running = false → u.fw.imageOk = true →
      u.tci.rung = [] →
      CompletesWith (exec (.fwStarted dt) s) (fun t => t.fw.running = true ∧ t.fw.everStarted = true
          ∧ t.fw.startTick = u.time.tick ∧ t.bn.enabled = true ∧ t.tci.lost = [])) ∧
  (∀ (dt : Nat) (s u : State), s.advance dt = u → u.fw.running = true →
      exec (.fwStarted dt) s = .next (u)) ∧
  (∀ (dt : Nat) (s u : State), s.advance dt = u → u.fw.running = true → u.fw.startTick + 60 * tickS ≤ u.time.tick →
      exec (.imageConfirm dt) s = .next ({ u with fw := u.fw.setImage u.fw.slot { (u.fw.image u.fw.slot) with confirmed := true, trials := 0 } })) ∧
  (∀ (dt : Nat) (s u : State), s.advance dt = u → u.time.tick < u.fw.startTick + 60 * tickS →
      exec (.imageConfirm dt) s = .next (u)) ∧
  (∀ (pin : PinTrace) (s u : State), s.feedPin pin = u → u.win.present = false → u.debounced = true → u.windowStands = false →
      exec (.presentPressStart pin) s = .next ({ u with win := { u.win with present := true, pressAt := u.time.tick, counted := false, pressIn := false } })) ∧
  (∀ (pin : PinTrace) (s u : State) w, s.feedPin pin = u → u.win.present = false → u.debounced = true →
      u.windowStands = true → u.win.held = some w →
      CompletesWith (exec (.presentPressStart pin) s) (fun t => t.win = { u.win with present := true, pressAt := u.time.tick, counted := false, pressIn := true, state := .pressing } ∧ t.tci = u.tci)) ∧
  (∀ (pin : PinTrace) (s u : State), s.feedPin pin = u → u.debounced = false →
      exec (.presentPressStart pin) s = .next (u)) ∧
  (∀ (pin : PinTrace) (s u : State), s.feedPin pin = u → u.win.present = true → u.debounced = true → u.win.state ≠ .pressing →
      exec (.presentRelease pin) s = .next ({ u with win := { u.win with present := false, pressIn := false } })) ∧
  (∀ (pin : PinTrace) (s u : State) w, s.feedPin pin = u → u.win.present = true → u.debounced = true →
      u.win.state = .pressing → u.win.held = some w →
      CompletesWith (exec (.presentRelease pin) s) (fun t => t.win = { u.win with present := false, pressIn := false, state := .opened } ∧ t.tci = u.tci)) ∧
  (∀ (pin : PinTrace) (s u : State), s.feedPin pin = u → u.debounced = false →
      exec (.presentRelease pin) s = .next (u)) ∧
  (∀ (dt : Nat) (s u : State), s.advance dt = u → u.win.present = true → u.win.counted = false →
      u.win.pressAt + 200 * tickMs ≤ u.time.tick → u.win.state = .closed →
      exec (.pressQualified dt) s = .next ({ u with win := { u.win with counted := true, stray := min (u.win.stray + 1) 255 } })) ∧
  (∀ (dt : Nat) (s u : State) w, s.advance dt = u → u.win.present = true → u.win.counted = false →
      u.win.pressAt + 200 * tickMs ≤ u.time.tick → u.win.state = .pressing → u.windowStands = true → u.win.held = some w →
      w.suspended u = true → w.opcode ≠ 0x010A → w.opcode ≠ 0x010B →
      CompletesWith (exec (.pressQualified dt) s) (fun t => t.win.state = .closed ∧ t.win.held = none
          ∧ t.win.actions = u.win.actions ++ [w] ∧ t.tci = u.tci)) ∧
  (∀ (dt : Nat) (s u : State) w k, s.advance dt = u → u.win.present = true → u.win.counted = false →
      u.win.pressAt + 200 * tickMs ≤ u.time.tick → u.win.state = .pressing → u.windowStands = true → u.win.held = some w →
      w.opcode = 0x0105 → w.req.src = .host k → u.plat.warn = false →
      CompletesWith (exec (.pressQualified dt) s) (fun t => t.win.state = .closed ∧ t.win.held = none ∧ t.inb.enable = true
        ∧ (t.mailbox k).resp = some { opcode := 0x0105, seq := w.req.seq, status := stOk, payload := [] })) ∧
  (∀ (dt : Nat) (s u : State) w k, s.advance dt = u → u.win.present = true → u.win.counted = false →
      u.win.pressAt + 200 * tickMs ≤ u.time.tick → u.win.state = .pressing → u.windowStands = true → u.win.held = some w →
      w.opcode = 0x010A → w.req.src = .host k → u.sealReady = false →
      CompletesWith (exec (.pressQualified dt) s) (fun t => t.win.state = .closed ∧ t.win.held = none ∧ t.sealLoop = u.sealLoop
        ∧ (t.mailbox k).resp = some { opcode := 0x010A, seq := w.req.seq, status := stNotPermitted, payload := [] })) ∧
  (∀ (dt : Nat) (s u : State) w k, s.advance dt = u → u.win.state ≠ .closed → u.win.deadline ≤ u.time.tick →
      u.win.held = some w → w.req.src = .host k →
      CompletesWith (exec (.attendWindowExpire dt) s) (fun t => t.win = { u.win with state := .closed, held := none, pressIn := false }
        ∧ (t.mailbox k).resp = some { opcode := w.opcode, seq := w.req.seq, status := stAttendExpired, payload := [] }
            ∧ (t.mailbox k).state = .done)) ∧
  (∀ (dt : Nat) (s u : State), s.advance dt = u → u.win.state = .closed →
      exec (.attendWindowExpire dt) s = .next (u)) ∧
  (∀ (dt : Nat) (s u : State) w k rest, s.advance dt = u → u.win.actions = w :: rest → u.plat.warn = false →
      u.fw.running = true → w.opcode = 0x0105 → w.req.src = .host k →
      CompletesWith (exec (.attendActionResume dt) s) (fun t => t.win = { u.win with actions := rest } ∧ t.inb.enable = true
          ∧ (t.mailbox k).resp = some { opcode := 0x0105, seq := w.req.seq, status := stOk, payload := [] })) ∧
  (∀ (dt : Nat) (s u : State), s.advance dt = u → u.plat.warn = true →
      exec (.attendActionResume dt) s = .next (u)) ∧
  (∀ (dt : Nat) (s u : State), s.advance dt = u → u.sealLoop.armed = true → u.sealBroken = false → u.sealLoop.closed = false →
      u.sealLoop.closedAt + tickMs ≤ u.time.tick →
      CompletesWith (exec (.sealBreak dt) s) (fun t => t.sealLoop = { u.sealLoop with latch := true, flash := true }
          ∧ t.keys = { u.keys with slot := u.keys.slot.mapVal KeySlot.blank, cache := [], writes := [], mirror := none, salt := false, erase := true }
        ∧ t.ts.cookies = [])) ∧
  (∀ (dt : Nat) (s u : State), s.advance dt = u → u.sealLoop.armed = false →
      exec (.sealBreak dt) s = .next (u)) ∧
  (∀ (dt : Nat) (s u : State), s.advance dt = u → u.sealLoop.closed = true →
      exec (.sealBreak dt) s = .next (u)) ∧
  (∀ (dt : Nat) (s u : State), s.advance dt = u → u.keys.erase = true → u.plat.warn = false → u.plat.inReset = none →
      u.plat.pwrOk = true →
      exec (.keyMirrorErase dt) s = .next ({ u with keys := { u.keys with erase := false } })) ∧
  (∀ (dt : Nat) (back : List Bool) (s u : State), s.advance dt = u → back = [] →
      exec (.sealClosedChange dt back) s = .next (u)) ∧
  (∀ (dt : Nat) (back : List Bool) (s u : State) b, s.advance dt = u → back = [b] → u.time.tick % sealPeriod = 0 →
      u.sealLoop.closed = true → b ≠ u.sealLoop.drive u.time.tick →
      CompletesWith (exec (.sealClosedChange dt back) s) (fun t => t = { u with sealLoop := { u.sealLoop with closed := false, closedAt := u.time.tick, missAt := u.time.tick }, intr := t.intr, evt := t.evt, trace := t.trace })) ∧
  (∀ (dt : Nat) (back : List Bool) (s u : State) b, s.advance dt = u → back = [b] → u.time.tick % sealPeriod = 0 →
      u.sealLoop.closed = false → b = u.sealLoop.drive u.time.tick → u.sealLoop.missAt + tickMs ≤ u.time.tick →
      CompletesWith (exec (.sealClosedChange dt back) s) (fun t => t = { u with sealLoop := { u.sealLoop with closed := true, closedAt := u.time.tick }, intr := t.intr, evt := t.evt, trace := t.trace })) ∧
  (∀ (dt : Nat) (back : List Bool) (s u : State) b, s.advance dt = u → back = [b] → u.time.tick % sealPeriod = 0 →
      u.sealLoop.closed = true → b = u.sealLoop.drive u.time.tick →
      exec (.sealClosedChange dt back) s = .next (u))

/-- Pace gates, time steps, slews and leap seconds: what each event does when its condition holds, and that it does nothing
when it does not (02_self_timed_operation.md, 03_time_base_and_stamps.md). -/
def Obligations.TimeEvents : Prop :=
  (∀ (dt : Nat) (readings : PaceReadings) (tj : Int) (s u : State), s.advance dt = u → (u.plat.step < 5
      ∨ u.paceGateDue = false) →
      exec (.paceGateClose dt readings tj) s = .next (u)) ∧
  (∀ (dt : Nat) (readings : PaceReadings) (tj : Int) (s u : State), s.advance dt = u → 5 ≤ u.plat.step →
      u.paceGateDue = true → readings.dry = [] →
      CompletesWith (exec (.paceGateClose dt readings tj) s) (fun t => t.pace = { u.pace.gate (paceUnits.map (fun k => (k, paceHeadroom k ((nth readings.counts k).getD 0)))) (clamp (-128) 127 tj) with gateAt := u.time.tick }
        ∧ t.pace.valid = true ∧ t.pace.tjMax = clamp (-128) 127 tj
            ∧ t.pace.negSeen = (u.pace.negSeen || (t.pace.negative && !u.pace.negative))
        ∧ t = { u with pace := t.pace, intr := t.intr, evt := t.evt, trace := t.trace })) ∧
  (∀ (dt : Nat) (s u : State) c, s.advance dt = u → u.dueSched = some c → u.schedSteps c = true → u.armedRows = [] →
      CompletesWith (exec (.timeStepApply dt) s) (fun t => t.time = ({ u.time with scheds := u.time.scheds.erase c }).stepBy (u.schedDelta c) ∧ t.time.valid = true
        ∧ t.time.stepEpoch = (if u.time.valid then (u.time.stepEpoch + 1) % 256 else u.time.stepEpoch)
        ∧ t.time.stepSum = u.time.stepSum + u.schedDelta c)) ∧
  (∀ (dt : Nat) (s u : State), s.advance dt = u → u.dueSched = none →
      exec (.timeStepApply dt) s = .next (u)) ∧
  (∀ (dt : Nat) (s u : State) c, s.advance dt = u → u.dueSched = some c → u.schedSteps c = false → u.time.valid = true →
      c.src ≠ 0 →
      CompletesWith (exec (.slewStart dt) s) (fun t => t.time = ({ u.time with scheds := u.time.scheds.erase c }).startSlew (u.schedDelta c) u.banks.active.slopeLimit ∧ t.time.stepEpoch = u.time.stepEpoch)) ∧
  (∀ (dt : Nat) (s u : State), s.advance dt = u → u.dueSched = none →
      exec (.slewStart dt) s = .next (u)) ∧
  (∀ (dt : Nat) (s u : State), s.advance dt = u → u.time.slew.active = true → u.time.slew.rem56 = 0 →
      exec (.slewEnd dt) s = .next ({ u with time := ({ u.time with slew := {} } : TimeS).loadInc })) ∧
  (∀ (dt : Nat) (s u : State), s.advance dt = u → u.leap.pending = true → u.leap.pendAt ≤ u.time.sec →
      leapPendingAt u.time.sec u.leap.table = none →
      CompletesWith (exec (.leapApplied dt) s) (fun t => t.leap = { u.leap with pending := false, dir := false }
          ∧ t.time = u.time)) ∧
  (∀ (dt : Nat) (s u : State), s.advance dt = u → u.leap.pending = false →
      exec (.leapApplied dt) s = .next (u)) ∧
  (∀ (dt : Nat) (s u : State) sec off before, s.advance dt = u → leapPendingAt u.time.sec u.leap.table = some (sec, off,
      before) →
      exec (.leapPendingStart dt) s = .next ({ u with leap := { u.leap with pending := true, dir := decide (off < before), pendAt := sec } })) ∧
  (∀ (dt : Nat) (s u : State), s.advance dt = u → u.fw.running = true → u.plat.warn = false → u.leap.flashDirty = true →
      exec (.leapTablePersist dt) s = .next ({ u with leap := { u.leap with flash := u.leap.table, flashDirty := false } })) ∧
  (∀ (dt : Nat) (s u : State), s.advance dt = u → u.plat.warn = true →
      exec (.leapTablePersist dt) s = .next (u))

/-- Frames received, classified and learned, live edits and snooping: what each event does when its condition holds, and that
it does nothing when it does not (10_port_macs.md, 11_switch_core.md). -/
def Obligations.IngressEvents : Prop :=
  (∀ (dt port phase lane : Nat) (f : Frame) (s u : State), s.advance dt = u → port < 56 → (u.port port).link = .disabled →
      exec (.frameReceive dt port phase lane f) s = .next (u)) ∧
  (∀ (dt port phase lane : Nat) (f : Frame) (s u : State), s.advance dt = u → port < 56 → (u.port port).link = .down →
      exec (.frameReceive dt port phase lane f) s = .next (u.stat port 53 1)) ∧
  (∀ (dt port phase lane : Nat) (f : Frame) (s u : State), s.advance dt = u → port < 56 → (u.port port).link = .up →
      f.smd = true → u.banks.active.preemptEn port = false → (u.port port).draining = false →
      exec (.frameReceive dt port phase lane f) s = .next (u.stat port 24 1)) ∧
  (∀ (dt port phase lane : Nat) (f : Frame) (s u : State), s.advance dt = u → port < 56 → (u.port port).link = .up →
      f.smd = false → (u.port port).fifo + 64 ≤ fifoBytes port → f.len < 64 → f.fcsOk = true → f.pcsErr = false →
      CompletesWith (exec (.frameReceive dt port phase lane f) s) (fun t => Tbl.getD (t.port port).stats 13 0 = inc48 (Tbl.getD (u.port port).stats 13 0) 1 ∧ (t.port port).inFifo = (u.port port).inFifo ∧ t.sw = u.sw)) ∧
  (∀ (dt port phase lane : Nat) (f : Frame) (s u : State) e, s.advance dt = u → port < 56 → (u.port port).link = .up →
      f.smd = false → (u.port port).fifo + 64 ≤ fifoBytes port → 64 ≤ f.len → f.len ≤ u.banks.active.effMax port f.tagged →
      f.fcsOk = true → f.pcsErr = false → f.isControl = false → f.etherType ≠ 0x88B5 →
      e = ({ frame := f, stamp := Time96.ofUnits (u.rxStamp port phase lane), steps := u.time.stepSum, epoch := u.time.stepEpoch, raw := u.rawNow + phase, endsAt := u.rawNow + u.wire port f.len } : FifoEnt) →
      CompletesWith (exec (.frameReceive dt port phase lane f) s) (fun t => (t.port port).inFifo = (u.port port).inFifo ++ [e]
          ∧ (t.port port).fifo = (u.port port).fifo + f.len
        ∧ Tbl.getD (t.port port).stats 1 0 = inc48 (Tbl.getD (u.port port).stats 1 0) 1 ∧ t.sw = u.sw ∧ t.time = u.time)) ∧
  (∀ (dt port : Nat) (s u : State) en rest, s.advance dt = u → port < 56 → (u.port port).inFifo = en :: rest →
      en.frame.dst >>> 4 = 0x0180C200000 → u.claimed port (u.vlanOf port en.frame) en.frame = false →
      en.endsAt ≤ u.rawNow + u.wire port (en.frame.len - 64) →
      CompletesWith (exec (.classificationPass dt port) s) (fun t => (t.port port).inFifo = rest ∧ ∃ c,
          t.host.queue = u.host.queue ++ [c] ∧ c.ingress = port ∧ c.reason = 0 ∧ c.stamp = en.stamp
          ∧ c.frame.dst = en.frame.dst)) ∧
  (∀ (dt port : Nat) (s u : State) en rest, s.advance dt = u → port < 56 → (u.port port).inFifo = en :: rest →
      en.frame.dst >>> 4 ≠ 0x0180C200000 → u.claimed port (u.vlanOf port en.frame) en.frame = false →
      u.vlanAccepts port (u.vlanOf port en.frame) en.frame = false → en.endsAt ≤ u.rawNow + u.wire port (en.frame.len - 64) →
      CompletesWith (exec (.classificationPass dt port) s) (fun t => (t.port port).inFifo = rest
          ∧ t.sw.ctrVlan = inc48 u.sw.ctrVlan 1 ∧ t.host = u.host)) ∧
  (∀ (dt port : Nat) (s u : State) en rest, s.advance dt = u → port < 56 → (u.port port).inFifo = en :: rest →
      u.rawNow + u.wire port (en.frame.len - 64) < en.endsAt →
      exec (.classificationPass dt port) s = .next (u)) ∧
  (∀ (dt port : Nat) (s u : State), s.advance dt = u → port < 56 → (u.port port).inFifo = [] →
      exec (.classificationPass dt port) s = .next (u)) ∧
  (∀ (dt : Nat) (s u : State) v mac p good rest, s.advance dt = u → u.sw.learn = (v, mac, p, good) :: rest → good ≤ u.rawNow →
      Tbl.get? u.banks.active.mac (macKey v mac) = none → u.sw.macs = [] → u.banks.active.mac = [] →
      u.banks.active.learnLimit p = 0 →
      exec (.learningWrite dt) s = .next ({ u with sw := { u.sw with learn := rest, macs := [{ vlan := v, mac := mac, port := p, tickAt := u.time.tick }] } })) ∧
  (∀ (dt : Nat) (s u : State) v mac p good rest, s.advance dt = u → u.sw.learn = (v, mac, p, good) :: rest → u.rawNow < good →
      exec (.learningWrite dt) s = .next (u)) ∧
  (∀ (dt : Nat) (s u : State), s.advance dt = u → u.sw.learn = [] →
      exec (.learningWrite dt) s = .next (u)) ∧
  (∀ (dt : Nat) (s u : State) ed rest p st, s.advance dt = u → u.sw.edits = ed :: rest → ed.kind = .portState p st →
      CompletesWith (exec (.liveEditAck dt) s) (fun t => t.sw = { u.sw with edits := rest, portState := Tbl.put u.sw.portState p st } ∧ (∀ w, w ∈ t.tci.aside → w ∈ u.tci.aside))) ∧
  (∀ (dt : Nat) (s u : State) ed rest scope p v, s.advance dt = u → u.sw.edits = ed :: rest → ed.kind = .flush scope p v →
      CompletesWith (exec (.liveEditAck dt) s) (fun t => t.sw = { u.sw with edits := rest, macs := u.sw.macs.filter (fun m => !flushed scope p v m) } ∧ (∀ w, w ∈ t.tci.aside → w ∈ u.tci.aside))) ∧
  (∀ (dt : Nat) (s u : State), s.advance dt = u → u.sw.edits = [] →
      exec (.liveEditAck dt) s = .next (u)) ∧
  (∀ (dt : Nat) (s u : State), s.advance dt = u →
      exec (.macAging dt) s = .next ({ u with sw := { u.sw with macs := u.sw.macs.filter (fun m => u.time.tick < m.tickAt + agingS * tickS) } })) ∧
  (∀ (dt port vlan kind ms : Nat) (v6 : Bool) (groups : List Nat) (s u : State), s.advance dt = u → port < 56 →
      u.fw.running = true → u.banks.active.snoopEn vlan = true → kind = 1 → groups = [] →
      exec (.snoopPacket dt port vlan kind ms v6 groups) s = .next ({ u with sw := { u.sw with
        routers := u.sw.routers.filter (fun r => !(r.1 == vlan && r.2.1 == port))
            ++ [(vlan, port, u.time.tick + snoopDefaultS * tickS)]
        interval := if 0 < ms then Tbl.put u.sw.interval (snoopKey vlan v6) ms else u.sw.interval } })) ∧
  (∀ (dt port vlan kind ms : Nat) (v6 : Bool) (groups : List Nat) (s u : State) g x d, s.advance dt = u → port < 56 →
      u.fw.running = true → u.banks.active.snoopEn vlan = true → kind = 1 → groups = [g] →
      x = ({ vlan := vlan, group := g, ipv6 := v6, ports := [(port, d)], leaving := [port], index := 0 } : Snooped) →
      u.sw.groups = [x] →
      CompletesWith (exec (.snoopPacket dt port vlan kind ms v6 groups) s) (fun t => t.sw.groups = [{ x with ports := [(port, min d (u.time.tick + ms * tickMs))] }] ∧ t.sw.interval = u.sw.interval)) ∧
  (∀ (dt port vlan kind ms : Nat) (v6 : Bool) (groups : List Nat) (s u : State) g, s.advance dt = u → port < 56 →
      u.fw.running = true → u.banks.active.snoopEn vlan = true → kind = 2 → groups = [g] → u.sw.groups = [] →
      u.banks.active.group = [] →
      exec (.snoopPacket dt port vlan kind ms v6 groups) s = .next ({ u with sw := { u.sw with groups := [{ vlan := vlan, group := g, ipv6 := v6, ports := [(port, u.time.tick + Tbl.getD u.sw.interval (snoopKey vlan v6) (snoopDefaultS * 1000) * tickMs)], index := 0 }] } })) ∧
  (∀ (dt port vlan kind ms : Nat) (v6 : Bool) (groups : List Nat) (s u : State), s.advance dt = u → port < 56 →
      u.banks.active.snoopEn vlan = false →
      exec (.snoopPacket dt port vlan kind ms v6 groups) s = .next (u)) ∧
  (∀ (dt : Nat) (s u : State), s.advance dt = u → u.fw.running = true →
      exec (.snoopLapse dt) s = .next ({ u with sw := { u.sw with routers := u.sw.routers.filter (fun r => u.time.tick < r.2.2), groups := (u.sw.groups.map (fun g => { g with ports := g.ports.filter (fun x => u.time.tick < x.2) })).filter (fun g => !g.ports.isEmpty) } }))

/-- Egress decisions, preemption, booked slots and guard bands: what each event does when its condition holds, and that it
does nothing when it does not (11_switch_core.md, 10_port_macs.md, 03_time_base_and_stamps.md). -/
def Obligations.EgressEvents : Prop :=
  (∀ (dt : Nat) (turn : PortTurn) (s u : State), s.advance dt = u → turn.port < 56 → (u.port turn.port).link = .down →
      (u.port turn.port).cut = none → u.dom.queue = [] → u.queue turn.port 0 ≠ [] →
      CompletesWith (exec (.egressDecision dt turn) s) (fun t => u.queue turn.port 0 = (u.queue turn.port 0).head?.toList
          ++ t.queue turn.port 0 ∧ Tbl.getD (t.port turn.port).stats 43 0 = inc48 (Tbl.getD (u.port turn.port).stats 43 0) 1)) ∧
  (∀ (dt : Nat) (turn : PortTurn) (s u : State) q rest, s.advance dt = u → turn.port < 56 → (u.port turn.port).link = .up →
      (u.port turn.port).wire = none → (u.port turn.port).remerge = false → (u.port turn.port).control = q :: rest →
      u.guardFree turn.port 64 true = true →
      CompletesWith (exec (.egressDecision dt turn) s) (fun t => (t.port turn.port).control = rest
          ∧ (t.port turn.port).wire = some { start := u.rawNow, finish := u.rawNow + u.wire turn.port 84, express := true }
        ∧ t.trace.head? = some (.frame turn.port .pause [(48, 0x0180C2000001), (48, portMac turn.port), (16, 0x8808), (16, 1),
            (16, q)]))) ∧
  (∀ (dt : Nat) (turn : PortTurn) (s u : State) k c, s.advance dt = u → turn.port < 56 → (u.port turn.port).link = .up →
      (u.port turn.port).wire = none → (u.port turn.port).remerge = false → (u.port turn.port).control = [] →
      u.dom.queue = [] → (u.port turn.port).cut = none → u.selectQueue turn.port turn.phase = some (k, c) →
      u.paused turn.port = false → c.booked = false → c.ts = false → c.marked = false → k = 9 →
      u.egressLen turn.port c ≤ u.banks.active.maxFrame turn.port →
      CompletesWith (exec (.egressDecision dt turn) s) (fun t => (t.port turn.port).wire = some { copy := c, start := u.rawNow, finish := u.rawNow + u.wire turn.port (u.egressLen turn.port c + 20), express := false })) ∧
  (∀ (dt : Nat) (turn : PortTurn) (s u : State), s.advance dt = u → turn.port < 56 → (u.port turn.port).link = .up →
      (u.port turn.port).wire = none → (u.port turn.port).remerge = false → (u.port turn.port).control = [] →
      u.dom.queue = [] → (u.port turn.port).cut = none → u.selectQueue turn.port turn.phase = none →
      exec (.egressDecision dt turn) s = .next (u.seeConsumer turn.consumer)) ∧
  (∀ (dt : Nat) (turn : PortTurn) (s u : State) d, s.advance dt = u → turn.port < 56 → (u.port turn.port).link = .up →
      (u.port turn.port).wire = none → (u.port turn.port).remerge = false → (u.port turn.port).control = [] →
      u.dom.queue = [d] → d.port = turn.port → u.paused turn.port = false →
      u.guardFree turn.port (u.domainCopy d).frame.len true = true →
      CompletesWith (exec (.egressDecision dt turn) s) (fun t => t.dom.queue = [] ∧ ∃ w, (t.port turn.port).wire = some w
          ∧ w.start = u.rawNow ∧ w.express = true ∧ w.finish = u.rawNow + u.wire turn.port ((u.domainCopy d).frame.len + 20))) ∧
  (∀ (dt port : Nat) (s u : State) w n c rest, s.advance dt = u → port < 56 → (u.port port).link = .up →
      u.queue port 8 = c :: rest → u.arrived port c = true → (u.port port).wire = some w → u.preemptActive port = true →
      w.express = false → u.rawNow < w.finish → (u.port port).cut = none → u.paused port = false → u.cutPoint port w = some n →
      CompletesWith (exec (.preemptCut dt port) s) (fun t => (t.port port).cut = some { w with frag := w.frag + n }
          ∧ (t.port port).wire = some { w with finish := w.start + u.wire port (8 + n + 4 + 12), express := true }
        ∧ Tbl.getD (t.port port).stats 47 0 = inc48 (Tbl.getD (u.port port).stats 47 0) 1)) ∧
  (∀ (dt port : Nat) (s u : State), s.advance dt = u → port < 56 → u.paused port = true →
      exec (.preemptCut dt port) s = .next (u)) ∧
  (∀ (dt port : Nat) (s u : State), s.advance dt = u → port < 56 → u.queue port 8 = [] →
      exec (.preemptCut dt port) s = .next (u)) ∧
  (∀ (dt port phase : Nat) (s u : State) c x, s.advance dt = u → port < 56 → (u.port port).link = .up →
      (u.port port).slot = none → u.selectQueue port phase = some (8, c) → c.booked = true →
      (u.dropped port 8 c).isNone = true → u.slotFor port phase c = some x →
      CompletesWith (exec (.bookedSlotBook dt port phase) s) (fun t => (t.port port).slot = some { copy := c, tickAt := x, stamp := u.txStamp port x, steps := u.time.stepSum } ∧ t.queue port 8 = (u.queue port 8).erase c)) ∧
  (∀ (dt port phase : Nat) (s u : State) c, s.advance dt = u → port < 56 → (u.port port).link = .up →
      (u.port port).slot = none → u.selectQueue port phase = some (8, c) → c.booked = true → c.ts = false → c.marked = true →
      c.endsAt ≤ u.rawNow →
      exec (.bookedSlotBook dt port phase) s = .next (u.popQueue port 8 c)) ∧
  (∀ (dt port phase : Nat) (s u : State), s.advance dt = u → port < 56 → (u.port port).link ≠ .up →
      exec (.bookedSlotBook dt port phase) s = .next (u)) ∧
  (∀ (dt : Nat) (turn : PortTurn) (s u : State) sl n, s.advance dt = u → turn.port < 56 → (u.port turn.port).slot = some sl →
      sl.tickAt ≤ u.rawNow + u.wire turn.port 8 → u.slotLost turn.port sl = false → sl.copy.ts = false →
      n = u.egressLen turn.port sl.copy →
      CompletesWith (exec (.bookedSlotLaunch dt turn) s) (fun t => (t.port turn.port).slot = none
          ∧ (t.port turn.port).wire = some { copy := sl.copy, start := sl.tickAt - u.wire turn.port 8, finish := sl.tickAt - u.wire turn.port 8 + u.wire turn.port (n + 20), express := !u.preemptActive turn.port || sl.copy.queue == 8 })) ∧
  (∀ (dt : Nat) (turn : PortTurn) (s u : State), s.advance dt = u → turn.port < 56 → (u.port turn.port).slot = none →
      exec (.bookedSlotLaunch dt turn) s = .next (u.seeConsumer turn.consumer)) ∧
  (∀ (dt port : Nat) (late : Bool) (s u : State) sl, s.advance dt = u → port < 56 → (u.port port).slot = some sl →
      (late = true ∨ u.slotLost port sl = true) →
      CompletesWith (exec (.bookedSlotLost dt port late) s) (fun t => (t.port port).slot = none)) ∧
  (∀ (dt port : Nat) (late : Bool) (s u : State), s.advance dt = u → port < 56 → (u.port port).slot = none →
      exec (.bookedSlotLost dt port late) s = .next (u)) ∧
  (∀ (dt port : Nat) (s u : State) ev, s.advance dt = u → port < 56 →
      (u.frameCues port).find? (fun e => decide (u.cueStart port e.2 - u.guardLength port ≤ (u.rawNow : Int)) && decide ((u.rawNow : Int) < u.cueStart port e.2)) = some ev → (u.port port).wire = none →
      exec (.guardBandOpen dt port) s = .next ((u.excuse port).updPort port (fun x => { x with guard := some ev.1 }))) ∧
  (∀ (dt port : Nat) (s u : State), s.advance dt = u → port < 56 → u.frameCues port = [] →
      exec (.guardBandOpen dt port) s = .next (u))

/-- Pause, preemption verification, fragments and link states: what each event does when its condition holds, and that it does
nothing when it does not (10_port_macs.md). -/
def Obligations.PortEvents : Prop :=
  (∀ (dt port : Nat) (f : Frame) (s u : State), s.advance dt = u → port < 56 → (u.port port).link = .up → f.isControl = true →
      f.fcsOk = true → f.pcsErr = false → within 64 (u.banks.active.effMax port f.tagged) f.len = true → f.opcode = 1 →
      f.dst = 0x0180C2000001 → u.banks.active.rxPauseEn port = true → u.banks.active.trunk port = false → 0 < f.quanta →
      (u.port port).fifo + 64 ≤ fifoBytes port →
      CompletesWith (exec (.pauseReceive dt port f) s) (fun t => (t.port port).pauseUntil = some (u.rawNow + u.wire port 0 + u.quanta port f.quanta) ∧ Tbl.getD (t.port port).stats 20 0 = inc48 (Tbl.getD (u.port port).stats 20 0) 1)) ∧
  (∀ (dt port : Nat) (f : Frame) (s u : State), s.advance dt = u → port < 56 → f.isControl = false →
      exec (.pauseReceive dt port f) s = .next (u)) ∧
  (∀ (dt port : Nat) (s u : State) x, s.advance dt = u → port < 56 → (u.port port).pauseUntil = some x → x ≤ u.rawNow →
      exec (.pauseTimerExpire dt port) s = .next (u.updPort port (fun x => { x with pauseUntil := none }))) ∧
  (∀ (dt port : Nat) (s u : State), s.advance dt = u → port < 56 → u.paused port = true →
      exec (.pauseTimerExpire dt port) s = .next (u)) ∧
  (∀ (dt port : Nat) (s u : State), s.advance dt = u → port < 56 → u.banks.active.txPauseEn port = true →
      (u.port port).link = .up → (u.port port).pauseSending = false → u.banks.active.pauseHi port * 512 < (u.port port).fifo →
      exec (.pauseGenerate dt port) s = .next (u.updPort port (fun x => { x with control := x.control ++ [u.banks.active.pauseQuanta port], pauseSending := true, pauseSentAt := u.time.tick }))) ∧
  (∀ (dt port : Nat) (s u : State), s.advance dt = u → port < 56 → u.banks.active.txPauseEn port = true →
      (u.port port).link = .up → (u.port port).pauseSending = true → (u.port port).fifo ≤ u.banks.active.pauseLo port * 512 →
      exec (.pauseGenerate dt port) s = .next (u.updPort port (fun x => { x with control := x.control ++ [0], pauseSending := false, pauseSentAt := u.time.tick }))) ∧
  (∀ (dt port : Nat) (s u : State), s.advance dt = u → port < 56 → u.banks.active.txPauseEn port = false →
      exec (.pauseGenerate dt port) s = .next (u)) ∧
  (∀ (dt port : Nat) (s u : State), s.advance dt = u → port < 56 → (u.port port).link = .up → (u.port port).preempt = 1 →
      (u.port port).verSend = true →
      exec (.verifySend dt port) s = .next ((u.updPort port (fun x => { x with verSend := false, verTries := x.verTries + 1, verDue := u.time.tick + u.banks.active.verifyTimeMs port * tickMs })).emit (.frame port .verify []))) ∧
  (∀ (dt port : Nat) (s u : State), s.advance dt = u → port < 56 → (u.port port).verSend = false →
      exec (.verifySend dt port) s = .next (u)) ∧
  (∀ (dt port : Nat) (s u : State), s.advance dt = u → port < 56 → (u.port port).link = .up → (u.port port).preempt = 1 →
      (u.port port).verSend = false → (u.port port).verDue ≤ u.time.tick → (u.port port).verTries < 3 →
      exec (.verifyTimeout dt port) s = .next (u.updPort port (fun x => { x with verSend := true }))) ∧
  (∀ (dt port : Nat) (s u : State), s.advance dt = u → port < 56 → (u.port port).link = .up → (u.port port).preempt = 1 →
      (u.port port).verSend = false → (u.port port).verDue ≤ u.time.tick → 3 ≤ (u.port port).verTries →
      CompletesWith (exec (.verifyTimeout dt port) s) (fun t => (t.port port).preempt = 3
          ∧ Tbl.getD (t.port port).stats 52 0 = inc48 (Tbl.getD (u.port port).stats 52 0) 1)) ∧
  (∀ (dt port : Nat) (s u : State), s.advance dt = u → port < 56 → (u.port port).link = .up → (u.port port).preempt = 1 →
      0 < (u.port port).verTries →
      CompletesWith (exec (.respondReceive dt port) s) (fun t => (t.port port).preempt = 2 ∧ (t.port port).verSend = false)) ∧
  (∀ (dt port : Nat) (s u : State), s.advance dt = u → port < 56 → (u.port port).preempt ≠ 1 →
      exec (.respondReceive dt port) s = .next (u)) ∧
  (∀ (dt port : Nat) (s u : State), s.advance dt = u → port < 56 → (u.port port).link = .up →
      u.banks.active.preemptEn port = true →
      exec (.verifyReceive dt port) s = .next ({ u with trace := .frame port .respond [] :: u.trace })) ∧
  (∀ (dt port : Nat) (s u : State), s.advance dt = u → port < 56 → u.banks.active.preemptEn port = false →
      exec (.verifyReceive dt port) s = .next (u)) ∧
  (∀ (dt port phase lane bytes count : Nat) (start mcrc : Bool) (last : Option Frame) (s u : State), s.advance dt = u →
      port < 56 → (u.port port).link = .disabled →
      exec (.fragmentReceive dt port phase lane bytes count start mcrc last) s = .next (u)) ∧
  (∀ (dt port phase lane bytes count : Nat) (start mcrc : Bool) (last : Option Frame) (s u : State), s.advance dt = u →
      port < 56 → (u.port port).link = .up → u.banks.active.preemptEn port = false → (u.port port).draining = false →
      exec (.fragmentReceive dt port phase lane bytes count start mcrc last) s = .next (u.stat port 24 1)) ∧
  (∀ (dt port phase lane bytes count : Nat) (start mcrc : Bool) (last : Option Frame) (s u : State), s.advance dt = u →
      port < 56 → (u.port port).link = .up → u.banks.active.preemptEn port = true → start = true → (u.port port).asm = none →
      64 ≤ bytes → mcrc = true → last = none →
      CompletesWith (exec (.fragmentReceive dt port phase lane bytes count start mcrc last) s) (fun t => (t.port port).asm = some { room := decide ((u.port port).fifo + 64 ≤ fifoBytes port), next := 0, bytes := bytes, stamp := Time96.ofUnits (u.rxStamp port phase lane), steps := u.time.stepSum, epoch := u.time.stepEpoch, raw := u.rawNow + phase }
        ∧ Tbl.getD (t.port port).stats 25 0 = inc48 (Tbl.getD (u.port port).stats 25 0) 1)) ∧
  (∀ (dt port phase lane bytes count : Nat) (start mcrc : Bool) (last : Option Frame) (s u : State), s.advance dt = u →
      port < 56 → (u.port port).link = .up → u.banks.active.preemptEn port = true → start = false → (u.port port).asm = none →
      exec (.fragmentReceive dt port phase lane bytes count start mcrc last) s = .next (u)) ∧
  (∀ (dt port phase lane bytes count : Nat) (start mcrc : Bool) (last : Option Frame) (s u : State) x, s.advance dt = u →
      port < 56 → (u.port port).link = .up → u.banks.active.preemptEn port = true → start = false →
      (u.port port).asm = some x → count ≠ x.next →
      CompletesWith (exec (.fragmentReceive dt port phase lane bytes count start mcrc last) s) (fun t => (t.port port).asm = none ∧ Tbl.getD (t.port port).stats 24 0 = inc48 (Tbl.getD (u.port port).stats 24 0) 1)) ∧
  (∀ (dt port cause : Nat) (s u : State), s.advance dt = u → port < 56 → (u.port port).link = .up →
      u.banks.active.linkHoldMs port ≠ 0 →
      CompletesWith (exec (.linkLoss dt port cause) s) (fun t => (t.port port).link = .hold ∧ (t.port port).pauseUntil = none
          ∧ (t.port port).lastChange = u.now
        ∧ (t.port port).holdDue = u.time.tick + u.banks.active.linkHoldMs port * tickMs)) ∧
  (∀ (dt port cause : Nat) (s u : State), s.advance dt = u → port < 56 → (u.port port).link = .up →
      u.banks.active.linkHoldMs port = 0 →
      CompletesWith (exec (.linkLoss dt port cause) s) (fun t => (t.port port).link = .down)) ∧
  (∀ (dt port cause : Nat) (s u : State), s.advance dt = u → port < 56 → (u.port port).link = .down → cause = 1 →
      CompletesWith (exec (.linkLoss dt port cause) s) (fun t => (t.port port).link = .down ∧ (t.port port).blockLock = false
          ∧ (t.port port).badAt = u.time.tick)) ∧
  (∀ (dt port : Nat) (skew : List Int) (s u : State), s.advance dt = u → port < 56 → (u.port port).link = .down →
      (u.port port).badAt + 10 * tickMs ≤ u.time.tick →
      CompletesWith (exec (.linkUp dt port skew) s) (fun t => (t.port port).link = .up ∧ (t.port port).blockLock = true
          ∧ (t.port port).hiBer = false ∧ (t.port port).lastChange = u.now)) ∧
  (∀ (dt port : Nat) (skew : List Int) (s u : State), s.advance dt = u → port < 56 → (u.port port).link = .hold →
      (u.port port).badAt + 10 * tickMs ≤ u.time.tick → u.time.tick < (u.port port).holdDue →
      CompletesWith (exec (.linkUp dt port skew) s) (fun t => (t.port port).link = .up ∧ (t.port port).blockLock = true)) ∧
  (∀ (dt port : Nat) (skew : List Int) (s u : State), s.advance dt = u → port < 56 → isQ port = true →
      (u.port port).link = .up → skew.length = 4 →
      CompletesWith (exec (.linkUp dt port skew) s) (fun t => (t.port port).skew = skew ∧ (t.port port).link = .up)) ∧
  (∀ (dt port : Nat) (skew : List Int) (s u : State), s.advance dt = u → port < 56 → (u.port port).link = .disabled →
      CompletesWith (exec (.linkUp dt port skew) s) (fun t => (t.port port).link = .disabled)) ∧
  (∀ (dt port : Nat) (s u : State), s.advance dt = u → port < 56 → (u.port port).link = .hold →
      (u.port port).holdDue ≤ u.time.tick →
      CompletesWith (exec (.linkHoldExpire dt port) s) (fun t => (t.port port).link = .down ∧ (t.port port).lastChange = u.now)) ∧
  (∀ (dt port : Nat) (s u : State), s.advance dt = u → port < 56 → (u.port port).link ≠ .hold →
      exec (.linkHoldExpire dt port) s = .next (u)) ∧
  (∀ (dt port : Nat) (s u : State), s.advance dt = u → port < 56 → (u.port port).draining = true → u.sentAll port = true →
      u.inService port = false →
      exec (.portQuiescent dt port) s = .next (u.updPort port (fun x => { x with draining := false, asm := none }))) ∧
  (∀ (dt port : Nat) (s u : State), s.advance dt = u → port < 56 → (u.port port).draining = true → u.sentAll port = true →
      u.inService port = true → (u.port port).link = .disabled →
      CompletesWith (exec (.portQuiescent dt port) s) (fun t => (t.port port).draining = false ∧ (t.port port).asm = none
          ∧ (t.port port).link = .down)) ∧
  (∀ (dt port : Nat) (s u : State), s.advance dt = u → port < 56 → u.sentAll port = false →
      exec (.portQuiescent dt port) s = .next (u)) ∧
  (∀ (dt port : Nat) (s u : State), s.advance dt = u → port < 56 → (u.port port).draining = false →
      exec (.portQuiescent dt port) s = .next (u))

/-- Host-port rings, the stamp ring and mirror sessions: what each event does when its condition holds, and that it does
nothing when it does not (10_port_macs.md, 11_switch_core.md, 03_time_base_and_stamps.md). -/
def Obligations.HostPortEvents : Prop :=
  (∀ (dt ring : Nat) (d : TxSend) (f : Frame) (s u : State), s.advance dt = u → ring < 4 → (u.ring ring).enable = false →
      exec (.hostTxDescriptor dt ring d f) s = .next (u)) ∧
  (∀ (dt ring : Nat) (d : TxSend) (f : Frame) (s u : State) next, s.advance dt = u → ring < 4 → (u.ring ring).enable = true →
      0 < d.descs → d.descs ≤ ((u.ring ring).tail + (u.ring ring).entries - (u.ring ring).idx) % max 1 (u.ring ring).entries →
      (List.range ring).any (fun k => (u.ring k).enable && (u.ring k).idx != (u.ring k).tailIdx) = false →
      sendRejected d = true → next = ((u.ring ring).idx + d.descs) % max 1 (u.ring ring).entries →
      CompletesWith (exec (.hostTxDescriptor dt ring d f) s) (fun t => (t.ring ring).idx = next
          ∧ Tbl.getD t.host.counters 4 0 = (Tbl.getD u.host.counters 4 0 + 1) % 2 ^ 64 ∧ t.ports = u.ports
          ∧ bit t.intr.status (4 + ring) = true)) ∧
  (∀ (dt ring : Nat) (d : TxSend) (f : Frame) (s u : State) next c, s.advance dt = u → ring < 4 →
      (u.ring ring).enable = true → 0 < d.descs → d.descs ≤ ((u.ring ring).tail + (u.ring ring).entries - (u.ring ring).idx) % max 1 (u.ring ring).entries → (List.range ring).any (fun k => (u.ring k).enable && (u.ring k).idx != (u.ring k).tailIdx) = false → sendRejected d = false → d.tso = false → d.csum = false → next = ((u.ring ring).idx + d.descs) % max 1 (u.ring ring).entries → d.egress = 255 → d.stampReq = false → d.vlanIns = false → f.dst >>> 4 = 0x0180C200000 → u.host.queue = c →
      CompletesWith (exec (.hostTxDescriptor dt ring d f) s) (fun t => (t.ring ring).idx = next
          ∧ Tbl.getD t.host.counters 0 0 = (Tbl.getD u.host.counters 0 0 + 1) % 2 ^ 64
          ∧ Tbl.getD t.host.counters 1 0 = (Tbl.getD u.host.counters 1 0 + d.length + 4) % 2 ^ 64
        ∧ t.host.queue.length = c.length + 1)) ∧
  (∀ (dt ring : Nat) (s u : State) c rest, s.advance dt = u → ring < 4 → u.host.queue = c :: rest → c.endsAt ≤ u.rawNow →
      c.marked = false → (u.ring (4 + ring)).enable = false →
      CompletesWith (exec (.hostRxDeliver dt ring) s) (fun t => t.host.queue = rest
          ∧ Tbl.getD t.host.counters 8 0 = (Tbl.getD u.host.counters 8 0 + 1) % 2 ^ 64)) ∧
  (∀ (dt ring : Nat) (s u : State) c rest, s.advance dt = u → ring < 4 → u.host.queue = c :: rest → c.endsAt ≤ u.rawNow →
      c.marked = false → (u.ring (4 + ring)).enable = true → (u.ring (4 + ring)).idx ≠ (u.ring (4 + ring)).tailIdx →
      c.frame.len - 4 ≤ (u.ring (4 + ring)).bufKib * 1024 →
      CompletesWith (exec (.hostRxDeliver dt ring) s) (fun t => t.host.queue = rest
          ∧ (t.ring (4 + ring)).idx = ((u.ring (4 + ring)).idx + 1) % max 1 (u.ring (4 + ring)).entries
          ∧ bit t.intr.status (8 + ring) = true
        ∧ Tbl.getD t.host.counters 6 0 = (Tbl.getD u.host.counters 6 0 + 1) % 2 ^ 64
            ∧ Tbl.getD t.host.counters 7 0 = (Tbl.getD u.host.counters 7 0 + (c.frame.len - 4)) % 2 ^ 64)) ∧
  (∀ (dt ring : Nat) (s u : State), s.advance dt = u → ring < 4 → u.host.queue = [] →
      exec (.hostRxDeliver dt ring) s = .next (u)) ∧
  (∀ (dt ring frames : Nat) (s u : State), s.advance dt = u → ring < 8 → (u.ring ring).draining = true →
      CompletesWith (exec (.hostRingQuiescent dt ring frames) s) (fun t => (t.ring ring).draining = false
          ∧ (t.ring ring).idx = (u.ring ring).tailIdx)) ∧
  (∀ (dt ring frames : Nat) (s u : State), s.advance dt = u → ring < 8 → (u.ring ring).draining = false →
      exec (.hostRingQuiescent dt ring frames) s = .next (u)) ∧
  (∀ (dt : Nat) (s u : State), s.advance dt = u → u.stamps.draining = true →
      CompletesWith (exec (.stampRingQuiescent dt) s) (fun t => t.stamps = { u.stamps with draining := false })) ∧
  (∀ (dt : Nat) (s u : State), s.advance dt = u → u.stamps.draining = false →
      exec (.stampRingQuiescent dt) s = .next (u)) ∧
  (∀ (dt session : Nat) (s u : State), s.advance dt = u → session < 4 → (u.mirror session).draining = true →
      CompletesWith (exec (.mirrorQuiescent dt session) s) (fun t => t.mirror session = { (u.mirror session) with draining := false })) ∧
  (∀ (dt session : Nat) (s u : State), s.advance dt = u → session < 4 → (u.mirror session).draining = false →
      exec (.mirrorQuiescent dt session) s = .next (u))

/-- TDC edges, calibration tables, regression gates and the OCXO: what each event does when its condition holds, and that it
does nothing when it does not (04_interval_measurement.md). -/
def Obligations.MeasurementEvents : Prop :=
  (∀ (dt ch n k : Nat) (s u : State), s.advance dt = u → ch < 16 → k < 4096 → ch ≠ 0 → n ≠ 0 → (u.chan ch).state ≠ 2 →
      CompletesWith (exec (.tdcEdge dt ch n k) s) (fun t => (t.chan ch).edges = ((u.chan ch).edges + n) % 2 ^ 48
          ∧ (t.chan ch).events = (u.chan ch).events ∧ t.meas.job = u.meas.job)) ∧
  (∀ (dt ch n k : Nat) (s u : State) pd, s.advance dt = u → ch < 16 → k < 4096 → ch ≠ 0 → n ≠ 0 →
      pd = max 1 ((u.chan ch).presc * (u.chan ch).decim) → (u.chan ch).state = 2 → (u.chan ch).skip + n < pd →
      CompletesWith (exec (.tdcEdge dt ch n k) s) (fun t => (t.chan ch).edges = ((u.chan ch).edges + n) % 2 ^ 48
          ∧ (t.chan ch).events = (u.chan ch).events ∧ t.meas.job = u.meas.job)) ∧
  (∀ (dt ch n k : Nat) (s u : State), s.advance dt = u → ch < 16 → 9 ≤ ch → k < 4096 → n ≠ 0 → (u.chan ch).state = 2 →
      (u.chan ch).skip + n = max 1 ((u.chan ch).presc * (u.chan ch).decim) → (u.chan ch).lastRaw = none →
      (u.chan ch).captures = false → u.meas.linkCals = [] → u.meas.job = [] →
      CompletesWith (exec (.tdcEdge dt ch n k) s) (fun t => (t.chan ch).edges = ((u.chan ch).edges + n) % 2 ^ 48
          ∧ (t.chan ch).events = inc48 (u.chan ch).events 1 ∧ (t.chan ch).lastRaw.isSome = true)) ∧
  (∀ (dt ch n k : Nat) (s u : State), s.advance dt = u → k < 4096 → ch = 0 → u.ppsDue k = false →
      CompletesWith (exec (.tdcEdge dt ch n k) s) (fun t => t.chan 0 = u.chan 0 ∧ t.meas.job = u.meas.job)) ∧
  (∀ (dt ch : Nat) (hits : List Nat) (s u : State), s.advance dt = u → ch < 16 → (u.chan ch).state ≠ 0 →
      (u.chan ch).calFrom + (u.chan ch).calTicks ≤ u.time.tick → (u.chan ch).calRun = false → hits.length = 4096 →
      hits.sum = 2 ^ 24 → tableOk hits = true →
      CompletesWith (exec (.calTableComplete dt ch hits) s) (fun t => (t.chan ch).generation = ((u.chan ch).generation + 1) % 65536 ∧ (t.chan ch).state = 2 ∧ (t.chan ch).installedAt = u.now
        ∧ (t.chan ch).hits = some (hits.zipIdx.map (fun e => (e.2, e.1))) ∧ t.tci = u.tci)) ∧
  (∀ (dt ch : Nat) (hits : List Nat) (s u : State), s.advance dt = u → ch < 16 → (u.chan ch).state ≠ 0 →
      (u.chan ch).calFrom + (u.chan ch).calTicks ≤ u.time.tick → (u.chan ch).calRun = false → hits.length = 4096 →
      hits.sum = 2 ^ 24 → tableOk hits = false →
      CompletesWith (exec (.calTableComplete dt ch hits) s) (fun t => (t.chan ch).generation = (u.chan ch).generation
          ∧ (t.chan ch).hits = (u.chan ch).hits ∧ (t.chan ch).calRejects = inc48 (u.chan ch).calRejects 1
          ∧ (t.chan ch).rejectRun = (u.chan ch).rejectRun + 1)) ∧
  (∀ (dt ch : Nat) (hits : List Nat) (s u : State), s.advance dt = u → ch < 16 →
      u.time.tick < (u.chan ch).calFrom + (u.chan ch).calTicks →
      exec (.calTableComplete dt ch hits) s = .next (u)) ∧
  (∀ (dt job : Nat) (s u : State) close, s.advance dt = u → job < 16 → (u.job job).running = true →
      (u.job job).openSf u.time.stepSum + ((u.job job).gateMs : Int) * uMs = close → close ≤ u.stepFree →
      CompletesWith (exec (.regressionGateClose dt job) s) (fun t => (t.job job).gateIndex = ((u.job job).gateIndex + 1) % 2 ^ 32 ∧ (t.job job).gateStart = close + u.time.stepSum
        ∧ (t.job job).running = decide ((u.job job).gates = 0 ∨ (u.job job).gateIndex + 1 < (u.job job).gates)
        ∧ (t.job job).evA = (u.job job).evA.filter (fun e => close ≤ e.sf) ∧ (t.job job).result.isSome = true)) ∧
  (∀ (dt job : Nat) (s u : State), s.advance dt = u → job < 16 → (u.job job).running = false →
      exec (.regressionGateClose dt job) s = .next (u)) ∧
  (∀ (dt ch : Nat) (s u : State), s.advance dt = u → ch < 16 → (u.chan ch).draining = true →
      CompletesWith (exec (.measChannelQuiescent dt ch) s) (fun t => (t.chan ch).draining = false ∧ (∀ w, w ∈ t.tci.aside →
          w ∈ u.tci.aside))) ∧
  (∀ (dt ch : Nat) (s u : State), s.advance dt = u → ch < 16 → (u.chan ch).draining = false →
      exec (.measChannelQuiescent dt ch) s = .next (u)) ∧
  (∀ (dt job : Nat) (s u : State), s.advance dt = u → job < 16 → (u.job job).stopping = true →
      CompletesWith (exec (.measJobQuiescent dt job) s) (fun t => (t.job job).stopping = false ∧ (∀ w, w ∈ t.tci.aside →
          w ∈ u.tci.aside))) ∧
  (∀ (dt job : Nat) (s u : State), s.advance dt = u → job < 16 → (u.job job).stopping = false →
      exec (.measJobQuiescent dt job) s = .next (u)) ∧
  (∀ (dt : Nat) (devMk : Int) (heaterMw : Nat) (s u : State), s.advance dt = u → u.ocxo.warm = false →
      u.ocxo.inBandAt = none → devMk.natAbs ≤ 50 →
      exec (.ocxoWarmChange dt devMk heaterMw) s = .next ({ u.flushY with ocxo := { u.ocxo with devMk := devMk, heaterMw := heaterMw, inBandAt := some u.time.tick, outBandAt := none } })) ∧
  (∀ (dt : Nat) (devMk : Int) (heaterMw : Nat) (s u : State) since, s.advance dt = u → u.ocxo.warm = false →
      u.ocxo.inBandAt = some since → since + 120 * tickS ≤ u.time.tick →
      CompletesWith (exec (.ocxoWarmChange dt devMk heaterMw) s) (fun t => t.ocxo.warm = true ∧ t.ocxo.cold = false
          ∧ t.ocxo.devMk = devMk ∧ t.ocxo.heaterMw = heaterMw)) ∧
  (∀ (dt : Nat) (devMk : Int) (heaterMw : Nat) (s u : State) since, s.advance dt = u → u.ocxo.warm = true →
      u.ocxo.outBandAt = some since → since + 10 * tickS ≤ u.time.tick →
      CompletesWith (exec (.ocxoWarmChange dt devMk heaterMw) s) (fun t => t.ocxo.warm = false ∧ t.ocxo.cold = true
          ∧ t.hold.learned = 0 ∧ t.hold.samples = []))

/-- Reference qualification, selection, the loop and holdover: what each event does when its condition holds, and that it does
nothing when it does not (05_references_and_holdover.md). -/
def Obligations.ReferenceEvents : Prop :=
  (∀ (dt ref : Nat) (s u : State) start len cuts, s.advance dt = u → ref < 8 →
      cuts = subGates (itemWindowS (u.ref ref).word) → (u.ref ref).gateSf = some start →
      nth cuts (u.ref ref).parts.length = some len → (u.ref ref).state ≠ .disabled →
      start + (((cuts.take (u.ref ref).parts.length).sum + len : Nat) : Int) * uMs ≤ u.stepFree →
      (u.ref ref).parts.length + 1 < cuts.length →
      CompletesWith (exec (.refEvaluation dt ref) s) (fun t => (t.ref ref).parts.length = (u.ref ref).parts.length + 1
          ∧ (t.ref ref).gateSf = some start ∧ (t.ref ref).state = (u.ref ref).state ∧ t.sel = u.sel ∧ t.time = u.time)) ∧
  (∀ (dt ref : Nat) (s u : State), s.advance dt = u → ref < 8 → (u.ref ref).state = .disabled →
      exec (.refEvaluation dt ref) s = .next (u)) ∧
  (∀ (dt ref : Nat) (s u : State) start len cuts, s.advance dt = u → ref < 8 →
      cuts = subGates (itemWindowS (u.ref ref).word) → (u.ref ref).gateSf = some start →
      nth cuts (u.ref ref).parts.length = some len → (u.ref ref).state = .qualifying →
      start + (((cuts.take (u.ref ref).parts.length).sum + len : Nat) : Int) * uMs ≤ u.stepFree →
      (u.ref ref).parts.length + 1 = cuts.length →
      CompletesWith (exec (.refEvaluation dt ref) s) (fun t => (t.ref ref).parts = []
          ∧ (t.ref ref).gateSf = some (start + (((cuts.take (u.ref ref).parts.length).sum + len : Nat) : Int) * uMs)
        ∧ t.sel.actMode = u.sel.mode ∧ t.sel.actManual = u.sel.manual ∧ t.sel.actWtr = u.sel.wtr)) ∧
  (∀ (dt ref : Nat) (s u : State), s.advance dt = u → ref < 8 → (u.ref ref).state = .qualifying → (u.ref ref).lastEvent = none →
      CompletesWith (exec (.refLos dt ref) s) (fun t => (t.ref ref).gapOk = false ∧ (t.ref ref).state = .qualifying
          ∧ t.time = u.time)) ∧
  (∀ (dt ref : Nat) (s u : State), s.advance dt = u → ref < 8 → (u.ref ref).state = .qualified →
      (u.ref ref).lastEvent = none → u.sel.selected ≠ some ref →
      CompletesWith (exec (.refLos dt ref) s) (fun t => (t.ref ref).state = .qualifying ∧ (t.ref ref).cause = 1
          ∧ (t.ref ref).disqs = inc48 (u.ref ref).disqs 1 ∧ t.sel.selected = u.sel.selected)) ∧
  (∀ (dt ref : Nat) (s u : State), s.advance dt = u → ref < 8 → (u.ref ref).state = .disabled →
      exec (.refLos dt ref) s = .next (u)) ∧
  (∀ (dt ref : Nat) (s u : State), s.advance dt = u → ref < 8 → (u.ref ref).hitDue = true → (u.ref ref).hitRun = 0 →
      CompletesWith (exec (.refPhaseHit dt ref) s) (fun t => (t.ref ref).hitDue = false
          ∧ (t.ref ref).phaseHits = inc48 (u.ref ref).phaseHits 1 ∧ (t.ref ref).hitRun = 1
          ∧ (t.ref ref).lastHit = some u.time.tick)) ∧
  (∀ (dt ref : Nat) (s u : State), s.advance dt = u → ref < 8 → (u.ref ref).hitDue = true → (u.ref ref).hitRun = 2 →
      (u.ref ref).state = .qualified → u.sel.selected ≠ some ref →
      CompletesWith (exec (.refPhaseHit dt ref) s) (fun t => (t.ref ref).state = .qualifying ∧ (t.ref ref).cause = 4
          ∧ (t.ref ref).hitRun = 0)) ∧
  (∀ (dt ref : Nat) (s u : State), s.advance dt = u → ref < 8 → (u.ref ref).state = .qualifying → u.sourceOk ref = false →
      CompletesWith (exec (.refSourceStatusFail dt ref) s) (fun t => (t.ref ref).statusOk = false
          ∧ (t.ref ref).state = .qualifying)) ∧
  (∀ (dt ref : Nat) (s u : State), s.advance dt = u → ref < 8 → (u.ref ref).state = .qualified → u.sourceOk ref = false →
      u.sel.selected ≠ some ref →
      CompletesWith (exec (.refSourceStatusFail dt ref) s) (fun t => (t.ref ref).state = .qualifying ∧ (t.ref ref).cause = 6)) ∧
  (∀ (dt : Nat) (s u : State) fell, s.advance dt = u → u.pick = (u.sel.selected, fell) →
      CompletesWith (exec (.refSelect dt) s) (fun t => t.sel.selected = u.sel.selected ∧ t.sel.fell = fell ∧ t.time = u.time)) ∧
  (∀ (dt : Nat) (s u : State) r fell, s.advance dt = u → u.pick = (some r, fell) → u.sel.selected ≠ some r →
      CompletesWith (exec (.refSelect dt) s) (fun t => t.sel.selected = some r ∧ t.sel.fell = fell)) ∧
  (∀ (dt : Nat) (s u : State) r, s.advance dt = u → u.pick.1 = none → u.sel.selected = some r → u.sel.state = .locked →
      u.sel.everLocked = true →
      CompletesWith (exec (.refSelect dt) s) (fun t => t.sel.selected = none ∧ t.sel.state = .holdover)) ∧
  (∀ (dt : Nat) (s u : State) c r fell, s.advance dt = u → u.sel.selected = some c → (u.restorable c).any u.waited = true →
      u.pick = (some r, fell) → r ≠ c →
      CompletesWith (exec (.waitToRestoreExpire dt) s) (fun t => t.sel.selected = some r)) ∧
  (∀ (dt : Nat) (s u : State), s.advance dt = u → u.sel.selected = none →
      exec (.waitToRestoreExpire dt) s = .next (u)) ∧
  (∀ (dt : Nat) (s u : State) r, s.advance dt = u → u.sel.selected = some r → u.sel.loopHeld = false → u.sel.setting = false →
      u.sel.state = .locked → u.sel.loopAt = none → (u.ref r).hitNow = false → (u.ref r).phase.isSome = true →
      CompletesWith (exec (.loopUpdate dt) s) (fun t => t.time = u.time.setFreq (loopStep (itemBandwidthUhz (u.ref r).word) (updateTicks (u.banks.active.refType r)) u.banks.active.slopeLimit u.sel.integ (u.loopError r)).2
        ∧ t.sel.e = u.loopError r ∧ t.sel.loopAt = some u.time.tick ∧ t.sel.lastUpdate = u.now)) ∧
  (∀ (dt : Nat) (s u : State), s.advance dt = u → u.sel.selected = none →
      CompletesWith (exec (.loopUpdate dt) s) (fun t => t.time = u.time ∧ t.sel.state = u.sel.state)) ∧
  (∀ (dt : Nat) (s u : State) r, s.advance dt = u → u.sel.selected = some r → u.sel.state = .acquiring → 60 ≤ u.sel.lockRun →
      CompletesWith (exec (.lockAchieved dt) s) (fun t => t.sel.state = (if freqOnly (u.banks.active.refType r) then .lockedFreq else .locked) ∧ t.sel.everLocked = true ∧ t.time = u.time)) ∧
  (∀ (dt : Nat) (s u : State), s.advance dt = u → u.sel.lockRun < 60 →
      exec (.lockAchieved dt) s = .next (u)) ∧
  (∀ (dt : Nat) (theta : Int) (s u : State), s.advance dt = u → u.sel.state = .locked → u.ocxo.warm = true →
      u.sel.loopHeld = false → 1000 * tickS ≤ u.hold.accT → u.hold.accT / (2 * tickS) ≤ 604800 →
      CompletesWith (exec (.holdoverSample dt theta) s) (fun t => t.hold.accY = 0 ∧ t.hold.accT = 0
          ∧ t.plat = { u.plat with tcase := theta } ∧ t = { u with hold := t.hold, plat := t.plat }
        ∧ t.hold.samples.head? = some (divNear u.hold.accY u.hold.accT, theta,
            (u.time.sec : Int) - ((u.hold.accT / (2 * tickS) : Nat) : Int)))) ∧
  (∀ (dt : Nat) (theta : Int) (s u : State), s.advance dt = u → u.ocxo.warm = false →
      exec (.holdoverSample dt theta) s = .next (u)) ∧
  (∀ (dt : Nat) (theta : Int) (s u : State), s.advance dt = u → u.sel.state = .holdover → u.sel.loopHeld = false →
      u.hold.writeAt = none → u.modelValid = true →
      CompletesWith (exec (.holdoverWrite dt theta) s) (fun t => t.time = u.time.setFreq (ratNear (u.model theta))
          ∧ t.hold.writeAt = some u.time.tick ∧ t.sel.state = .holdover)) ∧
  (∀ (dt : Nat) (theta : Int) (s u : State), s.advance dt = u → u.sel.state ≠ .holdover →
      exec (.holdoverWrite dt theta) s = .next (u)) ∧
  (∀ (dt : Nat) (s u : State), s.advance dt = u → u.sel.state = .waitStep → u.banks.active.autoStep = true →
      u.time.scheds.any (fun c => c.src == 2) = false → u.atSecond = true → u.sel.tested ≠ some u.time.sec → u.cue.rows = [] →
      exec (.autoStepTest dt) s = .next ({ u with sel := { u.sel with blocked := false, tested := some u.time.sec }, time := { u.time with scheds := u.time.scheds ++ [{ atSec := u.time.sec + 1, delta := none, asStep := true, src := 2 }] } })) ∧
  (∀ (dt : Nat) (s u : State) e, s.advance dt = u → u.sel.state = .waitStep → u.banks.active.autoStep = true →
      u.time.scheds.any (fun c => c.src == 2) = false → u.atSecond = true → u.sel.tested ≠ some u.time.sec → e ∈ u.cue.rows →
      e.2.template = false → (u.time.sec : Int) * uS ≤ e.2.inst →
      e.2.inst ≤ (u.time.sec : Int) * uS + uS + (u.banks.active.stepHorizonS : Int) * uS →
      exec (.autoStepTest dt) s = .next ({ u with sel := { u.sel with blocked := true, tested := some u.time.sec } })) ∧
  (∀ (dt : Nat) (s u : State), s.advance dt = u → u.sel.tested = some u.time.sec →
      exec (.autoStepTest dt) s = .next (u)) ∧
  (∀ (dt : Nat) (s u : State), s.advance dt = u → u.atSecond = false →
      exec (.autoStepTest dt) s = .next (u)) ∧
  (∀ (dt ref : Nat) (s u : State), s.advance dt = u → ref < 8 →
      exec (.refQuiescent dt ref) s = .next (u.updRef ref (fun x => { x with draining := false })))

/-- Timing outputs and time-of-day messages: what each event does when its condition holds, and that it does nothing when it
does not (05_references_and_holdover.md). -/
def Obligations.OutputEvents : Prop :=
  (∀ (dt output : Nat) (s u : State) sf, s.advance dt = u → output < 8 → (u.output output).running = true →
      (u.output output).draining = false → (u.output output).mode = 1 → (u.output output).realign = false →
      u.nextEdge (u.output output) = sf → sf ≤ u.stepFree →
      exec (.outputEdge dt output) s = .next (((u.updOut output (fun o => { o with
        lastEdge := some sf, lastTry := some sf, stayEnd := some (sf + ((u.output output).widthNs : Int) * uNs),
            realign := false
        placed := if u.watched output then sf :: o.placed else o.placed })).showEdge output true (sf + u.time.stepSum)).showEdge output false
        (sf + u.time.stepSum + ((u.output output).widthNs : Int) * uNs))) ∧
  (∀ (dt output : Nat) (s u : State) sf, s.advance dt = u → output < 8 → (u.output output).running = true →
      (u.output output).draining = false → (u.output output).mode = 2 → u.nextEdge (u.output output) = sf → sf ≤ u.stepFree →
      exec (.outputEdge dt output) s = .next (((u.updOut output (fun o => { o with
        lastEdge := some sf, lastTry := some sf, stayEnd := some (sf + ratNear (freqPeriod (2 * (u.output output).value))),
            realign := false })).showEdge output true (sf + u.time.stepSum)).showEdge output false
        (sf + u.time.stepSum + ratNear (freqPeriod (2 * (u.output output).value))))) ∧
  (∀ (dt output : Nat) (s u : State), s.advance dt = u → output < 8 → u.stepFree < u.nextEdge (u.output output) →
      exec (.outputEdge dt output) s = .next (u)) ∧
  (∀ (dt output : Nat) (s u : State), s.advance dt = u → output < 8 → (u.output output).running = false →
      exec (.outputEdge dt output) s = .next (u)) ∧
  (∀ (dt output : Nat) (s u : State) w, s.advance dt = u → output < 9 → (u.output output).draining = true →
      (u.output output).endSf ≤ u.stepFree → (u.output output).pulseEnds = [] → w = u.banks.active.outWord output →
      exec (.outputQuiescent dt output) s = .next ((if u.watched output then { u with meas := { u.meas with turnEvs := [] } } else u).updOut output (fun o => { o with
        cfg := w, running := bits w 8 3 != 0, draining := false, level := false, pulseEnds := [], realign := false
        startSf := if bits w 8 3 = 2 then u.nextSecondSf else u.stepFree, lastEdge := none, lastTry := none,
            stayEnd := none }))) ∧
  (∀ (dt output : Nat) (s u : State), s.advance dt = u → output < 9 → u.stepFree < (u.output output).endSf →
      exec (.outputQuiescent dt output) s = .next (u)) ∧
  (∀ (dt output : Nat) (s u : State), s.advance dt = u → output < 9 → (u.output output).draining = false →
      exec (.outputQuiescent dt output) s = .next (u)) ∧
  (∀ (dt output counted : Nat) (s u : State) err, s.advance dt = u → output < 8 → (u.chan 8).state = 2 →
      (u.chan 8).source = 8 + output → u.meas.turnAt + tickS ≤ u.time.tick → (u.output output).running = true →
      u.turnError (u.output output) = some err →
      CompletesWith (exec (.toutMonitorCheck dt output counted) s) (fun t => (t.output output).monError = err
          ∧ (t.output output).monFault = (if (u.output output).mode = 2 then decide (10000 < err.natAbs) else decide (65536 < err.natAbs))
        ∧ t.meas.turnAt = u.time.tick ∧ (∀ j, j ≠ output → t.output j = u.output j))) ∧
  (∀ (dt output counted : Nat) (s u : State), s.advance dt = u → output < 8 → u.time.tick < u.meas.turnAt + tickS →
      exec (.toutMonitorCheck dt output counted) s = .next (u)) ∧
  (∀ (dt output counted : Nat) (s u : State), s.advance dt = u → output < 8 → (u.chan 8).source ≠ 8 + output →
      exec (.toutMonitorCheck dt output counted) s = .next (u)) ∧
  (∀ (dt : Nat) (s u : State) sec, s.advance dt = u → sec = (u.nowU + uS) / uS → (u.output 8).running = true →
      499 * uMs ≤ sec * uS - u.nowU → sec * uS - u.nowU ≤ 501 * uMs → (u.output 8).sentSec ≠ some sec.toNat →
      exec (.todSentenceSend dt) s = .next ((u.updOut 8 (fun o => { o with sentSec := some sec.toNat })).emit (.serial (u.sentence sec.toNat)))) ∧
  (∀ (dt : Nat) (s u : State) sec, s.advance dt = u → sec = (u.nowU + uS) / uS → (u.output 8).sentSec = some sec.toNat →
      exec (.todSentenceSend dt) s = .next (u)) ∧
  (∀ (dt : Nat) (s u : State), s.advance dt = u → (u.output 8).running = false →
      exec (.todSentenceSend dt) s = .next (u)) ∧
  (∀ (dt : Nat) (chars : List Nat) (s u : State) sec r, s.advance dt = u → readSentence chars = some sec →
      refList.find? u.banks.active.todRx = some r →
      exec (.todSentenceReceive dt chars) s = .next (u.updRef r (fun x => { x with label := some sec, todAt := some u.time.tick }))) ∧
  (∀ (dt : Nat) (chars : List Nat) (s u : State), s.advance dt = u → readSentence chars = none →
      exec (.todSentenceReceive dt chars) s = .next (u))

/-- The satellite receiver: what each event does when its condition holds, and that it does nothing when it does not
(06_satellite_receiver.md). -/
def Obligations.ReceiverEvents : Prop :=
  (∀ (dt : Nat) (e : GnssEpoch) (s u : State), s.advance dt = u → u.gnss.rx ≠ .off →
      CompletesWith (exec (.gnssEpoch dt e) s) (fun t => t.gnss.tacc = e.tacc
          ∧ t.gnss.lastLabel = some (e.sysSec + (if u.banks.active.gnssScale = 3 then 33 else 19))
        ∧ t.gnss.cfg = u.banks.active.gnss ∧ t.gnss.cfgChanged = false)) ∧
  (∀ (dt : Nat) (e : GnssEpoch) (s u : State), s.advance dt = u → u.gnss.rx = .off →
      exec (.gnssEpoch dt e) s = .next (u)) ∧
  (∀ (dt : Nat) (s u : State), s.advance dt = u → u.gnss.rx ≠ .off →
      CompletesWith (exec (.gnssIndicator dt) s) (fun t => (t.gnss.hard ≠ 0 → t.gnss.clearSince = none)
          ∧ t.gnss.rx = u.gnss.rx ∧ t.time = u.time ∧ t.refs = u.refs)) ∧
  (∀ (dt : Nat) (s u : State), s.advance dt = u → u.gnss.rx = .off →
      exec (.gnssIndicator dt) s = .next (u)) ∧
  (∀ (dt : Nat) (s u : State), s.advance dt = u → u.gnss.rx = .survey → u.gnss.lastTracked + 60 * tickS ≤ u.time.tick →
      CompletesWith (exec (.gnssSignalLoss dt) s) (fun t => t.gnss.rx = .acquiring ∧ t.gnss.fixes = 0 ∧ t.gnss.surveyS = 0
          ∧ t.gnss.stored = u.gnss.stored)) ∧
  (∀ (dt : Nat) (s u : State), s.advance dt = u → u.gnss.rx = .off →
      exec (.gnssSignalLoss dt) s = .next (u)) ∧
  (∀ (dt : Nat) (s u : State) p sigma, s.advance dt = u → u.gnss.rx = .survey → u.fw.running = true →
      u.gnssBank.gnssFixed = false → u.gnssBank.surveyS ≤ u.gnss.surveyS →
      surveySigma u.gnss.fixes u.gnss.fixSum u.gnss.fixSq = some sigma → sigma ≤ u.gnssBank.surveyAccMm →
      p = (divNear u.gnss.fixSum.1 u.gnss.fixes, divNear u.gnss.fixSum.2.1 u.gnss.fixes,
      divNear u.gnss.fixSum.2.2 u.gnss.fixes) →
      CompletesWith (exec (.gnssSurveyDone dt) s) (fun t => t.gnss.rx = .hold ∧ t.gnss.held = p ∧ (u.plat.warn = false →
          t.gnss.stored = some p))) ∧
  (∀ (dt : Nat) (s u : State), s.advance dt = u → u.gnssBank.gnssFixed = true →
      exec (.gnssSurveyDone dt) s = .next (u)) ∧
  (∀ (dt : Nat) (s u : State), s.advance dt = u → u.gnss.rx ≠ .survey →
      exec (.gnssSurveyDone dt) s = .next (u)) ∧
  (∀ (dt : Nat) (x y z : Int) (s u : State) far, s.advance dt = u → u.gnss.rx = .hold → 4 ≤ u.gnss.satsUsed →
      u.gnss.fixAt = none → far = decide ((u.gnssBank.moveLimitM * 1000) ^ 2 < dist2 u.gnss.held (x, y, z)) →
      CompletesWith (exec (.gnssBackgroundFix dt x y z) s) (fun t => t.gnss.moveFails = (if far then u.gnss.moveFails + 1 else 0) ∧ t.gnss.movePasses = (if far then 0 else u.gnss.movePasses + 1))) ∧
  (∀ (dt : Nat) (x y z : Int) (s u : State) last, s.advance dt = u → u.gnss.fixAt = some last →
      u.time.tick < last + 60 * tickS →
      exec (.gnssBackgroundFix dt x y z) s = .next (u)) ∧
  (∀ (dt : Nat) (x y z : Int) (s u : State), s.advance dt = u → u.gnss.satsUsed < 4 →
      exec (.gnssBackgroundFix dt x y z) s = .next (u)) ∧
  (∀ (dt : Nat) (s u : State), s.advance dt = u → (u.gnss.rx = .survey ∨ u.gnss.rx = .hold) → u.gnss.hardSet = true →
      CompletesWith (exec (.gnssDisqualify dt) s) (fun t => t.gnss.rx = .disqualified ∧ t.gnss.before = u.gnss.rx
          ∧ t.gnss.disqs = inc48 u.gnss.disqs 1)) ∧
  (∀ (dt : Nat) (s u : State), s.advance dt = u → u.gnss.hard = 0 → u.gnss.softSince = none →
      exec (.gnssDisqualify dt) s = .next (u)) ∧
  (∀ (dt : Nat) (s u : State) since, s.advance dt = u → u.gnss.rx = .disqualified → u.gnss.clearSince = some since →
      since + u.gnssBank.recoverS * tickS ≤ u.time.tick →
      CompletesWith (exec (.gnssRecover dt) s) (fun t => t.gnss.rx = u.gnss.before ∧ t.gnss.clockHist = u.gnss.clockHist
          ∧ t.gnss.softSince = none)) ∧
  (∀ (dt : Nat) (s u : State), s.advance dt = u → u.gnss.clearSince = none →
      exec (.gnssRecover dt) s = .next (u)) ∧
  (∀ (dt ma held : Nat) (s u : State), s.advance dt = u → u.gnss.biasMv ≠ 0 → ma < 4 → tickS ≤ held →
      CompletesWith (exec (.gnssAntenna dt ma held) s) (fun t => t.gnss.antenna = .opened ∧ t.gnss.antennaMa = ma)) ∧
  (∀ (dt ma held : Nat) (s u : State), s.advance dt = u → u.gnss.biasMv ≠ 0 → 150 ≤ ma → 10 * tickMs ≤ held →
      CompletesWith (exec (.gnssAntenna dt ma held) s) (fun t => t.gnss.antenna = .short ∧ t.gnss.antennaMa = 0
          ∧ t.gnss.biasMv = 0 ∧ t.gnss.reapplyAt = u.time.tick + 10 * tickS)) ∧
  (∀ (dt ma held : Nat) (s u : State), s.advance dt = u → u.gnss.biasMv ≠ 0 → 4 ≤ ma → ma ≤ 120 →
      CompletesWith (exec (.gnssAntenna dt ma held) s) (fun t => t.gnss.antenna = .ok ∧ t.gnss.antennaMa = ma)) ∧
  (∀ (dt ma held : Nat) (s u : State), s.advance dt = u → u.gnss.biasMv = 0 →
      exec (.gnssAntenna dt ma held) s = .next (u)) ∧
  (∀ (dt : Nat) (s u : State), s.advance dt = u →
      exec (.gnssQuiescent dt) s = .next ({ u with gnss := { u.gnss with draining := false } })) ∧
  (∀ (dt ma : Nat) (s u : State), s.advance dt = u → u.gnss.antenna = .short → u.gnss.reapplyAt + 100 * tickMs ≤ u.time.tick →
      ma < 150 →
      CompletesWith (exec (.antennaBiasReapply dt ma) s) (fun t => t.gnss.antenna = .ok ∧ t.gnss.antennaMa = ma
          ∧ t.gnss.biasMv = (if u.gnssBank.bias5v then 5000 else 3300))) ∧
  (∀ (dt ma : Nat) (s u : State), s.advance dt = u → u.gnss.antenna = .short → u.gnss.reapplyAt + 100 * tickMs ≤ u.time.tick →
      150 ≤ ma →
      exec (.antennaBiasReapply dt ma) s = .next ({ u with gnss := { u.gnss with antennaMa := 0, biasMv := 0, reapplyAt := u.gnss.reapplyAt + 10 * tickS } })) ∧
  (∀ (dt ma : Nat) (s u : State), s.advance dt = u → u.gnss.antenna ≠ .short →
      exec (.antennaBiasReapply dt ma) s = .next (u))

/-- The timing domain and its trunks: what each event does when its condition holds, and that it does nothing when it does not
(07_timing_domain.md). -/
def Obligations.DomainEvents : Prop :=
  (∀ (dt : Nat) (s u : State), s.advance dt = u → u.banks.active.domEnable = false →
      exec (.helloSend dt) s = .next (u)) ∧
  (∀ (dt : Nat) (s u : State), s.advance dt = u → u.time.tick < u.dom.helloDue →
      exec (.helloSend dt) s = .next (u)) ∧
  (∀ (dt : Nat) (s u : State), s.advance dt = u → u.banks.active.domEnable = true → u.dom.helloDue ≤ u.time.tick →
      CompletesWith (exec (.helloSend dt) s) (fun t => t.dom.helloDue = u.time.tick + u.helloTicks
          ∧ t.dom.heartbeat = (if u.dom.isRoot then (u.dom.heartbeat + 1) % 2 ^ 32 else u.dom.heartbeat))) ∧
  (∀ (dt : Nat) (f : DomFrame) (s u : State) v, s.advance dt = u → f.port < 56 → u.acceptDomain f = (false, v) →
      exec (.hello dt f) s = .next (v)) ∧
  (∀ (dt : Nat) (f : DomFrame) (s u : State) v, s.advance dt = u → f.port < 56 → u.acceptDomain f = (true, v) → f.kind ≠ 1 →
      exec (.hello dt f) s = .next (v)) ∧
  (∀ (dt : Nat) (f : DomFrame) (s u : State) v, s.advance dt = u → f.port < 56 → u.acceptDomain f = (true, v) → f.kind = 1 →
      (u.port f.port).trunk.state = .down →
      CompletesWith (exec (.hello dt f) s) (fun t => (t.port f.port).trunk.nbr = some (f.sender, helloOf f.payload)
          ∧ (t.port f.port).trunk.helloAt = u.time.tick ∧ (t.port f.port).trunk.state = .l1Wait)) ∧
  (∀ (dt : Nat) (s u : State), s.advance dt = u → u.banks.active.domEnable = false →
      exec (.heartbeatStale dt) s = .next (u)) ∧
  (∀ (dt : Nat) (s u : State), s.advance dt = u → u.banks.active.domEnable = true → u.rootOffers = [] →
      CompletesWith (exec (.heartbeatStale dt) s) (fun t => t.dom.isRoot = false ∧ t.dom.better = none
          ∧ t.dom.heartbeat = u.dom.heartbeat)) ∧
  (∀ (dt : Nat) (s u : State) h, s.advance dt = u → u.banks.active.domEnable = true → u.rootOffers = [h] →
      u.rootFresh = false → h.rootIdentity ≠ u.dom.root.rootIdentity →
      CompletesWith (exec (.heartbeatStale dt) s) (fun t => t.dom.isRoot = (h.rootIdentity == ownIdentity)
          ∧ t.dom.better = none)) ∧
  (∀ (dt : Nat) (s u : State), s.advance dt = u → u.dom.parentPort = none →
      exec (.membersSend dt) s = .next (u)) ∧
  (∀ (dt : Nat) (s u : State), s.advance dt = u → u.time.tick < u.dom.membersDue →
      exec (.membersSend dt) s = .next (u)) ∧
  (∀ (dt : Nat) (s u : State) p, s.advance dt = u → u.dom.parentPort = some p → u.dom.membersDue ≤ u.time.tick →
      (u.port p).link = .up → u.domainKey.isSome = true →
      CompletesWith (exec (.membersSend dt) s) (fun t => t.dom.membersDue = u.time.tick + tickS
          ∧ t.dom.txSeq = (u.dom.txSeq + 1) % 2 ^ 48 ∧ ∃ fs, t.dom.queue = u.dom.queue
          ++ [{ port := p, kind := 2, fields := fs }])) ∧
  (∀ (dt : Nat) (s u : State) p, s.advance dt = u → u.dom.parentPort = some p → u.dom.membersDue ≤ u.time.tick →
      u.domainKey = none →
      exec (.membersSend dt) s = .next ({ u with dom := { u.dom with membersDue := u.time.tick + tickS } })) ∧
  (∀ (dt : Nat) (f : DomFrame) (s u : State) v, s.advance dt = u → f.port < 56 → u.acceptDomain f = (false, v) →
      exec (.members dt f) s = .next (v)) ∧
  (∀ (dt : Nat) (f : DomFrame) (s u : State) v, s.advance dt = u → f.port < 56 → u.acceptDomain f = (true, v) → f.kind ≠ 2 →
      exec (.members dt f) s = .next (v)) ∧
  (∀ (dt : Nat) (f : DomFrame) (s u : State) v m, s.advance dt = u → f.port < 56 → u.acceptDomain f = (true, v) → f.kind = 2 →
      m = some (bits f.payload 64 4096, wireField f.payload 16 16, bits f.payload 32 8) →
      (v.updTrunk f.port (fun t => { t with members := m })).duplicated f.port (bits f.payload 64 4096) = none →
      exec (.members dt f) s = .next (v.updTrunk f.port (fun t => { t with members := m }))) ∧
  (∀ (dt : Nat) (f : DomFrame) (s u : State) v, s.advance dt = u → f.port < 56 → u.acceptDomain f = (true, v) → f.kind = 2 →
      bit (bits f.payload 64 4096) u.deviceId = true →
      CompletesWith (exec (.members dt f) s) (fun t => t.dom.dupId = true ∧ t.dom.dupAt = u.time.tick)) ∧
  (∀ (dt : Nat) (s u : State), s.advance dt = u → u.dom.dupId = false →
      exec (.dupIdClear dt) s = .next (u)) ∧
  (∀ (dt : Nat) (s u : State), s.advance dt = u → u.time.tick < u.dom.dupAt + 10 * tickS →
      exec (.dupIdClear dt) s = .next (u)) ∧
  (∀ (dt : Nat) (s u : State), s.advance dt = u → u.dom.dupId = true → u.dom.dupAt + 10 * tickS ≤ u.time.tick →
      CompletesWith (exec (.dupIdClear dt) s) (fun t => t.dom = { u.dom with dupId := false } ∧ (t.src 0x26).standing = false)) ∧
  (∀ (dt port : Nat) (heard : Bool) (m : PtpMsg) (phase lane : Nat) (moves : List Int) (s u : State), s.advance dt = u →
      port < 56 → heard = false → u.runsExchange port = true → (u.port port).trunk.turnAt ≤ u.time.tick →
      u.slaveEnd port = true → (u.port port).trunk.pair.e = none → u.ptpKeyless port = false →
      u.time.tick < (u.port port).trunk.l1At → u.poolUsed + cellsOf 88 ≤ u.banks.active.tsPoolKib * 4 →
      CompletesWith (exec (.trunkExchange dt port heard m phase lane moves) s) (fun t => ∃ c,
          t.queue port u.banks.active.tsClass = u.queue port u.banks.active.tsClass ++ [c] ∧ c.what = 13 ∧ c.frame.tag = 1
          ∧ (t.port port).trunk.turnAt = u.time.tick + 125 * tickMs ∧ (t.port port).trunk.phase = (u.port port).trunk.phase)) ∧
  (∀ (dt port : Nat) (heard : Bool) (m : PtpMsg) (phase lane : Nat) (moves : List Int) (s u : State) k h, s.advance dt = u →
      port < 56 → heard = false → u.runsExchange port = true → (u.port port).trunk.turnAt ≤ u.time.tick →
      u.slaveEnd port = false → (u.port port).trunk.nbr = some (k, h) → h.nbrPhaseValid = false →
      u.time.tick < (u.port port).trunk.annAt → u.ptpKeyless port = false → u.time.tick < (u.port port).trunk.l1At →
      u.poolUsed + cellsOf 88 ≤ u.banks.active.tsPoolKib * 4 →
      CompletesWith (exec (.trunkExchange dt port heard m phase lane moves) s) (fun t => ∃ c,
          t.queue port u.banks.active.tsClass = u.queue port u.banks.active.tsClass ++ [c] ∧ c.what = 12 ∧ c.frame.tag = 0
          ∧ c.booked = true ∧ (t.port port).trunk.turnAt = u.time.tick + 125 * tickMs)) ∧
  (∀ (dt port : Nat) (heard : Bool) (m : PtpMsg) (phase lane : Nat) (moves : List Int) (s u : State) y pair t1 t2 t3 t4 r,
      s.advance dt = u → port < 56 → heard = true → y = { m with port := port, phase := phase, lane := lane } →
      u.runsExchange port = true → m.domain = u.ptpDomainOf port → PtpMsg.l2 y = true → u.ptpIntact y = true →
      u.slaveEnd port = true → m.msg = 9 → pair = (u.port port).trunk.pair → u.answersPair port pair y = true →
      pair.stamps = some (t1, t2, t3) → t4 = m.timestamp + m.correction → r = (t4 - t1) - (t3 - t2) →
      CompletesWith (exec (.trunkExchange dt port heard m phase lane moves) s) (fun t => (t.port port).trunk.rtt = r
          ∧ (t.port port).trunk.down = downOf r (u.banks.active.appliedAlpha port true)
        ∧ (t.port port).trunk.pair.e = some ((t1 + downOf r (u.banks.active.appliedAlpha port true)) - t2))) ∧
  (∀ (dt port : Nat) (heard : Bool) (m : PtpMsg) (phase lane : Nat) (moves : List Int) (s u : State), s.advance dt = u →
      port < 56 → heard = false → u.time.tick < (u.port port).trunk.turnAt →
      CompletesWith (exec (.trunkExchange dt port heard m phase lane moves) s) (fun t => t.ports = u.ports)) ∧
  (∀ (dt port : Nat) (heard : Bool) (m : PtpMsg) (phase lane : Nat) (moves : List Int) (s u : State), s.advance dt = u →
      port < 56 → u.runsExchange port = false →
      CompletesWith (exec (.trunkExchange dt port heard m phase lane moves) s) (fun t => t.ports = u.ports)) ∧
  (∀ (dt port : Nat) (s u : State), s.advance dt = u → port < 56 → (u.port port).trunk.state = .down →
      exec (.trunkState dt port) s = .next (u)) ∧
  (∀ (dt port : Nat) (s u : State), s.advance dt = u → port < 56 → (u.port port).trunk.state ≠ .down →
      u.trunkAlive port = false →
      CompletesWith (exec (.trunkState dt port) s) (fun t => (t.port port).trunk.state = .down
          ∧ (t.port port).trunk.nbr = none ∧ (t.port port).trunk.members = none ∧ (t.port port).trunk.l1 = 0)) ∧
  (∀ (dt port : Nat) (x : L1Peer) (s u : State), s.advance dt = u → port < 56 → (u.port port).trunk.state = .down →
      exec (.l1syncChange dt port x) s = .next (u)) ∧
  (∀ (dt port : Nat) (x : L1Peer) (s u : State), s.advance dt = u → port < 56 → (u.port port).trunk.state = .l1Wait →
      L1Peer.state x = 4 →
      CompletesWith (exec (.l1syncChange dt port x) s) (fun t => (t.port port).trunk.state = .measuring
          ∧ (t.port port).trunk.l1 = 4 ∧ (t.port port).trunk.prevRtt = none)) ∧
  (∀ (dt port : Nat) (x : L1Peer) (s u : State), s.advance dt = u → port < 56 → (u.port port).trunk.state = .measuring →
      L1Peer.state x ≠ 4 →
      CompletesWith (exec (.l1syncChange dt port x) s) (fun t => (t.port port).trunk.state = .l1Wait
          ∧ (t.port port).trunk.l1 = L1Peer.state x ∧ (t.port port).trunk.prevRtt = none)) ∧
  (∀ (dt : Nat) (s u : State), s.advance dt = u → u.dom.draining = true → u.domainOnWire = false →
      exec (.domainQuiescent dt) s = .next ({ u with dom := { u.dom with draining := false } })) ∧
  (∀ (dt : Nat) (s u : State), s.advance dt = u → u.domainOnWire = true →
      exec (.domainQuiescent dt) s = .next (u)) ∧
  (∀ (dt : Nat) (s u : State), s.advance dt = u → u.dom.draining = false →
      exec (.domainQuiescent dt) s = .next (u)) ∧
  (∀ (dt : Nat) (s u : State), s.advance dt = u → (∀ c, c ∈ u.meas.linkCals → u.time.tick < c.closeTick) →
      exec (.linkCalGateClose dt) s = .next (u)) ∧
  (∀ (dt : Nat) (s u : State) c, s.advance dt = u → u.meas.linkCals = [c] → c.closeTick ≤ u.time.tick →
      CompletesWith (exec (.linkCalGateClose dt) s) (fun t => t.meas.linkCals = [] ∧ (∀ w, w ∈ t.tci.aside → w ∈ u.tci.aside))) ∧
  (∀ (dt port : Nat) (s u : State), s.advance dt = u → port < 56 → u.banks.active.esmcTx port = false →
      exec (.esmcSend dt port) s = .next (u)) ∧
  (∀ (dt port : Nat) (s u : State), s.advance dt = u → port < 56 → u.banks.active.esmcTx port = true →
      (u.port port).link = .up → (u.port port).trunk.esmcTxAt = none →
      exec (.esmcSend dt port) s = .next (((u.updTrunk port (fun t => { t with esmcSent := u.qualityLevel, esmcTxAt := some u.time.tick })).countTx port 0x0180C2000002 64).emit (.frame port .esmc [(4, u.qualityLevel)]))) ∧
  (∀ (dt port : Nat) (ql : Option Nat) (s u : State) x, s.advance dt = u → port < 56 → ql = some x →
      CompletesWith (exec (.esmcReceive dt port ql) s) (fun t => (t.port port).trunk.esmcQl = x % 16
          ∧ (t.port port).trunk.esmcAt = some u.time.tick)) ∧
  (∀ (dt port : Nat) (ql : Option Nat) (s u : State), s.advance dt = u → port < 56 → ql = none →
      u.esmcSilent port (u.ref 5).startAt = false → u.esmcSilent port (u.ref 6).startAt = false →
      CompletesWith (exec (.esmcReceive dt port ql) s) (fun t => t.ports = u.ports ∧ t.refs = u.refs))

/-- Cues and the capture ring: what each event does when its condition holds, and that it does nothing when it does not
(08_cues.md). -/
def Obligations.CueEvents : Prop :=
  (∀ (dt : Nat) (f : DomFrame) (s u : State) v, s.advance dt = u → f.port < 56 → u.acceptDomain f = (false, v) →
      exec (.cueAnnounce dt f) s = .next (v)) ∧
  (∀ (dt : Nat) (f : DomFrame) (s u : State) v, s.advance dt = u → f.port < 56 → u.acceptDomain f = (true, v) → f.kind ≠ 0x10 →
      exec (.cueAnnounce dt f) s = .next (v)) ∧
  (∀ (dt : Nat) (f : DomFrame) (s u : State) v, s.advance dt = u → f.port < 56 → u.acceptDomain f = (true, v) →
      f.kind = 0x10 → v.takesRound f false = false →
      exec (.cueAnnounce dt f) s = .next (v)) ∧
  (∀ (dt : Nat) (f : DomFrame) (s u : State) v, s.advance dt = u → f.port < 56 → u.acceptDomain f = (true, v) →
      f.kind = 0x10 → v.takesRound f false = true →
      CompletesWith (exec (.cueAnnounce dt f) s) (fun t => ∃ c, t.cue.rounds = (c :: u.cue.rounds).take 64
          ∧ c.round = DomFrame.cueRound f ∧ c.scene = DomFrame.cueScene f ∧ c.root = DomFrame.cueRoot f
        ∧ c.cancel = false ∧ c.arrived = u.time.tick)) ∧
  (∀ (dt : Nat) (f : DomFrame) (s u : State) v, s.advance dt = u → f.port < 56 → u.acceptDomain f = (false, v) →
      exec (.cueCancelFrame dt f) s = .next (v)) ∧
  (∀ (dt : Nat) (f : DomFrame) (s u : State) v, s.advance dt = u → f.port < 56 → u.acceptDomain f = (true, v) → f.kind ≠ 0x12 →
      exec (.cueCancelFrame dt f) s = .next (v)) ∧
  (∀ (dt : Nat) (f : DomFrame) (s u : State) v, s.advance dt = u → f.port < 56 → u.acceptDomain f = (true, v) →
      f.kind = 0x12 → v.takesRound f true = false →
      exec (.cueCancelFrame dt f) s = .next (v)) ∧
  (∀ (dt : Nat) (f : DomFrame) (s u : State) v, s.advance dt = u → f.port < 56 → u.acceptDomain f = (true, v) →
      f.kind = 0x12 → v.takesRound f true = true →
      CompletesWith (exec (.cueCancelFrame dt f) s) (fun t => t.cue.rounds = u.cue.rounds ∧ ∃ c,
          t.cue.cancels = (c :: u.cue.cancels).take 64 ∧ c.round = DomFrame.cueRound f ∧ c.root = DomFrame.cueRoot f
        ∧ c.cancel = true ∧ c.okMap = 2 ^ u.deviceId)) ∧
  (∀ (dt : Nat) (f : DomFrame) (s u : State) v, s.advance dt = u → f.port < 56 → u.acceptDomain f = (false, v) →
      exec (.cueAck dt f) s = .next (v)) ∧
  (∀ (dt : Nat) (f : DomFrame) (s u : State) v, s.advance dt = u → f.port < 56 → u.acceptDomain f = (true, v) → f.kind ≠ 0x11 →
      exec (.cueAck dt f) s = .next (v)) ∧
  (∀ (dt : Nat) (f : DomFrame) (s u : State) v, s.advance dt = u → f.port < 56 → u.acceptDomain f = (true, v) →
      f.kind = 0x11 → v.isChild f.port = false →
      exec (.cueAck dt f) s = .next (v)) ∧
  (∀ (dt : Nat) (f : DomFrame) (s u : State) v c, s.advance dt = u → f.port < 56 → u.acceptDomain f = (true, v) →
      f.kind = 0x11 → v.isChild f.port = true → u.dom.dupId = false → u.cue.rounds = [c] →
      c.round = wireField f.payload 0 32 → c.cancel = bit f.payload 32 → c.sent = false → c.acked.contains f.port = false →
      c.root = u.dom.root.rootId →
      CompletesWith (exec (.cueAck dt f) s) (fun t => t.cue.rounds = [{ c with acked := f.port :: c.acked, okMap := c.okMap ||| bits f.payload 160 4096, late := (c.late + wireField f.payload 64 16) % 65536, fail := (c.fail + wireField f.payload 80 16) % 65536 }])) ∧
  (∀ (dt : Nat) (s u : State), s.advance dt = u → u.cue.rounds = [] → u.cue.cancels = [] →
      exec (.cueAckSend dt) s = .next (u)) ∧
  (∀ (dt : Nat) (s u : State), s.advance dt = u → u.dom.dupId = true →
      exec (.cueAckSend dt) s = .next (u)) ∧
  (∀ (dt : Nat) (s u : State) c p, s.advance dt = u → u.dom.dupId = false → u.cue.rounds = [c] → u.cue.cancels = [] →
      c.sent = false → c.arrived + u.ackWait ≤ u.time.tick → c.mine = false → u.dom.parentPort = some p →
      (u.port p).link = .up → u.domainKey.isSome = true →
      CompletesWith (exec (.cueAckSend dt) s) (fun t => t.cue.rounds = [{ c with sent := true, members := mapCount u.subtreeMap }] ∧ t.dom.txSeq = (u.dom.txSeq + 1) % 2 ^ 48 ∧ ∃ fs, t.dom.queue = u.dom.queue ++ [{ port := p, kind := 17, fields := fs }])) ∧
  (∀ (dt : Nat) (s u : State) c, s.advance dt = u → u.dom.dupId = false → u.cue.rounds = [c] → u.cue.cancels = [] →
      u.cue.results = [] → c.sent = false → c.arrived + u.ackWait ≤ u.time.tick → c.mine = true →
      (u.cue.nextRound + 2 ^ 32 - c.round) % 2 ^ 32 ≤ 16 →
      CompletesWith (exec (.cueAckSend dt) s) (fun t => t.cue.rounds = [{ c with sent := true, members := mapCount u.subtreeMap }] ∧ t.cue.results = [{ c with sent := true, members := mapCount u.subtreeMap }])) ∧
  (∀ (dt : Nat) (s u : State), s.advance dt = u → u.cue.rows = [] →
      exec (.cuePrefetchStart dt) s = .next (u)) ∧
  (∀ (dt : Nat) (s u : State) id r, s.advance dt = u → u.cue.rows = [(id, r)] → r.template = false → r.kind = 1 →
      r.buffered = none → r.inst - 2 * uMs ≤ u.nowU → u.nowU ≤ r.inst - uMs →
      (u.windowRead 7 (cueBufferOffset + 16384 * r.slot) r.length).1 = true →
      CompletesWith (exec (.cuePrefetchStart dt) s) (fun t => ∃ d, t.cue.rows = [(id, { r with buffered := some d })])) ∧
  (∀ (dt : Nat) (s u : State), s.advance dt = u → u.cue.rows = [] →
      exec (.cuePrefetchDeadline dt) s = .next (u)) ∧
  (∀ (dt : Nat) (s u : State) id r, s.advance dt = u → u.cue.rows = [(id, r)] → r.template = false → r.equinox = false →
      r.kind = 1 → r.buffered = none → r.inst - uMs ≤ u.nowU →
      CompletesWith (exec (.cuePrefetchDeadline dt) s) (fun t => t.cue.rows = [] ∧ t.cue.late = inc48 u.cue.late 1)) ∧
  (∀ (dt : Nat) (s u : State), s.advance dt = u →
      exec (.cueHandover dt) s = .next ({ u with cue := { u.cue with rows := u.cue.rows.mapVal (fun r => if !r.template ∧ r.inst - u.nowU ≤ 50 * uUs then { r with handed := true } else r) } })) ∧
  (∀ (dt : Nat) (s u : State) id r, s.advance dt = u → u.cue.rows = [(id, r)] → u.rowDue r = true → r.kind = 3 →
      u.inService r.target = true → (List.range 8).all (fun o => (u.output o).pulseEnds.isEmpty) = true →
      CompletesWith (exec (.cueExecute dt) s) (fun t => t.cue.rows = [] ∧ t.cue.executed = inc48 u.cue.executed 1
          ∧ Tbl.getD t.cue.closedGates r.target 0 = Tbl.getD u.cue.closedGates r.target 0 ||| r.param)) ∧
  (∀ (dt : Nat) (s u : State) id r, s.advance dt = u → u.cue.rows = [(id, r)] → u.rowDue r = true → r.kind = 3 →
      u.inService r.target = false → (List.range 8).all (fun o => (u.output o).pulseEnds.isEmpty) = true →
      CompletesWith (exec (.cueExecute dt) s) (fun t => t.cue.rows = [] ∧ t.cue.late = inc48 u.cue.late 1
          ∧ t.cue.closedGates = u.cue.closedGates)) ∧
  (∀ (dt : Nat) (s u : State), s.advance dt = u → u.cue.rows = [] →
      (List.range 8).all (fun o => (u.output o).pulseEnds.isEmpty) = true →
      exec (.cueExecute dt) s = .next (u)) ∧
  (∀ (dt : Nat) (s u : State), s.advance dt = u → u.cap.draining = false →
      exec (.captureRingQuiescent dt) s = .next (u)) ∧
  (∀ (dt : Nat) (s u : State), s.advance dt = u → u.cap.draining = true →
      CompletesWith (exec (.captureRingQuiescent dt) s) (fun t => t.cap = { u.cap with draining := false }))

/-- Equinox rounds: what each event does when its condition holds, and that it does nothing when it does not
(13_configuration_banks.md). -/
def Obligations.RoundEvents : Prop :=
  (∀ (dt : Nat) (f : DomFrame) (s u : State) v, s.advance dt = u → f.port < 56 → u.acceptDomain f = (false, v) →
      exec (.prepare dt f) s = .next (v)) ∧
  (∀ (dt : Nat) (f : DomFrame) (s u : State) v, s.advance dt = u → f.port < 56 → u.acceptDomain f = (true, v) → f.kind ≠ 0x20 →
      exec (.prepare dt f) s = .next (v)) ∧
  (∀ (dt : Nat) (f : DomFrame) (s u : State) v, s.advance dt = u → f.port < 56 → u.acceptDomain f = (true, v) →
      f.kind = 0x20 → v.takesDown f = false →
      exec (.prepare dt f) s = .next (v)) ∧
  (∀ (dt : Nat) (f : DomFrame) (s u : State) v, s.advance dt = u → f.port < 56 → u.acceptDomain f = (true, v) →
      f.kind = 0x20 → v.takesDown f = true →
      CompletesWith (exec (.prepare dt f) s) (fun t => ∃ x, t.rnd.up = (x :: u.rnd.up).take 64 ∧ x.kind = 0x21
          ∧ x.round = frameRound f ∧ x.arrived = u.time.tick ∧ x.acked = [])) ∧
  (∀ (dt : Nat) (f : DomFrame) (s u : State) v, s.advance dt = u → f.port < 56 → u.acceptDomain f = (true, v) →
      f.kind = 0x20 → v.takesDown f = true → v.roundReasons true (frameRound f) (frameChange f) (frameInstant f) = 0 →
      CompletesWith (exec (.prepare dt f) s) (fun t => t.rnd.part = .prepared ∧ t.rnd.round = frameRound f
          ∧ t.rnd.inst = (frameInstant f).toNat ∧ t.rnd.lastReasons = 0)) ∧
  (∀ (dt : Nat) (f : DomFrame) (s u : State) v, s.advance dt = u → f.port < 56 → u.acceptDomain f = (false, v) →
      exec (.ready dt f) s = .next (v)) ∧
  (∀ (dt : Nat) (f : DomFrame) (s u : State) v, s.advance dt = u → f.port < 56 → u.acceptDomain f = (true, v) → f.kind ≠ 0x21 →
      exec (.ready dt f) s = .next (v)) ∧
  (∀ (dt : Nat) (f : DomFrame) (s u : State) v, s.advance dt = u → f.port < 56 → u.acceptDomain f = (true, v) →
      f.kind = 0x21 → v.isChild f.port = false →
      exec (.ready dt f) s = .next (v)) ∧
  (∀ (dt : Nat) (f : DomFrame) (s u : State) v x, s.advance dt = u → f.port < 56 → u.acceptDomain f = (true, v) →
      f.kind = 0x21 → v.isChild f.port = true → u.dom.dupId = false → u.rnd.up = [x] → x.kind = 0x21 →
      x.round = frameRound f → x.sent = false → x.acked.contains f.port = false →
      CompletesWith (exec (.ready dt f) s) (fun t => t.rnd.up = [{ x with acked := f.port :: x.acked, okMap := x.okMap ||| bits f.payload 176 4096, fails := (x.fails + wireField f.payload 48 16) % 65536, reasons := x.reasons ||| bits f.payload 64 8 }])) ∧
  (∀ (dt : Nat) (f : DomFrame) (s u : State) v, s.advance dt = u → f.port < 56 → u.acceptDomain f = (false, v) →
      exec (.arm dt f) s = .next (v)) ∧
  (∀ (dt : Nat) (f : DomFrame) (s u : State) v, s.advance dt = u → f.port < 56 → u.acceptDomain f = (true, v) → f.kind ≠ 0x22 →
      exec (.arm dt f) s = .next (v)) ∧
  (∀ (dt : Nat) (f : DomFrame) (s u : State) v, s.advance dt = u → f.port < 56 → u.acceptDomain f = (true, v) →
      f.kind = 0x22 → v.takesDown f = false →
      exec (.arm dt f) s = .next (v)) ∧
  (∀ (dt : Nat) (f : DomFrame) (s u : State) v, s.advance dt = u → f.port < 56 → u.acceptDomain f = (true, v) →
      f.kind = 0x22 → v.takesDown f = true →
      CompletesWith (exec (.arm dt f) s) (fun t => ∃ x, t.rnd.up = (x :: u.rnd.up).take 64 ∧ x.kind = 0x23
          ∧ x.round = frameRound f ∧ x.arrived = u.time.tick ∧ x.acked = [])) ∧
  (∀ (dt : Nat) (f : DomFrame) (s u : State) v, s.advance dt = u → f.port < 56 → u.acceptDomain f = (true, v) →
      f.kind = 0x22 → v.takesDown f = true → u.rnd.part ≠ .prepared →
      CompletesWith (exec (.arm dt f) s) (fun t => t.rnd.part = u.rnd.part ∧ t.cue = u.cue)) ∧
  (∀ (dt : Nat) (f : DomFrame) (s u : State) v, s.advance dt = u → f.port < 56 → u.acceptDomain f = (false, v) →
      exec (.armed dt f) s = .next (v)) ∧
  (∀ (dt : Nat) (f : DomFrame) (s u : State) v, s.advance dt = u → f.port < 56 → u.acceptDomain f = (true, v) → f.kind ≠ 0x23 →
      exec (.armed dt f) s = .next (v)) ∧
  (∀ (dt : Nat) (f : DomFrame) (s u : State) v, s.advance dt = u → f.port < 56 → u.acceptDomain f = (true, v) →
      f.kind = 0x23 → v.isChild f.port = false →
      exec (.armed dt f) s = .next (v)) ∧
  (∀ (dt : Nat) (f : DomFrame) (s u : State) v x, s.advance dt = u → f.port < 56 → u.acceptDomain f = (true, v) →
      f.kind = 0x23 → v.isChild f.port = true → u.dom.dupId = false → u.rnd.up = [x] → x.kind = 0x23 →
      x.round = frameRound f → x.sent = false → x.acked.contains f.port = false →
      CompletesWith (exec (.armed dt f) s) (fun t => t.rnd.up = [{ x with acked := f.port :: x.acked, okMap := x.okMap ||| bits f.payload 176 4096, fails := (x.fails + wireField f.payload 48 16) % 65536, reasons := x.reasons ||| bits f.payload 64 8 }])) ∧
  (∀ (dt : Nat) (f : DomFrame) (s u : State) v, s.advance dt = u → f.port < 56 → u.acceptDomain f = (false, v) →
      exec (.equinoxCancelFrame dt f) s = .next (v)) ∧
  (∀ (dt : Nat) (f : DomFrame) (s u : State) v, s.advance dt = u → f.port < 56 → u.acceptDomain f = (true, v) → f.kind ≠ 0x24 →
      exec (.equinoxCancelFrame dt f) s = .next (v)) ∧
  (∀ (dt : Nat) (f : DomFrame) (s u : State) v, s.advance dt = u → f.port < 56 → u.acceptDomain f = (true, v) →
      f.kind = 0x24 → v.takesDown f = false →
      exec (.equinoxCancelFrame dt f) s = .next (v)) ∧
  (∀ (dt : Nat) (f : DomFrame) (s u : State) v, s.advance dt = u → f.port < 56 → u.acceptDomain f = (true, v) →
      f.kind = 0x24 → v.takesDown f = true →
      CompletesWith (exec (.equinoxCancelFrame dt f) s) (fun t => ∃ x, t.rnd.up = (x :: u.rnd.up).take 64 ∧ x.kind = 0x25
          ∧ x.round = frameRound f ∧ x.arrived = u.time.tick ∧ x.acked = [])) ∧
  (∀ (dt : Nat) (f : DomFrame) (s u : State) v, s.advance dt = u → f.port < 56 → u.acceptDomain f = (true, v) →
      f.kind = 0x24 → v.takesDown f = true → u.rnd.part = .prepared → u.rnd.round = frameRound f →
      CompletesWith (exec (.equinoxCancelFrame dt f) s) (fun t => t.rnd.part = .tagged ∧ t.rnd.lastOutcome = 2)) ∧
  (∀ (dt : Nat) (f : DomFrame) (s u : State) v, s.advance dt = u → f.port < 56 → u.acceptDomain f = (false, v) →
      exec (.cancelAck dt f) s = .next (v)) ∧
  (∀ (dt : Nat) (f : DomFrame) (s u : State) v, s.advance dt = u → f.port < 56 → u.acceptDomain f = (true, v) → f.kind ≠ 0x25 →
      exec (.cancelAck dt f) s = .next (v)) ∧
  (∀ (dt : Nat) (f : DomFrame) (s u : State) v, s.advance dt = u → f.port < 56 → u.acceptDomain f = (true, v) →
      f.kind = 0x25 → v.isChild f.port = false →
      exec (.cancelAck dt f) s = .next (v)) ∧
  (∀ (dt : Nat) (f : DomFrame) (s u : State) v x, s.advance dt = u → f.port < 56 → u.acceptDomain f = (true, v) →
      f.kind = 0x25 → v.isChild f.port = true → u.dom.dupId = false → u.rnd.up = [x] → x.kind = 0x25 →
      x.round = frameRound f → x.sent = false → x.acked.contains f.port = false →
      CompletesWith (exec (.cancelAck dt f) s) (fun t => t.rnd.up = [{ x with acked := f.port :: x.acked, okMap := x.okMap ||| bits f.payload 176 4096, fails := (x.fails + wireField f.payload 48 16) % 65536, reasons := x.reasons ||| bits f.payload 64 8 }])) ∧
  (∀ (dt : Nat) (s u : State), s.advance dt = u → u.rnd.up = [] →
      exec (.roundUpSend dt) s = .next (u)) ∧
  (∀ (dt : Nat) (s u : State), s.advance dt = u → u.dom.dupId = true →
      exec (.roundUpSend dt) s = .next (u)) ∧
  (∀ (dt : Nat) (s u : State) x p, s.advance dt = u → u.dom.dupId = false → u.domainKey.isSome = true → u.rnd.up = [x] →
      x.sent = false → u.rnd.root = .idle → x.arrived + u.ackWait ≤ u.time.tick → u.dom.parentPort = some p →
      (u.port p).link = .up →
      CompletesWith (exec (.roundUpSend dt) s) (fun t => t.rnd.up = [{ x with sent := true }]
          ∧ t.dom.txSeq = (u.dom.txSeq + 1) % 2 ^ 48 ∧ ∃ fs, t.dom.queue = u.dom.queue
          ++ [{ port := p, kind := x.kind, fields := fs }])) ∧
  (∀ (dt : Nat) (s u : State), s.advance dt = u → u.rnd.root = .idle →
      exec (.rootRoundAdvance dt) s = .next (u)) ∧
  (∀ (dt : Nat) (s u : State), s.advance dt = u → u.rnd.root = .armed → u.nowU < u.rnd.rootRec.inst →
      exec (.rootRoundAdvance dt) s = .next (u)) ∧
  (∀ (dt : Nat) (s u : State), s.advance dt = u → u.rnd.root = .armed → u.rnd.rootRec.inst ≤ u.nowU →
      CompletesWith (exec (.rootRoundAdvance dt) s) (fun t => t.rnd.root = .idle ∧ t.rnd.rootRec.outcome = 1
          ∧ t.rnd.rootRec.round = u.rnd.rootRec.round ∧ t.rnd.results = (t.rnd.rootRec :: u.rnd.results).take 16)) ∧
  (∀ (dt : Nat) (s u : State), s.advance dt = u → u.rnd.root = .cancelling → u.upDue (u.rootUp 0x25) = true →
      CompletesWith (exec (.rootRoundAdvance dt) s) (fun t => t.rnd.root = .idle ∧ t.rnd.rootRec.outcome = 2)) ∧
  (∀ (dt : Nat) (s u : State), s.advance dt = u → u.rnd.root = .preparing → (u.rootUp 0x21).okMap ≠ u.rnd.rootRec.members →
      u.upDue (u.rootUp 0x21) = true →
      CompletesWith (exec (.rootRoundAdvance dt) s) (fun t => t.rnd.root = .cancelling)) ∧
  (∀ (dt : Nat) (s u : State), s.advance dt = u → u.rnd.part ≠ .prepared →
      exec (.equinoxMissed dt) s = .next (u)) ∧
  (∀ (dt : Nat) (s u : State), s.advance dt = u → u.nowU < (u.rnd.inst : Int) →
      exec (.equinoxMissed dt) s = .next (u)) ∧
  (∀ (dt : Nat) (s u : State), s.advance dt = u → u.rnd.part = .prepared → (u.rnd.inst : Int) ≤ u.nowU →
      CompletesWith (exec (.equinoxMissed dt) s) (fun t => t.banks = { u.banks with missed := inc48 u.banks.missed 1 }
          ∧ t.rnd = { u.rnd with part := .tagged, lastOutcome := 3 }))

/-- Equinox commits, bank copies and in-band requests: what each event does when its condition holds, and that it does nothing
when it does not (13_configuration_banks.md, 12_command_interface.md). -/
def Obligations.BankEvents : Prop :=
  (∀ (dt : Nat) (s u : State), s.advance dt = u → u.tci.aside = [] →
      exec (.equinoxPreloadDone dt) s = .next (u)) ∧
  (∀ (dt : Nat) (s u : State) w, s.advance dt = u → u.tci.aside = [w] → w.obj = some .shadow → w.arg = 0 → w.opcode = 0x0204 →
      u.fw.running = true →
      CompletesWith (exec (.equinoxPreloadDone dt) s) (fun t => t.banks.preloaded = true ∧ t.banks.state = .tagged
          ∧ t.banks.changeId = w.req.f 0 32 ∧ t.rnd.part = .tagged ∧ t.tci.aside = [])) ∧
  (∀ (dt : Nat) (s u : State) w, s.advance dt = u → u.tci.aside = [w] → w.obj = some .shadow → w.arg = 0 → w.opcode = 0x010B →
      u.fw.running = true →
      CompletesWith (exec (.equinoxPreloadDone dt) s) (fun t => t.banks = { u.banks with preloaded := true }
          ∧ t.tci.aside = [{ w with arg := 1, due := u.time.tick + 1, applied := true }])) ∧
  (∀ (dt : Nat) (s u : State), s.advance dt = u → u.cue.rows = [] → u.tci.aside = [] →
      exec (.equinoxCommit dt) s = .next (u)) ∧
  (∀ (dt : Nat) (s u : State) id r, s.advance dt = u → u.cue.rows = [(id, r)] → r.equinox = true → u.nowU < r.inst →
      exec (.equinoxCommit dt) s = .next (u)) ∧
  (∀ (dt : Nat) (s u : State) id r, s.advance dt = u → u.cue.rows = [(id, r)] → r.equinox = true → r.inst ≤ u.nowU →
      CompletesWith (exec (.equinoxCommit dt) s) (fun t => t.banks.epoch = (u.banks.epoch + 1) % 2 ^ 32
          ∧ t.banks.state = .retained ∧ t.banks.lastCommit = u.now ∧ t.banks.changeId = 0 ∧ t.banks.drainFrom = u.time.tick
          ∧ t.cue.rows = [])) ∧
  (∀ (dt : Nat) (s u : State), s.advance dt = u → u.banks.state ≠ .retained →
      exec (.bankDrained dt) s = .next (u)) ∧
  (∀ (dt : Nat) (s u : State), s.advance dt = u → u.banks.state = .retained → u.oldWaiting = [] → u.oldOnWire = false →
      CompletesWith (exec (.bankDrained dt) s) (fun t => t.banks = { u.banks with drainDrops := 0, drainDrop := inc48 u.banks.drainDrop 0, lastDrain := (u.time.tick - u.banks.drainFrom) / tickUs, state := .reseeding })) ∧
  (∀ (dt : Nat) (s u : State), s.advance dt = u → u.banks.state = .retained → u.banks.drainFrom + 10 * tickMs ≤ u.time.tick →
      CompletesWith (exec (.bankDrained dt) s) (fun t => t.banks.state = .reseeding ∧ t.banks.drainDrops = u.oldWaiting.length
          ∧ t.banks.drainDrop = inc48 u.banks.drainDrop u.oldWaiting.length
          ∧ t.host.queue = u.host.queue.filter (fun c => !u.isOld c))) ∧
  (∀ (dt : Nat) (s u : State), s.advance dt = u → u.banks.state ≠ .reseeding →
      exec (.bankReseedDone dt) s = .next (u)) ∧
  (∀ (dt : Nat) (s u : State), s.advance dt = u → u.flt.frozen = true →
      exec (.bankReseedDone dt) s = .next (u)) ∧
  (∀ (dt : Nat) (s u : State), s.advance dt = u → u.banks.state = .reseeding → u.fw.running = true → u.flt.frozen = false →
      CompletesWith (exec (.bankReseedDone dt) s) (fun t => t.banks = { u.banks with shadow := { u.banks.active with keyAttended := false }, edits := 0, changeId := 0, state := .seeded, validated := false, preloaded := false })) ∧
  (∀ (dt : Nat) (s u : State), s.advance dt = u → u.banks.persisted = true →
      exec (.bankPersisted dt) s = .next (u)) ∧
  (∀ (dt : Nat) (s u : State), s.advance dt = u → u.plat.warn = true →
      exec (.bankPersisted dt) s = .next (u)) ∧
  (∀ (dt : Nat) (s u : State), s.advance dt = u → u.banks.persisted = false → u.fw.running = true → u.banks.loaded = true →
      u.plat.warn = false →
      CompletesWith (exec (.bankPersisted dt) s) (fun t => t.banks = { u.banks with slots := Tbl.put u.banks.slots u.olderSlot { bank := u.banks.active, epoch := u.banks.epoch, headerOk := true, ok := true }, persisted := true })) ∧
  (∀ (dt headers : Nat) (s u : State), s.advance dt = u → u.fw.running = false →
      exec (.bankLostLoad dt headers) s = .next (u)) ∧
  (∀ (dt headers : Nat) (s u : State), s.advance dt = u → u.banks.loaded = true →
      exec (.bankLostLoad dt headers) s = .next (u)) ∧
  (∀ (dt headers : Nat) (s u : State) x, s.advance dt = u → u.goodSlot = some x →
      exec (.bankLostLoad dt headers) s = .next (u)) ∧
  (∀ (dt headers : Nat) (s u : State), s.advance dt = u → u.fw.running = true → u.banks.loaded = false → u.goodSlot = none →
      headers = 0 →
      CompletesWith (exec (.bankLostLoad dt headers) s) (fun t => t.banks.epoch = 1 ∧ t.banks.active = {}
          ∧ t.banks.persisted = false ∧ t.banks.loaded = true ∧ t.banks.state = .seeded)) ∧
  (∀ (dt : Nat) (f : DomFrame) (s u : State) v, s.advance dt = u → f.port < 56 → u.acceptDomain f = (false, v) →
      exec (.inbandRequest dt f) s = .next (v)) ∧
  (∀ (dt : Nat) (f : DomFrame) (s u : State) v, s.advance dt = u → f.port < 56 → u.acceptDomain f = (true, v) → f.kind ≠ 0x30 →
      exec (.inbandRequest dt f) s = .next (v)) ∧
  (∀ (dt : Nat) (f : DomFrame) (s u : State) v, s.advance dt = u → f.port < 56 → u.acceptDomain f = (true, v) →
      f.kind = 0x30 → (DomFrame.answers f) = true →
      exec (.inbandRequest dt f) s = .next (v)) ∧
  (∀ (dt : Nat) (f : DomFrame) (s u : State) v c, s.advance dt = u → f.port < 56 → u.acceptDomain f = (true, v) →
      f.kind = 0x30 → (DomFrame.answers f) = false → (DomFrame.target f) = v.deviceId → u.fw.running = true →
      u.inb.enable = false → commandOf (reqOf 0 (DomFrame.message f)).1 = some c →
      CompletesWith (exec (.inbandRequest dt f) s) (fun t => t.banks = u.banks ∧ t.fw = u.fw ∧ ∃ fs, t.dom.queue = u.dom.queue
          ++ [{ port := f.port, kind := 0x30, fields := fs }])) ∧
  (∀ (dt : Nat) (f : DomFrame) (s u : State) v c q, s.advance dt = u → f.port < 56 → u.acceptDomain f = (true, v) →
      f.kind = 0x30 → (DomFrame.answers f) = false → (DomFrame.target f) = v.deviceId → u.inb.enable = true →
      u.dom.dupId = false → commandOf (reqOf 0 (DomFrame.message f)).1 = some c → c.noInband = false →
      isService (reqOf 0 (DomFrame.message f)).1 = false →
      q = { (reqOf 0 (DomFrame.message f)).2 with src := .inband f.port (DomFrame.origin f) (DomFrame.txn f) } →
      c.attended q v = false → v.inbandWaiting < 16 →
      exec (.inbandRequest dt f) s = .next (c.serve q v)) ∧
  (∀ (dt : Nat) (f : DomFrame) (s u : State) v, s.advance dt = u → f.port < 56 → u.acceptDomain f = (false, v) →
      exec (.inbandResponse dt f) s = .next (v)) ∧
  (∀ (dt : Nat) (f : DomFrame) (s u : State) v, s.advance dt = u → f.port < 56 → u.acceptDomain f = (true, v) → f.kind ≠ 0x30 →
      exec (.inbandResponse dt f) s = .next (v)) ∧
  (∀ (dt : Nat) (f : DomFrame) (s u : State) v w, s.advance dt = u → f.port < 56 → u.acceptDomain f = (true, v) →
      f.kind = 0x30 → (DomFrame.answers f) = true → (DomFrame.target f) = v.deviceId → u.fw.running = true →
      u.tci.aside = [w] → w.opcode = 0x0106 → w.arg = (DomFrame.txn f) →
      CompletesWith (exec (.inbandResponse dt f) s) (fun t => t.tci.aside = [])) ∧
  (∀ (dt : Nat) (s u : State), s.advance dt = u → u.fw.running = false →
      exec (.inbandTimeout dt) s = .next (u)) ∧
  (∀ (dt : Nat) (s u : State) w, s.advance dt = u → u.fw.running = true → u.tci.aside = [w] → w.opcode = 0x0106 →
      w.due ≤ u.time.tick →
      CompletesWith (exec (.inbandTimeout dt) s) (fun t => t.tci.aside = [])) ∧
  (∀ (dt : Nat) (s u : State), s.advance dt = u → u.fw.running = true → u.tci.aside = [] →
      exec (.inbandTimeout dt) s = .next (u)) ∧
  (∀ (dt : Nat) (s u : State), s.advance dt = u → u.inb.disabling = false →
      exec (.inbandQuiescent dt) s = .next (u)) ∧
  (∀ (dt : Nat) (s u : State), s.advance dt = u → u.inb.disabling = true →
      u.tci.aside.any (fun w => Src.remote w.req.src) = false →
      CompletesWith (exec (.inbandQuiescent dt) s) (fun t => t.inb = { u.inb with disabling := false })) ∧
  (∀ (dt : Nat) (s u : State), s.advance dt = u → u.tci.aside = [] →
      exec (.validationDone dt) s = .next (u)) ∧
  (∀ (dt : Nat) (s u : State) w, s.advance dt = u → u.tci.aside = [w] → w.opcode = 0x0203 → (u.banks.state = .retained
      ∨ u.banks.state = .reseeding) →
      CompletesWith (exec (.validationDone dt) s) (fun t => t.banks = u.banks ∧ t.tci.aside = [])) ∧
  (∀ (dt : Nat) (s u : State) w, s.advance dt = u → u.tci.aside = [w] → w.opcode = 0x0203 → u.banks.state ≠ .retained →
      u.banks.state ≠ .reseeding → u.findings (w.req.b 0) (u.checkInstant (w.req.f 32 96)) = [] →
      CompletesWith (exec (.validationDone dt) s) (fun t => t.banks = { u.banks with validated := true } ∧ t.tci.aside = [])) ∧
  (∀ (dt : Nat) (s u : State) w x l, s.advance dt = u → u.tci.aside = [w] → w.opcode = 0x0203 → u.banks.state ≠ .retained →
      u.banks.state ≠ .reseeding → u.findings (w.req.b 0) (u.checkInstant (w.req.f 32 96)) = x :: l →
      CompletesWith (exec (.validationDone dt) s) (fun t => t.banks = u.banks ∧ t.tci.aside = []))

/-- NTP, NTS, PTP and the client ledger: what each event does when its condition holds, and that it does nothing when it does
not (09_time_service.md). -/
def Obligations.TimeServiceEvents : Prop :=
  (∀ (dt : Nat) (r : TsReq) (s u : State), s.advance dt = u → r.port < 56 → u.tsHears r.port r.frame = false →
      exec (.ntpRequest dt r) s = .next (u)) ∧
  (∀ (dt : Nat) (r : TsReq) (s u : State), s.advance dt = u → r.port < 56 → u.tsHears r.port r.frame = true → u.ts.ntp = false →
      exec (.ntpRequest dt r) s = .next (u.tsCount 3 9)) ∧
  (∀ (dt : Nat) (r : TsReq) (s u : State) pol, s.advance dt = u → r.port < 56 → u.tsHears r.port r.frame = true →
      u.ts.ntp = true → u.classOf r.port false r.frame = (3, pol) →
      CompletesWith (exec (.ntpRequest dt r) s) (fun t => Tbl.getD t.ts.counters 48 0 = (Tbl.getD u.ts.counters 48 0 + 1) % 2 ^ 64 ∧ t.ts.ledger = u.ts.ledger.filter (fun e => e.key != u.ledgerKey false r.frame))) ∧
  (∀ (dt : Nat) (r : TsReq) (s u : State) cls pol, s.advance dt = u → r.port < 56 → u.tsHears r.port r.frame = true →
      u.classOf r.port false r.frame = (cls, pol) → cls ≤ 1 → u.ts.ntp = true → r.good = true →
      Tbl.getD u.ts.admitUse r.port (0, 0) = (0, 0) → u.tsRoom cls = true → u.ts.ledger = [] →
      u.banks.active.polRate pol = 0 → bit u.banks.active.ntsRequired cls = false →
      u.poolUsed + cellsOf (max 64 (udpFrame r.frame 48)) ≤ u.banks.active.tsPoolKib * 4 →
      CompletesWith (exec (.ntpRequest dt r) s) (fun t => ∃ c,
          t.queue r.port u.banks.active.tsClass = u.queue r.port u.banks.active.tsClass ++ [c] ∧ c.what = 1 ∧ c.tsCls = cls
          ∧ c.frame = answerFrame r.frame (udpFrame r.frame 48) ∧ c.stamp = Time96.ofUnits (u.rxStamp r.port r.phase r.lane))) ∧
  (∀ (dt : Nat) (r : TsReq) (s u : State), s.advance dt = u → r.port < 56 → u.tsHears r.port r.frame = false →
      exec (.ntsRequest dt r) s = .next (u)) ∧
  (∀ (dt : Nat) (r : TsReq) (s u : State) cls pol, s.advance dt = u → r.port < 56 → u.tsHears r.port r.frame = true →
      u.classOf r.port false r.frame = (cls, pol) → cls ≠ 3 → u.ts.nts = false →
      exec (.ntsRequest dt r) s = .next (u.tsCount 3 9)) ∧
  (∀ (dt : Nat) (r : TsReq) (s u : State) cls pol, s.advance dt = u → r.port < 56 → u.tsHears r.port r.frame = true →
      u.classOf r.port false r.frame = (cls, pol) → cls ≤ 1 → u.ts.nts = true → r.good = true → r.ntsGood = true →
      Tbl.getD u.ts.admitUse r.port (0, 0) = (0, 0) → u.tsRoom cls = true → u.ts.ledger = [] →
      u.banks.active.polRate pol = 0 → u.ts.cookies = [] →
      u.poolUsed + cellsOf (max 64 (udpFrame r.frame (48 + extBytes (r.uids.headD []).length))) ≤ u.banks.active.tsPoolKib * 4 →
      CompletesWith (exec (.ntsRequest dt r) s) (fun t => ∃ c,
          t.queue r.port u.banks.active.tsClass = u.queue r.port u.banks.active.tsClass ++ [c] ∧ c.what = 4 ∧ c.tsCls = cls
          ∧ c.frame = answerFrame r.frame (udpFrame r.frame (48 + extBytes (r.uids.headD []).length)))) ∧
  (∀ (dt : Nat) (r : TsReq) (s u : State), s.advance dt = u → r.port < 56 → u.tsHears r.port r.frame = false →
      exec (.denyRequest dt r) s = .next (u)) ∧
  (∀ (dt : Nat) (r : TsReq) (s u : State) pol, s.advance dt = u → r.port < 56 → u.tsHears r.port r.frame = true →
      (if r.exts.isEmpty then u.ts.ntp else u.ts.nts) = true → u.classOf r.port false r.frame = (3, pol) →
      CompletesWith (exec (.denyRequest dt r) s) (fun t => Tbl.getD t.ts.counters 48 0 = (Tbl.getD u.ts.counters 48 0 + 1) % 2 ^ 64 ∧ t.ts.ledger = u.ts.ledger.filter (fun e => e.key != u.ledgerKey false r.frame))) ∧
  (∀ (dt : Nat) (r : TsReq) (s u : State), s.advance dt = u → r.port < 56 → (u.port r.port).link ≠ .up →
      exec (.serviceArp dt r) s = .next (u)) ∧
  (∀ (dt : Nat) (r : TsReq) (s u : State), s.advance dt = u → r.port < 56 →
      u.asksAddress r.port (u.vlanOf r.port r.frame) r.frame = false →
      exec (.serviceArp dt r) s = .next (u)) ∧
  (∀ (dt : Nat) (r : TsReq) (s u : State) cls pol, s.advance dt = u → r.port < 56 → u.reachesEngine r.port r.frame = true →
      u.asksAddress r.port (u.vlanOf r.port r.frame) r.frame = true → u.classOf r.port false r.frame = (cls, pol) → cls ≤ 1 →
      Tbl.getD u.ts.admitUse r.port (0, 0) = (0, 0) → u.tsRoom cls = true → u.poolUsed + 1 ≤ u.banks.active.tsPoolKib * 4 →
      CompletesWith (exec (.serviceArp dt r) s) (fun t => ∃ c,
          t.queue r.port u.banks.active.tsClass = u.queue r.port u.banks.active.tsClass ++ [c] ∧ c.what = 10
          ∧ c.frame.dst = r.frame.src ∧ c.frame.len = 64)) ∧
  (∀ (dt : Nat) (m : PtpMsg) (s u : State), s.advance dt = u → m.port < 56 → u.banks.active.ptpRole m.port = 0 →
      exec (.ptpEventMessage dt m) s = .next (u)) ∧
  (∀ (dt : Nat) (m : PtpMsg) (s u : State), s.advance dt = u → m.port < 56 → u.banks.active.ptpRole m.port = 1 →
      (u.port m.port).link ≠ .up →
      exec (.ptpEventMessage dt m) s = .next (u)) ∧
  (∀ (dt : Nat) (m : PtpMsg) (s u : State) cls pol, s.advance dt = u → m.port < 56 → u.banks.active.ptpRole m.port = 1 →
      m.msg = 1 → u.reachesEngine m.port m.frame = true → u.ptpAddressed m = true →
      m.domain = u.banks.active.ptpNumber m.port → u.ts.ptp = true → u.ptpIntact m = true →
      u.classOf m.port (PtpMsg.l2 m) m.frame = (cls, pol) → cls ≤ 1 → Tbl.getD u.ts.admitUse m.port (0, 0) = (0, 0) →
      u.tsRoom cls = true → u.ts.ledger = [] → u.banks.active.polRate pol = 0 → u.ptpKeyless m.port = false →
      u.poolUsed + cellsOf (max 64 (u.ptpBytes m.port 54)) ≤ u.banks.active.tsPoolKib * 4 →
      CompletesWith (exec (.ptpEventMessage dt m) s) (fun t => ∃ c,
          t.queue m.port u.banks.active.tsClass = u.queue m.port u.banks.active.tsClass ++ [c] ∧ c.what = 9 ∧ c.frame.tag = 9
          ∧ c.frame.dst = m.frame.src)) ∧
  (∀ (dt port msg : Nat) (s u : State), s.advance dt = u → port < 56 → u.banks.active.ptpRole port ≠ 1 →
      exec (.ptpMessageSend dt port msg) s = .next (u)) ∧
  (∀ (dt port msg : Nat) (s u : State), s.advance dt = u → port < 56 → u.ts.ptp = false →
      exec (.ptpMessageSend dt port msg) s = .next (u)) ∧
  (∀ (dt port msg : Nat) (s u : State), s.advance dt = u → port < 56 → 1 < msg → msg ≠ 11 →
      exec (.ptpMessageSend dt port msg) s = .next (u)) ∧
  (∀ (dt port msg : Nat) (s u : State), s.advance dt = u → port < 56 → u.banks.active.ptpRole port = 1 → u.ts.ptp = true →
      (u.port port).link = .up → msg = 0 → Tbl.getD u.ts.ptpNext (16 * port) 0 ≤ u.time.tick →
      u.banks.active.ptpMulticast port = true → u.ts.grants = [] → u.ptpKeyless port = false →
      u.poolUsed + cellsOf (max 64 (u.ptpBytes port 44)) ≤ u.banks.active.tsPoolKib * 4 →
      CompletesWith (exec (.ptpMessageSend dt port msg) s) (fun t => ∃ c,
          t.queue port u.banks.active.tsClass = u.queue port u.banks.active.tsClass ++ [c] ∧ c.frame.tag = 0
          ∧ Tbl.getD t.ts.ptpNext (16 * port) 0 = u.time.tick + logTicks (u.banks.active.logSync port)
        ∧ Tbl.getD t.ts.ptpSeq (16 * port) 0 = (Tbl.getD u.ts.ptpSeq (16 * port) 0 + 1) % 65536)) ∧
  (∀ (dt : Nat) (m : PtpMsg) (s u : State), s.advance dt = u → m.port < 56 → u.banks.active.ptpRole m.port ≠ 1 →
      exec (.ptpForeignMaster dt m) s = .next (u)) ∧
  (∀ (dt : Nat) (m : PtpMsg) (s u : State), s.advance dt = u → m.port < 56 → m.msg ≠ 11 →
      exec (.ptpForeignMaster dt m) s = .next (u)) ∧
  (∀ (dt : Nat) (m : PtpMsg) (s u : State), s.advance dt = u → m.port < 56 → u.banks.active.ptpRole m.port = 1 → m.msg = 11 →
      u.ts.ptp = true → u.reachesEngine m.port m.frame = true → (u.classOf m.port (PtpMsg.l2 m) m.frame).1 ≠ 3 →
      u.ptpIntact m = true →
      CompletesWith (exec (.ptpForeignMaster dt m) s) (fun t => Tbl.getD t.ts.counters 53 0 = (Tbl.getD u.ts.counters 53 0 + 1) % 2 ^ 64 ∧ (Tbl.get? t.ts.foreignAt m.port).isSome = true)) ∧
  (∀ (dt port : Nat) (m : PtpMsg) (s u : State), s.advance dt = u → port < 56 → u.banks.active.ptpRole port ≠ 2 →
      CompletesWith (exec (.ptpSlaveAnnounce dt port m) s) (fun t => t.ts = u.ts)) ∧
  (∀ (dt port : Nat) (m : PtpMsg) (s u : State) y, s.advance dt = u → port < 56 → y = { m with port := port } →
      u.slaveHears y = true → u.ts.ptp = true → (u.classOf port (PtpMsg.l2 m) m.frame).1 ≠ 3 → u.ptpIntact y = true →
      u.ts.masterId = none → u.masterMeets m = true → m.msg = 11 →
      CompletesWith (exec (.ptpSlaveAnnounce dt port m) s) (fun t => t.ts.announceAt = some u.time.tick
          ∧ t.ts.masterId = some (m.identity, m.srcPort) ∧ t.ts.master.rootIdentity = m.gm ∧ t.ts.master.cls = m.cls
          ∧ t.ts.master.hops = m.steps)) ∧
  (∀ (dt : Nat) (s u : State), s.advance dt = u → u.ts.announceAt = none →
      exec (.ptpAnnounceTimeout dt) s = .next (u)) ∧
  (∀ (dt : Nat) (s u : State) p a, s.advance dt = u → (List.range portCount).find? (fun p => u.banks.active.ptpRole p == 2) = some p → u.ts.announceAt = some a → u.time.tick < a + u.banks.active.announceTimeout p * logTicks (u.banks.active.logAnnounce p) →
      exec (.ptpAnnounceTimeout dt) s = .next (u)) ∧
  (∀ (dt : Nat) (s u : State) p a, s.advance dt = u → (List.range portCount).find? (fun p => u.banks.active.ptpRole p == 2) = some p → u.ts.announceAt = some a → a + u.banks.active.announceTimeout p * logTicks (u.banks.active.logAnnounce p) ≤ u.time.tick →
      CompletesWith (exec (.ptpAnnounceTimeout dt) s) (fun t => t.ts = { u.ts with announceAt := none, masterId := none })) ∧
  (∀ (dt : Nat) (m : PtpMsg) (s u : State), s.advance dt = u → m.port < 56 → u.banks.active.ptpRole m.port ≠ 1 →
      exec (.unicastNegotiation dt m) s = .next (u)) ∧
  (∀ (dt : Nat) (m : PtpMsg) (s u : State), s.advance dt = u → m.port < 56 → u.banks.active.ptpUnicast m.port = false →
      exec (.unicastNegotiation dt m) s = .next (u)) ∧
  (∀ (dt : Nat) (m : PtpMsg) (s u : State) cls pol k, s.advance dt = u → m.port < 56 → u.banks.active.ptpRole m.port = 1 →
      u.banks.active.ptpUnicast m.port = true → u.reachesEngine m.port m.frame = true → u.ptpAddressed m = true →
      m.domain = u.banks.active.ptpNumber m.port → u.ts.ptp = true → u.ptpIntact m = true →
      u.classOf m.port (PtpMsg.l2 m) m.frame = (cls, pol) → cls ≤ 1 → Tbl.getD u.ts.admitUse m.port (0, 0) = (0, 0) →
      u.tsRoom cls = true → u.ts.ledger = [] → u.banks.active.polRate pol = 0 → m.tlv = 0 →
      k = u.ledgerKey (PtpMsg.l2 m) m.frame → u.grantOk m cls k = true →
      CompletesWith (exec (.unicastNegotiation dt m) s) (fun t => ∃ g,
          t.ts.grants = u.ts.grants.filter (fun x => !(x.key == k && x.msg == m.wanted)) ++ [g] ∧ g.key = k ∧ g.port = m.port
          ∧ g.msg = m.wanted ∧ g.endsAt = u.time.tick + m.duration * tickS)) ∧
  (∀ (dt : Nat) (m : PtpMsg) (s u : State) cls pol k, s.advance dt = u → m.port < 56 → u.banks.active.ptpRole m.port = 1 →
      u.banks.active.ptpUnicast m.port = true → u.reachesEngine m.port m.frame = true → u.ptpAddressed m = true →
      m.domain = u.banks.active.ptpNumber m.port → u.ts.ptp = true → u.ptpIntact m = true →
      u.classOf m.port (PtpMsg.l2 m) m.frame = (cls, pol) → cls ≤ 1 → Tbl.getD u.ts.admitUse m.port (0, 0) = (0, 0) →
      u.tsRoom cls = true → u.ts.ledger = [] → u.banks.active.polRate pol = 0 → m.tlv = 1 →
      k = u.ledgerKey (PtpMsg.l2 m) m.frame →
      CompletesWith (exec (.unicastNegotiation dt m) s) (fun t => t.ts.grants = u.ts.grants.filter (fun x => !(x.key == k && x.msg == m.wanted)))) ∧
  (∀ (dt : Nat) (s u : State), s.advance dt = u →
      exec (.grantExpire dt) s = .next ({ u with ts := { u.ts with grants := u.ts.grants.filter (fun g => u.time.tick < g.endsAt) } })) ∧
  (∀ (dt port : Nat) (heard : Bool) (m : PtpMsg) (phase lane : Nat) (s u : State), s.advance dt = u → port < 56 →
      u.measuresLink port = false →
      exec (.pdelayMeasure dt port heard m phase lane) s = .next (u)) ∧
  (∀ (dt port : Nat) (heard : Bool) (m : PtpMsg) (phase lane : Nat) (s u : State), s.advance dt = u → port < 56 →
      u.measuresLink port = true → u.ts.ptp = true → (u.port port).link = .up → heard = false →
      Tbl.getD u.ts.ptpNext (16 * port + 2) 0 ≤ u.time.tick → u.ptpKeyless port = false →
      u.poolUsed + cellsOf (max 64 (u.ptpBytes port 54)) ≤ u.banks.active.tsPoolKib * 4 →
      CompletesWith (exec (.pdelayMeasure dt port heard m phase lane) s) (fun t => ∃ c,
          t.queue port u.banks.active.tsClass = u.queue port u.banks.active.tsClass ++ [c] ∧ c.what = 16 ∧ c.frame.tag = 2
          ∧ Tbl.getD t.ts.ptpNext (16 * port + 2) 0 = u.time.tick + tickS
        ∧ Tbl.getD t.ts.ptpSeq (16 * port + 2) 0 = (Tbl.getD u.ts.ptpSeq (16 * port + 2) 0 + 1) % 65536)) ∧
  (∀ (dt port : Nat) (heard : Bool) (m : PtpMsg) (phase lane : Nat) (s u : State) y pair t3, s.advance dt = u → port < 56 →
      u.measuresLink port = true → u.ts.ptp = true → u.reachesEngine port m.frame = true → heard = true →
      y = { m with port := port, phase := phase, lane := lane } → pair = Tbl.getD u.ts.linkPair port {} →
      m.domain = u.banks.active.ptpNumber port → u.ptpIntact y = true → u.answersPair port pair y = true → m.msg = 3 →
      m.twoStep = false → pair.t3 = some t3 →
      CompletesWith (exec (.pdelayMeasure dt port heard m phase lane) s) (fun t => Tbl.getD t.ts.linkDelay port 0 = ((u.rxStamp port phase lane - t3) - m.correction) / 2 ∧ t.ports = u.ports)) ∧
  (∀ (dt : Nat) (s u : State), s.advance dt = u → u.ts.cookies = [] →
      exec (.cookieRotate dt) s = .next (u)) ∧
  (∀ (dt : Nat) (s u : State), s.advance dt = u → u.time.tick < u.ts.rotateDue →
      exec (.cookieRotate dt) s = .next (u)) ∧
  (∀ (dt : Nat) (s u : State), s.advance dt = u → u.ts.cookies ≠ [] → u.ts.rotateDue ≤ u.time.tick → u.keys.writes = [] →
      u.fw.running = true → u.plat.warn = false → u.bn.entropyOk = true →
      CompletesWith (exec (.cookieRotate dt) s) (fun t => ∃ w, t.keys.writes = [w] ∧ w.rotation = true ∧ t.ts.rotating = true
          ∧ t.ts.cookies = u.ts.cookies)) ∧
  (∀ (dt : Nat) (s u : State), s.advance dt = u → u.tsSent 0 = true → u.tsSent 1 = true → u.tsSent 2 = true →
      exec (.tsFunctionQuiescent dt) s = .next ({ u with ts := { u.ts with draining := 0 } })) ∧
  (∀ (dt : Nat) (s u : State) k, s.advance dt = u → k < 3 → bit u.ts.draining k = true → u.tsSent k = false →
      CompletesWith (exec (.tsFunctionQuiescent dt) s) (fun t => bit t.ts.draining k = true ∧ t.ports = u.ports)) ∧
  (∀ (dt : Nat) (s u : State), s.advance dt = u → u.tci.aside = [] →
      exec (.ledgerFlushDone dt) s = .next (u)) ∧
  (∀ (dt : Nat) (s u : State) w, s.advance dt = u → u.tci.aside = [w] → w.opcode = 0x0B0A → u.ts.grants = [] →
      CompletesWith (exec (.ledgerFlushDone dt) s) (fun t => t.ts.ledger = u.ts.ledger.filter (fun e => !ledgerFlushed w.req e) ∧ t.tci.aside = []))

/-- The big-number engine and the key store: what each event does when its condition holds, and that it does nothing when it
does not (14_keys_and_big_numbers.md). -/
def Obligations.KeyEvents : Prop :=
  (∀ (dt data : Nat) (s u : State), s.advance dt = u → u.bn.queue = [] →
      exec (.bnOpStart dt data) s = .next (u)) ∧
  (∀ (dt data : Nat) (s u : State) j rest, s.advance dt = u → u.bn.queue = j :: rest → (u.lane 0).idle = true →
      u.policyBreach j.wait.req = false → j.wait.req.b 17 = false →
      CompletesWith (exec (.bnOpStart dt data) s) (fun t => t.bn.queue = rest
          ∧ (t.lane 0).job = some { j with t0 := u.time.tick, release := u.time.tick + opUs (j.wait.req.f 0 8) * tickUs })) ∧
  (∀ (dt data : Nat) (s u : State) j rest, s.advance dt = u → u.bn.queue = j :: rest → (u.lane 0).idle = true →
      u.policyBreach j.wait.req = true →
      CompletesWith (exec (.bnOpStart dt data) s) (fun t => t.bn = { u.bn with queue := rest })) ∧
  (∀ (dt lane : Nat) (glitch late : Bool) (s u : State), s.advance dt = u → lane < 4 → (u.lane lane).job = none →
      exec (.bnOpRelease dt lane glitch late) s = .next (u)) ∧
  (∀ (dt lane : Nat) (glitch late : Bool) (s u : State) j, s.advance dt = u → lane < 4 → (u.lane lane).job = some j →
      u.time.tick < j.release →
      exec (.bnOpRelease dt lane glitch late) s = .next (u)) ∧
  (∀ (dt lane : Nat) (glitch late : Bool) (s u : State) j, s.advance dt = u → lane < 4 → (u.lane lane).job = some j →
      j.release ≤ u.time.tick → late = true → u.belowRange = true →
      CompletesWith (exec (.bnOpRelease dt lane glitch late) s) (fun t => (t.lane lane).job = some { j with overtime := true, release := j.release + opUs (j.wait.req.f 0 8) * tickUs })) ∧
  (∀ (dt lane : Nat) (glitch late : Bool) (s u : State) j, s.advance dt = u → lane < 4 → (u.lane lane).job = some j →
      j.release ≤ u.time.tick → late = false →
      CompletesWith (exec (.bnOpRelease dt lane glitch late) s) (fun t => (t.lane lane).job = none
          ∧ (t.lane lane).zeroDue = some (u.time.tick + 8 * tickUs) ∧ t.bn.opsDone = inc48 u.bn.opsDone 1)) ∧
  (∀ (dt lane : Nat) (s u : State), s.advance dt = u → lane < 4 → (u.lane lane).zeroDue = none →
      exec (.bnLaneZeroised dt lane) s = .next (u)) ∧
  (∀ (dt lane : Nat) (s u : State) d, s.advance dt = u → lane < 4 → (u.lane lane).zeroDue = some d → u.time.tick < d →
      exec (.bnLaneZeroised dt lane) s = .next (u)) ∧
  (∀ (dt lane : Nat) (s u : State) d, s.advance dt = u → lane < 4 → (u.lane lane).zeroDue = some d → d ≤ u.time.tick →
      CompletesWith (exec (.bnLaneZeroised dt lane) s) (fun t => t.lane lane = { (u.lane lane) with zeroDue := none })) ∧
  (∀ (dt : Nat) (s u : State), s.advance dt = u → u.bn.draining = false →
      exec (.bnDrainComplete dt) s = .next (u)) ∧
  (∀ (dt : Nat) (s u : State), s.advance dt = u → u.bn.draining = true → u.bn.idle = true →
      CompletesWith (exec (.bnDrainComplete dt) s) (fun t => t.bn = { u.bn with draining := false })) ∧
  (∀ (dt : Nat) (s u : State), s.advance dt = u → u.keys.writes = [] →
      exec (.keyStoreWriteDone dt) s = .next (u)) ∧
  (∀ (dt : Nat) (s u : State), s.advance dt = u → u.fw.running = false →
      exec (.keyStoreWriteDone dt) s = .next (u)) ∧
  (∀ (dt : Nat) (s u : State) w k x, s.advance dt = u → u.keys.writes = [w] → w.slots = [(k, x)] → w.rotation = false →
      u.fw.running = true → u.plat.warn = false → u.keys.erase = false → w.ready ≤ u.time.tick → u.bn.names k = false →
      u.slotNamed k = false →
      CompletesWith (exec (.keyStoreWriteDone dt) s) (fun t => t.keys.writes = [] ∧ t.slot k = u.commitSlot k x
          ∧ t.keys.mirror = some t.keys.slot ∧ t.keys.salt = true)) ∧
  (∀ (dt : Nat) (good : Bool) (s u : State), s.advance dt = u → good = u.bn.entropyOk →
      exec (.entropyHealth dt good) s = .next (u)) ∧
  (∀ (dt : Nat) (good : Bool) (s u : State), s.advance dt = u → good ≠ u.bn.entropyOk →
      CompletesWith (exec (.entropyHealth dt good) s) (fun t => t.bn = { u.bn with entropyOk := good, generates := if good then 0 else u.bn.generates }))

/-- Stored-data protection: what each event does when its condition holds, and that it does nothing when it does not
(15_stored_data_protection.md). -/
def Obligations.MemoryEvents : Prop :=
  (∀ (dt master region line : Nat) (soft stuck : List (Nat × Nat)) (s u : State), s.advance dt = u →
      line < regionLines region → soft = [] → stuck = [] → (u.line (lineKey region line)).decode u.mem.erasure = .clean →
      exec (.dramReadCorrect dt master region line soft stuck) s = .next (u)) ∧
  (∀ (dt master region line : Nat) (soft stuck : List (Nat × Nat)) (s u : State) w d, s.advance dt = u →
      line < regionLines region → soft = [(w, d)] → stuck = [] → w < 8 → d < 10 → u.mem.erasure = none →
      u.line (lineKey region line) = {} →
      CompletesWith (exec (.dramReadCorrect dt master region line soft stuck) s) (fun t => Tbl.getD t.mem.counters 0 0 = inc48 (Tbl.getD u.mem.counters 0 0) 1 ∧ (t.line (lineKey region line)).soft = [])) ∧
  (∀ (dt : Nat) (s u : State), s.advance dt = u →
      exec (.repeatWindowExpire dt) s = .next ({ u with mem := { u.mem with repeats := u.mem.repeats.filter (fun r => decide (u.time.tick < r.last + u.mem.window)), sramRepeat := u.mem.sramRepeat.filter (fun r => decide (u.time.tick < r.last + u.mem.window)) } })) ∧
  (∀ (dt device : Nat) (s u : State), s.advance dt = u → device < 10 → u.linesAt device < 32 →
      exec (.dramErasureMark dt device) s = .next (u)) ∧
  (∀ (dt device : Nat) (s u : State) d, s.advance dt = u → device < 10 → u.mem.erasure = some d →
      exec (.dramErasureMark dt device) s = .next (u)) ∧
  (∀ (dt device : Nat) (s u : State), s.advance dt = u → device < 10 → u.mem.erasure = none → 32 ≤ u.linesAt device →
      CompletesWith (exec (.dramErasureMark dt device) s) (fun t => t.mem.erasure = some device)) ∧
  (∀ (dt master region line : Nat) (soft stuck : List (Nat × Nat)) (s u : State), s.advance dt = u →
      line < regionLines region → soft = [] → stuck = [] → (u.line (lineKey region line)).decode u.mem.erasure = .clean →
      exec (.dramUncorrectableRead dt master region line soft stuck) s = .next (u)) ∧
  (∀ (dt master region line : Nat) (soft stuck : List (Nat × Nat)) (s u : State) a b w, s.advance dt = u →
      line < regionLines region → soft = [(w, a), (w, b)] → stuck = [] → w < 8 → a < 10 → b < 10 → a ≠ b →
      u.mem.erasure = none → u.line (lineKey region line) = {} → master = 4 → region = 3 →
      CompletesWith (exec (.dramUncorrectableRead dt master region line soft stuck) s) (fun t => Tbl.getD t.mem.counters 1 0 = inc48 (Tbl.getD u.mem.counters 1 0) 1 ∧ t.trace.head? = some (.bar2 (line * 64) true (2 ^ 512 - 1)))) ∧
  (∀ (dt : Nat) (s u : State), s.advance dt = u → u.mem.toRetire = [] →
      exec (.pageRetire dt) s = .next (u)) ∧
  (∀ (dt : Nat) (s u : State), s.advance dt = u → u.fw.running = false →
      exec (.pageRetire dt) s = .next (u)) ∧
  (∀ (dt : Nat) (s u : State) page cause rest, s.advance dt = u → u.mem.toRetire = (page, cause) :: rest →
      u.fw.running = true → u.mem.spare = 0 →
      CompletesWith (exec (.pageRetire dt) s) (fun t => t.mem.toRetire = rest ∧ t.mem.retired = u.mem.retired)) ∧
  (∀ (dt : Nat) (s u : State) page cause rest, s.advance dt = u → u.mem.toRetire = (page, cause) :: rest →
      u.fw.running = true → 0 < u.mem.spare →
      CompletesWith (exec (.pageRetire dt) s) (fun t => t.mem.spare = u.mem.spare - 1
          ∧ t.mem.retired = u.mem.retired.concat (Retired.mk page cause u.now) ∧ t.mem.retiredDirty = true)) ∧
  (∀ (dt : Nat) (s u : State), s.advance dt = u → u.fw.running = true → u.plat.warn = false →
      exec (.retirementPersist dt) s = .next ({ u with mem := { u.mem with retiredDirty := false, retiredFlash := u.mem.retired } })) ∧
  (∀ (dt : Nat) (s u : State), s.advance dt = u → u.plat.warn = true →
      exec (.retirementPersist dt) s = .next (u)) ∧
  (∀ (dt : Nat) (soft stuck : List (Nat × Nat)) (s u : State), s.advance dt = u → u.mem.patrolH = 0 →
      exec (.patrolLine dt soft stuck) s = .next (u)) ∧
  (∀ (dt : Nat) (soft stuck : List (Nat × Nat)) (s u : State), s.advance dt = u → u.mem.patrolH ≠ 0 →
      u.mem.patrolAt + u.patrolGap ≤ u.time.tick → u.mem.patrolLine + 1 < Machine.dramLines →
      CompletesWith (exec (.patrolLine dt soft stuck) s) (fun t => t.mem.patrolLine = u.mem.patrolLine + 1
          ∧ t.mem.patrolAt = u.time.tick)) ∧
  (∀ (dt : Nat) (soft stuck : List (Nat × Nat)) (s u : State), s.advance dt = u → u.mem.patrolH ≠ 0 →
      u.mem.patrolAt + u.patrolGap ≤ u.time.tick → Machine.dramLines ≤ u.mem.patrolLine + 1 →
      CompletesWith (exec (.patrolLine dt soft stuck) s) (fun t => t.mem.patrolLine = 0 ∧ t.mem.patrolAt = u.time.tick
          ∧ t.mem.lastPatrol = u.now)) ∧
  (∀ (dt : Nat) (soft stuck : List (Nat × Nat)) (s u : State), s.advance dt = u → u.time.tick < u.mem.patrolAt + u.patrolGap →
      exec (.patrolLine dt soft stuck) s = .next (u)) ∧
  (∀ (dt : Nat) (s u : State), s.advance dt = u → u.mem.scrub = none →
      exec (.memScrubDone dt) s = .next (u)) ∧
  (∀ (dt : Nat) (s u : State) x, s.advance dt = u → u.mem.scrub = some x →
      CompletesWith (exec (.memScrubDone dt) s) (fun t => t.mem.scrub = none)) ∧
  (∀ (dt master array bank row word : Nat) (s u : State), s.advance dt = u → sramWord array bank row word = true →
      CompletesWith (exec (.sramCorrect dt master array bank row word) s) (fun t => Tbl.getD t.mem.counters 6 0 = inc48 (Tbl.getD u.mem.counters 6 0) 1 ∧ Tbl.get? t.mem.flipped (sramKey array bank row word) = none)) ∧
  (∀ (dt master array bank row word a b : Nat) (s u : State), s.advance dt = u → sramWord array bank row word = true →
      (array ≠ 1 ∨ a < 56) →
      CompletesWith (exec (.sramUncorrectable dt master array bank row word a b) s) (fun t => Tbl.getD t.mem.counters 7 0 = inc48 (Tbl.getD u.mem.counters 7 0) 1 ∧ Tbl.get? t.mem.flipped (sramKey array bank row word) = none)) ∧
  (∀ (dt : Nat) (s u : State), s.advance dt = u → u.mem.rewrites = [] →
      exec (.bankEntryRewrite dt) s = .next (u)) ∧
  (∀ (dt : Nat) (s u : State), s.advance dt = u → u.fw.running = false →
      exec (.bankEntryRewrite dt) s = .next (u)) ∧
  (∀ (dt : Nat) (s u : State) x rest, s.advance dt = u → u.mem.rewrites = x :: rest → u.fw.running = true → x.1 ≠ 5 →
      exec (.bankEntryRewrite dt) s = .next ({ u with mem := { u.mem with rewrites := rest }, sw := { u.sw with absent := u.sw.absent.erase x } })) ∧
  (∀ (dt : Nat) (s u : State) x rest, s.advance dt = u → u.mem.rewrites = x :: rest → u.fw.running = true → x.1 = 5 →
      exec (.bankEntryRewrite dt) s = .next (({ u with mem := { u.mem with rewrites := rest } }).restoreSlot x.2.2)) ∧
  (∀ (dt part device page corrected ageDays lostSectors badBlocks : Nat) (s u : State), s.advance dt = u → part < 8 →
      device < 2 → u.fw.running = false →
      exec (.flashRefreshScan dt part device page corrected ageDays lostSectors badBlocks) s = .next (u)) ∧
  (∀ (dt part device page corrected ageDays lostSectors badBlocks : Nat) (s u : State), s.advance dt = u → part < 8 →
      device < 2 → u.fw.running = true → lostSectors = 0 → 2 * corrected ≤ (flashPartition part).1 → ageDays ≤ 365 →
      exec (.flashRefreshScan dt part device page corrected ageDays lostSectors badBlocks) s = .next (u.updFlash part (fun f => { f with maxCorrected := if page = 0 then corrected else max f.maxCorrected corrected, badBlocks := badBlocks, lastScan := u.now }))) ∧
  (∀ (dt : Nat) (data : List Nat) (s u : State), s.advance dt = u → u.mem.flipArmed = false →
      exec (.flipMaskWrite dt data) s = .next (u)) ∧
  (∀ (dt : Nat) (data : List Nat) (s u : State), s.advance dt = u → u.mem.flipArmed = true → u.mem.flipTarget ≠ 0 →
      exec (.flipMaskWrite dt data) s = .next ({ u with mem := { u.mem with flip := setBits u.mem.flip 4 1 0, flipped := Tbl.put u.mem.flipped (u.mem.flipTarget * 2 ^ 40 + u.mem.flipRegion * 2 ^ 32 + u.mem.flipLine) (bits u.mem.flip 64 80) } })) ∧
  (∀ (dt : Nat) (data : List Nat) (s u : State), s.advance dt = u → u.mem.flipArmed = true → u.mem.flipTarget = 0 →
      u.mem.flipRegion ≠ 3 →
      CompletesWith (exec (.flipMaskWrite dt data) s) (fun t => bits t.mem.flip 4 1 = 0 ∧ t.mem.bytes = u.mem.bytes))

/-- Faults, takeovers and the Midwinter record: what each event does when its condition holds, and that it does nothing when
it does not (16_faults_and_midwinter.md). -/
def Obligations.FaultEvents : Prop :=
  (∀ (dt source master access address : Nat) (injected : Bool) (s u : State) x, s.advance dt = u → injected = false →
      3 < source → isCondition source = false → faultSource source = some x →
      CompletesWith (exec (.faultEvent dt source master access address injected) s) (fun t => (t.src source).events = ((u.src source).events + 1) % 2 ^ 48)) ∧
  (∀ (dt source master access address : Nat) (injected : Bool) (s u : State) x, s.advance dt = u → injected = false →
      isCondition source = true → 3 < source → faultSource source = some x → (u.src source).standing = true →
      exec (.faultEvent dt source master access address injected) s = .next (u)) ∧
  (∀ (dt source master access address : Nat) (injected : Bool) (s u : State) x, s.advance dt = u → injected = false →
      isCondition source = true → 3 < source → faultSource source = some x → (u.src source).standing = false →
      u.conditionHolds source = true →
      CompletesWith (exec (.faultEvent dt source master access address injected) s) (fun t => (t.src source).standing = true
          ∧ (t.src source).events = ((u.src source).events + 1) % 2 ^ 48)) ∧
  (∀ (dt source master access address : Nat) (injected : Bool) (s u : State) x, s.advance dt = u → injected = false →
      isCondition source = true → 3 < source → faultSource source = some x → u.conditionHolds source = false →
      exec (.faultEvent dt source master access address injected) s = .next (u)) ∧
  (∀ (dt index : Nat) (s u : State), s.advance dt = u → index < 64 → u.fw.running = false →
      exec (.faultServiced dt index) s = .next (u)) ∧
  (∀ (dt index : Nat) (s u : State), s.advance dt = u → index < 64 → (u.record index).serviced = true →
      exec (.faultServiced dt index) s = .next (u)) ∧
  (∀ (dt index : Nat) (s u : State), s.advance dt = u → index < 64 → u.fw.running = true → (u.record index).state = .active →
      (u.record index).serviced = false → (u.record index).source ≠ 5 → u.workLeft (u.record index) = false →
      u.flt.takeRec = none → u.flt.src.any (fun e => e.2.entry.elim false (·.severe)) = false →
      CompletesWith (exec (.faultServiced dt index) s) (fun t => (t.record index).serviced = true
          ∧ (t.record index).servicedAt = u.time.tick)) ∧
  (∀ (dt index : Nat) (s u : State), s.advance dt = u → index < 64 → u.workLeft (u.record index) = true →
      exec (.faultServiced dt index) s = .next (u)) ∧
  (∀ (dt : Nat) (s u : State) i r, s.advance dt = u → u.flt.records = [(i, r)] → r.state = .minor → r.standing = false →
      r.lastTick + u.srcWindow r.source * tickS ≤ u.time.tick →
      u.flt.src.any (fun e => e.2.entry.elim false (·.severe)) = false →
      CompletesWith (exec (.faultWindowExpire dt) s) (fun t => (t.record i).state = .cleared)) ∧
  (∀ (dt : Nat) (s u : State), s.advance dt = u → u.flt.records = [] →
      u.flt.src.any (fun e => e.2.entry.elim false (·.severe)) = false →
      CompletesWith (exec (.faultWindowExpire dt) s) (fun t => t.flt.records = [])) ∧
  (∀ (dt : Nat) (s u : State) i r, s.advance dt = u → u.flt.records = [(i, r)] → r.state = .quiet → r.quietDue ≤ u.time.tick →
      u.flt.src.any (fun e => e.2.entry.elim false (·.severe)) = false →
      CompletesWith (exec (.faultQuietExpire dt) s) (fun t => (t.record i).state = .cleared)) ∧
  (∀ (dt : Nat) (s u : State), s.advance dt = u → u.flt.records = [] →
      u.flt.src.any (fun e => e.2.entry.elim false (·.severe)) = false →
      CompletesWith (exec (.faultQuietExpire dt) s) (fun t => t.flt.records = [])) ∧
  (∀ (dt source channel : Nat) (s u : State), s.advance dt = u → source = 2 → u.fw.running = false →
      exec (.sentinelTakeover dt source channel) s = .next (u)) ∧
  (∀ (dt source channel : Nat) (s u : State), s.advance dt = u → source = 1 → u.coreRuns = true →
      CompletesWith (exec (.sentinelTakeover dt source channel) s) (fun t => t.fw.running = false ∧ t.flt.frozen = true
          ∧ t.flt.takeSource = 1 ∧ t.flt.takeAt = some u.time.tick ∧ t.flt.checkDue = true
          ∧ t.flt.takeovers = min (u.flt.takeovers + 1) 65535)) ∧
  (∀ (dt : Nat) (s u : State), s.advance dt = u → u.flt.takeAt = none →
      exec (.takeoverStartTimeout dt) s = .next (u)) ∧
  (∀ (dt : Nat) (s u : State), s.advance dt = u → u.fw.running = true →
      exec (.takeoverStartTimeout dt) s = .next (u)) ∧
  (∀ (dt : Nat) (s u : State) x, s.advance dt = u → u.flt.takeAt = some x → u.fw.running = false → u.flt.held = false →
      x + 5 * tickS ≤ u.time.tick →
      CompletesWith (exec (.takeoverStartTimeout dt) s) (fun t => t.flt.takeAt = some u.time.tick
          ∧ t.flt.consec = u.flt.consec + 1)) ∧
  (∀ (dt : Nat) (same : Bool) (s u : State), s.advance dt = u → u.fw.running = false →
      exec (.bankCheck dt same) s = .next (u)) ∧
  (∀ (dt : Nat) (same : Bool) (s u : State), s.advance dt = u → u.flt.checkDue = false →
      exec (.bankCheck dt same) s = .next (u)) ∧
  (∀ (dt : Nat) (same : Bool) (s u : State), s.advance dt = u → u.fw.running = true → u.flt.checkDue = true →
      CompletesWith (exec (.bankCheck dt same) s) (fun t => t.flt.checkDue = false
          ∧ t.banks = { u.banks with checkOk := same } ∧ t.flt.checkFailed = (u.flt.checkFailed || !same))) ∧
  (∀ (dt bytes : Nat) (truncated : Bool) (s u : State), s.advance dt = u → u.fw.running = false →
      exec (.midwinterStored dt bytes truncated) s = .next (u)) ∧
  (∀ (dt bytes : Nat) (truncated : Bool) (s u : State), s.advance dt = u → u.mid.copyDue = false →
      exec (.midwinterStored dt bytes truncated) s = .next (u)) ∧
  (∀ (dt bytes : Nat) (truncated : Bool) (s u : State) x, s.advance dt = u → u.fw.running = true → u.mid.copyDue = true →
      u.plat.warn = false → Tbl.get? u.mid.loc 0 = some x → 0 < u.mid.target →
      CompletesWith (exec (.midwinterStored dt bytes truncated) s) (fun t => Tbl.get? t.mid.loc u.mid.target = some { x with bytes := min bytes (2 ^ 25), truncated := truncated || decide (2 ^ 25 < bytes), released := false } ∧ t.mid.copyDue = false
        ∧ Tbl.get? t.mid.loc 0 = some x)) ∧
  (∀ (dt : Nat) (s u : State), s.advance dt = u → u.mid.erase = [] →
      exec (.midwinterSlotErase dt) s = .next (u)) ∧
  (∀ (dt : Nat) (s u : State) k rest, s.advance dt = u → u.mid.erase = k :: rest → u.plat.warn = false →
      CompletesWith (exec (.midwinterSlotErase dt) s) (fun t => Tbl.get? t.mid.loc k = none ∧ t.mid.erase = rest)) ∧
  (∀ (dt : Nat) (s u : State) k rest, s.advance dt = u → u.mid.erase = k :: rest → u.plat.warn = true →
      CompletesWith (exec (.midwinterSlotErase dt) s) (fun t => t.mid = u.mid ∧ .slotErase (k - 1) ∈ t.plat.flashWork)) ∧
  (∀ (dt : Nat) (hasSource : Bool) (cmd : Nat) (s u : State), s.advance dt = u → u.fw.running = false →
      exec (.coreException dt hasSource cmd) s = .next (u)) ∧
  (∀ (dt : Nat) (hasSource : Bool) (cmd : Nat) (s u : State), s.advance dt = u → u.fw.running = true →
      CompletesWith (exec (.coreException dt hasSource cmd) s) (fun t => t.flt.excs = u.recentExcs ++ [u.time.tick]))

/-- What the commands of groups 0x01 to 0x07 leave unchanged: every component of the state that is not named is unchanged. -/
def Obligations.FrameOfCommandsA : Prop :=
  (∀ s t,
    (∃ q, exec (.sysInfo q) s = .next t) ∨ (∃ q, exec (.sysAttendCancel q) s = .next t)
    ∨ (∃ q, exec (.bankStatus q) s = .next t) ∨ (∃ q, exec (.bankValidate q) s = .next t)
    ∨ (∃ q, exec (.equinoxResultGet q) s = .next t) ∨ (∃ q, exec (.portConfigGet q) s = .next t)
    ∨ (∃ q, exec (.portStatus q) s = .next t) ∨ (∃ q, exec (.portStats q) s = .next t)
    ∨ (∃ q, exec (.macLookup q) s = .next t) ∨ (∃ q, exec (.switchConfigGet q) s = .next t)
    ∨ (∃ q, exec (.switchCounters q) s = .next t) ∨ (∃ q, exec (.timeGet q) s = .next t)
    ∨ (∃ q, exec (.leapTableGet q) s = .next t) ∨ (∃ q, exec (.stampLatencyGet q) s = .next t)
    ∨ (∃ q, exec (.stampCounters q) s = .next t) ∨ (∃ q, exec (.measResultGet q) s = .next t)
    ∨ (∃ q, exec (.measCalGet q) s = .next t) ∨ (∃ q, exec (.ocxoStatus q) s = .next t)
    ∨ (∃ q, exec (.refConfigGet q) s = .next t) ∨ (∃ q, exec (.refStatus q) s = .next t)
    ∨ (∃ q, exec (.selStatus q) s = .next t) ∨ (∃ q, exec (.timingPolicyGet q) s = .next t)
    ∨ (∃ q, exec (.outputGet q) s = .next t) ∨ (∃ q, exec (.holdoverStatus q) s = .next t) →
      t = { s with
        tci := s.tci.servedTo t.tci
        intr := { s.intr with status := t.intr.status, lastVec := t.intr.lastVec, delayed := t.intr.delayed, signalled := t.intr.signalled, pba := t.intr.pba }
        evt := t.evt, win := s.win.heldTo t.win, dom := { s.dom with txSeq := t.dom.txSeq, queue := t.dom.queue }
        trace := t.trace }) ∧
  (∀ s t,
    (∃ q, exec (.sysPaceSet q) s = .next t) →
      t = { s with
        pace := { s.pace with pct := t.pace.pct }, tci := s.tci.servedTo t.tci
        intr := { s.intr with status := t.intr.status, lastVec := t.intr.lastVec, delayed := t.intr.delayed, signalled := t.intr.signalled, pba := t.intr.pba }
        evt := t.evt, win := s.win.heldTo t.win, dom := { s.dom with txSeq := t.dom.txSeq, queue := t.dom.queue }
        trace := t.trace }) ∧
  (∀ s t,
    (∃ q, exec (.sysPaceGet q) s = .next t) →
      t = { s with
        pace := { s.pace with lowest := t.pace.lowest }, tci := s.tci.servedTo t.tci
        intr := { s.intr with status := t.intr.status, lastVec := t.intr.lastVec, delayed := t.intr.delayed, signalled := t.intr.signalled, pba := t.intr.pba }
        evt := t.evt, win := s.win.heldTo t.win, dom := { s.dom with txSeq := t.dom.txSeq, queue := t.dom.queue }
        trace := t.trace }) ∧
  (∀ s t,
    (∃ q, exec (.sysInbandSet q) s = .next t) →
      t = { s with
        tci := s.tci.servedTo t.tci
        intr := { s.intr with status := t.intr.status, lastVec := t.intr.lastVec, delayed := t.intr.delayed, signalled := t.intr.signalled, pba := t.intr.pba }
        evt := t.evt, win := s.win.heldTo t.win, inb := { s.inb with enable := t.inb.enable, disabling := t.inb.disabling }
        dom := { s.dom with txSeq := t.dom.txSeq, queue := t.dom.queue }, trace := t.trace }) ∧
  (∀ s t,
    (∃ q, exec (.sysInbandSend q) s = .next t) →
      t = { s with
        tci := s.tci.servedTo t.tci
        intr := { s.intr with status := t.intr.status, lastVec := t.intr.lastVec, delayed := t.intr.delayed, signalled := t.intr.signalled, pba := t.intr.pba }
        evt := t.evt, win := s.win.heldTo t.win, inb := { s.inb with txnNext := t.inb.txnNext }
        dom := { s.dom with txSeq := t.dom.txSeq, queue := t.dom.queue }, trace := t.trace }) ∧
  (∀ s t,
    (∃ q, exec (.sysWindowRead q) s = .next t) →
      t = { s with
        tci := s.tci.servedTo t.tci
        intr := { s.intr with status := t.intr.status, lastVec := t.intr.lastVec, delayed := t.intr.delayed, signalled := t.intr.signalled, pba := t.intr.pba }
        evt := t.evt, win := s.win.heldTo t.win, dom := { s.dom with txSeq := t.dom.txSeq, queue := t.dom.queue }
        mem := { s.mem with lines := t.mem.lines, recent := t.mem.recent, repeats := t.mem.repeats, toRetire := t.mem.toRetire, flip := t.mem.flip, counters := t.mem.counters }
        flt := s.flt.notedTo t.flt, trace := t.trace }) ∧
  (∀ s t,
    (∃ q, exec (.sysWindowWrite q) s = .next t) →
      t = { s with
        tci := s.tci.servedTo t.tci
        intr := { s.intr with status := t.intr.status, lastVec := t.intr.lastVec, delayed := t.intr.delayed, signalled := t.intr.signalled, pba := t.intr.pba }
        evt := t.evt, win := s.win.heldTo t.win, dom := { s.dom with txSeq := t.dom.txSeq, queue := t.dom.queue }
        mem := s.mem.storedTo t.mem, flt := s.flt.notedTo t.flt, trace := t.trace }) ∧
  (∀ s t,
    (∃ q, exec (.sysFwWrite q) s = .next t) →
      t = { s with
        tci := s.tci.servedTo t.tci
        intr := { s.intr with status := t.intr.status, lastVec := t.intr.lastVec, delayed := t.intr.delayed, signalled := t.intr.signalled, pba := t.intr.pba }
        evt := t.evt, win := s.win.heldTo t.win, fw := t.fw, dom := { s.dom with txSeq := t.dom.txSeq, queue := t.dom.queue }
        plat := { s.plat with flashWork := t.plat.flashWork }, trace := t.trace }) ∧
  (∀ s t,
    (∃ q, exec (.sysFwActivate q) s = .next t) →
      t = { s with
        tci := s.tci.servedTo t.tci
        intr := { s.intr with status := t.intr.status, lastVec := t.intr.lastVec, delayed := t.intr.delayed, signalled := t.intr.signalled, pba := t.intr.pba }
        evt := t.evt, win := s.win.heldTo t.win, fw := t.fw, dom := { s.dom with txSeq := t.dom.txSeq, queue := t.dom.queue }
        trace := t.trace }) ∧
  (∀ s t,
    (∃ q, exec (.sysSealProvision q) s = .next t) →
      t = { s with
        tci := s.tci.servedTo t.tci
        intr := { s.intr with status := t.intr.status, lastVec := t.intr.lastVec, delayed := t.intr.delayed, signalled := t.intr.signalled, pba := t.intr.pba }
        evt := t.evt, win := s.win.heldTo t.win
        sealLoop := { t.sealLoop with closed := s.sealLoop.closed, closedAt := s.sealLoop.closedAt, missAt := s.sealLoop.missAt }
        dom := { s.dom with txSeq := t.dom.txSeq, queue := t.dom.queue }
        flt := { s.flt with records := t.flt.records, src := t.flt.src, frozen := t.flt.frozen, faultN := t.flt.faultN, recoveries := t.flt.recoveries, nextOpen := t.flt.nextOpen, takeRec := t.flt.takeRec }
        trace := t.trace }) ∧
  (∀ s t,
    (∃ q, exec (.sysFactoryDefault q) s = .next t) ∨ (∃ q, exec (.bankSeed q) s = .next t) →
      t = { s with
        tci := s.tci.servedTo t.tci
        intr := { s.intr with status := t.intr.status, lastVec := t.intr.lastVec, delayed := t.intr.delayed, signalled := t.intr.signalled, pba := t.intr.pba }
        evt := t.evt, win := s.win.heldTo t.win, dom := { s.dom with txSeq := t.dom.txSeq, queue := t.dom.queue }
        banks := { s.banks with shadow := t.banks.shadow, edits := t.banks.edits, changeId := t.banks.changeId, state := t.banks.state, validated := t.banks.validated, preloaded := t.banks.preloaded }
        rnd := { s.rnd with part := t.rnd.part }, trace := t.trace }) ∧
  (∀ s t,
    (∃ q, exec (.sysTraceRead q) s = .next t) →
      t = { s with
        tci := s.tci.servedTo t.tci
        intr := { s.intr with status := t.intr.status, lastVec := t.intr.lastVec, delayed := t.intr.delayed, signalled := t.intr.signalled, pba := t.intr.pba }
        evt := t.evt, win := s.win.heldTo t.win, fw := { s.fw with traceEnd := t.fw.traceEnd }
        dom := { s.dom with txSeq := t.dom.txSeq, queue := t.dom.queue }, trace := t.trace, free := t.free }) ∧
  (∀ s t,
    (∃ q, exec (.bankTag q) s = .next t) →
      t = { s with
        tci := s.tci.servedTo t.tci
        intr := { s.intr with status := t.intr.status, lastVec := t.intr.lastVec, delayed := t.intr.delayed, signalled := t.intr.signalled, pba := t.intr.pba }
        evt := t.evt, win := s.win.heldTo t.win, dom := { s.dom with txSeq := t.dom.txSeq, queue := t.dom.queue }
        banks := { s.banks with changeId := t.banks.changeId, state := t.banks.state, validated := t.banks.validated }
        rnd := { s.rnd with part := t.rnd.part }, trace := t.trace }) ∧
  (∀ s t,
    (∃ q, exec (.equinoxLocal q) s = .next t) →
      t = { s with
        tci := s.tci.servedTo t.tci
        intr := { s.intr with status := t.intr.status, lastVec := t.intr.lastVec, delayed := t.intr.delayed, signalled := t.intr.signalled, pba := t.intr.pba }
        evt := t.evt, win := s.win.heldTo t.win, dom := { s.dom with txSeq := t.dom.txSeq, queue := t.dom.queue }
        banks := { s.banks with validated := t.banks.validated }, trace := t.trace }) ∧
  (∀ s t,
    (∃ q, exec (.equinoxCancel q) s = .next t) →
      t = { s with
        tci := s.tci.servedTo t.tci
        intr := { s.intr with status := t.intr.status, lastVec := t.intr.lastVec, delayed := t.intr.delayed, signalled := t.intr.signalled, pba := t.intr.pba }
        evt := t.evt, win := s.win.heldTo t.win, dom := { s.dom with txSeq := t.dom.txSeq, queue := t.dom.queue }
        cue := s.cue.endedTo t.cue, cap := t.cap, banks := { s.banks with state := t.banks.state }
        mem := s.mem.storedTo t.mem, flt := s.flt.notedTo t.flt, trace := t.trace }) ∧
  (∀ s t,
    (∃ q, exec (.equinoxDomainStart q) s = .next t) →
      t = { s with
        tci := s.tci.servedTo t.tci
        intr := { s.intr with status := t.intr.status, lastVec := t.intr.lastVec, delayed := t.intr.delayed, signalled := t.intr.signalled, pba := t.intr.pba }
        evt := t.evt, win := s.win.heldTo t.win, dom := { s.dom with txSeq := t.dom.txSeq, queue := t.dom.queue }
        rnd := t.rnd, trace := t.trace }) ∧
  (∀ s t,
    (∃ q, exec (.equinoxDomainCancel q) s = .next t) →
      t = { s with
        tci := s.tci.servedTo t.tci
        intr := { s.intr with status := t.intr.status, lastVec := t.intr.lastVec, delayed := t.intr.delayed, signalled := t.intr.signalled, pba := t.intr.pba }
        evt := t.evt, win := s.win.heldTo t.win, dom := { s.dom with txSeq := t.dom.txSeq, queue := t.dom.queue }
        cue := s.cue.endedTo t.cue, cap := t.cap
        rnd := { s.rnd with part := t.rnd.part, up := t.rnd.up, lastOutcome := t.rnd.lastOutcome, root := t.rnd.root, rootRec := t.rnd.rootRec, recDue := t.rnd.recDue }
        mem := s.mem.storedTo t.mem, flt := s.flt.notedTo t.flt, trace := t.trace }) ∧
  (∀ s t,
    (∃ q, exec (.portConfigSet q) s = .next t) ∨ (∃ q, exec (.vlanSet q) s = .next t)
    ∨ (∃ q, exec (.portFwdSet q) s = .next t) ∨ (∃ q, exec (.macStaticSet q) s = .next t)
    ∨ (∃ q, exec (.flowRuleSet q) s = .next t) ∨ (∃ q, exec (.mcastGroupSet q) s = .next t)
    ∨ (∃ q, exec (.queueSet q) s = .next t) ∨ (∃ q, exec (.rsvSet q) s = .next t)
    ∨ (∃ q, exec (.stampLatencySet q) s = .next t) ∨ (∃ q, exec (.refConfigSet q) s = .next t)
    ∨ (∃ q, exec (.timingPolicySet q) s = .next t) ∨ (∃ q, exec (.outputSet q) s = .next t) →
      t = { s with
        tci := s.tci.servedTo t.tci
        intr := { s.intr with status := t.intr.status, lastVec := t.intr.lastVec, delayed := t.intr.delayed, signalled := t.intr.signalled, pba := t.intr.pba }
        evt := t.evt, win := s.win.heldTo t.win, dom := { s.dom with txSeq := t.dom.txSeq, queue := t.dom.queue }
        banks := { s.banks with shadow := t.banks.shadow, edits := t.banks.edits, validated := t.banks.validated, preloaded := t.banks.preloaded }
        trace := t.trace }) ∧
  (∀ s t,
    (∃ q, exec (.hostRingSet q) s = .next t) →
      t = { s with
        tci := s.tci.servedTo t.tci
        intr := { s.intr with status := t.intr.status, lastVec := t.intr.lastVec, delayed := t.intr.delayed, signalled := t.intr.signalled, pba := t.intr.pba }
        evt := t.evt, win := s.win.heldTo t.win, dom := { s.dom with txSeq := t.dom.txSeq, queue := t.dom.queue }
        host := { s.host with rings := t.host.rings }, trace := t.trace }) ∧
  (∀ s t,
    (∃ q, exec (.hostCounters q) s = .next t) →
      t = { s with
        tci := s.tci.servedTo t.tci
        intr := { s.intr with status := t.intr.status, lastVec := t.intr.lastVec, delayed := t.intr.delayed, signalled := t.intr.signalled, pba := t.intr.pba }
        evt := t.evt, win := s.win.heldTo t.win, dom := { s.dom with txSeq := t.dom.txSeq, queue := t.dom.queue }
        host := { s.host with counters := t.host.counters }, trace := t.trace }) ∧
  (∀ s t,
    (∃ q, exec (.portStateSet q) s = .next t) ∨ (∃ q, exec (.macFlush q) s = .next t) →
      t = { s with
        tci := s.tci.servedTo t.tci
        intr := { s.intr with status := t.intr.status, lastVec := t.intr.lastVec, delayed := t.intr.delayed, signalled := t.intr.signalled, pba := t.intr.pba }
        evt := t.evt, win := s.win.heldTo t.win, dom := { s.dom with txSeq := t.dom.txSeq, queue := t.dom.queue }
        sw := { s.sw with edits := t.sw.edits }, trace := t.trace }) ∧
  (∀ s t,
    (∃ q, exec (.mirrorSet q) s = .next t) →
      t = { s with
        tci := s.tci.servedTo t.tci
        intr := { s.intr with status := t.intr.status, lastVec := t.intr.lastVec, delayed := t.intr.delayed, signalled := t.intr.signalled, pba := t.intr.pba }
        evt := t.evt, win := s.win.heldTo t.win, dom := { s.dom with txSeq := t.dom.txSeq, queue := t.dom.queue }
        sw := { s.sw with mirrors := t.sw.mirrors }, trace := t.trace }) ∧
  (∀ s t,
    (∃ q, exec (.switchStatus q) s = .next t) →
      t = { s with
        tci := s.tci.servedTo t.tci
        intr := { s.intr with status := t.intr.status, lastVec := t.intr.lastVec, delayed := t.intr.delayed, signalled := t.intr.signalled, pba := t.intr.pba }
        evt := t.evt, win := s.win.heldTo t.win, dom := { s.dom with txSeq := t.dom.txSeq, queue := t.dom.queue }, sw := t.sw
        trace := t.trace }) ∧
  (∀ s t,
    (∃ q, exec (.timeSetFreq q) s = .next t) ∨ (∃ q, exec (.timeAdjPhase q) s = .next t) →
      t = { s with
        time := t.time, tci := s.tci.servedTo t.tci
        intr := { s.intr with status := t.intr.status, lastVec := t.intr.lastVec, delayed := t.intr.delayed, signalled := t.intr.signalled, pba := t.intr.pba }
        evt := t.evt, win := s.win.heldTo t.win, dom := { s.dom with txSeq := t.dom.txSeq, queue := t.dom.queue }
        trace := t.trace }) ∧
  (∀ s t,
    (∃ q, exec (.timeStep q) s = .next t) →
      t = { s with
        time := { s.time with scheds := t.time.scheds }, tci := s.tci.servedTo t.tci
        intr := { s.intr with status := t.intr.status, lastVec := t.intr.lastVec, delayed := t.intr.delayed, signalled := t.intr.signalled, pba := t.intr.pba }
        evt := t.evt, win := s.win.heldTo t.win, dom := { s.dom with txSeq := t.dom.txSeq, queue := t.dom.queue }
        trace := t.trace }) ∧
  (∀ s t,
    (∃ q, exec (.leapTableSet q) s = .next t) →
      t = { s with
        leap := { t.leap with flash := s.leap.flash }, tci := s.tci.servedTo t.tci
        intr := { s.intr with status := t.intr.status, lastVec := t.intr.lastVec, delayed := t.intr.delayed, signalled := t.intr.signalled, pba := t.intr.pba }
        evt := t.evt, win := s.win.heldTo t.win, dom := { s.dom with txSeq := t.dom.txSeq, queue := t.dom.queue }
        trace := t.trace }) ∧
  (∀ s t,
    (∃ q, exec (.stampRingSet q) s = .next t) →
      t = { s with
        stamps := t.stamps, tci := s.tci.servedTo t.tci
        intr := { s.intr with status := t.intr.status, lastVec := t.intr.lastVec, delayed := t.intr.delayed, signalled := t.intr.signalled, pba := t.intr.pba }
        evt := t.evt, win := s.win.heldTo t.win, dom := { s.dom with txSeq := t.dom.txSeq, queue := t.dom.queue }
        trace := t.trace }) ∧
  (∀ s t,
    (∃ q, exec (.measChannelSet q) s = .next t) →
      t = { s with
        tci := s.tci.servedTo t.tci
        intr := { s.intr with status := t.intr.status, lastVec := t.intr.lastVec, delayed := t.intr.delayed, signalled := t.intr.signalled, pba := t.intr.pba }
        evt := t.evt, win := s.win.heldTo t.win, meas := { s.meas with ch := t.meas.ch }
        dom := { s.dom with txSeq := t.dom.txSeq, queue := t.dom.queue }, cap := t.cap, trace := t.trace }) ∧
  (∀ s t,
    (∃ q, exec (.measChannelGet q) s = .next t) ∨ (∃ q, exec (.measCalRun q) s = .next t) →
      t = { s with
        tci := s.tci.servedTo t.tci
        intr := { s.intr with status := t.intr.status, lastVec := t.intr.lastVec, delayed := t.intr.delayed, signalled := t.intr.signalled, pba := t.intr.pba }
        evt := t.evt, win := s.win.heldTo t.win, meas := { s.meas with ch := t.meas.ch }
        dom := { s.dom with txSeq := t.dom.txSeq, queue := t.dom.queue }, trace := t.trace }) ∧
  (∀ s t,
    (∃ q, exec (.measStart q) s = .next t) ∨ (∃ q, exec (.measStop q) s = .next t) →
      t = { s with
        tci := s.tci.servedTo t.tci
        intr := { s.intr with status := t.intr.status, lastVec := t.intr.lastVec, delayed := t.intr.delayed, signalled := t.intr.signalled, pba := t.intr.pba }
        evt := t.evt, win := s.win.heldTo t.win, meas := { s.meas with job := t.meas.job }
        dom := { s.dom with txSeq := t.dom.txSeq, queue := t.dom.queue }, trace := t.trace }) ∧
  (∀ s t,
    (∃ q, exec (.selModeSet q) s = .next t) →
      t = { s with
        tci := s.tci.servedTo t.tci
        intr := { s.intr with status := t.intr.status, lastVec := t.intr.lastVec, delayed := t.intr.delayed, signalled := t.intr.signalled, pba := t.intr.pba }
        evt := t.evt, win := s.win.heldTo t.win
        sel := { s.sel with mode := t.sel.mode, manual := t.sel.manual, wtr := t.sel.wtr }
        dom := { s.dom with txSeq := t.dom.txSeq, queue := t.dom.queue }, trace := t.trace }) ∧
  (∀ s t,
    (∃ q, exec (.loopSet q) s = .next t) →
      t = { s with
        time := t.time, tci := s.tci.servedTo t.tci
        intr := { s.intr with status := t.intr.status, lastVec := t.intr.lastVec, delayed := t.intr.delayed, signalled := t.intr.signalled, pba := t.intr.pba }
        evt := t.evt, win := s.win.heldTo t.win, refs := t.refs
        sel := { t.sel with mode := s.sel.mode, manual := s.sel.manual, wtr := s.sel.wtr, actMode := s.sel.actMode, actManual := s.sel.actManual, actWtr := s.sel.actWtr, fell := s.sel.fell, pairs := s.sel.pairs, selected := s.sel.selected, everLocked := s.sel.everLocked, lastRef := s.sel.lastRef, lastUpdate := s.sel.lastUpdate }
        hold := t.hold, dom := { s.dom with txSeq := t.dom.txSeq, queue := t.dom.queue }, trace := t.trace })

/-- What the commands of groups 0x08 to 0x0F leave unchanged: every component of the state that is not named is unchanged. -/
def Obligations.FrameOfCommandsB : Prop :=
  (∀ s t,
    (∃ q, exec (.gnssConfigSet q) s = .next t) ∨ (∃ q, exec (.domainConfigSet q) s = .next t)
    ∨ (∃ q, exec (.portTimingSet q) s = .next t) ∨ (∃ q, exec (.fibrePairSet q) s = .next t)
    ∨ (∃ q, exec (.tsConfigSet q) s = .next t) ∨ (∃ q, exec (.tsAddrSet q) s = .next t)
    ∨ (∃ q, exec (.tsPrefixSet q) s = .next t) ∨ (∃ q, exec (.tsPolicySet q) s = .next t)
    ∨ (∃ q, exec (.ptpPortSet q) s = .next t) ∨ (∃ q, exec (.keyPolicySet q) s = .next t) →
      t = { s with
        tci := s.tci.servedTo t.tci
        intr := { s.intr with status := t.intr.status, lastVec := t.intr.lastVec, delayed := t.intr.delayed, signalled := t.intr.signalled, pba := t.intr.pba }
        evt := t.evt, win := s.win.heldTo t.win, dom := { s.dom with txSeq := t.dom.txSeq, queue := t.dom.queue }
        banks := { s.banks with shadow := t.banks.shadow, edits := t.banks.edits, validated := t.banks.validated, preloaded := t.banks.preloaded }
        trace := t.trace }) ∧
  (∀ s t,
    (∃ q, exec (.gnssConfigGet q) s = .next t) ∨ (∃ q, exec (.gnssStatus q) s = .next t)
    ∨ (∃ q, exec (.gnssSatList q) s = .next t) ∨ (∃ q, exec (.domainConfigGet q) s = .next t)
    ∨ (∃ q, exec (.trunkStatus q) s = .next t) ∨ (∃ q, exec (.domainStatus q) s = .next t)
    ∨ (∃ q, exec (.domainMembers q) s = .next t) ∨ (∃ q, exec (.cueList q) s = .next t)
    ∨ (∃ q, exec (.cueDomainResultGet q) s = .next t) ∨ (∃ q, exec (.tsConfigGet q) s = .next t)
    ∨ (∃ q, exec (.tsStatus q) s = .next t) ∨ (∃ q, exec (.tsLedgerGet q) s = .next t)
    ∨ (∃ q, exec (.tsLedgerFlush q) s = .next t) ∨ (∃ q, exec (.keyInfo q) s = .next t)
    ∨ (∃ q, exec (.keyPolicyGet q) s = .next t) ∨ (∃ q, exec (.cryptoStatus q) s = .next t)
    ∨ (∃ q, exec (.memStatus q) s = .next t) ∨ (∃ q, exec (.memCounters q) s = .next t)
    ∨ (∃ q, exec (.memRetiredList q) s = .next t) ∨ (∃ q, exec (.memFlashStatus q) s = .next t)
    ∨ (∃ q, exec (.memSramFlags q) s = .next t) ∨ (∃ q, exec (.faultStatus q) s = .next t)
    ∨ (∃ q, exec (.faultLedgerRead q) s = .next t) ∨ (∃ q, exec (.midwinterInfo q) s = .next t)
    ∨ (∃ q, exec (.midwinterRead q) s = .next t) ∨ (∃ q, exec (.platMarchLog q) s = .next t) →
      t = { s with
        tci := s.tci.servedTo t.tci
        intr := { s.intr with status := t.intr.status, lastVec := t.intr.lastVec, delayed := t.intr.delayed, signalled := t.intr.signalled, pba := t.intr.pba }
        evt := t.evt, win := s.win.heldTo t.win, dom := { s.dom with txSeq := t.dom.txSeq, queue := t.dom.queue }
        trace := t.trace }) ∧
  (∀ s t,
    (∃ q, exec (.gnssSurveyRestart q) s = .next t) ∨ (∃ q, exec (.gnssReset q) s = .next t) →
      t = { s with
        time := t.time, tci := s.tci.servedTo t.tci
        intr := { s.intr with status := t.intr.status, lastVec := t.intr.lastVec, delayed := t.intr.delayed, signalled := t.intr.signalled, pba := t.intr.pba }
        evt := t.evt, win := s.win.heldTo t.win, refs := t.refs
        sel := { t.sel with mode := s.sel.mode, manual := s.sel.manual, wtr := s.sel.wtr, actMode := s.sel.actMode, actManual := s.sel.actManual, actWtr := s.sel.actWtr, loopHeld := s.sel.loopHeld, integ := s.sel.integ, everLocked := s.sel.everLocked, lastUpdate := s.sel.lastUpdate }
        hold := t.hold, gnss := t.gnss, dom := { s.dom with txSeq := t.dom.txSeq, queue := t.dom.queue }
        flt := s.flt.notedTo t.flt, plat := { s.plat with flashWork := t.plat.flashWork }, trace := t.trace }) ∧
  (∀ s t,
    (∃ q, exec (.linkCalRun q) s = .next t) →
      t = { s with
        tci := s.tci.servedTo t.tci
        intr := { s.intr with status := t.intr.status, lastVec := t.intr.lastVec, delayed := t.intr.delayed, signalled := t.intr.signalled, pba := t.intr.pba }
        evt := t.evt, win := s.win.heldTo t.win, meas := { s.meas with linkCals := t.meas.linkCals }
        dom := { s.dom with txSeq := t.dom.txSeq, queue := t.dom.queue }, trace := t.trace }) ∧
  (∀ s t,
    (∃ q, exec (.cueAdd q) s = .next t) →
      t = { s with
        tci := s.tci.servedTo t.tci
        intr := { s.intr with status := t.intr.status, lastVec := t.intr.lastVec, delayed := t.intr.delayed, signalled := t.intr.signalled, pba := t.intr.pba }
        evt := t.evt, win := s.win.heldTo t.win, dom := { s.dom with txSeq := t.dom.txSeq, queue := t.dom.queue }
        cue := { s.cue with rows := t.cue.rows, nextSeq := t.cue.nextSeq }, trace := t.trace, free := t.free }) ∧
  (∀ s t,
    (∃ q, exec (.cueCancel q) s = .next t) →
      t = { s with
        tci := s.tci.servedTo t.tci
        intr := { s.intr with status := t.intr.status, lastVec := t.intr.lastVec, delayed := t.intr.delayed, signalled := t.intr.signalled, pba := t.intr.pba }
        evt := t.evt, win := s.win.heldTo t.win, dom := { s.dom with txSeq := t.dom.txSeq, queue := t.dom.queue }
        cue := s.cue.endedTo t.cue, cap := t.cap, mem := s.mem.storedTo t.mem, flt := s.flt.notedTo t.flt, trace := t.trace }) ∧
  (∀ s t,
    (∃ q, exec (.cueStatus q) s = .next t) →
      t = { s with
        tci := s.tci.servedTo t.tci
        intr := { s.intr with status := t.intr.status, lastVec := t.intr.lastVec, delayed := t.intr.delayed, signalled := t.intr.signalled, pba := t.intr.pba }
        evt := t.evt, win := s.win.heldTo t.win, dom := { s.dom with txSeq := t.dom.txSeq, queue := t.dom.queue }
        trace := t.trace, free := t.free }) ∧
  (∀ s t,
    (∃ q, exec (.cueDomainAnnounce q) s = .next t) →
      t = { s with
        tci := s.tci.servedTo t.tci
        intr := { s.intr with status := t.intr.status, lastVec := t.intr.lastVec, delayed := t.intr.delayed, signalled := t.intr.signalled, pba := t.intr.pba }
        evt := t.evt, win := s.win.heldTo t.win, dom := { s.dom with txSeq := t.dom.txSeq, queue := t.dom.queue }
        cue := { t.cue with closedGates := s.cue.closedGates, results := s.cue.results }, cap := t.cap
        mem := s.mem.storedTo t.mem, flt := s.flt.notedTo t.flt, trace := t.trace }) ∧
  (∀ s t,
    (∃ q, exec (.cueDomainCancel q) s = .next t) →
      t = { s with
        tci := s.tci.servedTo t.tci
        intr := { s.intr with status := t.intr.status, lastVec := t.intr.lastVec, delayed := t.intr.delayed, signalled := t.intr.signalled, pba := t.intr.pba }
        evt := t.evt, win := s.win.heldTo t.win, dom := { s.dom with txSeq := t.dom.txSeq, queue := t.dom.queue }
        cue := { t.cue with closedGates := s.cue.closedGates, issued := s.cue.issued, results := s.cue.results, nextRound := s.cue.nextRound }
        cap := t.cap, mem := s.mem.storedTo t.mem, flt := s.flt.notedTo t.flt, trace := t.trace }) ∧
  (∀ s t,
    (∃ q, exec (.captureRingSet q) s = .next t) →
      t = { s with
        tci := s.tci.servedTo t.tci
        intr := { s.intr with status := t.intr.status, lastVec := t.intr.lastVec, delayed := t.intr.delayed, signalled := t.intr.signalled, pba := t.intr.pba }
        evt := t.evt, win := s.win.heldTo t.win, dom := { s.dom with txSeq := t.dom.txSeq, queue := t.dom.queue }
        cap := t.cap, trace := t.trace }) ∧
  (∀ s t,
    (∃ q, exec (.cueFrameWrite q) s = .next t) →
      t = { s with
        tci := s.tci.servedTo t.tci
        intr := { s.intr with status := t.intr.status, lastVec := t.intr.lastVec, delayed := t.intr.delayed, signalled := t.intr.signalled, pba := t.intr.pba }
        evt := t.evt, win := s.win.heldTo t.win, dom := { s.dom with txSeq := t.dom.txSeq, queue := t.dom.queue }
        mem := s.mem.storedTo t.mem, flt := s.flt.notedTo t.flt, trace := t.trace }) ∧
  (∀ s t,
    (∃ q, exec (.tsCounters q) s = .next t) →
      t = { s with
        tci := s.tci.servedTo t.tci
        intr := { s.intr with status := t.intr.status, lastVec := t.intr.lastVec, delayed := t.intr.delayed, signalled := t.intr.signalled, pba := t.intr.pba }
        evt := t.evt, win := s.win.heldTo t.win, dom := { s.dom with txSeq := t.dom.txSeq, queue := t.dom.queue }
        ts := { s.ts with counters := t.ts.counters }, trace := t.trace }) ∧
  (∀ s t,
    (∃ q, exec (.ntsCookieIssue q) s = .next t) →
      t = { s with
        tci := s.tci.servedTo t.tci
        intr := { s.intr with status := t.intr.status, lastVec := t.intr.lastVec, delayed := t.intr.delayed, signalled := t.intr.signalled, pba := t.intr.pba }
        evt := t.evt, win := s.win.heldTo t.win, dom := { s.dom with txSeq := t.dom.txSeq, queue := t.dom.queue }
        bn := { s.bn with generates := t.bn.generates }, trace := t.trace, free := t.free }) ∧
  (∀ s t,
    (∃ q, exec (.keyImport q) s = .next t) ∨ (∃ q, exec (.keyDelete q) s = .next t) →
      t = { s with
        tci := s.tci.servedTo t.tci
        intr := { s.intr with status := t.intr.status, lastVec := t.intr.lastVec, delayed := t.intr.delayed, signalled := t.intr.signalled, pba := t.intr.pba }
        evt := t.evt, win := s.win.heldTo t.win, dom := { s.dom with txSeq := t.dom.txSeq, queue := t.dom.queue }
        keys := { s.keys with writes := t.keys.writes }, trace := t.trace }) ∧
  (∀ s t,
    (∃ q, exec (.keyGenerate q) s = .next t) ∨ (∃ q, exec (.keyNtsInit q) s = .next t) →
      t = { s with
        tci := s.tci.servedTo t.tci
        intr := { s.intr with status := t.intr.status, lastVec := t.intr.lastVec, delayed := t.intr.delayed, signalled := t.intr.signalled, pba := t.intr.pba }
        evt := t.evt, win := s.win.heldTo t.win, dom := { s.dom with txSeq := t.dom.txSeq, queue := t.dom.queue }
        keys := { s.keys with writes := t.keys.writes }, bn := { s.bn with generates := t.bn.generates }, trace := t.trace
        free := t.free }) ∧
  (∀ s t,
    (∃ q, exec (.bnOp q) s = .next t) →
      t = { s with
        tci := s.tci.servedTo t.tci
        intr := { s.intr with status := t.intr.status, lastVec := t.intr.lastVec, delayed := t.intr.delayed, signalled := t.intr.signalled, pba := t.intr.pba }
        evt := t.evt, win := s.win.heldTo t.win, dom := { s.dom with txSeq := t.dom.txSeq, queue := t.dom.queue }
        bn := { s.bn with queue := t.bn.queue }, trace := t.trace }) ∧
  (∀ s t,
    (∃ q, exec (.bnAbort q) s = .next t) →
      t = { s with
        tci := s.tci.servedTo t.tci
        intr := { s.intr with status := t.intr.status, lastVec := t.intr.lastVec, delayed := t.intr.delayed, signalled := t.intr.signalled, pba := t.intr.pba }
        evt := t.evt
        win := { s.win with state := t.win.state, mbx := t.win.mbx, deadline := t.win.deadline, held := t.win.held, pressIn := t.win.pressIn, closing := t.win.closing }
        dom := { s.dom with txSeq := t.dom.txSeq, queue := t.dom.queue }, bn := t.bn, trace := t.trace }) ∧
  (∀ s t,
    (∃ q, exec (.bnEnable q) s = .next t) →
      t = { s with
        tci := s.tci.servedTo t.tci
        intr := { s.intr with status := t.intr.status, lastVec := t.intr.lastVec, delayed := t.intr.delayed, signalled := t.intr.signalled, pba := t.intr.pba }
        evt := t.evt
        win := { s.win with state := t.win.state, mbx := t.win.mbx, deadline := t.win.deadline, held := t.win.held, pressIn := t.win.pressIn, closing := t.win.closing }
        dom := { s.dom with txSeq := t.dom.txSeq, queue := t.dom.queue }
        bn := { s.bn with enabled := t.bn.enabled, draining := t.bn.draining, queue := t.bn.queue }, trace := t.trace }) ∧
  (∀ s t,
    (∃ q, exec (.memPolicySet q) s = .next t) →
      t = { s with
        tci := s.tci.servedTo t.tci
        intr := { s.intr with status := t.intr.status, lastVec := t.intr.lastVec, delayed := t.intr.delayed, signalled := t.intr.signalled, pba := t.intr.pba }
        evt := t.evt, win := s.win.heldTo t.win, dom := { s.dom with txSeq := t.dom.txSeq, queue := t.dom.queue }
        mem := { s.mem with severeN := t.mem.severeN, windowH := t.mem.windowH, patrolH := t.mem.patrolH, policyFlash := t.mem.policyFlash }
        plat := { s.plat with flashWork := t.plat.flashWork }, trace := t.trace }) ∧
  (∀ s t,
    (∃ q, exec (.memScrub q) s = .next t) →
      t = { s with
        tci := s.tci.servedTo t.tci
        intr := { s.intr with status := t.intr.status, lastVec := t.intr.lastVec, delayed := t.intr.delayed, signalled := t.intr.signalled, pba := t.intr.pba }
        evt := t.evt, win := s.win.heldTo t.win, dom := { s.dom with txSeq := t.dom.txSeq, queue := t.dom.queue }
        mem := { s.mem with scrub := t.mem.scrub }, trace := t.trace }) ∧
  (∀ s t,
    (∃ q, exec (.memFlipArm q) s = .next t) →
      t = { s with
        tci := s.tci.servedTo t.tci
        intr := { s.intr with status := t.intr.status, lastVec := t.intr.lastVec, delayed := t.intr.delayed, signalled := t.intr.signalled, pba := t.intr.pba }
        evt := t.evt, win := s.win.heldTo t.win, dom := { s.dom with txSeq := t.dom.txSeq, queue := t.dom.queue }
        mem := { s.mem with flip := t.mem.flip }, trace := t.trace }) ∧
  (∀ s t,
    (∃ q, exec (.memFuseProgram q) s = .next t) →
      t = { s with
        tci := s.tci.servedTo t.tci
        intr := { s.intr with status := t.intr.status, lastVec := t.intr.lastVec, delayed := t.intr.delayed, signalled := t.intr.signalled, pba := t.intr.pba }
        evt := t.evt, win := s.win.heldTo t.win, dom := { s.dom with txSeq := t.dom.txSeq, queue := t.dom.queue }
        mem := { s.mem with flagged := t.mem.flagged, flaggedFlash := t.mem.flaggedFlash, sparesLeft := t.mem.sparesLeft, fuseDone := t.mem.fuseDone }
        trace := t.trace }) ∧
  (∀ s t,
    (∃ q, exec (.faultClear q) s = .next t) →
      t = { s with
        tci := s.tci.servedTo t.tci
        intr := { s.intr with status := t.intr.status, lastVec := t.intr.lastVec, delayed := t.intr.delayed, signalled := t.intr.signalled, pba := t.intr.pba }
        evt := t.evt, win := s.win.heldTo t.win, dom := { s.dom with txSeq := t.dom.txSeq, queue := t.dom.queue }
        flt := { s.flt with records := t.flt.records, src := t.flt.src, frozen := t.flt.frozen, faultN := t.flt.faultN, recoveries := t.flt.recoveries, nextOpen := t.flt.nextOpen, takeRec := t.flt.takeRec }
        trace := t.trace }) ∧
  (∀ s t,
    (∃ q, exec (.faultPolicySet q) s = .next t) →
      t = { s with
        tci := s.tci.servedTo t.tci
        intr := { s.intr with status := t.intr.status, lastVec := t.intr.lastVec, delayed := t.intr.delayed, signalled := t.intr.signalled, pba := t.intr.pba }
        evt := t.evt, win := s.win.heldTo t.win, dom := { s.dom with txSeq := t.dom.txSeq, queue := t.dom.queue }
        flt := { s.flt with src := t.flt.src, quietS := t.flt.quietS }, trace := t.trace }) ∧
  (∀ s t,
    (∃ q, exec (.midwinterRelease q) s = .next t) →
      t = { s with
        tci := s.tci.servedTo t.tci
        intr := { s.intr with status := t.intr.status, lastVec := t.intr.lastVec, delayed := t.intr.delayed, signalled := t.intr.signalled, pba := t.intr.pba }
        evt := t.evt, win := s.win.heldTo t.win, dom := { s.dom with txSeq := t.dom.txSeq, queue := t.dom.queue }
        mid := { s.mid with loc := t.mid.loc, erase := t.mid.erase }, trace := t.trace }) ∧
  (∀ s t,
    (∃ q, exec (.faultInject q) s = .next t) →
      t = { s with
        time := t.time, tci := t.tci
        intr := { s.intr with status := t.intr.status, lastVec := t.intr.lastVec, delayed := t.intr.delayed, signalled := t.intr.signalled, pba := t.intr.pba }
        evt := t.evt
        win := { t.win with raw := s.win.raw, rawAt := s.win.rawAt, present := s.win.present, pressAt := s.win.pressAt, counted := s.win.counted, stray := s.win.stray }
        inb := { s.inb with enable := t.inb.enable, disabling := t.inb.disabling }, fw := t.fw
        meas := { t.meas with job := s.meas.job }, refs := t.refs
        sel := { t.sel with mode := s.sel.mode, manual := s.sel.manual, wtr := s.sel.wtr, actMode := s.sel.actMode, actManual := s.sel.actManual, actWtr := s.sel.actWtr, loopHeld := s.sel.loopHeld, integ := s.sel.integ, everLocked := s.sel.everLocked, lastUpdate := s.sel.lastUpdate }
        hold := t.hold, outs := t.outs, gnss := t.gnss, dom := t.dom
        ts := { t.ts with ledger := s.ts.ledger, hashSeed := s.ts.hashSeed, stranger := s.ts.stranger, strangerTick := s.ts.strangerTick, capDropAt := s.ts.capDropAt, offered := s.ts.offered, admitUse := s.ts.admitUse, denyKiss := s.ts.denyKiss, rotateDue := s.ts.rotateDue, rotateLate := s.ts.rotateLate, lastRotation := s.ts.lastRotation, foreignAt := s.ts.foreignAt, linkDelay := s.ts.linkDelay, linkPair := s.ts.linkPair, ptpNext := s.ts.ptpNext }
        ports := t.ports, sw := { s.sw with macs := t.sw.macs, peak := t.sw.peak, qCtr := t.sw.qCtr, nextId := t.sw.nextId }
        banks := t.banks, keys := t.keys, bn := t.bn, flt := t.flt
        mid := { t.mid with overwritten := s.mid.overwritten, erase := s.mid.erase }
        plat := { s.plat with flashWork := t.plat.flashWork }, trace := t.trace, free := t.free }) ∧
  (∀ s t,
    (∃ q, exec (.platStatus q) s = .next t) →
      t = { s with
        tci := s.tci.servedTo t.tci
        intr := { s.intr with status := t.intr.status, lastVec := t.intr.lastVec, delayed := t.intr.delayed, signalled := t.intr.signalled, pba := t.intr.pba }
        evt := t.evt, win := s.win.heldTo t.win, dom := { s.dom with txSeq := t.dom.txSeq, queue := t.dom.queue }
        plat := t.plat, trace := t.trace }) ∧
  (∀ s t,
    (∃ q, exec (.platSupplySet q) s = .next t) →
      t = { s with
        tci := s.tci.servedTo t.tci
        intr := { s.intr with status := t.intr.status, lastVec := t.intr.lastVec, delayed := t.intr.delayed, signalled := t.intr.signalled, pba := t.intr.pba }
        evt := t.evt, win := s.win.heldTo t.win, dom := { s.dom with txSeq := t.dom.txSeq, queue := t.dom.queue }
        flt := s.flt.notedTo t.flt, plat := t.plat, trace := t.trace }) ∧
  (∀ s t,
    (∃ q, exec (.platReset q) s = .next t) →
      t = { s with
        tci := s.tci.servedTo t.tci
        intr := { s.intr with status := t.intr.status, lastVec := t.intr.lastVec, delayed := t.intr.delayed, signalled := t.intr.signalled, pba := t.intr.pba }
        evt := t.evt, win := s.win.heldTo t.win, fw := { s.fw with restarts := t.fw.restarts }
        dom := { s.dom with txSeq := t.dom.txSeq, queue := t.dom.queue }, trace := t.trace })

/-- What register, power, start, time, frame and port events leave unchanged: every component of the state that is not named
is unchanged. -/
def Obligations.FrameOfEventsA : Prop :=
  (∀ s t,
    (∃ dt, exec (.timeSnapCapture dt) s = .next t) →
      t = { s with
        time := t.time, snap := t.snap }) ∧
  (∀ s t,
    (∃ dt value, exec (.intStatusClear dt value) s = .next t) →
      t = { s with
        time := t.time, intr := { s.intr with status := t.intr.status } }) ∧
  (∀ s t,
    (∃ dt value, exec (.intMaskWrite dt value) s = .next t) →
      t = { s with
        time := t.time
        intr := { s.intr with mask := t.intr.mask, lastVec := t.intr.lastVec, delayed := t.intr.delayed, signalled := t.intr.signalled, pba := t.intr.pba }
        trace := t.trace }) ∧
  (∀ s t,
    (∃ dt value, exec (.evtTailWrite dt value) s = .next t) →
      t = { s with
        time := t.time
        intr := { s.intr with status := t.intr.status, lastVec := t.intr.lastVec, delayed := t.intr.delayed, signalled := t.intr.signalled, pba := t.intr.pba }
        evt := t.evt, trace := t.trace }) ∧
  (∀ s t,
    (∃ dt, exec (.evtLostRead dt) s = .next t) ∨ (∃ dt, exec (.strayPressesRead dt) s = .next t) →
      t = { s with
        time := t.time, snap := t.snap, evt := { s.evt with lost := t.evt.lost }, win := { s.win with stray := t.win.stray }
        trace := t.trace }) ∧
  (∀ s t,
    (∃ dt ring value, exec (.hportTxTailWrite dt ring value) s = .next t)
    ∨ (∃ dt ring value, exec (.hportRxTailWrite dt ring value) s = .next t) →
      t = { s with
        time := t.time, host := { s.host with rings := t.host.rings } }) ∧
  (∀ s t,
    (∃ dt offset access value, exec (.registerWrite dt offset access value) s = .next t) →
      t = { s with
        time := t.time, leap := { t.leap with flash := s.leap.flash }, snap := t.snap, stamps := t.stamps
        pace := { s.pace with lowest := t.pace.lowest, negSeen := t.pace.negSeen, pct := t.pace.pct }, tci := t.tci
        intr := { t.intr with msixEn := s.intr.msixEn }, evt := t.evt
        win := { t.win with raw := s.win.raw, rawAt := s.win.rawAt, present := s.win.present, pressAt := s.win.pressAt, counted := s.win.counted }
        sealLoop := { t.sealLoop with closed := s.sealLoop.closed, closedAt := s.sealLoop.closedAt, missAt := s.sealLoop.missAt }
        inb := { t.inb with refused := s.inb.refused }, fw := t.fw, meas := t.meas, refs := t.refs
        sel := { t.sel with actMode := s.sel.actMode, actManual := s.sel.actManual, actWtr := s.sel.actWtr, everLocked := s.sel.everLocked, lastUpdate := s.sel.lastUpdate }
        hold := t.hold, outs := t.outs, gnss := t.gnss, dom := t.dom
        cue := { t.cue with closedGates := s.cue.closedGates, results := s.cue.results }, cap := t.cap
        ts := { t.ts with ledger := s.ts.ledger, hashSeed := s.ts.hashSeed, stranger := s.ts.stranger, strangerTick := s.ts.strangerTick, capDropAt := s.ts.capDropAt, offered := s.ts.offered, admitUse := s.ts.admitUse, denyKiss := s.ts.denyKiss, rotateDue := s.ts.rotateDue, rotateLate := s.ts.rotateLate, lastRotation := s.ts.lastRotation, foreignAt := s.ts.foreignAt, linkDelay := s.ts.linkDelay, linkPair := s.ts.linkPair, ptpNext := s.ts.ptpNext }
        ports := t.ports, host := { t.host with queue := s.host.queue }, sw := t.sw, banks := t.banks, rnd := t.rnd
        keys := t.keys, bn := t.bn
        mem := { t.mem with erasure := s.mem.erasure, retired := s.mem.retired, retiredDirty := s.mem.retiredDirty, retiredFlash := s.mem.retiredFlash, spare := s.mem.spare, sramRepeat := s.mem.sramRepeat, rewrites := s.mem.rewrites, lastPatrol := s.mem.lastPatrol, patrolLine := s.mem.patrolLine, patrolAt := s.mem.patrolAt, flipped := s.mem.flipped, flash := s.mem.flash }
        flt := t.flt, mid := { t.mid with overwritten := s.mid.overwritten }, plat := t.plat, trace := t.trace, free := t.free }) ∧
  (∀ s t,
    (∃ dt kind frames, exec (.pcieLinkReset dt kind frames) s = .next t) →
      t = { s with
        time := t.time, stamps := t.stamps
        intr := { s.intr with mask := t.intr.mask, msixEn := t.intr.msixEn, delayed := t.intr.delayed }
        host := { t.host with queue := s.host.queue }
        plat := { s.plat with perst := t.plat.perst, pcieUp := t.plat.pcieUp, pcieGen := t.plat.pcieGen, pcieWidth := t.plat.pcieWidth } }) ∧
  (∀ s t,
    (∃ dt, exec (.perstNRelease dt) s = .next t) →
      t = { s with
        time := t.time, plat := { s.plat with perst := t.plat.perst } }) ∧
  (∀ s t,
    (∃ dt r, exec (.pwrOkRise dt r) s = .next t) ∨ (∃ dt r, exec (.supplyRestart dt r) s = .next t) →
      t = { s with
        time := t.time
        intr := { s.intr with status := t.intr.status, lastVec := t.intr.lastVec, delayed := t.intr.delayed, signalled := t.intr.signalled, pba := t.intr.pba }
        evt := t.evt, ocxo := { s.ocxo with heaterAt := t.ocxo.heaterAt }, flt := s.flt.notedTo t.flt, plat := t.plat
        trace := t.trace }) ∧
  (∀ s t,
    (∃ dt, exec (.pwrOkFall dt) s = .next t) →
      t = { s with
        time := t.time
        intr := { s.intr with status := t.intr.status, lastVec := t.intr.lastVec, delayed := t.intr.delayed, signalled := t.intr.signalled, pba := t.intr.pba }
        evt := t.evt, flt := s.flt.notedTo t.flt
        plat := { s.plat with pwrOk := t.plat.pwrOk, warn := t.plat.warn, warnTick := t.plat.warnTick, clearAt := t.plat.clearAt, lastWarn := t.plat.lastWarn, v12Ep := t.plat.v12Ep, vcoreEp := t.plat.vcoreEp }
        trace := t.trace }) ∧
  (∀ s t,
    (∃ dt r, exec (.supplyWarnSet dt r) s = .next t) →
      t = { s with
        time := t.time
        intr := { s.intr with status := t.intr.status, lastVec := t.intr.lastVec, delayed := t.intr.delayed, signalled := t.intr.signalled, pba := t.intr.pba }
        evt := t.evt, flt := s.flt.notedTo t.flt, plat := t.plat, trace := t.trace }) ∧
  (∀ s t,
    (∃ dt r, exec (.supplyWarnClear dt r) s = .next t) →
      t = { s with
        time := t.time, tci := s.tci.answeredTo t.tci
        intr := { s.intr with status := t.intr.status, lastVec := t.intr.lastVec, delayed := t.intr.delayed, signalled := t.intr.signalled, pba := t.intr.pba }
        evt := t.evt, win := s.win.heldTo t.win, fw := t.fw
        gnss := { s.gnss with toStore := t.gnss.toStore, stored := t.gnss.stored }
        dom := { s.dom with txSeq := t.dom.txSeq, queue := t.dom.queue }
        mem := { s.mem with flaggedFlash := t.mem.flaggedFlash, policyFlash := t.mem.policyFlash, counters := t.mem.counters, flash := t.mem.flash }
        flt := s.flt.notedTo t.flt, plat := t.plat, trace := t.trace }) ∧
  (∀ s t,
    (∃ dt tj, exec (.thermalRelease dt tj) s = .next t) →
      t = { s with
        time := t.time, plat := { s.plat with tjMax := t.plat.tjMax, hot := t.plat.hot, inReset := t.plat.inReset } }) ∧
  (∀ s t,
    (∃ dt, exec (.marchStep dt) s = .next t) →
      t = { s with
        time := t.time
        intr := { s.intr with status := t.intr.status, lastVec := t.intr.lastVec, delayed := t.intr.delayed, signalled := t.intr.signalled, pba := t.intr.pba }
        evt := t.evt
        ocxo := { s.ocxo with heaterAt := t.ocxo.heaterAt, pllLocked := t.ocxo.pllLocked, pllPhase := t.ocxo.pllPhase }
        refs := t.refs
        sel := { t.sel with mode := s.sel.mode, manual := s.sel.manual, wtr := s.sel.wtr, actMode := s.sel.actMode, actManual := s.sel.actManual, actWtr := s.sel.actWtr, loopHeld := s.sel.loopHeld, integ := s.sel.integ, everLocked := s.sel.everLocked, lastUpdate := s.sel.lastUpdate }
        hold := t.hold, gnss := t.gnss
        ts := { s.ts with ntp := t.ts.ntp, nts := t.ts.nts, ptp := t.ts.ptp, draining := t.ts.draining, derivedAt := t.ts.derivedAt, grants := t.ts.grants, load := t.ts.load, waiting := t.ts.waiting, credit := t.ts.credit, servedAt := t.ts.servedAt, counters := t.ts.counters, announceAt := t.ts.announceAt, ptpSeq := t.ts.ptpSeq, master := t.ts.master, masterId := t.ts.masterId, pair := t.ts.pair }
        ports := t.ports, sw := { s.sw with peak := t.sw.peak, qCtr := t.sw.qCtr, nextId := t.sw.nextId }
        flt := s.flt.notedTo t.flt, plat := t.plat, trace := t.trace }) ∧
  (∀ s t,
    (∃ dt, exec (.bootImageSelect dt) s = .next t) ∨ (∃ dt, exec (.attendActionResume dt) s = .next t) →
      t = { s with
        time := t.time, leap := { t.leap with flash := s.leap.flash }, stamps := t.stamps
        pace := { s.pace with lowest := t.pace.lowest, pct := t.pace.pct }
        tci := { t.tci with doorbellErr := s.tci.doorbellErr }
        intr := { s.intr with status := t.intr.status, lastVec := t.intr.lastVec, delayed := t.intr.delayed, signalled := t.intr.signalled, pba := t.intr.pba }
        evt := t.evt
        win := { t.win with raw := s.win.raw, rawAt := s.win.rawAt, present := s.win.present, pressAt := s.win.pressAt, counted := s.win.counted, stray := s.win.stray }
        sealLoop := { t.sealLoop with closed := s.sealLoop.closed, closedAt := s.sealLoop.closedAt, missAt := s.sealLoop.missAt }
        inb := { t.inb with refused := s.inb.refused }, fw := t.fw, meas := t.meas, refs := t.refs
        sel := { t.sel with actMode := s.sel.actMode, actManual := s.sel.actManual, actWtr := s.sel.actWtr, everLocked := s.sel.everLocked, lastUpdate := s.sel.lastUpdate }
        hold := t.hold, outs := t.outs, gnss := t.gnss, dom := t.dom
        cue := { t.cue with closedGates := s.cue.closedGates, results := s.cue.results }, cap := t.cap
        ts := { t.ts with ledger := s.ts.ledger, hashSeed := s.ts.hashSeed, stranger := s.ts.stranger, strangerTick := s.ts.strangerTick, capDropAt := s.ts.capDropAt, offered := s.ts.offered, admitUse := s.ts.admitUse, denyKiss := s.ts.denyKiss, rotateDue := s.ts.rotateDue, rotateLate := s.ts.rotateLate, lastRotation := s.ts.lastRotation, foreignAt := s.ts.foreignAt, linkDelay := s.ts.linkDelay, linkPair := s.ts.linkPair, ptpNext := s.ts.ptpNext }
        ports := t.ports, host := { t.host with queue := s.host.queue }, sw := t.sw, banks := t.banks, rnd := t.rnd
        keys := t.keys, bn := t.bn
        mem := { t.mem with erasure := s.mem.erasure, retired := s.mem.retired, retiredDirty := s.mem.retiredDirty, retiredFlash := s.mem.retiredFlash, spare := s.mem.spare, sramRepeat := s.mem.sramRepeat, rewrites := s.mem.rewrites, lastPatrol := s.mem.lastPatrol, patrolLine := s.mem.patrolLine, patrolAt := s.mem.patrolAt, flipped := s.mem.flipped, flash := s.mem.flash }
        flt := t.flt, mid := { t.mid with overwritten := s.mid.overwritten }, plat := t.plat, trace := t.trace, free := t.free }) ∧
  (∀ s t,
    (∃ dt, exec (.fwStarted dt) s = .next t) →
      t = { s with
        time := t.time, leap := { t.leap with flash := s.leap.flash }, stamps := t.stamps
        pace := { s.pace with lowest := t.pace.lowest, pct := t.pace.pct }
        tci := { t.tci with doorbellErr := s.tci.doorbellErr }
        intr := { s.intr with status := t.intr.status, lastVec := t.intr.lastVec, delayed := t.intr.delayed, signalled := t.intr.signalled, pba := t.intr.pba }
        evt := t.evt
        win := { t.win with raw := s.win.raw, rawAt := s.win.rawAt, present := s.win.present, pressAt := s.win.pressAt, counted := s.win.counted, stray := s.win.stray }
        sealLoop := { t.sealLoop with closed := s.sealLoop.closed, closedAt := s.sealLoop.closedAt, missAt := s.sealLoop.missAt }
        inb := t.inb, fw := t.fw, meas := t.meas, refs := t.refs
        sel := { t.sel with actMode := s.sel.actMode, actManual := s.sel.actManual, actWtr := s.sel.actWtr, everLocked := s.sel.everLocked, lastUpdate := s.sel.lastUpdate }
        hold := t.hold, outs := t.outs, gnss := t.gnss, dom := t.dom
        cue := { t.cue with closedGates := s.cue.closedGates, results := s.cue.results }, cap := t.cap
        ts := { t.ts with ledger := s.ts.ledger, stranger := s.ts.stranger, strangerTick := s.ts.strangerTick, capDropAt := s.ts.capDropAt, offered := s.ts.offered, admitUse := s.ts.admitUse, denyKiss := s.ts.denyKiss, rotateLate := s.ts.rotateLate, lastRotation := s.ts.lastRotation, foreignAt := s.ts.foreignAt, linkDelay := s.ts.linkDelay, linkPair := s.ts.linkPair, ptpNext := s.ts.ptpNext }
        ports := t.ports, host := { t.host with queue := s.host.queue }, sw := t.sw, banks := t.banks, rnd := t.rnd
        keys := t.keys, bn := t.bn
        mem := { t.mem with erasure := s.mem.erasure, retired := s.mem.retired, retiredDirty := s.mem.retiredDirty, retiredFlash := s.mem.retiredFlash, spare := s.mem.spare, sramRepeat := s.mem.sramRepeat, rewrites := s.mem.rewrites, lastPatrol := s.mem.lastPatrol, patrolLine := s.mem.patrolLine, patrolAt := s.mem.patrolAt, flipped := s.mem.flipped, flash := s.mem.flash }
        flt := t.flt, mid := { t.mid with overwritten := s.mid.overwritten }, plat := t.plat, trace := t.trace, free := t.free }) ∧
  (∀ s t,
    (∃ dt, exec (.imageConfirm dt) s = .next t) →
      t = { s with
        time := t.time, fw := t.fw }) ∧
  (∀ s t,
    (∃ pin, exec (.presentPressStart pin) s = .next t) →
      t = { s with
        time := t.time
        intr := { s.intr with status := t.intr.status, lastVec := t.intr.lastVec, delayed := t.intr.delayed, signalled := t.intr.signalled, pba := t.intr.pba }
        evt := t.evt
        win := { t.win with mbx := s.win.mbx, deadline := s.win.deadline, held := s.win.held, stray := s.win.stray, actions := s.win.actions, closing := s.win.closing }
        trace := t.trace }) ∧
  (∀ s t,
    (∃ pin, exec (.presentRelease pin) s = .next t) →
      t = { s with
        time := t.time
        intr := { s.intr with status := t.intr.status, lastVec := t.intr.lastVec, delayed := t.intr.delayed, signalled := t.intr.signalled, pba := t.intr.pba }
        evt := t.evt
        win := { s.win with state := t.win.state, raw := t.win.raw, rawAt := t.win.rawAt, present := t.win.present, pressIn := t.win.pressIn }
        trace := t.trace }) ∧
  (∀ s t,
    (∃ dt, exec (.pressQualified dt) s = .next t) →
      t = { s with
        time := t.time, leap := { t.leap with flash := s.leap.flash }, stamps := t.stamps
        pace := { s.pace with lowest := t.pace.lowest, pct := t.pace.pct }
        tci := { t.tci with doorbellErr := s.tci.doorbellErr }
        intr := { s.intr with status := t.intr.status, lastVec := t.intr.lastVec, delayed := t.intr.delayed, signalled := t.intr.signalled, pba := t.intr.pba }
        evt := t.evt
        win := { t.win with raw := s.win.raw, rawAt := s.win.rawAt, present := s.win.present, pressAt := s.win.pressAt }
        sealLoop := { t.sealLoop with closed := s.sealLoop.closed, closedAt := s.sealLoop.closedAt, missAt := s.sealLoop.missAt }
        inb := { t.inb with refused := s.inb.refused }, fw := t.fw, meas := t.meas, refs := t.refs
        sel := { t.sel with actMode := s.sel.actMode, actManual := s.sel.actManual, actWtr := s.sel.actWtr, everLocked := s.sel.everLocked, lastUpdate := s.sel.lastUpdate }
        hold := t.hold, outs := t.outs, gnss := t.gnss, dom := t.dom
        cue := { t.cue with closedGates := s.cue.closedGates, results := s.cue.results }, cap := t.cap
        ts := { t.ts with ledger := s.ts.ledger, hashSeed := s.ts.hashSeed, stranger := s.ts.stranger, strangerTick := s.ts.strangerTick, capDropAt := s.ts.capDropAt, offered := s.ts.offered, admitUse := s.ts.admitUse, denyKiss := s.ts.denyKiss, rotateDue := s.ts.rotateDue, rotateLate := s.ts.rotateLate, lastRotation := s.ts.lastRotation, foreignAt := s.ts.foreignAt, linkDelay := s.ts.linkDelay, linkPair := s.ts.linkPair, ptpNext := s.ts.ptpNext }
        ports := t.ports, host := { t.host with queue := s.host.queue }, sw := t.sw, banks := t.banks, rnd := t.rnd
        keys := t.keys, bn := t.bn
        mem := { t.mem with erasure := s.mem.erasure, retired := s.mem.retired, retiredDirty := s.mem.retiredDirty, retiredFlash := s.mem.retiredFlash, spare := s.mem.spare, sramRepeat := s.mem.sramRepeat, rewrites := s.mem.rewrites, lastPatrol := s.mem.lastPatrol, patrolLine := s.mem.patrolLine, patrolAt := s.mem.patrolAt, flipped := s.mem.flipped, flash := s.mem.flash }
        flt := t.flt, mid := { t.mid with overwritten := s.mid.overwritten }, plat := t.plat, trace := t.trace, free := t.free }) ∧
  (∀ s t,
    (∃ dt, exec (.attendWindowExpire dt) s = .next t) →
      t = { s with
        time := t.time, tci := { s.tci with mbx := t.tci.mbx }
        intr := { s.intr with status := t.intr.status, lastVec := t.intr.lastVec, delayed := t.intr.delayed, signalled := t.intr.signalled, pba := t.intr.pba }
        evt := t.evt, win := { s.win with state := t.win.state, held := t.win.held, pressIn := t.win.pressIn }
        dom := { s.dom with txSeq := t.dom.txSeq, queue := t.dom.queue }, trace := t.trace }) ∧
  (∀ s t,
    (∃ dt, exec (.sealBreak dt) s = .next t) →
      t = { s with
        time := t.time, tci := s.tci.answeredTo t.tci
        intr := { s.intr with status := t.intr.status, lastVec := t.intr.lastVec, delayed := t.intr.delayed, signalled := t.intr.signalled, pba := t.intr.pba }
        evt := t.evt, win := { s.win with actions := t.win.actions, closing := t.win.closing }
        sealLoop := { s.sealLoop with latch := t.sealLoop.latch, flash := t.sealLoop.flash }
        dom := { s.dom with txSeq := t.dom.txSeq, queue := t.dom.queue }
        ts := { s.ts with cookies := t.ts.cookies, rotating := t.ts.rotating }, keys := t.keys, bn := t.bn
        flt := s.flt.notedTo t.flt, trace := t.trace }) ∧
  (∀ s t,
    (∃ dt, exec (.keyMirrorErase dt) s = .next t) →
      t = { s with
        time := t.time, keys := { s.keys with erase := t.keys.erase } }) ∧
  (∀ s t,
    (∃ dt readings tj, exec (.paceGateClose dt readings tj) s = .next t) →
      t = { s with
        time := t.time, pace := t.pace
        intr := { s.intr with status := t.intr.status, lastVec := t.intr.lastVec, delayed := t.intr.delayed, signalled := t.intr.signalled, pba := t.intr.pba }
        evt := t.evt, ports := t.ports, trace := t.trace }) ∧
  (∀ s t,
    (∃ dt, exec (.timeStepApply dt) s = .next t) →
      t = { s with
        time := t.time, leap := { s.leap with pending := t.leap.pending, dir := t.leap.dir, pendAt := t.leap.pendAt }
        tci := s.tci.answeredTo t.tci
        intr := { s.intr with status := t.intr.status, lastVec := t.intr.lastVec, delayed := t.intr.delayed, signalled := t.intr.signalled, pba := t.intr.pba }
        evt := t.evt, win := { s.win with closing := t.win.closing }, meas := { t.meas with linkCals := s.meas.linkCals }
        refs := t.refs
        sel := { t.sel with mode := s.sel.mode, manual := s.sel.manual, wtr := s.sel.wtr, actMode := s.sel.actMode, actManual := s.sel.actManual, actWtr := s.sel.actWtr, loopHeld := s.sel.loopHeld, integ := s.sel.integ, everLocked := s.sel.everLocked, lastUpdate := s.sel.lastUpdate }
        hold := t.hold, outs := t.outs, gnss := t.gnss, dom := t.dom, cue := s.cue.endedTo t.cue, cap := t.cap
        ts := { s.ts with ntp := t.ts.ntp, nts := t.ts.nts, ptp := t.ts.ptp, draining := t.ts.draining, derivedAt := t.ts.derivedAt, grants := t.ts.grants, load := t.ts.load, waiting := t.ts.waiting, credit := t.ts.credit, servedAt := t.ts.servedAt, counters := t.ts.counters, announceAt := t.ts.announceAt, ptpSeq := t.ts.ptpSeq, master := t.ts.master, masterId := t.ts.masterId, pair := t.ts.pair }
        ports := t.ports, sw := { s.sw with macs := t.sw.macs, peak := t.sw.peak, qCtr := t.sw.qCtr, nextId := t.sw.nextId }
        banks := t.banks, rnd := { s.rnd with part := t.rnd.part, lastOutcome := t.rnd.lastOutcome }
        keys := { s.keys with cache := t.keys.cache }, mem := s.mem.storedTo t.mem, flt := s.flt.notedTo t.flt
        trace := t.trace }) ∧
  (∀ s t,
    (∃ dt, exec (.slewStart dt) s = .next t) →
      t = { s with
        time := t.time, tci := s.tci.answeredTo t.tci
        intr := { s.intr with status := t.intr.status, lastVec := t.intr.lastVec, delayed := t.intr.delayed, signalled := t.intr.signalled, pba := t.intr.pba }
        evt := t.evt, win := { s.win with closing := t.win.closing }, refs := t.refs
        sel := { t.sel with mode := s.sel.mode, manual := s.sel.manual, wtr := s.sel.wtr, actMode := s.sel.actMode, actManual := s.sel.actManual, actWtr := s.sel.actWtr, fell := s.sel.fell, pairs := s.sel.pairs, selected := s.sel.selected, loopHeld := s.sel.loopHeld, loopAt := s.sel.loopAt, integ := s.sel.integ, eHist := s.sel.eHist, everLocked := s.sel.everLocked, lastRef := s.sel.lastRef, lastUpdate := s.sel.lastUpdate }
        hold := t.hold, dom := { s.dom with txSeq := t.dom.txSeq, queue := t.dom.queue }, trace := t.trace }) ∧
  (∀ s t,
    (∃ dt, exec (.slewEnd dt) s = .next t) →
      t = { s with
        time := t.time }) ∧
  (∀ s t,
    (∃ dt, exec (.leapApplied dt) s = .next t) →
      t = { s with
        time := t.time, leap := { s.leap with pending := t.leap.pending, dir := t.leap.dir, pendAt := t.leap.pendAt }
        intr := { s.intr with status := t.intr.status, lastVec := t.intr.lastVec, delayed := t.intr.delayed, signalled := t.intr.signalled, pba := t.intr.pba }
        evt := t.evt, trace := t.trace }) ∧
  (∀ s t,
    (∃ dt, exec (.leapPendingStart dt) s = .next t) →
      t = { s with
        time := t.time, leap := { s.leap with pending := t.leap.pending, dir := t.leap.dir, pendAt := t.leap.pendAt } }) ∧
  (∀ s t,
    (∃ dt, exec (.leapTablePersist dt) s = .next t) →
      t = { s with
        time := t.time, leap := { s.leap with flash := t.leap.flash, flashDirty := t.leap.flashDirty } }) ∧
  (∀ s t,
    (∃ dt port phase lane f, exec (.frameReceive dt port phase lane f) s = .next t)
    ∨ (∃ dt port f, exec (.pauseReceive dt port f) s = .next t)
    ∨ (∃ dt port phase lane bytes count start mcrc last, exec (.fragmentReceive dt port phase lane bytes count start mcrc last) s = .next t) →
      t = { s with
        time := t.time
        intr := { s.intr with status := t.intr.status, lastVec := t.intr.lastVec, delayed := t.intr.delayed, signalled := t.intr.signalled, pba := t.intr.pba }
        evt := t.evt, cap := t.cap, ports := t.ports, mem := s.mem.storedTo t.mem, flt := s.flt.notedTo t.flt
        trace := t.trace }) ∧
  (∀ s t,
    (∃ dt port, exec (.classificationPass dt port) s = .next t) →
      t = { s with
        time := t.time
        intr := { s.intr with status := t.intr.status, lastVec := t.intr.lastVec, delayed := t.intr.delayed, signalled := t.intr.signalled, pba := t.intr.pba }
        evt := t.evt, ports := t.ports, host := { s.host with queue := t.host.queue }, sw := t.sw
        bn := { s.bn with generates := t.bn.generates }, trace := t.trace, free := t.free }) ∧
  (∀ s t,
    (∃ dt, exec (.learningWrite dt) s = .next t)
    ∨ (∃ dt port vlan kind ms v6 groups, exec (.snoopPacket dt port vlan kind ms v6 groups) s = .next t) →
      t = { s with
        time := t.time
        intr := { s.intr with status := t.intr.status, lastVec := t.intr.lastVec, delayed := t.intr.delayed, signalled := t.intr.signalled, pba := t.intr.pba }
        evt := t.evt, sw := t.sw, trace := t.trace }) ∧
  (∀ s t,
    (∃ dt, exec (.liveEditAck dt) s = .next t) →
      t = { s with
        time := t.time, tci := s.tci.answeredTo t.tci
        intr := { s.intr with status := t.intr.status, lastVec := t.intr.lastVec, delayed := t.intr.delayed, signalled := t.intr.signalled, pba := t.intr.pba }
        evt := t.evt, win := { s.win with closing := t.win.closing }
        dom := { s.dom with txSeq := t.dom.txSeq, queue := t.dom.queue }
        sw := { s.sw with portState := t.sw.portState, macs := t.sw.macs, edits := t.sw.edits }, trace := t.trace }) ∧
  (∀ s t,
    (∃ dt, exec (.macAging dt) s = .next t) →
      t = { s with
        time := t.time, sw := { s.sw with macs := t.sw.macs } }) ∧
  (∀ s t,
    (∃ dt, exec (.snoopLapse dt) s = .next t) →
      t = { s with
        time := t.time, sw := { s.sw with groups := t.sw.groups, routers := t.sw.routers } }) ∧
  (∀ s t,
    (∃ dt turn, exec (.egressDecision dt turn) s = .next t) →
      t = { s with
        time := t.time, stamps := t.stamps
        intr := { s.intr with status := t.intr.status, lastVec := t.intr.lastVec, delayed := t.intr.delayed, signalled := t.intr.signalled, pba := t.intr.pba }
        evt := t.evt, dom := { s.dom with queue := t.dom.queue }
        ts := { s.ts with load := t.ts.load, waiting := t.ts.waiting, credit := t.ts.credit, servedAt := t.ts.servedAt, counters := t.ts.counters, linkPair := t.ts.linkPair, pair := t.ts.pair }
        ports := t.ports, host := { s.host with queue := t.host.queue }
        sw := { s.sw with mirrors := t.sw.mirrors, peak := t.sw.peak, qCtr := t.sw.qCtr, flowCtr := t.sw.flowCtr, nextId := t.sw.nextId }
        bn := { s.bn with generates := t.bn.generates }, trace := t.trace, free := t.free }) ∧
  (∀ s t,
    (∃ dt port, exec (.preemptCut dt port) s = .next t) ∨ (∃ dt port late, exec (.bookedSlotLost dt port late) s = .next t)
    ∨ (∃ dt port, exec (.guardBandOpen dt port) s = .next t) ∨ (∃ dt port, exec (.verifyTimeout dt port) s = .next t)
    ∨ (∃ dt port, exec (.respondReceive dt port) s = .next t) ∨ (∃ dt port, exec (.portQuiescent dt port) s = .next t) →
      t = { s with
        time := t.time
        intr := { s.intr with status := t.intr.status, lastVec := t.intr.lastVec, delayed := t.intr.delayed, signalled := t.intr.signalled, pba := t.intr.pba }
        evt := t.evt, ports := t.ports, trace := t.trace }) ∧
  (∀ s t,
    (∃ dt port phase, exec (.bookedSlotBook dt port phase) s = .next t) →
      t = { s with
        time := t.time
        intr := { s.intr with status := t.intr.status, lastVec := t.intr.lastVec, delayed := t.intr.delayed, signalled := t.intr.signalled, pba := t.intr.pba }
        evt := t.evt, ts := { s.ts with counters := t.ts.counters }, ports := t.ports, trace := t.trace }) ∧
  (∀ s t,
    (∃ dt turn, exec (.bookedSlotLaunch dt turn) s = .next t) →
      t = { s with
        time := t.time, stamps := t.stamps
        intr := { s.intr with status := t.intr.status, lastVec := t.intr.lastVec, delayed := t.intr.delayed, signalled := t.intr.signalled, pba := t.intr.pba }
        evt := t.evt
        ts := { s.ts with load := t.ts.load, waiting := t.ts.waiting, credit := t.ts.credit, servedAt := t.ts.servedAt, counters := t.ts.counters, linkPair := t.ts.linkPair, pair := t.ts.pair }
        ports := t.ports, host := { s.host with queue := t.host.queue }
        sw := { s.sw with mirrors := t.sw.mirrors, peak := t.sw.peak, qCtr := t.sw.qCtr, flowCtr := t.sw.flowCtr, nextId := t.sw.nextId }
        bn := { s.bn with generates := t.bn.generates }, trace := t.trace, free := t.free }) ∧
  (∀ s t,
    (∃ dt port, exec (.pauseTimerExpire dt port) s = .next t) ∨ (∃ dt port, exec (.pauseGenerate dt port) s = .next t) →
      t = { s with
        time := t.time, ports := t.ports }) ∧
  (∀ s t,
    (∃ dt port, exec (.verifySend dt port) s = .next t) →
      t = { s with
        time := t.time, ports := t.ports, trace := t.trace }) ∧
  (∀ s t,
    (∃ dt port, exec (.verifyReceive dt port) s = .next t) →
      t = { s with
        time := t.time, trace := t.trace }) ∧
  (∀ s t,
    (∃ dt port cause, exec (.linkLoss dt port cause) s = .next t) →
      t = { s with
        time := t.time
        intr := { s.intr with status := t.intr.status, lastVec := t.intr.lastVec, delayed := t.intr.delayed, signalled := t.intr.signalled, pba := t.intr.pba }
        evt := t.evt, refs := t.refs
        sel := { t.sel with mode := s.sel.mode, manual := s.sel.manual, wtr := s.sel.wtr, actMode := s.sel.actMode, actManual := s.sel.actManual, actWtr := s.sel.actWtr, loopHeld := s.sel.loopHeld, integ := s.sel.integ, everLocked := s.sel.everLocked, lastUpdate := s.sel.lastUpdate }
        hold := t.hold, dom := t.dom, ports := t.ports, trace := t.trace }) ∧
  (∀ s t,
    (∃ dt port skew, exec (.linkUp dt port skew) s = .next t) →
      t = { s with
        time := t.time
        intr := { s.intr with status := t.intr.status, lastVec := t.intr.lastVec, delayed := t.intr.delayed, signalled := t.intr.signalled, pba := t.intr.pba }
        evt := t.evt, refs := t.refs
        sel := { s.sel with lastType := t.sel.lastType, lockType := t.sel.lockType, lockTr := t.sel.lockTr, clockClass := t.sel.clockClass }
        dom := { s.dom with queue := t.dom.queue }, ports := t.ports, trace := t.trace }) ∧
  (∀ s t,
    (∃ dt port, exec (.linkHoldExpire dt port) s = .next t) →
      t = { s with
        time := t.time
        intr := { s.intr with status := t.intr.status, lastVec := t.intr.lastVec, delayed := t.intr.delayed, signalled := t.intr.signalled, pba := t.intr.pba }
        evt := t.evt, dom := { s.dom with queue := t.dom.queue }, ports := t.ports, trace := t.trace }) ∧
  (∀ s t,
    (∃ dt ring d f, exec (.hostTxDescriptor dt ring d f) s = .next t) →
      t = { s with
        time := t.time
        intr := { s.intr with status := t.intr.status, lastVec := t.intr.lastVec, delayed := t.intr.delayed, signalled := t.intr.signalled, pba := t.intr.pba }
        evt := t.evt, ports := t.ports, host := t.host, sw := t.sw, bn := { s.bn with generates := t.bn.generates }
        trace := t.trace, free := t.free }) ∧
  (∀ s t,
    (∃ dt ring, exec (.hostRxDeliver dt ring) s = .next t) →
      t = { s with
        time := t.time
        intr := { s.intr with status := t.intr.status, lastVec := t.intr.lastVec, delayed := t.intr.delayed, signalled := t.intr.signalled, pba := t.intr.pba }
        host := t.host, trace := t.trace }) ∧
  (∀ s t,
    (∃ dt ring frames, exec (.hostRingQuiescent dt ring frames) s = .next t) →
      t = { s with
        time := t.time, tci := s.tci.answeredTo t.tci
        intr := { s.intr with status := t.intr.status, lastVec := t.intr.lastVec, delayed := t.intr.delayed, signalled := t.intr.signalled, pba := t.intr.pba }
        evt := t.evt, win := { s.win with closing := t.win.closing }
        dom := { s.dom with txSeq := t.dom.txSeq, queue := t.dom.queue }, host := { t.host with queue := s.host.queue }
        trace := t.trace }) ∧
  (∀ s t,
    (∃ dt, exec (.stampRingQuiescent dt) s = .next t) →
      t = { s with
        time := t.time, stamps := { s.stamps with draining := t.stamps.draining }, tci := s.tci.answeredTo t.tci
        intr := { s.intr with status := t.intr.status, lastVec := t.intr.lastVec, delayed := t.intr.delayed, signalled := t.intr.signalled, pba := t.intr.pba }
        evt := t.evt, win := { s.win with closing := t.win.closing }
        dom := { s.dom with txSeq := t.dom.txSeq, queue := t.dom.queue }, trace := t.trace }) ∧
  (∀ s t,
    (∃ dt session, exec (.mirrorQuiescent dt session) s = .next t) →
      t = { s with
        time := t.time, tci := s.tci.answeredTo t.tci
        intr := { s.intr with status := t.intr.status, lastVec := t.intr.lastVec, delayed := t.intr.delayed, signalled := t.intr.signalled, pba := t.intr.pba }
        evt := t.evt, win := { s.win with closing := t.win.closing }
        dom := { s.dom with txSeq := t.dom.txSeq, queue := t.dom.queue }, sw := { s.sw with mirrors := t.sw.mirrors }
        trace := t.trace })

/-- What measurement, reference, output, receiver, domain and cue events leave unchanged: every component of the state that is
not named is unchanged. -/
def Obligations.FrameOfEventsB : Prop :=
  (∀ s t,
    (∃ dt ch n k, exec (.tdcEdge dt ch n k) s = .next t) →
      t = { s with
        time := t.time
        intr := { s.intr with status := t.intr.status, lastVec := t.intr.lastVec, delayed := t.intr.delayed, signalled := t.intr.signalled, pba := t.intr.pba }
        evt := t.evt, meas := { t.meas with turnAt := s.meas.turnAt }
        ocxo := { s.ocxo with pllPhase := t.ocxo.pllPhase, phaseWalk := t.ocxo.phaseWalk }, refs := t.refs
        sel := { t.sel with mode := s.sel.mode, manual := s.sel.manual, wtr := s.sel.wtr, actMode := s.sel.actMode, actManual := s.sel.actManual, actWtr := s.sel.actWtr, loopHeld := s.sel.loopHeld, integ := s.sel.integ, everLocked := s.sel.everLocked, lastUpdate := s.sel.lastUpdate }
        hold := t.hold, gnss := { s.gnss with ppsAt := t.gnss.ppsAt, edgeMark := t.gnss.edgeMark }, cap := t.cap
        mem := s.mem.storedTo t.mem, flt := s.flt.notedTo t.flt, trace := t.trace }) ∧
  (∀ s t,
    (∃ dt ch hits, exec (.calTableComplete dt ch hits) s = .next t) →
      t = { s with
        time := t.time, tci := s.tci.answeredTo t.tci
        intr := { s.intr with status := t.intr.status, lastVec := t.intr.lastVec, delayed := t.intr.delayed, signalled := t.intr.signalled, pba := t.intr.pba }
        evt := t.evt, win := { s.win with closing := t.win.closing }
        meas := { t.meas with job := s.meas.job, linkCals := s.meas.linkCals }, outs := t.outs
        dom := { s.dom with txSeq := t.dom.txSeq, queue := t.dom.queue }, flt := s.flt.notedTo t.flt, trace := t.trace }) ∧
  (∀ s t,
    (∃ dt job, exec (.regressionGateClose dt job) s = .next t) →
      t = { s with
        time := t.time
        intr := { s.intr with status := t.intr.status, lastVec := t.intr.lastVec, delayed := t.intr.delayed, signalled := t.intr.signalled, pba := t.intr.pba }
        evt := t.evt, meas := { s.meas with job := t.meas.job }, trace := t.trace }) ∧
  (∀ s t,
    (∃ dt ch, exec (.measChannelQuiescent dt ch) s = .next t) →
      t = { s with
        time := t.time, tci := s.tci.answeredTo t.tci
        intr := { s.intr with status := t.intr.status, lastVec := t.intr.lastVec, delayed := t.intr.delayed, signalled := t.intr.signalled, pba := t.intr.pba }
        evt := t.evt, win := { s.win with closing := t.win.closing }, meas := { s.meas with ch := t.meas.ch }
        dom := { s.dom with txSeq := t.dom.txSeq, queue := t.dom.queue }, trace := t.trace }) ∧
  (∀ s t,
    (∃ dt job, exec (.measJobQuiescent dt job) s = .next t) →
      t = { s with
        time := t.time, tci := s.tci.answeredTo t.tci
        intr := { s.intr with status := t.intr.status, lastVec := t.intr.lastVec, delayed := t.intr.delayed, signalled := t.intr.signalled, pba := t.intr.pba }
        evt := t.evt, win := { s.win with closing := t.win.closing }, meas := { s.meas with job := t.meas.job }
        dom := { s.dom with txSeq := t.dom.txSeq, queue := t.dom.queue }, trace := t.trace }) ∧
  (∀ s t,
    (∃ dt devMk heaterMw, exec (.ocxoWarmChange dt devMk heaterMw) s = .next t) →
      t = { s with
        time := t.time
        intr := { s.intr with status := t.intr.status, lastVec := t.intr.lastVec, delayed := t.intr.delayed, signalled := t.intr.signalled, pba := t.intr.pba }
        evt := t.evt, ocxo := t.ocxo, sel := { s.sel with yHist := t.sel.yHist, yAt := t.sel.yAt }, hold := t.hold
        flt := s.flt.notedTo t.flt, trace := t.trace }) ∧
  (∀ s t,
    (∃ dt ref, exec (.refEvaluation dt ref) s = .next t) →
      t = { s with
        time := t.time
        intr := { s.intr with status := t.intr.status, lastVec := t.intr.lastVec, delayed := t.intr.delayed, signalled := t.intr.signalled, pba := t.intr.pba }
        evt := t.evt, refs := t.refs, sel := t.sel, hold := t.hold, trace := t.trace }) ∧
  (∀ s t,
    (∃ dt ref, exec (.refLos dt ref) s = .next t) ∨ (∃ dt ref, exec (.refPhaseHit dt ref) s = .next t)
    ∨ (∃ dt ref, exec (.refSourceStatusFail dt ref) s = .next t) →
      t = { s with
        time := t.time
        intr := { s.intr with status := t.intr.status, lastVec := t.intr.lastVec, delayed := t.intr.delayed, signalled := t.intr.signalled, pba := t.intr.pba }
        evt := t.evt, refs := t.refs
        sel := { t.sel with mode := s.sel.mode, manual := s.sel.manual, wtr := s.sel.wtr, actMode := s.sel.actMode, actManual := s.sel.actManual, actWtr := s.sel.actWtr, loopHeld := s.sel.loopHeld, integ := s.sel.integ, everLocked := s.sel.everLocked, lastUpdate := s.sel.lastUpdate }
        hold := t.hold, trace := t.trace }) ∧
  (∀ s t,
    (∃ dt, exec (.refSelect dt) s = .next t) ∨ (∃ dt, exec (.waitToRestoreExpire dt) s = .next t) →
      t = { s with
        time := t.time
        intr := { s.intr with status := t.intr.status, lastVec := t.intr.lastVec, delayed := t.intr.delayed, signalled := t.intr.signalled, pba := t.intr.pba }
        evt := t.evt, refs := t.refs
        sel := { t.sel with mode := s.sel.mode, manual := s.sel.manual, wtr := s.sel.wtr, actMode := s.sel.actMode, actManual := s.sel.actManual, actWtr := s.sel.actWtr, pairs := s.sel.pairs, loopHeld := s.sel.loopHeld, integ := s.sel.integ, everLocked := s.sel.everLocked, lastUpdate := s.sel.lastUpdate }
        hold := t.hold, trace := t.trace }) ∧
  (∀ s t,
    (∃ dt, exec (.loopUpdate dt) s = .next t) →
      t = { s with
        time := t.time
        intr := { s.intr with status := t.intr.status, lastVec := t.intr.lastVec, delayed := t.intr.delayed, signalled := t.intr.signalled, pba := t.intr.pba }
        evt := t.evt, refs := t.refs
        sel := { s.sel with loopAt := t.sel.loopAt, integ := t.sel.integ, e := t.sel.e, eHist := t.sel.eHist, lockRun := t.sel.lockRun, lastType := t.sel.lastType, lockType := t.sel.lockType, lockTr := t.sel.lockTr, clockClass := t.sel.clockClass, yHist := t.sel.yHist, yAt := t.sel.yAt, lastUpdate := t.sel.lastUpdate }
        hold := t.hold, trace := t.trace }) ∧
  (∀ s t,
    (∃ dt, exec (.lockAchieved dt) s = .next t) →
      t = { s with
        time := t.time
        intr := { s.intr with status := t.intr.status, lastVec := t.intr.lastVec, delayed := t.intr.delayed, signalled := t.intr.signalled, pba := t.intr.pba }
        evt := t.evt, refs := t.refs
        sel := { s.sel with state := t.sel.state, since := t.sel.since, lockRun := t.sel.lockRun, pendingPhase := t.sel.pendingPhase, e0 := t.sel.e0, blocked := t.sel.blocked, tested := t.sel.tested, lastType := t.sel.lastType, lockType := t.sel.lockType, lockTr := t.sel.lockTr, everLocked := t.sel.everLocked, clockClass := t.sel.clockClass, acqClass := t.sel.acqClass, yHist := t.sel.yHist, yAt := t.sel.yAt, stateAt := t.sel.stateAt }
        hold := t.hold, trace := t.trace }) ∧
  (∀ s t,
    (∃ dt theta, exec (.holdoverSample dt theta) s = .next t) →
      t = { s with
        time := t.time, hold := t.hold, plat := { s.plat with tcase := t.plat.tcase } }) ∧
  (∀ s t,
    (∃ dt theta, exec (.holdoverWrite dt theta) s = .next t) →
      t = { s with
        time := t.time
        intr := { s.intr with status := t.intr.status, lastVec := t.intr.lastVec, delayed := t.intr.delayed, signalled := t.intr.signalled, pba := t.intr.pba }
        evt := t.evt, refs := t.refs
        sel := { s.sel with lastType := t.sel.lastType, lockType := t.sel.lockType, lockTr := t.sel.lockTr, clockClass := t.sel.clockClass }
        hold := { s.hold with writeAt := t.hold.writeAt }, plat := { s.plat with tcase := t.plat.tcase }, trace := t.trace }) ∧
  (∀ s t,
    (∃ dt, exec (.autoStepTest dt) s = .next t) →
      t = { s with
        time := t.time, sel := { s.sel with blocked := t.sel.blocked, tested := t.sel.tested } }) ∧
  (∀ s t,
    (∃ dt ref, exec (.refQuiescent dt ref) s = .next t) ∨ (∃ dt chars, exec (.todSentenceReceive dt chars) s = .next t) →
      t = { s with
        time := t.time, refs := t.refs }) ∧
  (∀ s t,
    (∃ dt output, exec (.outputEdge dt output) s = .next t) →
      t = { s with
        time := t.time
        intr := { s.intr with status := t.intr.status, lastVec := t.intr.lastVec, delayed := t.intr.delayed, signalled := t.intr.signalled, pba := t.intr.pba }
        evt := t.evt, outs := t.outs, trace := t.trace }) ∧
  (∀ s t,
    (∃ dt output, exec (.outputQuiescent dt output) s = .next t) →
      t = { s with
        time := t.time, meas := { s.meas with turnEvs := t.meas.turnEvs }, outs := t.outs }) ∧
  (∀ s t,
    (∃ dt output counted, exec (.toutMonitorCheck dt output counted) s = .next t) →
      t = { s with
        time := t.time
        intr := { s.intr with status := t.intr.status, lastVec := t.intr.lastVec, delayed := t.intr.delayed, signalled := t.intr.signalled, pba := t.intr.pba }
        evt := t.evt, meas := { t.meas with job := s.meas.job, linkCals := s.meas.linkCals }, outs := t.outs
        flt := s.flt.notedTo t.flt, trace := t.trace }) ∧
  (∀ s t,
    (∃ dt, exec (.todSentenceSend dt) s = .next t) →
      t = { s with
        time := t.time, outs := t.outs, trace := t.trace }) ∧
  (∀ s t,
    (∃ dt e, exec (.gnssEpoch dt e) s = .next t) ∨ (∃ dt, exec (.gnssRecover dt) s = .next t) →
      t = { s with
        time := t.time
        intr := { s.intr with status := t.intr.status, lastVec := t.intr.lastVec, delayed := t.intr.delayed, signalled := t.intr.signalled, pba := t.intr.pba }
        evt := t.evt, refs := t.refs
        sel := { s.sel with lastType := t.sel.lastType, lockType := t.sel.lockType, lockTr := t.sel.lockTr, clockClass := t.sel.clockClass }
        gnss := t.gnss, flt := s.flt.notedTo t.flt, trace := t.trace }) ∧
  (∀ s t,
    (∃ dt, exec (.gnssIndicator dt) s = .next t) →
      t = { s with
        time := t.time
        intr := { s.intr with status := t.intr.status, lastVec := t.intr.lastVec, delayed := t.intr.delayed, signalled := t.intr.signalled, pba := t.intr.pba }
        evt := t.evt, gnss := t.gnss, trace := t.trace }) ∧
  (∀ s t,
    (∃ dt, exec (.gnssSignalLoss dt) s = .next t) ∨ (∃ dt x y z, exec (.gnssBackgroundFix dt x y z) s = .next t)
    ∨ (∃ dt, exec (.gnssDisqualify dt) s = .next t) →
      t = { s with
        time := t.time
        intr := { s.intr with status := t.intr.status, lastVec := t.intr.lastVec, delayed := t.intr.delayed, signalled := t.intr.signalled, pba := t.intr.pba }
        evt := t.evt, refs := t.refs
        sel := { t.sel with mode := s.sel.mode, manual := s.sel.manual, wtr := s.sel.wtr, actMode := s.sel.actMode, actManual := s.sel.actManual, actWtr := s.sel.actWtr, loopHeld := s.sel.loopHeld, integ := s.sel.integ, everLocked := s.sel.everLocked, lastUpdate := s.sel.lastUpdate }
        hold := t.hold, gnss := t.gnss, flt := s.flt.notedTo t.flt, trace := t.trace }) ∧
  (∀ s t,
    (∃ dt, exec (.gnssSurveyDone dt) s = .next t) →
      t = { s with
        time := t.time
        intr := { s.intr with status := t.intr.status, lastVec := t.intr.lastVec, delayed := t.intr.delayed, signalled := t.intr.signalled, pba := t.intr.pba }
        evt := t.evt, gnss := t.gnss, flt := s.flt.notedTo t.flt, plat := { s.plat with flashWork := t.plat.flashWork }
        trace := t.trace }) ∧
  (∀ s t,
    (∃ dt ma held, exec (.gnssAntenna dt ma held) s = .next t) →
      t = { s with
        time := t.time
        intr := { s.intr with status := t.intr.status, lastVec := t.intr.lastVec, delayed := t.intr.delayed, signalled := t.intr.signalled, pba := t.intr.pba }
        evt := t.evt
        gnss := { s.gnss with biasMv := t.gnss.biasMv, antenna := t.gnss.antenna, antennaMa := t.gnss.antennaMa, reapplyAt := t.gnss.reapplyAt }
        flt := s.flt.notedTo t.flt, trace := t.trace }) ∧
  (∀ s t,
    (∃ dt, exec (.gnssQuiescent dt) s = .next t) →
      t = { s with
        time := t.time, gnss := { s.gnss with draining := t.gnss.draining } }) ∧
  (∀ s t,
    (∃ dt, exec (.helloSend dt) s = .next t) ∨ (∃ dt, exec (.heartbeatStale dt) s = .next t) →
      t = { s with
        time := t.time
        intr := { s.intr with status := t.intr.status, lastVec := t.intr.lastVec, delayed := t.intr.delayed, signalled := t.intr.signalled, pba := t.intr.pba }
        evt := t.evt, refs := t.refs
        sel := { t.sel with mode := s.sel.mode, manual := s.sel.manual, wtr := s.sel.wtr, actMode := s.sel.actMode, actManual := s.sel.actManual, actWtr := s.sel.actWtr, loopHeld := s.sel.loopHeld, integ := s.sel.integ, everLocked := s.sel.everLocked, lastUpdate := s.sel.lastUpdate }
        hold := t.hold, dom := t.dom, trace := t.trace }) ∧
  (∀ s t,
    (∃ dt f, exec (.hello dt f) s = .next t) ∨ (∃ dt port, exec (.trunkState dt port) s = .next t)
    ∨ (∃ dt port x, exec (.l1syncChange dt port x) s = .next t) →
      t = { s with
        time := t.time
        intr := { s.intr with status := t.intr.status, lastVec := t.intr.lastVec, delayed := t.intr.delayed, signalled := t.intr.signalled, pba := t.intr.pba }
        evt := t.evt, refs := t.refs
        sel := { t.sel with mode := s.sel.mode, manual := s.sel.manual, wtr := s.sel.wtr, actMode := s.sel.actMode, actManual := s.sel.actManual, actWtr := s.sel.actWtr, loopHeld := s.sel.loopHeld, integ := s.sel.integ, everLocked := s.sel.everLocked, lastUpdate := s.sel.lastUpdate }
        hold := t.hold, dom := t.dom, ports := t.ports, trace := t.trace }) ∧
  (∀ s t,
    (∃ dt, exec (.membersSend dt) s = .next t) →
      t = { s with
        time := t.time, dom := { s.dom with txSeq := t.dom.txSeq, membersDue := t.dom.membersDue, queue := t.dom.queue } }) ∧
  (∀ s t,
    (∃ dt f, exec (.members dt f) s = .next t) →
      t = { s with
        time := t.time
        intr := { s.intr with status := t.intr.status, lastVec := t.intr.lastVec, delayed := t.intr.delayed, signalled := t.intr.signalled, pba := t.intr.pba }
        evt := t.evt, dom := { s.dom with dupId := t.dom.dupId, dupAt := t.dom.dupAt }, ports := t.ports
        flt := s.flt.notedTo t.flt, trace := t.trace }) ∧
  (∀ s t,
    (∃ dt, exec (.dupIdClear dt) s = .next t) →
      t = { s with
        time := t.time
        intr := { s.intr with status := t.intr.status, lastVec := t.intr.lastVec, delayed := t.intr.delayed, signalled := t.intr.signalled, pba := t.intr.pba }
        evt := t.evt, dom := { s.dom with dupId := t.dom.dupId }
        flt := { s.flt with records := t.flt.records, src := t.flt.src, frozen := t.flt.frozen, faultN := t.flt.faultN, recoveries := t.flt.recoveries, nextOpen := t.flt.nextOpen, takeRec := t.flt.takeRec }
        trace := t.trace }) ∧
  (∀ s t,
    (∃ dt port heard m phase lane moves, exec (.trunkExchange dt port heard m phase lane moves) s = .next t) →
      t = { s with
        time := t.time
        intr := { s.intr with status := t.intr.status, lastVec := t.intr.lastVec, delayed := t.intr.delayed, signalled := t.intr.signalled, pba := t.intr.pba }
        evt := t.evt, refs := t.refs
        sel := { t.sel with mode := s.sel.mode, manual := s.sel.manual, wtr := s.sel.wtr, actMode := s.sel.actMode, actManual := s.sel.actManual, actWtr := s.sel.actWtr, loopHeld := s.sel.loopHeld, integ := s.sel.integ, everLocked := s.sel.everLocked, lastUpdate := s.sel.lastUpdate }
        hold := t.hold, ts := { s.ts with ptpSeq := t.ts.ptpSeq }, ports := t.ports
        sw := { s.sw with peak := t.sw.peak, qCtr := t.sw.qCtr, nextId := t.sw.nextId }, trace := t.trace }) ∧
  (∀ s t,
    (∃ dt, exec (.domainQuiescent dt) s = .next t) →
      t = { s with
        time := t.time, dom := { s.dom with draining := t.dom.draining } }) ∧
  (∀ s t,
    (∃ dt, exec (.linkCalGateClose dt) s = .next t) →
      t = { s with
        time := t.time, tci := s.tci.answeredTo t.tci
        intr := { s.intr with status := t.intr.status, lastVec := t.intr.lastVec, delayed := t.intr.delayed, signalled := t.intr.signalled, pba := t.intr.pba }
        evt := t.evt, win := { s.win with closing := t.win.closing }, meas := { s.meas with linkCals := t.meas.linkCals }
        dom := { s.dom with txSeq := t.dom.txSeq, queue := t.dom.queue }, trace := t.trace, free := t.free }) ∧
  (∀ s t,
    (∃ dt port, exec (.esmcSend dt port) s = .next t) →
      t = { s with
        time := t.time
        intr := { s.intr with status := t.intr.status, lastVec := t.intr.lastVec, delayed := t.intr.delayed, signalled := t.intr.signalled, pba := t.intr.pba }
        evt := t.evt, ports := t.ports, trace := t.trace }) ∧
  (∀ s t,
    (∃ dt port ql, exec (.esmcReceive dt port ql) s = .next t) →
      t = { s with
        time := t.time
        intr := { s.intr with status := t.intr.status, lastVec := t.intr.lastVec, delayed := t.intr.delayed, signalled := t.intr.signalled, pba := t.intr.pba }
        evt := t.evt, refs := t.refs
        sel := { t.sel with mode := s.sel.mode, manual := s.sel.manual, wtr := s.sel.wtr, actMode := s.sel.actMode, actManual := s.sel.actManual, actWtr := s.sel.actWtr, loopHeld := s.sel.loopHeld, integ := s.sel.integ, everLocked := s.sel.everLocked, lastUpdate := s.sel.lastUpdate }
        hold := t.hold, ports := t.ports, trace := t.trace }) ∧
  (∀ s t,
    (∃ dt f, exec (.cueAnnounce dt f) s = .next t) ∨ (∃ dt f, exec (.cueCancelFrame dt f) s = .next t) →
      t = { s with
        time := t.time
        intr := { s.intr with status := t.intr.status, lastVec := t.intr.lastVec, delayed := t.intr.delayed, signalled := t.intr.signalled, pba := t.intr.pba }
        evt := t.evt, dom := { s.dom with txSeq := t.dom.txSeq, queue := t.dom.queue }
        cue := { t.cue with closedGates := s.cue.closedGates, issued := s.cue.issued, results := s.cue.results, nextRound := s.cue.nextRound }
        cap := t.cap, ports := t.ports, mem := s.mem.storedTo t.mem, flt := s.flt.notedTo t.flt, trace := t.trace }) ∧
  (∀ s t,
    (∃ dt f, exec (.cueAck dt f) s = .next t) →
      t = { s with
        time := t.time
        intr := { s.intr with status := t.intr.status, lastVec := t.intr.lastVec, delayed := t.intr.delayed, signalled := t.intr.signalled, pba := t.intr.pba }
        evt := t.evt, cue := { s.cue with rounds := t.cue.rounds, cancels := t.cue.cancels }, ports := t.ports
        trace := t.trace }) ∧
  (∀ s t,
    (∃ dt, exec (.cueAckSend dt) s = .next t) →
      t = { s with
        time := t.time
        intr := { s.intr with status := t.intr.status, lastVec := t.intr.lastVec, delayed := t.intr.delayed, signalled := t.intr.signalled, pba := t.intr.pba }
        evt := t.evt, dom := { s.dom with txSeq := t.dom.txSeq, queue := t.dom.queue }
        cue := { s.cue with rounds := t.cue.rounds, cancels := t.cue.cancels, results := t.cue.results }, trace := t.trace }) ∧
  (∀ s t,
    (∃ dt, exec (.cuePrefetchStart dt) s = .next t) ∨ (∃ dt, exec (.cuePrefetchDeadline dt) s = .next t) →
      t = { s with
        time := t.time
        intr := { s.intr with status := t.intr.status, lastVec := t.intr.lastVec, delayed := t.intr.delayed, signalled := t.intr.signalled, pba := t.intr.pba }
        evt := t.evt, cue := s.cue.endedTo t.cue, cap := t.cap, mem := s.mem.storedTo t.mem, flt := s.flt.notedTo t.flt
        trace := t.trace }) ∧
  (∀ s t,
    (∃ dt, exec (.cueHandover dt) s = .next t) →
      t = { s with
        time := t.time, cue := { s.cue with rows := t.cue.rows } }) ∧
  (∀ s t,
    (∃ dt, exec (.cueExecute dt) s = .next t) →
      t = { s with
        time := t.time
        intr := { s.intr with status := t.intr.status, lastVec := t.intr.lastVec, delayed := t.intr.delayed, signalled := t.intr.signalled, pba := t.intr.pba }
        evt := t.evt, outs := t.outs
        cue := { s.cue with rows := t.cue.rows, executed := t.cue.executed, late := t.cue.late, dropped := t.cue.dropped, kept := t.cue.kept, closedGates := t.cue.closedGates }
        cap := t.cap, ports := t.ports, mem := s.mem.storedTo t.mem, flt := s.flt.notedTo t.flt, trace := t.trace }) ∧
  (∀ s t,
    (∃ dt, exec (.captureRingQuiescent dt) s = .next t) →
      t = { s with
        time := t.time, tci := s.tci.answeredTo t.tci
        intr := { s.intr with status := t.intr.status, lastVec := t.intr.lastVec, delayed := t.intr.delayed, signalled := t.intr.signalled, pba := t.intr.pba }
        evt := t.evt, win := { s.win with closing := t.win.closing }
        dom := { s.dom with txSeq := t.dom.txSeq, queue := t.dom.queue }, cap := { s.cap with draining := t.cap.draining }
        trace := t.trace })

/-- What Equinox, in-band, time-service, key, memory and fault events leave unchanged: every component of the state that is
not named is unchanged. -/
def Obligations.FrameOfEventsC : Prop :=
  (∀ s t,
    (∃ dt f, exec (.prepare dt f) s = .next t) →
      t = { s with
        time := t.time
        intr := { s.intr with status := t.intr.status, lastVec := t.intr.lastVec, delayed := t.intr.delayed, signalled := t.intr.signalled, pba := t.intr.pba }
        evt := t.evt, dom := { s.dom with txSeq := t.dom.txSeq, queue := t.dom.queue }, ports := t.ports, rnd := t.rnd
        trace := t.trace }) ∧
  (∀ s t,
    (∃ dt f, exec (.ready dt f) s = .next t) ∨ (∃ dt f, exec (.armed dt f) s = .next t)
    ∨ (∃ dt f, exec (.cancelAck dt f) s = .next t) →
      t = { s with
        time := t.time
        intr := { s.intr with status := t.intr.status, lastVec := t.intr.lastVec, delayed := t.intr.delayed, signalled := t.intr.signalled, pba := t.intr.pba }
        evt := t.evt, ports := t.ports, rnd := { s.rnd with up := t.rnd.up }, trace := t.trace }) ∧
  (∀ s t,
    (∃ dt f, exec (.arm dt f) s = .next t) →
      t = { s with
        time := t.time
        intr := { s.intr with status := t.intr.status, lastVec := t.intr.lastVec, delayed := t.intr.delayed, signalled := t.intr.signalled, pba := t.intr.pba }
        evt := t.evt, dom := { s.dom with txSeq := t.dom.txSeq, queue := t.dom.queue }
        cue := { s.cue with rows := t.cue.rows, nextSeq := t.cue.nextSeq }, ports := t.ports
        rnd := { s.rnd with part := t.rnd.part, seen := t.rnd.seen, up := t.rnd.up, lastReasons := t.rnd.lastReasons }
        trace := t.trace }) ∧
  (∀ s t,
    (∃ dt f, exec (.equinoxCancelFrame dt f) s = .next t) →
      t = { s with
        time := t.time
        intr := { s.intr with status := t.intr.status, lastVec := t.intr.lastVec, delayed := t.intr.delayed, signalled := t.intr.signalled, pba := t.intr.pba }
        evt := t.evt, dom := { s.dom with txSeq := t.dom.txSeq, queue := t.dom.queue }, cue := s.cue.endedTo t.cue
        cap := t.cap, ports := t.ports
        rnd := { s.rnd with part := t.rnd.part, seen := t.rnd.seen, up := t.rnd.up, lastOutcome := t.rnd.lastOutcome }
        mem := s.mem.storedTo t.mem, flt := s.flt.notedTo t.flt, trace := t.trace }) ∧
  (∀ s t,
    (∃ dt, exec (.roundUpSend dt) s = .next t) →
      t = { s with
        time := t.time, dom := { s.dom with txSeq := t.dom.txSeq, queue := t.dom.queue }, rnd := { s.rnd with up := t.rnd.up } }) ∧
  (∀ s t,
    (∃ dt, exec (.rootRoundAdvance dt) s = .next t) →
      t = { s with
        time := t.time, tci := s.tci.answeredTo t.tci
        intr := { s.intr with status := t.intr.status, lastVec := t.intr.lastVec, delayed := t.intr.delayed, signalled := t.intr.signalled, pba := t.intr.pba }
        evt := t.evt, win := { s.win with closing := t.win.closing }
        dom := { s.dom with txSeq := t.dom.txSeq, queue := t.dom.queue }
        cue := { s.cue with rows := t.cue.rows, nextSeq := t.cue.nextSeq, executed := t.cue.executed, late := t.cue.late, dropped := t.cue.dropped, kept := t.cue.kept }
        cap := t.cap
        rnd := { t.rnd with round := s.rnd.round, inst := s.rnd.inst, seen := s.rnd.seen, lastRound := s.rnd.lastRound, nextRound := s.rnd.nextRound }
        mem := s.mem.storedTo t.mem, flt := s.flt.notedTo t.flt, trace := t.trace }) ∧
  (∀ s t,
    (∃ dt, exec (.equinoxMissed dt) s = .next t) →
      t = { s with
        time := t.time
        intr := { s.intr with status := t.intr.status, lastVec := t.intr.lastVec, delayed := t.intr.delayed, signalled := t.intr.signalled, pba := t.intr.pba }
        evt := t.evt, banks := { s.banks with missed := t.banks.missed }
        rnd := { s.rnd with part := t.rnd.part, lastOutcome := t.rnd.lastOutcome }, trace := t.trace }) ∧
  (∀ s t,
    (∃ dt, exec (.equinoxPreloadDone dt) s = .next t) →
      t = { s with
        time := t.time, tci := s.tci.answeredTo t.tci
        intr := { s.intr with status := t.intr.status, lastVec := t.intr.lastVec, delayed := t.intr.delayed, signalled := t.intr.signalled, pba := t.intr.pba }
        evt := t.evt, win := { s.win with closing := t.win.closing }
        dom := { s.dom with txSeq := t.dom.txSeq, queue := t.dom.queue }
        cue := { s.cue with rows := t.cue.rows, nextSeq := t.cue.nextSeq }
        banks := { s.banks with changeId := t.banks.changeId, state := t.banks.state, preloaded := t.banks.preloaded }
        rnd := { s.rnd with part := t.rnd.part }, trace := t.trace }) ∧
  (∀ s t,
    (∃ dt, exec (.equinoxCommit dt) s = .next t) →
      t = { s with
        time := t.time, tci := { t.tci with doorbellErr := s.tci.doorbellErr, lost := s.tci.lost }
        intr := { s.intr with status := t.intr.status, lastVec := t.intr.lastVec, delayed := t.intr.delayed, signalled := t.intr.signalled, pba := t.intr.pba }
        evt := t.evt, win := { s.win with closing := t.win.closing }, inb := { s.inb with enable := t.inb.enable }
        meas := { t.meas with job := s.meas.job, linkCals := s.meas.linkCals }, refs := t.refs
        sel := { t.sel with mode := s.sel.mode, manual := s.sel.manual, wtr := s.sel.wtr, actMode := s.sel.actMode, actManual := s.sel.actManual, actWtr := s.sel.actWtr, loopHeld := s.sel.loopHeld, integ := s.sel.integ, everLocked := s.sel.everLocked, lastUpdate := s.sel.lastUpdate }
        hold := t.hold, outs := t.outs, gnss := t.gnss, dom := t.dom, cue := s.cue.endedTo t.cue, cap := t.cap
        ts := { t.ts with ledger := s.ts.ledger, hashSeed := s.ts.hashSeed, stranger := s.ts.stranger, strangerTick := s.ts.strangerTick, capDropAt := s.ts.capDropAt, offered := s.ts.offered, admitUse := s.ts.admitUse, denyKiss := s.ts.denyKiss, rotateDue := s.ts.rotateDue, rotateLate := s.ts.rotateLate, lastRotation := s.ts.lastRotation, foreignAt := s.ts.foreignAt, linkDelay := s.ts.linkDelay, linkPair := s.ts.linkPair, ptpNext := s.ts.ptpNext }
        ports := t.ports, sw := { s.sw with macs := t.sw.macs, peak := t.sw.peak, qCtr := t.sw.qCtr, nextId := t.sw.nextId }
        banks := t.banks, rnd := { s.rnd with part := t.rnd.part, lastOutcome := t.rnd.lastOutcome }, keys := t.keys
        bn := t.bn, mem := s.mem.storedTo t.mem, flt := s.flt.notedTo t.flt
        plat := { s.plat with flashWork := t.plat.flashWork }, trace := t.trace }) ∧
  (∀ s t,
    (∃ dt, exec (.bankDrained dt) s = .next t) →
      t = { s with
        time := t.time
        intr := { s.intr with status := t.intr.status, lastVec := t.intr.lastVec, delayed := t.intr.delayed, signalled := t.intr.signalled, pba := t.intr.pba }
        evt := t.evt, ports := t.ports, host := { s.host with queue := t.host.queue }, banks := t.banks, trace := t.trace }) ∧
  (∀ s t,
    (∃ dt, exec (.bankReseedDone dt) s = .next t) →
      t = { s with
        time := t.time
        banks := { s.banks with shadow := t.banks.shadow, edits := t.banks.edits, changeId := t.banks.changeId, state := t.banks.state, validated := t.banks.validated, preloaded := t.banks.preloaded }
        rnd := { s.rnd with part := t.rnd.part } }) ∧
  (∀ s t,
    (∃ dt, exec (.bankPersisted dt) s = .next t) →
      t = { s with
        time := t.time
        intr := { s.intr with status := t.intr.status, lastVec := t.intr.lastVec, delayed := t.intr.delayed, signalled := t.intr.signalled, pba := t.intr.pba }
        evt := t.evt, banks := { s.banks with persisted := t.banks.persisted, slots := t.banks.slots }, trace := t.trace }) ∧
  (∀ s t,
    (∃ dt headers, exec (.bankLostLoad dt headers) s = .next t) →
      t = { s with
        time := t.time
        intr := { s.intr with status := t.intr.status, lastVec := t.intr.lastVec, delayed := t.intr.delayed, signalled := t.intr.signalled, pba := t.intr.pba }
        evt := t.evt, meas := { t.meas with job := s.meas.job, linkCals := s.meas.linkCals }, refs := t.refs
        sel := { t.sel with mode := s.sel.mode, manual := s.sel.manual, wtr := s.sel.wtr, actMode := s.sel.actMode, actManual := s.sel.actManual, actWtr := s.sel.actWtr, loopHeld := s.sel.loopHeld, integ := s.sel.integ, everLocked := s.sel.everLocked, lastUpdate := s.sel.lastUpdate }
        hold := t.hold, outs := t.outs, gnss := t.gnss, dom := t.dom
        ts := { s.ts with ntp := t.ts.ntp, nts := t.ts.nts, ptp := t.ts.ptp, draining := t.ts.draining, derivedAt := t.ts.derivedAt, grants := t.ts.grants, load := t.ts.load, waiting := t.ts.waiting, credit := t.ts.credit, servedAt := t.ts.servedAt, counters := t.ts.counters, announceAt := t.ts.announceAt, ptpSeq := t.ts.ptpSeq, master := t.ts.master, masterId := t.ts.masterId, pair := t.ts.pair }
        ports := t.ports, sw := { s.sw with macs := t.sw.macs, peak := t.sw.peak, qCtr := t.sw.qCtr, nextId := t.sw.nextId }
        banks := { t.banks with drainFrom := s.banks.drainFrom, drainDrops := s.banks.drainDrops, lastDrain := s.banks.lastDrain, drainDrop := s.banks.drainDrop, missed := s.banks.missed, lastCommit := s.banks.lastCommit, checkOk := s.banks.checkOk }
        rnd := { s.rnd with part := t.rnd.part }, keys := { s.keys with cache := t.keys.cache }, flt := s.flt.notedTo t.flt
        trace := t.trace }) ∧
  (∀ s t,
    (∃ dt f, exec (.inbandRequest dt f) s = .next t) →
      t = { s with
        time := t.time, leap := { t.leap with flash := s.leap.flash }, stamps := t.stamps
        pace := { s.pace with lowest := t.pace.lowest, pct := t.pace.pct }
        tci := { t.tci with doorbellErr := s.tci.doorbellErr }
        intr := { s.intr with status := t.intr.status, lastVec := t.intr.lastVec, delayed := t.intr.delayed, signalled := t.intr.signalled, pba := t.intr.pba }
        evt := t.evt
        win := { t.win with raw := s.win.raw, rawAt := s.win.rawAt, present := s.win.present, pressAt := s.win.pressAt, counted := s.win.counted, stray := s.win.stray }
        sealLoop := { t.sealLoop with closed := s.sealLoop.closed, closedAt := s.sealLoop.closedAt, missAt := s.sealLoop.missAt }
        inb := t.inb, fw := t.fw, meas := t.meas, refs := t.refs
        sel := { t.sel with actMode := s.sel.actMode, actManual := s.sel.actManual, actWtr := s.sel.actWtr, everLocked := s.sel.everLocked, lastUpdate := s.sel.lastUpdate }
        hold := t.hold, outs := t.outs, gnss := t.gnss, dom := t.dom
        cue := { t.cue with closedGates := s.cue.closedGates, results := s.cue.results }, cap := t.cap
        ts := { t.ts with ledger := s.ts.ledger, hashSeed := s.ts.hashSeed, stranger := s.ts.stranger, strangerTick := s.ts.strangerTick, capDropAt := s.ts.capDropAt, offered := s.ts.offered, admitUse := s.ts.admitUse, denyKiss := s.ts.denyKiss, rotateDue := s.ts.rotateDue, rotateLate := s.ts.rotateLate, lastRotation := s.ts.lastRotation, foreignAt := s.ts.foreignAt, linkDelay := s.ts.linkDelay, linkPair := s.ts.linkPair, ptpNext := s.ts.ptpNext }
        ports := t.ports, host := { t.host with queue := s.host.queue }, sw := t.sw, banks := t.banks, rnd := t.rnd
        keys := t.keys, bn := t.bn
        mem := { t.mem with erasure := s.mem.erasure, retired := s.mem.retired, retiredDirty := s.mem.retiredDirty, retiredFlash := s.mem.retiredFlash, spare := s.mem.spare, sramRepeat := s.mem.sramRepeat, rewrites := s.mem.rewrites, lastPatrol := s.mem.lastPatrol, patrolLine := s.mem.patrolLine, patrolAt := s.mem.patrolAt, flipped := s.mem.flipped, flash := s.mem.flash }
        flt := t.flt, mid := { t.mid with overwritten := s.mid.overwritten }, plat := t.plat, trace := t.trace, free := t.free }) ∧
  (∀ s t,
    (∃ dt f, exec (.inbandResponse dt f) s = .next t) →
      t = { s with
        time := t.time, tci := s.tci.answeredTo t.tci
        intr := { s.intr with status := t.intr.status, lastVec := t.intr.lastVec, delayed := t.intr.delayed, signalled := t.intr.signalled, pba := t.intr.pba }
        evt := t.evt, win := { s.win with closing := t.win.closing }
        dom := { s.dom with txSeq := t.dom.txSeq, queue := t.dom.queue }, ports := t.ports, trace := t.trace }) ∧
  (∀ s t,
    (∃ dt, exec (.inbandTimeout dt) s = .next t) →
      t = { s with
        time := t.time, tci := s.tci.answeredTo t.tci
        intr := { s.intr with status := t.intr.status, lastVec := t.intr.lastVec, delayed := t.intr.delayed, signalled := t.intr.signalled, pba := t.intr.pba }
        evt := t.evt, win := { s.win with closing := t.win.closing }
        dom := { s.dom with txSeq := t.dom.txSeq, queue := t.dom.queue }, trace := t.trace }) ∧
  (∀ s t,
    (∃ dt, exec (.inbandQuiescent dt) s = .next t) →
      t = { s with
        time := t.time, tci := s.tci.answeredTo t.tci
        intr := { s.intr with status := t.intr.status, lastVec := t.intr.lastVec, delayed := t.intr.delayed, signalled := t.intr.signalled, pba := t.intr.pba }
        evt := t.evt, win := { s.win with closing := t.win.closing }, inb := { s.inb with disabling := t.inb.disabling }
        dom := { s.dom with txSeq := t.dom.txSeq, queue := t.dom.queue }, trace := t.trace }) ∧
  (∀ s t,
    (∃ dt r, exec (.ntpRequest dt r) s = .next t) ∨ (∃ dt r, exec (.serviceArp dt r) s = .next t)
    ∨ (∃ dt m, exec (.ptpEventMessage dt m) s = .next t) ∨ (∃ dt m, exec (.unicastNegotiation dt m) s = .next t) →
      t = { s with
        time := t.time
        intr := { s.intr with status := t.intr.status, lastVec := t.intr.lastVec, delayed := t.intr.delayed, signalled := t.intr.signalled, pba := t.intr.pba }
        evt := t.evt, ts := t.ts, ports := t.ports
        sw := { s.sw with peak := t.sw.peak, qCtr := t.sw.qCtr, nextId := t.sw.nextId }, trace := t.trace }) ∧
  (∀ s t,
    (∃ dt r, exec (.ntsRequest dt r) s = .next t) →
      t = { s with
        time := t.time
        intr := { s.intr with status := t.intr.status, lastVec := t.intr.lastVec, delayed := t.intr.delayed, signalled := t.intr.signalled, pba := t.intr.pba }
        evt := t.evt, ts := t.ts, ports := t.ports
        sw := { s.sw with peak := t.sw.peak, qCtr := t.sw.qCtr, nextId := t.sw.nextId }
        bn := { s.bn with generates := t.bn.generates }, trace := t.trace, free := t.free }) ∧
  (∀ s t,
    (∃ dt r, exec (.denyRequest dt r) s = .next t) →
      t = { s with
        time := t.time
        intr := { s.intr with status := t.intr.status, lastVec := t.intr.lastVec, delayed := t.intr.delayed, signalled := t.intr.signalled, pba := t.intr.pba }
        evt := t.evt
        ts := { s.ts with ledger := t.ts.ledger, grants := t.ts.grants, denyKiss := t.ts.denyKiss, counters := t.ts.counters }
        ports := t.ports, sw := { s.sw with peak := t.sw.peak, qCtr := t.sw.qCtr, nextId := t.sw.nextId }, trace := t.trace }) ∧
  (∀ s t,
    (∃ dt port msg, exec (.ptpMessageSend dt port msg) s = .next t) →
      t = { s with
        time := t.time
        intr := { s.intr with status := t.intr.status, lastVec := t.intr.lastVec, delayed := t.intr.delayed, signalled := t.intr.signalled, pba := t.intr.pba }
        evt := t.evt
        ts := { s.ts with grants := t.ts.grants, load := t.ts.load, waiting := t.ts.waiting, credit := t.ts.credit, servedAt := t.ts.servedAt, counters := t.ts.counters, ptpSeq := t.ts.ptpSeq, ptpNext := t.ts.ptpNext, pair := t.ts.pair }
        ports := t.ports, sw := { s.sw with peak := t.sw.peak, qCtr := t.sw.qCtr, nextId := t.sw.nextId }, trace := t.trace
        free := t.free }) ∧
  (∀ s t,
    (∃ dt m, exec (.ptpForeignMaster dt m) s = .next t) →
      t = { s with
        time := t.time
        intr := { s.intr with status := t.intr.status, lastVec := t.intr.lastVec, delayed := t.intr.delayed, signalled := t.intr.signalled, pba := t.intr.pba }
        evt := t.evt
        ts := { s.ts with load := t.ts.load, waiting := t.ts.waiting, credit := t.ts.credit, servedAt := t.ts.servedAt, counters := t.ts.counters, foreignAt := t.ts.foreignAt }
        trace := t.trace }) ∧
  (∀ s t,
    (∃ dt port m, exec (.ptpSlaveAnnounce dt port m) s = .next t) →
      t = { s with
        time := t.time
        intr := { s.intr with status := t.intr.status, lastVec := t.intr.lastVec, delayed := t.intr.delayed, signalled := t.intr.signalled, pba := t.intr.pba }
        evt := t.evt, refs := t.refs
        sel := { t.sel with mode := s.sel.mode, manual := s.sel.manual, wtr := s.sel.wtr, actMode := s.sel.actMode, actManual := s.sel.actManual, actWtr := s.sel.actWtr, loopHeld := s.sel.loopHeld, integ := s.sel.integ, everLocked := s.sel.everLocked, lastUpdate := s.sel.lastUpdate }
        hold := t.hold
        ts := { s.ts with load := t.ts.load, waiting := t.ts.waiting, credit := t.ts.credit, servedAt := t.ts.servedAt, counters := t.ts.counters, announceAt := t.ts.announceAt, ptpSeq := t.ts.ptpSeq, master := t.ts.master, masterId := t.ts.masterId, pair := t.ts.pair }
        ports := t.ports, sw := { s.sw with peak := t.sw.peak, qCtr := t.sw.qCtr, nextId := t.sw.nextId }, trace := t.trace }) ∧
  (∀ s t,
    (∃ dt, exec (.ptpAnnounceTimeout dt) s = .next t) →
      t = { s with
        time := t.time
        intr := { s.intr with status := t.intr.status, lastVec := t.intr.lastVec, delayed := t.intr.delayed, signalled := t.intr.signalled, pba := t.intr.pba }
        evt := t.evt, refs := t.refs
        sel := { t.sel with mode := s.sel.mode, manual := s.sel.manual, wtr := s.sel.wtr, actMode := s.sel.actMode, actManual := s.sel.actManual, actWtr := s.sel.actWtr, loopHeld := s.sel.loopHeld, integ := s.sel.integ, everLocked := s.sel.everLocked, lastUpdate := s.sel.lastUpdate }
        hold := t.hold, ts := { s.ts with announceAt := t.ts.announceAt, masterId := t.ts.masterId }, trace := t.trace }) ∧
  (∀ s t,
    (∃ dt, exec (.grantExpire dt) s = .next t) →
      t = { s with
        time := t.time, ts := { s.ts with grants := t.ts.grants } }) ∧
  (∀ s t,
    (∃ dt port heard m phase lane, exec (.pdelayMeasure dt port heard m phase lane) s = .next t) →
      t = { s with
        time := t.time
        intr := { s.intr with status := t.intr.status, lastVec := t.intr.lastVec, delayed := t.intr.delayed, signalled := t.intr.signalled, pba := t.intr.pba }
        evt := t.evt
        ts := { s.ts with load := t.ts.load, waiting := t.ts.waiting, credit := t.ts.credit, servedAt := t.ts.servedAt, counters := t.ts.counters, linkDelay := t.ts.linkDelay, linkPair := t.ts.linkPair, ptpSeq := t.ts.ptpSeq, ptpNext := t.ts.ptpNext }
        ports := t.ports, sw := { s.sw with peak := t.sw.peak, qCtr := t.sw.qCtr, nextId := t.sw.nextId }, trace := t.trace }) ∧
  (∀ s t,
    (∃ dt, exec (.cookieRotate dt) s = .next t) →
      t = { s with
        time := t.time
        ts := { s.ts with rotating := t.ts.rotating, rotateLate := t.ts.rotateLate, counters := t.ts.counters }
        keys := { s.keys with writes := t.keys.writes }, bn := { s.bn with generates := t.bn.generates }, free := t.free }) ∧
  (∀ s t,
    (∃ dt, exec (.tsFunctionQuiescent dt) s = .next t) →
      t = { s with
        time := t.time, ts := { s.ts with draining := t.ts.draining } }) ∧
  (∀ s t,
    (∃ dt, exec (.ledgerFlushDone dt) s = .next t) →
      t = { s with
        time := t.time, tci := s.tci.answeredTo t.tci
        intr := { s.intr with status := t.intr.status, lastVec := t.intr.lastVec, delayed := t.intr.delayed, signalled := t.intr.signalled, pba := t.intr.pba }
        evt := t.evt, win := { s.win with closing := t.win.closing }
        dom := { s.dom with txSeq := t.dom.txSeq, queue := t.dom.queue }
        ts := { s.ts with ledger := t.ts.ledger, grants := t.ts.grants, load := t.ts.load, waiting := t.ts.waiting, credit := t.ts.credit, servedAt := t.ts.servedAt, counters := t.ts.counters, ptpSeq := t.ts.ptpSeq }
        ports := t.ports, sw := { s.sw with peak := t.sw.peak, qCtr := t.sw.qCtr, nextId := t.sw.nextId }, trace := t.trace }) ∧
  (∀ s t,
    (∃ dt data, exec (.bnOpStart dt data) s = .next t) →
      t = { s with
        time := t.time, tci := s.tci.answeredTo t.tci
        intr := { s.intr with status := t.intr.status, lastVec := t.intr.lastVec, delayed := t.intr.delayed, signalled := t.intr.signalled, pba := t.intr.pba }
        evt := t.evt, win := { s.win with closing := t.win.closing }
        dom := { s.dom with txSeq := t.dom.txSeq, queue := t.dom.queue }
        bn := { s.bn with lanes := t.bn.lanes, queue := t.bn.queue }, trace := t.trace }) ∧
  (∀ s t,
    (∃ dt lane glitch late, exec (.bnOpRelease dt lane glitch late) s = .next t) →
      t = { s with
        time := t.time, tci := s.tci.answeredTo t.tci
        intr := { s.intr with status := t.intr.status, lastVec := t.intr.lastVec, delayed := t.intr.delayed, signalled := t.intr.signalled, pba := t.intr.pba }
        evt := t.evt, win := { s.win with closing := t.win.closing }
        dom := { s.dom with txSeq := t.dom.txSeq, queue := t.dom.queue }, bn := t.bn, flt := s.flt.notedTo t.flt
        trace := t.trace }) ∧
  (∀ s t,
    (∃ dt lane, exec (.bnLaneZeroised dt lane) s = .next t) →
      t = { s with
        time := t.time, tci := s.tci.answeredTo t.tci
        intr := { s.intr with status := t.intr.status, lastVec := t.intr.lastVec, delayed := t.intr.delayed, signalled := t.intr.signalled, pba := t.intr.pba }
        evt := t.evt, win := { s.win with closing := t.win.closing }
        dom := { s.dom with txSeq := t.dom.txSeq, queue := t.dom.queue }, bn := { s.bn with lanes := t.bn.lanes }
        trace := t.trace }) ∧
  (∀ s t,
    (∃ dt, exec (.bnDrainComplete dt) s = .next t) →
      t = { s with
        time := t.time, tci := s.tci.answeredTo t.tci
        intr := { s.intr with status := t.intr.status, lastVec := t.intr.lastVec, delayed := t.intr.delayed, signalled := t.intr.signalled, pba := t.intr.pba }
        evt := t.evt, win := { s.win with closing := t.win.closing }
        dom := { s.dom with txSeq := t.dom.txSeq, queue := t.dom.queue }, bn := { s.bn with draining := t.bn.draining }
        trace := t.trace }) ∧
  (∀ s t,
    (∃ dt, exec (.keyStoreWriteDone dt) s = .next t) →
      t = { s with
        time := t.time, tci := s.tci.answeredTo t.tci
        intr := { s.intr with status := t.intr.status, lastVec := t.intr.lastVec, delayed := t.intr.delayed, signalled := t.intr.signalled, pba := t.intr.pba }
        evt := t.evt, win := { s.win with closing := t.win.closing }
        dom := { s.dom with txSeq := t.dom.txSeq, queue := t.dom.queue }, ts := t.ts
        keys := { t.keys with erase := s.keys.erase, cache := s.keys.cache }, trace := t.trace }) ∧
  (∀ s t,
    (∃ dt good, exec (.entropyHealth dt good) s = .next t) →
      t = { s with
        time := t.time
        intr := { s.intr with status := t.intr.status, lastVec := t.intr.lastVec, delayed := t.intr.delayed, signalled := t.intr.signalled, pba := t.intr.pba }
        evt := t.evt, bn := { s.bn with entropyOk := t.bn.entropyOk, generates := t.bn.generates }, flt := s.flt.notedTo t.flt
        trace := t.trace }) ∧
  (∀ s t,
    (∃ dt master region line soft stuck, exec (.dramReadCorrect dt master region line soft stuck) s = .next t) →
      t = { s with
        time := t.time
        intr := { s.intr with status := t.intr.status, lastVec := t.intr.lastVec, delayed := t.intr.delayed, signalled := t.intr.signalled, pba := t.intr.pba }
        evt := t.evt
        mem := { s.mem with lines := t.mem.lines, recent := t.mem.recent, repeats := t.mem.repeats, toRetire := t.mem.toRetire, flip := t.mem.flip, counters := t.mem.counters }
        flt := s.flt.notedTo t.flt, trace := t.trace }) ∧
  (∀ s t,
    (∃ dt, exec (.repeatWindowExpire dt) s = .next t) →
      t = { s with
        time := t.time, mem := { s.mem with repeats := t.mem.repeats, sramRepeat := t.mem.sramRepeat } }) ∧
  (∀ s t,
    (∃ dt device, exec (.dramErasureMark dt device) s = .next t) →
      t = { s with
        time := t.time
        intr := { s.intr with status := t.intr.status, lastVec := t.intr.lastVec, delayed := t.intr.delayed, signalled := t.intr.signalled, pba := t.intr.pba }
        evt := t.evt, mem := { s.mem with erasure := t.mem.erasure }, flt := s.flt.notedTo t.flt, trace := t.trace }) ∧
  (∀ s t,
    (∃ dt master region line soft stuck, exec (.dramUncorrectableRead dt master region line soft stuck) s = .next t) →
      t = { s with
        time := t.time
        intr := { s.intr with status := t.intr.status, lastVec := t.intr.lastVec, delayed := t.intr.delayed, signalled := t.intr.signalled, pba := t.intr.pba }
        evt := t.evt, cue := s.cue.endedTo t.cue, cap := t.cap, ts := { s.ts with ledger := t.ts.ledger }
        mem := s.mem.storedTo t.mem, flt := s.flt.notedTo t.flt, trace := t.trace }) ∧
  (∀ s t,
    (∃ dt, exec (.pageRetire dt) s = .next t) →
      t = { s with
        time := t.time
        intr := { s.intr with status := t.intr.status, lastVec := t.intr.lastVec, delayed := t.intr.delayed, signalled := t.intr.signalled, pba := t.intr.pba }
        evt := t.evt
        mem := { s.mem with lines := t.mem.lines, recent := t.mem.recent, repeats := t.mem.repeats, retired := t.mem.retired, retiredDirty := t.mem.retiredDirty, spare := t.mem.spare, toRetire := t.mem.toRetire, flip := t.mem.flip, counters := t.mem.counters }
        flt := s.flt.notedTo t.flt, trace := t.trace }) ∧
  (∀ s t,
    (∃ dt, exec (.retirementPersist dt) s = .next t) →
      t = { s with
        time := t.time, mem := { s.mem with retiredDirty := t.mem.retiredDirty, retiredFlash := t.mem.retiredFlash } }) ∧
  (∀ s t,
    (∃ dt soft stuck, exec (.patrolLine dt soft stuck) s = .next t) →
      t = { s with
        time := t.time
        intr := { s.intr with status := t.intr.status, lastVec := t.intr.lastVec, delayed := t.intr.delayed, signalled := t.intr.signalled, pba := t.intr.pba }
        evt := t.evt
        mem := { s.mem with lines := t.mem.lines, recent := t.mem.recent, repeats := t.mem.repeats, toRetire := t.mem.toRetire, lastPatrol := t.mem.lastPatrol, patrolLine := t.mem.patrolLine, patrolAt := t.mem.patrolAt, flip := t.mem.flip, counters := t.mem.counters }
        flt := s.flt.notedTo t.flt, trace := t.trace }) ∧
  (∀ s t,
    (∃ dt, exec (.memScrubDone dt) s = .next t) →
      t = { s with
        time := t.time, tci := s.tci.answeredTo t.tci
        intr := { s.intr with status := t.intr.status, lastVec := t.intr.lastVec, delayed := t.intr.delayed, signalled := t.intr.signalled, pba := t.intr.pba }
        evt := t.evt, win := { s.win with closing := t.win.closing }
        dom := { s.dom with txSeq := t.dom.txSeq, queue := t.dom.queue }
        mem := { s.mem with lines := t.mem.lines, recent := t.mem.recent, repeats := t.mem.repeats, toRetire := t.mem.toRetire, flip := t.mem.flip, scrub := t.mem.scrub, counters := t.mem.counters }
        flt := s.flt.notedTo t.flt, trace := t.trace }) ∧
  (∀ s t,
    (∃ dt master array bank row word, exec (.sramCorrect dt master array bank row word) s = .next t) →
      t = { s with
        time := t.time
        intr := { s.intr with status := t.intr.status, lastVec := t.intr.lastVec, delayed := t.intr.delayed, signalled := t.intr.signalled, pba := t.intr.pba }
        evt := t.evt
        mem := { s.mem with flagged := t.mem.flagged, flaggedFlash := t.mem.flaggedFlash, sramRepeat := t.mem.sramRepeat, flipped := t.mem.flipped, counters := t.mem.counters }
        flt := s.flt.notedTo t.flt, plat := { s.plat with flashWork := t.plat.flashWork }, trace := t.trace }) ∧
  (∀ s t,
    (∃ dt master array bank row word a b, exec (.sramUncorrectable dt master array bank row word a b) s = .next t) →
      t = { s with
        time := t.time
        intr := { s.intr with status := t.intr.status, lastVec := t.intr.lastVec, delayed := t.intr.delayed, signalled := t.intr.signalled, pba := t.intr.pba }
        evt := t.evt, cue := s.cue.endedTo t.cue, cap := t.cap, ports := t.ports, host := t.host
        sw := { s.sw with macs := t.sw.macs, groups := t.sw.groups, absent := t.sw.absent }
        keys := { s.keys with slot := t.keys.slot }
        mem := { s.mem with bytes := t.mem.bytes, lines := t.mem.lines, recent := t.mem.recent, repeats := t.mem.repeats, toRetire := t.mem.toRetire, rewrites := t.mem.rewrites, flip := t.mem.flip, flipped := t.mem.flipped, counters := t.mem.counters }
        flt := s.flt.notedTo t.flt, trace := t.trace }) ∧
  (∀ s t,
    (∃ dt, exec (.bankEntryRewrite dt) s = .next t) →
      t = { s with
        time := t.time, sw := { s.sw with absent := t.sw.absent }, keys := { s.keys with slot := t.keys.slot }
        mem := { s.mem with rewrites := t.mem.rewrites } }) ∧
  (∀ s t,
    (∃ dt part device page corrected ageDays lostSectors badBlocks, exec (.flashRefreshScan dt part device page corrected ageDays lostSectors badBlocks) s = .next t) →
      t = { s with
        time := t.time
        intr := { s.intr with status := t.intr.status, lastVec := t.intr.lastVec, delayed := t.intr.delayed, signalled := t.intr.signalled, pba := t.intr.pba }
        evt := t.evt, fw := t.fw, mem := { s.mem with counters := t.mem.counters, flash := t.mem.flash }
        flt := s.flt.notedTo t.flt, mid := { s.mid with loc := t.mid.loc }
        plat := { s.plat with flashWork := t.plat.flashWork }, trace := t.trace }) ∧
  (∀ s t,
    (∃ dt data, exec (.flipMaskWrite dt data) s = .next t) →
      t = { s with
        time := t.time
        intr := { s.intr with status := t.intr.status, lastVec := t.intr.lastVec, delayed := t.intr.delayed, signalled := t.intr.signalled, pba := t.intr.pba }
        evt := t.evt, mem := t.mem, flt := s.flt.notedTo t.flt, trace := t.trace }) ∧
  (∀ s t,
    (∃ dt source master access address injected, exec (.faultEvent dt source master access address injected) s = .next t)
    ∨ (∃ dt source channel, exec (.sentinelTakeover dt source channel) s = .next t) →
      t = { s with
        time := t.time, tci := { t.tci with doorbellErr := s.tci.doorbellErr }
        intr := { s.intr with status := t.intr.status, lastVec := t.intr.lastVec, delayed := t.intr.delayed, signalled := t.intr.signalled, pba := t.intr.pba }
        evt := t.evt
        win := { s.win with state := t.win.state, held := t.win.held, pressIn := t.win.pressIn, actions := t.win.actions, closing := t.win.closing }
        inb := { s.inb with enable := t.inb.enable, disabling := t.inb.disabling }, fw := t.fw
        meas := { t.meas with job := s.meas.job }, refs := t.refs
        sel := { t.sel with mode := s.sel.mode, manual := s.sel.manual, wtr := s.sel.wtr, actMode := s.sel.actMode, actManual := s.sel.actManual, actWtr := s.sel.actWtr, loopHeld := s.sel.loopHeld, integ := s.sel.integ, everLocked := s.sel.everLocked, lastUpdate := s.sel.lastUpdate }
        hold := t.hold, outs := t.outs, gnss := t.gnss, dom := t.dom
        ts := { t.ts with ledger := s.ts.ledger, hashSeed := s.ts.hashSeed, stranger := s.ts.stranger, strangerTick := s.ts.strangerTick, capDropAt := s.ts.capDropAt, offered := s.ts.offered, admitUse := s.ts.admitUse, denyKiss := s.ts.denyKiss, rotateDue := s.ts.rotateDue, rotateLate := s.ts.rotateLate, lastRotation := s.ts.lastRotation, foreignAt := s.ts.foreignAt, linkDelay := s.ts.linkDelay, linkPair := s.ts.linkPair, ptpNext := s.ts.ptpNext }
        ports := t.ports, sw := { s.sw with macs := t.sw.macs, peak := t.sw.peak, qCtr := t.sw.qCtr, nextId := t.sw.nextId }
        banks := t.banks, keys := t.keys, bn := t.bn, flt := t.flt
        mid := { t.mid with overwritten := s.mid.overwritten, erase := s.mid.erase }
        plat := { s.plat with flashWork := t.plat.flashWork }, trace := t.trace, free := t.free }) ∧
  (∀ s t,
    (∃ dt index, exec (.faultServiced dt index) s = .next t) ∨ (∃ dt, exec (.faultWindowExpire dt) s = .next t)
    ∨ (∃ dt, exec (.faultQuietExpire dt) s = .next t) →
      t = { s with
        time := t.time
        intr := { s.intr with status := t.intr.status, lastVec := t.intr.lastVec, delayed := t.intr.delayed, signalled := t.intr.signalled, pba := t.intr.pba }
        evt := t.evt
        flt := { s.flt with records := t.flt.records, src := t.flt.src, frozen := t.flt.frozen, faultN := t.flt.faultN, recoveries := t.flt.recoveries, nextOpen := t.flt.nextOpen, takeRec := t.flt.takeRec }
        trace := t.trace }) ∧
  (∀ s t,
    (∃ dt, exec (.takeoverStartTimeout dt) s = .next t) →
      t = { s with
        time := t.time
        intr := { s.intr with status := t.intr.status, lastVec := t.intr.lastVec, delayed := t.intr.delayed, signalled := t.intr.signalled, pba := t.intr.pba }
        evt := t.evt
        fw := { s.fw with slot := t.fw.slot, fallback := t.fw.fallback, recovery := t.fw.recovery, imageOk := t.fw.imageOk }
        flt := t.flt, trace := t.trace }) ∧
  (∀ s t,
    (∃ dt same, exec (.bankCheck dt same) s = .next t) →
      t = { s with
        time := t.time
        intr := { s.intr with status := t.intr.status, lastVec := t.intr.lastVec, delayed := t.intr.delayed, signalled := t.intr.signalled, pba := t.intr.pba }
        evt := t.evt, banks := { s.banks with checkOk := t.banks.checkOk }
        flt := { s.flt with records := t.flt.records, src := t.flt.src, frozen := t.flt.frozen, faultN := t.flt.faultN, recoveries := t.flt.recoveries, ledgerFull := t.flt.ledgerFull, nextOpen := t.flt.nextOpen, takeRec := t.flt.takeRec, checkDue := t.flt.checkDue, checkFailed := t.flt.checkFailed }
        trace := t.trace }) ∧
  (∀ s t,
    (∃ dt bytes truncated, exec (.midwinterStored dt bytes truncated) s = .next t) →
      t = { s with
        time := t.time
        intr := { s.intr with status := t.intr.status, lastVec := t.intr.lastVec, delayed := t.intr.delayed, signalled := t.intr.signalled, pba := t.intr.pba }
        evt := t.evt, mid := { t.mid with nextSeq := s.mid.nextSeq }, plat := { s.plat with flashWork := t.plat.flashWork }
        trace := t.trace }) ∧
  (∀ s t,
    (∃ dt, exec (.midwinterSlotErase dt) s = .next t) →
      t = { s with
        time := t.time
        intr := { s.intr with status := t.intr.status, lastVec := t.intr.lastVec, delayed := t.intr.delayed, signalled := t.intr.signalled, pba := t.intr.pba }
        mid := { s.mid with loc := t.mid.loc, erase := t.mid.erase }, plat := { s.plat with flashWork := t.plat.flashWork }
        trace := t.trace }) ∧
  (∀ s t,
    (∃ dt hasSource cmd, exec (.coreException dt hasSource cmd) s = .next t) →
      t = { s with
        time := t.time, tci := s.tci.answeredTo t.tci
        intr := { s.intr with status := t.intr.status, lastVec := t.intr.lastVec, delayed := t.intr.delayed, signalled := t.intr.signalled, pba := t.intr.pba }
        evt := t.evt, win := { s.win with closing := t.win.closing }
        dom := { s.dom with txSeq := t.dom.txSeq, queue := t.dom.queue }
        flt := { s.flt with records := t.flt.records, src := t.flt.src, frozen := t.flt.frozen, faultN := t.flt.faultN, recoveries := t.flt.recoveries, ledgerFull := t.flt.ledgerFull, nextOpen := t.flt.nextOpen, takeRec := t.flt.takeRec, excs := t.flt.excs }
        trace := t.trace }) ∧
  (∀ s t,
    (∃ dt, exec (.resetNRelease dt) s = .next t) →
      t = { s with
        time := t.time, plat := { s.plat with resetN := t.plat.resetN, inReset := t.plat.inReset } }) ∧
  (∀ s t,
    (∃ dt, exec (.processorOnlyRestart dt) s = .next t) →
      t = { s with
        time := t.time, tci := { t.tci with doorbellErr := s.tci.doorbellErr }
        intr := { s.intr with status := t.intr.status, lastVec := t.intr.lastVec, delayed := t.intr.delayed, signalled := t.intr.signalled, pba := t.intr.pba }
        evt := t.evt
        win := { s.win with state := t.win.state, held := t.win.held, pressIn := t.win.pressIn, actions := t.win.actions, closing := t.win.closing }
        inb := { s.inb with enable := t.inb.enable, disabling := t.inb.disabling }, fw := t.fw
        meas := { t.meas with job := s.meas.job }, refs := t.refs
        sel := { t.sel with mode := s.sel.mode, manual := s.sel.manual, wtr := s.sel.wtr, actMode := s.sel.actMode, actManual := s.sel.actManual, actWtr := s.sel.actWtr, loopHeld := s.sel.loopHeld, integ := s.sel.integ, everLocked := s.sel.everLocked, lastUpdate := s.sel.lastUpdate }
        hold := t.hold, outs := t.outs, gnss := t.gnss, dom := t.dom
        ts := { t.ts with ledger := s.ts.ledger, hashSeed := s.ts.hashSeed, stranger := s.ts.stranger, strangerTick := s.ts.strangerTick, capDropAt := s.ts.capDropAt, offered := s.ts.offered, admitUse := s.ts.admitUse, denyKiss := s.ts.denyKiss, rotateDue := s.ts.rotateDue, rotateLate := s.ts.rotateLate, lastRotation := s.ts.lastRotation, foreignAt := s.ts.foreignAt, linkDelay := s.ts.linkDelay, linkPair := s.ts.linkPair, ptpNext := s.ts.ptpNext }
        ports := t.ports, sw := { s.sw with macs := t.sw.macs, peak := t.sw.peak, qCtr := t.sw.qCtr, nextId := t.sw.nextId }
        banks := t.banks, keys := t.keys, bn := t.bn
        flt := { s.flt with records := t.flt.records, src := t.flt.src, frozen := t.flt.frozen, faultN := t.flt.faultN, recoveries := t.flt.recoveries, ledgerFull := t.flt.ledgerFull, nextOpen := t.flt.nextOpen, takeRec := t.flt.takeRec, excs := t.flt.excs }
        plat := { s.plat with flashWork := t.plat.flashWork }, trace := t.trace }) ∧
  (∀ s t,
    (∃ dt link, exec (.pcieLinkUp dt link) s = .next t) →
      t = { s with
        time := t.time, intr := { s.intr with msixEn := t.intr.msixEn }
        plat := { s.plat with pcieUp := t.plat.pcieUp, pcieGen := t.plat.pcieGen, pcieWidth := t.plat.pcieWidth } }) ∧
  (∀ s t,
    (∃ dt vector, exec (.hportHoldoffExpire dt vector) s = .next t) →
      t = { s with
        time := t.time
        intr := { s.intr with lastVec := t.intr.lastVec, delayed := t.intr.delayed, signalled := t.intr.signalled, pba := t.intr.pba }
        trace := t.trace }) ∧
  (∀ s t,
    (∃ dt back, exec (.sealClosedChange dt back) s = .next t) →
      t = { s with
        time := t.time
        intr := { s.intr with status := t.intr.status, lastVec := t.intr.lastVec, delayed := t.intr.delayed, signalled := t.intr.signalled, pba := t.intr.pba }
        evt := t.evt, sealLoop := t.sealLoop, trace := t.trace }) ∧
  (∀ s t,
    (∃ dt, exec (.validationDone dt) s = .next t) →
      t = { s with
        time := t.time, tci := s.tci.answeredTo t.tci
        intr := { s.intr with status := t.intr.status, lastVec := t.intr.lastVec, delayed := t.intr.delayed, signalled := t.intr.signalled, pba := t.intr.pba }
        evt := t.evt, win := { s.win with closing := t.win.closing }
        dom := { s.dom with txSeq := t.dom.txSeq, queue := t.dom.queue }
        banks := { s.banks with validated := t.banks.validated }, trace := t.trace }) ∧
  (∀ s t,
    (∃ dt ma, exec (.antennaBiasReapply dt ma) s = .next t) →
      t = { s with
        time := t.time
        intr := { s.intr with status := t.intr.status, lastVec := t.intr.lastVec, delayed := t.intr.delayed, signalled := t.intr.signalled, pba := t.intr.pba }
        evt := t.evt
        gnss := { s.gnss with biasMv := t.gnss.biasMv, antenna := t.gnss.antenna, antennaMa := t.gnss.antennaMa, reapplyAt := t.gnss.reapplyAt }
        flt := s.flt.notedTo t.flt, trace := t.trace }) ∧
  (∀ s t,
    (∃ dt offset access, exec (.bar2Write dt offset access) s = .next t) →
      t = { s with
        time := t.time
        intr := { s.intr with status := t.intr.status, lastVec := t.intr.lastVec, delayed := t.intr.delayed, signalled := t.intr.signalled, pba := t.intr.pba }
        evt := t.evt, mem := s.mem.storedTo t.mem, flt := s.flt.notedTo t.flt, trace := t.trace })
end

