-- ==== Sys2Proof/Laws/Tables.lean ====
section
/-!
SUPPORT. Sparse tables and byte memory: a read after a write, and the canonical forms every operation keeps.
-/
namespace Sys2Proof

/-- A table read after a write. -/
theorem Tbl.get?_put {α : Type} (t : Tbl α) (k j : Nat) (v : α) :
    Tbl.get? (Tbl.put t k v) j = if j = k then some v else Tbl.get? t j := by
  induction t with
  | nil =>
    by_cases h : k = j
    · subst h; simp [Tbl.put, Tbl.get?]
    · have h' : ¬j = k := fun e => h e.symm
      simp [Tbl.put, Tbl.get?, h, h']
  | cons e rest ih =>
    obtain ⟨m, w⟩ := e
    unfold Tbl.put
    by_cases h1 : k < m
    · rw [if_pos h1]
      by_cases h : k = j
      · subst h; simp [Tbl.get?]
      · have h' : ¬j = k := fun e => h e.symm
        simp [Tbl.get?, h, h']
    · rw [if_neg h1]
      by_cases h2 : k = m
      · subst h2
        by_cases h : k = j
        · subst h; simp [Tbl.get?]
        · have h' : ¬j = k := fun e => h e.symm
          simp [Tbl.get?, h, h']
      · rw [if_neg h2]
        by_cases h : m = j
        · subst h
          have h' : ¬m = k := fun e => h2 e.symm
          simp [Tbl.get?, h']
        · simp [Tbl.get?, h, ih]

@[simp] theorem Tbl.getD_put {α : Type} (t : Tbl α) (k j : Nat) (v d : α) :
    Tbl.getD (Tbl.put t k v) j d = if j = k then v else Tbl.getD t j d := by
  unfold Tbl.getD
  rw [Tbl.get?_put]
  by_cases h : j = k
  · simp [h]
  · simp [h]

/-! ### Byte memory -/

theorem Memory.read_of_all_lt (m : List Host.Cell) (a : Nat) (h : m.all (fun c => decide (a < c.1)) = true) :
    Memory.read m a = 0 := by
  induction m with
  | nil => rfl
  | cons c rest ih =>
    obtain ⟨k, w⟩ := c
    simp only [List.all_cons, Bool.and_eq_true, decide_eq_true_eq] at h
    have hk : ¬k = a := by omega
    simp only [Memory.read, if_neg hk]
    exact ih h.2

theorem Memory.all_lt_mono (m : List Host.Cell) (a b : Nat) (hab : a ≤ b) (h : m.all (fun c => decide (b < c.1)) = true) :
    m.all (fun c => decide (a < c.1)) = true := by
  simp only [List.all_eq_true, decide_eq_true_eq] at *
  intro c hc
  have := h c hc
  omega

/-- A byte read after a byte is written. -/
theorem Memory.read_write (m : List Host.Cell) (a b : Nat) (v : BitVec 8) (h : Memory.wf m = true) :
    Memory.read (Memory.write m a v) b = if b = a then v else Memory.read m b := by
  induction m with
  | nil =>
    unfold Memory.write
    split_ifs with hv hb hb
    · subst hv; rfl
    · rfl
    · subst hb; simp [Memory.read]
    · have : ¬a = b := fun e => hb e.symm
      simp [Memory.read, this]
  | cons c rest ih =>
    obtain ⟨k, w⟩ := c
    simp only [Memory.wf, Bool.and_eq_true] at h
    obtain ⟨⟨_, h2⟩, h3⟩ := h
    unfold Memory.write
    by_cases h1 : a < k
    · rw [if_pos h1]
      have hlow : Memory.read rest a = 0 := Memory.read_of_all_lt rest a (Memory.all_lt_mono rest a k (by omega) h2)
      by_cases hb : b = a
      · subst hb
        have hk : ¬k = b := by omega
        by_cases hv : v = 0
        · subst hv; simp [Memory.read, hk, hlow]
        · rw [if_neg hv]; simp [Memory.read]
      · have hb' : ¬a = b := fun e => hb e.symm
        by_cases hv : v = 0
        · rw [if_pos hv]; simp [hb]
        · rw [if_neg hv]; simp [Memory.read, hb, hb']
    · rw [if_neg h1]
      by_cases hk : a = k
      · subst hk
        have hlow : Memory.read rest a = 0 := Memory.read_of_all_lt rest a h2
        by_cases hb : b = a
        · subst hb
          by_cases hv : v = 0
          · subst hv; simp [hlow]
          · rw [if_neg hv]; simp [Memory.read]
        · have hb' : ¬a = b := fun e => hb e.symm
          by_cases hv : v = 0
          · rw [if_pos hv]; simp [Memory.read, hb, hb']
          · rw [if_neg hv]; simp [Memory.read, hb, hb']
      · rw [if_neg hk]
        by_cases hb : k = b
        · subst hb
          have : ¬k = a := fun e => hk e.symm
          simp [Memory.read, this]
        · simp [Memory.read, hb, ih h3]

theorem Memory.write_all_lt (m : List Host.Cell) (a b : Nat) (v : BitVec 8) (hb : b < a)
    (h : m.all (fun c => decide (b < c.1)) = true) : (Memory.write m a v).all (fun c => decide (b < c.1)) = true := by
  induction m with
  | nil =>
    unfold Memory.write
    split_ifs <;> simp [hb]
  | cons c rest ih =>
    obtain ⟨k, w⟩ := c
    simp only [List.all_cons, Bool.and_eq_true, decide_eq_true_eq] at h
    have hr : ∀ x ∈ rest, b < x.1 := by simpa using h.2
    unfold Memory.write
    split_ifs
    · simp [h.1]; exact fun x y hx => hr (x, y) hx
    · simp [hb, h.1]; exact fun x y hx => hr (x, y) hx
    · simp; exact fun x y hx => hr (x, y) hx
    · simp [hb]; exact fun x y hx => hr (x, y) hx
    · have := ih h.2
      simp only [List.all_cons, Bool.and_eq_true, decide_eq_true_eq]
      exact ⟨h.1, this⟩

/-- Writing a byte keeps the canonical form. -/
theorem Memory.wf_write (m : List Host.Cell) (a : Nat) (v : BitVec 8) (h : Memory.wf m = true) :
    Memory.wf (Memory.write m a v) = true := by
  induction m with
  | nil =>
    unfold Memory.write
    by_cases hv : v = 0
    · rw [if_pos hv]; rfl
    · rw [if_neg hv]; simpa [Memory.wf] using hv
  | cons c rest ih =>
    obtain ⟨k, w⟩ := c
    have h0 := h
    simp only [Memory.wf, Bool.and_eq_true] at h
    obtain ⟨⟨h1, h2⟩, h3⟩ := h
    unfold Memory.write
    by_cases hlt : a < k
    · rw [if_pos hlt]
      by_cases hv : v = 0
      · rw [if_pos hv]; exact h0
      · rw [if_neg hv]
        have hall := Memory.all_lt_mono rest a k (by omega) h2
        simp only [Memory.wf, List.all_cons, Bool.and_eq_true, decide_eq_true_eq]
        exact ⟨⟨by simpa using hv, hlt, hall⟩, ⟨h1, h2⟩, h3⟩
    · rw [if_neg hlt]
      by_cases hk : a = k
      · rw [if_pos hk]
        subst hk
        by_cases hv : v = 0
        · rw [if_pos hv]; exact h3
        · rw [if_neg hv]
          simp only [Memory.wf, Bool.and_eq_true]
          exact ⟨⟨by simpa using hv, h2⟩, h3⟩
      · rw [if_neg hk]
        simp only [Memory.wf, Bool.and_eq_true]
        exact ⟨⟨h1, Memory.write_all_lt rest a k v (by omega) h2⟩, ih h3⟩

/-- Writing bytes keeps the canonical form. -/
theorem Memory.wf_writeAll (m : List Host.Cell) (a : Nat) (l : List Nat) (h : Memory.wf m = true) :
    Memory.wf (Memory.writeAll m a l) = true := by
  induction l generalizing m a with
  | nil => exact h
  | cons b rest ih => exact ih _ _ (Memory.wf_write m a _ h)

/-- Clearing a range keeps the canonical form. -/
theorem Memory.wf_clear (m : List Host.Cell) (lo hi : Nat) (h : Memory.wf m = true) : Memory.wf (Memory.clear m lo hi) = true := by
  induction m with
  | nil => rfl
  | cons c rest ih =>
    obtain ⟨k, w⟩ := c
    simp only [Memory.wf, Bool.and_eq_true] at h
    obtain ⟨⟨h1, h2⟩, h3⟩ := h
    have hall : ∀ x ∈ rest, k < x.1 := by simpa using h2
    simp only [Memory.clear, List.filter_cons]
    split_ifs with hc
    · simp only [Memory.wf, Bool.and_eq_true]
      refine ⟨⟨h1, ?_⟩, ih h3⟩
      simp only [List.all_eq_true, decide_eq_true_eq]
      intro x hx
      exact hall x (List.mem_filter.1 hx).1
    · exact ih h3

end Sys2Proof
end

