-- ==== Sys2Proof/Laws/Tci.lean ====
section
/-!
SUPPORT. What the command path does, said once: where a request's checks pass, `exec` is the conclusion of the command's own
action on the rung state.
-/
namespace Sys2Proof.Machine

/-- What `Command.passes` says. -/
theorem Command.passes_iff (c : Command) (q : Req) (k : Nat) (s : State) :
    c.passes q k s = true ↔ q.src = .host k ∧ k < 8 ∧ ((s.mailbox k).state = .free ∨ (s.mailbox k).state = .done)
      ∧ (s.mailbox k).repeats q = false ∧ s.fw.running = true ∧ c.refusal q (s.rung c.opcode q k) = none := by
  unfold Command.passes
  constructor
  · intro h
    simp only [Bool.and_eq_true, beq_iff_eq, decide_eq_true_eq, Bool.or_eq_true, Bool.not_eq_true', Option.isNone_iff_eq_none] at h
    obtain ⟨⟨⟨⟨⟨a, b⟩, c⟩, d⟩, e⟩, f⟩ := h
    exact ⟨a, b, c, d, e, f⟩
  · rintro ⟨a, b, c, d, e, f⟩
    simp [a, b, c, d, e, f]

@[simp] theorem State.mailbox_updMailbox (s : State) (k j : Nat) (f : Mailbox → Mailbox) :
    (s.updMailbox k f).mailbox j = if j = k then f (s.mailbox k) else s.mailbox j := by
  by_cases h : j = k
  · subst h; simp [State.mailbox, State.updMailbox]
  · simp [State.mailbox, State.updMailbox, h]

/-- A request whose checks pass is executed on the rung state. -/
theorem runCommand_passes {c : Command} {q : Req} {k : Nat} {s : State} (h : c.passes q k s = true) :
    runCommand c q s = .next (conclude c q (c.run q (s.rung c.opcode q k))) := by
  obtain ⟨hs, hk, hm, hr, hf, hn⟩ := (Command.passes_iff c q k s).1 h
  have hst : ((s.updMailbox k fun m => { m with area := areaWith c.opcode q m.area }).mailbox k).state = (s.mailbox k).state := by
    simp
  have hrep : ((s.rung c.opcode q k).mailbox k).repeats q = false := by
    simpa [State.rung, Mailbox.repeats] using hr
  have hfw : (s.rung c.opcode q k).fw.running = true := hf
  have key : c.serve q (s.rung c.opcode q k) = conclude c q (c.run q (s.rung c.opcode q k)) := by
    simp [Command.serve, State.serveWith, hfw, State.taken, hs, hrep, Command.execute, hn]
  rcases hm with hm | hm <;>
  · simp only [runCommand, hs, if_pos hk, hm, State.doorbell, hst]
    exact congrArg Host.Outcome.next key

theorem Command.passes_src {c : Command} {q : Req} {k : Nat} {s : State} (h : c.passes q k s = true) : q.src = .host k :=
  ((Command.passes_iff c q k s).1 h).1

/-- The answer to a request from a mailbox goes into it. -/
theorem State.respond_host {q : Req} {k : Nat} (h : q.src = .host k) (s : State) (op st : Nat) (p : Fields) :
    s.respond q op st p = s.reply op q k st p := by
  simp [State.respond, h, State.reply]

/-- A command that answers now writes its response into its mailbox. -/
theorem runCommand_done {c : Command} {q : Req} {k : Nat} {s u : State} {st : Nat} {p : Fields} (h : c.passes q k s = true)
    (hr : c.run q (s.rung c.opcode q k) = .done st p u) : runCommand c q s = .next (u.reply c.opcode q k st p) := by
  rw [runCommand_passes h, hr]
  simp [conclude, State.respond, Command.passes_src h, State.reply]

/-- A command that waits is put among the waiting commands. -/
theorem runCommand_aside {c : Command} {q : Req} {k : Nat} {s u : State} {w : Wait} (h : c.passes q k s = true)
    (hr : c.run q (s.rung c.opcode q k) = .aside w u) : runCommand c q s = .next (u.aside c.opcode q w) := by
  rw [runCommand_passes h, hr]
  rfl

/-- A command that has been put among the waiting commands by its own action. -/
theorem runCommand_kept {c : Command} {q : Req} {k : Nat} {s u : State} (h : c.passes q k s = true)
    (hr : c.run q (s.rung c.opcode q k) = .kept u) : runCommand c q s = .next u := by
  rw [runCommand_passes h, hr]
  rfl

/-- What changes nothing but the interrupts, the event ring and the trace. -/
def Reports (s t : State) : Prop := t = { s with intr := t.intr, evt := t.evt, trace := t.trace }

theorem Reports.refl (s : State) : Reports s s := rfl

theorem Reports.trans {s t u : State} (h1 : Reports s t) (h2 : Reports t u) : Reports s u := by
  unfold Reports at *
  rw [h2, h1]

theorem reports_signal (k : Nat) (s : State) : Reports s (s.signal k) := by
  unfold State.signal State.sendVector Reports
  split
  · rfl
  · dsimp only
    split <;> [rfl; (split <;> rfl)]

theorem reports_raiseInt (k : Nat) (s : State) : Reports s (s.raiseInt k) := by
  unfold State.raiseInt
  split
  · exact Reports.refl s
  · dsimp only
    split
    · rfl
    · exact Reports.trans (t := { s with intr := { s.intr with
        status := s.intr.status ||| 2 ^ k, signalled := clearBits s.intr.signalled (2 ^ k) } }) rfl (reports_signal k _)

theorem reports_putEvent (e : Event) (s : State) : Reports s (s.putEvent e) := by
  unfold State.putEvent
  exact Reports.trans (t := { s with evt := { s.evt with
      ring := Tbl.put s.evt.ring s.evt.head (Event.entry { e with seq := s.evt.seq })
      head := (s.evt.head + 1) % 1024
      seq := (s.evt.seq + 1) % 65536 } }) rfl (reports_raiseInt 1 _)

theorem reports_reportLost (s : State) : Reports s s.reportLost := by
  unfold State.reportLost
  split
  · exact Reports.refl s
  · exact Reports.trans (t := { s with evt := { s.evt with lostSince := 0 } }) rfl (reports_putEvent _ _)

theorem reports_writeEvent (e : Event) (s : State) : Reports s (s.writeEvent e) := by
  unfold State.writeEvent
  dsimp only
  split
  · exact Reports.trans (reports_reportLost s) rfl
  · exact Reports.trans (reports_reportLost s) (reports_putEvent _ _)

theorem reports_postAt (cause : Time96) (code : Nat) (p : Fields) (s : State) : Reports s (s.postAt cause code p) := by
  unfold State.postAt
  dsimp only
  split
  · exact reports_writeEvent _ s
  · rfl

theorem reports_post (code : Nat) (p : Fields) (s : State) : Reports s (s.post code p) := reports_postAt _ _ _ s

theorem reports_noteFrom (old s : State) : Reports s (State.noteFrom old s) := by
  unfold State.noteFrom
  dsimp only
  split <;> split <;>
    first
    | exact Reports.refl s
    | exact reports_raiseInt _ s
    | exact Reports.trans (reports_raiseInt 2 s) (reports_raiseInt 3 _)

/-- An attended command whose checks pass opens a closed window. -/
theorem runCommand_attend {c : Command} {q : Req} {k : Nat} {s u : State} (h : c.passes q k s = true)
    (hr : c.run q (s.rung c.opcode q k) = .attend u) (hc : u.win.state = .closed) :
    runCommand c q s = .next (u.openWindow c q k) := by
  rw [runCommand_passes h, hr]
  simp [conclude, Command.passes_src h, hc]

/-- What changes nothing but mailboxes, the window, interrupts, the event ring and the trace. -/
def Shows (s t : State) : Prop :=
  t = { s with win := t.win, tci := { s.tci with mbx := t.tci.mbx }, intr := t.intr, evt := t.evt, trace := t.trace }

theorem Shows.trans {s t u : State} (h1 : Shows s t) (h2 : Shows t u) : Shows s u := by
  unfold Shows at *
  rw [h2, h1]

theorem Reports.shows {s t : State} (h : Reports s t) : Shows s t := by
  unfold Shows
  unfold Reports at h
  rw [h]

theorem shows_writeResponse (k : Nat) (quiet : Bool) (r : Resp) (s : State) : Shows s (s.writeResponse k quiet r) := by
  unfold State.writeResponse
  dsimp only
  split
  · rfl
  · exact Shows.trans (t := s.updMailbox k _) rfl (Reports.shows (reports_raiseInt 0 _))

/-- The mailbox a response is written into. -/
theorem mailbox_writeResponse (k : Nat) (quiet : Bool) (r : Resp) (s : State) :
    ((s.writeResponse k quiet r).mailbox k).state = (if r.interim then .pending else .done)
    ∧ ((s.writeResponse k quiet r).mailbox k).resp = some r := by
  unfold State.writeResponse
  dsimp only
  split
  · simp
  · have e := reports_raiseInt 0 (s.updMailbox k (fun m =>
      { m with state := if r.interim then .pending else .done, seq := r.seq, resp := some r, area := r.overArea m.area }))
    unfold Reports at e
    rw [e]
    simp [State.mailbox, State.updMailbox]

/-- A response leaves the window alone. -/
theorem win_writeResponse (k : Nat) (quiet : Bool) (r : Resp) (s : State) : (s.writeResponse k quiet r).win = s.win := by
  unfold State.writeResponse
  dsimp only
  split
  · rfl
  · exact (congrArg State.win (show State.raiseInt 0 _ = _ from reports_raiseInt 0 _) :)

/-- What opening the window does (R402, R403). -/
theorem openWindow_opened {c : Command} {q : Req} {k : Nat} {s u : State} (hu : Shows s u) (hw : u.time = s.time) :
    Opened c.opcode q k s (u.openWindow c q k) := by
  have key : ∀ v : State, Shows u v → v.win = { u.win with
        state := .opened, mbx := k, deadline := u.time.tick + 60 * tickS
        held := some { opcode := c.opcode, req := q, obj := some .window }, pressIn := false } →
      Opened c.opcode q k s (State.noteFrom u ((v.writeResponse k q.quiet
        { opcode := c.opcode, interim := true, seq := q.seq, status := stAttendPending, payload := [] }).postWindow c.opcode
          stAttendPending)) := by
    intro v hv hwin
    have e1 := shows_writeResponse k q.quiet
      { opcode := c.opcode, interim := true, seq := q.seq, status := stAttendPending, payload := [] } v
    have m1 := mailbox_writeResponse k q.quiet
      { opcode := c.opcode, interim := true, seq := q.seq, status := stAttendPending, payload := [] } v
    have w1 := win_writeResponse k q.quiet
      { opcode := c.opcode, interim := true, seq := q.seq, status := stAttendPending, payload := [] } v
    generalize v.writeResponse k q.quiet
      { opcode := c.opcode, interim := true, seq := q.seq, status := stAttendPending, payload := [] } = w at e1 m1 w1 ⊢
    have r : Reports w (State.noteFrom u (w.postWindow c.opcode stAttendPending)) :=
      Reports.trans (reports_post _ _ w) (reports_noteFrom u _)
    generalize State.noteFrom u (w.postWindow c.opcode stAttendPending) = t at r ⊢
    have hwt : t.win = v.win := ((congrArg State.win (show t = _ from r) :) : t.win = w.win).trans w1
    have hmb : t.mailbox k = w.mailbox k := by
      have := (congrArg State.tci (show t = _ from r) :)
      simp only [State.mailbox, this]
    rw [hwin] at hwt
    refine ⟨Shows.trans hu (Shows.trans hv (Shows.trans e1 r.shows)), ?_, ?_, ?_, ?_, ?_, ?_⟩
    · rw [hwt]
    · rw [hwt]
    · rw [hwt, ← hw]
    · rw [hwt]
      exact ⟨_, rfl, rfl, rfl⟩
    · rw [hmb, m1.1]
      rfl
    · rw [hmb, m1.2]
  exact key _ rfl rfl

/-- An attended request whose checks pass opens a closed window. -/
theorem opened_of_attend {c : Command} {q : Req} {k : Nat} {s : State} (h : c.passes q k s = true)
    (hr : c.run q (s.rung c.opcode q k) = .attend (s.rung c.opcode q k)) (hc : s.win.state = .closed) :
    CompletesWith (runCommand c q s) (Opened c.opcode q k s) :=
  ⟨_, runCommand_attend h hr hc, openWindow_opened rfl rfl⟩

end Sys2Proof.Machine
end

