-- ==== Sys2Proof/Laws/Effects.lean ====
section
/-!
SUPPORT. What each shared operation may change, said once: fault collection (`Notes`), the memories (`Mems`), responses
(`Answers`) and the egress queues (`Queues`). Each lemma carries such a fact about a state over one more operation.
-/
namespace Sys2Proof.Machine

/-! ### Fault collection -/

/-- What changes nothing but the fault ledger, the interrupts, the event ring and the trace. -/
def Notes (s t : State) : Prop := t = { s with flt := t.flt, intr := t.intr, evt := t.evt, trace := t.trace }

theorem Notes.refl (s : State) : Notes s s := rfl

theorem Notes.trans {s t u : State} (h1 : Notes s t) (h2 : Notes t u) : Notes s u := by
  unfold Notes at *
  rw [h2, h1]

theorem Reports.notes {s t : State} (h : Reports s t) : Notes s t := by
  unfold Notes
  unfold Reports at h
  rw [h]

theorem Notes.withFlt {s t : State} (h : Notes s t) (x : FltS) : Notes s { t with flt := x } := h.trans rfl

theorem Notes.post {s t : State} (h : Notes s t) (code : Nat) (p : Fields) : Notes s (t.post code p) := h.trans (reports_post code p t).notes

theorem Notes.counterHalf {s t : State} (h : Notes s t) (old new opcode request offset : Nat) :
    Notes s (t.counterHalf old new opcode request offset) := by
  unfold State.counterHalf
  split <;> [exact h.post _ _; exact h]

theorem Notes.noteFrom {s t : State} (h : Notes s t) (old : State) : Notes s (State.noteFrom old t) := h.trans (reports_noteFrom old t).notes

theorem Notes.updSrc {s t : State} (h : Notes s t) (code : Nat) (f : SrcS → SrcS) : Notes s (t.updSrc code f) := h.trans rfl

theorem Notes.setRecord {s t : State} (h : Notes s t) (i : Nat) (r : Record) : Notes s (t.setRecord i r) := h.trans rfl

theorem Notes.updRecord {s t : State} (h : Notes s t) (i : Nat) (f : Record → Record) : Notes s (t.updRecord i f) := h.trans rfl

theorem Notes.claim {s t : State} (h : Notes s t) (i : Nat) : Notes s (t.claim i) := by
  unfold State.claim
  split <;> [exact h.withFlt _; exact h]

theorem Notes.driveFaultN {s t : State} (h : Notes s t) : Notes s t.driveFaultN := by
  unfold State.driveFaultN
  dsimp only
  split <;> [exact Notes.post ((h.withFlt _).withFlt _) _ _; exact h.withFlt _]

theorem Notes.adopt {s t : State} (h : Notes s t) : Notes s t.adopt := by
  unfold State.adopt
  split
  · exact h
  · split
    · exact Notes.post (Notes.updSrc (Notes.setRecord (Notes.withFlt (h.claim _) _) _ _) _ _) _ _
    · exact h

theorem Notes.settleFaults {s t : State} (h : Notes s t) (old : State) : Notes s (State.settleFaults old t) :=
  (h.adopt.driveFaultN).noteFrom old

theorem Notes.clearRecord {s t : State} (h : Notes s t) (i : Nat) : Notes s (t.clearRecord i) := by
  unfold State.clearRecord
  dsimp only
  split <;> [exact Notes.withFlt ((h.updRecord _ _).post _ _) _; exact (h.updRecord _ _).post _ _]

theorem Notes.quieten {s t : State} (h : Notes s t) (i : Nat) : Notes s (t.quieten i) := by
  unfold State.quieten
  dsimp only
  split <;> [exact h.setRecord _ _; exact h]

theorem Notes.linkInjected {s t : State} (h : Notes s t) (code i : Nat) : Notes s (t.linkInjected code i) := by
  unfold State.linkInjected
  split <;> [exact h.updRecord _ _; exact h]

theorem Notes.faultEvent {s t : State} (h : Notes s t) (code master access address : Nat) (injected : Bool) :
    Notes s (t.faultEvent code master access address injected) := by
  unfold State.faultEvent
  dsimp only
  split
  · exact Notes.settleFaults (Notes.updRecord (h.updSrc _ _) _ _) _
  · have h1 := (h.updSrc code (fun x => { x with events := (x.events + 1) % 2 ^ 48 }))
    split
    · refine Notes.settleFaults ?_ _
      split
      · split
        · (repeat' split) <;> first | exact (Notes.post ((h1.updSrc _ _).setRecord _ _) _ _).quieten _ | exact (h1.updSrc _ _).setRecord _ _
        · exact ((h1.updSrc _ _).setRecord _ _).quieten _
      · refine Notes.linkInjected ?_ _ _
        split
        · (repeat' split) <;> first | exact (Notes.post ((h1.updSrc _ _).setRecord _ _) _ _).quieten _ | exact (h1.updSrc _ _).setRecord _ _
        · exact ((h1.updSrc _ _).setRecord _ _).quieten _
    · split
      · refine Notes.settleFaults (Notes.post ?_ _ _) _
        split
        · exact ((((h1.updSrc _ _).claim _).withFlt _).setRecord _ _).updSrc _ _
        · exact (((((h1.updSrc _ _).claim _).withFlt _).setRecord _ _).updSrc _ _).linkInjected _ _
      · exact ((((h1.updSrc _ _).withFlt _).updSrc _ _).counterHalf _ _ _ _ _).settleFaults _

theorem Notes.fault {s t : State} (h : Notes s t) (code master access address : Nat) : Notes s (t.fault code master access address) :=
  h.faultEvent code master access address false

theorem Notes.condition {s t : State} (h : Notes s t) (code master access address : Nat) : Notes s (t.condition code master access address) := by
  unfold State.condition
  split <;> [exact h; exact (h.updSrc _ _).fault _ _ _ _]

theorem Notes.conditionEnds {s t : State} (h : Notes s t) (code : Nat) : Notes s (t.conditionEnds code) := by
  unfold State.conditionEnds
  dsimp only
  split
  · split
    · exact (((h.updSrc _ _).updRecord _ _).quieten _).settleFaults _
    · exact h.updSrc _ _
  · exact h

/-! ### The memories -/

/-- What changes nothing but the memories, the fault ledger, the interrupts, the event ring and the trace. -/
def Mems (s t : State) : Prop := t = { s with mem := t.mem, flt := t.flt, intr := t.intr, evt := t.evt, trace := t.trace }

theorem Mems.refl (s : State) : Mems s s := rfl

theorem Mems.trans {s t u : State} (h1 : Mems s t) (h2 : Mems t u) : Mems s u := by
  unfold Mems at *
  rw [h2, h1]

theorem Notes.mems {s t : State} (h : Notes s t) : Mems s t := by
  unfold Mems
  unfold Notes at h
  rw [h]

theorem Mems.withMem {s t : State} (h : Mems s t) (x : MemS) : Mems s { t with mem := x } := h.trans rfl

theorem Mems.post {s t : State} (h : Mems s t) (code : Nat) (p : Fields) : Mems s (t.post code p) := h.trans ((Notes.refl t).post code p).mems

theorem Mems.faultEvent {s t : State} (h : Mems s t) (code master access address : Nat) (injected : Bool) :
    Mems s (t.faultEvent code master access address injected) := h.trans ((Notes.refl t).faultEvent code master access address injected).mems

theorem Mems.fault {s t : State} (h : Mems s t) (code master access address : Nat) : Mems s (t.fault code master access address) :=
  h.faultEvent code master access address false

theorem Mems.setLine {s t : State} (h : Mems s t) (key : Nat) (l : LineS) : Mems s (t.setLine key l) := h.trans rfl

theorem Mems.memCount {s t : State} (h : Mems s t) (k : Nat) : Mems s (t.memCount k) :=
  (h.withMem _).trans ((Notes.refl _).counterHalf _ _ _ _ _).mems

theorem Mems.queueRetire {s t : State} (h : Mems s t) (key cause : Nat) : Mems s (t.queueRetire key cause) := by
  unfold State.queueRetire
  split <;> [exact h; exact h.withMem _]

theorem Mems.foldl {α : Type} {f : State → α → State} (hf : ∀ (s t : State) (a : α), Mems s t → Mems s (f t a)) (l : List α) {s t : State}
    (h : Mems s t) : Mems s (l.foldl f t) := by
  induction l generalizing t with
  | nil => exact h
  | cons a l ih => exact ih (hf s t a h)

theorem Mems.ite {c : Prop} [Decidable c] {s a b : State} (ha : Mems s a) (hb : Mems s b) : Mems s (if c then a else b) := by
  split <;> assumption

theorem Mems.classify {s t : State} (h : Mems s t) (master access key device : Nat) : Mems s (t.classify master access key device) := by
  have h2 (x : MemS) (d : Bool) : Mems s (if d then ({ t with mem := x } : State).memCount 5 else { t with mem := x }) :=
    Mems.ite ((h.withMem x).memCount 5) (h.withMem x)
  unfold State.classify
  extract_lets region line
  split
  next before was _ =>
    extract_lets count severe
    split
    next tbl dropped _ =>
      extract_lets s1 s2 s3
      have h3 : Mems s s3 := Mems.ite (((h2 _ _).memCount 3).post _ _) (h2 _ _)
      exact Mems.ite ((h3.fault _ _ _ _).queueRetire _ _) h3

theorem Mems.correctEvent {s t : State} (h : Mems s t) (master access key : Nat) (devices : List Nat) (injected : Bool) :
    Mems s (t.correctEvent master access key devices injected) := by
  have h1 := Mems.foldl (f := fun (u : State) (d : Nat) => u.memCount (11 + d)) (fun _ _ _ g => g.memCount _) devices (h.memCount 0)
  unfold State.correctEvent
  dsimp only
  split <;> [exact h1; exact (h1.withMem _).classify _ _ _ _]

theorem Mems.flipWrite {s t : State} (h : Mems s t) (key : Nat) : Mems s (t.flipWrite key) := by
  unfold State.flipWrite
  dsimp only
  split <;> [exact (h.setLine _ _).withMem _; exact h]

theorem Mems.uncorrectable {s t : State} (h : Mems s t) (master access key : Nat) : Mems s (t.uncorrectable master access key) := by
  have h1 := ((h.memCount 1).setLine key { (t.line key) with seen := true }).faultEvent 0x10 master access (dramAddress key)
    ((t.line key).injected t.mem.erasure)
  unfold State.uncorrectable
  dsimp only
  split
  · exact h.memCount _
  · split <;> [exact h1; exact h1.queueRetire _ _]

theorem Mems.writeBack {s t : State} (h : Mems s t) (key : Nat) : Mems s (t.writeBack key) := h.setLine _ _

theorem Mems.correct {s t : State} (h : Mems s t) (master access key : Nat) (devices : List Nat) : Mems s (t.correct master access key devices) := by
  have h1 := ((h.correctEvent master access key devices ((t.line key).injected t.mem.erasure)).writeBack key).flipWrite key
  unfold State.correct
  dsimp only
  split
  · exact (h1.correctEvent _ _ _ _ _).writeBack _
  · exact h1.uncorrectable _ _ _
  · exact h1

/-- One read of a line. -/
theorem Mems.dramRead {s t : State} (h : Mems s t) (master access key : Nat) : Mems s (t.dramRead master access key).2 := by
  unfold State.dramRead
  split
  · exact h
  · exact h.correct _ _ _ _
  · exact h.uncorrectable _ _ _
  · exact h.memCount _

theorem Mems.dramReads (master access : Nat) (l : List Nat) {s t : State} (h : Mems s t) : Mems s (State.dramReads master access l t).2 := by
  induction l generalizing t with
  | nil => exact h
  | cons k l ih => exact ih (h.dramRead master access k)

/-- One write to a line. -/
theorem Mems.dramWrite {s t : State} (h : Mems s t) (master key : Nat) (whole : Bool) : Mems s (t.dramWrite master key whole) := by
  unfold State.dramWrite
  dsimp only
  refine Mems.flipWrite ?_ _
  split
  · exact h.setLine _ _
  · split
    · exact h
    · exact h.correct _ _ _ _
    · exact (h.uncorrectable _ _ _).setLine _ _
    · exact h.memCount _

theorem Mems.writeLines {s t : State} (h : Mems s t) (master off n : Nat) : Mems s (t.writeLines master off n) :=
  Mems.foldl (f := fun (u : State) (l : Nat × Bool) => u.dramWrite master (lineKey 3 l.1) l.2) (fun _ _ _ g => g.dramWrite _ _ _) _ h

theorem Mems.windowWrite {s t : State} (h : Mems s t) (master off : Nat) (data : List Nat) : Mems s (t.windowWrite master off data) :=
  (h.writeLines _ _ _).withMem _

theorem Mems.windowZero {s t : State} (h : Mems s t) (master off n : Nat) : Mems s (t.windowZero master off n) := (h.writeLines _ _ _).withMem _

theorem Mems.windowRead {s t : State} (h : Mems s t) (master off n : Nat) : Mems s (t.windowRead master off n).2 := h.dramReads _ _ _

/-! ### Responses -/

/-- What changes nothing but the mailboxes and the requests that wait, the sequence of domain frames, the interrupts and the trace. -/
def Answers (s t : State) : Prop := t = { s with tci := t.tci, dom := t.dom, intr := t.intr, trace := t.trace }

theorem Answers.refl (s : State) : Answers s s := rfl

theorem Answers.trans {s t u : State} (h1 : Answers s t) (h2 : Answers t u) : Answers s u := by
  unfold Answers at *
  rw [h2, h1]

theorem answers_signal (k : Nat) (s : State) : Answers s (s.signal k) := by
  unfold State.signal State.sendVector Answers
  split
  · rfl
  · dsimp only
    split <;> [rfl; (split <;> rfl)]

theorem Answers.raiseInt {s t : State} (h : Answers s t) (k : Nat) : Answers s (t.raiseInt k) := by
  unfold State.raiseInt
  split
  · exact h
  · dsimp only
    split
    · exact h.trans rfl
    · exact (h.trans (u := { t with intr := { t.intr with
        status := t.intr.status ||| 2 ^ k, signalled := clearBits t.intr.signalled (2 ^ k) } }) rfl).trans (answers_signal k _)

theorem Answers.writeResponse {s t : State} (h : Answers s t) (k : Nat) (quiet : Bool) (r : Resp) : Answers s (t.writeResponse k quiet r) := by
  have h1 : Answers s (t.updMailbox k (fun m =>
    { m with state := if r.interim then .pending else .done, seq := r.seq, resp := some r, area := r.overArea m.area })) := h.trans rfl
  unfold State.writeResponse
  dsimp only
  split <;> [exact h1; exact h1.raiseInt 0]

theorem Answers.sendDomain {s t : State} (h : Answers s t) (port kind : Nat) (payload : Fields) : Answers s (t.sendDomain port kind payload) := by
  unfold State.sendDomain
  split
  · exact h
  · cases t.domainKey <;> [exact h; exact h.trans rfl]

theorem Answers.respond {s t : State} (h : Answers s t) (q : Req) (opcode status : Nat) (payload : Fields) :
    Answers s (t.respond q opcode status payload) := by
  unfold State.respond
  dsimp only
  split <;> [exact h.writeResponse _ _ _; exact h.sendDomain _ _ _]

/-- What changes nothing but what a response does, the window and the event ring. -/
def Ends (s t : State) : Prop := t = { s with tci := t.tci, dom := t.dom, intr := t.intr, evt := t.evt, win := t.win, trace := t.trace }

theorem Ends.refl (s : State) : Ends s s := rfl

theorem Ends.trans {s t u : State} (h1 : Ends s t) (h2 : Ends t u) : Ends s u := by
  unfold Ends at *
  rw [h2, h1]

theorem Answers.ends {s t : State} (h : Answers s t) : Ends s t := by
  unfold Ends
  unfold Answers at h
  rw [h]

theorem Reports.ends {s t : State} (h : Reports s t) : Ends s t := by
  unfold Ends
  unfold Reports at h
  rw [h]

theorem Ends.postClosing {s t : State} (h : Ends s t) (k status : Nat) : Ends s (t.postClosing k status) := by
  unfold State.postClosing
  split
  · exact h
  · next e _ =>
    dsimp only
    split
    · exact (h.trans (u := { t with win := { t.win with closing := Tbl.erase t.win.closing k } }) rfl).trans (reports_writeEvent _ _).ends
    · exact h.trans rfl

theorem Ends.endWait {s t : State} (h : Ends s t) (w : Wait) (status : Nat) (payload : Fields) : Ends s (t.endWait w status payload) := by
  have h1 : Ends s (t.respond w.req w.opcode status payload) := h.trans ((Answers.refl t).respond _ _ _ _).ends
  unfold State.endWait
  dsimp only
  split <;> [exact h1.postClosing _ _; exact h1]

theorem Ends.finish {s t : State} (h : Ends s t) (p : Wait → Bool) (status : Nat) (payload : Wait → Fields) :
    Ends s (t.finish p status payload) := by
  unfold State.finish
  split
  · next w _ => exact Ends.endWait (h.trans (u := { t with tci := { t.tci with aside := t.tci.aside.erase w } }) rfl) _ _ _
  · exact h

theorem Ends.finishAll {s t : State} (h : Ends s t) (p : Wait → Bool) (status : Nat) (payload : Wait → Fields) :
    Ends s (t.finishAll p status payload) := by
  unfold State.finishAll
  have h1 : Ends s { t with tci := { t.tci with aside := t.tci.aside.filter (fun w => !p w) } } := h.trans rfl
  revert h1
  generalize { t with tci := { t.tci with aside := t.tci.aside.filter (fun w => !p w) } } = u
  intro h1
  generalize t.tci.aside.filter p = l
  induction l generalizing u with
  | nil => exact h1
  | cons w l ih => exact ih _ (h1.endWait _ _ _)

/-! ### The egress queues -/

/-- What changes nothing but the ports, the switch, the interrupts, the event ring and the trace. -/
def Queues (s t : State) : Prop := t = { s with ports := t.ports, sw := t.sw, intr := t.intr, evt := t.evt, trace := t.trace }

theorem Queues.refl (s : State) : Queues s s := rfl

theorem Queues.trans {s t u : State} (h1 : Queues s t) (h2 : Queues t u) : Queues s u := by
  unfold Queues at *
  rw [h2, h1]

theorem Reports.queues {s t : State} (h : Reports s t) : Queues s t := by
  unfold Queues
  unfold Reports at h
  rw [h]

theorem Queues.updPort {s t : State} (h : Queues s t) (p : Nat) (f : PortS → PortS) : Queues s (t.updPort p f) := h.trans rfl

theorem Queues.withSw {s t : State} (h : Queues s t) (x : SwS) : Queues s { t with sw := x } := h.trans rfl

theorem Queues.post {s t : State} (h : Queues s t) (code : Nat) (p : Fields) : Queues s (t.post code p) := h.trans (reports_post code p t).queues

theorem Queues.counterHalf {s t : State} (h : Queues s t) (old new opcode request offset : Nat) :
    Queues s (t.counterHalf old new opcode request offset) := by
  unfold State.counterHalf
  split <;> [exact h.post _ _; exact h]

/-- A port MAC statistic advances. -/
theorem Queues.stat {s t : State} (h : Queues s t) (p k n : Nat) : Queues s (t.stat p k n) := by
  unfold State.stat
  dsimp only
  split <;> [exact (h.updPort _ _).post _ _; exact h.updPort _ _]

theorem Queues.queueCount {s t : State} (h : Queues s t) (p k i : Nat) : Queues s (t.queueCount p k i) := (h.withSw _).counterHalf _ _ _ _ _

theorem Queues.flowCount {s t : State} (h : Queues s t) (f i : Nat) : Queues s (t.flowCount f i) := (h.withSw _).counterHalf _ _ _ _ _

theorem Queues.notePeak {s t : State} (h : Queues s t) : Queues s t.notePeak := h.withSw _

theorem Queues.popQueue {s t : State} (h : Queues s t) (p k : Nat) (c : Copy) : Queues s (t.popQueue p k c) := h.updPort _ _

/-- A copy enters a queue, or is dropped there. -/
theorem Queues.enqueue {s t : State} (h : Queues s t) (p : Nat) (c : Copy) : Queues s (t.enqueue p c).2 := by
  unfold State.enqueue
  split
  · dsimp only
    split <;> [exact h.queueCount _ _ _; exact h]
  · dsimp only
    refine Queues.notePeak ?_
    split <;> [exact ((h.updPort _ _).queueCount _ _ _).queueCount _ _ _; exact (h.updPort _ _).queueCount _ _ _]

theorem Queues.expressClass {s t : State} (h : Queues s t) (p n : Nat) : Queues s (t.expressClass p n).2 := by
  unfold State.expressClass
  split <;> [exact h.stat _ _ _; exact h]

/-- A frame the time-service engine built is queued, or finds no room. -/
theorem Queues.tsQueue {s t : State} (h : Queues s t) (p : Nat) (c : Copy) : Queues s (t.tsQueue p c).2 := by
  have h1 (x : SwS) (f : PortS → PortS) (k i : Nat) : Queues s (((({ t with sw := x } : State).updPort p f).queueCount p k i).notePeak) :=
    Queues.notePeak (Queues.queueCount (Queues.updPort (h.withSw _) _ _) _ _ _)
  unfold State.tsQueue
  simp only []
  split
  · exact h
  split
  · split <;> [exact h1 _ _ _ _; exact h.withSw _]
  · split <;> [exact h1 _ _ _ _; exact h.withSw _]

end Sys2Proof.Machine
end

