-- ==== Sys2Proof/Laws/State.lean ====
section
/-!
SUPPORT. One lemma per named operation saying every field of the state it leaves alone, as simp rewrites, so that no later
proof unfolds a record update.
-/
namespace Sys2Proof.Machine

/-- What only reports leaves every other field alone. -/
theorem Reports.fields {s t : State} (h : Reports s t) :
    t.time = s.time ∧ t.leap = s.leap ∧ t.snap = s.snap ∧ t.stamps = s.stamps ∧ t.pace = s.pace ∧ t.tci = s.tci ∧ t.win = s.win
    ∧ t.sealLoop = s.sealLoop ∧ t.inb = s.inb ∧ t.fw = s.fw ∧ t.meas = s.meas ∧ t.ocxo = s.ocxo ∧ t.refs = s.refs
    ∧ t.sel = s.sel ∧ t.hold = s.hold ∧ t.outs = s.outs ∧ t.gnss = s.gnss ∧ t.dom = s.dom ∧ t.cue = s.cue ∧ t.cap = s.cap
    ∧ t.ts = s.ts ∧ t.ports = s.ports ∧ t.host = s.host ∧ t.sw = s.sw ∧ t.banks = s.banks ∧ t.rnd = s.rnd ∧ t.keys = s.keys
    ∧ t.bn = s.bn ∧ t.mem = s.mem ∧ t.flt = s.flt ∧ t.mid = s.mid ∧ t.plat = s.plat ∧ t.free = s.free ∧ t.pending = s.pending := by
  have e : t = _ := h
  exact ⟨(congrArg State.time e :), (congrArg State.leap e :), (congrArg State.snap e :), (congrArg State.stamps e :), (congrArg State.pace e :), (congrArg State.tci e :), (congrArg State.win e :), (congrArg State.sealLoop e :), (congrArg State.inb e :), (congrArg State.fw e :), (congrArg State.meas e :), (congrArg State.ocxo e :), (congrArg State.refs e :), (congrArg State.sel e :), (congrArg State.hold e :), (congrArg State.outs e :), (congrArg State.gnss e :), (congrArg State.dom e :), (congrArg State.cue e :), (congrArg State.cap e :), (congrArg State.ts e :), (congrArg State.ports e :), (congrArg State.host e :), (congrArg State.sw e :), (congrArg State.banks e :), (congrArg State.rnd e :), (congrArg State.keys e :), (congrArg State.bn e :), (congrArg State.mem e :), (congrArg State.flt e :), (congrArg State.mid e :), (congrArg State.plat e :), (congrArg State.free e :), (congrArg State.pending e :)⟩

@[simp] theorem State.signal_fields (s : State) (k : Nat) :
    (s.signal k).time = s.time ∧ (s.signal k).leap = s.leap ∧ (s.signal k).snap = s.snap ∧ (s.signal k).stamps = s.stamps
    ∧ (s.signal k).pace = s.pace ∧ (s.signal k).tci = s.tci ∧ (s.signal k).win = s.win ∧ (s.signal k).sealLoop = s.sealLoop
    ∧ (s.signal k).inb = s.inb ∧ (s.signal k).fw = s.fw ∧ (s.signal k).meas = s.meas ∧ (s.signal k).ocxo = s.ocxo
    ∧ (s.signal k).refs = s.refs ∧ (s.signal k).sel = s.sel ∧ (s.signal k).hold = s.hold ∧ (s.signal k).outs = s.outs
    ∧ (s.signal k).gnss = s.gnss ∧ (s.signal k).dom = s.dom ∧ (s.signal k).cue = s.cue ∧ (s.signal k).cap = s.cap
    ∧ (s.signal k).ts = s.ts ∧ (s.signal k).ports = s.ports ∧ (s.signal k).host = s.host ∧ (s.signal k).sw = s.sw
    ∧ (s.signal k).banks = s.banks ∧ (s.signal k).rnd = s.rnd ∧ (s.signal k).keys = s.keys ∧ (s.signal k).bn = s.bn
    ∧ (s.signal k).mem = s.mem ∧ (s.signal k).flt = s.flt ∧ (s.signal k).mid = s.mid ∧ (s.signal k).plat = s.plat
    ∧ (s.signal k).free = s.free ∧ (s.signal k).pending = s.pending :=
  Reports.fields (reports_signal k s)

@[simp] theorem State.raiseInt_fields (s : State) (k : Nat) :
    (s.raiseInt k).time = s.time ∧ (s.raiseInt k).leap = s.leap ∧ (s.raiseInt k).snap = s.snap
    ∧ (s.raiseInt k).stamps = s.stamps ∧ (s.raiseInt k).pace = s.pace ∧ (s.raiseInt k).tci = s.tci ∧ (s.raiseInt k).win = s.win
    ∧ (s.raiseInt k).sealLoop = s.sealLoop ∧ (s.raiseInt k).inb = s.inb ∧ (s.raiseInt k).fw = s.fw
    ∧ (s.raiseInt k).meas = s.meas ∧ (s.raiseInt k).ocxo = s.ocxo ∧ (s.raiseInt k).refs = s.refs ∧ (s.raiseInt k).sel = s.sel
    ∧ (s.raiseInt k).hold = s.hold ∧ (s.raiseInt k).outs = s.outs ∧ (s.raiseInt k).gnss = s.gnss ∧ (s.raiseInt k).dom = s.dom
    ∧ (s.raiseInt k).cue = s.cue ∧ (s.raiseInt k).cap = s.cap ∧ (s.raiseInt k).ts = s.ts ∧ (s.raiseInt k).ports = s.ports
    ∧ (s.raiseInt k).host = s.host ∧ (s.raiseInt k).sw = s.sw ∧ (s.raiseInt k).banks = s.banks ∧ (s.raiseInt k).rnd = s.rnd
    ∧ (s.raiseInt k).keys = s.keys ∧ (s.raiseInt k).bn = s.bn ∧ (s.raiseInt k).mem = s.mem ∧ (s.raiseInt k).flt = s.flt
    ∧ (s.raiseInt k).mid = s.mid ∧ (s.raiseInt k).plat = s.plat ∧ (s.raiseInt k).free = s.free
    ∧ (s.raiseInt k).pending = s.pending :=
  Reports.fields (reports_raiseInt k s)

@[simp] theorem State.writeEvent_fields (s : State) (e : Event) :
    (s.writeEvent e).time = s.time ∧ (s.writeEvent e).leap = s.leap ∧ (s.writeEvent e).snap = s.snap
    ∧ (s.writeEvent e).stamps = s.stamps ∧ (s.writeEvent e).pace = s.pace ∧ (s.writeEvent e).tci = s.tci
    ∧ (s.writeEvent e).win = s.win ∧ (s.writeEvent e).sealLoop = s.sealLoop ∧ (s.writeEvent e).inb = s.inb
    ∧ (s.writeEvent e).fw = s.fw ∧ (s.writeEvent e).meas = s.meas ∧ (s.writeEvent e).ocxo = s.ocxo
    ∧ (s.writeEvent e).refs = s.refs ∧ (s.writeEvent e).sel = s.sel ∧ (s.writeEvent e).hold = s.hold
    ∧ (s.writeEvent e).outs = s.outs ∧ (s.writeEvent e).gnss = s.gnss ∧ (s.writeEvent e).dom = s.dom
    ∧ (s.writeEvent e).cue = s.cue ∧ (s.writeEvent e).cap = s.cap ∧ (s.writeEvent e).ts = s.ts
    ∧ (s.writeEvent e).ports = s.ports ∧ (s.writeEvent e).host = s.host ∧ (s.writeEvent e).sw = s.sw
    ∧ (s.writeEvent e).banks = s.banks ∧ (s.writeEvent e).rnd = s.rnd ∧ (s.writeEvent e).keys = s.keys
    ∧ (s.writeEvent e).bn = s.bn ∧ (s.writeEvent e).mem = s.mem ∧ (s.writeEvent e).flt = s.flt ∧ (s.writeEvent e).mid = s.mid
    ∧ (s.writeEvent e).plat = s.plat ∧ (s.writeEvent e).free = s.free ∧ (s.writeEvent e).pending = s.pending :=
  Reports.fields (reports_writeEvent e s)

@[simp] theorem State.postAt_fields (s : State) (cause : Time96) (code : Nat) (p : Fields) :
    (s.postAt cause code p).time = s.time ∧ (s.postAt cause code p).leap = s.leap ∧ (s.postAt cause code p).snap = s.snap
    ∧ (s.postAt cause code p).stamps = s.stamps ∧ (s.postAt cause code p).pace = s.pace ∧ (s.postAt cause code p).tci = s.tci
    ∧ (s.postAt cause code p).win = s.win ∧ (s.postAt cause code p).sealLoop = s.sealLoop ∧ (s.postAt cause code p).inb = s.inb
    ∧ (s.postAt cause code p).fw = s.fw ∧ (s.postAt cause code p).meas = s.meas ∧ (s.postAt cause code p).ocxo = s.ocxo
    ∧ (s.postAt cause code p).refs = s.refs ∧ (s.postAt cause code p).sel = s.sel ∧ (s.postAt cause code p).hold = s.hold
    ∧ (s.postAt cause code p).outs = s.outs ∧ (s.postAt cause code p).gnss = s.gnss ∧ (s.postAt cause code p).dom = s.dom
    ∧ (s.postAt cause code p).cue = s.cue ∧ (s.postAt cause code p).cap = s.cap ∧ (s.postAt cause code p).ts = s.ts
    ∧ (s.postAt cause code p).ports = s.ports ∧ (s.postAt cause code p).host = s.host ∧ (s.postAt cause code p).sw = s.sw
    ∧ (s.postAt cause code p).banks = s.banks ∧ (s.postAt cause code p).rnd = s.rnd ∧ (s.postAt cause code p).keys = s.keys
    ∧ (s.postAt cause code p).bn = s.bn ∧ (s.postAt cause code p).mem = s.mem ∧ (s.postAt cause code p).flt = s.flt
    ∧ (s.postAt cause code p).mid = s.mid ∧ (s.postAt cause code p).plat = s.plat ∧ (s.postAt cause code p).free = s.free
    ∧ (s.postAt cause code p).pending = s.pending :=
  Reports.fields (reports_postAt cause code p s)

@[simp] theorem State.post_fields (s : State) (code : Nat) (p : Fields) :
    (s.post code p).time = s.time ∧ (s.post code p).leap = s.leap ∧ (s.post code p).snap = s.snap
    ∧ (s.post code p).stamps = s.stamps ∧ (s.post code p).pace = s.pace ∧ (s.post code p).tci = s.tci
    ∧ (s.post code p).win = s.win ∧ (s.post code p).sealLoop = s.sealLoop ∧ (s.post code p).inb = s.inb
    ∧ (s.post code p).fw = s.fw ∧ (s.post code p).meas = s.meas ∧ (s.post code p).ocxo = s.ocxo ∧ (s.post code p).refs = s.refs
    ∧ (s.post code p).sel = s.sel ∧ (s.post code p).hold = s.hold ∧ (s.post code p).outs = s.outs
    ∧ (s.post code p).gnss = s.gnss ∧ (s.post code p).dom = s.dom ∧ (s.post code p).cue = s.cue ∧ (s.post code p).cap = s.cap
    ∧ (s.post code p).ts = s.ts ∧ (s.post code p).ports = s.ports ∧ (s.post code p).host = s.host ∧ (s.post code p).sw = s.sw
    ∧ (s.post code p).banks = s.banks ∧ (s.post code p).rnd = s.rnd ∧ (s.post code p).keys = s.keys ∧ (s.post code p).bn = s.bn
    ∧ (s.post code p).mem = s.mem ∧ (s.post code p).flt = s.flt ∧ (s.post code p).mid = s.mid ∧ (s.post code p).plat = s.plat
    ∧ (s.post code p).free = s.free ∧ (s.post code p).pending = s.pending :=
  Reports.fields (reports_post code p s)

@[simp] theorem State.noteFrom_fields (s : State) (old : State) :
    (State.noteFrom old s).time = s.time ∧ (State.noteFrom old s).leap = s.leap ∧ (State.noteFrom old s).snap = s.snap
    ∧ (State.noteFrom old s).stamps = s.stamps ∧ (State.noteFrom old s).pace = s.pace ∧ (State.noteFrom old s).tci = s.tci
    ∧ (State.noteFrom old s).win = s.win ∧ (State.noteFrom old s).sealLoop = s.sealLoop ∧ (State.noteFrom old s).inb = s.inb
    ∧ (State.noteFrom old s).fw = s.fw ∧ (State.noteFrom old s).meas = s.meas ∧ (State.noteFrom old s).ocxo = s.ocxo
    ∧ (State.noteFrom old s).refs = s.refs ∧ (State.noteFrom old s).sel = s.sel ∧ (State.noteFrom old s).hold = s.hold
    ∧ (State.noteFrom old s).outs = s.outs ∧ (State.noteFrom old s).gnss = s.gnss ∧ (State.noteFrom old s).dom = s.dom
    ∧ (State.noteFrom old s).cue = s.cue ∧ (State.noteFrom old s).cap = s.cap ∧ (State.noteFrom old s).ts = s.ts
    ∧ (State.noteFrom old s).ports = s.ports ∧ (State.noteFrom old s).host = s.host ∧ (State.noteFrom old s).sw = s.sw
    ∧ (State.noteFrom old s).banks = s.banks ∧ (State.noteFrom old s).rnd = s.rnd ∧ (State.noteFrom old s).keys = s.keys
    ∧ (State.noteFrom old s).bn = s.bn ∧ (State.noteFrom old s).mem = s.mem ∧ (State.noteFrom old s).flt = s.flt
    ∧ (State.noteFrom old s).mid = s.mid ∧ (State.noteFrom old s).plat = s.plat ∧ (State.noteFrom old s).free = s.free
    ∧ (State.noteFrom old s).pending = s.pending :=
  Reports.fields (reports_noteFrom old s)

/-- The passing of time changes the time base only. -/
@[simp] theorem State.advance_fields (s : State) (n : Nat) :
    (s.advance n).leap = s.leap ∧ (s.advance n).snap = s.snap ∧ (s.advance n).stamps = s.stamps ∧ (s.advance n).pace = s.pace
    ∧ (s.advance n).tci = s.tci ∧ (s.advance n).intr = s.intr ∧ (s.advance n).evt = s.evt ∧ (s.advance n).win = s.win
    ∧ (s.advance n).sealLoop = s.sealLoop ∧ (s.advance n).inb = s.inb ∧ (s.advance n).fw = s.fw ∧ (s.advance n).meas = s.meas
    ∧ (s.advance n).ocxo = s.ocxo ∧ (s.advance n).refs = s.refs ∧ (s.advance n).sel = s.sel ∧ (s.advance n).hold = s.hold
    ∧ (s.advance n).outs = s.outs ∧ (s.advance n).gnss = s.gnss ∧ (s.advance n).dom = s.dom ∧ (s.advance n).cue = s.cue
    ∧ (s.advance n).cap = s.cap ∧ (s.advance n).ts = s.ts ∧ (s.advance n).ports = s.ports ∧ (s.advance n).host = s.host
    ∧ (s.advance n).sw = s.sw ∧ (s.advance n).banks = s.banks ∧ (s.advance n).rnd = s.rnd ∧ (s.advance n).keys = s.keys
    ∧ (s.advance n).bn = s.bn ∧ (s.advance n).mem = s.mem ∧ (s.advance n).flt = s.flt ∧ (s.advance n).mid = s.mid
    ∧ (s.advance n).plat = s.plat ∧ (s.advance n).trace = s.trace ∧ (s.advance n).free = s.free
    ∧ (s.advance n).pending = s.pending := by
  refine ⟨?_, ?_, ?_, ?_, ?_, ?_, ?_, ?_, ?_, ?_, ?_, ?_, ?_, ?_, ?_, ?_, ?_, ?_, ?_, ?_, ?_, ?_, ?_, ?_, ?_, ?_, ?_, ?_, ?_, ?_, ?_, ?_, ?_, ?_, ?_, ?_⟩ <;> rfl

/-- Showing something outside changes the trace only. -/
@[simp] theorem State.emit_fields (s : State) (x : Out) :
    (s.emit x).time = s.time ∧ (s.emit x).leap = s.leap ∧ (s.emit x).snap = s.snap ∧ (s.emit x).stamps = s.stamps
    ∧ (s.emit x).pace = s.pace ∧ (s.emit x).tci = s.tci ∧ (s.emit x).intr = s.intr ∧ (s.emit x).evt = s.evt
    ∧ (s.emit x).win = s.win ∧ (s.emit x).sealLoop = s.sealLoop ∧ (s.emit x).inb = s.inb ∧ (s.emit x).fw = s.fw
    ∧ (s.emit x).meas = s.meas ∧ (s.emit x).ocxo = s.ocxo ∧ (s.emit x).refs = s.refs ∧ (s.emit x).sel = s.sel
    ∧ (s.emit x).hold = s.hold ∧ (s.emit x).outs = s.outs ∧ (s.emit x).gnss = s.gnss ∧ (s.emit x).dom = s.dom
    ∧ (s.emit x).cue = s.cue ∧ (s.emit x).cap = s.cap ∧ (s.emit x).ts = s.ts ∧ (s.emit x).ports = s.ports
    ∧ (s.emit x).host = s.host ∧ (s.emit x).sw = s.sw ∧ (s.emit x).banks = s.banks ∧ (s.emit x).rnd = s.rnd
    ∧ (s.emit x).keys = s.keys ∧ (s.emit x).bn = s.bn ∧ (s.emit x).mem = s.mem ∧ (s.emit x).flt = s.flt
    ∧ (s.emit x).mid = s.mid ∧ (s.emit x).plat = s.plat ∧ (s.emit x).free = s.free ∧ (s.emit x).pending = s.pending := by
  refine ⟨?_, ?_, ?_, ?_, ?_, ?_, ?_, ?_, ?_, ?_, ?_, ?_, ?_, ?_, ?_, ?_, ?_, ?_, ?_, ?_, ?_, ?_, ?_, ?_, ?_, ?_, ?_, ?_, ?_, ?_, ?_, ?_, ?_, ?_, ?_, ?_⟩ <;> rfl

/-- `setPort` changes `ports` only. -/
@[simp] theorem State.setPort_fields (s : State) (p : Nat) (x : PortS) :
    (s.setPort p x).time = s.time ∧ (s.setPort p x).leap = s.leap ∧ (s.setPort p x).snap = s.snap
    ∧ (s.setPort p x).stamps = s.stamps ∧ (s.setPort p x).pace = s.pace ∧ (s.setPort p x).tci = s.tci
    ∧ (s.setPort p x).intr = s.intr ∧ (s.setPort p x).evt = s.evt ∧ (s.setPort p x).win = s.win
    ∧ (s.setPort p x).sealLoop = s.sealLoop ∧ (s.setPort p x).inb = s.inb ∧ (s.setPort p x).fw = s.fw
    ∧ (s.setPort p x).meas = s.meas ∧ (s.setPort p x).ocxo = s.ocxo ∧ (s.setPort p x).refs = s.refs
    ∧ (s.setPort p x).sel = s.sel ∧ (s.setPort p x).hold = s.hold ∧ (s.setPort p x).outs = s.outs
    ∧ (s.setPort p x).gnss = s.gnss ∧ (s.setPort p x).dom = s.dom ∧ (s.setPort p x).cue = s.cue ∧ (s.setPort p x).cap = s.cap
    ∧ (s.setPort p x).ts = s.ts ∧ (s.setPort p x).host = s.host ∧ (s.setPort p x).sw = s.sw ∧ (s.setPort p x).banks = s.banks
    ∧ (s.setPort p x).rnd = s.rnd ∧ (s.setPort p x).keys = s.keys ∧ (s.setPort p x).bn = s.bn ∧ (s.setPort p x).mem = s.mem
    ∧ (s.setPort p x).flt = s.flt ∧ (s.setPort p x).mid = s.mid ∧ (s.setPort p x).plat = s.plat
    ∧ (s.setPort p x).trace = s.trace ∧ (s.setPort p x).free = s.free ∧ (s.setPort p x).pending = s.pending := by
  refine ⟨?_, ?_, ?_, ?_, ?_, ?_, ?_, ?_, ?_, ?_, ?_, ?_, ?_, ?_, ?_, ?_, ?_, ?_, ?_, ?_, ?_, ?_, ?_, ?_, ?_, ?_, ?_, ?_, ?_, ?_, ?_, ?_, ?_, ?_, ?_, ?_⟩ <;> rfl

/-- `updPort` changes `ports` only. -/
@[simp] theorem State.updPort_fields (s : State) (p : Nat) (f : PortS → PortS) :
    (s.updPort p f).time = s.time ∧ (s.updPort p f).leap = s.leap ∧ (s.updPort p f).snap = s.snap
    ∧ (s.updPort p f).stamps = s.stamps ∧ (s.updPort p f).pace = s.pace ∧ (s.updPort p f).tci = s.tci
    ∧ (s.updPort p f).intr = s.intr ∧ (s.updPort p f).evt = s.evt ∧ (s.updPort p f).win = s.win
    ∧ (s.updPort p f).sealLoop = s.sealLoop ∧ (s.updPort p f).inb = s.inb ∧ (s.updPort p f).fw = s.fw
    ∧ (s.updPort p f).meas = s.meas ∧ (s.updPort p f).ocxo = s.ocxo ∧ (s.updPort p f).refs = s.refs
    ∧ (s.updPort p f).sel = s.sel ∧ (s.updPort p f).hold = s.hold ∧ (s.updPort p f).outs = s.outs
    ∧ (s.updPort p f).gnss = s.gnss ∧ (s.updPort p f).dom = s.dom ∧ (s.updPort p f).cue = s.cue ∧ (s.updPort p f).cap = s.cap
    ∧ (s.updPort p f).ts = s.ts ∧ (s.updPort p f).host = s.host ∧ (s.updPort p f).sw = s.sw ∧ (s.updPort p f).banks = s.banks
    ∧ (s.updPort p f).rnd = s.rnd ∧ (s.updPort p f).keys = s.keys ∧ (s.updPort p f).bn = s.bn ∧ (s.updPort p f).mem = s.mem
    ∧ (s.updPort p f).flt = s.flt ∧ (s.updPort p f).mid = s.mid ∧ (s.updPort p f).plat = s.plat
    ∧ (s.updPort p f).trace = s.trace ∧ (s.updPort p f).free = s.free ∧ (s.updPort p f).pending = s.pending := by
  refine ⟨?_, ?_, ?_, ?_, ?_, ?_, ?_, ?_, ?_, ?_, ?_, ?_, ?_, ?_, ?_, ?_, ?_, ?_, ?_, ?_, ?_, ?_, ?_, ?_, ?_, ?_, ?_, ?_, ?_, ?_, ?_, ?_, ?_, ?_, ?_, ?_⟩ <;> rfl

/-- `updRef` changes `refs` only. -/
@[simp] theorem State.updRef_fields (s : State) (r : Nat) (f : RefS → RefS) :
    (s.updRef r f).time = s.time ∧ (s.updRef r f).leap = s.leap ∧ (s.updRef r f).snap = s.snap
    ∧ (s.updRef r f).stamps = s.stamps ∧ (s.updRef r f).pace = s.pace ∧ (s.updRef r f).tci = s.tci
    ∧ (s.updRef r f).intr = s.intr ∧ (s.updRef r f).evt = s.evt ∧ (s.updRef r f).win = s.win
    ∧ (s.updRef r f).sealLoop = s.sealLoop ∧ (s.updRef r f).inb = s.inb ∧ (s.updRef r f).fw = s.fw
    ∧ (s.updRef r f).meas = s.meas ∧ (s.updRef r f).ocxo = s.ocxo ∧ (s.updRef r f).sel = s.sel ∧ (s.updRef r f).hold = s.hold
    ∧ (s.updRef r f).outs = s.outs ∧ (s.updRef r f).gnss = s.gnss ∧ (s.updRef r f).dom = s.dom ∧ (s.updRef r f).cue = s.cue
    ∧ (s.updRef r f).cap = s.cap ∧ (s.updRef r f).ts = s.ts ∧ (s.updRef r f).ports = s.ports ∧ (s.updRef r f).host = s.host
    ∧ (s.updRef r f).sw = s.sw ∧ (s.updRef r f).banks = s.banks ∧ (s.updRef r f).rnd = s.rnd ∧ (s.updRef r f).keys = s.keys
    ∧ (s.updRef r f).bn = s.bn ∧ (s.updRef r f).mem = s.mem ∧ (s.updRef r f).flt = s.flt ∧ (s.updRef r f).mid = s.mid
    ∧ (s.updRef r f).plat = s.plat ∧ (s.updRef r f).trace = s.trace ∧ (s.updRef r f).free = s.free
    ∧ (s.updRef r f).pending = s.pending := by
  refine ⟨?_, ?_, ?_, ?_, ?_, ?_, ?_, ?_, ?_, ?_, ?_, ?_, ?_, ?_, ?_, ?_, ?_, ?_, ?_, ?_, ?_, ?_, ?_, ?_, ?_, ?_, ?_, ?_, ?_, ?_, ?_, ?_, ?_, ?_, ?_, ?_⟩ <;> rfl

/-- `updOut` changes `outs` only. -/
@[simp] theorem State.updOut_fields (s : State) (k : Nat) (f : OutS → OutS) :
    (s.updOut k f).time = s.time ∧ (s.updOut k f).leap = s.leap ∧ (s.updOut k f).snap = s.snap
    ∧ (s.updOut k f).stamps = s.stamps ∧ (s.updOut k f).pace = s.pace ∧ (s.updOut k f).tci = s.tci
    ∧ (s.updOut k f).intr = s.intr ∧ (s.updOut k f).evt = s.evt ∧ (s.updOut k f).win = s.win
    ∧ (s.updOut k f).sealLoop = s.sealLoop ∧ (s.updOut k f).inb = s.inb ∧ (s.updOut k f).fw = s.fw
    ∧ (s.updOut k f).meas = s.meas ∧ (s.updOut k f).ocxo = s.ocxo ∧ (s.updOut k f).refs = s.refs ∧ (s.updOut k f).sel = s.sel
    ∧ (s.updOut k f).hold = s.hold ∧ (s.updOut k f).gnss = s.gnss ∧ (s.updOut k f).dom = s.dom ∧ (s.updOut k f).cue = s.cue
    ∧ (s.updOut k f).cap = s.cap ∧ (s.updOut k f).ts = s.ts ∧ (s.updOut k f).ports = s.ports ∧ (s.updOut k f).host = s.host
    ∧ (s.updOut k f).sw = s.sw ∧ (s.updOut k f).banks = s.banks ∧ (s.updOut k f).rnd = s.rnd ∧ (s.updOut k f).keys = s.keys
    ∧ (s.updOut k f).bn = s.bn ∧ (s.updOut k f).mem = s.mem ∧ (s.updOut k f).flt = s.flt ∧ (s.updOut k f).mid = s.mid
    ∧ (s.updOut k f).plat = s.plat ∧ (s.updOut k f).trace = s.trace ∧ (s.updOut k f).free = s.free
    ∧ (s.updOut k f).pending = s.pending := by
  refine ⟨?_, ?_, ?_, ?_, ?_, ?_, ?_, ?_, ?_, ?_, ?_, ?_, ?_, ?_, ?_, ?_, ?_, ?_, ?_, ?_, ?_, ?_, ?_, ?_, ?_, ?_, ?_, ?_, ?_, ?_, ?_, ?_, ?_, ?_, ?_, ?_⟩ <;> rfl

/-- `updChan` changes `meas` only. -/
@[simp] theorem State.updChan_fields (s : State) (c : Nat) (f : Channel → Channel) :
    (s.updChan c f).time = s.time ∧ (s.updChan c f).leap = s.leap ∧ (s.updChan c f).snap = s.snap
    ∧ (s.updChan c f).stamps = s.stamps ∧ (s.updChan c f).pace = s.pace ∧ (s.updChan c f).tci = s.tci
    ∧ (s.updChan c f).intr = s.intr ∧ (s.updChan c f).evt = s.evt ∧ (s.updChan c f).win = s.win
    ∧ (s.updChan c f).sealLoop = s.sealLoop ∧ (s.updChan c f).inb = s.inb ∧ (s.updChan c f).fw = s.fw
    ∧ (s.updChan c f).ocxo = s.ocxo ∧ (s.updChan c f).refs = s.refs ∧ (s.updChan c f).sel = s.sel
    ∧ (s.updChan c f).hold = s.hold ∧ (s.updChan c f).outs = s.outs ∧ (s.updChan c f).gnss = s.gnss
    ∧ (s.updChan c f).dom = s.dom ∧ (s.updChan c f).cue = s.cue ∧ (s.updChan c f).cap = s.cap ∧ (s.updChan c f).ts = s.ts
    ∧ (s.updChan c f).ports = s.ports ∧ (s.updChan c f).host = s.host ∧ (s.updChan c f).sw = s.sw
    ∧ (s.updChan c f).banks = s.banks ∧ (s.updChan c f).rnd = s.rnd ∧ (s.updChan c f).keys = s.keys ∧ (s.updChan c f).bn = s.bn
    ∧ (s.updChan c f).mem = s.mem ∧ (s.updChan c f).flt = s.flt ∧ (s.updChan c f).mid = s.mid ∧ (s.updChan c f).plat = s.plat
    ∧ (s.updChan c f).trace = s.trace ∧ (s.updChan c f).free = s.free ∧ (s.updChan c f).pending = s.pending := by
  refine ⟨?_, ?_, ?_, ?_, ?_, ?_, ?_, ?_, ?_, ?_, ?_, ?_, ?_, ?_, ?_, ?_, ?_, ?_, ?_, ?_, ?_, ?_, ?_, ?_, ?_, ?_, ?_, ?_, ?_, ?_, ?_, ?_, ?_, ?_, ?_, ?_⟩ <;> rfl

/-- `updJob` changes `meas` only. -/
@[simp] theorem State.updJob_fields (s : State) (j : Nat) (f : Job → Job) :
    (s.updJob j f).time = s.time ∧ (s.updJob j f).leap = s.leap ∧ (s.updJob j f).snap = s.snap
    ∧ (s.updJob j f).stamps = s.stamps ∧ (s.updJob j f).pace = s.pace ∧ (s.updJob j f).tci = s.tci
    ∧ (s.updJob j f).intr = s.intr ∧ (s.updJob j f).evt = s.evt ∧ (s.updJob j f).win = s.win
    ∧ (s.updJob j f).sealLoop = s.sealLoop ∧ (s.updJob j f).inb = s.inb ∧ (s.updJob j f).fw = s.fw
    ∧ (s.updJob j f).ocxo = s.ocxo ∧ (s.updJob j f).refs = s.refs ∧ (s.updJob j f).sel = s.sel ∧ (s.updJob j f).hold = s.hold
    ∧ (s.updJob j f).outs = s.outs ∧ (s.updJob j f).gnss = s.gnss ∧ (s.updJob j f).dom = s.dom ∧ (s.updJob j f).cue = s.cue
    ∧ (s.updJob j f).cap = s.cap ∧ (s.updJob j f).ts = s.ts ∧ (s.updJob j f).ports = s.ports ∧ (s.updJob j f).host = s.host
    ∧ (s.updJob j f).sw = s.sw ∧ (s.updJob j f).banks = s.banks ∧ (s.updJob j f).rnd = s.rnd ∧ (s.updJob j f).keys = s.keys
    ∧ (s.updJob j f).bn = s.bn ∧ (s.updJob j f).mem = s.mem ∧ (s.updJob j f).flt = s.flt ∧ (s.updJob j f).mid = s.mid
    ∧ (s.updJob j f).plat = s.plat ∧ (s.updJob j f).trace = s.trace ∧ (s.updJob j f).free = s.free
    ∧ (s.updJob j f).pending = s.pending := by
  refine ⟨?_, ?_, ?_, ?_, ?_, ?_, ?_, ?_, ?_, ?_, ?_, ?_, ?_, ?_, ?_, ?_, ?_, ?_, ?_, ?_, ?_, ?_, ?_, ?_, ?_, ?_, ?_, ?_, ?_, ?_, ?_, ?_, ?_, ?_, ?_, ?_⟩ <;> rfl

/-- `updMailbox` changes `tci` only. -/
@[simp] theorem State.updMailbox_fields (s : State) (k : Nat) (f : Mailbox → Mailbox) :
    (s.updMailbox k f).time = s.time ∧ (s.updMailbox k f).leap = s.leap ∧ (s.updMailbox k f).snap = s.snap
    ∧ (s.updMailbox k f).stamps = s.stamps ∧ (s.updMailbox k f).pace = s.pace ∧ (s.updMailbox k f).intr = s.intr
    ∧ (s.updMailbox k f).evt = s.evt ∧ (s.updMailbox k f).win = s.win ∧ (s.updMailbox k f).sealLoop = s.sealLoop
    ∧ (s.updMailbox k f).inb = s.inb ∧ (s.updMailbox k f).fw = s.fw ∧ (s.updMailbox k f).meas = s.meas
    ∧ (s.updMailbox k f).ocxo = s.ocxo ∧ (s.updMailbox k f).refs = s.refs ∧ (s.updMailbox k f).sel = s.sel
    ∧ (s.updMailbox k f).hold = s.hold ∧ (s.updMailbox k f).outs = s.outs ∧ (s.updMailbox k f).gnss = s.gnss
    ∧ (s.updMailbox k f).dom = s.dom ∧ (s.updMailbox k f).cue = s.cue ∧ (s.updMailbox k f).cap = s.cap
    ∧ (s.updMailbox k f).ts = s.ts ∧ (s.updMailbox k f).ports = s.ports ∧ (s.updMailbox k f).host = s.host
    ∧ (s.updMailbox k f).sw = s.sw ∧ (s.updMailbox k f).banks = s.banks ∧ (s.updMailbox k f).rnd = s.rnd
    ∧ (s.updMailbox k f).keys = s.keys ∧ (s.updMailbox k f).bn = s.bn ∧ (s.updMailbox k f).mem = s.mem
    ∧ (s.updMailbox k f).flt = s.flt ∧ (s.updMailbox k f).mid = s.mid ∧ (s.updMailbox k f).plat = s.plat
    ∧ (s.updMailbox k f).trace = s.trace ∧ (s.updMailbox k f).free = s.free ∧ (s.updMailbox k f).pending = s.pending := by
  refine ⟨?_, ?_, ?_, ?_, ?_, ?_, ?_, ?_, ?_, ?_, ?_, ?_, ?_, ?_, ?_, ?_, ?_, ?_, ?_, ?_, ?_, ?_, ?_, ?_, ?_, ?_, ?_, ?_, ?_, ?_, ?_, ?_, ?_, ?_, ?_, ?_⟩ <;> rfl

/-- `updSrc` changes `flt` only. -/
@[simp] theorem State.updSrc_fields (s : State) (c : Nat) (f : SrcS → SrcS) :
    (s.updSrc c f).time = s.time ∧ (s.updSrc c f).leap = s.leap ∧ (s.updSrc c f).snap = s.snap
    ∧ (s.updSrc c f).stamps = s.stamps ∧ (s.updSrc c f).pace = s.pace ∧ (s.updSrc c f).tci = s.tci
    ∧ (s.updSrc c f).intr = s.intr ∧ (s.updSrc c f).evt = s.evt ∧ (s.updSrc c f).win = s.win
    ∧ (s.updSrc c f).sealLoop = s.sealLoop ∧ (s.updSrc c f).inb = s.inb ∧ (s.updSrc c f).fw = s.fw
    ∧ (s.updSrc c f).meas = s.meas ∧ (s.updSrc c f).ocxo = s.ocxo ∧ (s.updSrc c f).refs = s.refs ∧ (s.updSrc c f).sel = s.sel
    ∧ (s.updSrc c f).hold = s.hold ∧ (s.updSrc c f).outs = s.outs ∧ (s.updSrc c f).gnss = s.gnss ∧ (s.updSrc c f).dom = s.dom
    ∧ (s.updSrc c f).cue = s.cue ∧ (s.updSrc c f).cap = s.cap ∧ (s.updSrc c f).ts = s.ts ∧ (s.updSrc c f).ports = s.ports
    ∧ (s.updSrc c f).host = s.host ∧ (s.updSrc c f).sw = s.sw ∧ (s.updSrc c f).banks = s.banks ∧ (s.updSrc c f).rnd = s.rnd
    ∧ (s.updSrc c f).keys = s.keys ∧ (s.updSrc c f).bn = s.bn ∧ (s.updSrc c f).mem = s.mem ∧ (s.updSrc c f).mid = s.mid
    ∧ (s.updSrc c f).plat = s.plat ∧ (s.updSrc c f).trace = s.trace ∧ (s.updSrc c f).free = s.free
    ∧ (s.updSrc c f).pending = s.pending := by
  refine ⟨?_, ?_, ?_, ?_, ?_, ?_, ?_, ?_, ?_, ?_, ?_, ?_, ?_, ?_, ?_, ?_, ?_, ?_, ?_, ?_, ?_, ?_, ?_, ?_, ?_, ?_, ?_, ?_, ?_, ?_, ?_, ?_, ?_, ?_, ?_, ?_⟩ <;> rfl

/-- `setRecord` changes `flt` only. -/
@[simp] theorem State.setRecord_fields (s : State) (i : Nat) (r : Record) :
    (s.setRecord i r).time = s.time ∧ (s.setRecord i r).leap = s.leap ∧ (s.setRecord i r).snap = s.snap
    ∧ (s.setRecord i r).stamps = s.stamps ∧ (s.setRecord i r).pace = s.pace ∧ (s.setRecord i r).tci = s.tci
    ∧ (s.setRecord i r).intr = s.intr ∧ (s.setRecord i r).evt = s.evt ∧ (s.setRecord i r).win = s.win
    ∧ (s.setRecord i r).sealLoop = s.sealLoop ∧ (s.setRecord i r).inb = s.inb ∧ (s.setRecord i r).fw = s.fw
    ∧ (s.setRecord i r).meas = s.meas ∧ (s.setRecord i r).ocxo = s.ocxo ∧ (s.setRecord i r).refs = s.refs
    ∧ (s.setRecord i r).sel = s.sel ∧ (s.setRecord i r).hold = s.hold ∧ (s.setRecord i r).outs = s.outs
    ∧ (s.setRecord i r).gnss = s.gnss ∧ (s.setRecord i r).dom = s.dom ∧ (s.setRecord i r).cue = s.cue
    ∧ (s.setRecord i r).cap = s.cap ∧ (s.setRecord i r).ts = s.ts ∧ (s.setRecord i r).ports = s.ports
    ∧ (s.setRecord i r).host = s.host ∧ (s.setRecord i r).sw = s.sw ∧ (s.setRecord i r).banks = s.banks
    ∧ (s.setRecord i r).rnd = s.rnd ∧ (s.setRecord i r).keys = s.keys ∧ (s.setRecord i r).bn = s.bn
    ∧ (s.setRecord i r).mem = s.mem ∧ (s.setRecord i r).mid = s.mid ∧ (s.setRecord i r).plat = s.plat
    ∧ (s.setRecord i r).trace = s.trace ∧ (s.setRecord i r).free = s.free ∧ (s.setRecord i r).pending = s.pending := by
  refine ⟨?_, ?_, ?_, ?_, ?_, ?_, ?_, ?_, ?_, ?_, ?_, ?_, ?_, ?_, ?_, ?_, ?_, ?_, ?_, ?_, ?_, ?_, ?_, ?_, ?_, ?_, ?_, ?_, ?_, ?_, ?_, ?_, ?_, ?_, ?_, ?_⟩ <;> rfl

/-- `updRecord` changes `flt` only. -/
@[simp] theorem State.updRecord_fields (s : State) (i : Nat) (f : Record → Record) :
    (s.updRecord i f).time = s.time ∧ (s.updRecord i f).leap = s.leap ∧ (s.updRecord i f).snap = s.snap
    ∧ (s.updRecord i f).stamps = s.stamps ∧ (s.updRecord i f).pace = s.pace ∧ (s.updRecord i f).tci = s.tci
    ∧ (s.updRecord i f).intr = s.intr ∧ (s.updRecord i f).evt = s.evt ∧ (s.updRecord i f).win = s.win
    ∧ (s.updRecord i f).sealLoop = s.sealLoop ∧ (s.updRecord i f).inb = s.inb ∧ (s.updRecord i f).fw = s.fw
    ∧ (s.updRecord i f).meas = s.meas ∧ (s.updRecord i f).ocxo = s.ocxo ∧ (s.updRecord i f).refs = s.refs
    ∧ (s.updRecord i f).sel = s.sel ∧ (s.updRecord i f).hold = s.hold ∧ (s.updRecord i f).outs = s.outs
    ∧ (s.updRecord i f).gnss = s.gnss ∧ (s.updRecord i f).dom = s.dom ∧ (s.updRecord i f).cue = s.cue
    ∧ (s.updRecord i f).cap = s.cap ∧ (s.updRecord i f).ts = s.ts ∧ (s.updRecord i f).ports = s.ports
    ∧ (s.updRecord i f).host = s.host ∧ (s.updRecord i f).sw = s.sw ∧ (s.updRecord i f).banks = s.banks
    ∧ (s.updRecord i f).rnd = s.rnd ∧ (s.updRecord i f).keys = s.keys ∧ (s.updRecord i f).bn = s.bn
    ∧ (s.updRecord i f).mem = s.mem ∧ (s.updRecord i f).mid = s.mid ∧ (s.updRecord i f).plat = s.plat
    ∧ (s.updRecord i f).trace = s.trace ∧ (s.updRecord i f).free = s.free ∧ (s.updRecord i f).pending = s.pending := by
  refine ⟨?_, ?_, ?_, ?_, ?_, ?_, ?_, ?_, ?_, ?_, ?_, ?_, ?_, ?_, ?_, ?_, ?_, ?_, ?_, ?_, ?_, ?_, ?_, ?_, ?_, ?_, ?_, ?_, ?_, ?_, ?_, ?_, ?_, ?_, ?_, ?_⟩ <;> rfl

/-- `updRing` changes `host` only. -/
@[simp] theorem State.updRing_fields (s : State) (k : Nat) (f : Ring → Ring) :
    (s.updRing k f).time = s.time ∧ (s.updRing k f).leap = s.leap ∧ (s.updRing k f).snap = s.snap
    ∧ (s.updRing k f).stamps = s.stamps ∧ (s.updRing k f).pace = s.pace ∧ (s.updRing k f).tci = s.tci
    ∧ (s.updRing k f).intr = s.intr ∧ (s.updRing k f).evt = s.evt ∧ (s.updRing k f).win = s.win
    ∧ (s.updRing k f).sealLoop = s.sealLoop ∧ (s.updRing k f).inb = s.inb ∧ (s.updRing k f).fw = s.fw
    ∧ (s.updRing k f).meas = s.meas ∧ (s.updRing k f).ocxo = s.ocxo ∧ (s.updRing k f).refs = s.refs
    ∧ (s.updRing k f).sel = s.sel ∧ (s.updRing k f).hold = s.hold ∧ (s.updRing k f).outs = s.outs
    ∧ (s.updRing k f).gnss = s.gnss ∧ (s.updRing k f).dom = s.dom ∧ (s.updRing k f).cue = s.cue ∧ (s.updRing k f).cap = s.cap
    ∧ (s.updRing k f).ts = s.ts ∧ (s.updRing k f).ports = s.ports ∧ (s.updRing k f).sw = s.sw ∧ (s.updRing k f).banks = s.banks
    ∧ (s.updRing k f).rnd = s.rnd ∧ (s.updRing k f).keys = s.keys ∧ (s.updRing k f).bn = s.bn ∧ (s.updRing k f).mem = s.mem
    ∧ (s.updRing k f).flt = s.flt ∧ (s.updRing k f).mid = s.mid ∧ (s.updRing k f).plat = s.plat
    ∧ (s.updRing k f).trace = s.trace ∧ (s.updRing k f).free = s.free ∧ (s.updRing k f).pending = s.pending := by
  refine ⟨?_, ?_, ?_, ?_, ?_, ?_, ?_, ?_, ?_, ?_, ?_, ?_, ?_, ?_, ?_, ?_, ?_, ?_, ?_, ?_, ?_, ?_, ?_, ?_, ?_, ?_, ?_, ?_, ?_, ?_, ?_, ?_, ?_, ?_, ?_, ?_⟩ <;> rfl

/-- `updMirror` changes `sw` only. -/
@[simp] theorem State.updMirror_fields (s : State) (k : Nat) (f : Mirror → Mirror) :
    (s.updMirror k f).time = s.time ∧ (s.updMirror k f).leap = s.leap ∧ (s.updMirror k f).snap = s.snap
    ∧ (s.updMirror k f).stamps = s.stamps ∧ (s.updMirror k f).pace = s.pace ∧ (s.updMirror k f).tci = s.tci
    ∧ (s.updMirror k f).intr = s.intr ∧ (s.updMirror k f).evt = s.evt ∧ (s.updMirror k f).win = s.win
    ∧ (s.updMirror k f).sealLoop = s.sealLoop ∧ (s.updMirror k f).inb = s.inb ∧ (s.updMirror k f).fw = s.fw
    ∧ (s.updMirror k f).meas = s.meas ∧ (s.updMirror k f).ocxo = s.ocxo ∧ (s.updMirror k f).refs = s.refs
    ∧ (s.updMirror k f).sel = s.sel ∧ (s.updMirror k f).hold = s.hold ∧ (s.updMirror k f).outs = s.outs
    ∧ (s.updMirror k f).gnss = s.gnss ∧ (s.updMirror k f).dom = s.dom ∧ (s.updMirror k f).cue = s.cue
    ∧ (s.updMirror k f).cap = s.cap ∧ (s.updMirror k f).ts = s.ts ∧ (s.updMirror k f).ports = s.ports
    ∧ (s.updMirror k f).host = s.host ∧ (s.updMirror k f).banks = s.banks ∧ (s.updMirror k f).rnd = s.rnd
    ∧ (s.updMirror k f).keys = s.keys ∧ (s.updMirror k f).bn = s.bn ∧ (s.updMirror k f).mem = s.mem
    ∧ (s.updMirror k f).flt = s.flt ∧ (s.updMirror k f).mid = s.mid ∧ (s.updMirror k f).plat = s.plat
    ∧ (s.updMirror k f).trace = s.trace ∧ (s.updMirror k f).free = s.free ∧ (s.updMirror k f).pending = s.pending := by
  refine ⟨?_, ?_, ?_, ?_, ?_, ?_, ?_, ?_, ?_, ?_, ?_, ?_, ?_, ?_, ?_, ?_, ?_, ?_, ?_, ?_, ?_, ?_, ?_, ?_, ?_, ?_, ?_, ?_, ?_, ?_, ?_, ?_, ?_, ?_, ?_, ?_⟩ <;> rfl

/-- `updTrunk` changes `ports` only. -/
@[simp] theorem State.updTrunk_fields (s : State) (p : Nat) (f : Trunk → Trunk) :
    (s.updTrunk p f).time = s.time ∧ (s.updTrunk p f).leap = s.leap ∧ (s.updTrunk p f).snap = s.snap
    ∧ (s.updTrunk p f).stamps = s.stamps ∧ (s.updTrunk p f).pace = s.pace ∧ (s.updTrunk p f).tci = s.tci
    ∧ (s.updTrunk p f).intr = s.intr ∧ (s.updTrunk p f).evt = s.evt ∧ (s.updTrunk p f).win = s.win
    ∧ (s.updTrunk p f).sealLoop = s.sealLoop ∧ (s.updTrunk p f).inb = s.inb ∧ (s.updTrunk p f).fw = s.fw
    ∧ (s.updTrunk p f).meas = s.meas ∧ (s.updTrunk p f).ocxo = s.ocxo ∧ (s.updTrunk p f).refs = s.refs
    ∧ (s.updTrunk p f).sel = s.sel ∧ (s.updTrunk p f).hold = s.hold ∧ (s.updTrunk p f).outs = s.outs
    ∧ (s.updTrunk p f).gnss = s.gnss ∧ (s.updTrunk p f).dom = s.dom ∧ (s.updTrunk p f).cue = s.cue
    ∧ (s.updTrunk p f).cap = s.cap ∧ (s.updTrunk p f).ts = s.ts ∧ (s.updTrunk p f).host = s.host ∧ (s.updTrunk p f).sw = s.sw
    ∧ (s.updTrunk p f).banks = s.banks ∧ (s.updTrunk p f).rnd = s.rnd ∧ (s.updTrunk p f).keys = s.keys
    ∧ (s.updTrunk p f).bn = s.bn ∧ (s.updTrunk p f).mem = s.mem ∧ (s.updTrunk p f).flt = s.flt ∧ (s.updTrunk p f).mid = s.mid
    ∧ (s.updTrunk p f).plat = s.plat ∧ (s.updTrunk p f).trace = s.trace ∧ (s.updTrunk p f).free = s.free
    ∧ (s.updTrunk p f).pending = s.pending := by
  refine ⟨?_, ?_, ?_, ?_, ?_, ?_, ?_, ?_, ?_, ?_, ?_, ?_, ?_, ?_, ?_, ?_, ?_, ?_, ?_, ?_, ?_, ?_, ?_, ?_, ?_, ?_, ?_, ?_, ?_, ?_, ?_, ?_, ?_, ?_, ?_, ?_⟩ <;> rfl

/-- `setLine` changes `mem` only. -/
@[simp] theorem State.setLine_fields (s : State) (k : Nat) (l : LineS) :
    (s.setLine k l).time = s.time ∧ (s.setLine k l).leap = s.leap ∧ (s.setLine k l).snap = s.snap
    ∧ (s.setLine k l).stamps = s.stamps ∧ (s.setLine k l).pace = s.pace ∧ (s.setLine k l).tci = s.tci
    ∧ (s.setLine k l).intr = s.intr ∧ (s.setLine k l).evt = s.evt ∧ (s.setLine k l).win = s.win
    ∧ (s.setLine k l).sealLoop = s.sealLoop ∧ (s.setLine k l).inb = s.inb ∧ (s.setLine k l).fw = s.fw
    ∧ (s.setLine k l).meas = s.meas ∧ (s.setLine k l).ocxo = s.ocxo ∧ (s.setLine k l).refs = s.refs
    ∧ (s.setLine k l).sel = s.sel ∧ (s.setLine k l).hold = s.hold ∧ (s.setLine k l).outs = s.outs
    ∧ (s.setLine k l).gnss = s.gnss ∧ (s.setLine k l).dom = s.dom ∧ (s.setLine k l).cue = s.cue ∧ (s.setLine k l).cap = s.cap
    ∧ (s.setLine k l).ts = s.ts ∧ (s.setLine k l).ports = s.ports ∧ (s.setLine k l).host = s.host ∧ (s.setLine k l).sw = s.sw
    ∧ (s.setLine k l).banks = s.banks ∧ (s.setLine k l).rnd = s.rnd ∧ (s.setLine k l).keys = s.keys ∧ (s.setLine k l).bn = s.bn
    ∧ (s.setLine k l).flt = s.flt ∧ (s.setLine k l).mid = s.mid ∧ (s.setLine k l).plat = s.plat
    ∧ (s.setLine k l).trace = s.trace ∧ (s.setLine k l).free = s.free ∧ (s.setLine k l).pending = s.pending := by
  refine ⟨?_, ?_, ?_, ?_, ?_, ?_, ?_, ?_, ?_, ?_, ?_, ?_, ?_, ?_, ?_, ?_, ?_, ?_, ?_, ?_, ?_, ?_, ?_, ?_, ?_, ?_, ?_, ?_, ?_, ?_, ?_, ?_, ?_, ?_, ?_, ?_⟩ <;> rfl

/-- Ringing changes the command path only. -/
@[simp] theorem State.rung_fields (s : State) (op : Nat) (q : Req) (k : Nat) :
    (s.rung op q k).time = s.time ∧ (s.rung op q k).leap = s.leap ∧ (s.rung op q k).snap = s.snap
    ∧ (s.rung op q k).stamps = s.stamps ∧ (s.rung op q k).pace = s.pace ∧ (s.rung op q k).intr = s.intr
    ∧ (s.rung op q k).evt = s.evt ∧ (s.rung op q k).win = s.win ∧ (s.rung op q k).sealLoop = s.sealLoop
    ∧ (s.rung op q k).inb = s.inb ∧ (s.rung op q k).fw = s.fw ∧ (s.rung op q k).meas = s.meas ∧ (s.rung op q k).ocxo = s.ocxo
    ∧ (s.rung op q k).refs = s.refs ∧ (s.rung op q k).sel = s.sel ∧ (s.rung op q k).hold = s.hold
    ∧ (s.rung op q k).outs = s.outs ∧ (s.rung op q k).gnss = s.gnss ∧ (s.rung op q k).dom = s.dom ∧ (s.rung op q k).cue = s.cue
    ∧ (s.rung op q k).cap = s.cap ∧ (s.rung op q k).ts = s.ts ∧ (s.rung op q k).ports = s.ports ∧ (s.rung op q k).host = s.host
    ∧ (s.rung op q k).sw = s.sw ∧ (s.rung op q k).banks = s.banks ∧ (s.rung op q k).rnd = s.rnd ∧ (s.rung op q k).keys = s.keys
    ∧ (s.rung op q k).bn = s.bn ∧ (s.rung op q k).mem = s.mem ∧ (s.rung op q k).flt = s.flt ∧ (s.rung op q k).mid = s.mid
    ∧ (s.rung op q k).plat = s.plat ∧ (s.rung op q k).trace = s.trace ∧ (s.rung op q k).free = s.free
    ∧ (s.rung op q k).pending = s.pending := by
  refine ⟨?_, ?_, ?_, ?_, ?_, ?_, ?_, ?_, ?_, ?_, ?_, ?_, ?_, ?_, ?_, ?_, ?_, ?_, ?_, ?_, ?_, ?_, ?_, ?_, ?_, ?_, ?_, ?_, ?_, ?_, ?_, ?_, ?_, ?_, ?_, ?_⟩ <;> rfl

/-- Waiting changes the command path only. -/
@[simp] theorem State.aside_fields (s : State) (op : Nat) (q : Req) (w : Wait) :
    (s.aside op q w).time = s.time ∧ (s.aside op q w).leap = s.leap ∧ (s.aside op q w).snap = s.snap
    ∧ (s.aside op q w).stamps = s.stamps ∧ (s.aside op q w).pace = s.pace ∧ (s.aside op q w).intr = s.intr
    ∧ (s.aside op q w).evt = s.evt ∧ (s.aside op q w).win = s.win ∧ (s.aside op q w).sealLoop = s.sealLoop
    ∧ (s.aside op q w).inb = s.inb ∧ (s.aside op q w).fw = s.fw ∧ (s.aside op q w).meas = s.meas
    ∧ (s.aside op q w).ocxo = s.ocxo ∧ (s.aside op q w).refs = s.refs ∧ (s.aside op q w).sel = s.sel
    ∧ (s.aside op q w).hold = s.hold ∧ (s.aside op q w).outs = s.outs ∧ (s.aside op q w).gnss = s.gnss
    ∧ (s.aside op q w).dom = s.dom ∧ (s.aside op q w).cue = s.cue ∧ (s.aside op q w).cap = s.cap ∧ (s.aside op q w).ts = s.ts
    ∧ (s.aside op q w).ports = s.ports ∧ (s.aside op q w).host = s.host ∧ (s.aside op q w).sw = s.sw
    ∧ (s.aside op q w).banks = s.banks ∧ (s.aside op q w).rnd = s.rnd ∧ (s.aside op q w).keys = s.keys
    ∧ (s.aside op q w).bn = s.bn ∧ (s.aside op q w).mem = s.mem ∧ (s.aside op q w).flt = s.flt ∧ (s.aside op q w).mid = s.mid
    ∧ (s.aside op q w).plat = s.plat ∧ (s.aside op q w).trace = s.trace ∧ (s.aside op q w).free = s.free
    ∧ (s.aside op q w).pending = s.pending := by
  refine ⟨?_, ?_, ?_, ?_, ?_, ?_, ?_, ?_, ?_, ?_, ?_, ?_, ?_, ?_, ?_, ?_, ?_, ?_, ?_, ?_, ?_, ?_, ?_, ?_, ?_, ?_, ?_, ?_, ?_, ?_, ?_, ?_, ?_, ?_, ?_, ?_⟩ <;> rfl

/-- A response changes the command path, the interrupts and the trace only. -/
@[simp] theorem State.writeResponse_fields (s : State) (k : Nat) (quiet : Bool) (r : Resp) :
    (s.writeResponse k quiet r).time = s.time ∧ (s.writeResponse k quiet r).leap = s.leap
    ∧ (s.writeResponse k quiet r).snap = s.snap ∧ (s.writeResponse k quiet r).stamps = s.stamps
    ∧ (s.writeResponse k quiet r).pace = s.pace ∧ (s.writeResponse k quiet r).win = s.win
    ∧ (s.writeResponse k quiet r).sealLoop = s.sealLoop ∧ (s.writeResponse k quiet r).inb = s.inb
    ∧ (s.writeResponse k quiet r).fw = s.fw ∧ (s.writeResponse k quiet r).meas = s.meas
    ∧ (s.writeResponse k quiet r).ocxo = s.ocxo ∧ (s.writeResponse k quiet r).refs = s.refs
    ∧ (s.writeResponse k quiet r).sel = s.sel ∧ (s.writeResponse k quiet r).hold = s.hold
    ∧ (s.writeResponse k quiet r).outs = s.outs ∧ (s.writeResponse k quiet r).gnss = s.gnss
    ∧ (s.writeResponse k quiet r).dom = s.dom ∧ (s.writeResponse k quiet r).cue = s.cue
    ∧ (s.writeResponse k quiet r).cap = s.cap ∧ (s.writeResponse k quiet r).ts = s.ts
    ∧ (s.writeResponse k quiet r).ports = s.ports ∧ (s.writeResponse k quiet r).host = s.host
    ∧ (s.writeResponse k quiet r).sw = s.sw ∧ (s.writeResponse k quiet r).banks = s.banks
    ∧ (s.writeResponse k quiet r).rnd = s.rnd ∧ (s.writeResponse k quiet r).keys = s.keys
    ∧ (s.writeResponse k quiet r).bn = s.bn ∧ (s.writeResponse k quiet r).mem = s.mem ∧ (s.writeResponse k quiet r).flt = s.flt
    ∧ (s.writeResponse k quiet r).mid = s.mid ∧ (s.writeResponse k quiet r).plat = s.plat
    ∧ (s.writeResponse k quiet r).free = s.free ∧ (s.writeResponse k quiet r).pending = s.pending := by
  cases quiet
  · simp only [State.writeResponse]
    refine ⟨?_, ?_, ?_, ?_, ?_, ?_, ?_, ?_, ?_, ?_, ?_, ?_, ?_, ?_, ?_, ?_, ?_, ?_, ?_, ?_, ?_, ?_, ?_, ?_, ?_, ?_, ?_, ?_, ?_, ?_, ?_, ?_, ?_⟩ <;> simp [State.updMailbox]
  · refine ⟨?_, ?_, ?_, ?_, ?_, ?_, ?_, ?_, ?_, ?_, ?_, ?_, ?_, ?_, ?_, ?_, ?_, ?_, ?_, ?_, ?_, ?_, ?_, ?_, ?_, ?_, ?_, ?_, ?_, ?_, ?_, ?_, ?_⟩ <;> rfl

/-- An answer changes the command path, the interrupts and the trace only. -/
@[simp] theorem State.reply_fields (s : State) (op : Nat) (q : Req) (k st : Nat) (p : Fields) :
    (s.reply op q k st p).time = s.time ∧ (s.reply op q k st p).leap = s.leap ∧ (s.reply op q k st p).snap = s.snap
    ∧ (s.reply op q k st p).stamps = s.stamps ∧ (s.reply op q k st p).pace = s.pace ∧ (s.reply op q k st p).win = s.win
    ∧ (s.reply op q k st p).sealLoop = s.sealLoop ∧ (s.reply op q k st p).inb = s.inb ∧ (s.reply op q k st p).fw = s.fw
    ∧ (s.reply op q k st p).meas = s.meas ∧ (s.reply op q k st p).ocxo = s.ocxo ∧ (s.reply op q k st p).refs = s.refs
    ∧ (s.reply op q k st p).sel = s.sel ∧ (s.reply op q k st p).hold = s.hold ∧ (s.reply op q k st p).outs = s.outs
    ∧ (s.reply op q k st p).gnss = s.gnss ∧ (s.reply op q k st p).dom = s.dom ∧ (s.reply op q k st p).cue = s.cue
    ∧ (s.reply op q k st p).cap = s.cap ∧ (s.reply op q k st p).ts = s.ts ∧ (s.reply op q k st p).ports = s.ports
    ∧ (s.reply op q k st p).host = s.host ∧ (s.reply op q k st p).sw = s.sw ∧ (s.reply op q k st p).banks = s.banks
    ∧ (s.reply op q k st p).rnd = s.rnd ∧ (s.reply op q k st p).keys = s.keys ∧ (s.reply op q k st p).bn = s.bn
    ∧ (s.reply op q k st p).mem = s.mem ∧ (s.reply op q k st p).flt = s.flt ∧ (s.reply op q k st p).mid = s.mid
    ∧ (s.reply op q k st p).plat = s.plat ∧ (s.reply op q k st p).free = s.free ∧ (s.reply op q k st p).pending = s.pending := by
  simp [State.reply]

@[simp] theorem State.reply_mailbox (s : State) (op : Nat) (q : Req) (k st : Nat) (p : Fields) :
    ((s.reply op q k st p).mailbox k).state = .done
    ∧ ((s.reply op q k st p).mailbox k).resp = some { opcode := op, seq := q.seq, status := st, payload := p } := by
  unfold State.reply State.writeResponse
  dsimp only
  split
  · simp
  · simp [State.mailbox, State.updMailbox]

@[simp] theorem State.reply_aside (s : State) (op : Nat) (q : Req) (k st : Nat) (p : Fields) :
    (s.reply op q k st p).tci.aside = s.tci.aside ∧ (s.reply op q k st p).tci.rung = s.tci.rung := by
  unfold State.reply State.writeResponse
  dsimp only
  split
  · exact ⟨rfl, rfl⟩
  · simp [State.updMailbox]

@[simp] theorem State.rung_tci (s : State) (op : Nat) (q : Req) (k : Nat) :
    (s.rung op q k).tci.aside = s.tci.aside ∧ (s.rung op q k).tci.rung = s.tci.rung
    ∧ ((s.rung op q k).mailbox k).state = .busy := by
  refine ⟨rfl, rfl, ?_⟩
  simp [State.rung]

@[simp] theorem State.aside_aside (s : State) (op : Nat) (q : Req) (w : Wait) :
    (s.aside op q w).tci.aside = s.tci.aside ++ [{ w with opcode := op, req := q }] := rfl

/-- A domain frame sent changes the domain's send count and its queue of frames only. -/
@[simp] theorem State.sendDomain_fields (s : State) (p kind : Nat) (f : Fields) :
    (s.sendDomain p kind f).time = s.time ∧ (s.sendDomain p kind f).leap = s.leap ∧ (s.sendDomain p kind f).snap = s.snap
    ∧ (s.sendDomain p kind f).stamps = s.stamps ∧ (s.sendDomain p kind f).pace = s.pace ∧ (s.sendDomain p kind f).tci = s.tci
    ∧ (s.sendDomain p kind f).intr = s.intr ∧ (s.sendDomain p kind f).evt = s.evt ∧ (s.sendDomain p kind f).win = s.win
    ∧ (s.sendDomain p kind f).sealLoop = s.sealLoop ∧ (s.sendDomain p kind f).inb = s.inb ∧ (s.sendDomain p kind f).fw = s.fw
    ∧ (s.sendDomain p kind f).meas = s.meas ∧ (s.sendDomain p kind f).ocxo = s.ocxo ∧ (s.sendDomain p kind f).refs = s.refs
    ∧ (s.sendDomain p kind f).sel = s.sel ∧ (s.sendDomain p kind f).hold = s.hold ∧ (s.sendDomain p kind f).outs = s.outs
    ∧ (s.sendDomain p kind f).gnss = s.gnss ∧ (s.sendDomain p kind f).cue = s.cue ∧ (s.sendDomain p kind f).cap = s.cap
    ∧ (s.sendDomain p kind f).ts = s.ts ∧ (s.sendDomain p kind f).ports = s.ports ∧ (s.sendDomain p kind f).host = s.host
    ∧ (s.sendDomain p kind f).sw = s.sw ∧ (s.sendDomain p kind f).banks = s.banks ∧ (s.sendDomain p kind f).rnd = s.rnd
    ∧ (s.sendDomain p kind f).keys = s.keys ∧ (s.sendDomain p kind f).bn = s.bn ∧ (s.sendDomain p kind f).mem = s.mem
    ∧ (s.sendDomain p kind f).flt = s.flt ∧ (s.sendDomain p kind f).mid = s.mid ∧ (s.sendDomain p kind f).plat = s.plat
    ∧ (s.sendDomain p kind f).trace = s.trace ∧ (s.sendDomain p kind f).free = s.free
    ∧ (s.sendDomain p kind f).pending = s.pending := by
  unfold State.sendDomain
  cases s.domainKey <;> split <;> (refine ⟨?_, ?_, ?_, ?_, ?_, ?_, ?_, ?_, ?_, ?_, ?_, ?_, ?_, ?_, ?_, ?_, ?_, ?_, ?_, ?_, ?_, ?_, ?_, ?_, ?_, ?_, ?_, ?_, ?_, ?_, ?_, ?_, ?_, ?_, ?_, ?_⟩ <;> rfl)

/-- An answer changes the command path, the interrupts, the events, the domain's send queue and the trace only. -/
@[simp] theorem State.respond_fields (s : State) (q : Req) (op st : Nat) (p : Fields) :
    (s.respond q op st p).time = s.time ∧ (s.respond q op st p).leap = s.leap ∧ (s.respond q op st p).snap = s.snap
    ∧ (s.respond q op st p).stamps = s.stamps ∧ (s.respond q op st p).pace = s.pace ∧ (s.respond q op st p).win = s.win
    ∧ (s.respond q op st p).sealLoop = s.sealLoop ∧ (s.respond q op st p).inb = s.inb ∧ (s.respond q op st p).fw = s.fw
    ∧ (s.respond q op st p).meas = s.meas ∧ (s.respond q op st p).ocxo = s.ocxo ∧ (s.respond q op st p).refs = s.refs
    ∧ (s.respond q op st p).sel = s.sel ∧ (s.respond q op st p).hold = s.hold ∧ (s.respond q op st p).outs = s.outs
    ∧ (s.respond q op st p).gnss = s.gnss ∧ (s.respond q op st p).cue = s.cue ∧ (s.respond q op st p).cap = s.cap
    ∧ (s.respond q op st p).ts = s.ts ∧ (s.respond q op st p).ports = s.ports ∧ (s.respond q op st p).host = s.host
    ∧ (s.respond q op st p).sw = s.sw ∧ (s.respond q op st p).banks = s.banks ∧ (s.respond q op st p).rnd = s.rnd
    ∧ (s.respond q op st p).keys = s.keys ∧ (s.respond q op st p).bn = s.bn ∧ (s.respond q op st p).mem = s.mem
    ∧ (s.respond q op st p).flt = s.flt ∧ (s.respond q op st p).mid = s.mid ∧ (s.respond q op st p).plat = s.plat
    ∧ (s.respond q op st p).free = s.free ∧ (s.respond q op st p).pending = s.pending := by
  unfold State.respond
  cases q.src with
  | host k => simp
  | inband port origin txn => simp

@[simp] theorem State.postWindow_fields (s : State) (op st : Nat) :
    (s.postWindow op st).time = s.time ∧ (s.postWindow op st).leap = s.leap ∧ (s.postWindow op st).snap = s.snap
    ∧ (s.postWindow op st).stamps = s.stamps ∧ (s.postWindow op st).pace = s.pace ∧ (s.postWindow op st).tci = s.tci
    ∧ (s.postWindow op st).win = s.win ∧ (s.postWindow op st).sealLoop = s.sealLoop ∧ (s.postWindow op st).inb = s.inb
    ∧ (s.postWindow op st).fw = s.fw ∧ (s.postWindow op st).meas = s.meas ∧ (s.postWindow op st).ocxo = s.ocxo
    ∧ (s.postWindow op st).refs = s.refs ∧ (s.postWindow op st).sel = s.sel ∧ (s.postWindow op st).hold = s.hold
    ∧ (s.postWindow op st).outs = s.outs ∧ (s.postWindow op st).gnss = s.gnss ∧ (s.postWindow op st).dom = s.dom
    ∧ (s.postWindow op st).cue = s.cue ∧ (s.postWindow op st).cap = s.cap ∧ (s.postWindow op st).ts = s.ts
    ∧ (s.postWindow op st).ports = s.ports ∧ (s.postWindow op st).host = s.host ∧ (s.postWindow op st).sw = s.sw
    ∧ (s.postWindow op st).banks = s.banks ∧ (s.postWindow op st).rnd = s.rnd ∧ (s.postWindow op st).keys = s.keys
    ∧ (s.postWindow op st).bn = s.bn ∧ (s.postWindow op st).mem = s.mem ∧ (s.postWindow op st).flt = s.flt
    ∧ (s.postWindow op st).mid = s.mid ∧ (s.postWindow op st).plat = s.plat ∧ (s.postWindow op st).free = s.free
    ∧ (s.postWindow op st).pending = s.pending := Reports.fields (reports_post _ _ s)

/-- What each step of a fold keeps, the fold keeps. -/
theorem foldl_keeps {α β : Type} (p : State → β) (g : State → α → State) (l : List α) (s : State)
    (h : ∀ t a, p (g t a) = p t) : p (l.foldl g s) = p s := by
  induction l generalizing s with
  | nil => rfl
  | cons a l ih => rw [List.foldl_cons, ih, h]

@[simp] theorem State.rung_nowU (s : State) (op : Nat) (q : Req) (k : Nat) : (s.rung op q k).nowU = s.nowU := rfl

end Sys2Proof.Machine
end

