-- ==== Sys2Proof/Tests/Slice0.lean ====
section
/-!
SUPPORT. Tests of the model: that the well-formedness checks refuse what they should, that each statement's premises are met
by a state and operands that can be named, and a few worked values of the manual.
-/
open Sys2Proof Sys2Proof.Machine Sys2Proof.Config
set_option Elab.async false

/-- Ill-formed: requests, one term for each check. -/
theorem test_wf_requests :
    (Instr.sysInfo { src := .host 8 }).wf = false ∧
    (Instr.sysInfo { src := .inband 56 0 0 }).wf = false ∧
    (Instr.sysInfo { src := .inband 0 (2 ^ 16) 0 }).wf = false ∧
    (Instr.sysInfo { src := .inband 0 0 (2 ^ 32) }).wf = false ∧
    (Instr.sysInfo { src := .host 0, seq := 2 ^ 16 }).wf = false ∧
    (Instr.sysInfo { src := .host 0, len := 2 ^ 16 }).wf = false ∧
    (Instr.sysInfo { src := .host 0, rsv := 2 ^ 77 }).wf = false ∧
    (Instr.sysInfo { src := .host 0, payload := 1 }).wf = false ∧
    (Instr.sysInfo { src := .host 7 }).wf = true := by
  decide +kernel

/-- Ill-formed: domain frames, one term for each check. -/
theorem test_wf_domain_frames :
    (Instr.hello 0 { port := 56 }).wf = false ∧
    (Instr.hello 0 { version := 2 ^ 8 }).wf = false ∧
    (Instr.hello 0 { kind := 2 ^ 8 }).wf = false ∧
    (Instr.hello 0 { sender := 2 ^ 16 }).wf = false ∧
    (Instr.hello 0 { tag := 2 ^ 16 }).wf = false ∧
    (Instr.hello 0 { seq := 2 ^ 64 }).wf = false ∧
    (Instr.hello 0 { bytes := 2 ^ 16 }).wf = false ∧
    (Instr.hello 0 { payload := 1 }).wf = false ∧
    (Instr.hello 0 { mac := 2 ^ 128 }).wf = false ∧
    (Instr.hello 0 {}).wf = true := by
  decide +kernel

/-- Ill-formed: time requests, one term for each check. -/
theorem test_wf_time_requests :
    (Instr.ntpRequest 0 { port := 56 }).wf = false ∧
    (Instr.ntpRequest 0 { mode := 8 }).wf = false ∧
    (Instr.ntpRequest 0 { version := 8 }).wf = false ∧
    (Instr.ntpRequest 0 { poll := 2 ^ 8 }).wf = false ∧
    (Instr.ntpRequest 0 { xmit := 2 ^ 64 }).wf = false ∧
    (Instr.ntpRequest 0 { frame := { dst := 2 ^ 48 } }).wf = false ∧
    (Instr.ntpRequest 0 { frame := { src := 2 ^ 48 } }).wf = false ∧
    (Instr.ntpRequest 0 { frame := { vid := 2 ^ 12 } }).wf = false ∧
    (Instr.ntpRequest 0 { frame := { pcp := 8 } }).wf = false ∧
    (Instr.ntpRequest 0 { frame := { etherType := 2 ^ 16 } }).wf = false ∧
    (Instr.ntpRequest 0 { frame := { ipProto := 2 ^ 8 } }).wf = false ∧
    (Instr.ntpRequest 0 { frame := { dscp := 64 } }).wf = false ∧
    (Instr.ntpRequest 0 { frame := { ecn := 4 } }).wf = false ∧
    (Instr.ntpRequest 0 { frame := { l4Src := 2 ^ 16 } }).wf = false ∧
    (Instr.ntpRequest 0 { frame := { l4Dst := 2 ^ 16 } }).wf = false ∧
    (Instr.ntpRequest 0 { frame := { ipSrc := 2 ^ 128 } }).wf = false ∧
    (Instr.ntpRequest 0 { frame := { ipDst := 2 ^ 128 } }).wf = false ∧
    (Instr.ntpRequest 0 { frame := { opcode := 2 ^ 16 } }).wf = false ∧
    (Instr.ntpRequest 0 { frame := { quanta := 2 ^ 16 } }).wf = false ∧
    (Instr.ntpRequest 0 { frame := { ptpDomain := 2 ^ 8 } }).wf = false ∧
    (Instr.ntpRequest 0 { frame := { ptpMsg := 16 } }).wf = false ∧
    (Instr.ntpRequest 0 { frame := { icmpType := 2 ^ 8 } }).wf = false ∧
    (Instr.ntpRequest 0 { frame := { target := 2 ^ 128 } }).wf = false ∧
    (Instr.ntpRequest 0 { frame := { ipCsum := 2 ^ 16 } }).wf = false ∧
    (Instr.ntpRequest 0 { ad := [256] }).wf = false ∧
    (Instr.ntpRequest 0 {}).wf = true := by
  decide +kernel

/-- Ill-formed: ptp messages, one term for each check. -/
theorem test_wf_ptp_messages :
    (Instr.ptpEventMessage 0 { port := 56 }).wf = false ∧
    (Instr.ptpEventMessage 0 { msg := 16 }).wf = false ∧
    (Instr.ptpEventMessage 0 { domain := 2 ^ 8 }).wf = false ∧
    (Instr.ptpEventMessage 0 { seq := 2 ^ 16 }).wf = false ∧
    (Instr.ptpEventMessage 0 { identity := 2 ^ 64 }).wf = false ∧
    (Instr.ptpEventMessage 0 { srcPort := 2 ^ 16 }).wf = false ∧
    (Instr.ptpEventMessage 0 { gm := 2 ^ 64 }).wf = false ∧
    (Instr.ptpEventMessage 0 { prio1 := 2 ^ 8 }).wf = false ∧
    (Instr.ptpEventMessage 0 { cls := 2 ^ 8 }).wf = false ∧
    (Instr.ptpEventMessage 0 { steps := 2 ^ 16 }).wf = false ∧
    (Instr.ptpEventMessage 0 { wanted := 16 }).wf = false ∧
    (Instr.ptpEventMessage 0 { duration := 2 ^ 32 }).wf = false ∧
    (Instr.ptpEventMessage 0 { reqIdentity := 2 ^ 64 }).wf = false ∧
    (Instr.ptpEventMessage 0 { reqPort := 2 ^ 16 }).wf = false ∧
    (Instr.ptpEventMessage 0 { tag := some (2 ^ 128) }).wf = false ∧
    (Instr.ptpEventMessage 0 { covered := [256] }).wf = false ∧
    (Instr.ptpEventMessage 0 {}).wf = true := by
  decide +kernel

/-- Ill-formed: sends and accesses, one term for each check. -/
theorem test_wf_sends_and_accesses :
    (Instr.hostTxDescriptor 0 0 { vlan := 2 ^ 12 } {}).wf = false ∧
    (Instr.hostTxDescriptor 0 0 { egress := 2 ^ 8 } {}).wf = false ∧
    (Instr.hostTxDescriptor 0 0 { tclass := 16 } {}).wf = false ∧
    (Instr.hostTxDescriptor 0 0 { tag := 2 ^ 16 } {}).wf = false ∧
    (Instr.hostTxDescriptor 0 0 { mss := 2 ^ 16 } {}).wf = false ∧
    (Instr.hostTxDescriptor 0 0 { l3Off := 2 ^ 8 } {}).wf = false ∧
    (Instr.hostTxDescriptor 0 0 { l4Off := 2 ^ 8 } {}).wf = false ∧
    (Instr.hostTxDescriptor 0 0 { bytes := [256] } {}).wf = false ∧
    (Instr.hostTxDescriptor 0 0 {} { vid := 2 ^ 12 }).wf = false ∧
    (Instr.frameReceive 0 0 0 0 { vid := 2 ^ 12 }).wf = false ∧
    (Instr.pauseReceive 0 0 { vid := 2 ^ 12 }).wf = false ∧
    (Instr.fragmentReceive 0 0 0 0 0 0 false false (some { vid := 2 ^ 12 })).wf = false ∧
    (Instr.registerWrite 0 0 (.spi 256 0) 0).wf = false ∧
    (Instr.bar2Write 0 0 (.write [256])).wf = false ∧
    (Instr.hostTxDescriptor 0 0 {} {}).wf = true := by
  decide +kernel

/-- Ill-formed: units, one term for each check. -/
theorem test_wf_units :
    (Instr.hportTxTailWrite 0 4 0).wf = false ∧
    (Instr.pcieLinkReset 0 4 []).wf = false ∧
    (Instr.linkLoss 0 56 0).wf = false ∧
    (Instr.hostRxDeliver 0 4).wf = false ∧
    (Instr.hostRingQuiescent 0 8 0).wf = false ∧
    (Instr.mirrorQuiescent 0 4).wf = false ∧
    (Instr.tdcEdge 0 16 0 0).wf = false ∧
    (Instr.tdcEdge 0 0 0 4096).wf = false ∧
    (Instr.measJobQuiescent 0 16).wf = false ∧
    (Instr.refLos 0 8).wf = false ∧
    (Instr.outputEdge 0 8).wf = false ∧
    (Instr.outputQuiescent 0 9).wf = false ∧
    (Instr.bnLaneZeroised 0 4).wf = false := by
  decide +kernel

/-- Ill-formed: stored data, one term for each check. -/
theorem test_wf_stored_data :
    (Instr.dramReadCorrect 0 0 4 0 [] []).wf = false ∧
    (Instr.dramReadCorrect 0 0 3 (512 * 2 ^ 14) [] []).wf = false ∧
    (Instr.dramErasureMark 0 10).wf = false ∧
    (Instr.sramCorrect 0 0 0 0 0 0).wf = false ∧
    (Instr.sramCorrect 0 0 7 0 0 0).wf = false ∧
    (Instr.sramCorrect 0 0 1 256 0 0).wf = false ∧
    (Instr.sramCorrect 0 0 1 0 65536 0).wf = false ∧
    (Instr.sramCorrect 0 0 1 0 0 65536).wf = false ∧
    (Instr.sramUncorrectable 0 0 1 0 0 0 57 0).wf = false ∧
    (Instr.flashRefreshScan 0 8 0 0 0 0 0 0).wf = false ∧
    (Instr.flashRefreshScan 0 0 2 0 0 0 0 0).wf = false := by
  decide +kernel

/-- Ill-formed: faults, one term for each check. -/
theorem test_wf_faults :
    (Instr.faultEvent 0 0x08 0 0 0 false).wf = false ∧
    (Instr.faultServiced 0 64).wf = false ∧
    (Instr.sentinelTakeover 0 0 0).wf = false ∧
    (Instr.sentinelTakeover 0 4 0).wf = false ∧
    (Instr.hportHoldoffExpire 0 12).wf = false := by
  decide +kernel

/-- The table gives no row bits, so no word spells a command. -/
theorem test_no_word : decodeTableWord 0 0 = none ∧ decodeTableWord 8 255 = none := by decide

/-- The TIME96 example of 00_scope.md: 1,750,000,000.5 s plus 0.25 ns, as a value and as bytes in memory. -/
theorem test_time96_example :
    ({ sec := 1750000000, ns := 500000000, sub := 16384 } : Time96).word = 0x0000684EE1801DCD65004000 ∧
    toBytes 12 0x0000684EE1801DCD65004000 = [0, 0x40, 0, 0x65, 0xCD, 0x1D, 0x80, 0xE1, 0x4E, 0x68, 0, 0] := by
  decide +kernel

/-- The INC and DITHER example of R43 (03_time_base_and_stamps.md): y = +1,250 fs/s. -/
theorem test_increment_example : tickTotal 1250 / 65536 = 0x040000000005 ∧ tickTotal 1250 % 65536 = 0x7F60 := by
  decide +kernel

/-- The residence example of R65 (03_time_base_and_stamps.md): from 400.125 ns to 1,012.6875 ns is 612.5625 ns. -/
theorem test_residence_example :
    ({ sec := 1750000123, ns := 1012, sub := 0xB000 } : Time96).units -
      ({ sec := 1750000123, ns := 400, sub := 0x2000 } : Time96).units = 0x02649000 := by
  decide +kernel

/-- The wire time of R351 (11_switch_core.md): 1,500 bytes less 64 at 25 Gb/s is 459.52 ns, here in whole units of 2^-16 ns,
rounded up. -/
theorem test_wire_time_example : wireTime 25000 1436 = 30115103 := by decide +kernel

/-- The guard band of 01_architecture.md: P12 at 25 Gb/s with an effective maximum of 1,522 bytes and no preemption has a
length of 496 ns. -/
theorem test_guard_band_example :
    let b : Bank := { port := [(12, word [(0, 12), (8, 2), (32, 1518)])] }
    ({ banks := { active := b } } : State).guardLength 12 = 496 * 65536 := by
  decide +kernel

/-- A step on an empty queue lets one 4 ns tick pass. -/
theorem test_idle_step : step State.reset = .next (State.reset.advance 1) := by rfl

/-- A frame of a kind and payload that verifies under the domain key 1. -/
def netFrame (kind payload : Nat) : DomFrame :=
  let f : DomFrame := { kind := kind, payload := payload, seq := 1 }
  { f with mac := frameExpected f 1 }
/-- Its tag verifies. -/
theorem macOk_netFrame (kind payload : Nat) (u : State) (h : u.domainKey = some 1) : u.macOk (netFrame kind payload) = true := by
  simp only [State.macOk, h, netFrame, frameExpected, frameHeader, Option.elim, beq_self_eq_true]
/-- A trunk port that receives takes it. -/
theorem accept_netFrame {kind payload : Nat} {u : State} (hr : u.domainRx 0 = true) (ht : u.isTrunk 0 = true)
    (hg : u.banks.active.domTag = 0) (hk : u.domainKey = some 1) (hs : (Tbl.get? (u.port 0).trunk.seqs 0) = none)
    (hn : kindKnown kind = true) :
    State.acceptDomain (netFrame kind payload) u
      = (true, u.updTrunk 0 (fun t => { t with seqs := Tbl.put t.seqs 0 1, badSince := none })) := by
  have hm := macOk_netFrame kind payload u hk
  have hf : u.seqFresh (netFrame kind payload) = true := by
    unfold State.seqFresh
    rw [show (netFrame kind payload).port = 0 from rfl, show (netFrame kind payload).sender = 0 from rfl, hs]
    rfl
  unfold State.acceptDomain
  rw [show (netFrame kind payload).port = 0 from rfl, show (netFrame kind payload).version = 1 from rfl,
    show (netFrame kind payload).tag = 0 from rfl, show (netFrame kind payload).kind = kind from rfl,
    show (netFrame kind payload).sender = 0 from rfl, show (netFrame kind payload).seq = 1 from rfl]
  have hl : (u.port 0).link = .up := by
    have h := hr
    simp only [State.domainRx, Bool.and_eq_true, beq_iff_eq] at h
    exact h.2
  simp [hr, hl, ht, hg, hm, hf, hn]

/-- A message signed with the key of its port is intact. -/
theorem ptpIntact_signed {u : State} {m : PtpMsg} {key : Nat} (hk : u.ptpKey m.port = some key) (ht : m.tag = some (hmac128 key m.covered)) :
    u.ptpIntact m = true := by
  unfold State.ptpIntact
  rw [ht]
  simp [hk]
/-- A message answers the pair it carries the request's identity and number of. -/
theorem answersPair_of {u : State} {p : Nat} {x : PtpPair} {m : PtpMsg} (hs : m.seq = x.reqSeq) (hi : m.reqIdentity = ownIdentity)
    (hp : m.reqPort = p + 1) (ht : x.steps = u.time.stepSum) : u.answersPair p x m = true := by
  simp [State.answersPair, hs, hi, hp, ht]
/-- A heartbeat three HELLO intervals old is not fresh. -/
theorem rootFresh_late {s : State} (h : s.dom.beatAt + 3 * s.helloTicks ≤ s.time.tick) : s.rootFresh = false := by
  simp [State.rootFresh]
  omega

/-- A trace that firmware has not written before is read from its beginning. -/
theorem traceBase_low {s : State} (h : s.fw.traceEnd = 0) (n : Nat) : s.traceGrown.fw.traceBase ≤ n := by
  have := (Config.freeValue 24 s.free).isLt
  simp only [State.traceGrown, State.draw, FwS.traceBase, traceBytes, h]
  omega

/-- A trace longer than its ring has lost its beginning. -/
theorem traceBase_high {s : State} (h : traceBytes < s.fw.traceEnd) : 0 < s.traceGrown.fw.traceBase := by
  simp only [traceBytes] at h
  simp only [State.traceGrown, State.draw, FwS.traceBase, traceBytes]
  omega

/-- The premises of `Obligations.EmptyQueueTicks` are met. -/
theorem witness_EmptyQueueTicks :
    ∃ s : State, s.pending = [] :=
  ⟨{}, rfl⟩

/-- The premises of `Obligations.StepKeepsCanonical` are met. -/
theorem witness_StepKeepsCanonical :
    ∃ s t : State, s.canonical ∧ step s = .next t :=
  ⟨State.reset, _, ⟨rfl, by decide⟩, rfl⟩

/-- The premises of `Obligations.CommandsKeepQueue` are met. -/
theorem witness_CommandsKeepQueue :
    ∃ (c : Instr) (s t : State), exec c s = .next t :=
  ⟨.intMaskWrite 0 0, {}, _, rfl⟩

/-- The premises of `Obligations.RequestRoundTrip` are met. -/
theorem witness_RequestRoundTrip :
    ∃ (k op area : Nat) (q : Req), op < 2 ^ 16 ∧ q.src = .host k ∧ q.seq < 2 ^ 16 ∧ q.len < 2 ^ 16 ∧ q.rsv < 2 ^ 77 ∧
    q.payload < 2 ^ (8 * q.len) :=
  ⟨7, 0xFFFF, 2 ^ 4096 - 1, { src := .host 7, seq := 0xFFFF, len := 4, rsv := 2 ^ 77 - 1, payload := 2 ^ 32 - 1 }, by decide +kernel⟩

/-- The premises of `Obligations.WellFormedCommandsComplete` are met. -/
theorem witness_WellFormedCommandsComplete :
    ∃ (c : Instr) (s : State), c.wf = true :=
  ⟨.intMaskWrite 0 0, {}, rfl⟩

/-- The premises of `Obligations.UnknownUnitsFault` are met. -/
theorem witness_UnknownUnitsFault :
    (∃ (c : Instr) (cmd : Command) (q : Req) (k : Nat), request c = some (cmd, q) ∧ q.src = .host k ∧ 8 ≤ k) ∧
    (∃ (c : Instr) (cmd : Command) (q : Req) (p origin txn : Nat), request c = some (cmd, q) ∧ q.src = .inband p origin txn ∧ 56 ≤ p) ∧
    (∃ (dt ring value : Nat), 4 ≤ ring) ∧
    (∃ (dt ring value : Nat), 4 ≤ ring) ∧
    (∃ (dt kind : Nat) (frames : List Nat), 4 ≤ kind) ∧
    (∃ (dt port phase lane : Nat) (f : Frame), 56 ≤ port) ∧
    (∃ (dt port : Nat), 56 ≤ port) ∧
    (∃ (dt port vlan kind ms : Nat) (v6 : Bool) (groups : List Nat), 56 ≤ port) ∧
    (∃ (dt : Nat) (turn : PortTurn), 56 ≤ turn.port) ∧
    (∃ (dt port : Nat), 56 ≤ port) ∧
    (∃ (dt port phase : Nat), 56 ≤ port) ∧
    (∃ (dt : Nat) (turn : PortTurn), 56 ≤ turn.port) ∧
    (∃ (dt port : Nat) (late : Bool), 56 ≤ port) ∧
    (∃ (dt port : Nat), 56 ≤ port) ∧
    (∃ (dt port : Nat) (f : Frame), 56 ≤ port) ∧
    (∃ (dt port : Nat), 56 ≤ port) ∧
    (∃ (dt port : Nat), 56 ≤ port) ∧
    (∃ (dt port : Nat), 56 ≤ port) ∧
    (∃ (dt port : Nat), 56 ≤ port) ∧
    (∃ (dt port : Nat), 56 ≤ port) ∧
    (∃ (dt port : Nat), 56 ≤ port) ∧
    (∃ (dt port phase lane bytes count : Nat) (start mcrc : Bool) (last : Option Frame), 56 ≤ port) ∧
    (∃ (dt port cause : Nat), 56 ≤ port) ∧
    (∃ (dt port : Nat) (skew : List Int), 56 ≤ port) ∧
    (∃ (dt port : Nat), 56 ≤ port) ∧
    (∃ (dt port : Nat), 56 ≤ port) ∧
    (∃ (dt ring : Nat) (d : TxSend) (f : Frame), 4 ≤ ring) ∧
    (∃ (dt ring : Nat), 4 ≤ ring) ∧
    (∃ (dt ring frames : Nat), 8 ≤ ring) ∧
    (∃ (dt session : Nat), 4 ≤ session) ∧
    (∃ (dt ch n k : Nat), 16 ≤ ch ∨ 4096 ≤ k) ∧
    (∃ (dt ch : Nat) (hits : List Nat), 16 ≤ ch) ∧
    (∃ (dt job : Nat), 16 ≤ job) ∧
    (∃ (dt ch : Nat), 16 ≤ ch) ∧
    (∃ (dt job : Nat), 16 ≤ job) ∧
    (∃ (dt ref : Nat), 8 ≤ ref) ∧
    (∃ (dt ref : Nat), 8 ≤ ref) ∧
    (∃ (dt ref : Nat), 8 ≤ ref) ∧
    (∃ (dt ref : Nat), 8 ≤ ref) ∧
    (∃ (dt ref : Nat), 8 ≤ ref) ∧
    (∃ (dt output : Nat), 8 ≤ output) ∧
    (∃ (dt output : Nat), 9 ≤ output) ∧
    (∃ (dt output counted : Nat), 8 ≤ output) ∧
    (∃ (dt : Nat) (f : DomFrame), 56 ≤ f.port) ∧
    (∃ (dt : Nat) (f : DomFrame), 56 ≤ f.port) ∧
    (∃ (dt port : Nat) (heard : Bool) (m : PtpMsg) (phase lane : Nat) (moves : List Int), 56 ≤ port) ∧
    (∃ (dt port : Nat), 56 ≤ port) ∧
    (∃ (dt port : Nat) (x : L1Peer), 56 ≤ port) ∧
    (∃ (dt port : Nat), 56 ≤ port) ∧
    (∃ (dt port : Nat) (ql : Option Nat), 56 ≤ port) ∧
    (∃ (dt : Nat) (f : DomFrame), 56 ≤ f.port) ∧
    (∃ (dt : Nat) (f : DomFrame), 56 ≤ f.port) ∧
    (∃ (dt : Nat) (f : DomFrame), 56 ≤ f.port) ∧
    (∃ (dt : Nat) (f : DomFrame), 56 ≤ f.port) ∧
    (∃ (dt : Nat) (f : DomFrame), 56 ≤ f.port) ∧
    (∃ (dt : Nat) (f : DomFrame), 56 ≤ f.port) ∧
    (∃ (dt : Nat) (f : DomFrame), 56 ≤ f.port) ∧
    (∃ (dt : Nat) (f : DomFrame), 56 ≤ f.port) ∧
    (∃ (dt : Nat) (f : DomFrame), 56 ≤ f.port) ∧
    (∃ (dt : Nat) (f : DomFrame), 56 ≤ f.port) ∧
    (∃ (dt : Nat) (f : DomFrame), 56 ≤ f.port) ∧
    (∃ (dt : Nat) (r : TsReq), 56 ≤ r.port) ∧
    (∃ (dt : Nat) (r : TsReq), 56 ≤ r.port) ∧
    (∃ (dt : Nat) (r : TsReq), 56 ≤ r.port) ∧
    (∃ (dt : Nat) (r : TsReq), 56 ≤ r.port) ∧
    (∃ (dt : Nat) (m : PtpMsg), 56 ≤ m.port) ∧
    (∃ (dt port msg : Nat), 56 ≤ port) ∧
    (∃ (dt : Nat) (m : PtpMsg), 56 ≤ m.port) ∧
    (∃ (dt port : Nat) (m : PtpMsg), 56 ≤ port) ∧
    (∃ (dt : Nat) (m : PtpMsg), 56 ≤ m.port) ∧
    (∃ (dt port : Nat) (heard : Bool) (m : PtpMsg) (phase lane : Nat), 56 ≤ port) ∧
    (∃ (dt lane : Nat) (glitch late : Bool), 4 ≤ lane) ∧
    (∃ (dt lane : Nat), 4 ≤ lane) ∧
    (∃ (dt master region line : Nat) (soft stuck : List (Nat × Nat)), regionLines region ≤ line) ∧
    (∃ (dt device : Nat), 10 ≤ device) ∧
    (∃ (dt master region line : Nat) (soft stuck : List (Nat × Nat)), regionLines region ≤ line) ∧
    (∃ (dt master array bank row word : Nat), sramWord array bank row word = false) ∧
    (∃ (dt master array bank row word a b : Nat), sramWord array bank row word = false ∨ (array = 1 ∧ 56 < a)) ∧
    (∃ (dt part device page corrected ageDays lostSectors badBlocks : Nat), 8 ≤ part ∨ 2 ≤ device) ∧
    (∃ (dt source master access address : Nat) (injected : Bool), faultSource source = none) ∧
    (∃ (dt index : Nat), 64 ≤ index) ∧
    (∃ (dt source channel : Nat), source = 0 ∨ 3 < source) ∧
    (∃ (dt vector : Nat), 12 ≤ vector) :=
  ⟨⟨.sysInfo { src := .host 8 }, cmdSysInfo, _, 8, rfl, rfl, by decide⟩, ⟨.sysInfo { src := .inband 56 0 0 }, cmdSysInfo, _, 56, 0, 0, rfl, rfl, by decide⟩,
    ⟨0, 4, 0, by decide⟩,
    ⟨0, 4, 0, by decide⟩,
    ⟨0, 4, [], by decide⟩,
    ⟨0, 56, 0, 0, {}, by decide⟩,
    ⟨0, 56, by decide⟩,
    ⟨0, 56, 0, 0, 0, false, [], by decide⟩,
    ⟨0, { port := 56 }, by decide⟩,
    ⟨0, 56, by decide⟩,
    ⟨0, 56, 0, by decide⟩,
    ⟨0, { port := 56 }, by decide⟩,
    ⟨0, 56, false, by decide⟩,
    ⟨0, 56, by decide⟩,
    ⟨0, 56, {}, by decide⟩,
    ⟨0, 56, by decide⟩,
    ⟨0, 56, by decide⟩,
    ⟨0, 56, by decide⟩,
    ⟨0, 56, by decide⟩,
    ⟨0, 56, by decide⟩,
    ⟨0, 56, by decide⟩,
    ⟨0, 56, 0, 0, 0, 0, false, false, none, by decide⟩,
    ⟨0, 56, 0, by decide⟩,
    ⟨0, 56, [], by decide⟩,
    ⟨0, 56, by decide⟩,
    ⟨0, 56, by decide⟩,
    ⟨0, 4, {}, {}, by decide⟩,
    ⟨0, 4, by decide⟩,
    ⟨0, 8, 0, by decide⟩,
    ⟨0, 4, by decide⟩,
    ⟨0, 16, 0, 0, .inl (by decide)⟩,
    ⟨0, 16, [], by decide⟩,
    ⟨0, 16, by decide⟩,
    ⟨0, 16, by decide⟩,
    ⟨0, 16, by decide⟩,
    ⟨0, 8, by decide⟩,
    ⟨0, 8, by decide⟩,
    ⟨0, 8, by decide⟩,
    ⟨0, 8, by decide⟩,
    ⟨0, 8, by decide⟩,
    ⟨0, 8, by decide⟩,
    ⟨0, 9, by decide⟩,
    ⟨0, 8, 0, by decide⟩,
    ⟨0, { port := 56 }, by decide⟩,
    ⟨0, { port := 56 }, by decide⟩,
    ⟨0, 56, false, {}, 0, 0, [], by decide⟩,
    ⟨0, 56, by decide⟩,
    ⟨0, 56, {}, by decide⟩,
    ⟨0, 56, by decide⟩,
    ⟨0, 56, none, by decide⟩,
    ⟨0, { port := 56 }, by decide⟩,
    ⟨0, { port := 56 }, by decide⟩,
    ⟨0, { port := 56 }, by decide⟩,
    ⟨0, { port := 56 }, by decide⟩,
    ⟨0, { port := 56 }, by decide⟩,
    ⟨0, { port := 56 }, by decide⟩,
    ⟨0, { port := 56 }, by decide⟩,
    ⟨0, { port := 56 }, by decide⟩,
    ⟨0, { port := 56 }, by decide⟩,
    ⟨0, { port := 56 }, by decide⟩,
    ⟨0, { port := 56 }, by decide⟩,
    ⟨0, { port := 56 }, by decide⟩,
    ⟨0, { port := 56 }, by decide⟩,
    ⟨0, { port := 56 }, by decide⟩,
    ⟨0, { port := 56 }, by decide⟩,
    ⟨0, { port := 56 }, by decide⟩,
    ⟨0, 56, 0, by decide⟩,
    ⟨0, { port := 56 }, by decide⟩,
    ⟨0, 56, {}, by decide⟩,
    ⟨0, { port := 56 }, by decide⟩,
    ⟨0, 56, false, {}, 0, 0, by decide⟩,
    ⟨0, 4, false, false, by decide⟩,
    ⟨0, 4, by decide⟩,
    ⟨0, 0, 4, 0, [], [], by decide⟩,
    ⟨0, 10, by decide⟩,
    ⟨0, 0, 4, 0, [], [], by decide⟩,
    ⟨0, 0, 0, 0, 0, 0, by decide⟩,
    ⟨0, 0, 0, 0, 0, 0, 0, 0, .inl (by decide)⟩,
    ⟨0, 8, 0, 0, 0, 0, 0, 0, .inl (by decide)⟩,
    ⟨0, 0, 0, 0, 0, false, by decide⟩,
    ⟨0, 64, by decide⟩,
    ⟨0, 0, 0, .inl (by decide)⟩,
    ⟨0, 12, by decide⟩⟩

/-- The premises of `Obligations.BusyMailboxDoorbell` are met. -/
theorem witness_BusyMailboxDoorbell :
    (∃ (c : Instr) (cmd : Command) (q : Req) (k : Nat) (s : State), request c = some (cmd, q) ∧ q.src = .host k ∧ k < 8 ∧
      (s.mailbox k).state = .busy) ∧
    ∃ (c : Instr) (cmd : Command) (q : Req) (k : Nat) (s : State), request c = some (cmd, q) ∧ q.src = .host k ∧ k < 8 ∧
      (s.mailbox k).state = .pending :=
  ⟨⟨.sysInfo { src := .host 7 }, cmdSysInfo, _, 7, { tci := { mbx := [(7, { state := .busy })] } }, rfl, rfl, by decide, rfl⟩,
    .sysInfo { src := .host 0 }, cmdSysInfo, _, 0, { tci := { mbx := [(0, { state := .pending })] } }, rfl, rfl, by decide, rfl⟩

/-- The premises of `Obligations.RefusedRequestAnswers` are met. -/
theorem witness_RefusedRequestAnswers :
    (∃ (c : Instr) (cmd : Command) (q : Req) (k : Nat) (s u : State), request c = some (cmd, q) ∧ q.src = .host k ∧ k < 8 ∧
      ((s.mailbox k).state = .free ∨ (s.mailbox k).state = .done) ∧ (s.mailbox k).repeats q = false ∧ s.fw.running = true ∧
      u = s.rung cmd.opcode q k ∧ isService cmd.opcode = true ∧ s.plat.service = false) ∧
    (∃ (c : Instr) (cmd : Command) (q : Req) (k : Nat) (s u : State), request c = some (cmd, q) ∧ q.src = .host k ∧ k < 8 ∧
      ((s.mailbox k).state = .free ∨ (s.mailbox k).state = .done) ∧ (s.mailbox k).repeats q = false ∧ s.fw.running = true ∧
      u = s.rung cmd.opcode q k ∧ (isService cmd.opcode && !s.plat.service) = false ∧ (cmd.layout q).lengthOk q = false) ∧
    (∃ (c : Instr) (cmd : Command) (q : Req) (k : Nat) (s u : State), request c = some (cmd, q) ∧ q.src = .host k ∧ k < 8 ∧
      ((s.mailbox k).state = .free ∨ (s.mailbox k).state = .done) ∧ (s.mailbox k).repeats q = false ∧ s.fw.running = true ∧
      u = s.rung cmd.opcode q k ∧ (isService cmd.opcode && !s.plat.service) = false ∧ (cmd.layout q).lengthOk q = true ∧
      ((cmd.layout q).reservedOk q && cmd.range q u) = false) ∧
    ∃ (c : Instr) (cmd : Command) (q : Req) (k : Nat) (s u : State), request c = some (cmd, q) ∧ q.src = .host k ∧ k < 8 ∧
      ((s.mailbox k).state = .free ∨ (s.mailbox k).state = .done) ∧ (s.mailbox k).repeats q = false ∧ s.fw.running = true ∧
      u = s.rung cmd.opcode q k ∧ (isService cmd.opcode && !s.plat.service) = false ∧ (cmd.layout q).lengthOk q = true ∧
      ((cmd.layout q).reservedOk q && cmd.range q u) = true ∧ s.held (cmd.objs q) = true :=
  ⟨⟨.sysTraceRead { src := .host 1, seq := 7 }, cmdSysTraceRead, _, 1, { fw := { running := true } }, _, rfl, rfl, by decide, .inl rfl, rfl, rfl, rfl, rfl, rfl⟩,
    ⟨.sysInfo { src := .host 1, seq := 7, len := 4 }, cmdSysInfo, _, 1, { fw := { running := true } }, _, rfl, rfl, by decide, .inl rfl, rfl, rfl, rfl, rfl, rfl⟩,
    ⟨.sysPaceSet { src := .host 1, seq := 7, len := 4, payload := 4 }, cmdSysPaceSet, _, 1, { fw := { running := true } }, _, rfl, rfl, by decide, .inl rfl, rfl,
      rfl, rfl, rfl, rfl, by decide +kernel⟩,
    .measStop { src := .host 1, seq := 7, len := 4, payload := 3 }, cmdMeasStop, _, 1,
      { fw := { running := true }, tci := { aside := [{ obj := some (.job 3) }] } }, _, rfl, rfl, by decide, .inl rfl, rfl, rfl, rfl, rfl, rfl, by decide +kernel,
      by decide +kernel⟩

/-- The premises of `Obligations.RepeatedRequestKeepsResponse` are met. -/
theorem witness_RepeatedRequestKeepsResponse :
    ∃ (c : Instr) (cmd : Command) (q : Req) (k : Nat) (s : State) (r : Resp), request c = some (cmd, q) ∧ q.src = .host k ∧ k < 8 ∧
      (s.mailbox k).state = .done ∧ (s.mailbox k).resp = some r ∧ q.seq = (s.mailbox k).seq ∧ s.fw.running = true :=
  ⟨.sysInfo { src := .host 7, seq := 9 }, cmdSysInfo, _, 7,
    { fw := { running := true }, tci := { mbx := [(7, { state := .done, seq := 9, resp := some { opcode := 0x0102, seq := 9 } })] } }, _, rfl, rfl,
    by decide, rfl, rfl, rfl, rfl⟩

/-- The premises of `Obligations.StoppedFirmwareLeavesRequest` are met. -/
theorem witness_StoppedFirmwareLeavesRequest :
    ∃ (c : Instr) (cmd : Command) (q : Req) (k : Nat) (s u : State), request c = some (cmd, q) ∧ q.src = .host k ∧ k < 8 ∧
      ((s.mailbox k).state = .free ∨ (s.mailbox k).state = .done) ∧ s.fw.running = false ∧ (s.fw.recovery = false ∨ k ≠ 0) ∧
      u = s.rung cmd.opcode q k :=
  ⟨.sysInfo { src := .host 7 }, cmdSysInfo, _, 7, {}, _, rfl, rfl, by decide, .inl rfl, rfl, .inl rfl, rfl⟩

/-- The premises of `Obligations.EventRingEntries` are met. -/
theorem witness_EventRingEntries :
    (∃ s : State, s.evt.head < 1024 ∧ s.evt.tail < 1024 ∧ s.evt.lostSince = 0 ∧ (s.evt.head + 1) % 1024 ≠ s.evt.tail) ∧
    (∃ s : State, s.evt.head < 1024 ∧ s.evt.tail < 1024 ∧ (s.evt.head + 1) % 1024 = s.evt.tail) ∧
    (∃ s : State, s.evt.head < 1024 ∧ s.evt.tail < 1024 ∧ s.evt.lostSince ≠ 0 ∧ (s.evt.head + 1) % 1024 ≠ s.evt.tail ∧ (s.evt.head + 2) % 1024 = s.evt.tail) ∧
    (∃ s : State, s.evt.head < 1024 ∧ s.evt.tail < 1024 ∧ s.evt.lostSince ≠ 0 ∧ (s.evt.head + 1) % 1024 ≠ s.evt.tail ∧ (s.evt.head + 2) % 1024 ≠ s.evt.tail) ∧
    (∃ (dt value : Nat) (s u : State), s.advance dt = u ∧ u.fw.running = true ∧ u.evt.lostSince ≠ 0 ∧ u.evt.head < 1024 ∧
      (u.evt.head + 1) % 1024 ≠ value % 1024) ∧
    ∃ s : State, s.fw.running = false :=
  ⟨⟨{ evt := { head := 1023, tail := 1 } }, by decide⟩, ⟨{ evt := { head := 1023, tail := 0 } }, by decide⟩,
    ⟨{ evt := { head := 1022, tail := 0, lostSince := 3 } }, by decide⟩, ⟨{ evt := { head := 1022, tail := 1, lostSince := 3 } }, by decide⟩,
    ⟨0, 2, { fw := { running := true }, evt := { lostSince := 3 } }, _, rfl, by decide +kernel⟩, {}, rfl⟩

/-- The premises of `Obligations.PaceThresholdSet` are met. -/
theorem witness_PaceThresholdSet :
    (∃ (q : Req) (k : Nat) (s : State), q.src = .host k ∧ k < 8 ∧ ((s.mailbox k).state = .free ∨ (s.mailbox k).state = .done) ∧
      (s.mailbox k).repeats q = false ∧ s.fw.running = true ∧ q.len = 0 ∧ q.rsv = 0) ∧
    (∃ (q : Req) (k : Nat) (s : State), q.src = .host k ∧ k < 8 ∧ ((s.mailbox k).state = .free ∨ (s.mailbox k).state = .done) ∧
      (s.mailbox k).repeats q = false ∧ s.fw.running = true ∧ q.len = 4 ∧ q.rsv = 0 ∧ q.f 0 8 = 30 ∧ q.f 8 24 = 0) ∧
    ∃ (q : Req) (k : Nat) (s : State), q.src = .host k ∧ k < 8 ∧ ((s.mailbox k).state = .free ∨ (s.mailbox k).state = .done) ∧
      (s.mailbox k).repeats q = false ∧ s.fw.running = true ∧ q.len = 4 ∧ q.rsv = 0 ∧ q.f 0 8 = 31 :=
  ⟨⟨{ src := .host 0 }, 0, { fw := { running := true } }, by decide +kernel⟩,
    ⟨{ src := .host 0, len := 4, payload := 30 }, 0, { fw := { running := true } }, by decide +kernel⟩,
    { src := .host 0, len := 4, payload := 31 }, 0, { fw := { running := true } }, by decide +kernel⟩

/-- The premises of `Obligations.MidwinterReleaseNamesLocations` are met. -/
theorem witness_MidwinterReleaseNamesLocations :
    (∃ (q : Req) (k : Nat) (s : State), q.src = .host k ∧ k < 8 ∧ ((s.mailbox k).state = .free ∨ (s.mailbox k).state = .done) ∧
      (s.mailbox k).repeats q = false ∧ s.fw.running = true ∧ q.len = 4 ∧ q.rsv = 0 ∧ q.f 3 29 = 0 ∧
      (∀ j, j < 3 → q.b j = true → (Tbl.get? s.mid.loc j).isSome = true)) ∧
    (∃ (q : Req) (k : Nat) (s : State), q.src = .host k ∧ k < 8 ∧ ((s.mailbox k).state = .free ∨ (s.mailbox k).state = .done) ∧
      (s.mailbox k).repeats q = false ∧ s.fw.running = true ∧ q.len = 4 ∧ q.rsv = 0 ∧ q.f 3 29 = 0 ∧
      (∃ j, j < 3 ∧ q.b j = true ∧ Tbl.get? s.mid.loc j = none)) ∧
    ∃ (q : Req) (k : Nat) (s : State), q.src = .host k ∧ k < 8 ∧ ((s.mailbox k).state = .free ∨ (s.mailbox k).state = .done) ∧
      (s.mailbox k).repeats q = false ∧ s.fw.running = true ∧ q.len = 4 ∧ q.rsv = 0 ∧ q.f 3 29 ≠ 0 :=
  ⟨⟨{ src := .host 7, len := 4, payload := 1 }, 7, { fw := { running := true }, mid := { loc := [(0, {})] } }, by decide +kernel⟩,
    ⟨{ src := .host 7, len := 4, payload := 4 }, 7, { fw := { running := true } }, rfl, by decide, .inl rfl, rfl, rfl, rfl, rfl, rfl, 2, by decide⟩,
    { src := .host 7, len := 4, payload := 8 }, 7, { fw := { running := true } }, by decide +kernel⟩

/-- The premises of `Obligations.DomainFrameTests` are met. -/
theorem witness_DomainFrameTests :
    (∃ (dt : Nat) (f : DomFrame) (c : Instr) (s u : State), c ∈ ([.hello dt f, .members dt f, .cueAnnounce dt f, .cueCancelFrame dt f, .cueAck dt f, .prepare dt f, .ready dt f,
        .arm dt f, .armed dt f, .equinoxCancelFrame dt f, .cancelAck dt f, .inbandRequest dt f, .inbandResponse dt f] : List Instr) ∧
      s.advance dt = u ∧ f.port < 56 ∧ u.domainRx f.port = true ∧ u.isTrunk f.port = true ∧ f.version ≠ 1) ∧
    (∃ (dt : Nat) (f : DomFrame) (c : Instr) (s u : State), c ∈ ([.hello dt f, .members dt f, .cueAnnounce dt f, .cueCancelFrame dt f, .cueAck dt f, .prepare dt f, .ready dt f,
        .arm dt f, .armed dt f, .equinoxCancelFrame dt f, .cancelAck dt f, .inbandRequest dt f, .inbandResponse dt f] : List Instr) ∧
      s.advance dt = u ∧ f.port < 56 ∧ u.domainRx f.port = true ∧ u.isTrunk f.port = true ∧ f.version = 1 ∧ f.tag ≠ u.banks.active.domTag) ∧
    (∃ (dt : Nat) (f : DomFrame) (c : Instr) (s u : State), c ∈ ([.hello dt f, .members dt f, .cueAnnounce dt f, .cueCancelFrame dt f, .cueAck dt f, .prepare dt f, .ready dt f,
        .arm dt f, .armed dt f, .equinoxCancelFrame dt f, .cancelAck dt f, .inbandRequest dt f, .inbandResponse dt f] : List Instr) ∧
      s.advance dt = u ∧ f.port < 56 ∧ u.domainRx f.port = true ∧ u.isTrunk f.port = true ∧ f.version = 1 ∧ f.tag = u.banks.active.domTag ∧ u.macOk f = false) ∧
    ∃ (dt : Nat) (f : DomFrame) (c : Instr) (s u : State), c ∈ ([.hello dt f, .members dt f, .cueAnnounce dt f, .cueCancelFrame dt f, .cueAck dt f, .prepare dt f, .ready dt f,
        .arm dt f, .armed dt f, .equinoxCancelFrame dt f, .cancelAck dt f, .inbandRequest dt f, .inbandResponse dt f] : List Instr) ∧
      s.advance dt = u ∧ f.port < 56 ∧ u.domainRx f.port = true ∧ u.isTrunk f.port = true ∧ f.version = 1 ∧ f.tag = u.banks.active.domTag ∧ u.macOk f = true ∧ u.seqFresh f = false :=
  ⟨⟨0, { version := 2 }, .hello 0 { version := 2 }, { banks := { active := { dom := 1, ptim := [(0, 0x100)] } }, ports := [(0, { link := .up })], keys := { cache := [(0, { mat := [1] })] } }, _, by decide, rfl, by decide, rfl, rfl, by decide⟩,
    ⟨0, { version := 1, tag := 1 }, .arm 0 { version := 1, tag := 1 }, { banks := { active := { dom := 1, ptim := [(0, 0x100)] } }, ports := [(0, { link := .up })], keys := { cache := [(0, { mat := [1] })] } }, _, by decide, rfl, by decide, rfl, rfl, rfl, by decide +kernel⟩,
    ⟨0, { version := 1 }, .cueAck 0 { version := 1 }, { banks := { active := { dom := 1, ptim := [(0, 0x100)] } }, ports := [(0, { link := .up })] }, _, by decide, rfl, by decide, rfl, rfl, rfl,
      by decide +kernel, rfl⟩,
    0, netFrame 1 0, .hello 0 (netFrame 1 0), { banks := { active := { dom := 1, ptim := [(0, 0x100)] } }, ports := [(0, { link := .up, trunk := { seqs := [(0, 1)] } })], keys := { cache := [(0, { mat := [1] })] } }, _, .head _, rfl, by decide, rfl, rfl, rfl, by decide +kernel, macOk_netFrame _ _ _ rfl, rfl⟩

/-- The premises of `Obligations.StoresTouchOnlyTheirBytes` are met. -/
theorem witness_StoresTouchOnlyTheirBytes :
    (∃ (q : Req) (s t : State) (a : Nat), Memory.wf s.mem.bytes = true ∧ exec (.sysWindowWrite q) s = .next t ∧
      (a < q.f 0 64 ∨ q.f 0 64 + q.f 64 32 ≤ a)) ∧
    (∃ (q : Req) (s t : State) (a lo : Nat), Memory.wf s.mem.bytes = true ∧ exec (.cueFrameWrite q) s = .next t ∧
      lo = cueBufferOffset + 16384 * q.f 0 16 + q.f 16 16 ∧ (a < lo ∨ lo + (q.f 32 16 + 63) / 64 * 64 ≤ a)) ∧
    (∃ (dt offset : Nat) (data : List Nat) (s t : State) (a : Nat), Memory.wf s.mem.bytes = true ∧
      exec (.bar2Write dt offset (.write data)) s = .next t ∧ (a < offset ∨ offset + data.length ≤ a)) ∧
    (∃ (dt : Nat) (data : List Nat) (s t : State) (a : Nat), Memory.wf s.mem.bytes = true ∧
      exec (.flipMaskWrite dt data) s = .next t ∧ (a < 64 * s.mem.flipLine ∨ 64 * s.mem.flipLine + 64 ≤ a)) ∧
    ∃ (s t : State) (a : Nat), Memory.wf s.mem.bytes = true ∧ (∃ dt ch n k, exec (.tdcEdge dt ch n k) s = .next t) ∧
      (a < s.cap.offset ∨ s.cap.offset + 32 * s.cap.entries + 8 ≤ a) :=
  ⟨⟨{ src := .host 0 }, {}, _, 0, rfl, rfl, .inr (by decide +kernel)⟩,
    ⟨{ src := .host 0 }, {}, _, _, _, rfl, rfl, rfl, .inr (Nat.le_refl _)⟩,
    ⟨0, 8, [1], {}, _, 9, rfl, rfl, .inr (by decide +kernel)⟩,
    ⟨0, [1], { mem := { flip := 0x310 } }, _, 64, rfl, rfl, .inr (by decide +kernel)⟩,
    {}, _, 8, rfl, ⟨0, 0, 1, 0, rfl⟩, .inr (by decide +kernel)⟩

/-- The premises of `Obligations.ResetKeepsFlash` are met. -/
theorem witness_ResetKeepsFlash :
    (∃ (dt : Nat) (service factory : Bool) (s t : State), exec (.fullReset dt service factory) s = .next t) ∧
    (∃ (dt : Nat) (service factory : Bool) (s t : State), exec (.resetNAssert dt service factory) s = .next t) ∧
    (∃ (dt : Nat) (tj : Int) (service factory : Bool) (s t : State), exec (.thermalTrip dt tj service factory) s = .next t) ∧
    (∃ (dt : Nat) (r : Rails) (service factory : Bool) (s t : State), exec (.railResetLevel dt r service factory) s = .next t) ∧
    (∃ (dt vsb : Nat) (service factory : Bool) (back : List Bool) (s t : State), exec (.powerOnReset dt vsb service factory back) s = .next t) ∧
    ∃ (dt : Nat) (service factory : Bool) (s u t : State), s.advance dt = u ∧ exec (.fullReset dt service factory) s = .next t ∧
      u.fw.restarts.any (fun e => e.2 == 0 && decide (e.1 ≤ u.time.tick)) = true :=
  ⟨⟨0, false, false, {}, _, rfl⟩, ⟨0, false, false, {}, _, rfl⟩, ⟨0, 32000, false, false, {}, _, rfl⟩, ⟨0, {}, false, false, {}, _, rfl⟩,
    ⟨0, 2901, false, false, [], {}, _, rfl⟩, 0, false, false, { fw := { restarts := [(0, 0)] } }, _, _, rfl, rfl, rfl⟩

/-- The premises of `Obligations.InterruptVectors` are met. -/
theorem witness_InterruptVectors :
    (∃ (k : Nat) (s : State), k < 12 ∧ bit s.intr.status k = true) ∧
    (∃ (k : Nat) (s : State), k < 12 ∧ bit s.intr.status k = false ∧ bit s.intr.mask k = true) ∧
    (∃ (k : Nat) (s : State), k < 12 ∧ bit s.intr.status k = false ∧ bit s.intr.mask k = false ∧ s.intr.msixEn = true ∧
      s.intr.holdoff k = 0 ∧ bit (s.intr.entry k) 96 = false) ∧
    (∃ (k : Nat) (s : State), k < 12 ∧ bit s.intr.status k = false ∧ bit s.intr.mask k = false ∧ s.intr.msixEn = true ∧
      s.intr.holdoff k = 0 ∧ bit (s.intr.entry k) 96 = true) ∧
    (∃ (dt value k : Nat) (s u : State), s.advance dt = u ∧ k < 12 ∧ bit u.intr.mask k = true ∧ bit u.intr.status k = true ∧
      bit u.intr.signalled k = false ∧ bit value k = false ∧ u.intr.msixEn = true ∧ u.intr.holdoff k = 0 ∧ bit (u.intr.entry k) 96 = false) ∧
    ∃ (dt value : Nat) (s u : State), s.advance dt = u ∧ (∀ k, k < 12 → bit u.intr.status k = true → bit u.intr.signalled k = true) ∧
      bit u.intr.status 11 = true :=
  ⟨⟨11, { intr := { status := 2048 } }, by decide +kernel⟩, ⟨11, {}, by decide +kernel⟩,
    ⟨11, { intr := { mask := 0, msixEn := true, table := [(11, 5)] } }, by decide +kernel⟩,
    ⟨11, { intr := { mask := 0, msixEn := true } }, by decide +kernel⟩,
    ⟨0, 0, 11, { intr := { status := 2048, msixEn := true, table := [(11, 5)] } }, _, rfl, by decide +kernel⟩,
    0, 0, { intr := { status := 2048, signalled := 2048, msixEn := true } }, _, rfl, by decide +kernel⟩

/-- The premises of every case of `Obligations.SystemCommands` are met. -/
theorem witness_SystemCommands :
    (∃ q k s, cmdSysInfo.passes q k s = true) ∧
    (∃ q k s, cmdSysPaceSet.passes q k s = true) ∧
    (∃ q k s, cmdSysPaceGet.passes q k s = true) ∧
    (∃ q k s w, cmdSysAttendCancel.passes q k s = true ∧ s.win.state ≠ .closed ∧ s.win.held = some w) ∧
    (∃ q k s, cmdSysAttendCancel.passes q k s = true ∧ s.win.state = .closed) ∧
    (∃ q k s, cmdSysInbandSet.passes q k s = true ∧ q.b 0 = false ∧ s.inb.enable = true) ∧
    (∃ q k s, cmdSysInbandSet.passes q k s = true ∧ q.b 0 = true ∧ s.inb.enable = false ∧ s.win.state = .closed) ∧
    (∃ q k s, cmdSysInbandSend.passes q k s = true ∧ s.joined = true ∧ s.dom.dupId = false) ∧
    (∃ q k s, cmdSysWindowRead.passes q k s = true ∧ ((s.rung 0x0107 q k).windowRead 4 (q.f 0 64) (q.f 64 32)).1 = true) ∧
    (∃ q k s, cmdSysWindowWrite.passes q k s = true ∧ (q.f 64 32 = 0 ∨ cueBufferOffset + cueBufferBytes ≤ q.f 0 64
        ∨ q.f 0 64 + q.f 64 32 ≤ cueBufferOffset)) ∧
    (∃ q k s, cmdSysFwWrite.passes q k s = true ∧ (q.f 0 32 = 0 ∨ q.f 0 32 = (s.fw.image s.fw.spareSlot).bytes)
        ∧ q.f 0 32 + q.f 32 16 ≤ imageMax ∧ s.plat.warn = false) ∧
    (∃ q k s, cmdSysFwActivate.passes q k s = true ∧ s.win.state = .closed) ∧
    (∃ q k s, cmdSysSealProvision.passes q k s = true ∧ s.win.state = .closed) ∧
    (∃ q k s, cmdSysFactoryDefault.passes q k s = true ∧ s.win.state = .closed ∧ s.factoryRefusal = none) ∧
    (∃ q k s u, cmdSysTraceRead.passes q k s = true ∧ u = s.traceGrown ∧ u.fw.traceBase ≤ q.f 0 32) ∧
    (∃ q k s u, cmdSysTraceRead.passes q k s = true ∧ u = s.traceGrown ∧ q.f 0 32 < u.fw.traceBase) :=
  ⟨⟨{ src := .host 1, seq := 7, len := (cmdSysInfo.layout { payload := 0 }).bytes, payload := 0 }, 1,
    { fw := { running := true } }, by decide +kernel⟩,
    ⟨{ src := .host 1, seq := 7, len := (cmdSysPaceSet.layout { payload := 20 }).bytes, payload := 20 }, 1,
        { fw := { running := true } }, by decide +kernel⟩,
    ⟨{ src := .host 1, seq := 7, len := (cmdSysPaceGet.layout { payload := 0 }).bytes, payload := 0 }, 1,
        { fw := { running := true } }, by decide +kernel⟩,
    ⟨{ src := .host 1, seq := 7, len := (cmdSysAttendCancel.layout { payload := 0 }).bytes, payload := 0 }, 1,
        { fw := { running := true }, win := { state := .opened, held := some {} } }, ({} : Wait), by decide +kernel⟩,
    ⟨{ src := .host 1, seq := 7, len := (cmdSysAttendCancel.layout { payload := 0 }).bytes, payload := 0 }, 1,
        { fw := { running := true } }, by decide +kernel⟩,
    ⟨{ src := .host 1, seq := 7, len := (cmdSysInbandSet.layout { payload := 0 }).bytes, payload := 0 }, 1,
        { fw := { running := true }, inb := { enable := true } }, by decide +kernel⟩,
    ⟨{ src := .host 1, seq := 7, len := (cmdSysInbandSet.layout { payload := 1 }).bytes, payload := 1 }, 1,
        { fw := { running := true } }, by decide +kernel⟩,
    ⟨{ src := .host 1, seq := 7, len := (cmdSysInbandSend.layout { payload := word [(0, 1)] }).bytes, payload := word [(0, 1)] }, 1, { fw := { running := true }, banks := { active := { dom := 1 } }, dom := { isRoot := true } }, by decide +kernel⟩,
    ⟨{ src := .host 1, seq := 7, len := (cmdSysWindowRead.layout { payload := 0 }).bytes, payload := 0 }, 1,
        { fw := { running := true } }, by decide +kernel⟩,
    ⟨{ src := .host 1, seq := 7, len := (cmdSysWindowWrite.layout { payload := 0 }).bytes, payload := 0 }, 1,
        { fw := { running := true } }, by decide +kernel⟩,
    ⟨{ src := .host 1, seq := 7, len := (cmdSysFwWrite.layout { payload := word [(32, 1), (64, 9)] }).bytes, payload := word [(32, 1), (64, 9)] }, 1, { fw := { running := true } }, by decide +kernel⟩,
    ⟨{ src := .host 1, seq := 7, len := (cmdSysFwActivate.layout { payload := 0 }).bytes, payload := 0 }, 1,
        { fw := { running := true } }, by decide +kernel⟩,
    ⟨{ src := .host 1, seq := 7, len := (cmdSysSealProvision.layout { payload := 0 }).bytes, payload := 0 }, 1,
        { fw := { running := true } }, by decide +kernel⟩,
    ⟨{ src := .host 1, seq := 7, len := (cmdSysFactoryDefault.layout { payload := 0 }).bytes, payload := 0 }, 1,
        { fw := { running := true } }, by decide +kernel⟩,
    ⟨{ src := .host 1, seq := 7, len := (cmdSysTraceRead.layout { payload := 0 }).bytes, payload := 0 }, 1,
        { fw := { running := true }, plat := { service := true } }, _, by decide +kernel, rfl, traceBase_low rfl _⟩,
    ⟨{ src := .host 1, seq := 7, len := (cmdSysTraceRead.layout { payload := 0 }).bytes, payload := 0 }, 1,
        { fw := { running := true, traceEnd := 16777217 }, plat := { service := true } }, _, by decide +kernel, rfl,
        traceBase_high (by decide)⟩⟩

/-- The premises of every case of `Obligations.BankCommands` are met. -/
theorem witness_BankCommands :
    (∃ q k s, cmdBankStatus.passes q k s = true) ∧
    (∃ q k s, cmdBankSeed.passes q k s = true ∧ s.shadowBusy = none ∧ s.banks.state ≠ .armedLocal ∧ s.rnd.part ≠ .prepared
        ∧ s.rnd.part ≠ .armed) ∧
    (∃ q k s, cmdBankValidate.passes q k s = true ∧ s.banks.state ≠ .retained ∧ s.banks.state ≠ .reseeding) ∧
    (∃ q k s, cmdBankTag.passes q k s = true ∧ s.shadowBusy = none ∧ q.f 32 32 = s.banks.edits ∧ q.f 0 32 = 0
        ∧ s.banks.state = .tagged ∧ s.rnd.part ≠ .prepared ∧ s.rnd.part ≠ .armed) ∧
    (∃ q k s, cmdBankTag.passes q k s = true ∧ s.shadowBusy = none ∧ q.f 32 32 = s.banks.edits ∧ q.f 0 32 ≠ 0
        ∧ s.banks.state = .seeded ∧ ((s.rung 0x0204 q k).findings true s.nowU).isEmpty = true) ∧
    (∃ q k s, cmdBankTag.passes q k s = true ∧ s.shadowBusy = none ∧ q.f 32 32 ≠ s.banks.edits) ∧
    (∃ q k s, cmdEquinoxLocal.passes q k s = true ∧ s.shadowBusy = none ∧ q.f 32 32 = s.banks.edits ∧ s.banks.state = .seeded
        ∧ s.equinoxRow = none ∧ s.plat.warn = false ∧ q.b 0 = false
        ∧ ((s.rung 0x0205 q k).findings false s.nowU).isEmpty = true) ∧
    (∃ q k s, cmdEquinoxLocal.passes q k s = true ∧ s.shadowBusy = none ∧ q.f 32 32 = s.banks.edits ∧ s.banks.state = .seeded
        ∧ s.equinoxRow = none ∧ s.plat.warn = false ∧ q.b 0 = true
        ∧ ((s.rung 0x0205 q k).findings false (Time96.ofWord (q.f 64 96)).units).isEmpty = true
        ∧ 10 * uMs ≤ (Time96.ofWord (q.f 64 96)).units - s.nowU) ∧
    (∃ q k s id r, cmdEquinoxCancel.passes q k s = true ∧ s.banks.state = .armedLocal ∧ s.equinoxRow = some (id, r)
        ∧ r.handed = false) ∧
    (∃ q k s, cmdEquinoxDomainStart.passes q k s = true ∧ s.rootSpeaks = true ∧ s.rnd.root = .idle
        ∧ ((s.domainMinLead * 262144 : Nat) : Int) ≤ (Time96.ofWord (q.f 32 96)).units - s.nowU) ∧
    (∃ q k s, cmdEquinoxDomainCancel.passes q k s = true ∧ s.rnd.root = .cancelling ∧ q.f 0 32 = s.rnd.rootRec.round) ∧
    (∃ q k s, cmdEquinoxDomainCancel.passes q k s = true ∧ s.rnd.root ≠ .idle ∧ s.rnd.root ≠ .cancelling
        ∧ q.f 0 32 = s.rnd.rootRec.round ∧ s.nowU ≤ s.armDeadline) ∧
    (∃ q k s r, cmdEquinoxResultGet.passes q k s = true ∧ s.rnd.results.find? (fun r => r.round == q.f 0 32) = some r) :=
  ⟨⟨{ src := .host 1, seq := 7, len := (cmdBankStatus.layout { payload := 0 }).bytes, payload := 0 }, 1,
    { fw := { running := true } }, by decide +kernel⟩,
    ⟨{ src := .host 1, seq := 7, len := (cmdBankSeed.layout { payload := 0 }).bytes, payload := 0 }, 1,
        { fw := { running := true } }, by decide +kernel⟩,
    ⟨{ src := .host 1, seq := 7, len := (cmdBankValidate.layout { payload := 0 }).bytes, payload := 0 }, 1,
        { fw := { running := true } }, by decide +kernel⟩,
    ⟨{ src := .host 1, seq := 7, len := (cmdBankTag.layout { payload := 0 }).bytes, payload := 0 }, 1,
        { fw := { running := true }, banks := { state := .tagged } }, by decide +kernel⟩,
    ⟨{ src := .host 1, seq := 7, len := (cmdBankTag.layout { payload := word [(0, 1)] }).bytes, payload := word [(0, 1)] }, 1,
        { fw := { running := true } }, by decide +kernel⟩,
    ⟨{ src := .host 1, seq := 7, len := (cmdBankTag.layout { payload := word [(32, 1)] }).bytes, payload := word [(32, 1)] },
        1, { fw := { running := true } }, by decide +kernel⟩,
    ⟨{ src := .host 1, seq := 7, len := (cmdEquinoxLocal.layout { payload := 0 }).bytes, payload := 0 }, 1,
        { fw := { running := true } }, by decide +kernel⟩,
    ⟨{ src := .host 1, seq := 7, len := (cmdEquinoxLocal.layout { payload := word [(0, 1), (112, 1)] }).bytes, payload := word [(0, 1), (112, 1)] }, 1, { fw := { running := true } }, by decide +kernel⟩,
    ⟨{ src := .host 1, seq := 7, len := (cmdEquinoxCancel.layout { payload := 0 }).bytes, payload := 0 }, 1,
        { fw := { running := true }, banks := { state := .armedLocal }, cue := { rows := [(7, { equinox := true })] } }, 7,
        ({ equinox := true } : Row), by decide +kernel⟩,
    ⟨{ src := .host 1, seq := 7, len := (cmdEquinoxDomainStart.layout { payload := word [(0, 1), (80, 10)] }).bytes, payload := word [(0, 1), (80, 10)] }, 1, { fw := { running := true }, banks := { active := { dom := 1 } }, dom := { isRoot := true } }, by decide +kernel⟩,
    ⟨{ src := .host 1, seq := 7, len := (cmdEquinoxDomainCancel.layout { payload := 0 }).bytes, payload := 0 }, 1,
        { fw := { running := true }, rnd := { root := .cancelling } }, by decide +kernel⟩,
    ⟨{ src := .host 1, seq := 7, len := (cmdEquinoxDomainCancel.layout { payload := 0 }).bytes, payload := 0 }, 1,
        { fw := { running := true }, rnd := { root := .armed, rootRec := { inst := 100000000000 * 65536 } } },
        by decide +kernel⟩,
    ⟨{ src := .host 1, seq := 7, len := (cmdEquinoxResultGet.layout { payload := 0 }).bytes, payload := 0 }, 1,
        { fw := { running := true }, rnd := { results := [{}] } }, ({} : RootRec), by decide +kernel⟩⟩

/-- The premises of every case of `Obligations.PortCommands` are met. -/
theorem witness_PortCommands :
    (∃ q k s, cmdPortConfigSet.passes q k s = true ∧ s.flt.frozen = false ∧ s.banks.state = .seeded) ∧
    (∃ q k s, cmdPortConfigGet.passes q k s = true) ∧
    (∃ q k s, cmdPortStatus.passes q k s = true) ∧
    (∃ q k s, cmdPortStats.passes q k s = true) ∧
    (∃ q k s i, cmdHostRingSet.passes q k s = true ∧ i = q.f 0 2 + (if q.b 2 then 4 else 0) ∧ (s.ring i).enable = false
        ∧ q.b 3 = true) ∧
    (∃ q k s i, cmdHostRingSet.passes q k s = true ∧ i = q.f 0 2 + (if q.b 2 then 4 else 0) ∧ (s.ring i).enable = true
        ∧ q.b 3 = false ∧ (s.ring i).base = q.f 32 64 ∧ (s.ring i).entries = q.f 96 16 ∧ (s.ring i).bufKib = q.f 112 16) ∧
    (∃ q k s i, cmdHostRingSet.passes q k s = true ∧ i = q.f 0 2 + (if q.b 2 then 4 else 0) ∧ (s.ring i).enable = false
        ∧ q.b 3 = false) ∧
    (∃ q k s, cmdHostCounters.passes q k s = true) :=
  ⟨⟨{ src := .host 1, seq := 7, len := (cmdPortConfigSet.layout { payload := Config.portDefault 0 }).bytes, payload := Config.portDefault 0 }, 1, { fw := { running := true } }, by decide +kernel⟩,
    ⟨{ src := .host 1, seq := 7, len := (cmdPortConfigGet.layout { payload := 0 }).bytes, payload := 0 }, 1,
        { fw := { running := true } }, by decide +kernel⟩,
    ⟨{ src := .host 1, seq := 7, len := (cmdPortStatus.layout { payload := 0 }).bytes, payload := 0 }, 1,
        { fw := { running := true } }, by decide +kernel⟩,
    ⟨{ src := .host 1, seq := 7, len := (cmdPortStats.layout { payload := 0 }).bytes, payload := 0 }, 1,
        { fw := { running := true } }, by decide +kernel⟩,
    ⟨{ src := .host 1, seq := 7, len := (cmdHostRingSet.layout { payload := word [(3, 1), (32, 4096), (96, 256)] }).bytes, payload := word [(3, 1), (32, 4096), (96, 256)] }, 1, { fw := { running := true } }, 0, by decide +kernel⟩,
    ⟨{ src := .host 1, seq := 7, len := (cmdHostRingSet.layout { payload := word [(32, 4096), (96, 256)] }).bytes, payload := word [(32, 4096), (96, 256)] }, 1, { fw := { running := true }, host := { rings := [(0, { enable := true, base := 4096, entries := 256 })] } }, 0, by decide +kernel⟩,
    ⟨{ src := .host 1, seq := 7, len := (cmdHostRingSet.layout { payload := word [(32, 4096), (96, 256)] }).bytes, payload := word [(32, 4096), (96, 256)] }, 1, { fw := { running := true } }, 0, by decide +kernel⟩,
    ⟨{ src := .host 1, seq := 7, len := (cmdHostCounters.layout { payload := 0 }).bytes, payload := 0 }, 1,
        { fw := { running := true } }, by decide +kernel⟩⟩

/-- The premises of every case of `Obligations.SwitchCommands` are met. -/
theorem witness_SwitchCommands :
    (∃ q k s, cmdVlanSet.passes q k s = true ∧ s.flt.frozen = false ∧ s.banks.state = .seeded) ∧
    (∃ q k s, cmdPortFwdSet.passes q k s = true ∧ s.flt.frozen = false ∧ s.banks.state = .seeded) ∧
    (∃ q k s, cmdPortStateSet.passes q k s = true) ∧
    (∃ q k s table, cmdMacStaticSet.passes q k s = true ∧ table = (if q.b 12 then Tbl.put s.banks.shadow.mac (macKey (q.f 0 12) (q.f 16 48)) q.body else Tbl.erase s.banks.shadow.mac (macKey (q.f 0 12) (q.f 16 48))) ∧ table.length ≤ 4096 ∧ s.flt.frozen = false ∧ s.banks.state = .seeded) ∧
    (∃ q k s, cmdMacFlush.passes q k s = true) ∧
    (∃ q k s, cmdMacLookup.passes q k s = true) ∧
    (∃ q k s, cmdFlowRuleSet.passes q k s = true ∧ s.flt.frozen = false ∧ s.banks.state = .seeded) ∧
    (∃ q k s, cmdMcastGroupSet.passes q k s = true ∧ s.flt.frozen = false ∧ s.banks.state = .seeded) ∧
    (∃ q k s, cmdQueueSet.passes q k s = true ∧ s.flt.frozen = false ∧ s.banks.state = .seeded) ∧
    (∃ q k s, cmdRsvSet.passes q k s = true ∧ s.flt.frozen = false ∧ s.banks.state = .seeded) ∧
    (∃ q k s, cmdMirrorSet.passes q k s = true ∧ bit (q.f 32 56 ||| q.f 88 56) (q.f 8 8) = false ∧ q.b 2 = true) ∧
    (∃ q k s, cmdMirrorSet.passes q k s = true ∧ bit (q.f 32 56 ||| q.f 88 56) (q.f 8 8) = false
        ∧ (s.mirror (q.f 0 2)).on = true ∧ q.b 2 = false) ∧
    (∃ q k s, cmdMirrorSet.passes q k s = true ∧ bit (q.f 32 56 ||| q.f 88 56) (q.f 8 8) = true) ∧
    (∃ q k s, cmdSwitchConfigGet.passes q k s = true) ∧
    (∃ q k s, cmdSwitchStatus.passes q k s = true) ∧
    (∃ q k s, cmdSwitchCounters.passes q k s = true) :=
  ⟨⟨{ src := .host 1, seq := 7, len := (cmdVlanSet.layout { payload := Config.vlanOne }).bytes, payload := Config.vlanOne }, 1,
    { fw := { running := true } }, by decide +kernel⟩,
    ⟨{ src := .host 1, seq := 7, len := (cmdPortFwdSet.layout { payload := Config.fwdDefault 0 }).bytes, payload := Config.fwdDefault 0 }, 1, { fw := { running := true } }, by decide +kernel⟩,
    ⟨{ src := .host 1, seq := 7, len := (cmdPortStateSet.layout { payload := 0 }).bytes, payload := 0 }, 1,
        { fw := { running := true } }, by decide +kernel⟩,
    ⟨{ src := .host 1, seq := 7, len := (cmdMacStaticSet.layout { payload := word [(0, 1)] }).bytes, payload := word [(0, 1)] }, 1, { fw := { running := true } }, [], by decide +kernel⟩,
    ⟨{ src := .host 1, seq := 7, len := (cmdMacFlush.layout { payload := 0 }).bytes, payload := 0 }, 1,
        { fw := { running := true } }, by decide +kernel⟩,
    ⟨{ src := .host 1, seq := 7, len := (cmdMacLookup.layout { payload := 0 }).bytes, payload := 0 }, 1,
        { fw := { running := true } }, by decide +kernel⟩,
    ⟨{ src := .host 1, seq := 7, len := (cmdFlowRuleSet.layout { payload := 0 }).bytes, payload := 0 }, 1,
        { fw := { running := true } }, by decide +kernel⟩,
    ⟨{ src := .host 1, seq := 7, len := (cmdMcastGroupSet.layout { payload := word [(16, 1), (72, 1)] }).bytes, payload := word [(16, 1), (72, 1)] }, 1, { fw := { running := true } }, by decide +kernel⟩,
    ⟨{ src := .host 1, seq := 7, len := (cmdQueueSet.layout { payload := Config.queueDefault 0 0 }).bytes, payload := Config.queueDefault 0 0 }, 1, { fw := { running := true } }, by decide +kernel⟩,
    ⟨{ src := .host 1, seq := 7, len := (cmdRsvSet.layout { payload := word [(64, 64), (96, 84)] }).bytes, payload := word [(64, 64), (96, 84)] }, 1, { fw := { running := true } }, by decide +kernel⟩,
    ⟨{ src := .host 1, seq := 7, len := (cmdMirrorSet.layout { payload := word [(2, 1), (160, 1)] }).bytes, payload := word [(2, 1), (160, 1)] }, 1, { fw := { running := true } }, by decide +kernel⟩,
    ⟨{ src := .host 1, seq := 7, len := (cmdMirrorSet.layout { payload := word [(160, 1)] }).bytes, payload := word [(160, 1)] }, 1, { fw := { running := true }, sw := { mirrors := [(0, { cfg := 4 })] } }, by decide +kernel⟩,
    ⟨{ src := .host 1, seq := 7, len := (cmdMirrorSet.layout { payload := word [(32, 1), (160, 1)] }).bytes, payload := word [(32, 1), (160, 1)] }, 1, { fw := { running := true } }, by decide +kernel⟩,
    ⟨{ src := .host 1, seq := 7, len := (cmdSwitchConfigGet.layout { payload := word [(0, 1)] }).bytes, payload := word [(0, 1)] }, 1, { fw := { running := true } }, by decide +kernel⟩,
    ⟨{ src := .host 1, seq := 7, len := (cmdSwitchStatus.layout { payload := 0 }).bytes, payload := 0 }, 1,
        { fw := { running := true } }, by decide +kernel⟩,
    ⟨{ src := .host 1, seq := 7, len := (cmdSwitchCounters.layout { payload := 0 }).bytes, payload := 0 }, 1,
        { fw := { running := true } }, by decide +kernel⟩⟩

/-- The premises of every case of `Obligations.TimeCommands` are met. -/
theorem witness_TimeCommands :
    (∃ q k s, cmdTimeGet.passes q k s = true) ∧
    (∃ q k s, cmdTimeSetFreq.passes q k s = true ∧ s.sel.loopHeld = true) ∧
    (∃ q k s, cmdTimeSetFreq.passes q k s = true ∧ s.sel.loopHeld = false) ∧
    (∃ q k s slope, cmdTimeAdjPhase.passes q k s = true ∧ s.sel.loopHeld = true
        ∧ slope = (if q.f 64 32 = 0 then s.banks.active.slopeLimit else q.f 64 32)) ∧
    (∃ q k s, cmdTimeAdjPhase.passes q k s = true ∧ s.sel.loopHeld = false) ∧
    (∃ q k s, cmdTimeStep.passes q k s = true ∧ q.f 0 8 ≠ 2 ∧ q.f 192 96 = 0 ∧ stepAttended q s = false) ∧
    (∃ q k s, cmdTimeStep.passes q k s = true ∧ q.f 0 8 ≠ 2 ∧ stepAttended q s = true ∧ s.win.state = .closed) ∧
    (∃ q k s, cmdTimeStep.passes q k s = true ∧ q.f 0 8 = 2 ∧ s.qualifiedSelected = true ∧ s.time.valid = false
        ∧ q.f 192 96 = 0) ∧
    (∃ q k s, cmdLeapTableSet.passes q k s = true ∧ leapPendingAt s.time.sec s.leap.table = none) ∧
    (∃ q k s, cmdLeapTableGet.passes q k s = true) ∧
    (∃ q k s, cmdStampLatencySet.passes q k s = true ∧ s.flt.frozen = false ∧ s.banks.state = .seeded) ∧
    (∃ q k s, cmdStampLatencyGet.passes q k s = true) ∧
    (∃ q k s, cmdStampRingSet.passes q k s = true ∧ s.stamps.enable = false ∧ q.b 80 = true) ∧
    (∃ q k s, cmdStampRingSet.passes q k s = true ∧ s.stamps.enable = true ∧ q.f 0 64 = s.stamps.base
        ∧ q.f 64 16 = s.stamps.entries ∧ q.b 80 = false) ∧
    (∃ q k s, cmdStampCounters.passes q k s = true) :=
  ⟨⟨{ src := .host 1, seq := 7, len := (cmdTimeGet.layout { payload := 0 }).bytes, payload := 0 }, 1,
    { fw := { running := true } }, by decide +kernel⟩,
    ⟨{ src := .host 1, seq := 7, len := (cmdTimeSetFreq.layout { payload := 0 }).bytes, payload := 0 }, 1,
        { fw := { running := true }, sel := { loopHeld := true } }, by decide +kernel⟩,
    ⟨{ src := .host 1, seq := 7, len := (cmdTimeSetFreq.layout { payload := 0 }).bytes, payload := 0 }, 1,
        { fw := { running := true } }, by decide +kernel⟩,
    ⟨{ src := .host 1, seq := 7, len := (cmdTimeAdjPhase.layout { payload := 0 }).bytes, payload := 0 }, 1,
        { fw := { running := true }, sel := { loopHeld := true } }, 100, by decide +kernel⟩,
    ⟨{ src := .host 1, seq := 7, len := (cmdTimeAdjPhase.layout { payload := 0 }).bytes, payload := 0 }, 1,
        { fw := { running := true } }, by decide +kernel⟩,
    ⟨{ src := .host 1, seq := 7, len := (cmdTimeStep.layout { payload := 0 }).bytes, payload := 0 }, 1,
        { fw := { running := true } }, by decide +kernel⟩,
    ⟨{ src := .host 1, seq := 7, len := (cmdTimeStep.layout { payload := word [(32, 1099511627776)] }).bytes, payload := word [(32, 1099511627776)] }, 1, { fw := { running := true }, time := { valid := true } }, by decide +kernel⟩,
    ⟨{ src := .host 1, seq := 7, len := (cmdTimeStep.layout { payload := 2 }).bytes, payload := 2 }, 1,
        { fw := { running := true }, sel := { selected := some 1 }, refs := [(1, { state := .qualified })] },
        by decide +kernel⟩,
    ⟨{ src := .host 1, seq := 7, len := (cmdLeapTableSet.layout { payload := word [(0, 1)] }).bytes, payload := word [(0, 1)] }, 1, { fw := { running := true } }, by decide +kernel⟩,
    ⟨{ src := .host 1, seq := 7, len := (cmdLeapTableGet.layout { payload := 0 }).bytes, payload := 0 }, 1,
        { fw := { running := true } }, by decide +kernel⟩,
    ⟨{ src := .host 1, seq := 7, len := (cmdStampLatencySet.layout { payload := 0 }).bytes, payload := 0 }, 1,
        { fw := { running := true } }, by decide +kernel⟩,
    ⟨{ src := .host 1, seq := 7, len := (cmdStampLatencyGet.layout { payload := 0 }).bytes, payload := 0 }, 1,
        { fw := { running := true } }, by decide +kernel⟩,
    ⟨{ src := .host 1, seq := 7, len := (cmdStampRingSet.layout { payload := word [(64, 256), (80, 1)] }).bytes, payload := word [(64, 256), (80, 1)] }, 1, { fw := { running := true } }, by decide +kernel⟩,
    ⟨{ src := .host 1, seq := 7, len := (cmdStampRingSet.layout { payload := word [(64, 256)] }).bytes, payload := word [(64, 256)] }, 1, { fw := { running := true }, stamps := { enable := true, entries := 256 } }, by decide +kernel⟩,
    ⟨{ src := .host 1, seq := 7, len := (cmdStampCounters.layout { payload := 0 }).bytes, payload := 0 }, 1,
        { fw := { running := true } }, by decide +kernel⟩⟩

/-- The premises of every case of `Obligations.MeasurementCommands` are met. -/
theorem witness_MeasurementCommands :
    (∃ q k s, cmdMeasChannelSet.passes q k s = true ∧ 8 < q.f 0 4 ∧ s.feeds (q.f 0 4) = false ∧ q.b 16 = true) ∧
    (∃ q k s, cmdMeasChannelSet.passes q k s = true ∧ 8 < q.f 0 4 ∧ s.feeds (q.f 0 4) = false ∧ q.b 16 = false
        ∧ (s.chan (q.f 0 4)).state ≠ 0) ∧
    (∃ q k s, cmdMeasChannelSet.passes q k s = true ∧ q.f 0 4 ≤ 8) ∧
    (∃ q k s, cmdMeasChannelGet.passes q k s = true) ∧
    (∃ q k s, cmdMeasStart.passes q k s = true ∧ (s.job (q.f 0 4)).running = false ∧ (s.chan (q.f 8 4)).running = true
        ∧ (q.b 16 = true → (s.chan (q.f 12 4)).running = true) ∧ s.nowU ≤ s.jobStart q) ∧
    (∃ q k s, cmdMeasStop.passes q k s = true ∧ (s.job (q.f 0 4)).running = true) ∧
    (∃ q k s r, cmdMeasResultGet.passes q k s = true ∧ (s.job (q.f 0 4)).result = some r) ∧
    (∃ q k s, cmdMeasResultGet.passes q k s = true ∧ (s.job (q.f 0 4)).result = none) ∧
    (∃ q k s tbl, cmdMeasCalGet.passes q k s = true ∧ (s.chan (q.f 0 4)).hits = some tbl) ∧
    (∃ q k s, cmdMeasCalGet.passes q k s = true ∧ (s.chan (q.f 0 4)).hits = none) ∧
    (∃ q k s, cmdMeasCalRun.passes q k s = true ∧ 8 < q.f 0 4 ∧ (s.chan (q.f 0 4)).state ≠ 0 ∧ s.feeds (q.f 0 4) = false) ∧
    (∃ q k s, cmdOcxoStatus.passes q k s = true) :=
  ⟨⟨{ src := .host 1, seq := 7, len := (cmdMeasChannelSet.layout { payload := word [(0, 9), (16, 1), (64, 1), (96, 1000000)] }).bytes, payload := word [(0, 9), (16, 1), (64, 1), (96, 1000000)] }, 1, { fw := { running := true } }, by decide +kernel⟩,
    ⟨{ src := .host 1, seq := 7, len := (cmdMeasChannelSet.layout { payload := word [(0, 9), (64, 1), (96, 1000000)] }).bytes, payload := word [(0, 9), (64, 1), (96, 1000000)] }, 1, { fw := { running := true }, meas := { ch := [(9, { state := 1 })] } }, by decide +kernel⟩,
    ⟨{ src := .host 1, seq := 7, len := (cmdMeasChannelSet.layout { payload := word [(64, 1), (96, 1000000)] }).bytes, payload := word [(64, 1), (96, 1000000)] }, 1, { fw := { running := true } }, by decide +kernel⟩,
    ⟨{ src := .host 1, seq := 7, len := (cmdMeasChannelGet.layout { payload := 0 }).bytes, payload := 0 }, 1,
        { fw := { running := true } }, by decide +kernel⟩,
    ⟨{ src := .host 1, seq := 7, len := (cmdMeasStart.layout { payload := word [(8, 9), (32, 1)] }).bytes, payload := word [(8, 9), (32, 1)] }, 1, { fw := { running := true }, meas := { ch := [(9, { state := 2 })] } }, by decide +kernel⟩,
    ⟨{ src := .host 1, seq := 7, len := (cmdMeasStop.layout { payload := 0 }).bytes, payload := 0 }, 1,
        { fw := { running := true }, meas := { job := [(0, { running := true })] } }, by decide +kernel⟩,
    ⟨{ src := .host 1, seq := 7, len := (cmdMeasResultGet.layout { payload := 0 }).bytes, payload := 0 }, 1,
        { fw := { running := true }, meas := { job := [(0, { result := some { word := 5 } })] } },
        ({ word := 5 } : MeasResult), by decide +kernel⟩,
    ⟨{ src := .host 1, seq := 7, len := (cmdMeasResultGet.layout { payload := 0 }).bytes, payload := 0 }, 1,
        { fw := { running := true } }, by decide +kernel⟩,
    ⟨{ src := .host 1, seq := 7, len := (cmdMeasCalGet.layout { payload := 0 }).bytes, payload := 0 }, 1,
        { fw := { running := true }, meas := { ch := [(0, { hits := some [] })] } }, ([] : Tbl Nat), by decide +kernel⟩,
    ⟨{ src := .host 1, seq := 7, len := (cmdMeasCalGet.layout { payload := 0 }).bytes, payload := 0 }, 1,
        { fw := { running := true } }, by decide +kernel⟩,
    ⟨{ src := .host 1, seq := 7, len := (cmdMeasCalRun.layout { payload := 9 }).bytes, payload := 9 }, 1,
        { fw := { running := true }, meas := { ch := [(9, { state := 1 })] } }, by decide +kernel⟩,
    ⟨{ src := .host 1, seq := 7, len := (cmdOcxoStatus.layout { payload := 0 }).bytes, payload := 0 }, 1,
        { fw := { running := true } }, by decide +kernel⟩⟩

/-- The premises of every case of `Obligations.ReferenceCommands` are met. -/
theorem witness_ReferenceCommands :
    (∃ q k s, cmdRefConfigSet.passes q k s = true ∧ s.flt.frozen = false ∧ s.banks.state = .seeded) ∧
    (∃ q k s, cmdRefConfigGet.passes q k s = true) ∧
    (∃ q k s, cmdRefStatus.passes q k s = true) ∧
    (∃ q k s, cmdSelModeSet.passes q k s = true ∧ (q.f 0 2 = 2 → s.banks.active.refType (q.f 4 4) ≠ 0
        ∧ s.banks.active.rank (q.f 4 4) ≠ 0)) ∧
    (∃ q k s, cmdSelStatus.passes q k s = true) ∧
    (∃ q k s, cmdLoopSet.passes q k s = true ∧ s.sel.loopHeld = !q.b 0) ∧
    (∃ q k s, cmdTimingPolicySet.passes q k s = true ∧ s.flt.frozen = false ∧ s.banks.state = .seeded) ∧
    (∃ q k s, cmdTimingPolicyGet.passes q k s = true) ∧
    (∃ q k s, cmdOutputSet.passes q k s = true ∧ s.flt.frozen = false ∧ s.banks.state = .seeded) ∧
    (∃ q k s, cmdOutputGet.passes q k s = true) ∧
    (∃ q k s, cmdHoldoverStatus.passes q k s = true) :=
  ⟨⟨{ src := .host 1, seq := 7, len := (cmdRefConfigSet.layout { payload := word [(20, 15)] }).bytes, payload := word [(20, 15)] }, 1, { fw := { running := true } }, by decide +kernel⟩,
    ⟨{ src := .host 1, seq := 7, len := (cmdRefConfigGet.layout { payload := 0 }).bytes, payload := 0 }, 1,
        { fw := { running := true } }, by decide +kernel⟩,
    ⟨{ src := .host 1, seq := 7, len := (cmdRefStatus.layout { payload := 0 }).bytes, payload := 0 }, 1,
        { fw := { running := true } }, by decide +kernel⟩,
    ⟨{ src := .host 1, seq := 7, len := (cmdSelModeSet.layout { payload := 0 }).bytes, payload := 0 }, 1,
        { fw := { running := true } }, by decide +kernel⟩,
    ⟨{ src := .host 1, seq := 7, len := (cmdSelStatus.layout { payload := 0 }).bytes, payload := 0 }, 1,
        { fw := { running := true } }, by decide +kernel⟩,
    ⟨{ src := .host 1, seq := 7, len := (cmdLoopSet.layout { payload := 0 }).bytes, payload := 0 }, 1,
        { fw := { running := true }, sel := { loopHeld := true } }, by decide +kernel⟩,
    ⟨{ src := .host 1, seq := 7, len := (cmdTimingPolicySet.layout { payload := Config.policyDefault }).bytes, payload := Config.policyDefault }, 1, { fw := { running := true } }, by decide +kernel⟩,
    ⟨{ src := .host 1, seq := 7, len := (cmdTimingPolicyGet.layout { payload := 0 }).bytes, payload := 0 }, 1,
        { fw := { running := true } }, by decide +kernel⟩,
    ⟨{ src := .host 1, seq := 7, len := (cmdOutputSet.layout { payload := 0 }).bytes, payload := 0 }, 1,
        { fw := { running := true } }, by decide +kernel⟩,
    ⟨{ src := .host 1, seq := 7, len := (cmdOutputGet.layout { payload := 0 }).bytes, payload := 0 }, 1,
        { fw := { running := true } }, by decide +kernel⟩,
    ⟨{ src := .host 1, seq := 7, len := (cmdHoldoverStatus.layout { payload := 0 }).bytes, payload := 0 }, 1,
        { fw := { running := true } }, by decide +kernel⟩⟩

/-- The premises of every case of `Obligations.ReceiverCommands` are met. -/
theorem witness_ReceiverCommands :
    (∃ q k s, cmdGnssConfigSet.passes q k s = true ∧ s.flt.frozen = false ∧ s.banks.state = .seeded) ∧
    (∃ q k s, cmdGnssConfigGet.passes q k s = true) ∧
    (∃ q k s, cmdGnssStatus.passes q k s = true) ∧
    (∃ q k s, cmdGnssSatList.passes q k s = true) ∧
    (∃ q k s, cmdGnssSurveyRestart.passes q k s = true ∧ s.gnssBank.gnssFixed = false ∧ s.gnss.rx ≠ .off
        ∧ s.gnss.rx ≠ .acquiring) ∧
    (∃ q k s, cmdGnssReset.passes q k s = true ∧ s.gnss.rx ≠ .off ∧ q.b 2 = false) ∧
    (∃ q k s, cmdGnssReset.passes q k s = true ∧ s.gnss.rx ≠ .off ∧ q.b 2 = true) :=
  ⟨⟨{ src := .host 1, seq := 7, len := (cmdGnssConfigSet.layout { payload := Config.gnssDefault }).bytes, payload := Config.gnssDefault }, 1, { fw := { running := true } }, by decide +kernel⟩,
    ⟨{ src := .host 1, seq := 7, len := (cmdGnssConfigGet.layout { payload := 0 }).bytes, payload := 0 }, 1,
        { fw := { running := true } }, by decide +kernel⟩,
    ⟨{ src := .host 1, seq := 7, len := (cmdGnssStatus.layout { payload := 0 }).bytes, payload := 0 }, 1,
        { fw := { running := true } }, by decide +kernel⟩,
    ⟨{ src := .host 1, seq := 7, len := (cmdGnssSatList.layout { payload := 0 }).bytes, payload := 0 }, 1,
        { fw := { running := true } }, by decide +kernel⟩,
    ⟨{ src := .host 1, seq := 7, len := (cmdGnssSurveyRestart.layout { payload := 0 }).bytes, payload := 0 }, 1,
        { fw := { running := true }, gnss := { rx := .survey } }, by decide +kernel⟩,
    ⟨{ src := .host 1, seq := 7, len := (cmdGnssReset.layout { payload := 0 }).bytes, payload := 0 }, 1,
        { fw := { running := true }, gnss := { rx := .survey } }, by decide +kernel⟩,
    ⟨{ src := .host 1, seq := 7, len := (cmdGnssReset.layout { payload := 6 }).bytes, payload := 6 }, 1,
        { fw := { running := true }, gnss := { rx := .survey } }, by decide +kernel⟩⟩

/-- The premises of every case of `Obligations.DomainCommands` are met. -/
theorem witness_DomainCommands :
    (∃ q k s, cmdDomainConfigSet.passes q k s = true ∧ (Tbl.getD s.keys.slot (q.f 64 8) {}).typ = 1 ∧ s.flt.frozen = false
        ∧ s.banks.state = .seeded) ∧
    (∃ q k s, cmdDomainConfigGet.passes q k s = true) ∧
    (∃ q k s, cmdPortTimingSet.passes q k s = true ∧ s.flt.frozen = false ∧ s.banks.state = .seeded) ∧
    (∃ q k s, cmdFibrePairSet.passes q k s = true ∧ s.flt.frozen = false ∧ s.banks.state = .seeded) ∧
    (∃ q k s, cmdTrunkStatus.passes q k s = true) ∧
    (∃ q k s, cmdDomainStatus.passes q k s = true) ∧
    (∃ q k s, cmdLinkCalRun.passes q k s = true ∧ s.dom.parentPort = some (q.f 0 8) ∧ s.sel.selected = some 7
        ∧ (s.chan (q.f 8 4)).state = 2 ∧ s.channelUhz (s.chan (q.f 8 4)) = 1000000) ∧
    (∃ q k s, cmdDomainMembers.passes q k s = true) :=
  ⟨⟨{ src := .host 1, seq := 7, len := (cmdDomainConfigSet.layout { payload := Config.domDefault }).bytes, payload := Config.domDefault }, 1, { fw := { running := true }, keys := { slot := [(0, { typ := 1 })] } }, by decide +kernel⟩,
    ⟨{ src := .host 1, seq := 7, len := (cmdDomainConfigGet.layout { payload := 0 }).bytes, payload := 0 }, 1,
        { fw := { running := true } }, by decide +kernel⟩,
    ⟨{ src := .host 1, seq := 7, len := (cmdPortTimingSet.layout { payload := 0 }).bytes, payload := 0 }, 1,
        { fw := { running := true } }, by decide +kernel⟩,
    ⟨{ src := .host 1, seq := 7, len := (cmdFibrePairSet.layout { payload := 1 }).bytes, payload := 1 }, 1,
        { fw := { running := true } }, by decide +kernel⟩,
    ⟨{ src := .host 1, seq := 7, len := (cmdTrunkStatus.layout { payload := 0 }).bytes, payload := 0 }, 1,
        { fw := { running := true } }, by decide +kernel⟩,
    ⟨{ src := .host 1, seq := 7, len := (cmdDomainStatus.layout { payload := 0 }).bytes, payload := 0 }, 1,
        { fw := { running := true } }, by decide +kernel⟩,
    ⟨{ src := .host 1, seq := 7, len := (cmdLinkCalRun.layout { payload := word [(8, 9), (32, 10)] }).bytes, payload := word [(8, 9), (32, 10)] }, 1, { fw := { running := true }, dom := { parentPort := some 0 }, sel := { selected := some 7 }, meas := { ch := [(9, { state := 2, cfg := word [(96, 1000000)] })] } }, by decide +kernel⟩,
    ⟨{ src := .host 1, seq := 7, len := (cmdDomainMembers.layout { payload := 0 }).bytes, payload := 0 }, 1,
        { fw := { running := true } }, by decide +kernel⟩⟩

/-- The premises of every case of `Obligations.CueCommands` are met. -/
theorem witness_CueCommands :
    (∃ q k s, cmdCueAdd.passes q k s = true ∧ q.b 4 = true ∧ s.cue.rows.length < cueRows) ∧
    (∃ q k s, cmdCueAdd.passes q k s = true ∧ q.b 4 = false
        ∧ (s.rung 0x0A01 q k).rowRefusal (rowOf q.body (Time96.ofWord (q.f 96 96)).units 0 0) = rsNone) ∧
    (∃ q k s r, cmdCueCancel.passes q k s = true ∧ q.b 16 = false ∧ Tbl.get? s.cue.rows (q.f 0 16) = some r
        ∧ r.equinox = false ∧ r.template = true) ∧
    (∃ q k s, cmdCueCancel.passes q k s = true ∧ q.b 16 = true) ∧
    (∃ q k s r, cmdCueCancel.passes q k s = true ∧ q.b 16 = false ∧ Tbl.get? s.cue.rows (q.f 0 16) = some r
        ∧ r.equinox = false ∧ r.template = false ∧ r.handed = false) ∧
    (∃ q k s, cmdCueCancel.passes q k s = true ∧ q.b 16 = false ∧ Tbl.get? s.cue.rows (q.f 0 16) = none) ∧
    (∃ q k s, cmdCueList.passes q k s = true) ∧
    (∃ q k s, cmdCueStatus.passes q k s = true ∧ s.cue.rows ≠ []) ∧
    (∃ q k s, cmdCueDomainAnnounce.passes q k s = true ∧ s.rootSpeaks = true
        ∧ (s.cue.rounds.filter (fun c => c.mine && !c.sent)).length < 16
        ∧ (s.domainLeadNs : Int) * uNs ≤ (Time96.ofWord (q.f 32 96)).units - s.nowU) ∧
    (∃ q k s x, cmdCueDomainCancel.passes q k s = true ∧ s.rootSpeaks = true
        ∧ s.cue.issued.find? (fun e => e.1 == q.f 0 32) = some x ∧ (s.domainLeadNs : Int) * uNs ≤ (x.2.1 : Int) - s.nowU
        ∧ s.cue.cancels.any (fun d => d.mine && d.round == x.1) = false) ∧
    (∃ q k s, cmdCaptureRingSet.passes q k s = true ∧ s.cap.enable = false ∧ q.b 88 = true) ∧
    (∃ q k s, cmdCaptureRingSet.passes q k s = true ∧ s.cap.enable = true ∧ q.f 0 64 = s.cap.offset
        ∧ q.f 64 24 = s.cap.entries ∧ q.b 88 = false) ∧
    (∃ q k s n, cmdCueFrameWrite.passes q k s = true ∧ s.armedRows.any (fun e => e.2.kind == 1 && e.2.slot == q.f 0 16) = false ∧ n = (q.f 32 16 + 63) / 64 * 64) ∧
    (∃ q k s c, cmdCueDomainResultGet.passes q k s = true ∧ s.cue.results.find? (fun c => c.round == q.f 0 32) = some c) :=
  ⟨⟨{ src := .host 1, seq := 7, len := (cmdCueAdd.layout { payload := word [(0, 5), (4, 1), (8, 9)] }).bytes, payload := word [(0, 5), (4, 1), (8, 9)] }, 1, { fw := { running := true } }, by decide +kernel⟩,
    ⟨{ src := .host 1, seq := 7, len := (cmdCueAdd.layout { payload := word [(0, 2), (144, 1)] }).bytes, payload := word [(0, 2), (144, 1)] }, 1, { fw := { running := true }, banks := { active := { port := [(0, word [(8, 1)])] } } }, by decide +kernel⟩,
    ⟨{ src := .host 1, seq := 7, len := (cmdCueCancel.layout { payload := 0 }).bytes, payload := 0 }, 1,
        { fw := { running := true }, cue := { rows := [(0, { template := true })] } }, ({ template := true } : Row),
        by decide +kernel⟩,
    ⟨{ src := .host 1, seq := 7, len := (cmdCueCancel.layout { payload := word [(16, 1)] }).bytes, payload := word [(16, 1)] }, 1, { fw := { running := true } }, by decide +kernel⟩,
    ⟨{ src := .host 1, seq := 7, len := (cmdCueCancel.layout { payload := 0 }).bytes, payload := 0 }, 1,
        { fw := { running := true }, cue := { rows := [(0, {})] } }, ({} : Row), by decide +kernel⟩,
    ⟨{ src := .host 1, seq := 7, len := (cmdCueCancel.layout { payload := 0 }).bytes, payload := 0 }, 1,
        { fw := { running := true } }, by decide +kernel⟩,
    ⟨{ src := .host 1, seq := 7, len := (cmdCueList.layout { payload := 0 }).bytes, payload := 0 }, 1,
        { fw := { running := true } }, by decide +kernel⟩,
    ⟨{ src := .host 1, seq := 7, len := (cmdCueStatus.layout { payload := 0 }).bytes, payload := 0 }, 1,
        { fw := { running := true }, cue := { rows := [(0, {})] } }, by decide +kernel⟩,
    ⟨{ src := .host 1, seq := 7, len := (cmdCueDomainAnnounce.layout { payload := word [(80, 10)] }).bytes, payload := word [(80, 10)] }, 1, { fw := { running := true }, banks := { active := { dom := 1 } }, dom := { isRoot := true } }, by decide +kernel⟩,
    ⟨{ src := .host 1, seq := 7, len := (cmdCueDomainCancel.layout { payload := 3 }).bytes, payload := 3 }, 1,
        { fw := { running := true }, banks := { active := { dom := 1 } }, dom := { isRoot := true }, cue := { issued := [(3, 10000000000 * 65536, 0)] } }, (3, 10000000000 * 65536, 0), by decide +kernel⟩,
    ⟨{ src := .host 1, seq := 7, len := (cmdCaptureRingSet.layout { payload := word [(64, 4096), (88, 1)] }).bytes, payload := word [(64, 4096), (88, 1)] }, 1, { fw := { running := true } }, by decide +kernel⟩,
    ⟨{ src := .host 1, seq := 7, len := (cmdCaptureRingSet.layout { payload := word [(64, 4096)] }).bytes, payload := word [(64, 4096)] }, 1, { fw := { running := true }, cap := { enable := true, entries := 4096 } }, by decide +kernel⟩,
    ⟨{ src := .host 1, seq := 7, len := (cmdCueFrameWrite.layout { payload := word [(32, 1), (64, 9)] }).bytes, payload := word [(32, 1), (64, 9)] }, 1, { fw := { running := true } }, 64, by decide +kernel⟩,
    ⟨{ src := .host 1, seq := 7, len := (cmdCueDomainResultGet.layout { payload := 0 }).bytes, payload := 0 }, 1,
        { fw := { running := true }, cue := { results := [{ round := 0 }] } }, ({ round := 0 } : CueRound), by decide +kernel⟩⟩

/-- The premises of every case of `Obligations.TimeServiceCommands` are met. -/
theorem witness_TimeServiceCommands :
    (∃ q k s, cmdTsConfigSet.passes q k s = true ∧ s.flt.frozen = false ∧ s.banks.state = .seeded) ∧
    (∃ q k s, cmdTsConfigGet.passes q k s = true) ∧
    (∃ q k s, cmdTsAddrSet.passes q k s = true ∧ s.flt.frozen = false ∧ s.banks.state = .seeded) ∧
    (∃ q k s, cmdTsPrefixSet.passes q k s = true ∧ s.flt.frozen = false ∧ s.banks.state = .seeded) ∧
    (∃ q k s, cmdTsPolicySet.passes q k s = true ∧ s.flt.frozen = false ∧ s.banks.state = .seeded) ∧
    (∃ q k s, ({ cmdPtpPortSet with range := fun _ _ => true } : Command).passes q k s = true ∧ q.f 0 8 < portCount
        ∧ s.banks.shadow.trunk (q.f 0 8) = false ∧ q.f 8 3 ≤ 4 ∧ q.f 11 3 ≤ 4 ∧ q.f 14 2 ≤ 2 ∧ 2 ≤ q.f 56 8 ∧ q.f 19 2 = 0
        ∧ s.flt.frozen = false ∧ s.banks.state = .seeded) ∧
    (∃ q k s, cmdTsStatus.passes q k s = true) ∧
    (∃ q k s, cmdTsCounters.passes q k s = true) ∧
    (∃ q k s e, cmdTsLedgerGet.passes q k s = true ∧ s.entry (q.f 0 2, q.f 4 12, q.f 32 128) = some e) ∧
    (∃ q k s, cmdTsLedgerGet.passes q k s = true ∧ s.entry (q.f 0 2, q.f 4 12, q.f 32 128) = none) ∧
    (∃ q k s, cmdTsLedgerFlush.passes q k s = true) ∧
    (∃ q k s, cmdNtsCookieIssue.passes q k s = true ∧ s.sealBroken = false ∧ s.ts.nts = true ∧ s.ts.cookies ≠ []) :=
  ⟨⟨{ src := .host 1, seq := 7, len := (cmdTsConfigSet.layout { payload := Config.tsDefault }).bytes, payload := Config.tsDefault }, 1, { fw := { running := true } }, by decide +kernel⟩,
    ⟨{ src := .host 1, seq := 7, len := (cmdTsConfigGet.layout { payload := 0 }).bytes, payload := 0 }, 1,
        { fw := { running := true } }, by decide +kernel⟩,
    ⟨{ src := .host 1, seq := 7, len := (cmdTsAddrSet.layout { payload := 0 }).bytes, payload := 0 }, 1,
        { fw := { running := true } }, by decide +kernel⟩,
    ⟨{ src := .host 1, seq := 7, len := (cmdTsPrefixSet.layout { payload := 0 }).bytes, payload := 0 }, 1,
        { fw := { running := true } }, by decide +kernel⟩,
    ⟨{ src := .host 1, seq := 7, len := (cmdTsPolicySet.layout { payload := Config.tspolDefault 0 }).bytes, payload := Config.tspolDefault 0 }, 1, { fw := { running := true } }, by decide +kernel⟩,
    ⟨{ src := .host 1, seq := 7, len := (cmdPtpPortSet.layout { payload := Config.ptpDefault 0 }).bytes, payload := Config.ptpDefault 0 }, 1, { fw := { running := true } }, by decide +kernel⟩,
    ⟨{ src := .host 1, seq := 7, len := (cmdTsStatus.layout { payload := 0 }).bytes, payload := 0 }, 1,
        { fw := { running := true } }, by decide +kernel⟩,
    ⟨{ src := .host 1, seq := 7, len := (cmdTsCounters.layout { payload := 0 }).bytes, payload := 0 }, 1,
        { fw := { running := true } }, by decide +kernel⟩,
    ⟨{ src := .host 1, seq := 7, len := (cmdTsLedgerGet.layout { payload := 0 }).bytes, payload := 0 }, 1,
        { fw := { running := true }, ts := { ledger := [{}] } }, ({} : Ledger), by decide +kernel⟩,
    ⟨{ src := .host 1, seq := 7, len := (cmdTsLedgerGet.layout { payload := 0 }).bytes, payload := 0 }, 1,
        { fw := { running := true } }, by decide +kernel⟩,
    ⟨{ src := .host 1, seq := 7, len := (cmdTsLedgerFlush.layout { payload := 0 }).bytes, payload := 0 }, 1,
        { fw := { running := true } }, by decide +kernel⟩,
    ⟨{ src := .host 1, seq := 7, len := (cmdNtsCookieIssue.layout { payload := word [(0, 1), (8, 1)] }).bytes, payload := word [(0, 1), (8, 1)] }, 1, { fw := { running := true }, ts := { nts := true, cookies := [{}] } }, by decide +kernel⟩⟩

/-- The premises of every case of `Obligations.KeyCommands` are met. -/
theorem witness_KeyCommands :
    (∃ q k s, cmdKeyInfo.passes q k s = true) ∧
    (∃ q k s, cmdKeyImport.passes q k s = true ∧ s.win.state = .closed
        ∧ s.writeRefusal ((imports q).map (·.slot)) (q.b 4) = none
        ∧ (imports q).all (fun e => materialOk e.typ (e.material q)) = true) ∧
    (∃ q k s, cmdKeyGenerate.passes q k s = true ∧ s.win.state = .closed ∧ generateRefusal q s = none) ∧
    (∃ q k s, cmdKeyDelete.passes q k s = true ∧ s.win.state = .closed ∧ deleteRefusal q s = none) ∧
    (∃ q k s, cmdKeyNtsInit.passes q k s = true ∧ s.win.state = .closed ∧ ntsInitRefusal s = none) ∧
    (∃ q k s, cmdKeyPolicySet.passes q k s = true ∧ q.b 0 = false ∧ s.flt.frozen = false ∧ s.banks.state = .seeded) ∧
    (∃ q k s, cmdKeyPolicySet.passes q k s = true ∧ q.b 0 = true ∧ bit s.banks.active.key 0 = false ∧ s.win.state = .closed
        ∧ s.flt.frozen = false ∧ s.banks.state = .seeded) ∧
    (∃ q k s, cmdKeyPolicyGet.passes q k s = true) ∧
    (∃ q k s, cmdBnOp.passes q k s = true ∧ s.sealBroken = false ∧ s.bn.draining = false ∧ s.bn.enabled = true
        ∧ s.bn.queue.length < 16 ∧ (q.b 16 = true → s.slotPending (q.f 8 8) = false ∧ (s.slot (q.f 8 8)).typ ≠ 0)) ∧
    (∃ q k s, cmdBnAbort.passes q k s = true ∧ q.b 0 = false ∧ s.bn.lanes.filter (fun l => l.2.job.isSome) = []
        ∧ s.bn.queue ≠ []) ∧
    (∃ q k s, cmdBnEnable.passes q k s = true ∧ q.b 0 = true ∧ s.bn.enabled = false) ∧
    (∃ q k s, cmdBnEnable.passes q k s = true ∧ q.b 0 = false ∧ s.bn.enabled = true) ∧
    (∃ q k s, cmdCryptoStatus.passes q k s = true) :=
  ⟨⟨{ src := .host 1, seq := 7, len := (cmdKeyInfo.layout { payload := 0 }).bytes, payload := 0 }, 1,
    { fw := { running := true } }, by decide +kernel⟩,
    ⟨{ src := .host 1, seq := 7, len := (cmdKeyImport.layout { payload := word [(0, 1), (40, 1), (48, 32), (96, 7)] }).bytes, payload := word [(0, 1), (40, 1), (48, 32), (96, 7)] }, 1, { fw := { running := true } }, by decide +kernel⟩,
    ⟨{ src := .host 1, seq := 7, len := (cmdKeyGenerate.layout { payload := word [(8, 4)] }).bytes, payload := word [(8, 4)] }, 1, { fw := { running := true }, bn := { entropyOk := true } }, by decide +kernel⟩,
    ⟨{ src := .host 1, seq := 7, len := (cmdKeyDelete.layout { payload := 0 }).bytes, payload := 0 }, 1,
        { fw := { running := true }, keys := { slot := [(0, { typ := 1 })] } }, by decide +kernel⟩,
    ⟨{ src := .host 1, seq := 7, len := (cmdKeyNtsInit.layout { payload := 0 }).bytes, payload := 0 }, 1,
        { fw := { running := true } }, by decide +kernel⟩,
    ⟨{ src := .host 1, seq := 7, len := (cmdKeyPolicySet.layout { payload := 0 }).bytes, payload := 0 }, 1,
        { fw := { running := true } }, by decide +kernel⟩,
    ⟨{ src := .host 1, seq := 7, len := (cmdKeyPolicySet.layout { payload := 1 }).bytes, payload := 1 }, 1,
        { fw := { running := true } }, by decide +kernel⟩,
    ⟨{ src := .host 1, seq := 7, len := (cmdKeyPolicyGet.layout { payload := 0 }).bytes, payload := 0 }, 1,
        { fw := { running := true } }, by decide +kernel⟩,
    ⟨{ src := .host 1, seq := 7, len := (cmdBnOp.layout { payload := 5 }).bytes, payload := 5 }, 1,
        { fw := { running := true }, bn := { enabled := true } }, by decide +kernel⟩,
    ⟨{ src := .host 1, seq := 7, len := (cmdBnAbort.layout { payload := 0 }).bytes, payload := 0 }, 1,
        { fw := { running := true }, bn := { queue := [{}] } }, by decide +kernel⟩,
    ⟨{ src := .host 1, seq := 7, len := (cmdBnEnable.layout { payload := 1 }).bytes, payload := 1 }, 1,
        { fw := { running := true } }, by decide +kernel⟩,
    ⟨{ src := .host 1, seq := 7, len := (cmdBnEnable.layout { payload := 0 }).bytes, payload := 0 }, 1,
        { fw := { running := true }, bn := { enabled := true } }, by decide +kernel⟩,
    ⟨{ src := .host 1, seq := 7, len := (cmdCryptoStatus.layout { payload := 0 }).bytes, payload := 0 }, 1,
        { fw := { running := true } }, by decide +kernel⟩⟩

/-- The premises of every case of `Obligations.MemoryCommands` are met. -/
theorem witness_MemoryCommands :
    (∃ q k s, cmdMemStatus.passes q k s = true) ∧
    (∃ q k s, cmdMemPolicySet.passes q k s = true) ∧
    (∃ q k s first count, cmdMemScrub.passes q k s = true ∧ first = q.f 32 64 / 64
        ∧ count = (if q.f 96 64 = 0 then regionLines (q.f 0 8) - first else q.f 96 64 / 64)) ∧
    (∃ q k s, cmdMemCounters.passes q k s = true) ∧
    (∃ q k s, cmdMemRetiredList.passes q k s = true) ∧
    (∃ q k s, cmdMemFlashStatus.passes q k s = true) ∧
    (∃ q k s, cmdMemSramFlags.passes q k s = true) ∧
    (∃ q k s, cmdMemFlipArm.passes q k s = true ∧ s.plat.factoryTest = true ∧ q.f 0 4 ≠ 5 ∧ ¬(q.f 0 4 = 0 ∧ q.f 8 8 = 0)
        ∧ ¬(q.b 4 = true ∧ s.mem.flipArmed = true)) ∧
    (∃ q k s, cmdMemFlipArm.passes q k s = true ∧ s.plat.factoryTest = false) ∧
    (∃ q k s, cmdMemFuseProgram.passes q k s = true ∧ s.plat.warn = false ∧ s.mem.flagged = []) ∧
    (∃ q k s, cmdMemFuseProgram.passes q k s = true ∧ s.plat.warn = true) ∧
    (∃ q k s, cmdMemFuseProgram.passes q k s = true ∧ s.plat.warn = false ∧ (∀ r ∈ s.mem.flagged, r.bank < 256
        ∧ (r.fused = true ∨ (s.mem.flagged.filter (fun x => !x.fused && x.array == r.array && x.bank == r.bank)).length ≤ s.mem.spareRows r.array r.bank))) ∧
    (∃ q k s r n, cmdMemFuseProgram.passes q k s = true ∧ s.plat.warn = false ∧ s.mem.flagged = [r] ∧ r.fused = false
        ∧ s.mem.spareRows r.array r.bank = n + 1) ∧
    (∃ q k s r, cmdMemFuseProgram.passes q k s = true ∧ s.plat.warn = false ∧ s.mem.flagged = [r] ∧ r.fused = false
        ∧ s.mem.spareRows r.array r.bank = 0) :=
  ⟨⟨{ src := .host 1, seq := 7, len := (cmdMemStatus.layout { payload := 0 }).bytes, payload := 0 }, 1,
    { fw := { running := true } }, by decide +kernel⟩,
    ⟨{ src := .host 1, seq := 7, len := (cmdMemPolicySet.layout { payload := word [(0, 2), (16, 1)] }).bytes, payload := word [(0, 2), (16, 1)] }, 1, { fw := { running := true } }, by decide +kernel⟩,
    ⟨{ src := .host 1, seq := 7, len := (cmdMemScrub.layout { payload := 0 }).bytes, payload := 0 }, 1,
        { fw := { running := true } }, 0, regionLines 0, by decide +kernel⟩,
    ⟨{ src := .host 1, seq := 7, len := (cmdMemCounters.layout { payload := 0 }).bytes, payload := 0 }, 1,
        { fw := { running := true } }, by decide +kernel⟩,
    ⟨{ src := .host 1, seq := 7, len := (cmdMemRetiredList.layout { payload := 0 }).bytes, payload := 0 }, 1,
        { fw := { running := true } }, by decide +kernel⟩,
    ⟨{ src := .host 1, seq := 7, len := (cmdMemFlashStatus.layout { payload := 0 }).bytes, payload := 0 }, 1,
        { fw := { running := true } }, by decide +kernel⟩,
    ⟨{ src := .host 1, seq := 7, len := (cmdMemSramFlags.layout { payload := 0 }).bytes, payload := 0 }, 1,
        { fw := { running := true } }, by decide +kernel⟩,
    ⟨{ src := .host 1, seq := 7, len := (cmdMemFlipArm.layout { payload := 1 }).bytes, payload := 1 }, 1,
        { fw := { running := true }, plat := { service := true, factoryTest := true } }, by decide +kernel⟩,
    ⟨{ src := .host 1, seq := 7, len := (cmdMemFlipArm.layout { payload := 1 }).bytes, payload := 1 }, 1,
        { fw := { running := true }, plat := { service := true, factoryTest := false } }, by decide +kernel⟩,
    ⟨{ src := .host 1, seq := 7, len := (cmdMemFuseProgram.layout { payload := 0 }).bytes, payload := 0 }, 1,
        { fw := { running := true }, plat := { service := true } }, by decide +kernel⟩,
    ⟨{ src := .host 1, seq := 7, len := (cmdMemFuseProgram.layout { payload := 0 }).bytes, payload := 0 }, 1,
        { fw := { running := true }, plat := { service := true, warn := true } }, by decide +kernel⟩,
    ⟨{ src := .host 1, seq := 7, len := (cmdMemFuseProgram.layout { payload := 0 }).bytes, payload := 0 }, 1,
        { fw := { running := true }, plat := { service := true }, mem := { flagged := [{ row := 3 }] } }, by decide +kernel⟩,
    ⟨{ src := .host 1, seq := 7, len := (cmdMemFuseProgram.layout { payload := 0 }).bytes, payload := 0 }, 1,
        { fw := { running := true }, plat := { service := true }, mem := { flagged := [{ row := 3 }] } },
        ({ row := 3 } : SramRow), 7, by decide +kernel⟩,
    ⟨{ src := .host 1, seq := 7, len := (cmdMemFuseProgram.layout { payload := 0 }).bytes, payload := 0 }, 1,
        { fw := { running := true }, plat := { service := true }, mem := { flagged := [{ row := 3 }], sparesLeft := [(0, 0)] } }, ({ row := 3 } : SramRow), by decide +kernel⟩⟩

/-- The premises of every case of `Obligations.FaultCommands` are met. -/
theorem witness_FaultCommands :
    (∃ q k s, cmdFaultStatus.passes q k s = true) ∧
    (∃ q k s, cmdFaultLedgerRead.passes q k s = true) ∧
    (∃ q k s, cmdFaultClear.passes q k s = true ∧ s.flt.src.any (fun e => e.2.entry.elim false (·.severe)) = false
        ∧ q.f 8 2 = 0 ∧ ((s.record (q.f 0 6)).state = .active ∨ (s.record (q.f 0 6)).state = .quiet)
        ∧ (s.record (q.f 0 6)).serviced = true ∧ (s.record (q.f 0 6)).standing = false) ∧
    (∃ q k s, cmdFaultClear.passes q k s = true ∧ s.flt.src.any (fun e => e.2.entry.elim false (·.severe)) = false
        ∧ q.f 8 2 = 1 ∧ (s.record (q.f 0 6)).state = .cleared) ∧
    (∃ q k s, cmdFaultPolicySet.passes q k s = true ∧ (q.f 8 8 = 0 ∨ q.f 8 8 = s.srcN (q.f 0 8) ∨ (isFixed (q.f 0 8) = false
        ∧ q.f 0 8 ≠ 0x13))) ∧
    (∃ q k s, cmdMidwinterInfo.passes q k s = true) ∧
    (∃ q k s r, cmdMidwinterRead.passes q k s = true ∧ Tbl.get? s.mid.loc (q.f 0 2) = some r ∧ q.f 64 64 + q.f 32 32 ≤ r.bytes
        ∧ q.f 128 64 = 0) ∧
    (∃ q k s r, cmdMidwinterRead.passes q k s = true ∧ Tbl.get? s.mid.loc (q.f 0 2) = some r ∧ q.f 64 64 + q.f 32 32 ≤ r.bytes
        ∧ q.f 128 64 ≠ 0 ∧ s.plat.pcieUp = true) ∧
    (∃ q k s, cmdMidwinterRelease.passes q k s = true ∧ (bitList (q.f 0 3) 3).all (fun k => (Tbl.get? s.mid.loc k).isSome) = true) ∧
    (∃ q k s, cmdFaultInject.passes q k s = true ∧ s.plat.factoryTest = true ∧ s.plat.service = true ∧ 3 < q.f 0 8) ∧
    (∃ q k s, cmdFaultInject.passes q k s = true ∧ (s.plat.factoryTest = false ∨ s.plat.service = false)) :=
  ⟨⟨{ src := .host 1, seq := 7, len := (cmdFaultStatus.layout { payload := 0 }).bytes, payload := 0 }, 1,
    { fw := { running := true } }, by decide +kernel⟩,
    ⟨{ src := .host 1, seq := 7, len := (cmdFaultLedgerRead.layout { payload := 0 }).bytes, payload := 0 }, 1,
        { fw := { running := true } }, by decide +kernel⟩,
    ⟨{ src := .host 1, seq := 7, len := (cmdFaultClear.layout { payload := 0 }).bytes, payload := 0 }, 1,
        { fw := { running := true }, flt := { records := [(0, { state := .active, serviced := true })] } }, by decide +kernel⟩,
    ⟨{ src := .host 1, seq := 7, len := (cmdFaultClear.layout { payload := word [(8, 1)] }).bytes, payload := word [(8, 1)] },
        1, { fw := { running := true }, flt := { records := [(0, { state := .cleared })] } }, by decide +kernel⟩,
    ⟨{ src := .host 1, seq := 7, len := (cmdFaultPolicySet.layout { payload := 4 }).bytes, payload := 4 }, 1,
        { fw := { running := true } }, by decide +kernel⟩,
    ⟨{ src := .host 1, seq := 7, len := (cmdMidwinterInfo.layout { payload := 0 }).bytes, payload := 0 }, 1,
        { fw := { running := true } }, by decide +kernel⟩,
    ⟨{ src := .host 1, seq := 7, len := (cmdMidwinterRead.layout { payload := word [(32, 1)] }).bytes, payload := word [(32, 1)] }, 1, { fw := { running := true }, mid := { loc := [(0, { bytes := 8 })] } }, ({ bytes := 8 } : MidRec), by decide +kernel⟩,
    ⟨{ src := .host 1, seq := 7, len := (cmdMidwinterRead.layout { payload := word [(32, 1), (128, 64)] }).bytes, payload := word [(32, 1), (128, 64)] }, 1, { fw := { running := true }, mid := { loc := [(0, { bytes := 8 })] }, plat := { pcieUp := true } }, ({ bytes := 8 } : MidRec), by decide +kernel⟩,
    ⟨{ src := .host 1, seq := 7, len := (cmdMidwinterRelease.layout { payload := 0 }).bytes, payload := 0 }, 1,
        { fw := { running := true } }, by decide +kernel⟩,
    ⟨{ src := .host 1, seq := 7, len := (cmdFaultInject.layout { payload := word [(0, 4), (24, 1)] }).bytes, payload := word [(0, 4), (24, 1)] }, 1, { fw := { running := true }, plat := { service := true, factoryTest := true } }, by decide +kernel⟩,
    ⟨{ src := .host 1, seq := 7, len := (cmdFaultInject.layout { payload := word [(0, 4), (24, 1)] }).bytes, payload := word [(0, 4), (24, 1)] }, 1, { fw := { running := true }, plat := { service := true, factoryTest := false } }, by decide +kernel⟩⟩

/-- The premises of every case of `Obligations.PlatformCommands` are met. -/
theorem witness_PlatformCommands :
    (∃ q k s, cmdPlatStatus.passes q k s = true) ∧
    (∃ q k s, cmdPlatSupplySet.passes q k s = true ∧ s.plat.warn = false) ∧
    (∃ q k s, cmdPlatReset.passes q k s = true) ∧
    (∃ q k s, cmdPlatMarchLog.passes q k s = true) :=
  ⟨⟨{ src := .host 1, seq := 7, len := (cmdPlatStatus.layout { payload := 0 }).bytes, payload := 0 }, 1,
    { fw := { running := true } }, by decide +kernel⟩,
    ⟨{ src := .host 1, seq := 7, len := (cmdPlatSupplySet.layout { payload := 10400 }).bytes, payload := 10400 }, 1,
        { fw := { running := true } }, by decide +kernel⟩,
    ⟨{ src := .host 1, seq := 7, len := (cmdPlatReset.layout { payload := 0 }).bytes, payload := 0 }, 1,
        { fw := { running := true } }, by decide +kernel⟩,
    ⟨{ src := .host 1, seq := 7, len := (cmdPlatMarchLog.layout { payload := 0 }).bytes, payload := 0 }, 1,
        { fw := { running := true } }, by decide +kernel⟩⟩

/-- The premises of every case of `Obligations.RegisterEvents` are met. -/
theorem witness_RegisterEvents :
    (∃ (dt : Nat) (s u : State), s.advance dt = u) ∧
    (∃ (dt value : Nat) (s u : State), s.advance dt = u) ∧
    (∃ (dt value : Nat) (s u : State), s.advance dt = u) ∧
    (∃ (dt value : Nat) (s u : State), s.advance dt = u ∧ (u.evt.lostSince = 0 ∨ u.fw.running = false)) ∧
    (∃ (dt value : Nat) (s u : State), s.advance dt = u) ∧
    (∃ (dt : Nat) (s u : State), s.advance dt = u) ∧
    (∃ (dt : Nat) (s u : State), s.advance dt = u) ∧
    (∃ (dt ring value : Nat) (s u : State), s.advance dt = u ∧ ring < 4) ∧
    (∃ (dt ring value : Nat) (s u : State), s.advance dt = u ∧ ring < 4) ∧
    (∃ (dt offset : Nat) (access : Access) (value : Nat) (s u : State) (size : _), s.advance dt = u ∧ u.plat.pcieUp = true
        ∧ access = .write size ∧ offset < 0x10000 ∧ size ≠ 4 ∧ size ≠ 8) ∧
    (∃ (dt offset : Nat) (access : Access) (value : Nat) (s u : State), s.advance dt = u ∧ u.plat.pcieUp = true
        ∧ offset = 0x60 ∧ access = .write 4 ∧ value < 2 ^ 32 ∧ bit value 16 = true) ∧
    (∃ (dt offset : Nat) (access : Access) (value : Nat) (s u : State), s.advance dt = u ∧ u.plat.pcieUp = true
        ∧ offset = 0x70 ∧ access = .write 4 ∧ value < 2 ^ 32) ∧
    (∃ (dt offset : Nat) (access : Access) (value : Nat) (s u : State), s.advance dt = u ∧ u.plat.pcieUp = true
        ∧ offset = 0x18 ∧ access = .write 4 ∧ value < 2 ^ 32) ∧
    (∃ (dt offset : Nat) (access : Access) (value : Nat) (s u : State) (size : _), s.advance dt = u ∧ u.plat.pcieUp = true
        ∧ access = .read size) ∧
    (∃ (dt offset : Nat) (access : Access) (value : Nat) (s u : State) (size : _), s.advance dt = u ∧ u.plat.pcieUp = false
        ∧ (access = .read size ∨ access = .write size)) ∧
    (∃ (dt offset : Nat) (access : Access) (value : Nat) (s u : State) (n : _), s.advance dt = u ∧ access = .spi 3 n
        ∧ offset < 2 ^ 24 ∧ offset % 4 = 0) ∧
    (∃ (dt offset : Nat) (access : Access) (value : Nat) (s u : State) (n : _), s.advance dt = u ∧ access = .spi 2 n
        ∧ offset < 2 ^ 24) ∧
    (∃ (dt offset : Nat) (access : Access) (value : Nat) (s u : State) (instruction : _) (n : _), s.advance dt = u
        ∧ access = .spi instruction n ∧ instruction % 256 ≠ 2 ∧ instruction % 256 ≠ 3) ∧
    (∃ (dt kind : Nat) (frames : List Nat) (s u : State), s.advance dt = u ∧ kind < 4) ∧
    (∃ (dt : Nat) (s u : State), s.advance dt = u) ∧
    (∃ (dt : Nat) (link : Training) (s u : State), s.advance dt = u ∧ u.plat.perst = true ∧ u.railsOn = true ∧ 1 ≤ link.gen
        ∧ link.gen ≤ 4 ∧ (link.width = 1 ∨ link.width = 2 ∨ link.width = 4)) ∧
    (∃ (dt : Nat) (link : Training) (s u : State), s.advance dt = u ∧ u.plat.perst = false) ∧
    (∃ (dt vector : Nat) (s u : State) (last : _), s.advance dt = u ∧ vector < 12 ∧ bit u.intr.delayed vector = true
        ∧ u.intr.msixEn = true ∧ Tbl.get? u.intr.lastVec vector = some last ∧ last + u.intr.holdoff vector ≤ u.time.tick
        ∧ bit (u.intr.entry vector) 96 = false) ∧
    (∃ (dt offset : Nat) (access : WindowAccess) (s u : State) (data : _), s.advance dt = u ∧ access = .write data
        ∧ u.plat.pcieUp = true ∧ Memory.wf u.mem.bytes = true) ∧
    (∃ (dt offset : Nat) (access : WindowAccess) (s u : State) (n : _), s.advance dt = u ∧ access = .read n
        ∧ u.plat.pcieUp = true ∧ offset + n ≤ windowBytes ∧ (u.windowRead 4 offset n).1 = true) ∧
    (∃ (dt offset : Nat) (access : WindowAccess) (s u : State) (n : _), s.advance dt = u ∧ access = .read n
        ∧ u.plat.pcieUp = true ∧ offset + n ≤ windowBytes ∧ (u.windowRead 4 offset n).1 = false) ∧
    (∃ (dt offset : Nat) (access : WindowAccess) (s u : State), s.advance dt = u ∧ u.plat.pcieUp = false) :=
  ⟨⟨0, {}, _, rfl⟩,
    ⟨0, 0, {}, _, rfl⟩,
    ⟨0, 0, {}, _, rfl⟩,
    ⟨0, 0, {}, _, rfl, by decide +kernel⟩,
    ⟨0, 0, {}, _, rfl⟩,
    ⟨0, {}, _, rfl⟩,
    ⟨0, {}, _, rfl⟩,
    ⟨0, 0, 0, {}, _, rfl, by decide +kernel⟩,
    ⟨0, 0, 0, {}, _, rfl, by decide +kernel⟩,
    ⟨0, 0, (.write 1), 0, { plat := { pcieUp := true } }, _, 1, rfl, by decide +kernel⟩,
    ⟨0, 0x60, (.write 4), 0x10000, { plat := { pcieUp := true } }, _, rfl, by decide +kernel⟩,
    ⟨0, 0x70, (.write 4), 0, { plat := { pcieUp := true } }, _, rfl, by decide +kernel⟩,
    ⟨0, 0x18, (.write 4), 0, { plat := { pcieUp := true } }, _, rfl, by decide +kernel⟩,
    ⟨0, 0, (.read 4), 0, { plat := { pcieUp := true } }, _, 4, rfl, by decide +kernel⟩,
    ⟨0, 0, (.read 4), 0, {}, _, 4, rfl, by decide +kernel⟩,
    ⟨0, 0, (.spi 3 4), 0, {}, _, 4, rfl, by decide +kernel⟩,
    ⟨0, 0, (.spi 2 4), 0, {}, _, 4, rfl, by decide +kernel⟩,
    ⟨0, 0, (.spi 5 4), 0, {}, _, 5, 4, rfl, by decide +kernel⟩,
    ⟨0, 0, [], {}, _, rfl, by decide +kernel⟩,
    ⟨0, {}, _, rfl⟩,
    ⟨0, { gen := 4, width := 2 }, { plat := { perst := true, step := 1 } }, _, rfl, by decide +kernel⟩,
    ⟨0, {}, {}, _, rfl, by decide +kernel⟩,
    ⟨0, 0, { intr := { delayed := 1, msixEn := true, lastVec := [(0, 0)], table := [(0, 5)] }, time := { tick := tickS } }, _,
        0, rfl, by decide +kernel⟩,
    ⟨0, 0, (.write [1]), { plat := { pcieUp := true } }, _, [1], rfl, by decide +kernel⟩,
    ⟨0, 0, (.read 4), { plat := { pcieUp := true }, mem := { lines := [(lineKey 3 0, {})] } }, _, 4, rfl, by decide +kernel⟩,
    ⟨0, 0, (.read 4), { plat := { pcieUp := true }, mem := { lines := [(lineKey 3 0, { soft := [(0, 3), (0, 4)] })] } }, _, 4,
        rfl, by decide +kernel⟩,
    ⟨0, 0, (.write []), {}, _, rfl, by decide +kernel⟩⟩

/-- The premises of every case of `Obligations.PowerEvents` are met. -/
theorem witness_PowerEvents :
    (∃ (dt : Nat) (r : Rails) (s u : State), s.advance dt = u ∧ u.plat.standby = false) ∧
    (∃ (dt : Nat) (r : Rails) (s u : State), s.advance dt = u) ∧
    (∃ (dt : Nat) (s u : State), s.advance dt = u ∧ u.railsOn = false) ∧
    (∃ (dt : Nat) (s u : State), s.advance dt = u ∧ u.railsOn = true) ∧
    (∃ (dt : Nat) (service factory : Bool) (s u : State), s.advance dt = u ∧ u.plat.resetN = true ∧ u.plat.standby = true) ∧
    (∃ (dt : Nat) (service factory : Bool) (s u : State), s.advance dt = u ∧ u.plat.resetN = true ∧ u.plat.standby = false) ∧
    (∃ (dt vsb : Nat) (service factory : Bool) (back : List Bool) (s u : State), s.advance dt = u ∧ u.plat.standby = false
        ∧ 2900 < vsb ∧ back = []) ∧
    (∃ (dt vsb : Nat) (service factory : Bool) (back : List Bool) (s u : State), s.advance dt = u ∧ (u.plat.standby = true
        ∨ vsb ≤ 2900)) ∧
    (∃ (dt : Nat) (service factory : Bool) (s u : State), s.advance dt = u
        ∧ u.fw.restarts.any (fun e => e.2 == 0 && decide (e.1 ≤ u.time.tick)) = true) ∧
    (∃ (dt : Nat) (service factory : Bool) (s u : State), s.advance dt = u ∧ u.fw.restarts = []) ∧
    (∃ (dt : Nat) (r : Rails) (s u : State), s.advance dt = u ∧ u.plat.standby = true ∧ u.plat.warn = false
        ∧ bit u.plat.warnRails 0 = false ∧ bit (railsLow r u.plat.warnMv u.railsOn) 0 = true) ∧
    (∃ (dt : Nat) (r : Rails) (s u : State), s.advance dt = u ∧ u.plat.standby = false) ∧
    (∃ (dt : Nat) (r : Rails) (s u : State) (since : _), s.advance dt = u ∧ u.plat.standby = true ∧ u.plat.warn = true
        ∧ railsLow r u.plat.warnMv u.railsOn = 0 ∧ u.plat.pwrOk = true ∧ u.plat.clearAt = some since
        ∧ since + 5 * tickMs ≤ u.time.tick ∧ u.plat.flashWork = []) ∧
    (∃ (dt : Nat) (r : Rails) (service factory : Bool) (s u : State), s.advance dt = u ∧ u.plat.standby = true ∧ r.vsb ≤ 2900) ∧
    (∃ (dt : Nat) (r : Rails) (service factory : Bool) (s u : State), s.advance dt = u ∧ u.plat.standby = true ∧ 2900 < r.vsb
        ∧ u.railsOn = true ∧ r.v12 ≤ 9600) ∧
    (∃ (dt : Nat) (r : Rails) (service factory : Bool) (s u : State), s.advance dt = u ∧ u.plat.standby = true ∧ 2900 < r.vsb
        ∧ u.railsOn = true ∧ 9600 < r.v12 ∧ (r.vcore ≤ -70 ∨ r.vdram ≤ -50)) ∧
    (∃ (dt : Nat) (tj : Int) (service factory : Bool) (s u : State), s.advance dt = u ∧ 32000 ≤ tj ∧ u.plat.hot = false
        ∧ u.plat.standby = true) ∧
    (∃ (dt : Nat) (tj : Int) (service factory : Bool) (s u : State), s.advance dt = u ∧ tj < 32000) ∧
    (∃ (dt : Nat) (tj : Int) (s u : State), s.advance dt = u ∧ u.plat.hot = true ∧ tj < 28160) ∧
    (∃ (dt : Nat) (tj : Int) (s u : State), s.advance dt = u ∧ 28160 ≤ tj) ∧
    (∃ (dt : Nat) (r : Rails) (s u : State) (v : _), s.advance dt = u ∧ u.plat.standby = true
        ∧ State.warnIfFallen u (u.readRails r) = v ∧ v.fw.startReason ≠ 2 ∧ v.plat.supplyWait = true ∧ v.plat.pwrOk = true
        ∧ bit v.plat.warnRails 0 = false ∧ v.plat.resetAt + 100 * tickMs ≤ v.time.tick) ∧
    (∃ (dt : Nat) (s u : State), s.advance dt = u) ∧
    (∃ (dt : Nat) (s u : State) (ev : _), s.advance dt = u
        ∧ u.fw.restarts.find? (fun e => e.2 != 0 && decide (e.1 ≤ u.time.tick)) = some ev ∧ u.coreRuns = true) ∧
    (∃ (dt : Nat) (s u : State), s.advance dt = u ∧ u.fw.restarts = []) :=
  ⟨⟨0, {}, { plat := { standby := false } }, _, rfl, by decide +kernel⟩,
    ⟨0, {}, {}, _, rfl⟩,
    ⟨0, {}, _, rfl, by decide +kernel⟩,
    ⟨0, { plat := { step := 1 } }, _, rfl, by decide +kernel⟩,
    ⟨0, false, false, {}, _, rfl, by decide +kernel⟩,
    ⟨0, false, false, { plat := { standby := false } }, _, rfl, by decide +kernel⟩,
    ⟨0, 3300, false, false, [], { plat := { standby := false } }, _, rfl, by decide +kernel⟩,
    ⟨0, 0, false, false, [], {}, _, rfl, by decide +kernel⟩,
    ⟨0, false, false, { fw := { restarts := [(0, 0)] } }, _, rfl, by decide +kernel⟩,
    ⟨0, false, false, {}, _, rfl, by decide +kernel⟩,
    ⟨0, { v12 := 10900 }, { plat := { warnRails := 0 } }, _, rfl, by decide +kernel⟩,
    ⟨0, {}, { plat := { standby := false } }, _, rfl, by decide +kernel⟩,
    ⟨0, {}, { time := { tick := 10 * tickS }, plat := { warn := true, pwrOk := true, clearAt := some 0 } }, _, 0, rfl,
        by decide +kernel⟩,
    ⟨0, { vsb := 2900 }, false, false, {}, _, rfl, by decide +kernel⟩,
    ⟨0, { v12 := 9600 }, false, false, { plat := { step := 1 } }, _, rfl, by decide +kernel⟩,
    ⟨0, { vcore := -70 }, false, false, { plat := { step := 1 } }, _, rfl, by decide +kernel⟩,
    ⟨0, 32000, false, false, {}, _, rfl, by decide +kernel⟩,
    ⟨0, 0, false, false, {}, _, rfl, by decide +kernel⟩,
    ⟨0, 0, { plat := { hot := true } }, _, rfl, by decide +kernel⟩,
    ⟨0, 28160, {}, _, rfl, by decide +kernel⟩,
    ⟨0, {}, { time := { tick := 10 * tickS }, plat := { pwrOk := true, supplyWait := true, warnRails := 0 } }, _,
        State.warnIfFallen ({ time := { tick := 10 * tickS }, plat := { pwrOk := true, supplyWait := true, warnRails := 0 } } : State) (State.readRails {} { time := { tick := 10 * tickS }, plat := { pwrOk := true, supplyWait := true, warnRails := 0 } }), rfl, by decide +kernel⟩,
    ⟨0, {}, _, rfl⟩,
    ⟨0, { plat := { step := 4 }, fw := { restarts := [(0, 7)] } }, _, (0, 7), rfl, by decide +kernel⟩,
    ⟨0, {}, _, rfl, by decide +kernel⟩⟩

/-- The premises of every case of `Obligations.StartAndPresenceEvents` are met. -/
theorem witness_StartAndPresenceEvents :
    (∃ (dt : Nat) (s u : State), s.advance dt = u ∧ u.plat.inReset = none ∧ u.plat.step = 0 ∧ u.canMarch = true) ∧
    (∃ (dt : Nat) (s u : State), s.advance dt = u ∧ u.plat.inReset = none ∧ u.plat.step = 5 ∧ u.plat.stepsDone < 5) ∧
    (∃ (dt : Nat) (s u : State), s.advance dt = u ∧ u.plat.inReset ≠ none) ∧
    (∃ (dt : Nat) (s u : State) (slot : _), s.advance dt = u ∧ u.coreRuns = true ∧ u.fw.running = false ∧ u.fw.imageOk = false
        ∧ u.fw.recovery = false ∧ u.flt.takeAt = none ∧ u.fw.choice = some slot ∧ slot = u.fw.nextSlot) ∧
    (∃ (dt : Nat) (s u : State), s.advance dt = u ∧ u.coreRuns = true ∧ u.fw.running = false ∧ u.fw.imageOk = false
        ∧ u.fw.recovery = false ∧ u.flt.takeAt = none ∧ u.fw.choice = none ∧ u.tci.rung = []) ∧
    (∃ (dt : Nat) (s u : State), s.advance dt = u ∧ u.coreRuns = true ∧ u.fw.running = false ∧ u.fw.imageOk = true
        ∧ u.tci.rung = []) ∧
    (∃ (dt : Nat) (s u : State), s.advance dt = u ∧ u.fw.running = true) ∧
    (∃ (dt : Nat) (s u : State), s.advance dt = u ∧ u.fw.running = true ∧ u.fw.startTick + 60 * tickS ≤ u.time.tick) ∧
    (∃ (dt : Nat) (s u : State), s.advance dt = u ∧ u.time.tick < u.fw.startTick + 60 * tickS) ∧
    (∃ (pin : PinTrace) (s u : State), s.feedPin pin = u ∧ u.win.present = false ∧ u.debounced = true
        ∧ u.windowStands = false) ∧
    (∃ (pin : PinTrace) (s u : State) (w : _), s.feedPin pin = u ∧ u.win.present = false ∧ u.debounced = true
        ∧ u.windowStands = true ∧ u.win.held = some w) ∧
    (∃ (pin : PinTrace) (s u : State), s.feedPin pin = u ∧ u.debounced = false) ∧
    (∃ (pin : PinTrace) (s u : State), s.feedPin pin = u ∧ u.win.present = true ∧ u.debounced = true
        ∧ u.win.state ≠ .pressing) ∧
    (∃ (pin : PinTrace) (s u : State) (w : _), s.feedPin pin = u ∧ u.win.present = true ∧ u.debounced = true
        ∧ u.win.state = .pressing ∧ u.win.held = some w) ∧
    (∃ (pin : PinTrace) (s u : State), s.feedPin pin = u ∧ u.debounced = false) ∧
    (∃ (dt : Nat) (s u : State), s.advance dt = u ∧ u.win.present = true ∧ u.win.counted = false
        ∧ u.win.pressAt + 200 * tickMs ≤ u.time.tick ∧ u.win.state = .closed) ∧
    (∃ (dt : Nat) (s u : State) (w : _), s.advance dt = u ∧ u.win.present = true ∧ u.win.counted = false
        ∧ u.win.pressAt + 200 * tickMs ≤ u.time.tick ∧ u.win.state = .pressing ∧ u.windowStands = true ∧ u.win.held = some w
        ∧ w.suspended u = true ∧ w.opcode ≠ 0x010A ∧ w.opcode ≠ 0x010B) ∧
    (∃ (dt : Nat) (s u : State) (w : _) (k : _), s.advance dt = u ∧ u.win.present = true ∧ u.win.counted = false
        ∧ u.win.pressAt + 200 * tickMs ≤ u.time.tick ∧ u.win.state = .pressing ∧ u.windowStands = true ∧ u.win.held = some w
        ∧ w.opcode = 0x0105 ∧ w.req.src = .host k ∧ u.plat.warn = false) ∧
    (∃ (dt : Nat) (s u : State) (w : _) (k : _), s.advance dt = u ∧ u.win.present = true ∧ u.win.counted = false
        ∧ u.win.pressAt + 200 * tickMs ≤ u.time.tick ∧ u.win.state = .pressing ∧ u.windowStands = true ∧ u.win.held = some w
        ∧ w.opcode = 0x010A ∧ w.req.src = .host k ∧ u.sealReady = false) ∧
    (∃ (dt : Nat) (s u : State) (w : _) (k : _), s.advance dt = u ∧ u.win.state ≠ .closed ∧ u.win.deadline ≤ u.time.tick
        ∧ u.win.held = some w ∧ w.req.src = .host k) ∧
    (∃ (dt : Nat) (s u : State), s.advance dt = u ∧ u.win.state = .closed) ∧
    (∃ (dt : Nat) (s u : State) (w : _) (k : _) (rest : _), s.advance dt = u ∧ u.win.actions = w :: rest ∧ u.plat.warn = false
        ∧ u.fw.running = true ∧ w.opcode = 0x0105 ∧ w.req.src = .host k) ∧
    (∃ (dt : Nat) (s u : State), s.advance dt = u ∧ u.plat.warn = true) ∧
    (∃ (dt : Nat) (s u : State), s.advance dt = u ∧ u.sealLoop.armed = true ∧ u.sealBroken = false ∧ u.sealLoop.closed = false
        ∧ u.sealLoop.closedAt + tickMs ≤ u.time.tick) ∧
    (∃ (dt : Nat) (s u : State), s.advance dt = u ∧ u.sealLoop.armed = false) ∧
    (∃ (dt : Nat) (s u : State), s.advance dt = u ∧ u.sealLoop.closed = true) ∧
    (∃ (dt : Nat) (s u : State), s.advance dt = u ∧ u.keys.erase = true ∧ u.plat.warn = false ∧ u.plat.inReset = none
        ∧ u.plat.pwrOk = true) ∧
    (∃ (dt : Nat) (back : List Bool) (s u : State), s.advance dt = u ∧ back = []) ∧
    (∃ (dt : Nat) (back : List Bool) (s u : State) (b : _), s.advance dt = u ∧ back = [b] ∧ u.time.tick % sealPeriod = 0
        ∧ u.sealLoop.closed = true ∧ b ≠ u.sealLoop.drive u.time.tick) ∧
    (∃ (dt : Nat) (back : List Bool) (s u : State) (b : _), s.advance dt = u ∧ back = [b] ∧ u.time.tick % sealPeriod = 0
        ∧ u.sealLoop.closed = false ∧ b = u.sealLoop.drive u.time.tick ∧ u.sealLoop.missAt + tickMs ≤ u.time.tick) ∧
    (∃ (dt : Nat) (back : List Bool) (s u : State) (b : _), s.advance dt = u ∧ back = [b] ∧ u.time.tick % sealPeriod = 0
        ∧ u.sealLoop.closed = true ∧ b = u.sealLoop.drive u.time.tick) :=
  ⟨⟨0, { time := { tick := 10 * tickS }, plat := { pwrOk := true, warnRails := 0 } }, _, rfl, by decide +kernel⟩,
    ⟨0, { plat := { step := 5 } }, _, rfl, by decide +kernel⟩,
    ⟨0, { plat := { inReset := some .powerOn } }, _, rfl, by decide +kernel⟩,
    ⟨0, { plat := { step := 4 } }, _, false, rfl, by decide +kernel⟩,
    ⟨0, { plat := { step := 4 }, fw := { imgA := {} } }, _, rfl, by decide +kernel⟩,
    ⟨0, { plat := { step := 4 }, fw := { imageOk := true } }, _, rfl, by decide +kernel⟩,
    ⟨0, { fw := { running := true } }, _, rfl, by decide +kernel⟩,
    ⟨0, { fw := { running := true }, time := { tick := 60 * tickS } }, _, rfl, by decide +kernel⟩,
    ⟨0, {}, _, rfl, by decide +kernel⟩,
    ⟨{}, { time := { tick := 10 * tickMs }, win := { raw := true } }, _, rfl, by decide +kernel⟩,
    ⟨{}, { time := { tick := 10 * tickMs }, win := { raw := true, state := .opened, deadline := tickS, held := some { opcode := 0x0105, req := { src := .host 1, seq := 7 } } } }, _, { opcode := 0x0105, req := { src := .host 1, seq := 7 } }, rfl, by decide +kernel⟩,
    ⟨{}, {}, _, rfl, by decide +kernel⟩,
    ⟨{}, { time := { tick := 10 * tickMs }, win := { present := true } }, _, rfl, by decide +kernel⟩,
    ⟨{}, { time := { tick := 10 * tickMs }, win := { state := .pressing, present := true, held := some { opcode := 0x0105, req := { src := .host 1, seq := 7 } } } }, _, { opcode := 0x0105, req := { src := .host 1, seq := 7 } }, rfl, by decide +kernel⟩,
    ⟨{}, {}, _, rfl, by decide +kernel⟩,
    ⟨0, { time := { tick := 200 * tickMs }, win := { present := true } }, _, rfl, by decide +kernel⟩,
    ⟨0, { time := { tick := 200 * tickMs }, win := { state := .pressing, present := true, deadline := tickS, held := some { opcode := 0x0C04, req := { src := .host 1, seq := 7 } } }, plat := { warn := true } }, _, { opcode := 0x0C04, req := { src := .host 1, seq := 7 } }, rfl, by decide +kernel⟩,
    ⟨0, { time := { tick := 200 * tickMs }, win := { state := .pressing, present := true, deadline := tickS, held := some { opcode := 0x0105, req := { src := .host 1, seq := 7 } } } }, _, { opcode := 0x0105, req := { src := .host 1, seq := 7 } }, 1, rfl, by decide +kernel⟩,
    ⟨0, { time := { tick := 200 * tickMs }, win := { state := .pressing, present := true, deadline := tickS, held := some { opcode := 0x010A, req := { src := .host 1 } } } }, _, { opcode := 0x010A, req := { src := .host 1 } }, 1, rfl, by decide +kernel⟩,
    ⟨0, { win := { state := .opened, held := some { opcode := 0x0105, req := { src := .host 1, seq := 7 } } } }, _,
        { opcode := 0x0105, req := { src := .host 1, seq := 7 } }, 1, rfl, by decide +kernel⟩,
    ⟨0, {}, _, rfl, by decide +kernel⟩,
    ⟨0, { fw := { running := true }, win := { actions := [{ opcode := 0x0105, req := { src := .host 1, seq := 7 } }] } }, _,
        { opcode := 0x0105, req := { src := .host 1, seq := 7 } }, 1, [], rfl, by decide +kernel⟩,
    ⟨0, { plat := { warn := true } }, _, rfl, by decide +kernel⟩,
    ⟨0, { sealLoop := { armed := true }, time := { tick := 10 * tickMs } }, _, rfl, by decide +kernel⟩,
    ⟨0, {}, _, rfl, by decide +kernel⟩,
    ⟨0, { sealLoop := { closed := true, armed := true } }, _, rfl, by decide +kernel⟩,
    ⟨0, { keys := { erase := true }, plat := { pwrOk := true } }, _, rfl, by decide +kernel⟩,
    ⟨0, [], {}, _, rfl, by decide +kernel⟩,
    ⟨0, [!Config.sealBit (0 / sealPeriod)], { sealLoop := { closed := true, armed := true } }, _,
        !Config.sealBit (0 / sealPeriod), rfl, rfl, rfl, rfl, Bool.not_ne_self _⟩,
    ⟨0, [Config.sealBit (tickMs / sealPeriod)], { sealLoop := { closed := false, armed := true }, time := { tick := tickMs } }, _, Config.sealBit (tickMs / sealPeriod), rfl, rfl, by decide +kernel, rfl, rfl, by decide +kernel⟩,
    ⟨0, [Config.sealBit (0 / sealPeriod)], { sealLoop := { closed := true, armed := true } }, _,
        Config.sealBit (0 / sealPeriod), rfl, rfl, rfl, rfl, rfl⟩⟩

/-- The premises of every case of `Obligations.TimeEvents` are met. -/
theorem witness_TimeEvents :
    (∃ (dt : Nat) (readings : PaceReadings) (tj : Int) (s u : State), s.advance dt = u ∧ (u.plat.step < 5
        ∨ u.paceGateDue = false)) ∧
    (∃ (dt : Nat) (readings : PaceReadings) (tj : Int) (s u : State), s.advance dt = u ∧ 5 ≤ u.plat.step
        ∧ u.paceGateDue = true ∧ readings.dry = []) ∧
    (∃ (dt : Nat) (s u : State) (c : _), s.advance dt = u ∧ u.dueSched = some c ∧ u.schedSteps c = true ∧ u.armedRows = []) ∧
    (∃ (dt : Nat) (s u : State), s.advance dt = u ∧ u.dueSched = none) ∧
    (∃ (dt : Nat) (s u : State) (c : _), s.advance dt = u ∧ u.dueSched = some c ∧ u.schedSteps c = false ∧ u.time.valid = true
        ∧ c.src ≠ 0) ∧
    (∃ (dt : Nat) (s u : State), s.advance dt = u ∧ u.dueSched = none) ∧
    (∃ (dt : Nat) (s u : State), s.advance dt = u ∧ u.time.slew.active = true ∧ u.time.slew.rem56 = 0) ∧
    (∃ (dt : Nat) (s u : State), s.advance dt = u ∧ u.leap.pending = true ∧ u.leap.pendAt ≤ u.time.sec
        ∧ leapPendingAt u.time.sec u.leap.table = none) ∧
    (∃ (dt : Nat) (s u : State), s.advance dt = u ∧ u.leap.pending = false) ∧
    (∃ (dt : Nat) (s u : State) (sec : _) (off : _) (before : _), s.advance dt = u
        ∧ leapPendingAt u.time.sec u.leap.table = some (sec, off, before)) ∧
    (∃ (dt : Nat) (s u : State), s.advance dt = u ∧ u.fw.running = true ∧ u.plat.warn = false ∧ u.leap.flashDirty = true) ∧
    (∃ (dt : Nat) (s u : State), s.advance dt = u ∧ u.plat.warn = true) :=
  ⟨⟨0, {}, 0, {}, _, rfl, by decide +kernel⟩,
    ⟨0, {}, 0, { plat := { step := 5 }, time := { tick := tickMs } }, _, rfl, by decide +kernel⟩,
    ⟨0, { time := { scheds := [{ atSec := 0, delta := some 5 }] } }, _, { atSec := 0, delta := some 5 }, rfl,
        by decide +kernel⟩,
    ⟨0, {}, _, rfl, by decide +kernel⟩,
    ⟨0, { time := { scheds := [{ atSec := 0, delta := some 5, asStep := false, src := 1 }], valid := true } }, _,
        { atSec := 0, delta := some 5, asStep := false, src := 1 }, rfl, by decide +kernel⟩,
    ⟨0, {}, _, rfl, by decide +kernel⟩,
    ⟨0, { time := { slew := { active := true } } }, _, rfl, by decide +kernel⟩,
    ⟨0, { leap := { pending := true } }, _, rfl, by decide +kernel⟩,
    ⟨0, {}, _, rfl, by decide +kernel⟩,
    ⟨0, { leap := { table := [(0, 37), (86401, 38)] }, time := { sec := 86400 } }, _, 86401, 38, 37, rfl, by decide +kernel⟩,
    ⟨0, { fw := { running := true }, leap := { flashDirty := true } }, _, rfl, by decide +kernel⟩,
    ⟨0, { plat := { warn := true } }, _, rfl, by decide +kernel⟩⟩

/-- The premises of every case of `Obligations.IngressEvents` are met. -/
theorem witness_IngressEvents :
    (∃ (dt port phase lane : Nat) (f : Frame) (s u : State), s.advance dt = u ∧ port < 56 ∧ (u.port port).link = .disabled) ∧
    (∃ (dt port phase lane : Nat) (f : Frame) (s u : State), s.advance dt = u ∧ port < 56 ∧ (u.port port).link = .down) ∧
    (∃ (dt port phase lane : Nat) (f : Frame) (s u : State), s.advance dt = u ∧ port < 56 ∧ (u.port port).link = .up
        ∧ f.smd = true ∧ u.banks.active.preemptEn port = false ∧ (u.port port).draining = false) ∧
    (∃ (dt port phase lane : Nat) (f : Frame) (s u : State), s.advance dt = u ∧ port < 56 ∧ (u.port port).link = .up
        ∧ f.smd = false ∧ (u.port port).fifo + 64 ≤ fifoBytes port ∧ f.len < 64 ∧ f.fcsOk = true ∧ f.pcsErr = false) ∧
    (∃ (dt port phase lane : Nat) (f : Frame) (s u : State) (e : _), s.advance dt = u ∧ port < 56 ∧ (u.port port).link = .up
        ∧ f.smd = false ∧ (u.port port).fifo + 64 ≤ fifoBytes port ∧ 64 ≤ f.len ∧ f.len ≤ u.banks.active.effMax port f.tagged
        ∧ f.fcsOk = true ∧ f.pcsErr = false ∧ f.isControl = false ∧ f.etherType ≠ 0x88B5
        ∧ e = ({ frame := f, stamp := Time96.ofUnits (u.rxStamp port phase lane), steps := u.time.stepSum, epoch := u.time.stepEpoch, raw := u.rawNow + phase, endsAt := u.rawNow + u.wire port f.len } : FifoEnt)) ∧
    (∃ (dt port : Nat) (s u : State) (en : _) (rest : _), s.advance dt = u ∧ port < 56 ∧ (u.port port).inFifo = en :: rest
        ∧ en.frame.dst >>> 4 = 0x0180C200000 ∧ u.claimed port (u.vlanOf port en.frame) en.frame = false
        ∧ en.endsAt ≤ u.rawNow + u.wire port (en.frame.len - 64)) ∧
    (∃ (dt port : Nat) (s u : State) (en : _) (rest : _), s.advance dt = u ∧ port < 56 ∧ (u.port port).inFifo = en :: rest
        ∧ en.frame.dst >>> 4 ≠ 0x0180C200000 ∧ u.claimed port (u.vlanOf port en.frame) en.frame = false
        ∧ u.vlanAccepts port (u.vlanOf port en.frame) en.frame = false
        ∧ en.endsAt ≤ u.rawNow + u.wire port (en.frame.len - 64)) ∧
    (∃ (dt port : Nat) (s u : State) (en : _) (rest : _), s.advance dt = u ∧ port < 56 ∧ (u.port port).inFifo = en :: rest
        ∧ u.rawNow + u.wire port (en.frame.len - 64) < en.endsAt) ∧
    (∃ (dt port : Nat) (s u : State), s.advance dt = u ∧ port < 56 ∧ (u.port port).inFifo = []) ∧
    (∃ (dt : Nat) (s u : State) (v : _) (mac : _) (p : _) (good : _) (rest : _), s.advance dt = u ∧ u.sw.learn = (v, mac, p,
        good) :: rest ∧ good ≤ u.rawNow ∧ Tbl.get? u.banks.active.mac (macKey v mac) = none ∧ u.sw.macs = []
        ∧ u.banks.active.mac = [] ∧ u.banks.active.learnLimit p = 0) ∧
    (∃ (dt : Nat) (s u : State) (v : _) (mac : _) (p : _) (good : _) (rest : _), s.advance dt = u ∧ u.sw.learn = (v, mac, p,
        good) :: rest ∧ u.rawNow < good) ∧
    (∃ (dt : Nat) (s u : State), s.advance dt = u ∧ u.sw.learn = []) ∧
    (∃ (dt : Nat) (s u : State) (ed : _) (rest : _) (p : _) (st : _), s.advance dt = u ∧ u.sw.edits = ed :: rest
        ∧ ed.kind = .portState p st) ∧
    (∃ (dt : Nat) (s u : State) (ed : _) (rest : _) (scope : _) (p : _) (v : _), s.advance dt = u ∧ u.sw.edits = ed :: rest
        ∧ ed.kind = .flush scope p v) ∧
    (∃ (dt : Nat) (s u : State), s.advance dt = u ∧ u.sw.edits = []) ∧
    (∃ (dt : Nat) (s u : State), s.advance dt = u) ∧
    (∃ (dt port vlan kind ms : Nat) (v6 : Bool) (groups : List Nat) (s u : State), s.advance dt = u ∧ port < 56
        ∧ u.fw.running = true ∧ u.banks.active.snoopEn vlan = true ∧ kind = 1 ∧ groups = []) ∧
    (∃ (dt port vlan kind ms : Nat) (v6 : Bool) (groups : List Nat) (s u : State) (g : _) (x : _) (d : _), s.advance dt = u
        ∧ port < 56 ∧ u.fw.running = true ∧ u.banks.active.snoopEn vlan = true ∧ kind = 1 ∧ groups = [g]
        ∧ x = ({ vlan := vlan, group := g, ipv6 := v6, ports := [(port, d)], leaving := [port], index := 0 } : Snooped)
        ∧ u.sw.groups = [x]) ∧
    (∃ (dt port vlan kind ms : Nat) (v6 : Bool) (groups : List Nat) (s u : State) (g : _), s.advance dt = u ∧ port < 56
        ∧ u.fw.running = true ∧ u.banks.active.snoopEn vlan = true ∧ kind = 2 ∧ groups = [g] ∧ u.sw.groups = []
        ∧ u.banks.active.group = []) ∧
    (∃ (dt port vlan kind ms : Nat) (v6 : Bool) (groups : List Nat) (s u : State), s.advance dt = u ∧ port < 56
        ∧ u.banks.active.snoopEn vlan = false) ∧
    (∃ (dt : Nat) (s u : State), s.advance dt = u ∧ u.fw.running = true) :=
  ⟨⟨0, 0, 0, 0, {}, {}, _, rfl, by decide +kernel⟩,
    ⟨0, 0, 0, 0, {}, { ports := [(0, { link := .down })] }, _, rfl, by decide +kernel⟩,
    ⟨0, 0, 0, 0, { smd := true }, { ports := [(0, { link := .up })] }, _, rfl, by decide +kernel⟩,
    ⟨0, 0, 0, 0, { len := 60 }, { ports := [(0, { link := .up })] }, _, rfl, by decide +kernel⟩,
    ⟨0, 0, 0, 0, {}, { ports := [(0, { link := .up })] }, _, _, rfl, by decide, rfl, rfl, by decide +kernel, by decide,
        by decide +kernel, rfl, rfl, rfl, by decide, rfl⟩,
    ⟨0, 0, { ports := [(0, { inFifo := [{ frame := { dst := 0x0180C2000003 } }] })] }, _,
        { frame := { dst := 0x0180C2000003 } }, [], rfl, by decide +kernel⟩,
    ⟨0, 0, { ports := [(0, { inFifo := [{ frame := { dst := 0x1234 } }] })], banks := { active := { vlan := [] } } }, _,
        { frame := { dst := 0x1234 } }, [], rfl, by decide +kernel⟩,
    ⟨0, 0, { ports := [(0, { inFifo := [{ endsAt := 10 ^ 12 }] })] }, _, { endsAt := 10 ^ 12 }, [], rfl, by decide +kernel⟩,
    ⟨0, 0, {}, _, rfl, by decide +kernel⟩,
    ⟨0, { sw := { learn := [(1, 0x1234, 2, 0)] } }, _, 1, 0x1234, 2, 0, [], rfl, by decide +kernel⟩,
    ⟨0, { sw := { learn := [(1, 0x1234, 2, 5)] } }, _, 1, 0x1234, 2, 5, [], rfl, by decide +kernel⟩,
    ⟨0, {}, _, rfl, by decide +kernel⟩,
    ⟨0, { sw := { edits := [{ kind := .portState 3 2 }] } }, _, { kind := .portState 3 2 }, [], 3, 2, rfl, by decide +kernel⟩,
    ⟨0, { sw := { edits := [{ kind := .flush 0 1 2 }] } }, _, { kind := .flush 0 1 2 }, [], 0, 1, 2, rfl, by decide +kernel⟩,
    ⟨0, {}, _, rfl, by decide +kernel⟩,
    ⟨0, {}, _, rfl⟩,
    ⟨0, 0, 0, 1, 0, false, [], { fw := { running := true }, banks := { active := { vlan := [(0, 0x4000)] } } }, _, rfl,
        by decide +kernel⟩,
    ⟨0, 0, 0, 1, 0, false, [5], { fw := { running := true }, banks := { active := { vlan := [(0, 0x4000)] } }, sw := { groups := [{ vlan := 0, group := 5, ipv6 := false, ports := [(0, 9)], leaving := [0], index := 0 }] } }, _, 5, { vlan := 0, group := 5, ipv6 := false, ports := [(0, 9)], leaving := [0], index := 0 }, 9, rfl, by decide +kernel⟩,
    ⟨0, 0, 0, 2, 0, false, [5], { fw := { running := true }, banks := { active := { vlan := [(0, 0x4000)] } } }, _, 5, rfl,
        by decide +kernel⟩,
    ⟨0, 0, 0, 0, 0, false, [], {}, _, rfl, by decide +kernel⟩,
    ⟨0, { fw := { running := true } }, _, rfl, by decide +kernel⟩⟩

/-- The premises of every case of `Obligations.EgressEvents` are met. -/
theorem witness_EgressEvents :
    (∃ (dt : Nat) (turn : PortTurn) (s u : State), s.advance dt = u ∧ turn.port < 56 ∧ (u.port turn.port).link = .down
        ∧ (u.port turn.port).cut = none ∧ u.dom.queue = [] ∧ u.queue turn.port 0 ≠ []) ∧
    (∃ (dt : Nat) (turn : PortTurn) (s u : State) (q : _) (rest : _), s.advance dt = u ∧ turn.port < 56
        ∧ (u.port turn.port).link = .up ∧ (u.port turn.port).wire = none ∧ (u.port turn.port).remerge = false
        ∧ (u.port turn.port).control = q :: rest ∧ u.guardFree turn.port 64 true = true) ∧
    (∃ (dt : Nat) (turn : PortTurn) (s u : State) (k : _) (c : _), s.advance dt = u ∧ turn.port < 56
        ∧ (u.port turn.port).link = .up ∧ (u.port turn.port).wire = none ∧ (u.port turn.port).remerge = false
        ∧ (u.port turn.port).control = [] ∧ u.dom.queue = [] ∧ (u.port turn.port).cut = none
        ∧ u.selectQueue turn.port turn.phase = some (k, c) ∧ u.paused turn.port = false ∧ c.booked = false ∧ c.ts = false
        ∧ c.marked = false ∧ k = 9 ∧ u.egressLen turn.port c ≤ u.banks.active.maxFrame turn.port) ∧
    (∃ (dt : Nat) (turn : PortTurn) (s u : State), s.advance dt = u ∧ turn.port < 56 ∧ (u.port turn.port).link = .up
        ∧ (u.port turn.port).wire = none ∧ (u.port turn.port).remerge = false ∧ (u.port turn.port).control = []
        ∧ u.dom.queue = [] ∧ (u.port turn.port).cut = none ∧ u.selectQueue turn.port turn.phase = none) ∧
    (∃ (dt : Nat) (turn : PortTurn) (s u : State) (d : _), s.advance dt = u ∧ turn.port < 56 ∧ (u.port turn.port).link = .up
        ∧ (u.port turn.port).wire = none ∧ (u.port turn.port).remerge = false ∧ (u.port turn.port).control = []
        ∧ u.dom.queue = [d] ∧ d.port = turn.port ∧ u.paused turn.port = false
        ∧ u.guardFree turn.port (u.domainCopy d).frame.len true = true) ∧
    (∃ (dt port : Nat) (s u : State) (w : _) (n : _) (c : _) (rest : _), s.advance dt = u ∧ port < 56
        ∧ (u.port port).link = .up ∧ u.queue port 8 = c :: rest ∧ u.arrived port c = true ∧ (u.port port).wire = some w
        ∧ u.preemptActive port = true ∧ w.express = false ∧ u.rawNow < w.finish ∧ (u.port port).cut = none
        ∧ u.paused port = false ∧ u.cutPoint port w = some n) ∧
    (∃ (dt port : Nat) (s u : State), s.advance dt = u ∧ port < 56 ∧ u.paused port = true) ∧
    (∃ (dt port : Nat) (s u : State), s.advance dt = u ∧ port < 56 ∧ u.queue port 8 = []) ∧
    (∃ (dt port phase : Nat) (s u : State) (c : _) (x : _), s.advance dt = u ∧ port < 56 ∧ (u.port port).link = .up
        ∧ (u.port port).slot = none ∧ u.selectQueue port phase = some (8, c) ∧ c.booked = true
        ∧ (u.dropped port 8 c).isNone = true ∧ u.slotFor port phase c = some x) ∧
    (∃ (dt port phase : Nat) (s u : State) (c : _), s.advance dt = u ∧ port < 56 ∧ (u.port port).link = .up
        ∧ (u.port port).slot = none ∧ u.selectQueue port phase = some (8, c) ∧ c.booked = true ∧ c.ts = false
        ∧ c.marked = true ∧ c.endsAt ≤ u.rawNow) ∧
    (∃ (dt port phase : Nat) (s u : State), s.advance dt = u ∧ port < 56 ∧ (u.port port).link ≠ .up) ∧
    (∃ (dt : Nat) (turn : PortTurn) (s u : State) (sl : _) (n : _), s.advance dt = u ∧ turn.port < 56
        ∧ (u.port turn.port).slot = some sl ∧ sl.tickAt ≤ u.rawNow + u.wire turn.port 8 ∧ u.slotLost turn.port sl = false
        ∧ sl.copy.ts = false ∧ n = u.egressLen turn.port sl.copy) ∧
    (∃ (dt : Nat) (turn : PortTurn) (s u : State), s.advance dt = u ∧ turn.port < 56 ∧ (u.port turn.port).slot = none) ∧
    (∃ (dt port : Nat) (late : Bool) (s u : State) (sl : _), s.advance dt = u ∧ port < 56 ∧ (u.port port).slot = some sl
        ∧ (late = true ∨ u.slotLost port sl = true)) ∧
    (∃ (dt port : Nat) (late : Bool) (s u : State), s.advance dt = u ∧ port < 56 ∧ (u.port port).slot = none) ∧
    (∃ (dt port : Nat) (s u : State) (ev : _), s.advance dt = u ∧ port < 56
        ∧ (u.frameCues port).find? (fun e => decide (u.cueStart port e.2 - u.guardLength port ≤ (u.rawNow : Int)) && decide ((u.rawNow : Int) < u.cueStart port e.2)) = some ev ∧ (u.port port).wire = none) ∧
    (∃ (dt port : Nat) (s u : State), s.advance dt = u ∧ port < 56 ∧ u.frameCues port = []) :=
  ⟨⟨0, {}, { ports := [(0, { link := .down, queues := [(0, [{}])] })] }, _, rfl, by decide +kernel⟩,
    ⟨0, {}, { ports := [(0, { link := .up, control := [7] })], banks := { active := { port := [(0, 0x100)] } } }, _, 7, [],
        rfl, by decide +kernel⟩,
    ⟨0, {}, { ports := [(0, { link := .up, queues := [(9, [{}])] })], banks := { active := { port := [(0, 0x5EE00000200)] } } }, _, 9, {}, rfl, by decide +kernel⟩,
    ⟨0, {}, { ports := [(0, { link := .up })] }, _, rfl, by decide +kernel⟩,
    ⟨0, {}, { ports := [(0, { link := .up })], dom := { queue := [{}] } }, _, {}, rfl, by decide +kernel⟩,
    ⟨0, 0, { ports := [(0, { link := .up, preempt := 2, queues := [(8, [{}])], wire := some { finish := 1, copy := { frame := { len := 1500 } } } })], banks := { active := { port := [(0, 0x5EE00000200)] } } }, _, { finish := 1, copy := { frame := { len := 1500 } } }, 60, {}, [], rfl, by decide +kernel⟩,
    ⟨0, 0, { ports := [(0, { link := .up, pauseUntil := some 1 })] }, _, rfl, by decide +kernel⟩,
    ⟨0, 0, {}, _, rfl, by decide +kernel⟩,
    ⟨0, 0, 0, { ports := [(0, { link := .up, queues := [(8, [{ booked := true }])] })] }, _, { booked := true }, 98304000,
        rfl, by decide +kernel⟩,
    ⟨0, 0, 0, { ports := [(0, { link := .up, queues := [(8, [{ booked := true, marked := true }])] })] }, _,
        { booked := true, marked := true }, rfl, by decide +kernel⟩,
    ⟨0, 0, 0, {}, _, rfl, by decide +kernel⟩,
    ⟨0, {}, { ports := [(0, { link := .up, slot := some {} })] }, _, {}, 68, rfl, by decide +kernel⟩,
    ⟨0, {}, {}, _, rfl, by decide +kernel⟩,
    ⟨0, 0, true, { ports := [(0, { slot := some {} })] }, _, {}, rfl, by decide +kernel⟩,
    ⟨0, 0, false, {}, _, rfl, by decide +kernel⟩,
    ⟨0, 0, { cue := { rows := [(4, { req := 1, inst := 200000 })] }, banks := { active := { port := [(0, 0x5EE00000200)] } } }, _, (4, { req := 1, inst := 200000 }), rfl, by decide +kernel⟩,
    ⟨0, 0, {}, _, rfl, by decide +kernel⟩⟩

/-- The premises of every case of `Obligations.PortEvents` are met. -/
theorem witness_PortEvents :
    (∃ (dt port : Nat) (f : Frame) (s u : State), s.advance dt = u ∧ port < 56 ∧ (u.port port).link = .up ∧ f.isControl = true
        ∧ f.fcsOk = true ∧ f.pcsErr = false ∧ within 64 (u.banks.active.effMax port f.tagged) f.len = true ∧ f.opcode = 1
        ∧ f.dst = 0x0180C2000001 ∧ u.banks.active.rxPauseEn port = true ∧ u.banks.active.trunk port = false ∧ 0 < f.quanta
        ∧ (u.port port).fifo + 64 ≤ fifoBytes port) ∧
    (∃ (dt port : Nat) (f : Frame) (s u : State), s.advance dt = u ∧ port < 56 ∧ f.isControl = false) ∧
    (∃ (dt port : Nat) (s u : State) (x : _), s.advance dt = u ∧ port < 56 ∧ (u.port port).pauseUntil = some x ∧ x ≤ u.rawNow) ∧
    (∃ (dt port : Nat) (s u : State), s.advance dt = u ∧ port < 56 ∧ u.paused port = true) ∧
    (∃ (dt port : Nat) (s u : State), s.advance dt = u ∧ port < 56 ∧ u.banks.active.txPauseEn port = true
        ∧ (u.port port).link = .up ∧ (u.port port).pauseSending = false
        ∧ u.banks.active.pauseHi port * 512 < (u.port port).fifo) ∧
    (∃ (dt port : Nat) (s u : State), s.advance dt = u ∧ port < 56 ∧ u.banks.active.txPauseEn port = true
        ∧ (u.port port).link = .up ∧ (u.port port).pauseSending = true
        ∧ (u.port port).fifo ≤ u.banks.active.pauseLo port * 512) ∧
    (∃ (dt port : Nat) (s u : State), s.advance dt = u ∧ port < 56 ∧ u.banks.active.txPauseEn port = false) ∧
    (∃ (dt port : Nat) (s u : State), s.advance dt = u ∧ port < 56 ∧ (u.port port).link = .up ∧ (u.port port).preempt = 1
        ∧ (u.port port).verSend = true) ∧
    (∃ (dt port : Nat) (s u : State), s.advance dt = u ∧ port < 56 ∧ (u.port port).verSend = false) ∧
    (∃ (dt port : Nat) (s u : State), s.advance dt = u ∧ port < 56 ∧ (u.port port).link = .up ∧ (u.port port).preempt = 1
        ∧ (u.port port).verSend = false ∧ (u.port port).verDue ≤ u.time.tick ∧ (u.port port).verTries < 3) ∧
    (∃ (dt port : Nat) (s u : State), s.advance dt = u ∧ port < 56 ∧ (u.port port).link = .up ∧ (u.port port).preempt = 1
        ∧ (u.port port).verSend = false ∧ (u.port port).verDue ≤ u.time.tick ∧ 3 ≤ (u.port port).verTries) ∧
    (∃ (dt port : Nat) (s u : State), s.advance dt = u ∧ port < 56 ∧ (u.port port).link = .up ∧ (u.port port).preempt = 1
        ∧ 0 < (u.port port).verTries) ∧
    (∃ (dt port : Nat) (s u : State), s.advance dt = u ∧ port < 56 ∧ (u.port port).preempt ≠ 1) ∧
    (∃ (dt port : Nat) (s u : State), s.advance dt = u ∧ port < 56 ∧ (u.port port).link = .up
        ∧ u.banks.active.preemptEn port = true) ∧
    (∃ (dt port : Nat) (s u : State), s.advance dt = u ∧ port < 56 ∧ u.banks.active.preemptEn port = false) ∧
    (∃ (dt port phase lane bytes count : Nat) (start mcrc : Bool) (last : Option Frame) (s u : State), s.advance dt = u
        ∧ port < 56 ∧ (u.port port).link = .disabled) ∧
    (∃ (dt port phase lane bytes count : Nat) (start mcrc : Bool) (last : Option Frame) (s u : State), s.advance dt = u
        ∧ port < 56 ∧ (u.port port).link = .up ∧ u.banks.active.preemptEn port = false ∧ (u.port port).draining = false) ∧
    (∃ (dt port phase lane bytes count : Nat) (start mcrc : Bool) (last : Option Frame) (s u : State), s.advance dt = u
        ∧ port < 56 ∧ (u.port port).link = .up ∧ u.banks.active.preemptEn port = true ∧ start = true
        ∧ (u.port port).asm = none ∧ 64 ≤ bytes ∧ mcrc = true ∧ last = none) ∧
    (∃ (dt port phase lane bytes count : Nat) (start mcrc : Bool) (last : Option Frame) (s u : State), s.advance dt = u
        ∧ port < 56 ∧ (u.port port).link = .up ∧ u.banks.active.preemptEn port = true ∧ start = false
        ∧ (u.port port).asm = none) ∧
    (∃ (dt port phase lane bytes count : Nat) (start mcrc : Bool) (last : Option Frame) (s u : State) (x : _),
        s.advance dt = u ∧ port < 56 ∧ (u.port port).link = .up ∧ u.banks.active.preemptEn port = true ∧ start = false
        ∧ (u.port port).asm = some x ∧ count ≠ x.next) ∧
    (∃ (dt port cause : Nat) (s u : State), s.advance dt = u ∧ port < 56 ∧ (u.port port).link = .up
        ∧ u.banks.active.linkHoldMs port ≠ 0) ∧
    (∃ (dt port cause : Nat) (s u : State), s.advance dt = u ∧ port < 56 ∧ (u.port port).link = .up
        ∧ u.banks.active.linkHoldMs port = 0) ∧
    (∃ (dt port cause : Nat) (s u : State), s.advance dt = u ∧ port < 56 ∧ (u.port port).link = .down ∧ cause = 1) ∧
    (∃ (dt port : Nat) (skew : List Int) (s u : State), s.advance dt = u ∧ port < 56 ∧ (u.port port).link = .down
        ∧ (u.port port).badAt + 10 * tickMs ≤ u.time.tick) ∧
    (∃ (dt port : Nat) (skew : List Int) (s u : State), s.advance dt = u ∧ port < 56 ∧ (u.port port).link = .hold
        ∧ (u.port port).badAt + 10 * tickMs ≤ u.time.tick ∧ u.time.tick < (u.port port).holdDue) ∧
    (∃ (dt port : Nat) (skew : List Int) (s u : State), s.advance dt = u ∧ port < 56 ∧ isQ port = true
        ∧ (u.port port).link = .up ∧ skew.length = 4) ∧
    (∃ (dt port : Nat) (skew : List Int) (s u : State), s.advance dt = u ∧ port < 56 ∧ (u.port port).link = .disabled) ∧
    (∃ (dt port : Nat) (s u : State), s.advance dt = u ∧ port < 56 ∧ (u.port port).link = .hold
        ∧ (u.port port).holdDue ≤ u.time.tick) ∧
    (∃ (dt port : Nat) (s u : State), s.advance dt = u ∧ port < 56 ∧ (u.port port).link ≠ .hold) ∧
    (∃ (dt port : Nat) (s u : State), s.advance dt = u ∧ port < 56 ∧ (u.port port).draining = true ∧ u.sentAll port = true
        ∧ u.inService port = false) ∧
    (∃ (dt port : Nat) (s u : State), s.advance dt = u ∧ port < 56 ∧ (u.port port).draining = true ∧ u.sentAll port = true
        ∧ u.inService port = true ∧ (u.port port).link = .disabled) ∧
    (∃ (dt port : Nat) (s u : State), s.advance dt = u ∧ port < 56 ∧ u.sentAll port = false) ∧
    (∃ (dt port : Nat) (s u : State), s.advance dt = u ∧ port < 56 ∧ (u.port port).draining = false) :=
  ⟨⟨0, 0, { dst := 0x0180C2000001, etherType := 0x8808, opcode := 1, quanta := 3 },
    { ports := [(0, { link := .up })], banks := { active := { port := [(0, 0x5EE00010000)] } } }, _, rfl, by decide +kernel⟩,
    ⟨0, 0, {}, {}, _, rfl, by decide +kernel⟩,
    ⟨0, 0, { ports := [(0, { pauseUntil := some 0 })] }, _, 0, rfl, by decide +kernel⟩,
    ⟨0, 0, { ports := [(0, { pauseUntil := some 5 })] }, _, rfl, by decide +kernel⟩,
    ⟨0, 0, { ports := [(0, { link := .up, fifo := 1024 })], banks := { active := { port := [(0, 0x1000000020000)] } } }, _,
        rfl, by decide +kernel⟩,
    ⟨0, 0, { ports := [(0, { link := .up, pauseSending := true })], banks := { active := { port := [(0, 0x1000000020000)] } } }, _, rfl, by decide +kernel⟩,
    ⟨0, 0, {}, _, rfl, by decide +kernel⟩,
    ⟨0, 0, { ports := [(0, { link := .up, preempt := 1, verSend := true })] }, _, rfl, by decide +kernel⟩,
    ⟨0, 0, {}, _, rfl, by decide +kernel⟩,
    ⟨0, 0, { ports := [(0, { link := .up, preempt := 1 })] }, _, rfl, by decide +kernel⟩,
    ⟨0, 0, { ports := [(0, { link := .up, preempt := 1, verTries := 3 })] }, _, rfl, by decide +kernel⟩,
    ⟨0, 0, { ports := [(0, { link := .up, preempt := 1, verTries := 1 })] }, _, rfl, by decide +kernel⟩,
    ⟨0, 0, {}, _, rfl, by decide +kernel⟩,
    ⟨0, 0, { ports := [(0, { link := .up })], banks := { active := { port := [(0, 0x40000)] } } }, _, rfl, by decide +kernel⟩,
    ⟨0, 0, {}, _, rfl, by decide +kernel⟩,
    ⟨0, 0, 0, 0, 0, 0, false, false, none, {}, _, rfl, by decide +kernel⟩,
    ⟨0, 0, 0, 0, 0, 0, false, false, none, { ports := [(0, { link := .up })] }, _, rfl, by decide +kernel⟩,
    ⟨0, 0, 0, 0, 64, 0, true, true, none, { ports := [(0, { link := .up })], banks := { active := { port := [(0, 0x40000)] } } }, _, rfl, by decide +kernel⟩,
    ⟨0, 0, 0, 0, 0, 0, false, false, none, { ports := [(0, { link := .up })], banks := { active := { port := [(0, 0x40000)] } } }, _, rfl, by decide +kernel⟩,
    ⟨0, 0, 0, 0, 0, 0, false, false, none, { ports := [(0, { link := .up, asm := some { next := 1 } })], banks := { active := { port := [(0, 0x40000)] } } }, _, { next := 1 }, rfl, by decide +kernel⟩,
    ⟨0, 0, 0, { ports := [(0, { link := .up })] }, _, rfl, by decide +kernel⟩,
    ⟨0, 0, 0, { ports := [(0, { link := .up })], banks := { active := { port := [(0, 0)] } } }, _, rfl, by decide +kernel⟩,
    ⟨0, 0, 1, { ports := [(0, { link := .down })] }, _, rfl, by decide +kernel⟩,
    ⟨0, 0, [], { ports := [(0, { link := .down })], time := { tick := 10 * tickMs } }, _, rfl, by decide +kernel⟩,
    ⟨0, 0, [], { ports := [(0, { link := .hold, holdDue := 10 * tickMs + 1 })], time := { tick := 10 * tickMs } }, _, rfl,
        by decide +kernel⟩,
    ⟨0, 48, [0, 0, 0, 0], { ports := [(48, { link := .up })] }, _, rfl, by decide +kernel⟩,
    ⟨0, 0, [], {}, _, rfl, by decide +kernel⟩,
    ⟨0, 0, { ports := [(0, { link := .hold })] }, _, rfl, by decide +kernel⟩,
    ⟨0, 0, {}, _, rfl, by decide +kernel⟩,
    ⟨0, 0, { ports := [(0, { draining := true })] }, _, rfl, by decide +kernel⟩,
    ⟨0, 0, { ports := [(0, { draining := true })], banks := { active := { port := [(0, 0x100)] } } }, _, rfl,
        by decide +kernel⟩,
    ⟨0, 0, { ports := [(0, { cut := some {} })] }, _, rfl, by decide +kernel⟩,
    ⟨0, 0, {}, _, rfl, by decide +kernel⟩⟩

/-- The premises of every case of `Obligations.HostPortEvents` are met. -/
theorem witness_HostPortEvents :
    (∃ (dt ring : Nat) (d : TxSend) (f : Frame) (s u : State), s.advance dt = u ∧ ring < 4 ∧ (u.ring ring).enable = false) ∧
    (∃ (dt ring : Nat) (d : TxSend) (f : Frame) (s u : State) (next : _), s.advance dt = u ∧ ring < 4
        ∧ (u.ring ring).enable = true ∧ 0 < d.descs ∧ d.descs ≤ ((u.ring ring).tail + (u.ring ring).entries - (u.ring ring).idx) % max 1 (u.ring ring).entries ∧ (List.range ring).any (fun k => (u.ring k).enable && (u.ring k).idx != (u.ring k).tailIdx) = false ∧ sendRejected d = true ∧ next = ((u.ring ring).idx + d.descs) % max 1 (u.ring ring).entries) ∧
    (∃ (dt ring : Nat) (d : TxSend) (f : Frame) (s u : State) (next : _) (c : _), s.advance dt = u ∧ ring < 4
        ∧ (u.ring ring).enable = true ∧ 0 < d.descs ∧ d.descs ≤ ((u.ring ring).tail + (u.ring ring).entries - (u.ring ring).idx) % max 1 (u.ring ring).entries ∧ (List.range ring).any (fun k => (u.ring k).enable && (u.ring k).idx != (u.ring k).tailIdx) = false ∧ sendRejected d = false ∧ d.tso = false ∧ d.csum = false ∧ next = ((u.ring ring).idx + d.descs) % max 1 (u.ring ring).entries ∧ d.egress = 255 ∧ d.stampReq = false ∧ d.vlanIns = false ∧ f.dst >>> 4 = 0x0180C200000 ∧ u.host.queue = c) ∧
    (∃ (dt ring : Nat) (s u : State) (c : _) (rest : _), s.advance dt = u ∧ ring < 4 ∧ u.host.queue = c :: rest
        ∧ c.endsAt ≤ u.rawNow ∧ c.marked = false ∧ (u.ring (4 + ring)).enable = false) ∧
    (∃ (dt ring : Nat) (s u : State) (c : _) (rest : _), s.advance dt = u ∧ ring < 4 ∧ u.host.queue = c :: rest
        ∧ c.endsAt ≤ u.rawNow ∧ c.marked = false ∧ (u.ring (4 + ring)).enable = true
        ∧ (u.ring (4 + ring)).idx ≠ (u.ring (4 + ring)).tailIdx ∧ c.frame.len - 4 ≤ (u.ring (4 + ring)).bufKib * 1024) ∧
    (∃ (dt ring : Nat) (s u : State), s.advance dt = u ∧ ring < 4 ∧ u.host.queue = []) ∧
    (∃ (dt ring frames : Nat) (s u : State), s.advance dt = u ∧ ring < 8 ∧ (u.ring ring).draining = true) ∧
    (∃ (dt ring frames : Nat) (s u : State), s.advance dt = u ∧ ring < 8 ∧ (u.ring ring).draining = false) ∧
    (∃ (dt : Nat) (s u : State), s.advance dt = u ∧ u.stamps.draining = true) ∧
    (∃ (dt : Nat) (s u : State), s.advance dt = u ∧ u.stamps.draining = false) ∧
    (∃ (dt session : Nat) (s u : State), s.advance dt = u ∧ session < 4 ∧ (u.mirror session).draining = true) ∧
    (∃ (dt session : Nat) (s u : State), s.advance dt = u ∧ session < 4 ∧ (u.mirror session).draining = false) :=
  ⟨⟨0, 0, {}, {}, {}, _, rfl, by decide +kernel⟩,
    ⟨0, 0, { tclass := 9 }, {}, { host := { rings := [(0, { enable := true, entries := 8, tail := 3 })] } }, _, 1, rfl,
        by decide +kernel⟩,
    ⟨0, 0, {}, { dst := 0x0180C2000003 }, { host := { rings := [(0, { enable := true, entries := 8, tail := 3 })] } }, _, 1,
        [], rfl, by decide +kernel⟩,
    ⟨0, 0, { host := { queue := [{}] } }, _, {}, [], rfl, by decide +kernel⟩,
    ⟨0, 0, { host := { queue := [{}], rings := [(4, { enable := true, entries := 8, bufKib := 2, tail := 3 })] } }, _, {}, [],
        rfl, by decide +kernel⟩,
    ⟨0, 0, {}, _, rfl, by decide +kernel⟩,
    ⟨0, 0, 0, { host := { rings := [(0, { draining := true, entries := 8, tail := 3 })] } }, _, rfl, by decide +kernel⟩,
    ⟨0, 0, 0, {}, _, rfl, by decide +kernel⟩,
    ⟨0, { stamps := { draining := true } }, _, rfl, by decide +kernel⟩,
    ⟨0, {}, _, rfl, by decide +kernel⟩,
    ⟨0, 0, { sw := { mirrors := [(0, { draining := true })] } }, _, rfl, by decide +kernel⟩,
    ⟨0, 0, {}, _, rfl, by decide +kernel⟩⟩

/-- The premises of every case of `Obligations.MeasurementEvents` are met. -/
theorem witness_MeasurementEvents :
    (∃ (dt ch n k : Nat) (s u : State), s.advance dt = u ∧ ch < 16 ∧ k < 4096 ∧ ch ≠ 0 ∧ n ≠ 0 ∧ (u.chan ch).state ≠ 2) ∧
    (∃ (dt ch n k : Nat) (s u : State) (pd : _), s.advance dt = u ∧ ch < 16 ∧ k < 4096 ∧ ch ≠ 0 ∧ n ≠ 0
        ∧ pd = max 1 ((u.chan ch).presc * (u.chan ch).decim) ∧ (u.chan ch).state = 2 ∧ (u.chan ch).skip + n < pd) ∧
    (∃ (dt ch n k : Nat) (s u : State), s.advance dt = u ∧ ch < 16 ∧ 9 ≤ ch ∧ k < 4096 ∧ n ≠ 0 ∧ (u.chan ch).state = 2
        ∧ (u.chan ch).skip + n = max 1 ((u.chan ch).presc * (u.chan ch).decim) ∧ (u.chan ch).lastRaw = none
        ∧ (u.chan ch).captures = false ∧ u.meas.linkCals = [] ∧ u.meas.job = []) ∧
    (∃ (dt ch n k : Nat) (s u : State), s.advance dt = u ∧ k < 4096 ∧ ch = 0 ∧ u.ppsDue k = false) ∧
    (∃ (dt ch : Nat) (hits : List Nat) (s u : State), s.advance dt = u ∧ ch < 16 ∧ (u.chan ch).state ≠ 0
        ∧ (u.chan ch).calFrom + (u.chan ch).calTicks ≤ u.time.tick ∧ (u.chan ch).calRun = false ∧ hits.length = 4096
        ∧ hits.sum = 2 ^ 24 ∧ tableOk hits = true) ∧
    (∃ (dt ch : Nat) (hits : List Nat) (s u : State), s.advance dt = u ∧ ch < 16 ∧ (u.chan ch).state ≠ 0
        ∧ (u.chan ch).calFrom + (u.chan ch).calTicks ≤ u.time.tick ∧ (u.chan ch).calRun = false ∧ hits.length = 4096
        ∧ hits.sum = 2 ^ 24 ∧ tableOk hits = false) ∧
    (∃ (dt ch : Nat) (hits : List Nat) (s u : State), s.advance dt = u ∧ ch < 16
        ∧ u.time.tick < (u.chan ch).calFrom + (u.chan ch).calTicks) ∧
    (∃ (dt job : Nat) (s u : State) (close : _), s.advance dt = u ∧ job < 16 ∧ (u.job job).running = true
        ∧ (u.job job).openSf u.time.stepSum + ((u.job job).gateMs : Int) * uMs = close ∧ close ≤ u.stepFree) ∧
    (∃ (dt job : Nat) (s u : State), s.advance dt = u ∧ job < 16 ∧ (u.job job).running = false) ∧
    (∃ (dt ch : Nat) (s u : State), s.advance dt = u ∧ ch < 16 ∧ (u.chan ch).draining = true) ∧
    (∃ (dt ch : Nat) (s u : State), s.advance dt = u ∧ ch < 16 ∧ (u.chan ch).draining = false) ∧
    (∃ (dt job : Nat) (s u : State), s.advance dt = u ∧ job < 16 ∧ (u.job job).stopping = true) ∧
    (∃ (dt job : Nat) (s u : State), s.advance dt = u ∧ job < 16 ∧ (u.job job).stopping = false) ∧
    (∃ (dt : Nat) (devMk : Int) (heaterMw : Nat) (s u : State), s.advance dt = u ∧ u.ocxo.warm = false
        ∧ u.ocxo.inBandAt = none ∧ devMk.natAbs ≤ 50) ∧
    (∃ (dt : Nat) (devMk : Int) (heaterMw : Nat) (s u : State) (since : _), s.advance dt = u ∧ u.ocxo.warm = false
        ∧ u.ocxo.inBandAt = some since ∧ since + 120 * tickS ≤ u.time.tick) ∧
    (∃ (dt : Nat) (devMk : Int) (heaterMw : Nat) (s u : State) (since : _), s.advance dt = u ∧ u.ocxo.warm = true
        ∧ u.ocxo.outBandAt = some since ∧ since + 10 * tickS ≤ u.time.tick) :=
  ⟨⟨0, 1, 1, 0, {}, _, rfl, by decide +kernel⟩,
    ⟨0, 9, 1, 0, { meas := { ch := [(9, { state := 2, cfg := 3 * 2 ^ 64 })] } }, _, 3, rfl, by decide +kernel⟩,
    ⟨0, 9, 1, 0, { meas := { ch := [(9, { state := 2 })] } }, _, rfl, by decide +kernel⟩,
    ⟨0, 0, 0, 0, {}, _, rfl, by decide +kernel⟩,
    ⟨0, 0, (List.replicate 4096 4096), { meas := { ch := [(0, { state := 2 })] }, time := { tick := 4194304000 } }, _, rfl,
        by decide +kernel⟩,
    ⟨0, 0, (0 :: 8192 :: List.replicate 4094 4096), { meas := { ch := [(0, { state := 2 })] }, time := { tick := 4194304000 } }, _, rfl, by decide +kernel⟩,
    ⟨0, 0, [], {}, _, rfl, by decide +kernel⟩,
    ⟨0, 0, { meas := { job := [(0, { running := true })] } }, _, 0, rfl, by decide +kernel⟩,
    ⟨0, 0, {}, _, rfl, by decide +kernel⟩,
    ⟨0, 0, { meas := { ch := [(0, { draining := true })] } }, _, rfl, by decide +kernel⟩,
    ⟨0, 0, {}, _, rfl, by decide +kernel⟩,
    ⟨0, 0, { meas := { job := [(0, { stopping := true })] } }, _, rfl, by decide +kernel⟩,
    ⟨0, 0, {}, _, rfl, by decide +kernel⟩,
    ⟨0, 0, 0, {}, _, rfl, by decide +kernel⟩,
    ⟨0, 0, 0, { time := { tick := 120 * tickS }, ocxo := { inBandAt := some 0 } }, _, 0, rfl, by decide +kernel⟩,
    ⟨0, 0, 0, { time := { tick := 120 * tickS }, ocxo := { warm := true, outBandAt := some 0 } }, _, 0, rfl, by decide +kernel⟩⟩

/-- The premises of every case of `Obligations.ReferenceEvents` are met. -/
theorem witness_ReferenceEvents :
    (∃ (dt ref : Nat) (s u : State) (start : _) (len : _) (cuts : _), s.advance dt = u ∧ ref < 8
        ∧ cuts = subGates (itemWindowS (u.ref ref).word) ∧ (u.ref ref).gateSf = some start
        ∧ nth cuts (u.ref ref).parts.length = some len ∧ (u.ref ref).state ≠ .disabled
        ∧ start + (((cuts.take (u.ref ref).parts.length).sum + len : Nat) : Int) * uMs ≤ u.stepFree
        ∧ (u.ref ref).parts.length + 1 < cuts.length) ∧
    (∃ (dt ref : Nat) (s u : State), s.advance dt = u ∧ ref < 8 ∧ (u.ref ref).state = .disabled) ∧
    (∃ (dt ref : Nat) (s u : State) (start : _) (len : _) (cuts : _), s.advance dt = u ∧ ref < 8
        ∧ cuts = subGates (itemWindowS (u.ref ref).word) ∧ (u.ref ref).gateSf = some start
        ∧ nth cuts (u.ref ref).parts.length = some len ∧ (u.ref ref).state = .qualifying
        ∧ start + (((cuts.take (u.ref ref).parts.length).sum + len : Nat) : Int) * uMs ≤ u.stepFree
        ∧ (u.ref ref).parts.length + 1 = cuts.length) ∧
    (∃ (dt ref : Nat) (s u : State), s.advance dt = u ∧ ref < 8 ∧ (u.ref ref).state = .qualifying
        ∧ (u.ref ref).lastEvent = none) ∧
    (∃ (dt ref : Nat) (s u : State), s.advance dt = u ∧ ref < 8 ∧ (u.ref ref).state = .qualified
        ∧ (u.ref ref).lastEvent = none ∧ u.sel.selected ≠ some ref) ∧
    (∃ (dt ref : Nat) (s u : State), s.advance dt = u ∧ ref < 8 ∧ (u.ref ref).state = .disabled) ∧
    (∃ (dt ref : Nat) (s u : State), s.advance dt = u ∧ ref < 8 ∧ (u.ref ref).hitDue = true ∧ (u.ref ref).hitRun = 0) ∧
    (∃ (dt ref : Nat) (s u : State), s.advance dt = u ∧ ref < 8 ∧ (u.ref ref).hitDue = true ∧ (u.ref ref).hitRun = 2
        ∧ (u.ref ref).state = .qualified ∧ u.sel.selected ≠ some ref) ∧
    (∃ (dt ref : Nat) (s u : State), s.advance dt = u ∧ ref < 8 ∧ (u.ref ref).state = .qualifying ∧ u.sourceOk ref = false) ∧
    (∃ (dt ref : Nat) (s u : State), s.advance dt = u ∧ ref < 8 ∧ (u.ref ref).state = .qualified ∧ u.sourceOk ref = false
        ∧ u.sel.selected ≠ some ref) ∧
    (∃ (dt : Nat) (s u : State) (fell : _), s.advance dt = u ∧ u.pick = (u.sel.selected, fell)) ∧
    (∃ (dt : Nat) (s u : State) (r : _) (fell : _), s.advance dt = u ∧ u.pick = (some r, fell) ∧ u.sel.selected ≠ some r) ∧
    (∃ (dt : Nat) (s u : State) (r : _), s.advance dt = u ∧ u.pick.1 = none ∧ u.sel.selected = some r ∧ u.sel.state = .locked
        ∧ u.sel.everLocked = true) ∧
    (∃ (dt : Nat) (s u : State) (c : _) (r : _) (fell : _), s.advance dt = u ∧ u.sel.selected = some c
        ∧ (u.restorable c).any u.waited = true ∧ u.pick = (some r, fell) ∧ r ≠ c) ∧
    (∃ (dt : Nat) (s u : State), s.advance dt = u ∧ u.sel.selected = none) ∧
    (∃ (dt : Nat) (s u : State) (r : _), s.advance dt = u ∧ u.sel.selected = some r ∧ u.sel.loopHeld = false
        ∧ u.sel.setting = false ∧ u.sel.state = .locked ∧ u.sel.loopAt = none ∧ (u.ref r).hitNow = false
        ∧ (u.ref r).phase.isSome = true) ∧
    (∃ (dt : Nat) (s u : State), s.advance dt = u ∧ u.sel.selected = none) ∧
    (∃ (dt : Nat) (s u : State) (r : _), s.advance dt = u ∧ u.sel.selected = some r ∧ u.sel.state = .acquiring
        ∧ 60 ≤ u.sel.lockRun) ∧
    (∃ (dt : Nat) (s u : State), s.advance dt = u ∧ u.sel.lockRun < 60) ∧
    (∃ (dt : Nat) (theta : Int) (s u : State), s.advance dt = u ∧ u.sel.state = .locked ∧ u.ocxo.warm = true
        ∧ u.sel.loopHeld = false ∧ 1000 * tickS ≤ u.hold.accT ∧ u.hold.accT / (2 * tickS) ≤ 604800) ∧
    (∃ (dt : Nat) (theta : Int) (s u : State), s.advance dt = u ∧ u.ocxo.warm = false) ∧
    (∃ (dt : Nat) (theta : Int) (s u : State), s.advance dt = u ∧ u.sel.state = .holdover ∧ u.sel.loopHeld = false
        ∧ u.hold.writeAt = none ∧ u.modelValid = true) ∧
    (∃ (dt : Nat) (theta : Int) (s u : State), s.advance dt = u ∧ u.sel.state ≠ .holdover) ∧
    (∃ (dt : Nat) (s u : State), s.advance dt = u ∧ u.sel.state = .waitStep ∧ u.banks.active.autoStep = true
        ∧ u.time.scheds.any (fun c => c.src == 2) = false ∧ u.atSecond = true ∧ u.sel.tested ≠ some u.time.sec
        ∧ u.cue.rows = []) ∧
    (∃ (dt : Nat) (s u : State) (e : _), s.advance dt = u ∧ u.sel.state = .waitStep ∧ u.banks.active.autoStep = true
        ∧ u.time.scheds.any (fun c => c.src == 2) = false ∧ u.atSecond = true ∧ u.sel.tested ≠ some u.time.sec
        ∧ e ∈ u.cue.rows ∧ e.2.template = false ∧ (u.time.sec : Int) * uS ≤ e.2.inst
        ∧ e.2.inst ≤ (u.time.sec : Int) * uS + uS + (u.banks.active.stepHorizonS : Int) * uS) ∧
    (∃ (dt : Nat) (s u : State), s.advance dt = u ∧ u.sel.tested = some u.time.sec) ∧
    (∃ (dt : Nat) (s u : State), s.advance dt = u ∧ u.atSecond = false) ∧
    (∃ (dt ref : Nat) (s u : State), s.advance dt = u ∧ ref < 8) :=
  ⟨⟨0, 0, { time := { sec := 1000 }, refs := [(0, { state := .qualifying, gateSf := some 0, word := 20000 * 2 ^ 64 })] }, _, 0,
    625000, subGates 20000, rfl, by decide +kernel⟩,
    ⟨0, 0, {}, _, rfl, by decide +kernel⟩,
    ⟨0, 0, { time := { sec := 1000 }, refs := [(0, { state := .qualifying, gateSf := some 0 })] }, _, 0, 18750, subGates 300,
        rfl, by decide +kernel⟩,
    ⟨0, 0, { refs := [(0, { state := .qualifying })] }, _, rfl, by decide +kernel⟩,
    ⟨0, 0, { refs := [(0, { state := .qualified })] }, _, rfl, by decide +kernel⟩,
    ⟨0, 0, {}, _, rfl, by decide +kernel⟩,
    ⟨0, 0, { refs := [(0, { hitDue := true })] }, _, rfl, by decide +kernel⟩,
    ⟨0, 0, { refs := [(0, { hitDue := true, hitRun := 2, state := .qualified })] }, _, rfl, by decide +kernel⟩,
    ⟨0, 0, { refs := [(0, { state := .qualifying })] }, _, rfl, by decide +kernel⟩,
    ⟨0, 0, { refs := [(0, { state := .qualified })] }, _, rfl, by decide +kernel⟩,
    ⟨0, {}, _, false, rfl, by decide +kernel⟩,
    ⟨0, { refs := [(0, { state := .qualified, word := 0x10000 })] }, _, 0, false, rfl, by decide +kernel⟩,
    ⟨0, { sel := { selected := some 3, state := .locked, everLocked := true } }, _, 3, rfl, by decide +kernel⟩,
    ⟨0, { time := { tick := 300 * tickS }, refs := [(0, { state := .qualified, word := 0x10000 }), (1, { state := .qualified, word := 0x20000 })], banks := { active := { ref := [(0, 0x10000), (1, 0x20000)] } }, sel := { selected := some 1 } }, _, 1, 0, false, rfl, by decide +kernel⟩,
    ⟨0, {}, _, rfl, by decide +kernel⟩,
    ⟨0, { refs := [(0, { phase := some 0 })], sel := { selected := some 0, state := .locked } }, _, 0, rfl, by decide +kernel⟩,
    ⟨0, {}, _, rfl, by decide +kernel⟩,
    ⟨0, { sel := { selected := some 0, state := .acquiring, lockRun := 60 } }, _, 0, rfl, by decide +kernel⟩,
    ⟨0, {}, _, rfl, by decide +kernel⟩,
    ⟨0, 0, { sel := { state := .locked }, ocxo := { warm := true }, hold := { accT := 1000 * tickS } }, _, rfl,
        by decide +kernel⟩,
    ⟨0, 0, {}, _, rfl, by decide +kernel⟩,
    ⟨0, 0, { sel := { state := .holdover }, hold := { learned := 172800 * tickS } }, _, rfl, by decide +kernel⟩,
    ⟨0, 0, {}, _, rfl, by decide +kernel⟩,
    ⟨0, { sel := { state := .waitStep }, banks := { active := { policy := 2 ^ 64 } } }, _, rfl, by decide +kernel⟩,
    ⟨0, { sel := { state := .waitStep }, banks := { active := { policy := 2 ^ 64 } }, cue := { rows := [(4, {})] } }, _, (4,
        {}), rfl, by decide +kernel⟩,
    ⟨0, { sel := { tested := some 0 } }, _, rfl, by decide +kernel⟩,
    ⟨0, { time := { ns := 500000000 } }, _, rfl, by decide +kernel⟩,
    ⟨0, 0, {}, _, rfl, by decide +kernel⟩⟩

/-- The premises of every case of `Obligations.OutputEvents` are met. -/
theorem witness_OutputEvents :
    (∃ (dt output : Nat) (s u : State) (sf : _), s.advance dt = u ∧ output < 8 ∧ (u.output output).running = true
        ∧ (u.output output).draining = false ∧ (u.output output).mode = 1 ∧ (u.output output).realign = false
        ∧ u.nextEdge (u.output output) = sf ∧ sf ≤ u.stepFree) ∧
    (∃ (dt output : Nat) (s u : State) (sf : _), s.advance dt = u ∧ output < 8 ∧ (u.output output).running = true
        ∧ (u.output output).draining = false ∧ (u.output output).mode = 2 ∧ u.nextEdge (u.output output) = sf
        ∧ sf ≤ u.stepFree) ∧
    (∃ (dt output : Nat) (s u : State), s.advance dt = u ∧ output < 8 ∧ u.stepFree < u.nextEdge (u.output output)) ∧
    (∃ (dt output : Nat) (s u : State), s.advance dt = u ∧ output < 8 ∧ (u.output output).running = false) ∧
    (∃ (dt output : Nat) (s u : State) (w : _), s.advance dt = u ∧ output < 9 ∧ (u.output output).draining = true
        ∧ (u.output output).endSf ≤ u.stepFree ∧ (u.output output).pulseEnds = [] ∧ w = u.banks.active.outWord output) ∧
    (∃ (dt output : Nat) (s u : State), s.advance dt = u ∧ output < 9 ∧ u.stepFree < (u.output output).endSf) ∧
    (∃ (dt output : Nat) (s u : State), s.advance dt = u ∧ output < 9 ∧ (u.output output).draining = false) ∧
    (∃ (dt output counted : Nat) (s u : State) (err : _), s.advance dt = u ∧ output < 8 ∧ (u.chan 8).state = 2
        ∧ (u.chan 8).source = 8 + output ∧ u.meas.turnAt + tickS ≤ u.time.tick ∧ (u.output output).running = true
        ∧ u.turnError (u.output output) = some err) ∧
    (∃ (dt output counted : Nat) (s u : State), s.advance dt = u ∧ output < 8 ∧ u.time.tick < u.meas.turnAt + tickS) ∧
    (∃ (dt output counted : Nat) (s u : State), s.advance dt = u ∧ output < 8 ∧ (u.chan 8).source ≠ 8 + output) ∧
    (∃ (dt : Nat) (s u : State) (sec : _), s.advance dt = u ∧ sec = (u.nowU + uS) / uS ∧ (u.output 8).running = true
        ∧ 499 * uMs ≤ sec * uS - u.nowU ∧ sec * uS - u.nowU ≤ 501 * uMs ∧ (u.output 8).sentSec ≠ some sec.toNat) ∧
    (∃ (dt : Nat) (s u : State) (sec : _), s.advance dt = u ∧ sec = (u.nowU + uS) / uS
        ∧ (u.output 8).sentSec = some sec.toNat) ∧
    (∃ (dt : Nat) (s u : State), s.advance dt = u ∧ (u.output 8).running = false) ∧
    (∃ (dt : Nat) (chars : List Nat) (s u : State) (sec : _) (r : _), s.advance dt = u ∧ readSentence chars = some sec
        ∧ refList.find? u.banks.active.todRx = some r) ∧
    (∃ (dt : Nat) (chars : List Nat) (s u : State), s.advance dt = u ∧ readSentence chars = none) :=
  ⟨⟨0, 0, { outs := [(0, { running := true, cfg := 0x100 })] }, _, 0, rfl, by decide +kernel⟩,
    ⟨0, 0, { outs := [(0, { running := true, cfg := 0x200 + 1000 * 2 ^ 32 })] }, _, 0, rfl, by decide +kernel⟩,
    ⟨0, 0, { outs := [(0, { running := true, cfg := 0x100, startSf := 2 ^ 70 })] }, _, rfl, by decide +kernel⟩,
    ⟨0, 0, {}, _, rfl, by decide +kernel⟩,
    ⟨0, 0, { outs := [(0, { draining := true })] }, _, 0, rfl, by decide +kernel⟩,
    ⟨0, 0, { outs := [(0, { draining := true, endSf := 1 })] }, _, rfl, by decide +kernel⟩,
    ⟨0, 0, {}, _, rfl, by decide +kernel⟩,
    ⟨0, 0, 0, { time := { tick := tickS }, meas := { ch := [(8, { state := 2, cfg := 8 * 2 ^ 8 })], turnEvs := [{ sf := 0 }] }, outs := [(0, { running := true, cfg := 0x100 + 1000 * 2 ^ 32, placed := [0] })] }, _, 0, rfl, by decide +kernel⟩,
    ⟨0, 0, 0, {}, _, rfl, by decide +kernel⟩,
    ⟨0, 0, 0, {}, _, rfl, by decide +kernel⟩,
    ⟨0, { outs := [(8, { running := true })], time := { ns := 500000000 } }, _, 1, rfl, by decide +kernel⟩,
    ⟨0, { outs := [(8, { sentSec := some 1 })] }, _, 1, rfl, by decide +kernel⟩,
    ⟨0, {}, _, rfl, by decide +kernel⟩,
    ⟨0, (State.sentence {} 5), { banks := { active := { ref := [(0, 2 ^ 24)] } } }, _, 5, 0, rfl, by decide +kernel⟩,
    ⟨0, [], {}, _, rfl, by decide +kernel⟩⟩

/-- The premises of every case of `Obligations.ReceiverEvents` are met. -/
theorem witness_ReceiverEvents :
    (∃ (dt : Nat) (e : GnssEpoch) (s u : State), s.advance dt = u ∧ u.gnss.rx ≠ .off) ∧
    (∃ (dt : Nat) (e : GnssEpoch) (s u : State), s.advance dt = u ∧ u.gnss.rx = .off) ∧
    (∃ (dt : Nat) (s u : State), s.advance dt = u ∧ u.gnss.rx ≠ .off) ∧
    (∃ (dt : Nat) (s u : State), s.advance dt = u ∧ u.gnss.rx = .off) ∧
    (∃ (dt : Nat) (s u : State), s.advance dt = u ∧ u.gnss.rx = .survey ∧ u.gnss.lastTracked + 60 * tickS ≤ u.time.tick) ∧
    (∃ (dt : Nat) (s u : State), s.advance dt = u ∧ u.gnss.rx = .off) ∧
    (∃ (dt : Nat) (s u : State) (p : _) (sigma : _), s.advance dt = u ∧ u.gnss.rx = .survey ∧ u.fw.running = true
        ∧ u.gnssBank.gnssFixed = false ∧ u.gnssBank.surveyS ≤ u.gnss.surveyS
        ∧ surveySigma u.gnss.fixes u.gnss.fixSum u.gnss.fixSq = some sigma ∧ sigma ≤ u.gnssBank.surveyAccMm
        ∧ p = (divNear u.gnss.fixSum.1 u.gnss.fixes, divNear u.gnss.fixSum.2.1 u.gnss.fixes,
        divNear u.gnss.fixSum.2.2 u.gnss.fixes)) ∧
    (∃ (dt : Nat) (s u : State), s.advance dt = u ∧ u.gnssBank.gnssFixed = true) ∧
    (∃ (dt : Nat) (s u : State), s.advance dt = u ∧ u.gnss.rx ≠ .survey) ∧
    (∃ (dt : Nat) (x y z : Int) (s u : State) (far : _), s.advance dt = u ∧ u.gnss.rx = .hold ∧ 4 ≤ u.gnss.satsUsed
        ∧ u.gnss.fixAt = none ∧ far = decide ((u.gnssBank.moveLimitM * 1000) ^ 2 < dist2 u.gnss.held (x, y, z))) ∧
    (∃ (dt : Nat) (x y z : Int) (s u : State) (last : _), s.advance dt = u ∧ u.gnss.fixAt = some last
        ∧ u.time.tick < last + 60 * tickS) ∧
    (∃ (dt : Nat) (x y z : Int) (s u : State), s.advance dt = u ∧ u.gnss.satsUsed < 4) ∧
    (∃ (dt : Nat) (s u : State), s.advance dt = u ∧ (u.gnss.rx = .survey ∨ u.gnss.rx = .hold) ∧ u.gnss.hardSet = true) ∧
    (∃ (dt : Nat) (s u : State), s.advance dt = u ∧ u.gnss.hard = 0 ∧ u.gnss.softSince = none) ∧
    (∃ (dt : Nat) (s u : State) (since : _), s.advance dt = u ∧ u.gnss.rx = .disqualified ∧ u.gnss.clearSince = some since
        ∧ since + u.gnssBank.recoverS * tickS ≤ u.time.tick) ∧
    (∃ (dt : Nat) (s u : State), s.advance dt = u ∧ u.gnss.clearSince = none) ∧
    (∃ (dt ma held : Nat) (s u : State), s.advance dt = u ∧ u.gnss.biasMv ≠ 0 ∧ ma < 4 ∧ tickS ≤ held) ∧
    (∃ (dt ma held : Nat) (s u : State), s.advance dt = u ∧ u.gnss.biasMv ≠ 0 ∧ 150 ≤ ma ∧ 10 * tickMs ≤ held) ∧
    (∃ (dt ma held : Nat) (s u : State), s.advance dt = u ∧ u.gnss.biasMv ≠ 0 ∧ 4 ≤ ma ∧ ma ≤ 120) ∧
    (∃ (dt ma held : Nat) (s u : State), s.advance dt = u ∧ u.gnss.biasMv = 0) ∧
    (∃ (dt : Nat) (s u : State), s.advance dt = u) ∧
    (∃ (dt ma : Nat) (s u : State), s.advance dt = u ∧ u.gnss.antenna = .short ∧ u.gnss.reapplyAt + 100 * tickMs ≤ u.time.tick
        ∧ ma < 150) ∧
    (∃ (dt ma : Nat) (s u : State), s.advance dt = u ∧ u.gnss.antenna = .short ∧ u.gnss.reapplyAt + 100 * tickMs ≤ u.time.tick
        ∧ 150 ≤ ma) ∧
    (∃ (dt ma : Nat) (s u : State), s.advance dt = u ∧ u.gnss.antenna ≠ .short) :=
  ⟨⟨0, {}, { gnss := { rx := .survey } }, _, rfl, by decide +kernel⟩,
    ⟨0, {}, {}, _, rfl, by decide +kernel⟩,
    ⟨0, { gnss := { rx := .survey } }, _, rfl, by decide +kernel⟩,
    ⟨0, {}, _, rfl, by decide +kernel⟩,
    ⟨0, { gnss := { rx := .survey }, time := { tick := 60 * tickS } }, _, rfl, by decide +kernel⟩,
    ⟨0, {}, _, rfl, by decide +kernel⟩,
    ⟨0, { fw := { running := true }, gnss := { rx := .survey, surveyS := 86400, fixes := 2, fixSum := (2, 4, 6), fixSq := 28 } }, _, (1, 2, 3), 0, rfl, by decide +kernel⟩,
    ⟨0, { gnss := { rx := .survey, cfg := 2 } }, _, rfl, by decide +kernel⟩,
    ⟨0, {}, _, rfl, by decide +kernel⟩,
    ⟨0, 0, 0, 0, { gnss := { rx := .hold, satsUsed := 4 } }, _, false, rfl, by decide +kernel⟩,
    ⟨0, 0, 0, 0, { gnss := { rx := .hold, satsUsed := 4, fixAt := some 0 } }, _, 0, rfl, by decide +kernel⟩,
    ⟨0, 0, 0, 0, {}, _, rfl, by decide +kernel⟩,
    ⟨0, { gnss := { rx := .hold, hardSet := true } }, _, rfl, by decide +kernel⟩,
    ⟨0, {}, _, rfl, by decide +kernel⟩,
    ⟨0, { gnss := { rx := .disqualified, clearSince := some 0 }, time := { tick := 600 * tickS } }, _, 0, rfl,
        by decide +kernel⟩,
    ⟨0, {}, _, rfl, by decide +kernel⟩,
    ⟨0, 0, tickS, { gnss := { biasMv := 3300 } }, _, rfl, by decide +kernel⟩,
    ⟨0, 150, tickS, { gnss := { biasMv := 3300 } }, _, rfl, by decide +kernel⟩,
    ⟨0, 50, 0, { gnss := { biasMv := 3300 } }, _, rfl, by decide +kernel⟩,
    ⟨0, 0, 0, {}, _, rfl, by decide +kernel⟩,
    ⟨0, {}, _, rfl⟩,
    ⟨0, 121, { gnss := { antenna := .short, biasMv := 0 }, time := { tick := tickS } }, _, rfl, by decide +kernel⟩,
    ⟨0, 150, { gnss := { antenna := .short, biasMv := 0 }, time := { tick := tickS } }, _, rfl, by decide +kernel⟩,
    ⟨0, 0, {}, _, rfl, by decide +kernel⟩⟩

/-- The premises of every case of `Obligations.DomainEvents` are met. -/
theorem witness_DomainEvents :
    (∃ (dt : Nat) (s u : State), s.advance dt = u ∧ u.banks.active.domEnable = false) ∧
    (∃ (dt : Nat) (s u : State), s.advance dt = u ∧ u.time.tick < u.dom.helloDue) ∧
    (∃ (dt : Nat) (s u : State), s.advance dt = u ∧ u.banks.active.domEnable = true ∧ u.dom.helloDue ≤ u.time.tick) ∧
    (∃ (dt : Nat) (f : DomFrame) (s u : State) (v : _), s.advance dt = u ∧ f.port < 56 ∧ u.acceptDomain f = (false, v)) ∧
    (∃ (dt : Nat) (f : DomFrame) (s u : State) (v : _), s.advance dt = u ∧ f.port < 56 ∧ u.acceptDomain f = (true, v)
        ∧ f.kind ≠ 1) ∧
    (∃ (dt : Nat) (f : DomFrame) (s u : State) (v : _), s.advance dt = u ∧ f.port < 56 ∧ u.acceptDomain f = (true, v)
        ∧ f.kind = 1 ∧ (u.port f.port).trunk.state = .down) ∧
    (∃ (dt : Nat) (s u : State), s.advance dt = u ∧ u.banks.active.domEnable = false) ∧
    (∃ (dt : Nat) (s u : State), s.advance dt = u ∧ u.banks.active.domEnable = true ∧ u.rootOffers = []) ∧
    (∃ (dt : Nat) (s u : State) (h : _), s.advance dt = u ∧ u.banks.active.domEnable = true ∧ u.rootOffers = [h]
        ∧ u.rootFresh = false ∧ h.rootIdentity ≠ u.dom.root.rootIdentity) ∧
    (∃ (dt : Nat) (s u : State), s.advance dt = u ∧ u.dom.parentPort = none) ∧
    (∃ (dt : Nat) (s u : State), s.advance dt = u ∧ u.time.tick < u.dom.membersDue) ∧
    (∃ (dt : Nat) (s u : State) (p : _), s.advance dt = u ∧ u.dom.parentPort = some p ∧ u.dom.membersDue ≤ u.time.tick
        ∧ (u.port p).link = .up ∧ u.domainKey.isSome = true) ∧
    (∃ (dt : Nat) (s u : State) (p : _), s.advance dt = u ∧ u.dom.parentPort = some p ∧ u.dom.membersDue ≤ u.time.tick
        ∧ u.domainKey = none) ∧
    (∃ (dt : Nat) (f : DomFrame) (s u : State) (v : _), s.advance dt = u ∧ f.port < 56 ∧ u.acceptDomain f = (false, v)) ∧
    (∃ (dt : Nat) (f : DomFrame) (s u : State) (v : _), s.advance dt = u ∧ f.port < 56 ∧ u.acceptDomain f = (true, v)
        ∧ f.kind ≠ 2) ∧
    (∃ (dt : Nat) (f : DomFrame) (s u : State) (v : _) (m : _), s.advance dt = u ∧ f.port < 56 ∧ u.acceptDomain f = (true, v)
        ∧ f.kind = 2 ∧ m = some (bits f.payload 64 4096, wireField f.payload 16 16, bits f.payload 32 8)
        ∧ (v.updTrunk f.port (fun t => { t with members := m })).duplicated f.port (bits f.payload 64 4096) = none) ∧
    (∃ (dt : Nat) (f : DomFrame) (s u : State) (v : _), s.advance dt = u ∧ f.port < 56 ∧ u.acceptDomain f = (true, v)
        ∧ f.kind = 2 ∧ bit (bits f.payload 64 4096) u.deviceId = true) ∧
    (∃ (dt : Nat) (s u : State), s.advance dt = u ∧ u.dom.dupId = false) ∧
    (∃ (dt : Nat) (s u : State), s.advance dt = u ∧ u.time.tick < u.dom.dupAt + 10 * tickS) ∧
    (∃ (dt : Nat) (s u : State), s.advance dt = u ∧ u.dom.dupId = true ∧ u.dom.dupAt + 10 * tickS ≤ u.time.tick) ∧
    (∃ (dt port : Nat) (heard : Bool) (m : PtpMsg) (phase lane : Nat) (moves : List Int) (s u : State), s.advance dt = u
        ∧ port < 56 ∧ heard = false ∧ u.runsExchange port = true ∧ (u.port port).trunk.turnAt ≤ u.time.tick
        ∧ u.slaveEnd port = true ∧ (u.port port).trunk.pair.e = none ∧ u.ptpKeyless port = false
        ∧ u.time.tick < (u.port port).trunk.l1At ∧ u.poolUsed + cellsOf 88 ≤ u.banks.active.tsPoolKib * 4) ∧
    (∃ (dt port : Nat) (heard : Bool) (m : PtpMsg) (phase lane : Nat) (moves : List Int) (s u : State) (k : _) (h : _),
        s.advance dt = u ∧ port < 56 ∧ heard = false ∧ u.runsExchange port = true ∧ (u.port port).trunk.turnAt ≤ u.time.tick
        ∧ u.slaveEnd port = false ∧ (u.port port).trunk.nbr = some (k, h) ∧ h.nbrPhaseValid = false
        ∧ u.time.tick < (u.port port).trunk.annAt ∧ u.ptpKeyless port = false ∧ u.time.tick < (u.port port).trunk.l1At
        ∧ u.poolUsed + cellsOf 88 ≤ u.banks.active.tsPoolKib * 4) ∧
    (∃ (dt port : Nat) (heard : Bool) (m : PtpMsg) (phase lane : Nat) (moves : List Int) (s u : State) (y : _) (pair : _) (t1 : _) (t2 : _) (t3 : _) (t4 : _) (r : _), s.advance dt = u ∧ port < 56 ∧ heard = true ∧ y = { m with port := port, phase := phase, lane := lane } ∧ u.runsExchange port = true ∧ m.domain = u.ptpDomainOf port ∧ PtpMsg.l2 y = true ∧ u.ptpIntact y = true ∧ u.slaveEnd port = true ∧ m.msg = 9 ∧ pair = (u.port port).trunk.pair ∧ u.answersPair port pair y = true ∧ pair.stamps = some (t1, t2, t3) ∧ t4 = m.timestamp + m.correction ∧ r = (t4 - t1) - (t3 - t2)) ∧
    (∃ (dt port : Nat) (heard : Bool) (m : PtpMsg) (phase lane : Nat) (moves : List Int) (s u : State), s.advance dt = u
        ∧ port < 56 ∧ heard = false ∧ u.time.tick < (u.port port).trunk.turnAt) ∧
    (∃ (dt port : Nat) (heard : Bool) (m : PtpMsg) (phase lane : Nat) (moves : List Int) (s u : State), s.advance dt = u
        ∧ port < 56 ∧ u.runsExchange port = false) ∧
    (∃ (dt port : Nat) (s u : State), s.advance dt = u ∧ port < 56 ∧ (u.port port).trunk.state = .down) ∧
    (∃ (dt port : Nat) (s u : State), s.advance dt = u ∧ port < 56 ∧ (u.port port).trunk.state ≠ .down
        ∧ u.trunkAlive port = false) ∧
    (∃ (dt port : Nat) (x : L1Peer) (s u : State), s.advance dt = u ∧ port < 56 ∧ (u.port port).trunk.state = .down) ∧
    (∃ (dt port : Nat) (x : L1Peer) (s u : State), s.advance dt = u ∧ port < 56 ∧ (u.port port).trunk.state = .l1Wait
        ∧ L1Peer.state x = 4) ∧
    (∃ (dt port : Nat) (x : L1Peer) (s u : State), s.advance dt = u ∧ port < 56 ∧ (u.port port).trunk.state = .measuring
        ∧ L1Peer.state x ≠ 4) ∧
    (∃ (dt : Nat) (s u : State), s.advance dt = u ∧ u.dom.draining = true ∧ u.domainOnWire = false) ∧
    (∃ (dt : Nat) (s u : State), s.advance dt = u ∧ u.domainOnWire = true) ∧
    (∃ (dt : Nat) (s u : State), s.advance dt = u ∧ u.dom.draining = false) ∧
    (∃ (dt : Nat) (s u : State), s.advance dt = u ∧ (∀ c, c ∈ u.meas.linkCals → u.time.tick < c.closeTick)) ∧
    (∃ (dt : Nat) (s u : State) (c : _), s.advance dt = u ∧ u.meas.linkCals = [c] ∧ c.closeTick ≤ u.time.tick) ∧
    (∃ (dt port : Nat) (s u : State), s.advance dt = u ∧ port < 56 ∧ u.banks.active.esmcTx port = false) ∧
    (∃ (dt port : Nat) (s u : State), s.advance dt = u ∧ port < 56 ∧ u.banks.active.esmcTx port = true
        ∧ (u.port port).link = .up ∧ (u.port port).trunk.esmcTxAt = none) ∧
    (∃ (dt port : Nat) (ql : Option Nat) (s u : State) (x : _), s.advance dt = u ∧ port < 56 ∧ ql = some x) ∧
    (∃ (dt port : Nat) (ql : Option Nat) (s u : State), s.advance dt = u ∧ port < 56 ∧ ql = none
        ∧ u.esmcSilent port (u.ref 5).startAt = false ∧ u.esmcSilent port (u.ref 6).startAt = false) :=
  ⟨⟨0, {}, _, rfl, by decide +kernel⟩,
    ⟨0, { dom := { helloDue := 1 } }, _, rfl, by decide +kernel⟩,
    ⟨0, { banks := { active := { dom := 1 } } }, _, rfl, by decide +kernel⟩,
    ⟨0, {}, {}, _, _, rfl, by decide, rfl⟩,
    ⟨0, (netFrame 2 (0)), { banks := { active := { dom := 1, ptim := [(0, 0x100)] } }, ports := [(0, { link := .up })], keys := { cache := [(0, { mat := [1] })] } }, _, _, rfl, by decide, accept_netFrame rfl rfl rfl rfl rfl rfl, by decide +kernel⟩,
    ⟨0, (netFrame 1 (0)), { banks := { active := { dom := 1, ptim := [(0, 0x100)] } }, ports := [(0, { link := .up })], keys := { cache := [(0, { mat := [1] })] } }, _, _, rfl, by decide, accept_netFrame rfl rfl rfl rfl rfl rfl, by decide +kernel⟩,
    ⟨0, {}, _, rfl, by decide +kernel⟩,
    ⟨0, { banks := { active := { dom := 1 } } }, _, rfl, by decide +kernel⟩,
    ⟨0, { banks := { active := { dom := 3 } }, dom := { root := { rootIdentity := Config.eui64.toNat + 1 } }, time := { tick := 10 * tickS } }, _, _, rfl, rfl, rfl, rootFresh_late (by decide +kernel), Nat.ne_of_lt (Nat.lt_succ_self _)⟩,
    ⟨0, {}, _, rfl, by decide +kernel⟩,
    ⟨0, { dom := { membersDue := 1 } }, _, rfl, by decide +kernel⟩,
    ⟨0, { dom := { parentPort := some 0 }, ports := [(0, { link := .up })], keys := { cache := [(0, { mat := [1] })] } }, _,
        0, rfl, by decide +kernel⟩,
    ⟨0, { dom := { parentPort := some 0 }, ports := [(0, { link := .up })] }, _, 0, rfl, by decide +kernel⟩,
    ⟨0, {}, {}, _, _, rfl, by decide, rfl⟩,
    ⟨0, (netFrame 1 (0)), { banks := { active := { dom := 1, ptim := [(0, 0x100)] } }, ports := [(0, { link := .up })], keys := { cache := [(0, { mat := [1] })] } }, _, _, rfl, by decide, accept_netFrame rfl rfl rfl rfl rfl rfl, by decide +kernel⟩,
    ⟨0, (netFrame 2 (0)), { banks := { active := { dom := 1, ptim := [(0, 0x100)] } }, ports := [(0, { link := .up })], keys := { cache := [(0, { mat := [1] })] } }, _, _, some (0, 0, 0), rfl, by decide, accept_netFrame rfl rfl rfl rfl rfl rfl, by decide +kernel⟩,
    ⟨0, (netFrame 2 (2 ^ 64)), { banks := { active := { dom := 1, ptim := [(0, 0x100)] } }, ports := [(0, { link := .up })], keys := { cache := [(0, { mat := [1] })] } }, _, _, rfl, by decide, accept_netFrame rfl rfl rfl rfl rfl rfl, by decide +kernel⟩,
    ⟨0, {}, _, rfl, by decide +kernel⟩,
    ⟨0, {}, _, rfl, by decide +kernel⟩,
    ⟨0, { dom := { dupId := true }, time := { tick := 10 * tickS } }, _, rfl, by decide +kernel⟩,
    ⟨0, 0, false, {}, 0, 0, [], { banks := { active := { dom := 1, ptim := [(0, 0x100)], ts := Config.tsDefault } }, ports := [(0, { link := .up, trunk := { state := .measuring, nbr := some (9, { hops := 1 }), l1At := 1 } })], keys := { cache := [(0, { mat := [1] })] }, dom := { hops := 2 } }, _, rfl, by decide +kernel⟩,
    ⟨0, 0, false, {}, 0, 0, [], { banks := { active := { dom := 1, ptim := [(0, 0x100)], ts := Config.tsDefault } }, ports := [(0, { link := .up, trunk := { state := .measuring, l1At := 1, annAt := 1, nbr := some (9, { hops := 3 }) } })], keys := { cache := [(0, { mat := [1] })] }, dom := { hops := 2 } }, _, 9, { hops := 3 }, rfl, by decide +kernel⟩,
    ⟨0, 0, true, { msg := 9, frame := { etherType := 0x88F7 }, tag := some (hmac128 1 []), timestamp := 4, reqIdentity := ownIdentity, reqPort := 1 }, 0, 0, [], { banks := { active := { dom := 1, ptim := [(0, 0x100)], ts := Config.tsDefault } }, ports := [(0, { link := .up, trunk := { state := .measuring, nbr := some (9, { hops := 1 }), pair := { t1 := some 1, t2 := some 2, t3 := some 3 } } })], keys := { cache := [(0, { mat := [1] })] }, dom := { hops := 2 } }, _, { msg := 9, frame := { etherType := 0x88F7 }, tag := some (hmac128 1 []), timestamp := 4, reqIdentity := ownIdentity, reqPort := 1 }, { t1 := some 1, t2 := some 2, t3 := some 3 }, 1, 2, 3, 4, 2, rfl, by decide, rfl, rfl, by decide +kernel, rfl, rfl, ptpIntact_signed rfl rfl, by decide +kernel, rfl, rfl, answersPair_of rfl rfl rfl rfl, rfl, by decide +kernel, by decide +kernel⟩,
    ⟨0, 0, false, {}, 0, 0, [], { banks := { active := { dom := 1, ptim := [(0, 0x100)], ts := Config.tsDefault } }, ports := [(0, { link := .up, trunk := { state := .measuring, turnAt := 1 } })], keys := { cache := [(0, { mat := [1] })] } }, _, rfl, by decide +kernel⟩,
    ⟨0, 0, false, {}, 0, 0, [], {}, _, rfl, by decide +kernel⟩,
    ⟨0, 0, {}, _, rfl, by decide +kernel⟩,
    ⟨0, 0, { ports := [(0, { trunk := { state := .measuring } })] }, _, rfl, by decide +kernel⟩,
    ⟨0, 0, {}, {}, _, rfl, by decide +kernel⟩,
    ⟨0, 0, {}, { ports := [(0, { trunk := { state := .l1Wait } })] }, _, rfl, by decide +kernel⟩,
    ⟨0, 0, { heard := false }, { ports := [(0, { trunk := { state := .measuring } })] }, _, rfl, by decide +kernel⟩,
    ⟨0, { dom := { draining := true } }, _, rfl, by decide +kernel⟩,
    ⟨0, { ports := [(0, { link := .up, wire := some { finish := 1, copy := { what := 11 } } })] }, _, rfl, by decide +kernel⟩,
    ⟨0, {}, _, rfl, by decide +kernel⟩,
    ⟨0, {}, _, rfl, by decide +kernel⟩,
    ⟨0, { meas := { linkCals := [{}] } }, _, {}, rfl, by decide +kernel⟩,
    ⟨0, 0, {}, _, rfl, by decide +kernel⟩,
    ⟨0, 0, { ports := [(0, { link := .up })], banks := { active := { ptim := [(0, 0x200)] } } }, _, rfl, by decide +kernel⟩,
    ⟨0, 0, (some 2), {}, _, 2, rfl, by decide +kernel⟩,
    ⟨0, 0, none, { ports := [(0, { trunk := { esmcAt := some 0 } })] }, _, rfl, by decide +kernel⟩⟩

/-- The premises of every case of `Obligations.CueEvents` are met. -/
theorem witness_CueEvents :
    (∃ (dt : Nat) (f : DomFrame) (s u : State) (v : _), s.advance dt = u ∧ f.port < 56 ∧ u.acceptDomain f = (false, v)) ∧
    (∃ (dt : Nat) (f : DomFrame) (s u : State) (v : _), s.advance dt = u ∧ f.port < 56 ∧ u.acceptDomain f = (true, v)
        ∧ f.kind ≠ 0x10) ∧
    (∃ (dt : Nat) (f : DomFrame) (s u : State) (v : _), s.advance dt = u ∧ f.port < 56 ∧ u.acceptDomain f = (true, v)
        ∧ f.kind = 0x10 ∧ v.takesRound f false = false) ∧
    (∃ (dt : Nat) (f : DomFrame) (s u : State) (v : _), s.advance dt = u ∧ f.port < 56 ∧ u.acceptDomain f = (true, v)
        ∧ f.kind = 0x10 ∧ v.takesRound f false = true) ∧
    (∃ (dt : Nat) (f : DomFrame) (s u : State) (v : _), s.advance dt = u ∧ f.port < 56 ∧ u.acceptDomain f = (false, v)) ∧
    (∃ (dt : Nat) (f : DomFrame) (s u : State) (v : _), s.advance dt = u ∧ f.port < 56 ∧ u.acceptDomain f = (true, v)
        ∧ f.kind ≠ 0x12) ∧
    (∃ (dt : Nat) (f : DomFrame) (s u : State) (v : _), s.advance dt = u ∧ f.port < 56 ∧ u.acceptDomain f = (true, v)
        ∧ f.kind = 0x12 ∧ v.takesRound f true = false) ∧
    (∃ (dt : Nat) (f : DomFrame) (s u : State) (v : _), s.advance dt = u ∧ f.port < 56 ∧ u.acceptDomain f = (true, v)
        ∧ f.kind = 0x12 ∧ v.takesRound f true = true) ∧
    (∃ (dt : Nat) (f : DomFrame) (s u : State) (v : _), s.advance dt = u ∧ f.port < 56 ∧ u.acceptDomain f = (false, v)) ∧
    (∃ (dt : Nat) (f : DomFrame) (s u : State) (v : _), s.advance dt = u ∧ f.port < 56 ∧ u.acceptDomain f = (true, v)
        ∧ f.kind ≠ 0x11) ∧
    (∃ (dt : Nat) (f : DomFrame) (s u : State) (v : _), s.advance dt = u ∧ f.port < 56 ∧ u.acceptDomain f = (true, v)
        ∧ f.kind = 0x11 ∧ v.isChild f.port = false) ∧
    (∃ (dt : Nat) (f : DomFrame) (s u : State) (v : _) (c : _), s.advance dt = u ∧ f.port < 56 ∧ u.acceptDomain f = (true, v)
        ∧ f.kind = 0x11 ∧ v.isChild f.port = true ∧ u.dom.dupId = false ∧ u.cue.rounds = [c]
        ∧ c.round = wireField f.payload 0 32 ∧ c.cancel = bit f.payload 32 ∧ c.sent = false ∧ c.acked.contains f.port = false
        ∧ c.root = u.dom.root.rootId) ∧
    (∃ (dt : Nat) (s u : State), s.advance dt = u ∧ u.cue.rounds = [] ∧ u.cue.cancels = []) ∧
    (∃ (dt : Nat) (s u : State), s.advance dt = u ∧ u.dom.dupId = true) ∧
    (∃ (dt : Nat) (s u : State) (c : _) (p : _), s.advance dt = u ∧ u.dom.dupId = false ∧ u.cue.rounds = [c]
        ∧ u.cue.cancels = [] ∧ c.sent = false ∧ c.arrived + u.ackWait ≤ u.time.tick ∧ c.mine = false
        ∧ u.dom.parentPort = some p ∧ (u.port p).link = .up ∧ u.domainKey.isSome = true) ∧
    (∃ (dt : Nat) (s u : State) (c : _), s.advance dt = u ∧ u.dom.dupId = false ∧ u.cue.rounds = [c] ∧ u.cue.cancels = []
        ∧ u.cue.results = [] ∧ c.sent = false ∧ c.arrived + u.ackWait ≤ u.time.tick ∧ c.mine = true
        ∧ (u.cue.nextRound + 2 ^ 32 - c.round) % 2 ^ 32 ≤ 16) ∧
    (∃ (dt : Nat) (s u : State), s.advance dt = u ∧ u.cue.rows = []) ∧
    (∃ (dt : Nat) (s u : State) (id : _) (r : _), s.advance dt = u ∧ u.cue.rows = [(id, r)] ∧ r.template = false ∧ r.kind = 1
        ∧ r.buffered = none ∧ r.inst - 2 * uMs ≤ u.nowU ∧ u.nowU ≤ r.inst - uMs
        ∧ (u.windowRead 7 (cueBufferOffset + 16384 * r.slot) r.length).1 = true) ∧
    (∃ (dt : Nat) (s u : State), s.advance dt = u ∧ u.cue.rows = []) ∧
    (∃ (dt : Nat) (s u : State) (id : _) (r : _), s.advance dt = u ∧ u.cue.rows = [(id, r)] ∧ r.template = false
        ∧ r.equinox = false ∧ r.kind = 1 ∧ r.buffered = none ∧ r.inst - uMs ≤ u.nowU) ∧
    (∃ (dt : Nat) (s u : State), s.advance dt = u) ∧
    (∃ (dt : Nat) (s u : State) (id : _) (r : _), s.advance dt = u ∧ u.cue.rows = [(id, r)] ∧ u.rowDue r = true ∧ r.kind = 3
        ∧ u.inService r.target = true ∧ (List.range 8).all (fun o => (u.output o).pulseEnds.isEmpty) = true) ∧
    (∃ (dt : Nat) (s u : State) (id : _) (r : _), s.advance dt = u ∧ u.cue.rows = [(id, r)] ∧ u.rowDue r = true ∧ r.kind = 3
        ∧ u.inService r.target = false ∧ (List.range 8).all (fun o => (u.output o).pulseEnds.isEmpty) = true) ∧
    (∃ (dt : Nat) (s u : State), s.advance dt = u ∧ u.cue.rows = []
        ∧ (List.range 8).all (fun o => (u.output o).pulseEnds.isEmpty) = true) ∧
    (∃ (dt : Nat) (s u : State), s.advance dt = u ∧ u.cap.draining = false) ∧
    (∃ (dt : Nat) (s u : State), s.advance dt = u ∧ u.cap.draining = true) :=
  ⟨⟨0, {}, {}, _, _, rfl, by decide, rfl⟩,
    ⟨0, (netFrame 2 (0)), { banks := { active := { dom := 1, ptim := [(0, 0x100)] } }, ports := [(0, { link := .up })], keys := { cache := [(0, { mat := [1] })] } }, _, _, rfl, by decide, accept_netFrame rfl rfl rfl rfl rfl rfl, by decide +kernel⟩,
    ⟨0, (netFrame 16 (0)), { banks := { active := { dom := 1, ptim := [(0, 0x100)] } }, ports := [(0, { link := .up })], keys := { cache := [(0, { mat := [1] })] } }, _, _, rfl, by decide, accept_netFrame rfl rfl rfl rfl rfl rfl, by decide +kernel⟩,
    ⟨0, (netFrame 16 (0)), { banks := { active := { dom := 1, ptim := [(0, 0x100)] } }, ports := [(0, { link := .up })], keys := { cache := [(0, { mat := [1] })] }, dom := { parentPort := some 0 } }, _, _, rfl, by decide, accept_netFrame rfl rfl rfl rfl rfl rfl, by decide +kernel⟩,
    ⟨0, {}, {}, _, _, rfl, by decide, rfl⟩,
    ⟨0, (netFrame 2 (0)), { banks := { active := { dom := 1, ptim := [(0, 0x100)] } }, ports := [(0, { link := .up })], keys := { cache := [(0, { mat := [1] })] } }, _, _, rfl, by decide, accept_netFrame rfl rfl rfl rfl rfl rfl, by decide +kernel⟩,
    ⟨0, (netFrame 18 (0)), { banks := { active := { dom := 1, ptim := [(0, 0x100)] } }, ports := [(0, { link := .up })], keys := { cache := [(0, { mat := [1] })] } }, _, _, rfl, by decide, accept_netFrame rfl rfl rfl rfl rfl rfl, by decide +kernel⟩,
    ⟨0, (netFrame 18 (0)), { banks := { active := { dom := 1, ptim := [(0, 0x100)] } }, ports := [(0, { link := .up })], keys := { cache := [(0, { mat := [1] })] }, dom := { parentPort := some 0 } }, _, _, rfl, by decide, accept_netFrame rfl rfl rfl rfl rfl rfl, by decide +kernel⟩,
    ⟨0, {}, {}, _, _, rfl, by decide, rfl⟩,
    ⟨0, (netFrame 2 (0)), { banks := { active := { dom := 1, ptim := [(0, 0x100)] } }, ports := [(0, { link := .up })], keys := { cache := [(0, { mat := [1] })] } }, _, _, rfl, by decide, accept_netFrame rfl rfl rfl rfl rfl rfl, by decide +kernel⟩,
    ⟨0, (netFrame 17 (0)), { banks := { active := { dom := 1, ptim := [(0, 0x100)] } }, ports := [(0, { link := .up })], keys := { cache := [(0, { mat := [1] })] } }, _, _, rfl, by decide, accept_netFrame rfl rfl rfl rfl rfl rfl, by decide +kernel⟩,
    ⟨0, (netFrame 17 (0)), { banks := { active := { dom := 1, ptim := [(0, 0x100)] } }, ports := [(0, { link := .up, trunk := { nbr := some (9, { parentId := 0, hops := 1 }) } })], keys := { cache := [(0, { mat := [1] })] }, cue := { rounds := [{}] } }, _, _, {}, rfl, by decide, accept_netFrame rfl rfl rfl rfl rfl rfl, by decide +kernel⟩,
    ⟨0, {}, _, rfl, by decide +kernel⟩,
    ⟨0, { dom := { dupId := true } }, _, rfl, by decide +kernel⟩,
    ⟨0, { cue := { rounds := [{}] }, dom := { parentPort := some 0 }, ports := [(0, { link := .up })], keys := { cache := [(0, { mat := [1] })] }, time := { tick := tickS } }, _, {}, 0, rfl, by decide +kernel⟩,
    ⟨0, { cue := { rounds := [{ mine := true }] }, time := { tick := tickS } }, _, { mine := true }, rfl, by decide +kernel⟩,
    ⟨0, {}, _, rfl, by decide +kernel⟩,
    ⟨0, { cue := { rows := [(4, { req := 1, inst := 2 * uMs })] } }, _, 4, { req := 1, inst := 2 * uMs }, rfl,
        by decide +kernel⟩,
    ⟨0, {}, _, rfl, by decide +kernel⟩,
    ⟨0, { cue := { rows := [(4, { req := 1, inst := uMs })] } }, _, 4, { req := 1, inst := uMs }, rfl, by decide +kernel⟩,
    ⟨0, {}, _, rfl⟩,
    ⟨0, { cue := { rows := [(4, { req := 3 + 5 * 2 ^ 16 })] }, banks := { active := { port := [(0, 0x200)] } } }, _, 4,
        { req := 3 + 5 * 2 ^ 16 }, rfl, by decide +kernel⟩,
    ⟨0, { cue := { rows := [(4, { req := 3 + 5 * 2 ^ 16 })] } }, _, 4, { req := 3 + 5 * 2 ^ 16 }, rfl, by decide +kernel⟩,
    ⟨0, {}, _, rfl, by decide +kernel⟩,
    ⟨0, {}, _, rfl, by decide +kernel⟩,
    ⟨0, { cap := { draining := true } }, _, rfl, by decide +kernel⟩⟩

/-- The premises of every case of `Obligations.RoundEvents` are met. -/
theorem witness_RoundEvents :
    (∃ (dt : Nat) (f : DomFrame) (s u : State) (v : _), s.advance dt = u ∧ f.port < 56 ∧ u.acceptDomain f = (false, v)) ∧
    (∃ (dt : Nat) (f : DomFrame) (s u : State) (v : _), s.advance dt = u ∧ f.port < 56 ∧ u.acceptDomain f = (true, v)
        ∧ f.kind ≠ 0x20) ∧
    (∃ (dt : Nat) (f : DomFrame) (s u : State) (v : _), s.advance dt = u ∧ f.port < 56 ∧ u.acceptDomain f = (true, v)
        ∧ f.kind = 0x20 ∧ v.takesDown f = false) ∧
    (∃ (dt : Nat) (f : DomFrame) (s u : State) (v : _), s.advance dt = u ∧ f.port < 56 ∧ u.acceptDomain f = (true, v)
        ∧ f.kind = 0x20 ∧ v.takesDown f = true) ∧
    (∃ (dt : Nat) (f : DomFrame) (s u : State) (v : _), s.advance dt = u ∧ f.port < 56 ∧ u.acceptDomain f = (true, v)
        ∧ f.kind = 0x20 ∧ v.takesDown f = true ∧ v.roundReasons true (frameRound f) (frameChange f) (frameInstant f) = 0) ∧
    (∃ (dt : Nat) (f : DomFrame) (s u : State) (v : _), s.advance dt = u ∧ f.port < 56 ∧ u.acceptDomain f = (false, v)) ∧
    (∃ (dt : Nat) (f : DomFrame) (s u : State) (v : _), s.advance dt = u ∧ f.port < 56 ∧ u.acceptDomain f = (true, v)
        ∧ f.kind ≠ 0x21) ∧
    (∃ (dt : Nat) (f : DomFrame) (s u : State) (v : _), s.advance dt = u ∧ f.port < 56 ∧ u.acceptDomain f = (true, v)
        ∧ f.kind = 0x21 ∧ v.isChild f.port = false) ∧
    (∃ (dt : Nat) (f : DomFrame) (s u : State) (v : _) (x : _), s.advance dt = u ∧ f.port < 56 ∧ u.acceptDomain f = (true, v)
        ∧ f.kind = 0x21 ∧ v.isChild f.port = true ∧ u.dom.dupId = false ∧ u.rnd.up = [x] ∧ x.kind = 0x21
        ∧ x.round = frameRound f ∧ x.sent = false ∧ x.acked.contains f.port = false) ∧
    (∃ (dt : Nat) (f : DomFrame) (s u : State) (v : _), s.advance dt = u ∧ f.port < 56 ∧ u.acceptDomain f = (false, v)) ∧
    (∃ (dt : Nat) (f : DomFrame) (s u : State) (v : _), s.advance dt = u ∧ f.port < 56 ∧ u.acceptDomain f = (true, v)
        ∧ f.kind ≠ 0x22) ∧
    (∃ (dt : Nat) (f : DomFrame) (s u : State) (v : _), s.advance dt = u ∧ f.port < 56 ∧ u.acceptDomain f = (true, v)
        ∧ f.kind = 0x22 ∧ v.takesDown f = false) ∧
    (∃ (dt : Nat) (f : DomFrame) (s u : State) (v : _), s.advance dt = u ∧ f.port < 56 ∧ u.acceptDomain f = (true, v)
        ∧ f.kind = 0x22 ∧ v.takesDown f = true) ∧
    (∃ (dt : Nat) (f : DomFrame) (s u : State) (v : _), s.advance dt = u ∧ f.port < 56 ∧ u.acceptDomain f = (true, v)
        ∧ f.kind = 0x22 ∧ v.takesDown f = true ∧ u.rnd.part ≠ .prepared) ∧
    (∃ (dt : Nat) (f : DomFrame) (s u : State) (v : _), s.advance dt = u ∧ f.port < 56 ∧ u.acceptDomain f = (false, v)) ∧
    (∃ (dt : Nat) (f : DomFrame) (s u : State) (v : _), s.advance dt = u ∧ f.port < 56 ∧ u.acceptDomain f = (true, v)
        ∧ f.kind ≠ 0x23) ∧
    (∃ (dt : Nat) (f : DomFrame) (s u : State) (v : _), s.advance dt = u ∧ f.port < 56 ∧ u.acceptDomain f = (true, v)
        ∧ f.kind = 0x23 ∧ v.isChild f.port = false) ∧
    (∃ (dt : Nat) (f : DomFrame) (s u : State) (v : _) (x : _), s.advance dt = u ∧ f.port < 56 ∧ u.acceptDomain f = (true, v)
        ∧ f.kind = 0x23 ∧ v.isChild f.port = true ∧ u.dom.dupId = false ∧ u.rnd.up = [x] ∧ x.kind = 0x23
        ∧ x.round = frameRound f ∧ x.sent = false ∧ x.acked.contains f.port = false) ∧
    (∃ (dt : Nat) (f : DomFrame) (s u : State) (v : _), s.advance dt = u ∧ f.port < 56 ∧ u.acceptDomain f = (false, v)) ∧
    (∃ (dt : Nat) (f : DomFrame) (s u : State) (v : _), s.advance dt = u ∧ f.port < 56 ∧ u.acceptDomain f = (true, v)
        ∧ f.kind ≠ 0x24) ∧
    (∃ (dt : Nat) (f : DomFrame) (s u : State) (v : _), s.advance dt = u ∧ f.port < 56 ∧ u.acceptDomain f = (true, v)
        ∧ f.kind = 0x24 ∧ v.takesDown f = false) ∧
    (∃ (dt : Nat) (f : DomFrame) (s u : State) (v : _), s.advance dt = u ∧ f.port < 56 ∧ u.acceptDomain f = (true, v)
        ∧ f.kind = 0x24 ∧ v.takesDown f = true) ∧
    (∃ (dt : Nat) (f : DomFrame) (s u : State) (v : _), s.advance dt = u ∧ f.port < 56 ∧ u.acceptDomain f = (true, v)
        ∧ f.kind = 0x24 ∧ v.takesDown f = true ∧ u.rnd.part = .prepared ∧ u.rnd.round = frameRound f) ∧
    (∃ (dt : Nat) (f : DomFrame) (s u : State) (v : _), s.advance dt = u ∧ f.port < 56 ∧ u.acceptDomain f = (false, v)) ∧
    (∃ (dt : Nat) (f : DomFrame) (s u : State) (v : _), s.advance dt = u ∧ f.port < 56 ∧ u.acceptDomain f = (true, v)
        ∧ f.kind ≠ 0x25) ∧
    (∃ (dt : Nat) (f : DomFrame) (s u : State) (v : _), s.advance dt = u ∧ f.port < 56 ∧ u.acceptDomain f = (true, v)
        ∧ f.kind = 0x25 ∧ v.isChild f.port = false) ∧
    (∃ (dt : Nat) (f : DomFrame) (s u : State) (v : _) (x : _), s.advance dt = u ∧ f.port < 56 ∧ u.acceptDomain f = (true, v)
        ∧ f.kind = 0x25 ∧ v.isChild f.port = true ∧ u.dom.dupId = false ∧ u.rnd.up = [x] ∧ x.kind = 0x25
        ∧ x.round = frameRound f ∧ x.sent = false ∧ x.acked.contains f.port = false) ∧
    (∃ (dt : Nat) (s u : State), s.advance dt = u ∧ u.rnd.up = []) ∧
    (∃ (dt : Nat) (s u : State), s.advance dt = u ∧ u.dom.dupId = true) ∧
    (∃ (dt : Nat) (s u : State) (x : _) (p : _), s.advance dt = u ∧ u.dom.dupId = false ∧ u.domainKey.isSome = true
        ∧ u.rnd.up = [x] ∧ x.sent = false ∧ u.rnd.root = .idle ∧ x.arrived + u.ackWait ≤ u.time.tick
        ∧ u.dom.parentPort = some p ∧ (u.port p).link = .up) ∧
    (∃ (dt : Nat) (s u : State), s.advance dt = u ∧ u.rnd.root = .idle) ∧
    (∃ (dt : Nat) (s u : State), s.advance dt = u ∧ u.rnd.root = .armed ∧ u.nowU < u.rnd.rootRec.inst) ∧
    (∃ (dt : Nat) (s u : State), s.advance dt = u ∧ u.rnd.root = .armed ∧ u.rnd.rootRec.inst ≤ u.nowU) ∧
    (∃ (dt : Nat) (s u : State), s.advance dt = u ∧ u.rnd.root = .cancelling ∧ u.upDue (u.rootUp 0x25) = true) ∧
    (∃ (dt : Nat) (s u : State), s.advance dt = u ∧ u.rnd.root = .preparing ∧ (u.rootUp 0x21).okMap ≠ u.rnd.rootRec.members
        ∧ u.upDue (u.rootUp 0x21) = true) ∧
    (∃ (dt : Nat) (s u : State), s.advance dt = u ∧ u.rnd.part ≠ .prepared) ∧
    (∃ (dt : Nat) (s u : State), s.advance dt = u ∧ u.nowU < (u.rnd.inst : Int)) ∧
    (∃ (dt : Nat) (s u : State), s.advance dt = u ∧ u.rnd.part = .prepared ∧ (u.rnd.inst : Int) ≤ u.nowU) :=
  ⟨⟨0, {}, {}, _, _, rfl, by decide, rfl⟩,
    ⟨0, (netFrame 2 (0)), { banks := { active := { dom := 1, ptim := [(0, 0x100)] } }, ports := [(0, { link := .up })], keys := { cache := [(0, { mat := [1] })] } }, _, _, rfl, by decide, accept_netFrame rfl rfl rfl rfl rfl rfl, by decide +kernel⟩,
    ⟨0, (netFrame 32 (0)), { banks := { active := { dom := 1, ptim := [(0, 0x100)] } }, ports := [(0, { link := .up })], keys := { cache := [(0, { mat := [1] })] } }, _, _, rfl, by decide, accept_netFrame rfl rfl rfl rfl rfl rfl, by decide +kernel⟩,
    ⟨0, (netFrame 32 (0)), { banks := { active := { dom := 1, ptim := [(0, 0x100)] } }, ports := [(0, { link := .up })], keys := { cache := [(0, { mat := [1] })] }, dom := { parentPort := some 0 } }, _, _, rfl, by decide, accept_netFrame rfl rfl rfl rfl rfl rfl, by decide +kernel⟩,
    ⟨0, (netFrame 32 (0)), { banks := { active := { dom := 1, ptim := [(0, 0x100)] }, state := .tagged }, ports := [(0, { link := .up })], keys := { cache := [(0, { mat := [1] })] }, dom := { parentPort := some 0 } }, _, _, rfl, by decide, accept_netFrame rfl rfl rfl rfl rfl rfl, by decide +kernel⟩,
    ⟨0, {}, {}, _, _, rfl, by decide, rfl⟩,
    ⟨0, (netFrame 2 (0)), { banks := { active := { dom := 1, ptim := [(0, 0x100)] } }, ports := [(0, { link := .up })], keys := { cache := [(0, { mat := [1] })] } }, _, _, rfl, by decide, accept_netFrame rfl rfl rfl rfl rfl rfl, by decide +kernel⟩,
    ⟨0, (netFrame 33 (0)), { banks := { active := { dom := 1, ptim := [(0, 0x100)] } }, ports := [(0, { link := .up })], keys := { cache := [(0, { mat := [1] })] } }, _, _, rfl, by decide, accept_netFrame rfl rfl rfl rfl rfl rfl, by decide +kernel⟩,
    ⟨0, (netFrame 33 (0)), { banks := { active := { dom := 1, ptim := [(0, 0x100)] } }, ports := [(0, { link := .up, trunk := { nbr := some (9, { parentId := 0, hops := 1 }) } })], keys := { cache := [(0, { mat := [1] })] }, rnd := { up := [{ kind := 33 }] } }, _, _, { kind := 33 }, rfl, by decide, accept_netFrame rfl rfl rfl rfl rfl rfl, by decide +kernel⟩,
    ⟨0, {}, {}, _, _, rfl, by decide, rfl⟩,
    ⟨0, (netFrame 2 (0)), { banks := { active := { dom := 1, ptim := [(0, 0x100)] } }, ports := [(0, { link := .up })], keys := { cache := [(0, { mat := [1] })] } }, _, _, rfl, by decide, accept_netFrame rfl rfl rfl rfl rfl rfl, by decide +kernel⟩,
    ⟨0, (netFrame 34 (0)), { banks := { active := { dom := 1, ptim := [(0, 0x100)] } }, ports := [(0, { link := .up })], keys := { cache := [(0, { mat := [1] })] } }, _, _, rfl, by decide, accept_netFrame rfl rfl rfl rfl rfl rfl, by decide +kernel⟩,
    ⟨0, (netFrame 34 (0)), { banks := { active := { dom := 1, ptim := [(0, 0x100)] } }, ports := [(0, { link := .up })], keys := { cache := [(0, { mat := [1] })] }, dom := { parentPort := some 0 } }, _, _, rfl, by decide, accept_netFrame rfl rfl rfl rfl rfl rfl, by decide +kernel⟩,
    ⟨0, (netFrame 34 (0)), { banks := { active := { dom := 1, ptim := [(0, 0x100)] } }, ports := [(0, { link := .up })], keys := { cache := [(0, { mat := [1] })] }, dom := { parentPort := some 0 } }, _, _, rfl, by decide, accept_netFrame rfl rfl rfl rfl rfl rfl, by decide +kernel⟩,
    ⟨0, {}, {}, _, _, rfl, by decide, rfl⟩,
    ⟨0, (netFrame 2 (0)), { banks := { active := { dom := 1, ptim := [(0, 0x100)] } }, ports := [(0, { link := .up })], keys := { cache := [(0, { mat := [1] })] } }, _, _, rfl, by decide, accept_netFrame rfl rfl rfl rfl rfl rfl, by decide +kernel⟩,
    ⟨0, (netFrame 35 (0)), { banks := { active := { dom := 1, ptim := [(0, 0x100)] } }, ports := [(0, { link := .up })], keys := { cache := [(0, { mat := [1] })] } }, _, _, rfl, by decide, accept_netFrame rfl rfl rfl rfl rfl rfl, by decide +kernel⟩,
    ⟨0, (netFrame 35 (0)), { banks := { active := { dom := 1, ptim := [(0, 0x100)] } }, ports := [(0, { link := .up, trunk := { nbr := some (9, { parentId := 0, hops := 1 }) } })], keys := { cache := [(0, { mat := [1] })] }, rnd := { up := [{ kind := 35 }] } }, _, _, { kind := 35 }, rfl, by decide, accept_netFrame rfl rfl rfl rfl rfl rfl, by decide +kernel⟩,
    ⟨0, {}, {}, _, _, rfl, by decide, rfl⟩,
    ⟨0, (netFrame 2 (0)), { banks := { active := { dom := 1, ptim := [(0, 0x100)] } }, ports := [(0, { link := .up })], keys := { cache := [(0, { mat := [1] })] } }, _, _, rfl, by decide, accept_netFrame rfl rfl rfl rfl rfl rfl, by decide +kernel⟩,
    ⟨0, (netFrame 36 (0)), { banks := { active := { dom := 1, ptim := [(0, 0x100)] } }, ports := [(0, { link := .up })], keys := { cache := [(0, { mat := [1] })] } }, _, _, rfl, by decide, accept_netFrame rfl rfl rfl rfl rfl rfl, by decide +kernel⟩,
    ⟨0, (netFrame 36 (0)), { banks := { active := { dom := 1, ptim := [(0, 0x100)] } }, ports := [(0, { link := .up })], keys := { cache := [(0, { mat := [1] })] }, dom := { parentPort := some 0 } }, _, _, rfl, by decide, accept_netFrame rfl rfl rfl rfl rfl rfl, by decide +kernel⟩,
    ⟨0, (netFrame 36 (0)), { banks := { active := { dom := 1, ptim := [(0, 0x100)] } }, ports := [(0, { link := .up })], keys := { cache := [(0, { mat := [1] })] }, dom := { parentPort := some 0 }, rnd := { part := .prepared } }, _, _, rfl, by decide, accept_netFrame rfl rfl rfl rfl rfl rfl, by decide +kernel⟩,
    ⟨0, {}, {}, _, _, rfl, by decide, rfl⟩,
    ⟨0, (netFrame 2 (0)), { banks := { active := { dom := 1, ptim := [(0, 0x100)] } }, ports := [(0, { link := .up })], keys := { cache := [(0, { mat := [1] })] } }, _, _, rfl, by decide, accept_netFrame rfl rfl rfl rfl rfl rfl, by decide +kernel⟩,
    ⟨0, (netFrame 37 (0)), { banks := { active := { dom := 1, ptim := [(0, 0x100)] } }, ports := [(0, { link := .up })], keys := { cache := [(0, { mat := [1] })] } }, _, _, rfl, by decide, accept_netFrame rfl rfl rfl rfl rfl rfl, by decide +kernel⟩,
    ⟨0, (netFrame 37 (0)), { banks := { active := { dom := 1, ptim := [(0, 0x100)] } }, ports := [(0, { link := .up, trunk := { nbr := some (9, { parentId := 0, hops := 1 }) } })], keys := { cache := [(0, { mat := [1] })] }, rnd := { up := [{ kind := 37 }] } }, _, _, { kind := 37 }, rfl, by decide, accept_netFrame rfl rfl rfl rfl rfl rfl, by decide +kernel⟩,
    ⟨0, {}, _, rfl, by decide +kernel⟩,
    ⟨0, { dom := { dupId := true } }, _, rfl, by decide +kernel⟩,
    ⟨0, { rnd := { up := [{ kind := 0x21 }] }, dom := { parentPort := some 0 }, ports := [(0, { link := .up })], keys := { cache := [(0, { mat := [1] })] }, time := { tick := tickS } }, _, { kind := 0x21 }, 0, rfl, by decide +kernel⟩,
    ⟨0, {}, _, rfl, by decide +kernel⟩,
    ⟨0, { rnd := { root := .armed, rootRec := { inst := 1 } } }, _, rfl, by decide +kernel⟩,
    ⟨0, { rnd := { root := .armed } }, _, rfl, by decide +kernel⟩,
    ⟨0, { rnd := { root := .cancelling } }, _, rfl, by decide +kernel⟩,
    ⟨0, { rnd := { root := .preparing, rootRec := { members := 1 } } }, _, rfl, by decide +kernel⟩,
    ⟨0, {}, _, rfl, by decide +kernel⟩,
    ⟨0, { rnd := { inst := 1 } }, _, rfl, by decide +kernel⟩,
    ⟨0, { rnd := { part := .prepared } }, _, rfl, by decide +kernel⟩⟩

/-- The premises of every case of `Obligations.BankEvents` are met. -/
theorem witness_BankEvents :
    (∃ (dt : Nat) (s u : State), s.advance dt = u ∧ u.tci.aside = []) ∧
    (∃ (dt : Nat) (s u : State) (w : _), s.advance dt = u ∧ u.tci.aside = [w] ∧ w.obj = some .shadow ∧ w.arg = 0
        ∧ w.opcode = 0x0204 ∧ u.fw.running = true) ∧
    (∃ (dt : Nat) (s u : State) (w : _), s.advance dt = u ∧ u.tci.aside = [w] ∧ w.obj = some .shadow ∧ w.arg = 0
        ∧ w.opcode = 0x010B ∧ u.fw.running = true) ∧
    (∃ (dt : Nat) (s u : State), s.advance dt = u ∧ u.cue.rows = [] ∧ u.tci.aside = []) ∧
    (∃ (dt : Nat) (s u : State) (id : _) (r : _), s.advance dt = u ∧ u.cue.rows = [(id, r)] ∧ r.equinox = true
        ∧ u.nowU < r.inst) ∧
    (∃ (dt : Nat) (s u : State) (id : _) (r : _), s.advance dt = u ∧ u.cue.rows = [(id, r)] ∧ r.equinox = true
        ∧ r.inst ≤ u.nowU) ∧
    (∃ (dt : Nat) (s u : State), s.advance dt = u ∧ u.banks.state ≠ .retained) ∧
    (∃ (dt : Nat) (s u : State), s.advance dt = u ∧ u.banks.state = .retained ∧ u.oldWaiting = [] ∧ u.oldOnWire = false) ∧
    (∃ (dt : Nat) (s u : State), s.advance dt = u ∧ u.banks.state = .retained ∧ u.banks.drainFrom + 10 * tickMs ≤ u.time.tick) ∧
    (∃ (dt : Nat) (s u : State), s.advance dt = u ∧ u.banks.state ≠ .reseeding) ∧
    (∃ (dt : Nat) (s u : State), s.advance dt = u ∧ u.flt.frozen = true) ∧
    (∃ (dt : Nat) (s u : State), s.advance dt = u ∧ u.banks.state = .reseeding ∧ u.fw.running = true ∧ u.flt.frozen = false) ∧
    (∃ (dt : Nat) (s u : State), s.advance dt = u ∧ u.banks.persisted = true) ∧
    (∃ (dt : Nat) (s u : State), s.advance dt = u ∧ u.plat.warn = true) ∧
    (∃ (dt : Nat) (s u : State), s.advance dt = u ∧ u.banks.persisted = false ∧ u.fw.running = true ∧ u.banks.loaded = true
        ∧ u.plat.warn = false) ∧
    (∃ (dt headers : Nat) (s u : State), s.advance dt = u ∧ u.fw.running = false) ∧
    (∃ (dt headers : Nat) (s u : State), s.advance dt = u ∧ u.banks.loaded = true) ∧
    (∃ (dt headers : Nat) (s u : State) (x : _), s.advance dt = u ∧ u.goodSlot = some x) ∧
    (∃ (dt headers : Nat) (s u : State), s.advance dt = u ∧ u.fw.running = true ∧ u.banks.loaded = false ∧ u.goodSlot = none
        ∧ headers = 0) ∧
    (∃ (dt : Nat) (f : DomFrame) (s u : State) (v : _), s.advance dt = u ∧ f.port < 56 ∧ u.acceptDomain f = (false, v)) ∧
    (∃ (dt : Nat) (f : DomFrame) (s u : State) (v : _), s.advance dt = u ∧ f.port < 56 ∧ u.acceptDomain f = (true, v)
        ∧ f.kind ≠ 0x30) ∧
    (∃ (dt : Nat) (f : DomFrame) (s u : State) (v : _), s.advance dt = u ∧ f.port < 56 ∧ u.acceptDomain f = (true, v)
        ∧ f.kind = 0x30 ∧ (DomFrame.answers f) = true) ∧
    (∃ (dt : Nat) (f : DomFrame) (s u : State) (v : _) (c : _), s.advance dt = u ∧ f.port < 56 ∧ u.acceptDomain f = (true, v)
        ∧ f.kind = 0x30 ∧ (DomFrame.answers f) = false ∧ (DomFrame.target f) = v.deviceId ∧ u.fw.running = true
        ∧ u.inb.enable = false ∧ commandOf (reqOf 0 (DomFrame.message f)).1 = some c) ∧
    (∃ (dt : Nat) (f : DomFrame) (s u : State) (v : _) (c : _) (q : _), s.advance dt = u ∧ f.port < 56
        ∧ u.acceptDomain f = (true, v) ∧ f.kind = 0x30 ∧ (DomFrame.answers f) = false ∧ (DomFrame.target f) = v.deviceId
        ∧ u.inb.enable = true ∧ u.dom.dupId = false ∧ commandOf (reqOf 0 (DomFrame.message f)).1 = some c ∧ c.noInband = false
        ∧ isService (reqOf 0 (DomFrame.message f)).1 = false
        ∧ q = { (reqOf 0 (DomFrame.message f)).2 with src := .inband f.port (DomFrame.origin f) (DomFrame.txn f) }
        ∧ c.attended q v = false ∧ v.inbandWaiting < 16) ∧
    (∃ (dt : Nat) (f : DomFrame) (s u : State) (v : _), s.advance dt = u ∧ f.port < 56 ∧ u.acceptDomain f = (false, v)) ∧
    (∃ (dt : Nat) (f : DomFrame) (s u : State) (v : _), s.advance dt = u ∧ f.port < 56 ∧ u.acceptDomain f = (true, v)
        ∧ f.kind ≠ 0x30) ∧
    (∃ (dt : Nat) (f : DomFrame) (s u : State) (v : _) (w : _), s.advance dt = u ∧ f.port < 56 ∧ u.acceptDomain f = (true, v)
        ∧ f.kind = 0x30 ∧ (DomFrame.answers f) = true ∧ (DomFrame.target f) = v.deviceId ∧ u.fw.running = true
        ∧ u.tci.aside = [w] ∧ w.opcode = 0x0106 ∧ w.arg = (DomFrame.txn f)) ∧
    (∃ (dt : Nat) (s u : State), s.advance dt = u ∧ u.fw.running = false) ∧
    (∃ (dt : Nat) (s u : State) (w : _), s.advance dt = u ∧ u.fw.running = true ∧ u.tci.aside = [w] ∧ w.opcode = 0x0106
        ∧ w.due ≤ u.time.tick) ∧
    (∃ (dt : Nat) (s u : State), s.advance dt = u ∧ u.fw.running = true ∧ u.tci.aside = []) ∧
    (∃ (dt : Nat) (s u : State), s.advance dt = u ∧ u.inb.disabling = false) ∧
    (∃ (dt : Nat) (s u : State), s.advance dt = u ∧ u.inb.disabling = true
        ∧ u.tci.aside.any (fun w => Src.remote w.req.src) = false) ∧
    (∃ (dt : Nat) (s u : State), s.advance dt = u ∧ u.tci.aside = []) ∧
    (∃ (dt : Nat) (s u : State) (w : _), s.advance dt = u ∧ u.tci.aside = [w] ∧ w.opcode = 0x0203 ∧ (u.banks.state = .retained
        ∨ u.banks.state = .reseeding)) ∧
    (∃ (dt : Nat) (s u : State) (w : _), s.advance dt = u ∧ u.tci.aside = [w] ∧ w.opcode = 0x0203 ∧ u.banks.state ≠ .retained
        ∧ u.banks.state ≠ .reseeding ∧ u.findings (w.req.b 0) (u.checkInstant (w.req.f 32 96)) = []) ∧
    (∃ (dt : Nat) (s u : State) (w : _) (x : _) (l : _), s.advance dt = u ∧ u.tci.aside = [w] ∧ w.opcode = 0x0203
        ∧ u.banks.state ≠ .retained ∧ u.banks.state ≠ .reseeding
        ∧ u.findings (w.req.b 0) (u.checkInstant (w.req.f 32 96)) = x :: l) :=
  ⟨⟨0, {}, _, rfl, by decide +kernel⟩,
    ⟨0, { fw := { running := true }, tci := { aside := [{ obj := some .shadow, opcode := 0x0204 }] } }, _,
        { obj := some .shadow, opcode := 0x0204 }, rfl, by decide +kernel⟩,
    ⟨0, { fw := { running := true }, tci := { aside := [{ obj := some .shadow, opcode := 0x010B }] } }, _,
        { obj := some .shadow, opcode := 0x010B }, rfl, by decide +kernel⟩,
    ⟨0, {}, _, rfl, by decide +kernel⟩,
    ⟨0, { cue := { rows := [(4, { equinox := true, inst := 1 })] } }, _, 4, { equinox := true, inst := 1 }, rfl,
        by decide +kernel⟩,
    ⟨0, { cue := { rows := [(4, { equinox := true, inst := 0 })] } }, _, 4, { equinox := true, inst := 0 }, rfl,
        by decide +kernel⟩,
    ⟨0, {}, _, rfl, by decide +kernel⟩,
    ⟨0, { banks := { state := .retained } }, _, rfl, by decide +kernel⟩,
    ⟨0, { banks := { state := .retained }, time := { tick := 10 * tickMs } }, _, rfl, by decide +kernel⟩,
    ⟨0, {}, _, rfl, by decide +kernel⟩,
    ⟨0, { flt := { frozen := true } }, _, rfl, by decide +kernel⟩,
    ⟨0, { fw := { running := true }, banks := { state := .reseeding } }, _, rfl, by decide +kernel⟩,
    ⟨0, {}, _, rfl, by decide +kernel⟩,
    ⟨0, { plat := { warn := true } }, _, rfl, by decide +kernel⟩,
    ⟨0, { fw := { running := true }, banks := { persisted := false, loaded := true } }, _, rfl, by decide +kernel⟩,
    ⟨0, 0, {}, _, rfl, by decide +kernel⟩,
    ⟨0, 0, { banks := { loaded := true } }, _, rfl, by decide +kernel⟩,
    ⟨0, 0, { banks := { slots := [(0, { ok := true })] } }, _, { ok := true }, rfl, by decide +kernel⟩,
    ⟨0, 0, { fw := { running := true }, banks := { slots := [(0, {}), (1, {})] } }, _, rfl, by decide +kernel⟩,
    ⟨0, {}, {}, _, _, rfl, by decide, rfl⟩,
    ⟨0, (netFrame 2 (0)), { banks := { active := { dom := 1, ptim := [(0, 0x100)] } }, ports := [(0, { link := .up })], keys := { cache := [(0, { mat := [1] })] } }, _, _, rfl, by decide, accept_netFrame rfl rfl rfl rfl rfl rfl, by decide +kernel⟩,
    ⟨0, (netFrame 48 (2 ^ 64)), { banks := { active := { dom := 1, ptim := [(0, 0x100)] } }, ports := [(0, { link := .up })], keys := { cache := [(0, { mat := [1] })] } }, _, _, rfl, by decide, accept_netFrame rfl rfl rfl rfl rfl rfl, by decide +kernel⟩,
    ⟨0, (netFrame 48 (0x0101 * 2 ^ 96)), { banks := { active := { dom := 1, ptim := [(0, 0x100)] } }, ports := [(0, { link := .up })], keys := { cache := [(0, { mat := [1] })] }, fw := { running := true } }, _, _, cmdSysInfo, rfl, by decide, accept_netFrame rfl rfl rfl rfl rfl rfl, rfl, rfl, by decide +kernel, rfl, rfl, rfl⟩,
    ⟨0, (netFrame 48 (0x0101 * 2 ^ 96)), { banks := { active := { dom := 1, ptim := [(0, 0x100)] } }, ports := [(0, { link := .up })], keys := { cache := [(0, { mat := [1] })] }, inb := { enable := true } }, _, _, cmdSysInfo, { (reqOf 0 (DomFrame.message (netFrame 48 (0x0101 * 2 ^ 96)))).2 with src := .inband 0 0 0 }, rfl, by decide, accept_netFrame rfl rfl rfl rfl rfl rfl, rfl, rfl, by decide +kernel, rfl, rfl, rfl, rfl, rfl, rfl, rfl, by decide +kernel⟩,
    ⟨0, {}, {}, _, _, rfl, by decide, rfl⟩,
    ⟨0, (netFrame 2 (0)), { banks := { active := { dom := 1, ptim := [(0, 0x100)] } }, ports := [(0, { link := .up })], keys := { cache := [(0, { mat := [1] })] } }, _, _, rfl, by decide, accept_netFrame rfl rfl rfl rfl rfl rfl, by decide +kernel⟩,
    ⟨0, (netFrame 48 (2 ^ 64)), { banks := { active := { dom := 1, ptim := [(0, 0x100)] } }, ports := [(0, { link := .up })], keys := { cache := [(0, { mat := [1] })] }, fw := { running := true }, tci := { aside := [{ opcode := 0x0106 }] } }, _, _, { opcode := 0x0106 }, rfl, by decide, accept_netFrame rfl rfl rfl rfl rfl rfl, by decide +kernel⟩,
    ⟨0, {}, _, rfl, by decide +kernel⟩,
    ⟨0, { fw := { running := true }, tci := { aside := [{ opcode := 0x0106 }] } }, _, { opcode := 0x0106 }, rfl,
        by decide +kernel⟩,
    ⟨0, { fw := { running := true } }, _, rfl, by decide +kernel⟩,
    ⟨0, {}, _, rfl, by decide +kernel⟩,
    ⟨0, { inb := { disabling := true } }, _, rfl, by decide +kernel⟩,
    ⟨0, {}, _, rfl, by decide +kernel⟩,
    ⟨0, { tci := { aside := [{ opcode := 0x0203 }] }, banks := { state := .retained } }, _, { opcode := 0x0203 }, rfl,
        by decide +kernel⟩,
    ⟨0, { tci := { aside := [{ opcode := 0x0203 }] } }, _, { opcode := 0x0203 }, rfl, by decide +kernel⟩,
    ⟨0, { tci := { aside := [{ opcode := 0x0203 }] }, banks := { shadow := { dom := 1, ptim := [(0, 0x100)], port := [(0, 0x10000)] } } }, _, { opcode := 0x0203 }, _, _, rfl, rfl, rfl, by decide, by decide, rfl⟩⟩

/-- The premises of every case of `Obligations.TimeServiceEvents` are met. -/
theorem witness_TimeServiceEvents :
    (∃ (dt : Nat) (r : TsReq) (s u : State), s.advance dt = u ∧ r.port < 56 ∧ u.tsHears r.port r.frame = false) ∧
    (∃ (dt : Nat) (r : TsReq) (s u : State), s.advance dt = u ∧ r.port < 56 ∧ u.tsHears r.port r.frame = true
        ∧ u.ts.ntp = false) ∧
    (∃ (dt : Nat) (r : TsReq) (s u : State) (pol : _), s.advance dt = u ∧ r.port < 56 ∧ u.tsHears r.port r.frame = true
        ∧ u.ts.ntp = true ∧ u.classOf r.port false r.frame = (3, pol)) ∧
    (∃ (dt : Nat) (r : TsReq) (s u : State) (cls : _) (pol : _), s.advance dt = u ∧ r.port < 56
        ∧ u.tsHears r.port r.frame = true ∧ u.classOf r.port false r.frame = (cls, pol) ∧ cls ≤ 1 ∧ u.ts.ntp = true
        ∧ r.good = true ∧ Tbl.getD u.ts.admitUse r.port (0, 0) = (0, 0) ∧ u.tsRoom cls = true ∧ u.ts.ledger = []
        ∧ u.banks.active.polRate pol = 0 ∧ bit u.banks.active.ntsRequired cls = false
        ∧ u.poolUsed + cellsOf (max 64 (udpFrame r.frame 48)) ≤ u.banks.active.tsPoolKib * 4) ∧
    (∃ (dt : Nat) (r : TsReq) (s u : State), s.advance dt = u ∧ r.port < 56 ∧ u.tsHears r.port r.frame = false) ∧
    (∃ (dt : Nat) (r : TsReq) (s u : State) (cls : _) (pol : _), s.advance dt = u ∧ r.port < 56
        ∧ u.tsHears r.port r.frame = true ∧ u.classOf r.port false r.frame = (cls, pol) ∧ cls ≠ 3 ∧ u.ts.nts = false) ∧
    (∃ (dt : Nat) (r : TsReq) (s u : State) (cls : _) (pol : _), s.advance dt = u ∧ r.port < 56
        ∧ u.tsHears r.port r.frame = true ∧ u.classOf r.port false r.frame = (cls, pol) ∧ cls ≤ 1 ∧ u.ts.nts = true
        ∧ r.good = true ∧ r.ntsGood = true ∧ Tbl.getD u.ts.admitUse r.port (0, 0) = (0, 0) ∧ u.tsRoom cls = true
        ∧ u.ts.ledger = [] ∧ u.banks.active.polRate pol = 0 ∧ u.ts.cookies = []
        ∧ u.poolUsed + cellsOf (max 64 (udpFrame r.frame (48 + extBytes (r.uids.headD []).length))) ≤ u.banks.active.tsPoolKib * 4) ∧
    (∃ (dt : Nat) (r : TsReq) (s u : State), s.advance dt = u ∧ r.port < 56 ∧ u.tsHears r.port r.frame = false) ∧
    (∃ (dt : Nat) (r : TsReq) (s u : State) (pol : _), s.advance dt = u ∧ r.port < 56 ∧ u.tsHears r.port r.frame = true
        ∧ (if r.exts.isEmpty then u.ts.ntp else u.ts.nts) = true ∧ u.classOf r.port false r.frame = (3, pol)) ∧
    (∃ (dt : Nat) (r : TsReq) (s u : State), s.advance dt = u ∧ r.port < 56 ∧ (u.port r.port).link ≠ .up) ∧
    (∃ (dt : Nat) (r : TsReq) (s u : State), s.advance dt = u ∧ r.port < 56
        ∧ u.asksAddress r.port (u.vlanOf r.port r.frame) r.frame = false) ∧
    (∃ (dt : Nat) (r : TsReq) (s u : State) (cls : _) (pol : _), s.advance dt = u ∧ r.port < 56
        ∧ u.reachesEngine r.port r.frame = true ∧ u.asksAddress r.port (u.vlanOf r.port r.frame) r.frame = true
        ∧ u.classOf r.port false r.frame = (cls, pol) ∧ cls ≤ 1 ∧ Tbl.getD u.ts.admitUse r.port (0, 0) = (0, 0)
        ∧ u.tsRoom cls = true ∧ u.poolUsed + 1 ≤ u.banks.active.tsPoolKib * 4) ∧
    (∃ (dt : Nat) (m : PtpMsg) (s u : State), s.advance dt = u ∧ m.port < 56 ∧ u.banks.active.ptpRole m.port = 0) ∧
    (∃ (dt : Nat) (m : PtpMsg) (s u : State), s.advance dt = u ∧ m.port < 56 ∧ u.banks.active.ptpRole m.port = 1
        ∧ (u.port m.port).link ≠ .up) ∧
    (∃ (dt : Nat) (m : PtpMsg) (s u : State) (cls : _) (pol : _), s.advance dt = u ∧ m.port < 56
        ∧ u.banks.active.ptpRole m.port = 1 ∧ m.msg = 1 ∧ u.reachesEngine m.port m.frame = true ∧ u.ptpAddressed m = true
        ∧ m.domain = u.banks.active.ptpNumber m.port ∧ u.ts.ptp = true ∧ u.ptpIntact m = true
        ∧ u.classOf m.port (PtpMsg.l2 m) m.frame = (cls, pol) ∧ cls ≤ 1 ∧ Tbl.getD u.ts.admitUse m.port (0, 0) = (0, 0)
        ∧ u.tsRoom cls = true ∧ u.ts.ledger = [] ∧ u.banks.active.polRate pol = 0 ∧ u.ptpKeyless m.port = false
        ∧ u.poolUsed + cellsOf (max 64 (u.ptpBytes m.port 54)) ≤ u.banks.active.tsPoolKib * 4) ∧
    (∃ (dt port msg : Nat) (s u : State), s.advance dt = u ∧ port < 56 ∧ u.banks.active.ptpRole port ≠ 1) ∧
    (∃ (dt port msg : Nat) (s u : State), s.advance dt = u ∧ port < 56 ∧ u.ts.ptp = false) ∧
    (∃ (dt port msg : Nat) (s u : State), s.advance dt = u ∧ port < 56 ∧ 1 < msg ∧ msg ≠ 11) ∧
    (∃ (dt port msg : Nat) (s u : State), s.advance dt = u ∧ port < 56 ∧ u.banks.active.ptpRole port = 1 ∧ u.ts.ptp = true
        ∧ (u.port port).link = .up ∧ msg = 0 ∧ Tbl.getD u.ts.ptpNext (16 * port) 0 ≤ u.time.tick
        ∧ u.banks.active.ptpMulticast port = true ∧ u.ts.grants = [] ∧ u.ptpKeyless port = false
        ∧ u.poolUsed + cellsOf (max 64 (u.ptpBytes port 44)) ≤ u.banks.active.tsPoolKib * 4) ∧
    (∃ (dt : Nat) (m : PtpMsg) (s u : State), s.advance dt = u ∧ m.port < 56 ∧ u.banks.active.ptpRole m.port ≠ 1) ∧
    (∃ (dt : Nat) (m : PtpMsg) (s u : State), s.advance dt = u ∧ m.port < 56 ∧ m.msg ≠ 11) ∧
    (∃ (dt : Nat) (m : PtpMsg) (s u : State), s.advance dt = u ∧ m.port < 56 ∧ u.banks.active.ptpRole m.port = 1 ∧ m.msg = 11
        ∧ u.ts.ptp = true ∧ u.reachesEngine m.port m.frame = true ∧ (u.classOf m.port (PtpMsg.l2 m) m.frame).1 ≠ 3
        ∧ u.ptpIntact m = true) ∧
    (∃ (dt port : Nat) (m : PtpMsg) (s u : State), s.advance dt = u ∧ port < 56 ∧ u.banks.active.ptpRole port ≠ 2) ∧
    (∃ (dt port : Nat) (m : PtpMsg) (s u : State) (y : _), s.advance dt = u ∧ port < 56 ∧ y = { m with port := port }
        ∧ u.slaveHears y = true ∧ u.ts.ptp = true ∧ (u.classOf port (PtpMsg.l2 m) m.frame).1 ≠ 3 ∧ u.ptpIntact y = true
        ∧ u.ts.masterId = none ∧ u.masterMeets m = true ∧ m.msg = 11) ∧
    (∃ (dt : Nat) (s u : State), s.advance dt = u ∧ u.ts.announceAt = none) ∧
    (∃ (dt : Nat) (s u : State) (p : _) (a : _), s.advance dt = u
        ∧ (List.range portCount).find? (fun p => u.banks.active.ptpRole p == 2) = some p ∧ u.ts.announceAt = some a
        ∧ u.time.tick < a + u.banks.active.announceTimeout p * logTicks (u.banks.active.logAnnounce p)) ∧
    (∃ (dt : Nat) (s u : State) (p : _) (a : _), s.advance dt = u
        ∧ (List.range portCount).find? (fun p => u.banks.active.ptpRole p == 2) = some p ∧ u.ts.announceAt = some a
        ∧ a + u.banks.active.announceTimeout p * logTicks (u.banks.active.logAnnounce p) ≤ u.time.tick) ∧
    (∃ (dt : Nat) (m : PtpMsg) (s u : State), s.advance dt = u ∧ m.port < 56 ∧ u.banks.active.ptpRole m.port ≠ 1) ∧
    (∃ (dt : Nat) (m : PtpMsg) (s u : State), s.advance dt = u ∧ m.port < 56 ∧ u.banks.active.ptpUnicast m.port = false) ∧
    (∃ (dt : Nat) (m : PtpMsg) (s u : State) (cls : _) (pol : _) (k : _), s.advance dt = u ∧ m.port < 56
        ∧ u.banks.active.ptpRole m.port = 1 ∧ u.banks.active.ptpUnicast m.port = true ∧ u.reachesEngine m.port m.frame = true
        ∧ u.ptpAddressed m = true ∧ m.domain = u.banks.active.ptpNumber m.port ∧ u.ts.ptp = true ∧ u.ptpIntact m = true
        ∧ u.classOf m.port (PtpMsg.l2 m) m.frame = (cls, pol) ∧ cls ≤ 1 ∧ Tbl.getD u.ts.admitUse m.port (0, 0) = (0, 0)
        ∧ u.tsRoom cls = true ∧ u.ts.ledger = [] ∧ u.banks.active.polRate pol = 0 ∧ m.tlv = 0
        ∧ k = u.ledgerKey (PtpMsg.l2 m) m.frame ∧ u.grantOk m cls k = true) ∧
    (∃ (dt : Nat) (m : PtpMsg) (s u : State) (cls : _) (pol : _) (k : _), s.advance dt = u ∧ m.port < 56
        ∧ u.banks.active.ptpRole m.port = 1 ∧ u.banks.active.ptpUnicast m.port = true ∧ u.reachesEngine m.port m.frame = true
        ∧ u.ptpAddressed m = true ∧ m.domain = u.banks.active.ptpNumber m.port ∧ u.ts.ptp = true ∧ u.ptpIntact m = true
        ∧ u.classOf m.port (PtpMsg.l2 m) m.frame = (cls, pol) ∧ cls ≤ 1 ∧ Tbl.getD u.ts.admitUse m.port (0, 0) = (0, 0)
        ∧ u.tsRoom cls = true ∧ u.ts.ledger = [] ∧ u.banks.active.polRate pol = 0 ∧ m.tlv = 1
        ∧ k = u.ledgerKey (PtpMsg.l2 m) m.frame) ∧
    (∃ (dt : Nat) (s u : State), s.advance dt = u) ∧
    (∃ (dt port : Nat) (heard : Bool) (m : PtpMsg) (phase lane : Nat) (s u : State), s.advance dt = u ∧ port < 56
        ∧ u.measuresLink port = false) ∧
    (∃ (dt port : Nat) (heard : Bool) (m : PtpMsg) (phase lane : Nat) (s u : State), s.advance dt = u ∧ port < 56
        ∧ u.measuresLink port = true ∧ u.ts.ptp = true ∧ (u.port port).link = .up ∧ heard = false
        ∧ Tbl.getD u.ts.ptpNext (16 * port + 2) 0 ≤ u.time.tick ∧ u.ptpKeyless port = false
        ∧ u.poolUsed + cellsOf (max 64 (u.ptpBytes port 54)) ≤ u.banks.active.tsPoolKib * 4) ∧
    (∃ (dt port : Nat) (heard : Bool) (m : PtpMsg) (phase lane : Nat) (s u : State) (y : _) (pair : _) (t3 : _),
        s.advance dt = u ∧ port < 56 ∧ u.measuresLink port = true ∧ u.ts.ptp = true ∧ u.reachesEngine port m.frame = true
        ∧ heard = true ∧ y = { m with port := port, phase := phase, lane := lane } ∧ pair = Tbl.getD u.ts.linkPair port {}
        ∧ m.domain = u.banks.active.ptpNumber port ∧ u.ptpIntact y = true ∧ u.answersPair port pair y = true ∧ m.msg = 3
        ∧ m.twoStep = false ∧ pair.t3 = some t3) ∧
    (∃ (dt : Nat) (s u : State), s.advance dt = u ∧ u.ts.cookies = []) ∧
    (∃ (dt : Nat) (s u : State), s.advance dt = u ∧ u.time.tick < u.ts.rotateDue) ∧
    (∃ (dt : Nat) (s u : State), s.advance dt = u ∧ u.ts.cookies ≠ [] ∧ u.ts.rotateDue ≤ u.time.tick ∧ u.keys.writes = []
        ∧ u.fw.running = true ∧ u.plat.warn = false ∧ u.bn.entropyOk = true) ∧
    (∃ (dt : Nat) (s u : State), s.advance dt = u ∧ u.tsSent 0 = true ∧ u.tsSent 1 = true ∧ u.tsSent 2 = true) ∧
    (∃ (dt : Nat) (s u : State) (k : _), s.advance dt = u ∧ k < 3 ∧ bit u.ts.draining k = true ∧ u.tsSent k = false) ∧
    (∃ (dt : Nat) (s u : State), s.advance dt = u ∧ u.tci.aside = []) ∧
    (∃ (dt : Nat) (s u : State) (w : _), s.advance dt = u ∧ u.tci.aside = [w] ∧ w.opcode = 0x0B0A ∧ u.ts.grants = []) :=
  ⟨⟨0, {}, {}, _, rfl, by decide +kernel⟩,
    ⟨0, { frame := { ipProto := 17, l4Dst := 123 } }, { banks := { active := { ts := Config.tsDefault + 2 ^ 32, addr := [(0, 0x10)], ptim := [(0, 0x100)] } }, ports := [(0, { link := .up, trunk := { state := .ready } })], ts := {  } }, _, rfl, by decide +kernel⟩,
    ⟨0, { frame := { ipProto := 17, l4Dst := 123 } }, { ts := { ntp := true }, banks := { active := { ts := Config.tsDefault + 2 ^ 32, addr := [(0, 0x10)], pfx := [(0, 0x3000400)] } }, ports := [(0, { link := .up })] }, _, 0, rfl, by decide +kernel⟩,
    ⟨0, { frame := { ipProto := 17, l4Dst := 123 } }, { banks := { active := { ts := Config.tsDefault + 2 ^ 32, addr := [(0, 0x10)], ptim := [(0, 0x100)] } }, ports := [(0, { link := .up, trunk := { state := .ready } })], ts := { ntp := true } }, _, 0, 0, rfl, by decide +kernel⟩,
    ⟨0, {}, {}, _, rfl, by decide +kernel⟩,
    ⟨0, { frame := { ipProto := 17, l4Dst := 123 } }, { banks := { active := { ts := Config.tsDefault + 2 ^ 32, addr := [(0, 0x10)], ptim := [(0, 0x100)] } }, ports := [(0, { link := .up, trunk := { state := .ready } })], ts := {  } }, _, 0, 0, rfl, by decide +kernel⟩,
    ⟨0, { frame := { ipProto := 17, l4Dst := 123 }, exts := [.uid (List.replicate 32 0), .cookie [], .auth [] []] },
        { banks := { active := { ts := Config.tsDefault + 2 ^ 32, addr := [(0, 0x10)], ptim := [(0, 0x100)] } }, ports := [(0, { link := .up, trunk := { state := .ready } })], ts := { nts := true } }, _, 0, 0, rfl, by decide +kernel⟩,
    ⟨0, {}, {}, _, rfl, by decide +kernel⟩,
    ⟨0, { frame := { ipProto := 17, l4Dst := 123 } }, { ts := { ntp := true }, banks := { active := { ts := Config.tsDefault + 2 ^ 32, addr := [(0, 0x10)], pfx := [(0, 0x3000400)] } }, ports := [(0, { link := .up })] }, _, 0, rfl, by decide +kernel⟩,
    ⟨0, {}, {}, _, rfl, by decide +kernel⟩,
    ⟨0, {}, {}, _, rfl, by decide +kernel⟩,
    ⟨0, { frame := { etherType := 0x0806, opcode := 1 } },
        { banks := { active := { ts := Config.tsDefault + 2 ^ 32, addr := [(0, 0x10)], ptim := [(0, 0x100)] } }, ports := [(0, { link := .up, trunk := { state := .ready } })], ts := {  } }, _, 0, 0, rfl, by decide +kernel⟩,
    ⟨0, {}, {}, _, rfl, by decide +kernel⟩,
    ⟨0, {}, { banks := { active := { ptp := [(0, Config.ptpDefault 0 + 0x100)] } } }, _, rfl, by decide +kernel⟩,
    ⟨0, { msg := 1, frame := { etherType := 0x88F7 } }, { banks := { active := { ts := Config.tsDefault + 2 ^ 32 - 2 ^ 184, ptp := [(0, Config.ptpDefault 0 + 0x100)] } }, ports := [(0, { link := .up })], ts := { ptp := true } }, _, 0, 0, rfl, by decide +kernel⟩,
    ⟨0, 0, 0, {}, _, rfl, by decide +kernel⟩,
    ⟨0, 0, 0, {}, _, rfl, by decide +kernel⟩,
    ⟨0, 0, 2, {}, _, rfl, by decide +kernel⟩,
    ⟨0, 0, 0, { banks := { active := { ts := Config.tsDefault + 2 ^ 32 - 2 ^ 184, ptp := [(0, Config.ptpDefault 0 + 0x100)] } }, ports := [(0, { link := .up })], ts := { ptp := true } }, _, rfl, by decide +kernel⟩,
    ⟨0, {}, {}, _, rfl, by decide +kernel⟩,
    ⟨0, {}, {}, _, rfl, by decide +kernel⟩,
    ⟨0, { msg := 11, frame := { etherType := 0x88F7 } },
        { banks := { active := { ts := Config.tsDefault + 2 ^ 32 - 2 ^ 184, ptp := [(0, Config.ptpDefault 0 + 0x100)] } }, ports := [(0, { link := .up })], ts := { ptp := true } }, _, rfl, by decide +kernel⟩,
    ⟨0, 0, {}, {}, _, rfl, by decide +kernel⟩,
    ⟨0, 0, { msg := 11, cls := 6, frame := { etherType := 0x88F7 } },
        { banks := { active := { ts := Config.tsDefault + 2 ^ 32, ptp := [(0, Config.ptpDefault 0 + 0x200)] } }, ports := [(0, { link := .up })], ts := { ptp := true } }, _, { msg := 11, cls := 6, frame := { etherType := 0x88F7 } }, rfl, by decide +kernel⟩,
    ⟨0, {}, _, rfl, by decide +kernel⟩,
    ⟨0, { banks := { active := { ts := Config.tsDefault + 2 ^ 32 - 2 ^ 184, ptp := [(0, Config.ptpDefault 0 + 0x200)] } }, ports := [(0, { link := .up })], ts := { announceAt := some 0 } }, _, 0, 0, rfl, by decide +kernel⟩,
    ⟨0, { banks := { active := { ts := Config.tsDefault + 2 ^ 32 - 2 ^ 184, ptp := [(0, Config.ptpDefault 0 + 0x200)] } }, ports := [(0, { link := .up })], time := { tick := 100 * tickS }, ts := { announceAt := some 0 } }, _, 0, 0, rfl, by decide +kernel⟩,
    ⟨0, {}, {}, _, rfl, by decide +kernel⟩,
    ⟨0, {}, {}, _, rfl, by decide +kernel⟩,
    ⟨0, { duration := 10, frame := { etherType := 0x88F7 } },
        { banks := { active := { ts := Config.tsDefault + 2 ^ 32 - 2 ^ 184, ptp := [(0, Config.ptpDefault 0 + 0x20100)] } }, ports := [(0, { link := .up })], ts := { ptp := true } }, _, 0, 0, (2, 0, 0), rfl, by decide +kernel⟩,
    ⟨0, { tlv := 1, frame := { etherType := 0x88F7 } }, { banks := { active := { ts := Config.tsDefault + 2 ^ 32 - 2 ^ 184, ptp := [(0, Config.ptpDefault 0 + 0x20100)] } }, ports := [(0, { link := .up })], ts := { ptp := true } }, _, 0, 0, (2, 0, 0), rfl, by decide +kernel⟩,
    ⟨0, {}, _, rfl⟩,
    ⟨0, 0, false, {}, 0, 0, {}, _, rfl, by decide +kernel⟩,
    ⟨0, 0, false, {}, 0, 0, { banks := { active := { ts := Config.tsDefault, ptp := [(0, Config.ptpDefault 0 + 0x400)] } }, ports := [(0, { link := .up })], ts := { ptp := true } }, _, rfl, by decide +kernel⟩,
    ⟨0, 0, true, { msg := 3, reqIdentity := ownIdentity, reqPort := 1 }, 0, 0,
        { banks := { active := { ts := Config.tsDefault, ptp := [(0, Config.ptpDefault 0 + 0x400)] } }, ports := [(0, { link := .up })], ts := { ptp := true, linkPair := [(0, { t3 := some 3 })] } }, _, { msg := 3, reqIdentity := ownIdentity, reqPort := 1 }, { t3 := some 3 }, 3, rfl, by decide, rfl, rfl, rfl, rfl, rfl, rfl, rfl, rfl, answersPair_of rfl rfl rfl rfl, rfl, rfl, rfl⟩,
    ⟨0, {}, _, rfl, by decide +kernel⟩,
    ⟨0, { ts := { rotateDue := 1 } }, _, rfl, by decide +kernel⟩,
    ⟨0, { fw := { running := true }, ts := { cookies := [{}] } }, _, rfl, by decide +kernel⟩,
    ⟨0, {}, _, rfl, by decide +kernel⟩,
    ⟨0, { ts := { draining := 4 }, ports := [(0, { queues := [(0, [{ ts := true }])] })] }, _, 2, rfl, by decide +kernel⟩,
    ⟨0, {}, _, rfl, by decide +kernel⟩,
    ⟨0, { tci := { aside := [{ opcode := 0x0B0A }] } }, _, { opcode := 0x0B0A }, rfl, by decide +kernel⟩⟩

/-- The premises of every case of `Obligations.KeyEvents` are met. -/
theorem witness_KeyEvents :
    (∃ (dt data : Nat) (s u : State), s.advance dt = u ∧ u.bn.queue = []) ∧
    (∃ (dt data : Nat) (s u : State) (j : _) (rest : _), s.advance dt = u ∧ u.bn.queue = j :: rest ∧ (u.lane 0).idle = true
        ∧ u.policyBreach j.wait.req = false ∧ j.wait.req.b 17 = false) ∧
    (∃ (dt data : Nat) (s u : State) (j : _) (rest : _), s.advance dt = u ∧ u.bn.queue = j :: rest ∧ (u.lane 0).idle = true
        ∧ u.policyBreach j.wait.req = true) ∧
    (∃ (dt lane : Nat) (glitch late : Bool) (s u : State), s.advance dt = u ∧ lane < 4 ∧ (u.lane lane).job = none) ∧
    (∃ (dt lane : Nat) (glitch late : Bool) (s u : State) (j : _), s.advance dt = u ∧ lane < 4 ∧ (u.lane lane).job = some j
        ∧ u.time.tick < j.release) ∧
    (∃ (dt lane : Nat) (glitch late : Bool) (s u : State) (j : _), s.advance dt = u ∧ lane < 4 ∧ (u.lane lane).job = some j
        ∧ j.release ≤ u.time.tick ∧ late = true ∧ u.belowRange = true) ∧
    (∃ (dt lane : Nat) (glitch late : Bool) (s u : State) (j : _), s.advance dt = u ∧ lane < 4 ∧ (u.lane lane).job = some j
        ∧ j.release ≤ u.time.tick ∧ late = false) ∧
    (∃ (dt lane : Nat) (s u : State), s.advance dt = u ∧ lane < 4 ∧ (u.lane lane).zeroDue = none) ∧
    (∃ (dt lane : Nat) (s u : State) (d : _), s.advance dt = u ∧ lane < 4 ∧ (u.lane lane).zeroDue = some d ∧ u.time.tick < d) ∧
    (∃ (dt lane : Nat) (s u : State) (d : _), s.advance dt = u ∧ lane < 4 ∧ (u.lane lane).zeroDue = some d ∧ d ≤ u.time.tick) ∧
    (∃ (dt : Nat) (s u : State), s.advance dt = u ∧ u.bn.draining = false) ∧
    (∃ (dt : Nat) (s u : State), s.advance dt = u ∧ u.bn.draining = true ∧ u.bn.idle = true) ∧
    (∃ (dt : Nat) (s u : State), s.advance dt = u ∧ u.keys.writes = []) ∧
    (∃ (dt : Nat) (s u : State), s.advance dt = u ∧ u.fw.running = false) ∧
    (∃ (dt : Nat) (s u : State) (w : _) (k : _) (x : _), s.advance dt = u ∧ u.keys.writes = [w] ∧ w.slots = [(k, x)]
        ∧ w.rotation = false ∧ u.fw.running = true ∧ u.plat.warn = false ∧ u.keys.erase = false ∧ w.ready ≤ u.time.tick
        ∧ u.bn.names k = false ∧ u.slotNamed k = false) ∧
    (∃ (dt : Nat) (good : Bool) (s u : State), s.advance dt = u ∧ good = u.bn.entropyOk) ∧
    (∃ (dt : Nat) (good : Bool) (s u : State), s.advance dt = u ∧ good ≠ u.bn.entropyOk) :=
  ⟨⟨0, 0, {}, _, rfl, by decide +kernel⟩,
    ⟨0, 0, { bn := { queue := [{}] }, banks := { active := { key := 1 } } }, _, {}, [], rfl, by decide +kernel⟩,
    ⟨0, 0, { bn := { queue := [{ wait := { req := { payload := 2 ^ 17 } } }] } }, _,
        { wait := { req := { payload := 2 ^ 17 } } }, [], rfl, by decide +kernel⟩,
    ⟨0, 0, false, false, {}, _, rfl, by decide +kernel⟩,
    ⟨0, 0, false, false, { bn := { lanes := [(0, { job := some { release := 1 } })] } }, _, { release := 1 }, rfl,
        by decide +kernel⟩,
    ⟨0, 0, false, true, { bn := { lanes := [(0, { job := some { release := 0 } })] } }, _, { release := 0 }, rfl,
        by decide +kernel⟩,
    ⟨0, 0, false, false, { bn := { lanes := [(0, { job := some { release := 0 } })] } }, _, { release := 0 }, rfl,
        by decide +kernel⟩,
    ⟨0, 0, {}, _, rfl, by decide +kernel⟩,
    ⟨0, 0, { bn := { lanes := [(0, { zeroDue := some 1 })] } }, _, 1, rfl, by decide +kernel⟩,
    ⟨0, 0, { bn := { lanes := [(0, { zeroDue := some 0 })] } }, _, 0, rfl, by decide +kernel⟩,
    ⟨0, {}, _, rfl, by decide +kernel⟩,
    ⟨0, { bn := { draining := true } }, _, rfl, by decide +kernel⟩,
    ⟨0, {}, _, rfl, by decide +kernel⟩,
    ⟨0, {}, _, rfl, by decide +kernel⟩,
    ⟨0, { fw := { running := true }, keys := { writes := [{ slots := [(5, { typ := 1 })] }] } }, _,
        { slots := [(5, { typ := 1 })] }, 5, { typ := 1 }, rfl, by decide +kernel⟩,
    ⟨0, true, {}, _, rfl, by decide +kernel⟩,
    ⟨0, false, {}, _, rfl, by decide +kernel⟩⟩

/-- The premises of every case of `Obligations.MemoryEvents` are met. -/
theorem witness_MemoryEvents :
    (∃ (dt master region line : Nat) (soft stuck : List (Nat × Nat)) (s u : State), s.advance dt = u
        ∧ line < regionLines region ∧ soft = [] ∧ stuck = [] ∧ (u.line (lineKey region line)).decode u.mem.erasure = .clean) ∧
    (∃ (dt master region line : Nat) (soft stuck : List (Nat × Nat)) (s u : State) (w : _) (d : _), s.advance dt = u
        ∧ line < regionLines region ∧ soft = [(w, d)] ∧ stuck = [] ∧ w < 8 ∧ d < 10 ∧ u.mem.erasure = none
        ∧ u.line (lineKey region line) = {}) ∧
    (∃ (dt : Nat) (s u : State), s.advance dt = u) ∧
    (∃ (dt device : Nat) (s u : State), s.advance dt = u ∧ device < 10 ∧ u.linesAt device < 32) ∧
    (∃ (dt device : Nat) (s u : State) (d : _), s.advance dt = u ∧ device < 10 ∧ u.mem.erasure = some d) ∧
    (∃ (dt device : Nat) (s u : State), s.advance dt = u ∧ device < 10 ∧ u.mem.erasure = none ∧ 32 ≤ u.linesAt device) ∧
    (∃ (dt master region line : Nat) (soft stuck : List (Nat × Nat)) (s u : State), s.advance dt = u
        ∧ line < regionLines region ∧ soft = [] ∧ stuck = [] ∧ (u.line (lineKey region line)).decode u.mem.erasure = .clean) ∧
    (∃ (dt master region line : Nat) (soft stuck : List (Nat × Nat)) (s u : State) (a : _) (b : _) (w : _), s.advance dt = u
        ∧ line < regionLines region ∧ soft = [(w, a), (w, b)] ∧ stuck = [] ∧ w < 8 ∧ a < 10 ∧ b < 10 ∧ a ≠ b
        ∧ u.mem.erasure = none ∧ u.line (lineKey region line) = {} ∧ master = 4 ∧ region = 3) ∧
    (∃ (dt : Nat) (s u : State), s.advance dt = u ∧ u.mem.toRetire = []) ∧
    (∃ (dt : Nat) (s u : State), s.advance dt = u ∧ u.fw.running = false) ∧
    (∃ (dt : Nat) (s u : State) (page : _) (cause : _) (rest : _), s.advance dt = u ∧ u.mem.toRetire = (page, cause) :: rest
        ∧ u.fw.running = true ∧ u.mem.spare = 0) ∧
    (∃ (dt : Nat) (s u : State) (page : _) (cause : _) (rest : _), s.advance dt = u ∧ u.mem.toRetire = (page, cause) :: rest
        ∧ u.fw.running = true ∧ 0 < u.mem.spare) ∧
    (∃ (dt : Nat) (s u : State), s.advance dt = u ∧ u.fw.running = true ∧ u.plat.warn = false) ∧
    (∃ (dt : Nat) (s u : State), s.advance dt = u ∧ u.plat.warn = true) ∧
    (∃ (dt : Nat) (soft stuck : List (Nat × Nat)) (s u : State), s.advance dt = u ∧ u.mem.patrolH = 0) ∧
    (∃ (dt : Nat) (soft stuck : List (Nat × Nat)) (s u : State), s.advance dt = u ∧ u.mem.patrolH ≠ 0
        ∧ u.mem.patrolAt + u.patrolGap ≤ u.time.tick ∧ u.mem.patrolLine + 1 < Machine.dramLines) ∧
    (∃ (dt : Nat) (soft stuck : List (Nat × Nat)) (s u : State), s.advance dt = u ∧ u.mem.patrolH ≠ 0
        ∧ u.mem.patrolAt + u.patrolGap ≤ u.time.tick ∧ Machine.dramLines ≤ u.mem.patrolLine + 1) ∧
    (∃ (dt : Nat) (soft stuck : List (Nat × Nat)) (s u : State), s.advance dt = u
        ∧ u.time.tick < u.mem.patrolAt + u.patrolGap) ∧
    (∃ (dt : Nat) (s u : State), s.advance dt = u ∧ u.mem.scrub = none) ∧
    (∃ (dt : Nat) (s u : State) (x : _), s.advance dt = u ∧ u.mem.scrub = some x) ∧
    (∃ (dt master array bank row word : Nat) (s u : State), s.advance dt = u ∧ sramWord array bank row word = true) ∧
    (∃ (dt master array bank row word a b : Nat) (s u : State), s.advance dt = u ∧ sramWord array bank row word = true
        ∧ (array ≠ 1 ∨ a < 56)) ∧
    (∃ (dt : Nat) (s u : State), s.advance dt = u ∧ u.mem.rewrites = []) ∧
    (∃ (dt : Nat) (s u : State), s.advance dt = u ∧ u.fw.running = false) ∧
    (∃ (dt : Nat) (s u : State) (x : _) (rest : _), s.advance dt = u ∧ u.mem.rewrites = x :: rest ∧ u.fw.running = true
        ∧ x.1 ≠ 5) ∧
    (∃ (dt : Nat) (s u : State) (x : _) (rest : _), s.advance dt = u ∧ u.mem.rewrites = x :: rest ∧ u.fw.running = true
        ∧ x.1 = 5) ∧
    (∃ (dt part device page corrected ageDays lostSectors badBlocks : Nat) (s u : State), s.advance dt = u ∧ part < 8
        ∧ device < 2 ∧ u.fw.running = false) ∧
    (∃ (dt part device page corrected ageDays lostSectors badBlocks : Nat) (s u : State), s.advance dt = u ∧ part < 8
        ∧ device < 2 ∧ u.fw.running = true ∧ lostSectors = 0 ∧ 2 * corrected ≤ (flashPartition part).1 ∧ ageDays ≤ 365) ∧
    (∃ (dt : Nat) (data : List Nat) (s u : State), s.advance dt = u ∧ u.mem.flipArmed = false) ∧
    (∃ (dt : Nat) (data : List Nat) (s u : State), s.advance dt = u ∧ u.mem.flipArmed = true ∧ u.mem.flipTarget ≠ 0) ∧
    (∃ (dt : Nat) (data : List Nat) (s u : State), s.advance dt = u ∧ u.mem.flipArmed = true ∧ u.mem.flipTarget = 0
        ∧ u.mem.flipRegion ≠ 3) :=
  ⟨⟨0, 0, 0, 0, [], [], {}, _, rfl, by decide +kernel⟩,
    ⟨0, 0, 0, 0, [(0, 3)], [], {}, _, 0, 3, rfl, by decide +kernel⟩,
    ⟨0, {}, _, rfl⟩,
    ⟨0, 0, {}, _, rfl, by decide +kernel⟩,
    ⟨0, 0, { mem := { erasure := some 3 } }, _, 3, rfl, by decide +kernel⟩,
    ⟨0, 0, { mem := { recent := (List.range 32).map (fun k => (0, k, 0)) } }, _, rfl, by decide +kernel⟩,
    ⟨0, 0, 0, 0, [], [], {}, _, rfl, by decide +kernel⟩,
    ⟨0, 4, 3, 0, [(0, 3), (0, 4)], [], { mem := { lines := [(lineKey 3 0, {})] } }, _, 3, 4, 0, rfl, by decide +kernel⟩,
    ⟨0, {}, _, rfl, by decide +kernel⟩,
    ⟨0, {}, _, rfl, by decide +kernel⟩,
    ⟨0, { fw := { running := true }, mem := { toRetire := [(7, 1)], spare := 0 } }, _, 7, 1, [], rfl, by decide +kernel⟩,
    ⟨0, { fw := { running := true }, mem := { toRetire := [(7, 1)] } }, _, 7, 1, [], rfl, by decide +kernel⟩,
    ⟨0, { fw := { running := true } }, _, rfl, by decide +kernel⟩,
    ⟨0, { plat := { warn := true } }, _, rfl, by decide +kernel⟩,
    ⟨0, [], [], { mem := { patrolH := 0 } }, _, rfl, by decide +kernel⟩,
    ⟨0, [], [], { time := { tick := tickS } }, _, rfl, by decide +kernel⟩,
    ⟨0, [], [], { time := { tick := tickS }, mem := { patrolLine := Machine.dramLines - 1 } }, _, rfl, by decide +kernel⟩,
    ⟨0, [], [], {}, _, rfl, by decide +kernel⟩,
    ⟨0, {}, _, rfl, by decide +kernel⟩,
    ⟨0, { mem := { scrub := some {} } }, _, {}, rfl, by decide +kernel⟩,
    ⟨0, 0, 1, 0, 0, 0, {}, _, rfl, by decide +kernel⟩,
    ⟨0, 0, 1, 0, 0, 0, 0, 0, {}, _, rfl, by decide +kernel⟩,
    ⟨0, {}, _, rfl, by decide +kernel⟩,
    ⟨0, {}, _, rfl, by decide +kernel⟩,
    ⟨0, { fw := { running := true }, mem := { rewrites := [(2, 1, 0)] } }, _, (2, 1, 0), [], rfl, by decide +kernel⟩,
    ⟨0, { fw := { running := true }, mem := { rewrites := [(5, 0, 3)] } }, _, (5, 0, 3), [], rfl, by decide +kernel⟩,
    ⟨0, 0, 0, 0, 0, 0, 0, 0, {}, _, rfl, by decide +kernel⟩,
    ⟨0, 0, 0, 0, 0, 0, 0, 0, { fw := { running := true } }, _, rfl, by decide +kernel⟩,
    ⟨0, [], {}, _, rfl, by decide +kernel⟩,
    ⟨0, [], { mem := { flip := 0x11 } }, _, rfl, by decide +kernel⟩,
    ⟨0, [], { mem := { flip := 0x10 } }, _, rfl, by decide +kernel⟩⟩

/-- The premises of every case of `Obligations.FaultEvents` are met. -/
theorem witness_FaultEvents :
    (∃ (dt source master access address : Nat) (injected : Bool) (s u : State) (x : _), s.advance dt = u ∧ injected = false
        ∧ 3 < source ∧ isCondition source = false ∧ faultSource source = some x) ∧
    (∃ (dt source master access address : Nat) (injected : Bool) (s u : State) (x : _), s.advance dt = u ∧ injected = false
        ∧ isCondition source = true ∧ 3 < source ∧ faultSource source = some x ∧ (u.src source).standing = true) ∧
    (∃ (dt source master access address : Nat) (injected : Bool) (s u : State) (x : _), s.advance dt = u ∧ injected = false
        ∧ isCondition source = true ∧ 3 < source ∧ faultSource source = some x ∧ (u.src source).standing = false
        ∧ u.conditionHolds source = true) ∧
    (∃ (dt source master access address : Nat) (injected : Bool) (s u : State) (x : _), s.advance dt = u ∧ injected = false
        ∧ isCondition source = true ∧ 3 < source ∧ faultSource source = some x ∧ u.conditionHolds source = false) ∧
    (∃ (dt index : Nat) (s u : State), s.advance dt = u ∧ index < 64 ∧ u.fw.running = false) ∧
    (∃ (dt index : Nat) (s u : State), s.advance dt = u ∧ index < 64 ∧ (u.record index).serviced = true) ∧
    (∃ (dt index : Nat) (s u : State), s.advance dt = u ∧ index < 64 ∧ u.fw.running = true ∧ (u.record index).state = .active
        ∧ (u.record index).serviced = false ∧ (u.record index).source ≠ 5 ∧ u.workLeft (u.record index) = false
        ∧ u.flt.takeRec = none ∧ u.flt.src.any (fun e => e.2.entry.elim false (·.severe)) = false) ∧
    (∃ (dt index : Nat) (s u : State), s.advance dt = u ∧ index < 64 ∧ u.workLeft (u.record index) = true) ∧
    (∃ (dt : Nat) (s u : State) (i : _) (r : _), s.advance dt = u ∧ u.flt.records = [(i, r)] ∧ r.state = .minor
        ∧ r.standing = false ∧ r.lastTick + u.srcWindow r.source * tickS ≤ u.time.tick
        ∧ u.flt.src.any (fun e => e.2.entry.elim false (·.severe)) = false) ∧
    (∃ (dt : Nat) (s u : State), s.advance dt = u ∧ u.flt.records = []
        ∧ u.flt.src.any (fun e => e.2.entry.elim false (·.severe)) = false) ∧
    (∃ (dt : Nat) (s u : State) (i : _) (r : _), s.advance dt = u ∧ u.flt.records = [(i, r)] ∧ r.state = .quiet
        ∧ r.quietDue ≤ u.time.tick ∧ u.flt.src.any (fun e => e.2.entry.elim false (·.severe)) = false) ∧
    (∃ (dt : Nat) (s u : State), s.advance dt = u ∧ u.flt.records = []
        ∧ u.flt.src.any (fun e => e.2.entry.elim false (·.severe)) = false) ∧
    (∃ (dt source channel : Nat) (s u : State), s.advance dt = u ∧ source = 2 ∧ u.fw.running = false) ∧
    (∃ (dt source channel : Nat) (s u : State), s.advance dt = u ∧ source = 1 ∧ u.coreRuns = true) ∧
    (∃ (dt : Nat) (s u : State), s.advance dt = u ∧ u.flt.takeAt = none) ∧
    (∃ (dt : Nat) (s u : State), s.advance dt = u ∧ u.fw.running = true) ∧
    (∃ (dt : Nat) (s u : State) (x : _), s.advance dt = u ∧ u.flt.takeAt = some x ∧ u.fw.running = false ∧ u.flt.held = false
        ∧ x + 5 * tickS ≤ u.time.tick) ∧
    (∃ (dt : Nat) (same : Bool) (s u : State), s.advance dt = u ∧ u.fw.running = false) ∧
    (∃ (dt : Nat) (same : Bool) (s u : State), s.advance dt = u ∧ u.flt.checkDue = false) ∧
    (∃ (dt : Nat) (same : Bool) (s u : State), s.advance dt = u ∧ u.fw.running = true ∧ u.flt.checkDue = true) ∧
    (∃ (dt bytes : Nat) (truncated : Bool) (s u : State), s.advance dt = u ∧ u.fw.running = false) ∧
    (∃ (dt bytes : Nat) (truncated : Bool) (s u : State), s.advance dt = u ∧ u.mid.copyDue = false) ∧
    (∃ (dt bytes : Nat) (truncated : Bool) (s u : State) (x : _), s.advance dt = u ∧ u.fw.running = true
        ∧ u.mid.copyDue = true ∧ u.plat.warn = false ∧ Tbl.get? u.mid.loc 0 = some x ∧ 0 < u.mid.target) ∧
    (∃ (dt : Nat) (s u : State), s.advance dt = u ∧ u.mid.erase = []) ∧
    (∃ (dt : Nat) (s u : State) (k : _) (rest : _), s.advance dt = u ∧ u.mid.erase = k :: rest ∧ u.plat.warn = false) ∧
    (∃ (dt : Nat) (s u : State) (k : _) (rest : _), s.advance dt = u ∧ u.mid.erase = k :: rest ∧ u.plat.warn = true) ∧
    (∃ (dt : Nat) (hasSource : Bool) (cmd : Nat) (s u : State), s.advance dt = u ∧ u.fw.running = false) ∧
    (∃ (dt : Nat) (hasSource : Bool) (cmd : Nat) (s u : State), s.advance dt = u ∧ u.fw.running = true) :=
  ⟨⟨0, 4, 0, 0, 0, false, {}, _, (false, false, 16, 3600), rfl, by decide +kernel⟩,
    ⟨0, 0x33, 0, 0, 0, false, { flt := { src := [(0x33, { standing := true })] } }, _, (true, false, 1, 3600), rfl,
        by decide +kernel⟩,
    ⟨0, 0x33, 0, 0, 0, false, { bn := { entropyOk := false } }, _, (true, false, 1, 3600), rfl, by decide +kernel⟩,
    ⟨0, 0x33, 0, 0, 0, false, {}, _, (true, false, 1, 3600), rfl, by decide +kernel⟩,
    ⟨0, 0, {}, _, rfl, by decide +kernel⟩,
    ⟨0, 0, { flt := { records := [(0, { serviced := true })] } }, _, rfl, by decide +kernel⟩,
    ⟨0, 0, { fw := { running := true }, flt := { records := [(0, { state := .active })] } }, _, rfl, by decide +kernel⟩,
    ⟨0, 0, { flt := { records := [(0, { source := 0x15 })] }, mem := { rewrites := [(0, 0, 0)] } }, _, rfl, by decide +kernel⟩,
    ⟨0, { flt := { records := [(2, { state := .minor })] }, time := { tick := 86400 * tickS } }, _, 2, { state := .minor },
        rfl, by decide +kernel⟩,
    ⟨0, {}, _, rfl, by decide +kernel⟩,
    ⟨0, { flt := { records := [(2, { state := .quiet })] } }, _, 2, { state := .quiet }, rfl, by decide +kernel⟩,
    ⟨0, {}, _, rfl, by decide +kernel⟩,
    ⟨0, 2, 0, {}, _, rfl, by decide +kernel⟩,
    ⟨0, 1, 0, { plat := { step := 4 } }, _, rfl, by decide +kernel⟩,
    ⟨0, {}, _, rfl, by decide +kernel⟩,
    ⟨0, { fw := { running := true } }, _, rfl, by decide +kernel⟩,
    ⟨0, { flt := { takeAt := some 0 }, time := { tick := 5 * tickS } }, _, 0, rfl, by decide +kernel⟩,
    ⟨0, false, {}, _, rfl, by decide +kernel⟩,
    ⟨0, false, {}, _, rfl, by decide +kernel⟩,
    ⟨0, false, { fw := { running := true }, flt := { checkDue := true } }, _, rfl, by decide +kernel⟩,
    ⟨0, 0, false, {}, _, rfl, by decide +kernel⟩,
    ⟨0, 0, false, {}, _, rfl, by decide +kernel⟩,
    ⟨0, 0, false, { fw := { running := true }, mid := { copyDue := true, loc := [(0, {})] } }, _, {}, rfl, by decide +kernel⟩,
    ⟨0, {}, _, rfl, by decide +kernel⟩,
    ⟨0, { mid := { erase := [1] } }, _, 1, [], rfl, by decide +kernel⟩,
    ⟨0, { plat := { warn := true }, mid := { erase := [1] } }, _, 1, [], rfl, by decide +kernel⟩,
    ⟨0, false, 0, {}, _, rfl, by decide +kernel⟩,
    ⟨0, false, 0, { fw := { running := true } }, _, rfl, by decide +kernel⟩⟩

/-- The premises of `Obligations.FrameOfCommandsA` are met. -/
theorem witness_FrameOfCommandsA :
    ∃ s t, (∃ q, exec (.sysInfo q) s = .next t) :=
  ⟨{}, _, {}, rfl⟩

/-- The premises of `Obligations.FrameOfCommandsB` are met. -/
theorem witness_FrameOfCommandsB :
    ∃ s t, (∃ q, exec (.gnssConfigSet q) s = .next t) :=
  ⟨{}, _, {}, rfl⟩

/-- The premises of `Obligations.FrameOfEventsA` are met. -/
theorem witness_FrameOfEventsA :
    ∃ s t, (∃ dt, exec (.timeSnapCapture dt) s = .next t) :=
  ⟨{}, _, 0, rfl⟩

/-- The premises of `Obligations.FrameOfEventsB` are met. -/
theorem witness_FrameOfEventsB :
    ∃ s t, (∃ dt ch n k, exec (.tdcEdge dt ch n k) s = .next t) :=
  ⟨{}, _, 0, 0, 0, 0, rfl⟩

/-- The premises of `Obligations.FrameOfEventsC` are met. -/
theorem witness_FrameOfEventsC :
    ∃ s t, (∃ dt f, exec (.prepare dt f) s = .next t) :=
  ⟨{}, _, 0, {}, rfl⟩
end

section
/-!
SUPPORT. The command path up to the choice that R390 and R396 make: every request of the interface is `runCommand` of its
command; a rung request is served on the rung state; firmware executes a fresh one and shows the old response for a repeat.
-/
namespace Sys2Proof.Machine

/-! ### Taking a request -/

/-- Every request of the interface runs its command on the command path. -/
theorem exec_of_request {c : Instr} {cmd : Command} {q : Req} (h : request c = some (cmd, q)) (s : State) :
    exec c s = runCommand cmd q s := by
  cases c <;> cases h <;> rfl

@[simp] theorem State.mailbox_rung (s : State) (opcode : Nat) (q : Req) (k j : Nat) :
    (s.rung opcode q k).mailbox j = if j = k then { s.mailbox k with state := .busy, area := areaWith opcode q (s.mailbox k).area }
      else s.mailbox j := by
  by_cases h : j = k <;> simp [State.rung, h]

theorem State.repeats_rung (s : State) (opcode : Nat) (q : Req) (k : Nat) :
    ((s.rung opcode q k).mailbox k).repeats q = (s.mailbox k).repeats q := by
  simp [Mailbox.repeats]

/-- A request of a mailbox that is `FREE` or `DONE` is served on the rung state (R388). -/
theorem runCommand_rung {c : Command} {q : Req} {k : Nat} {s : State} (hsrc : q.src = .host k) (hk : k < 8)
    (hm : (s.mailbox k).state = .free ∨ (s.mailbox k).state = .done) :
    runCommand c q s = .next (c.serve q (s.rung c.opcode q k)) := by
  have hst : ((s.updMailbox k fun m => { m with area := areaWith c.opcode q m.area }).mailbox k).state = (s.mailbox k).state := by
    simp
  rcases hm with hm | hm <;>
  · simp only [runCommand, hsrc, if_pos hk, hm, State.doorbell, hst]
    rfl

/-- Running firmware shows the response of a repeated request again (R396). -/
theorem Command.serve_of_repeats {c : Command} {q : Req} {k : Nat} {s : State} (hsrc : q.src = .host k)
    (hfw : s.fw.running = true) (hr : (s.mailbox k).repeats q = true) : c.serve q s = s.reshow k q.quiet := by
  simp [Command.serve, State.serveWith, State.taken, hfw, hsrc, hr]

/-- Running firmware executes a request that repeats none. -/
theorem Command.serve_of_not_repeats {c : Command} {q : Req} {k : Nat} {s : State} (hsrc : q.src = .host k)
    (hfw : s.fw.running = true) (hr : (s.mailbox k).repeats q = false) : c.serve q s = c.execute q s := by
  simp [Command.serve, State.serveWith, State.taken, hfw, hsrc, hr]

theorem runCommand_of_repeats {c : Command} {q : Req} {k : Nat} {s : State} (hsrc : q.src = .host k) (hk : k < 8)
    (hm : (s.mailbox k).state = .done) (hr : (s.mailbox k).repeats q = true) (hfw : s.fw.running = true) :
    runCommand c q s = .next ((s.rung c.opcode q k).reshow k q.quiet) := by
  have hr' := (State.repeats_rung s c.opcode q k).trans hr
  rw [runCommand_rung hsrc hk (.inr hm), Command.serve_of_repeats hsrc (by simpa using hfw) hr']

/-! ### Refusals -/

/-- A request that a check of R390 or R393 refuses is answered with that check's status, and nothing else changes. -/
theorem runCommand_refused {c : Command} {q : Req} {k status : Nat} {s : State} (hsrc : q.src = .host k) (hk : k < 8)
    (hm : (s.mailbox k).state = .free ∨ (s.mailbox k).state = .done) (hr : (s.mailbox k).repeats q = false)
    (hfw : s.fw.running = true) (href : c.refusal q (s.rung c.opcode q k) = some status) :
    runCommand c q s = .next (s.answered c.opcode q k status []) := by
  have hr' := (State.repeats_rung s c.opcode q k).trans hr
  rw [runCommand_rung hsrc hk hm, Command.serve_of_not_repeats hsrc (by simpa using hfw) hr']
  simp [Command.execute, href, State.respond_host hsrc, State.answered]

/-- A command that addresses no object is held up by none (R393). -/
@[simp] theorem State.held_nil (s : State) : s.held [] = false := by
  have helim (o : Option Obj) : o.elim false (fun _ => false) = false := by cases o <;> rfl
  simp [State.held, helim]

/-- Of a mailbox's request with the right length, for a command outside the service range that addresses no object, only the
reserved bits and the fields' ranges are left to check (R390 step 4). -/
theorem Command.refusal_of_host {c : Command} {q : Req} {k : Nat} (s : State) (hsrc : q.src = .host k)
    (hop : isService c.opcode = false) (hobj : c.objs q = []) (hlen : (c.layout q).lengthOk q = true) :
    c.refusal q s = if (c.layout q).reservedOk q && c.range q s then none else some stBadParam := by
  cases h : (c.layout q).reservedOk q && c.range q s <;>
    simp [Command.refusal, hsrc, hop, hobj, hlen, h]

/-! ### A response shown again -/

theorem State.raiseInt_frame (s : State) (k : Nat) :
    s.raiseInt k = { s with intr := (s.raiseInt k).intr, trace := (s.raiseInt k).trace } := by
  have hevt : (s.raiseInt k).evt = s.evt := (congrArg State.evt (show s.raiseInt k = _ from (Answers.refl s).raiseInt k) :)
  calc s.raiseInt k
      = { s with intr := (s.raiseInt k).intr, evt := (s.raiseInt k).evt, trace := (s.raiseInt k).trace } := reports_raiseInt k s
    _ = _ := by rw [hevt]

/-- A mailbox as `State.reshow` leaves it: `DONE`, its response over its area again (log entry 145). -/
def Mailbox.reshown (m : Mailbox) : Mailbox :=
  { m with state := .done, area := m.resp.elim m.area (fun r => r.overArea m.area) }

theorem State.reshow_eq (s : State) (k : Nat) (quiet : Bool) :
    s.reshow k quiet = if quiet then s.updMailbox k Mailbox.reshown else (s.updMailbox k Mailbox.reshown).raiseInt 0 := rfl

/-- Showing a response again leaves everything but the mailbox, the interrupts and the trace alone. -/
theorem State.reshow_frame (s : State) (k : Nat) (quiet : Bool) :
    s.reshow k quiet = { s.updMailbox k Mailbox.reshown with
      intr := (s.reshow k quiet).intr, trace := (s.reshow k quiet).trace } := by
  rw [State.reshow_eq]
  cases quiet
  · exact State.raiseInt_frame _ 0
  · rfl

@[simp] theorem State.mailbox_reshow (s : State) (k j : Nat) (quiet : Bool) :
    (s.reshow k quiet).mailbox j = if j = k then (s.mailbox k).reshown else s.mailbox j := by
  rw [State.reshow_frame]
  exact State.mailbox_updMailbox s k j _

/-- What a repeat leaves alone: of the command path everything but the mailboxes, and all else but the interrupts and the
trace. -/
theorem State.reshow_rung_frame {s t : State} {opcode k : Nat} {q : Req} {quiet : Bool}
    (h : (s.rung opcode q k).reshow k quiet = t) :
    t = { s with tci := { s.tci with mbx := t.tci.mbx }, intr := t.intr, trace := t.trace } := by
  have ht := State.reshow_frame (s.rung opcode q k) k quiet
  rw [h] at ht
  rw [ht]
  rfl

/-- Settles O12: the repeat is served by `State.reshow` on the rung state, whose mailboxes and frame are known. -/
theorem repeatedRequestKeepsResponse : Obligations.RepeatedRequestKeepsResponse := by
  intro c cmd q k s r hreq hsrc hk hdone hresp hseq hfw
  have hrep : (s.mailbox k).repeats q = true := by simp [Mailbox.repeats, hresp, hseq]
  refine ⟨_, (exec_of_request hreq s).trans (runCommand_of_repeats hsrc hk hdone hrep hfw), ?_, ?_, ?_, ?_, ?_, ?_⟩
  · simp [Mailbox.reshown]
  · simp [Mailbox.reshown, hresp]
  · simp [Mailbox.reshown]
  · simp [Mailbox.reshown, hresp]
  · intro j hj
    simp [hj]
  · exact State.reshow_rung_frame rfl

/-! ### The pace threshold (R416) -/

/-- Masking with the low `n` bits keeps a number exactly if it has no others. -/
theorem and_two_pow_sub_one_eq_self_iff (x n : Nat) : x &&& (2 ^ n - 1) = x ↔ x < 2 ^ n := by
  rw [Nat.and_two_pow_sub_one_eq_mod, Nat.mod_eq_iff_lt (by positivity)]

/-- The reserved bits of a `SYS_PACE_SET` request are bits 31 to 8. -/
theorem cmdSysPaceSet_reservedOk_iff {q : Req} (hlen : q.len = 4) (hrsv : q.rsv = 0) :
    (cmdSysPaceSet.layout q).reservedOk q = true ↔ q.f 8 24 = 0 := by
  have hmask : (cmdSysPaceSet.layout q).mask = 2 ^ 8 - 1 := rfl
  have hbody : q.body = q.payload % 2 ^ 32 := by rw [Req.body, hlen]
  have hf : q.f 8 24 = q.payload / 2 ^ 8 % 2 ^ 24 := by rw [Req.f, bits, Nat.shiftRight_eq_div_pow]
  rw [Layout.reservedOk, hrsv, hmask, hbody, hf]
  simp only [BEq.rfl, Bool.true_and, beq_iff_eq, and_two_pow_sub_one_eq_self_iff]
  omega

theorem cmdSysPaceSet_refusal {q : Req} {k : Nat} (s : State) (hsrc : q.src = .host k) (hlen : q.len = 4) (hrsv : q.rsv = 0) :
    cmdSysPaceSet.refusal q s = if 5 ≤ q.f 0 8 ∧ q.f 0 8 ≤ 30 ∧ q.f 8 24 = 0 then none else some stBadParam := by
  have hlenOk : (cmdSysPaceSet.layout q).lengthOk q = true := by simp [Layout.lengthOk, Layout.bytes, cmdSysPaceSet, hlen]
  have hrange : cmdSysPaceSet.range q s = true ↔ 5 ≤ q.f 0 8 ∧ q.f 0 8 ≤ 30 := by simp [cmdSysPaceSet, within]
  rw [Command.refusal_of_host s hsrc rfl rfl hlenOk]
  refine if_congr ?_ rfl rfl
  rw [Bool.and_eq_true, cmdSysPaceSet_reservedOk_iff hlen hrsv, hrange, and_comm, and_assoc]

theorem cmdSysPaceGet_refusal {q : Req} {k : Nat} (s : State) (hsrc : q.src = .host k) (hlen : q.len = 0) (hrsv : q.rsv = 0) :
    cmdSysPaceGet.refusal q s = none := by
  have hlenOk : (cmdSysPaceGet.layout q).lengthOk q = true := by simp [Layout.lengthOk, Layout.bytes, cmdSysPaceGet, emptyLayout, hlen]
  have hbody : q.body = 0 := by simp [Req.body, hlen, Nat.mod_one]
  rw [Command.refusal_of_host s hsrc rfl rfl hlenOk]
  simp [Layout.reservedOk, hrsv, hbody, cmdSysPaceGet]

/-- Settles O16: `SYS_PACE_SET` splits on its range and reserved bits, `SYS_PACE_GET` meets no refusal; what passes the checks
acts on the rung state and answers. -/
theorem paceThresholdSet : Obligations.PaceThresholdSet := by
  refine ⟨rfl, ?_, ?_⟩
  · intro q k s hsrc hk hm hr hfw hlen hrsv
    refine (exec_of_request (cmd := cmdSysPaceSet) rfl s).trans ?_
    have href := cmdSysPaceSet_refusal (s.rung cmdSysPaceSet.opcode q k) hsrc hlen hrsv
    split_ifs at href ⊢
    · exact runCommand_done ((Command.passes_iff _ q k s).2 ⟨hsrc, hk, hm, hr, hfw, href⟩) rfl
    · exact runCommand_refused hsrc hk hm hr hfw href
  · intro q k s hsrc hk hm hr hfw hlen hrsv
    have href := cmdSysPaceGet_refusal (s.rung cmdSysPaceGet.opcode q k) hsrc hlen hrsv
    exact (exec_of_request (cmd := cmdSysPaceGet) rfl s).trans
      (runCommand_done ((Command.passes_iff _ q k s).2 ⟨hsrc, hk, hm, hr, hfw, href⟩) rfl)

end Sys2Proof.Machine
end

section
/-!
SUPPORT. Message fields and the request of a mailbox area: a packed field reads back, and an area written over by a request is
its header, its body and what lay beyond them (12_command_interface.md R387).
-/
namespace Sys2Proof
set_option Elab.async false -- one declaration after the other: fewer threads at once

/-- A number over a low part below `2 ^ n` is what stands above its first `n` bits. -/
theorem add_shiftLeft_shiftRight {a n : Nat} (b : Nat) (ha : a < 2 ^ n) : (a + b <<< n) >>> n = b := by
  rw [Nat.shiftLeft_eq, Nat.shiftRight_eq_div_pow, Nat.add_mul_div_right _ _ (by positivity), Nat.div_eq_of_lt ha, zero_add]

theorem add_shiftLeft_mod {a n : Nat} (b : Nat) (ha : a < 2 ^ n) : (a + b <<< n) % 2 ^ n = a := by
  rw [Nat.shiftLeft_eq, Nat.add_mul_mod_self_right, Nat.mod_eq_of_lt ha]

/-- A field of the low part of a number does not see the high part. -/
theorem bits_add_shiftLeft (a b : Nat) {n lo w : Nat} (h : lo + w ≤ n) : bits (a + b <<< n) lo w = bits a lo w := by
  obtain ⟨c, rfl⟩ := Nat.exists_eq_add_of_le h
  have e : a + b * 2 ^ (lo + w + c) = a + 2 ^ lo * (2 ^ w * (2 ^ c * b)) := by ring
  rw [bits, bits, Nat.shiftLeft_eq, Nat.shiftRight_eq_div_pow, Nat.shiftRight_eq_div_pow, e,
    Nat.add_mul_div_left _ _ (by positivity), Nat.add_mul_mod_self_left]

/-- Neighbouring fields of a number are one field. -/
theorem bits_add_bits_shiftLeft (x lo w v : Nat) : bits x lo w + (bits x (lo + w) v) <<< w = bits x lo (w + v) := by
  simp only [bits, Nat.shiftLeft_eq, Nat.shiftRight_eq_div_pow, pow_add, ← Nat.div_div_eq_div_mul, Nat.mod_mul]
  ring

theorem Fields.pack_lt (f : Fields) : Fields.pack f < 2 ^ Fields.size f := by
  induction f with
  | nil => exact Nat.one_pos
  | cons e rest ih =>
    obtain ⟨w, v⟩ := e
    have hv : v % 2 ^ w < 2 ^ w := Nat.mod_lt _ (by positivity)
    calc Fields.pack ((w, v) :: rest) = v % 2 ^ w + 2 ^ w * Fields.pack rest := by rw [Fields.pack, Nat.shiftLeft_eq, mul_comm]
      _ < 2 ^ w + 2 ^ w * Fields.pack rest := by omega
      _ = 2 ^ w * (Fields.pack rest + 1) := by ring
      _ ≤ 2 ^ w * 2 ^ Fields.size rest := Nat.mul_le_mul_left _ ih
      _ = 2 ^ Fields.size ((w, v) :: rest) := (pow_add 2 w _).symm

theorem Fields.pack_append (a b : Fields) : Fields.pack (a ++ b) = Fields.pack a + Fields.pack b <<< Fields.size a := by
  induction a with
  | nil => simp [Fields.pack, Fields.size]
  | cons e rest ih =>
    obtain ⟨w, v⟩ := e
    simp only [List.cons_append, Fields.pack, Fields.size, ih, Nat.shiftLeft_eq, pow_add]
    ring

/-- A packed field reads back at its place, cut to its width. -/
theorem Fields.bits_pack (a b : Fields) (w v : Nat) : bits (Fields.pack (a ++ (w, v) :: b)) (Fields.size a) w = v % 2 ^ w := by
  rw [Fields.pack_append, bits, add_shiftLeft_shiftRight _ (Fields.pack_lt a), Fields.pack, Nat.shiftLeft_eq, mul_comm,
    Nat.add_mul_mod_self_left, Nat.mod_mod]

/-! ### The request of a mailbox area -/

namespace Machine

/-- The header of a request as its area holds it, 128 bits (R387). -/
def requestHeader (op : Nat) (q : Req) : Fields :=
  [(16, op), fb q.quiet, (13, q.rsv), rz 2, (16, q.seq), (16, q.len), (16, q.rsv >>> 13), (48, q.rsv >>> 29)]

theorem requestHeader_lt (op : Nat) (q : Req) : Fields.pack (requestHeader op q) < 2 ^ 128 := by
  have hsize : Fields.size (requestHeader op q) = 128 := rfl
  have h := Fields.pack_lt (requestHeader op q)
  rwa [hsize] at h

theorem body_lt (q : Req) : q.body < 2 ^ (8 * q.len) := Nat.mod_lt _ (by positivity)

/-- An area written over by a request: the header, then the body and what the area held beyond it. -/
theorem areaWith_eq (op area : Nat) (q : Req) : areaWith op q area =
    Fields.pack (requestHeader op q) + (q.body + (area >>> (128 + 8 * q.len)) <<< (8 * q.len)) <<< 128 := by
  change Fields.pack (requestHeader op q) + q.body <<< 128 + _ = _
  rw [Nat.add_comm 128 (8 * q.len), Nat.shiftLeft_add _ (8 * q.len), Nat.add_assoc]
  simp only [Nat.shiftLeft_eq, add_mul]

/-- The header bits that must be 0 read back: 13 of them below the sequence, 64 above the length. -/
theorem requestHeader_rsv {op : Nat} {q : Req} (h : q.rsv < 2 ^ 77) :
    bits (Fields.pack (requestHeader op q)) 17 13 + (bits (Fields.pack (requestHeader op q)) 64 64) <<< 13 = q.rsv := by
  have h1 : bits (Fields.pack (requestHeader op q)) 17 13 = bits q.rsv 0 13 :=
    Fields.bits_pack [(16, op), fb q.quiet] [rz 2, (16, q.seq), (16, q.len), (16, q.rsv >>> 13), (48, q.rsv >>> 29)] 13 q.rsv
  have h2 : bits (Fields.pack (requestHeader op q)) 64 16 = bits q.rsv 13 16 :=
    Fields.bits_pack [(16, op), fb q.quiet, (13, q.rsv), rz 2, (16, q.seq), (16, q.len)] [(48, q.rsv >>> 29)] 16 _
  have h3 : bits (Fields.pack (requestHeader op q)) 80 48 = bits q.rsv 29 48 :=
    Fields.bits_pack [(16, op), fb q.quiet, (13, q.rsv), rz 2, (16, q.seq), (16, q.len), (16, q.rsv >>> 13)] [] 48 _
  calc bits (Fields.pack (requestHeader op q)) 17 13 + (bits (Fields.pack (requestHeader op q)) 64 (16 + 48)) <<< 13
      = bits q.rsv 0 13 + (bits q.rsv 13 16 + (bits q.rsv (13 + 16) 48) <<< 16) <<< 13 := by
        rw [← bits_add_bits_shiftLeft, h1, h2, h3]
    _ = bits q.rsv 0 77 := by rw [bits_add_bits_shiftLeft, ← bits_add_bits_shiftLeft q.rsv 0 13 64]
    _ = q.rsv := Nat.mod_eq_of_lt h

/-- Settles O7: each field is a packed field of the header or the part of the area above it. -/
theorem requestRoundTrip : Obligations.RequestRoundTrip := by
  intro k op area q hop hsrc hseq hlen hrsv hpay
  have hfield (lo w : Nat) (h : lo + w ≤ 128) : bits (areaWith op q area) lo w = bits (Fields.pack (requestHeader op q)) lo w := by
    rw [areaWith_eq, bits_add_shiftLeft _ _ h]
  have hopcode : bits (areaWith op q area) 0 16 = op :=
    ((hfield 0 16 (by decide)).trans (Fields.bits_pack [] _ 16 op)).trans (Nat.mod_eq_of_lt hop)
  have hquiet : bit (areaWith op q area) 16 = q.quiet := by
    have h := (hfield 16 1 (by decide)).trans (Fields.bits_pack [(16, op)] _ 1 q.quiet.toNat)
    rw [bit, h]
    cases q.quiet <;> rfl
  have hsequence : bits (areaWith op q area) 32 16 = q.seq :=
    ((hfield 32 16 (by decide)).trans (Fields.bits_pack [(16, op), fb q.quiet, (13, q.rsv), rz 2] _ 16 q.seq)).trans
      (Nat.mod_eq_of_lt hseq)
  have hlength : bits (areaWith op q area) 48 16 = q.len :=
    ((hfield 48 16 (by decide)).trans (Fields.bits_pack [(16, op), fb q.quiet, (13, q.rsv), rz 2, (16, q.seq)] _ 16 q.len)).trans
      (Nat.mod_eq_of_lt hlen)
  have hreserved : bits (areaWith op q area) 17 13 + (bits (areaWith op q area) 64 64) <<< 13 = q.rsv := by
    rw [hfield 17 13 (by decide), hfield 64 64 (by decide), requestHeader_rsv hrsv]
  have hpayload : (areaWith op q area) >>> 128 % 2 ^ (8 * q.len) = q.payload := by
    rw [areaWith_eq, add_shiftLeft_shiftRight _ (requestHeader_lt op q), add_shiftLeft_mod _ (body_lt q), Req.body,
      Nat.mod_eq_of_lt hpay]
  refine ⟨hopcode, ?_⟩
  simp only [reqOf, Req.body, hquiet, hsequence, hlength, hreserved, hpayload]
  rw [← hsrc]

end Machine
end Sys2Proof
end

section
/-!
SUPPORT. Statements about one step, reset, units the part lacks and the command path (12_command_interface.md R384 to R395).
-/
namespace Sys2Proof.Machine
set_option Elab.async false -- one declaration after the other: fewer threads at once

/-- Settles O1: the front command is taken off the queue. -/
theorem stepRunsFrontCommand : Obligations.StepRunsFrontCommand := fun _ _ => rfl

/-- Settles O2: an empty queue lets one tick pass. -/
theorem emptyQueueTicks : Obligations.EmptyQueueTicks := by
  intro s h
  refine ⟨by rw [step, h], ?_⟩
  simp only [State.advance, TimeS.advance]
  split_ifs <;> rfl

/-- Settles O3: every register is read from the reset state. -/
theorem resetRegisters : Obligations.ResetRegisters := by
  unfold Obligations.ResetRegisters
  decide

/-- Settles O4: no byte is listed, and the reset mask holds the twelve defined bits. -/
theorem resetIsCanonical : Obligations.ResetIsCanonical := ⟨rfl, by decide⟩

/-! ### Units the part lacks -/

theorem runCommand_mailbox_unknown {q : Req} {k : Nat} (hsrc : q.src = .host k) (hk : 8 ≤ k) (c : Command) (s : State) :
    runCommand c q s = .fault .noSuchUnit := by
  simp [runCommand, hsrc, Nat.not_lt.2 hk]

theorem runCommand_port_unknown {q : Req} {p origin txn : Nat} (hsrc : q.src = .inband p origin txn) (hp : 56 ≤ p) (c : Command)
    (s : State) : runCommand c q s = .fault .noSuchUnit := by
  simp [runCommand, hsrc, Nat.not_lt.2 hp]

/-- Settles O9: each command tests its unit before it acts. -/
theorem unknownUnitsFault : Obligations.UnknownUnitsFault := by
  refine ⟨?_, ?_,
    fun _ _ _ _ h => if_pos h,
    fun _ _ _ _ h => if_pos h,
    fun _ _ _ _ h => if_pos h,
    fun _ _ _ _ _ _ h => if_neg (Nat.not_lt.2 h),
    fun _ _ _ h => if_neg (Nat.not_lt.2 h),
    fun _ _ _ _ _ _ _ _ h => if_neg (Nat.not_lt.2 h),
    fun _ _ _ h => if_neg (Nat.not_lt.2 h),
    fun _ _ _ h => if_neg (Nat.not_lt.2 h),
    fun _ _ _ _ h => if_neg (Nat.not_lt.2 h),
    fun _ _ _ h => if_neg (Nat.not_lt.2 h),
    fun _ _ _ _ h => if_neg (Nat.not_lt.2 h),
    fun _ _ _ h => if_neg (Nat.not_lt.2 h),
    fun _ _ _ _ h => if_neg (Nat.not_lt.2 h),
    fun _ _ _ h => if_neg (Nat.not_lt.2 h),
    fun _ _ _ h => if_neg (Nat.not_lt.2 h),
    fun _ _ _ h => if_neg (Nat.not_lt.2 h),
    fun _ _ _ h => if_neg (Nat.not_lt.2 h),
    fun _ _ _ h => if_neg (Nat.not_lt.2 h),
    fun _ _ _ h => if_neg (Nat.not_lt.2 h),
    fun _ _ _ _ _ _ _ _ _ _ h => if_neg (Nat.not_lt.2 h),
    fun _ _ _ _ h => if_neg (Nat.not_lt.2 h),
    fun _ _ _ _ h => if_neg (Nat.not_lt.2 h),
    fun _ _ _ h => if_neg (Nat.not_lt.2 h),
    fun _ _ _ h => if_neg (Nat.not_lt.2 h),
    fun _ _ _ _ _ h => if_pos h,
    fun _ _ _ h => if_pos h,
    fun _ _ _ _ h => if_pos h,
    fun _ _ _ h => if_pos h,
    fun _ _ _ _ _ h => if_pos h,
    fun _ _ _ _ h => if_pos h,
    fun _ _ _ h => if_pos h,
    fun _ _ _ h => if_pos h,
    fun _ _ _ h => if_pos h,
    fun _ _ _ h => if_pos h,
    fun _ _ _ h => if_pos h,
    fun _ _ _ h => if_pos h,
    fun _ _ _ h => if_pos h,
    fun _ _ _ h => if_pos h,
    fun _ _ _ h => if_pos h,
    fun _ _ _ h => if_pos h,
    fun _ _ _ _ h => if_pos h,
    fun _ _ _ h => if_neg (Nat.not_lt.2 h),
    fun _ _ _ h => if_neg (Nat.not_lt.2 h),
    fun _ _ _ _ _ _ _ _ h => if_neg (Nat.not_lt.2 h),
    fun _ _ _ h => if_neg (Nat.not_lt.2 h),
    fun _ _ _ _ h => if_neg (Nat.not_lt.2 h),
    fun _ _ _ h => if_neg (Nat.not_lt.2 h),
    fun _ _ _ _ h => if_neg (Nat.not_lt.2 h),
    fun _ _ _ h => if_neg (Nat.not_lt.2 h),
    fun _ _ _ h => if_neg (Nat.not_lt.2 h),
    fun _ _ _ h => if_neg (Nat.not_lt.2 h),
    fun _ _ _ h => if_neg (Nat.not_lt.2 h),
    fun _ _ _ h => if_neg (Nat.not_lt.2 h),
    fun _ _ _ h => if_neg (Nat.not_lt.2 h),
    fun _ _ _ h => if_neg (Nat.not_lt.2 h),
    fun _ _ _ h => if_neg (Nat.not_lt.2 h),
    fun _ _ _ h => if_neg (Nat.not_lt.2 h),
    fun _ _ _ h => if_neg (Nat.not_lt.2 h),
    fun _ _ _ h => if_neg (Nat.not_lt.2 h),
    fun _ _ _ h => if_neg (Nat.not_lt.2 h),
    fun _ _ _ h => if_neg (Nat.not_lt.2 h),
    fun _ _ _ h => if_neg (Nat.not_lt.2 h),
    fun _ _ _ h => if_neg (Nat.not_lt.2 h),
    fun _ _ _ h => if_neg (Nat.not_lt.2 h),
    fun _ _ _ _ h => if_neg (Nat.not_lt.2 h),
    fun _ _ _ h => if_neg (Nat.not_lt.2 h),
    fun _ _ _ _ h => if_neg (Nat.not_lt.2 h),
    fun _ _ _ h => if_neg (Nat.not_lt.2 h),
    fun _ _ _ _ _ _ _ h => if_neg (Nat.not_lt.2 h),
    fun _ _ _ _ _ h => if_pos h,
    fun _ _ _ h => if_pos h,
    fun _ _ _ _ _ _ _ h => if_neg (Nat.not_lt.2 h),
    fun _ _ _ h => if_neg (Nat.not_lt.2 h),
    fun _ _ _ _ _ _ _ h => if_neg (Nat.not_lt.2 h),
    fun _ _ _ _ _ _ _ h => if_neg (by simp [h]),
    fun _ _ _ _ _ _ _ _ _ h => if_neg (by rcases h with h | ⟨rfl, h⟩ <;> simp [h]),
    fun _ _ _ _ _ _ _ _ _ h => if_pos h,
    fun _ _ _ _ _ _ _ h => if_pos (by simp [h]),
    fun _ _ _ h => if_pos h,
    fun _ _ _ _ h => if_neg (by simp only [within, Bool.and_eq_true, decide_eq_true_eq]; omega),
    fun _ _ _ h => if_pos h⟩
  · intro c cmd q k s hreq hsrc hk
    rw [exec_of_request hreq, runCommand_mailbox_unknown hsrc hk]
  · intro c cmd q p origin txn s hreq hsrc hp
    rw [exec_of_request hreq, runCommand_port_unknown hsrc hp]

/-! ### Ringing a mailbox -/

/-- The doorbell of a mailbox that is `BUSY` or `PENDING` sets its error bit (R384). -/
theorem State.doorbell_of_busy {s : State} {k : Nat} (h : (s.mailbox k).state = .busy ∨ (s.mailbox k).state = .pending)
    (run : State → State) :
    s.doorbell k run = { s with tci := { s.tci with doorbellErr := s.tci.doorbellErr ||| 2 ^ k } } := by
  rcases h with h | h <;> simp [State.doorbell, h]

/-- Settles O10: the area ignores the write and the doorbell is an error. -/
theorem busyMailboxDoorbell : Obligations.BusyMailboxDoorbell := by
  intro c cmd q k s hreq hsrc hk hbusy
  rw [exec_of_request hreq, ← State.doorbell_of_busy hbusy (cmd.serve q)]
  rcases hbusy with h | h <;> simp [runCommand, hsrc, hk, h]

/-- Settles O11: each clause is one branch of `Command.refusal`. -/
theorem refusedRequestAnswers : Obligations.RefusedRequestAnswers := by
  refine ⟨?_, ?_, ?_, ?_⟩
  · intro c cmd q k s u hreq hsrc hk hm hr hfw hu hserv hstrap
    rw [exec_of_request hreq, runCommand_refused hsrc hk hm hr hfw]
    simp [Command.refusal, hsrc, hserv, hstrap]
  · intro c cmd q k s u hreq hsrc hk hm hr hfw hu hserv hlen
    rw [exec_of_request hreq, runCommand_refused hsrc hk hm hr hfw]
    simp [Command.refusal, hsrc, hserv, hlen]
  · intro c cmd q k s u hreq hsrc hk hm hr hfw hu hserv hlen hparam
    subst hu
    rw [exec_of_request hreq, runCommand_refused hsrc hk hm hr hfw]
    simp only [Command.refusal, hsrc, State.rung_fields, hserv, hlen, hparam]
    rfl
  · intro c cmd q k s u hreq hsrc hk hm hr hfw hu hserv hlen hparam hheld
    subst hu
    have hheld' : (s.rung cmd.opcode q k).held (cmd.objs q) = true := hheld
    rw [exec_of_request hreq, runCommand_refused hsrc hk hm hr hfw]
    simp only [Command.refusal, hsrc, State.rung_fields, hserv, hlen, hparam, hheld']
    rfl

/-- Settles O13: neither firmware nor the boot ROM takes the rung request. -/
theorem stoppedFirmwareLeavesRequest : Obligations.StoppedFirmwareLeavesRequest := by
  intro c cmd q k s u hreq hsrc hk hm hfw hrec hu
  have hboot : ¬(s.fw.recovery = true ∧ k = 0) := by
    rintro ⟨h, rfl⟩
    rcases hrec with hrec | hrec
    · simp [hrec] at h
    · exact hrec rfl
  rw [exec_of_request hreq, runCommand_rung hsrc hk hm, hu]
  simp [Command.serve, State.serveWith, hfw, hsrc, hboot]

/-! ### Interrupts (R386) -/

theorem bit_eq_testBit (x k : Nat) : bit x k = x.testBit k := by
  rw [Nat.testBit_eq_decide_div_mod_eq, bit, bits, Nat.shiftRight_eq_div_pow, pow_one, beq_eq_decide]

theorem bit_or_two_pow (x k : Nat) : bit (x ||| 2 ^ k) k = true := by
  simp [bit_eq_testBit]

/-- What signalling a vector leaves alone of the interrupt registers. -/
@[simp] theorem State.signal_intr (k : Nat) (s : State) :
    (s.signal k).intr.status = s.intr.status ∧ (s.signal k).intr.mask = s.intr.mask ∧ (s.signal k).intr.msixEn = s.intr.msixEn
    ∧ (s.signal k).intr.table = s.intr.table ∧ (s.signal k).intr.holdRx = s.intr.holdRx
    ∧ (s.signal k).intr.holdTx = s.intr.holdTx := by
  unfold State.signal State.sendVector
  split
  · exact ⟨rfl, rfl, rfl, rfl, rfl, rfl⟩
  · dsimp only
    split_ifs <;> exact ⟨rfl, rfl, rfl, rfl, rfl, rfl⟩

@[simp] theorem State.signal_entry (j k : Nat) (s : State) : (s.signal j).intr.entry k = s.intr.entry k := by
  simp [IntrS.entry]

@[simp] theorem State.signal_holdoff (j k : Nat) (s : State) : (s.signal j).intr.holdoff k = s.intr.holdoff k := by
  simp [IntrS.holdoff]

/-- An enabled vector without hold-off goes out, or pends. -/
theorem State.signal_of_ready {k : Nat} {s : State} (hen : s.intr.msixEn = true) (hoff : s.intr.holdoff k = 0) :
    s.signal k = ({ s with intr := { s.intr with signalled := s.intr.signalled ||| 2 ^ k } } : State).sendVector k := by
  rw [State.signal, if_neg (by simp [hen])]
  exact if_neg fun h => absurd h.1 (by simp [hoff])

theorem State.signal_sends {k : Nat} {s : State} (hen : s.intr.msixEn = true) (hoff : s.intr.holdoff k = 0)
    (hentry : bit (s.intr.entry k) 96 = false) :
    s.signal k = { s with
      intr := { s.intr with signalled := s.intr.signalled ||| 2 ^ k, lastVec := Tbl.put s.intr.lastVec k s.time.tick }
      trace := .vector k (bits (s.intr.entry k) 0 96) :: s.trace } :=
  (State.signal_of_ready hen hoff).trans (if_neg (Bool.not_eq_true _ ▸ hentry))

theorem State.signal_pends {k : Nat} {s : State} (hen : s.intr.msixEn = true) (hoff : s.intr.holdoff k = 0)
    (hentry : bit (s.intr.entry k) 96 = true) :
    s.signal k = { s with intr := { s.intr with signalled := s.intr.signalled ||| 2 ^ k, pba := s.intr.pba ||| 2 ^ k } } :=
  (State.signal_of_ready hen hoff).trans (if_pos hentry)

theorem State.signal_trace_mono {x : Out} (k : Nat) {s : State} (h : x ∈ s.trace) : x ∈ (s.signal k).trace := by
  unfold State.signal State.sendVector
  split
  · exact h
  · dsimp only
    split_ifs <;> simp [h]

/-- Of the vectors signalled in turn, one without hold-off and with its entry unmasked shows its message. -/
theorem vector_mem_foldl_signal {k : Nat} (l : List Nat) {s : State} (hk : k ∈ l) (hen : s.intr.msixEn = true)
    (hoff : s.intr.holdoff k = 0) (hentry : bit (s.intr.entry k) 96 = false) :
    .vector k (bits (s.intr.entry k) 0 96) ∈ (l.foldl (fun t j => t.signal j) s).trace := by
  have hmono (x : Out) (l : List Nat) (t : State) (h : x ∈ t.trace) : x ∈ (l.foldl (fun t j => t.signal j) t).trace := by
    induction l generalizing t with
    | nil => exact h
    | cons j l ih => exact ih _ (State.signal_trace_mono j h)
  induction l generalizing s with
  | nil => cases hk
  | cons j l ih =>
    rcases List.mem_cons.1 hk with rfl | hk
    · have hsent : .vector k (bits (s.intr.entry k) 0 96) ∈ (s.signal k).trace := by
        rw [State.signal_sends hen hoff hentry]
        exact List.mem_cons_self
      rw [List.foldl_cons]
      exact hmono _ _ _ hsent
    · simpa using ih (s := s.signal j) hk (by simpa using hen) (by simpa using hoff) (by simpa using hentry)

/-- An interrupt bit that sets, before its vector signals (R386). -/
def State.intBitSet (s : State) (k : Nat) : State :=
  { s with intr := { s.intr with status := s.intr.status ||| 2 ^ k, signalled := clearBits s.intr.signalled (2 ^ k) } }

theorem State.raiseInt_of_set {s : State} {k : Nat} (h : bit s.intr.status k = true) : s.raiseInt k = s := by
  simp [State.raiseInt, h]

theorem State.raiseInt_of_masked {s : State} {k : Nat} (h : bit s.intr.status k = false) (hmask : bit s.intr.mask k = true) :
    s.raiseInt k = s.intBitSet k := by
  simp [State.raiseInt, h, hmask, State.intBitSet]

theorem State.raiseInt_of_unmasked {s : State} {k : Nat} (h : bit s.intr.status k = false) (hmask : bit s.intr.mask k = false) :
    s.raiseInt k = (s.intBitSet k).signal k := by
  simp [State.raiseInt, h, hmask, State.intBitSet]

/-- Raising an interrupt leaves its status bit set. -/
theorem State.raiseInt_status (s : State) (k : Nat) : bit (s.raiseInt k).intr.status k = true := by
  by_cases h : bit s.intr.status k = true
  · rwa [State.raiseInt_of_set h]
  · simp only [Bool.not_eq_true] at h
    by_cases hmask : bit s.intr.mask k = true
    · rw [State.raiseInt_of_masked h hmask]
      exact bit_or_two_pow _ _
    · simp only [Bool.not_eq_true] at hmask
      rw [State.raiseInt_of_unmasked h hmask, (State.signal_intr k _).1]
      exact bit_or_two_pow _ _

/-- Settles O15: a bit that sets is `State.intBitSet`, then its vector signals or becomes pending. -/
theorem interruptVectors : Obligations.InterruptVectors := by
  refine ⟨fun _ _ _ h => State.raiseInt_of_set h, fun _ _ _ h hmask => State.raiseInt_of_masked h hmask, ?_, ?_, ?_, ?_, ?_⟩
  · intro k s _ h hmask hen hoff hentry
    rw [State.raiseInt_of_unmasked h hmask, State.signal_sends (s := s.intBitSet k) hen hoff hentry]
    exact ⟨rfl, rfl, bit_or_two_pow _ _⟩
  · intro k s _ h hmask hen hoff hentry
    rw [State.raiseInt_of_unmasked h hmask, State.signal_pends (s := s.intBitSet k) hen hoff hentry]
    exact ⟨rfl, rfl, rfl⟩
  · intro dt value k s u hu hk hmask hstatus hsig hvalue hen hoff hentry
    refine ⟨_, rfl, ?_⟩
    rw [hu]
    refine vector_mem_foldl_signal _ (s := { u with intr := { u.intr with mask := value % 4096 } }) ?_ hen hoff hentry
    simp [hk, hmask, hstatus, hsig, hvalue]
  · intro dt value s u hu hall
    have hnone : (List.range 12).filter (fun k => bit u.intr.mask k && !bit value k && bit u.intr.status k && !bit u.intr.signalled k) = [] := by
      refine List.filter_eq_nil_iff.2 fun k hk => ?_
      cases hs : bit u.intr.status k
      · simp
      · simp [hall k (List.mem_range.1 hk) hs]
    change Host.Outcome.next ((s.advance dt).setMask value) = _
    rw [hu, State.setMask, hnone, List.foldl_nil]
  · intro s
    simp [State.intN, List.all_eq_false]

/-! ### The event ring (R398) -/

theorem EvtS.room_eq_zero_iff {e : EvtS} (hhead : e.head < 1024) (htail : e.tail < 1024) :
    e.room = 0 ↔ (e.head + 1) % 1024 = e.tail := by
  unfold EvtS.room
  omega

theorem EvtS.room_eq_max_iff {e : EvtS} (hhead : e.head < 1024) (htail : e.tail < 1024) : e.room = 1023 ↔ e.head = e.tail := by
  unfold EvtS.room
  omega

/-- The ring with an entry written at its head: it carries the next number (R397). -/
def EvtS.put (v : EvtS) (e : Event) : EvtS :=
  { v with ring := Tbl.put v.ring v.head (Event.entry { e with seq := v.seq }), head := (v.head + 1) % 1024, seq := (v.seq + 1) % 65536 }

/-- The event that tells how many were lost, as it is written now (R398). -/
def State.lostEvent (s : State) : Event :=
  { code := 0x0104, cause := s.now, epoch := s.time.stepEpoch, payload := [(32, s.evt.lostSince)] }

theorem State.putEvent_evt (e : Event) (s : State) : (s.putEvent e).evt = s.evt.put e :=
  (congrArg State.evt (show State.raiseInt 1 _ = _ from (Answers.refl _).raiseInt 1) :)

theorem State.reportLost_of_none {s : State} (h : s.evt.lostSince = 0 ∨ s.evt.room = 0) : s.reportLost = s := by
  simp [State.reportLost, h]

theorem State.reportLost_evt {s : State} (h : s.evt.lostSince ≠ 0) (hroom : s.evt.room ≠ 0) :
    s.reportLost.evt = EvtS.put { s.evt with lostSince := 0 } s.lostEvent := by
  simp only [State.reportLost, h, hroom, or_self, if_false]
  exact State.putEvent_evt _ _

/-- Without a loss and with room an event is written. -/
theorem State.writeEvent_of_room {s : State} (e : Event) (h : s.evt.lostSince = 0) (hroom : s.evt.room ≠ 0) :
    s.writeEvent e = s.putEvent e := by
  simp [State.writeEvent, State.reportLost_of_none (.inl h), h, hroom]

theorem State.writeEvent_of_full {s : State} (e : Event) (hroom : s.evt.room = 0) : s.writeEvent e = s.loseEvent := by
  simp [State.writeEvent, State.reportLost_of_none (.inr hroom), hroom]

/-- After a loss the event follows `EVENTS_LOST` if room is left, else it is lost. -/
theorem State.writeEvent_of_lost {s : State} (e : Event) (h : s.evt.lostSince ≠ 0) (hroom : s.evt.room ≠ 0) :
    s.writeEvent e = if s.reportLost.evt.room = 0 then s.reportLost.loseEvent else s.reportLost.putEvent e := by
  have hnone : s.reportLost.evt.lostSince = 0 := by rw [State.reportLost_evt h hroom]; rfl
  simp [State.writeEvent, hnone]

/-- Settles O14: what `State.writeEvent` does splits on the room left and on a loss not yet told. -/
theorem eventRingEntries : Obligations.EventRingEntries := by
  refine ⟨?_, ?_, ?_⟩
  · intro e s hhead htail
    have hroom := EvtS.room_eq_zero_iff hhead htail
    have hput : s.evt.lostSince ≠ 0 → s.evt.room ≠ 0 → (s.reportLost.evt.room = 0 ↔ (s.evt.head + 2) % 1024 = s.evt.tail) := by
      intro h h'
      have hevt := State.reportLost_evt h h'
      rw [EvtS.room_eq_zero_iff (by rw [hevt]; exact Nat.mod_lt _ (by decide)) (by rw [hevt]; exact htail), hevt]
      simp only [EvtS.put, Nat.mod_add_mod]
    refine ⟨EvtS.room_eq_max_iff hhead htail, ?_, ?_, ?_, ?_⟩
    · intro h hne
      rw [State.writeEvent_of_room e h (mt hroom.1 hne)]
      exact ⟨State.putEvent_evt e s, State.raiseInt_status _ 1⟩
    · intro hfull
      rw [State.writeEvent_of_full e (hroom.2 hfull)]
      rfl
    · intro h hne hlast
      have hr := mt hroom.1 hne
      rw [State.writeEvent_of_lost e h hr, if_pos ((hput h hr).2 hlast)]
      simp only [State.loseEvent, State.reportLost_evt h hr, EvtS.put, Nat.mod_add_mod, Nat.zero_add]
      rfl
    · intro h hne hmore
      have hr := mt hroom.1 hne
      rw [State.writeEvent_of_lost e h hr, if_neg (mt (hput h hr).1 hmore), State.putEvent_evt, State.reportLost_evt h hr]
      simp only [EvtS.put, Nat.mod_add_mod]
      rfl
  · intro dt value s u hu hfw hlost hhead hne
    have hroom : EvtS.room { u.evt with tail := value % 1024 } ≠ 0 :=
      mt (EvtS.room_eq_zero_iff (e := { u.evt with tail := value % 1024 }) hhead (Nat.mod_lt _ (by decide))).1 hne
    refine ⟨_, rfl, ?_⟩
    rw [hu]
    simp only [State.setEvtTail, hfw, if_true]
    exact State.reportLost_evt (s := { u with evt := { u.evt with tail := value % 1024 } }) hlost hroom
  · intro cause code payload s hfw
    simp [State.postAt, hfw]

end Sys2Proof.Machine
end

section
/-!
SUPPORT. Every well-formed command answers a next state: what `Instr.wf` says of each command's unit is what the command tests.
-/
namespace Sys2Proof.Machine
set_option Elab.async false -- one declaration after the other: fewer threads at once

theorem Req.wf_src {q : Req} (h : q.wf = true) :
    (∃ k, q.src = .host k ∧ k < 8) ∨ ∃ p origin txn, q.src = .inband p origin txn ∧ p < 56 := by
  simp only [Req.wf, Bool.and_eq_true] at h
  obtain ⟨⟨⟨⟨hsrc, _⟩, _⟩, _⟩, _⟩ := h
  cases hq : q.src with
  | host k => exact .inl ⟨k, rfl, by simpa [hq] using hsrc⟩
  | inband p origin txn =>
    simp only [hq, Bool.and_eq_true, portOk, decide_eq_true_eq] at hsrc
    exact .inr ⟨p, origin, txn, rfl, hsrc.1.1⟩

theorem runCommand_completes {q : Req} (h : q.wf = true) (c : Command) (s : State) : Completes (runCommand c q s) := by
  rcases Req.wf_src h with ⟨k, hsrc, hk⟩ | ⟨p, origin, txn, hsrc, hp⟩
  · exact ⟨_, by simp only [runCommand, hsrc, hk, if_true]; rfl⟩
  · exact ⟨_, by simp only [runCommand, hsrc, hp, if_true]; rfl⟩

theorem request_wf {c : Instr} {cmd : Command} {q : Req} (h : request c = some (cmd, q)) : c.wf = q.wf := by
  cases c <;> cases h <;> rfl

theorem DomFrame.wf_port {f : DomFrame} (h : f.wf = true) : f.port < 56 := by
  simp only [DomFrame.wf, portOk, Bool.and_eq_true, decide_eq_true_eq] at h
  omega

theorem TsReq.wf_port {r : TsReq} (h : r.wf = true) : r.port < 56 := by
  simp only [TsReq.wf, portOk, Bool.and_eq_true, decide_eq_true_eq] at h
  omega

theorem PtpMsg.wf_port {m : PtpMsg} (h : m.wf = true) : m.port < 56 := by
  simp only [PtpMsg.wf, portOk, Bool.and_eq_true, decide_eq_true_eq] at h
  omega

/-- The lines a well-formed command may name are those of its region (15_stored_data_protection.md R502). -/
theorem regionLines_eq (region : Nat) : regionLines region = Sys2Proof.dramLines region := by
  rcases region with _ | _ | _ | _ | region <;> rfl

theorem faultSource_isSome {source : Nat} (h : faultCodes.contains source = true) : (faultSource source).isSome = true := by
  have hall : ∀ c ∈ faultCodes, (faultSource c).isSome = true := by decide
  exact hall source (List.contains_iff_mem.1 h)

theorem completes_next (t : State) : Completes (.next t) := ⟨t, rfl⟩

theorem completes_ite {p : Prop} [Decidable p] {a b : Host.Outcome State Fault Refusal} (ha : Completes a) (hb : Completes b) :
    Completes (if p then a else b) := by
  split <;> assumption

theorem execRefEvaluation_completes {ref : Nat} (h : ref < 8) (dt : Nat) (s : State) : Completes (execRefEvaluation dt ref s) := by
  unfold execRefEvaluation
  extract_lets +onlyGivenNames s1
  split
  · omega
  · extract_lets +onlyGivenNames b x cuts done
    split
    · extract_lets +onlyGivenNames close
      refine completes_ite (completes_next _) ?_
      extract_lets +onlyGivenNames inA inC
      split
      extract_lets +onlyGivenNames closeRaw comp useC
      split
      extract_lets +onlyGivenNames parts partsC s2
      refine completes_ite (completes_next _) ?_
      extract_lets +onlyGivenNames used q mean s3
      exact completes_next _
    · exact completes_next _

theorem execFlashRefreshScan_completes {part device : Nat} (h : part < 8 ∧ device < 2)
    (dt page corrected ageDays lostSectors badBlocks : Nat) (s : State) :
    Completes (execFlashRefreshScan dt part device page corrected ageDays lostSectors badBlocks s) := by
  unfold execFlashRefreshScan
  extract_lets +onlyGivenNames s1
  rw [if_neg (by omega)]
  refine completes_ite (completes_next _) ?_
  extract_lets +onlyGivenNames s2 s3 s4 rewrite
  exact completes_next _

/-- A well-formed event completes: the test of its unit passes. -/
theorem event_completes {c : Instr} (hreq : request c = none) (s : State) (h : c.wf = true) : Completes (exec c s) := by
  cases c <;> cases hreq
  case classificationPass | snoopPacket | preemptCut | bookedSlotBook | bookedSlotLost | guardBandOpen |
      pauseTimerExpire | pauseGenerate | verifySend | verifyTimeout | respondReceive | verifyReceive | linkLoss |
      linkUp | linkHoldExpire | portQuiescent | trunkState | l1syncChange | esmcSend | esmcReceive | ptpMessageSend
      | egressDecision | bookedSlotLaunch =>
    exact ⟨_, if_pos (of_decide_eq_true h)⟩
  case frameReceive | pauseReceive | fragmentReceive | trunkExchange | ptpSlaveAnnounce | pdelayMeasure =>
    exact ⟨_, if_pos (of_decide_eq_true (Bool.and_elim_left h))⟩
  case hello | members | cueAnnounce | cueCancelFrame | cueAck | prepare | ready | arm | armed | equinoxCancelFrame |
      cancelAck | inbandRequest | inbandResponse =>
    exact ⟨_, if_pos (DomFrame.wf_port h)⟩
  case ntpRequest | ntsRequest | denyRequest | serviceArp =>
    exact ⟨_, if_pos (TsReq.wf_port h)⟩
  case ptpEventMessage | ptpForeignMaster | unicastNegotiation =>
    exact ⟨_, if_pos (PtpMsg.wf_port h)⟩
  case hportTxTailWrite | hportRxTailWrite | pcieLinkReset | hostRxDeliver | hostRingQuiescent | mirrorQuiescent |
      calTableComplete | regressionGateClose | measChannelQuiescent | measJobQuiescent | refLos | refPhaseHit |
      refSourceStatusFail | refQuiescent | outputEdge | outputQuiescent | toutMonitorCheck | bnOpRelease |
      bnLaneZeroised | faultServiced | hportHoldoffExpire =>
    exact ⟨_, if_neg (Nat.not_le.2 (of_decide_eq_true h))⟩
  case hostTxDescriptor =>
    exact ⟨_, if_neg (Nat.not_le.2 (of_decide_eq_true (Bool.and_elim_left (Bool.and_elim_left h))))⟩
  case tdcEdge ch _ k =>
    have hch : ch < 16 := of_decide_eq_true (Bool.and_elim_left h)
    have hk : k < 4096 := of_decide_eq_true (Bool.and_elim_right h)
    exact ⟨_, if_neg (by omega)⟩
  case refEvaluation => exact execRefEvaluation_completes (of_decide_eq_true h) _ _
  case flashRefreshScan =>
    exact execFlashRefreshScan_completes ⟨of_decide_eq_true (Bool.and_elim_left h), of_decide_eq_true (Bool.and_elim_right h)⟩ _ _ _ _ _ _ _
  case dramReadCorrect region line _ _ => exact ⟨_, if_pos (regionLines_eq region ▸ of_decide_eq_true h)⟩
  case dramUncorrectableRead region line _ _ => exact ⟨_, if_pos (regionLines_eq region ▸ of_decide_eq_true h)⟩
  case dramErasureMark => exact ⟨_, if_pos (of_decide_eq_true h)⟩
  case sramCorrect => exact ⟨_, if_pos h⟩
  case sramUncorrectable => exact ⟨_, if_pos h⟩
  case sentinelTakeover => exact ⟨_, if_pos h⟩
  case faultEvent => exact ⟨_, if_neg (by simp [Option.isSome_iff_ne_none.1 (faultSource_isSome h)])⟩
  all_goals exact ⟨_, rfl⟩

/-- Settles O8: a request runs on the command path, an event passes its unit's test. -/
theorem wellFormedCommandsComplete : Obligations.WellFormedCommandsComplete := by
  intro c s h
  rcases hreq : request c with _ | ⟨cmd, q⟩
  · exact event_completes hreq s h
  · rw [exec_of_request hreq]
    exact runCommand_completes (request_wf hreq ▸ h) cmd s

end Sys2Proof.Machine
end

section
/-!
SUPPORT. What an operation may change. `Within f s t` says that `t` differs from `s` at most in the components the scope `f` takes from `t`,
and keeps the canonical form; the rules compose scopes along the operations' own structure.
-/
namespace Sys2Proof.Machine
set_option Elab.async false -- one declaration after the other: fewer threads at once

/-- To prove something of a state, prove it of every state: drops what a proof knows of the value. -/
theorem State.generic {motive : State → Prop} (v : State) (all : ∀ x, motive x) : motive v := all v

/-- The state `t` is what `f` makes of `s` and `t`, a copy of `s` but for the components `f` takes from `t`; and it keeps the canonical
form of `s`. -/
structure Within (f : State → State → State) (s t : State) : Prop where
  eq : t = f s t
  canonical : s.canonical → t.canonical

namespace Within
variable {f g : State → State → State} {s t u : State}

theorem refl (s : State) (law : ∀ s, f s s = s := by intros; rfl) : Within f s s := ⟨(law s).symm, id⟩

theorem after (k : Within g t u) (h : Within f s t) (law : ∀ s t u, f s (g (f s t) u) = g (f s t) u := by intros; rfl) :
    Within f s u where
  eq := by
    have e := law s t u
    rw [← h.eq, ← k.eq] at e
    exact e.symm
  canonical := k.canonical ∘ h.canonical

theorem put (h : Within f s t) (e : u = f t u := by rfl) (can : t.canonical → u.canonical := by exact fun h => ⟨h.1, h.2⟩)
    (law : ∀ s t u, f s (f (f s t) u) = f (f s t) u := by intros; rfl) : Within f s u :=
  after ⟨e, can⟩ h law

theorem wider (h : Within g s t) (law : ∀ s t, f s (g s t) = g s t := by intros; rfl) : Within f s t where
  eq := by
    have e := law s t
    rw [← h.eq] at e
    exact e.symm
  canonical := h.canonical

theorem ite {c : Prop} {dec : Decidable c} (ht : Within f s t) (hu : Within f s u) : Within f s (if c then t else u) := by
  split
  · exact ht
  · exact hu

theorem ite_snd {α : Type} {c : Prop} {dec : Decidable c} {p q : α × State} (hp : Within f s p.2) (hq : Within f s q.2) :
    Within f s (if c then p else q).2 := by
  split
  · exact hp
  · exact hq

theorem elim {α : Type} {o : Option α} {b : α → State} (ht : Within f s t) (hb : ∀ a, Within f s (b a)) :
    Within f s (o.elim t b) := by
  cases o with
  | none => exact ht
  | some a => exact hb a

theorem via (ht : Within f s t) (h : Within f s t → Within f s u) : Within f s u := h ht

theorem foldl {α : Type} {b : State → α → State} (hb : ∀ t a, Within f s t → Within f s (b t a)) (l : List α) (h : Within f s t) :
    Within f s (l.foldl b t) := by
  induction l generalizing t with
  | nil => exact h
  | cons a l ih => exact ih (hb t a h)

theorem foldl_snd {α β : Type} {b : β × State → α → β × State} (hb : ∀ p a, Within f s p.2 → Within f s (b p a).2) (l : List α) {p : β × State}
    (h : Within f s p.2) : Within f s (l.foldl b p).2 := by
  induction l generalizing p with
  | nil => exact h
  | cons a l ih => exact ih (hb p a h)

end Within

/-- A pair whose state is within `f` of `s`; stated of the pair, so that checking it does not evaluate the pair. -/
structure WithinSnd {α : Type} (f : State → State → State) (s : State) (p : α × State) : Prop where
  snd : Within f s p.2

namespace WithinSnd
variable {α : Type} {f : State → State → State} {s t : State}

theorem pair {a : α} (h : Within f s t) : WithinSnd f s (a, t) := ⟨h⟩

theorem ite {c : Prop} {dec : Decidable c} {p q : α × State} (hp : WithinSnd f s p) (hq : WithinSnd f s q) :
    WithinSnd f s (if c then p else q) := by
  split
  · exact hp
  · exact hq

theorem via {p : α × State} (ht : Within f s t) (h : Within f s t → WithinSnd f s p) : WithinSnd f s p := h ht

end WithinSnd

/-- What signalling vectors may change. -/
def State.vectored (s t : State) : State :=
  { s with intr := { s.intr with lastVec := t.intr.lastVec, delayed := t.intr.delayed, signalled := t.intr.signalled, pba := t.intr.pba }
           trace := t.trace }
/-- What raising interrupts may change. -/
def State.raised (s t : State) : State :=
  { s with intr := { s.intr with
             status := t.intr.status, lastVec := t.intr.lastVec, delayed := t.intr.delayed, signalled := t.intr.signalled, pba := t.intr.pba }
           trace := t.trace }
/-- What posting events may change. -/
def State.reported (s t : State) : State :=
  { s with intr := { s.intr with
             status := t.intr.status, lastVec := t.intr.lastVec, delayed := t.intr.delayed, signalled := t.intr.signalled, pba := t.intr.pba }
           evt := t.evt, trace := t.trace }
/-- What noting a fault may change. -/
def State.noted (s t : State) : State :=
  { s with intr := { s.intr with
             status := t.intr.status, lastVec := t.intr.lastVec, delayed := t.intr.delayed, signalled := t.intr.signalled, pba := t.intr.pba }
           evt := t.evt
           flt := { s.flt with
             records := t.flt.records, src := t.flt.src, frozen := t.flt.frozen, faultN := t.flt.faultN, recoveries := t.flt.recoveries
             ledgerFull := t.flt.ledgerFull, nextOpen := t.flt.nextOpen, takeRec := t.flt.takeRec }
           trace := t.trace }

end Sys2Proof.Machine
end

section
/-!
SUPPORT. One frame per operation of the state: the components it may change.
-/
namespace Sys2Proof.Machine

set_option Elab.async false -- the lemmas are many and small: one after the other

theorem State.mergeUp_within {f} {s : State} : Within (fun s t => { s with rnd := { s.rnd with up := t.rnd.up } }) s (s.mergeUp f) := .put (.refl s)

theorem State.bootFailure_within {master} {s : State} : Within
    (fun s t => { s with mid := { s.mid with loc := t.mid.loc } })
    s (s.bootFailure master) := by
  unfold State.bootFailure
  exact .ite (.put (.refl s)) (.refl s)

theorem State.storePosition_within {p} {s : State} : Within
    (fun s t => { s with
      gnss := { s.gnss with toStore := t.gnss.toStore, stored := t.gnss.stored }, plat := { s.plat with flashWork := t.plat.flashWork } })
    s (s.storePosition p) := by
  unfold State.storePosition
  exact .ite (.put (.refl s)) (.ite (.put (.refl s)) (.put (.refl s)))

theorem State.savePolicy_within {s : State} : Within
    (fun s t => { s with mem := { s.mem with policyFlash := t.mem.policyFlash } })
    s s.savePolicy :=
    .put (.refl s)

theorem State.updMirror_within {k f} {s : State} : Within
    (fun s t => { s with sw := { s.sw with mirrors := t.sw.mirrors } })
    s (s.updMirror k f) :=
    .put (.refl s)

theorem State.claim_within {i} {s : State} : Within
    (fun s t => { s with flt := { s.flt with frozen := t.flt.frozen, takeRec := t.flt.takeRec } })
    s (s.claim i) := by
  unfold State.claim
  exact .ite (.put (.refl s)) (.refl s)

theorem State.loadCache_within {s : State} : Within
    (fun s t => { s with keys := { s.keys with cache := t.keys.cache } })
    s s.loadCache :=
    .put (.refl s)

theorem State.restoreSlot_within {k} {s : State} : Within
    (fun s t => { s with keys := { s.keys with slot := t.keys.slot } })
    s (s.restoreSlot k) :=
    .put (.refl s)

theorem State.openUp_within {kind round ok reasons} {s : State} : Within
    (fun s t => { s with rnd := { s.rnd with up := t.rnd.up } })
    s (s.openUp kind round ok reasons) :=
    .put (.refl s)

theorem State.draw_within {w} {s : State} : Within (fun s t => { s with free := t.free }) s (s.draw w).2 := .put (.refl s)

theorem State.seed_within {b} {s : State} : Within
    (fun s t => { s with
      banks := { s.banks with
        shadow := t.banks.shadow, edits := t.banks.edits, changeId := t.banks.changeId, state := t.banks.state
        validated := t.banks.validated, preloaded := t.banks.preloaded }
      rnd := { s.rnd with part := t.rnd.part } })
    s (s.seed b) :=
    .put (.refl s)

theorem State.emit_within {o} {s : State} : Within (fun s t => { s with trace := t.trace }) s (s.emit o) := .put (.refl s)

theorem State.startTurn_within {s : State} : Within
    (fun s t => { s with meas := { s.meas with turnAt := t.meas.turnAt, turnEvs := t.meas.turnEvs }, outs := t.outs })
    s s.startTurn :=
    .put (.refl s)

theorem State.updWaits_within {p f} {s : State} : Within
    (fun s t => { s with tci := { s.tci with aside := t.tci.aside } })
    s (s.updWaits p f) :=
    .put (.refl s)

theorem State.closeLater_within {opcode} {s : State} : Within
    (fun s t => { s with win := { s.win with closing := t.win.closing } })
    s (s.closeLater opcode) :=
    .put (.refl s)

theorem State.updFlash_within {p f} {s : State} : Within
    (fun s t => { s with mem := { s.mem with flash := t.mem.flash } })
    s (s.updFlash p f) :=
    .put (.refl s)

theorem State.driveBias_within {on} {s : State} : Within
    (fun s t => { s with gnss := { s.gnss with biasMv := t.gnss.biasMv, antennaMa := t.gnss.antennaMa } })
    s (s.driveBias on) :=
    .put (.refl s)

theorem State.snoopLeave_within {v p group v6} {s : State} : Within
    (fun s t => { s with sw := { s.sw with groups := t.sw.groups } })
    s (s.snoopLeave v p group v6) :=
    .put (.refl s)

theorem State.updRoot_within {st f} {s : State} : Within
    (fun s t => { s with rnd := { s.rnd with root := t.rnd.root, rootRec := t.rnd.rootRec, recDue := t.rnd.recDue } })
    s (s.updRoot st f) :=
    .put (.refl s)

theorem State.noteLock_within {s : State} : Within
    (fun s t => { s with sel := { s.sel with lastType := t.sel.lastType, lockType := t.sel.lockType, lockTr := t.sel.lockTr } })
    s s.noteLock := by
  unfold State.noteLock
  split
  · exact .put (.refl s)
  · exact .refl s

theorem State.setPort_within {p x} {s : State} : Within (fun s t => { s with ports := t.ports }) s (s.setPort p x) := .put (.refl s)

theorem State.suspend_within {w} {s : State} : Within
    (fun s t => { s with plat := { s.plat with flashWork := t.plat.flashWork } })
    s (s.suspend w) := by
  unfold State.suspend
  exact .ite (.refl s) (.put (.refl s))

theorem State.takeSched_within {c} {s : State} : Within
    (fun s t => { s with time := { s.time with scheds := t.time.scheds } })
    s (s.takeSched c) :=
    .put (.refl s)

theorem State.updJob_within {i f} {s : State} : Within
    (fun s t => { s with meas := { s.meas with job := t.meas.job } })
    s (s.updJob i f) :=
    .put (.refl s)

theorem State.putRow_within {r} {s : State} : Within
    (fun s t => { s with cue := { s.cue with rows := t.cue.rows, nextSeq := t.cue.nextSeq } })
    s (s.putRow r).2 :=
    .put (.refl s)

theorem State.tsCount_within {set i} {s : State} : Within
    (fun s t => { s with ts := { s.ts with counters := t.ts.counters } })
    s (s.tsCount set i) :=
    .put (.refl s)

theorem State.queueRetire_within {key cause} {s : State} : Within
    (fun s t => { s with mem := { s.mem with toRetire := t.mem.toRetire } })
    s (s.queueRetire key cause) := by
  unfold State.queueRetire
  exact .ite (.refl s) (.put (.refl s))

theorem State.dropOld_within {s : State} : Within
    (fun s t => { s with ports := t.ports, host := { s.host with queue := t.host.queue } })
    s s.dropOld :=
    .put (.refl s)

theorem State.takeRoot_within {h} {s : State} : Within
    (fun s t => { s with
      dom := { s.dom with
        isRoot := t.dom.isRoot, root := t.dom.root, betterRun := t.dom.betterRun, better := t.dom.better, beat := t.dom.beat
        beatAt := t.dom.beatAt } })
    s (s.takeRoot h) :=
    .put (.refl s)

theorem State.updRef_within {r f} {s : State} : Within (fun s t => { s with refs := t.refs }) s (s.updRef r f) := .put (.refl s)

theorem State.firstSolution_within {e} {s : State} : Within (fun s t => { s with gnss := t.gnss }) s (s.firstSolution e) := by
  unfold State.firstSolution
  refine .ite (.refl s) ?_
  refine .ite (.put (.refl s)) ?_
  split
  · exact .ite (.put (.refl s)) (.put (.refl s))
  · exact .put (.refl s)

theorem State.syncMacs_within {s : State} : Within (fun s t => { s with sw := { s.sw with macs := t.sw.macs } }) s s.syncMacs := .put (.refl s)

theorem State.chooseRoot_within {tick} {s : State} : Within
    (fun s t => { s with
      dom := { s.dom with
        isRoot := t.dom.isRoot, root := t.dom.root, betterRun := t.dom.betterRun, better := t.dom.better, beat := t.dom.beat
        beatAt := t.dom.beatAt } })
    s (s.chooseRoot tick) := by
  unfold State.chooseRoot
  extract_lets +onlyGivenNames offers
  split
  · exact .put (.refl s)
  · split
    · exact State.takeRoot_within.after (.refl s)
    · exact .ite (.ite (.ite (State.takeRoot_within.after (.refl s)) (.put (.refl s))) (.refl s)) (.ite (.put (.refl s)) (.refl s))

theorem State.traceGrown_within {s : State} : Within
    (fun s t => { s with fw := { s.fw with traceEnd := t.fw.traceEnd }, free := t.free })
    s s.traceGrown := by
  unfold State.traceGrown
  exact .put ((State.draw_within (w := 24)).after (.refl s))

theorem State.entryLost_within {array table index} {s : State} : Within
    (fun s t => { s with
      sw := { s.sw with macs := t.sw.macs, groups := t.sw.groups, absent := t.sw.absent }, mem := { s.mem with rewrites := t.mem.rewrites } })
    s (s.entryLost array table index) := by
  unfold State.entryLost
  exact .ite (.put (.refl s)) (.ite (.put (.refl s)) (.put (.refl s)))

theorem State.clearInt_within {value} {s : State} : Within
    (fun s t => { s with intr := { s.intr with status := t.intr.status } })
    s (s.clearInt value) :=
    .put (.refl s)

theorem State.hostCount_within {k n} {s : State} : Within
    (fun s t => { s with host := { s.host with counters := t.host.counters } })
    s (s.hostCount k n) :=
    .put (.refl s)

theorem State.setHold_within {s : State} : Within
    (fun s t => { s with plat := { s.plat with inReset := t.plat.inReset } })
    s s.setHold :=
    .put (.refl s)

theorem State.serveQueues_within {s : State} : Within
    (fun s t => { s with ts := { s.ts with waiting := t.ts.waiting, credit := t.ts.credit, servedAt := t.ts.servedAt } })
    s s.serveQueues :=
    .put (.refl s)

theorem State.setLane_within {k l} {s : State} : Within
    (fun s t => { s with bn := { s.bn with lanes := t.bn.lanes } })
    s (s.setLane k l) :=
    .put (.refl s)

theorem State.setRecord_within {i r} {s : State} : Within
    (fun s t => { s with flt := { s.flt with records := t.flt.records } })
    s (s.setRecord i r) :=
    .put (.refl s)

theorem State.showEdge_within {output active inst} {s : State} : Within
    (fun s t => { s with trace := t.trace })
    s (s.showEdge output active inst) := by
  unfold State.showEdge
  exact State.emit_within.after (.refl s)

theorem State.updMailbox_within {k f} {s : State} : Within
    (fun s t => { s with tci := { s.tci with mbx := t.tci.mbx } })
    s (s.updMailbox k f) :=
    .put (.refl s)

theorem State.seeConsumer_within {consumer} {s : State} : Within
    (fun s t => { s with stamps := { s.stamps with consumer := t.stamps.consumer } })
    s (s.seeConsumer consumer) :=
    .put (.refl s)

theorem State.sendDomain_within {port kind payload} {s : State} : Within
    (fun s t => { s with dom := { s.dom with txSeq := t.dom.txSeq, queue := t.dom.queue } })
    s (s.sendDomain port kind payload) := by
  unfold State.sendDomain
  exact .ite (.refl s) (.elim (.refl s) (fun _ => .put (.refl s)))

theorem State.writeMidwinter_within {writing code injected failed} {s : State} : Within
    (fun s t => { s with mid := { t.mid with overwritten := s.mid.overwritten, erase := s.mid.erase }, free := t.free })
    s (s.writeMidwinter writing code injected failed) := by
  unfold State.writeMidwinter
  split
  · exact .put (.refl s)
  · exact .put ((State.draw_within (w := 28)).after (.refl s))

theorem State.ptpSequence_within {p msg} {s : State} : Within
    (fun s t => { s with ts := { s.ts with ptpSeq := t.ts.ptpSeq } })
    s (s.ptpSequence p msg).2 :=
    .put (.refl s)

theorem State.mapRounds_within {f} {s : State} : Within
    (fun s t => { s with cue := { s.cue with rounds := t.cue.rounds, cancels := t.cue.cancels } })
    s (s.mapRounds f) :=
    .put (.refl s)

theorem State.linkCalEvent_within {ch e} {s : State} : Within
    (fun s t => { s with meas := { s.meas with linkCals := t.meas.linkCals } })
    s (s.linkCalEvent ch e) :=
    .put (.refl s)

theorem State.advance_within {n} {s : State} : Within (fun s t => { s with time := t.time }) s (s.advance n) := .put (.refl s)

theorem State.readRails_within {r} {s : State} : Within
    (fun s t => { s with
      plat := { s.plat with
        warnRails := t.plat.warnRails, clearAt := t.plat.clearAt, v12 := t.plat.v12, v12Min := t.plat.v12Min, v12Ep := t.plat.v12Ep
        vcore := t.plat.vcore, vcoreMin := t.plat.vcoreMin, vcoreEp := t.plat.vcoreEp, vsb := t.plat.vsb, vdram := t.plat.vdram
        tcase := t.plat.tcase, tjMax := t.plat.tjMax, inputMw := t.plat.inputMw, above12At := t.plat.above12At, ovenHot := t.plat.ovenHot } })
    s (s.readRails r) :=
    .put (.refl s)

theorem State.updRow_within {id f} {s : State} : Within
    (fun s t => { s with cue := { s.cue with rows := t.cue.rows } })
    s (s.updRow id f) := by
  unfold State.updRow
  split
  · exact .put (.refl s)
  · exact .refl s

theorem State.ptpDisabled_within {m} {s : State} : Within
    (fun s t => { s with ts := { s.ts with counters := t.ts.counters } })
    s (s.ptpDisabled m) := by
  unfold State.ptpDisabled
  exact .ite (State.tsCount_within.after (.refl s)) (.refl s)

theorem State.notePeak_within {s : State} : Within (fun s t => { s with sw := { s.sw with peak := t.sw.peak } }) s s.notePeak := .put (.refl s)

theorem State.sysCheck_within {es} {s : State} : Within
    (fun s t => { s with
      gnss := { s.gnss with
        sysFails := t.gnss.sysFails, sysPair := t.gnss.sysPair, sysDue := t.gnss.sysDue, sysPasses := t.gnss.sysPasses
        sysExcluded := t.gnss.sysExcluded } })
    s (s.sysCheck es) := by
  unfold State.sysCheck
  extract_lets +onlyGivenNames g limit dev far contributing fails bad compared passes worst
  clear_value worst
  cases worst with
  | none => exact .put (.refl s)
  | some w => exact .put (.refl s)

theorem State.takeSnap_within {s : State} : Within (fun s t => { s with snap := t.snap }) s s.takeSnap := .put (.refl s)

theorem State.startStep_within {k} {s : State} : Within
    (fun s t => { s with ocxo := { s.ocxo with heaterAt := t.ocxo.heaterAt }, plat := t.plat })
    s (s.startStep k) := by
  unfold State.startStep
  exact .ite (.put (.refl s)) (.ite (.put (.refl s)) (.put (.refl s)))

theorem State.sramWritten_within {array bank row word} {s : State} : Within
    (fun s t => { s with mem := { s.mem with flipped := t.mem.flipped } })
    s (s.sramWritten array bank row word) :=
    .put (.refl s)

theorem State.updChan_within {c f} {s : State} : Within
    (fun s t => { s with meas := { s.meas with ch := t.meas.ch } })
    s (s.updChan c f) :=
    .put (.refl s)

theorem State.setLine_within {key l} {s : State} : Within
    (fun s t => { s with mem := { s.mem with lines := t.mem.lines } })
    s (s.setLine key l) :=
    .put (.refl s)

theorem State.toChildren_within {kind payload} {s : State} : Within
    (fun s t => { s with dom := { s.dom with txSeq := t.dom.txSeq, queue := t.dom.queue } })
    s (s.toChildren kind payload) := by
  unfold State.toChildren
  exact .foldl (fun _ _ h1 => State.sendDomain_within.after h1) _ (.refl s)

theorem State.moveCapture_within {r} {s : State} : Within (fun s t => { s with cap := t.cap }) s (s.moveCapture r) := .put (.refl s)

theorem State.takeChange_within {s : State} : Within
    (fun s t => { s with gnss := { s.gnss with cfgChanged := t.gnss.cfgChanged, edgeMark := t.gnss.edgeMark, held := t.gnss.held } })
    s s.takeChange := by
  unfold State.takeChange
  exact .ite (.put (.refl s)) (.refl s)

theorem State.updRing_within {k f} {s : State} : Within
    (fun s t => { s with host := { s.host with rings := t.host.rings } })
    s (s.updRing k f) :=
    .put (.refl s)

theorem State.epochData_within {e} {s : State} : Within
    (fun s t => { s with
      gnss := { s.gnss with
        cfg := t.gnss.cfg, epochSec := t.gnss.epochSec, ggto := t.gnss.ggto, bgto := t.gnss.bgto, ephs := t.gnss.ephs
        almanac := t.gnss.almanac, timeKnown := t.gnss.timeKnown } })
    s (s.epochData e) :=
    .put (.refl s)

theorem State.freeEntry_within {k} {s : State} : Within
    (fun s t => { s with ts := { s.ts with ledger := t.ts.ledger, grants := t.ts.grants } })
    s (s.freeEntry k) :=
    .put (.refl s)

theorem State.solveGlonass_within {dual used} {s : State} : Within
    (fun s t => { s with gnss := { s.gnss with gloBias := t.gnss.gloBias } })
    s (s.solveGlonass dual used) := by
  unfold State.solveGlonass
  extract_lets +onlyGivenNames l
  split
  · exact .ite (.refl s) (.put (.refl s))
  · exact .refl s

theorem State.hurt_within {key soft stuck} {s : State} : Within
    (fun s t => { s with mem := { s.mem with lines := t.mem.lines } })
    s (s.hurt key soft stuck) := by
  unfold State.hurt
  exact .ite (.refl s) (State.setLine_within.after (.refl s))

theorem State.updOut_within {o f} {s : State} : Within (fun s t => { s with outs := t.outs }) s (s.updOut o f) := .put (.refl s)

theorem State.saveRows_within {s : State} : Within
    (fun s t => { s with mem := { s.mem with flaggedFlash := t.mem.flaggedFlash }, plat := { s.plat with flashWork := t.plat.flashWork } })
    s s.saveRows := by
  unfold State.saveRows
  exact .ite (.put (.refl s)) (State.suspend_within.after (.refl s))

theorem State.standbyReset_within {s : State} : Within
    (fun s t => { s with
      time := { s.time with rawBase := t.time.rawBase }, sealLoop := { s.sealLoop with latch := t.sealLoop.latch }
      flt := { s.flt with recoveries := t.flt.recoveries }
      plat := { s.plat with
        warn := t.plat.warn, warnTick := t.plat.warnTick, clearAt := t.plat.clearAt, supplyEvents := t.plat.supplyEvents
        warnTicks := t.plat.warnTicks, lastWarn := t.plat.lastWarn, v12Min := t.plat.v12Min, vcoreMin := t.plat.vcoreMin
        hot := t.plat.hot, supplyWait := t.plat.supplyWait, inReset := t.plat.inReset, ovenHot := t.plat.ovenHot } })
    s s.standbyReset := by
  unfold State.standbyReset
  exact State.setHold_within.after (.put (.refl s))

theorem State.readReg_within {offset} {s : State} : Within
    (fun s t => { s with snap := t.snap, evt := { s.evt with lost := t.evt.lost }, win := { s.win with stray := t.win.stray } })
    s (s.readReg offset).2 := by
  unfold State.readReg
  exact .ite_snd (State.takeSnap_within.after (.refl s)) (.ite_snd (.put (.refl s)) (.ite_snd (.put (.refl s)) (.refl s)))

theorem State.snoopSpecific_within {v group ms v6} {s : State} : Within
    (fun s t => { s with sw := { s.sw with groups := t.sw.groups } })
    s (s.snoopSpecific v group ms v6) :=
    .put (.refl s)

theorem State.answerFault_within {p cause} {s : State} : Within (fun s t => { s with trace := t.trace }) s (s.answerFault p cause) := by
  unfold State.answerFault
  exact .ite (State.emit_within.after (.refl s)) (.ite (State.emit_within.after (.refl s)) (.refl s))

theorem State.stepRefs_within {delta} {s : State} : Within (fun s t => { s with refs := t.refs }) s (s.stepRefs delta) := by
  unfold State.stepRefs
  exact .foldl (fun _ _ h1 => .ite h1 (State.updRef_within.after h1)) _ (.refl s)

theorem State.syncChannels_within {s : State} : Within
    (fun s t => { s with meas := { t.meas with job := s.meas.job, linkCals := s.meas.linkCals }, outs := t.outs })
    s s.syncChannels := by
  unfold State.syncChannels
  exact .foldl (fun _ _ h1 => .ite h1 (.via (State.updChan_within.after h1) fun h2 => .ite (State.startTurn_within.after h2) h2)) _
    (.refl s)

theorem State.leapFlags_within {s : State} : Within
    (fun s t => { s with leap := { s.leap with pending := t.leap.pending, dir := t.leap.dir, pendAt := t.leap.pendAt } })
    s s.leapFlags := by
  unfold State.leapFlags
  split
  · exact .put (.refl s)
  · exact .put (.refl s)

theorem State.feedPin_within {pin} {s : State} : Within
    (fun s t => { s with time := t.time, win := { s.win with raw := t.win.raw, rawAt := t.win.rawAt } })
    s (s.feedPin pin) := by
  unfold State.feedPin
  split
  · exact .put ((State.advance_within (n := pin.dt)).after (.refl s))
  · exact State.advance_within.after (.refl s)

theorem State.flushY_within {s : State} : Within
    (fun s t => { s with sel := { s.sel with yHist := t.sel.yHist, yAt := t.sel.yAt }, hold := t.hold })
    s s.flushY := by
  unfold State.flushY
  split
  · exact .refl s
  · exact .put (.refl s)

theorem State.mergeAck_within {p payload} {s : State} : Within
    (fun s t => { s with cue := { s.cue with rounds := t.cue.rounds, cancels := t.cue.cancels } })
    s (s.mergeAck p payload) := by
  unfold State.mergeAck
  exact State.mapRounds_within.after (.refl s)

theorem State.storeWaiting_within {s : State} : Within
    (fun s t => { s with
      gnss := { s.gnss with toStore := t.gnss.toStore, stored := t.gnss.stored }, mem := { s.mem with flaggedFlash := t.mem.flaggedFlash }
      plat := { s.plat with flashWork := t.plat.flashWork } })
    s s.storeWaiting := by
  unfold State.storeWaiting
  exact .via (.elim (.refl s) (fun _ => State.storePosition_within.after (.refl s))) fun h1 => .ite (State.saveRows_within.after h1) h1

theorem State.armRow_within {r} {s : State} : Within
    (fun s t => { s with cue := { s.cue with rows := t.cue.rows, nextSeq := t.cue.nextSeq } })
    s (s.armRow r).2 := by
  unfold State.armRow
  exact State.putRow_within.after (.refl s)

theorem State.toHost_within {c reason} {s : State} : Within
    (fun s t => { s with host := { s.host with queue := t.host.queue }, sw := { s.sw with peak := t.sw.peak } })
    s (s.toHost c reason).2 := by
  unfold State.toHost
  exact .ite_snd (State.notePeak_within.after (.put (.refl s))) (.refl s)

theorem State.stepOutputs_within {s : State} : Within (fun s t => { s with outs := t.outs }) s s.stepOutputs := .put (.refl s)

theorem State.sendVector_within {k} {s : State} : Within
    (fun s t => { s with intr := { s.intr with lastVec := t.intr.lastVec, pba := t.intr.pba }, trace := t.trace })
    s (s.sendVector k) := by
  unfold State.sendVector
  exact .ite (.put (.refl s)) (.put (.refl s))

theorem State.denyDrop_within {k} {s : State} : Within
    (fun s t => { s with ts := { s.ts with ledger := t.ts.ledger, grants := t.ts.grants, counters := t.ts.counters } })
    s (s.denyDrop k) := by
  unfold State.denyDrop
  exact State.tsCount_within.after (State.freeEntry_within.after (.refl s))

theorem State.enterSel_within {st} {s : State} : Within
    (fun s t => { s with
      sel := { s.sel with
        state := t.sel.state, since := t.sel.since, lockRun := t.sel.lockRun, pendingPhase := t.sel.pendingPhase, e0 := t.sel.e0
        blocked := t.sel.blocked, tested := t.sel.tested, acqClass := t.sel.acqClass, yHist := t.sel.yHist, yAt := t.sel.yAt
        stateAt := t.sel.stateAt }
      hold := t.hold })
    s (s.enterSel st) := by
  unfold State.enterSel
  exact .put (State.flushY_within.after (.refl s))

theorem State.sendHellos_within {s : State} : Within
    (fun s t => { s with dom := { s.dom with txSeq := t.dom.txSeq, queue := t.dom.queue } })
    s s.sendHellos := by
  unfold State.sendHellos
  exact .foldl (fun _ _ h1 => State.sendDomain_within.after h1) _ (.refl s)

theorem State.updEntry_within {k f} {s : State} : Within
    (fun s t => { s with ts := { s.ts with ledger := t.ts.ledger } })
    s (s.updEntry k f) :=
    .put (.refl s)

theorem State.stepJobs_within {before} {s : State} : Within
    (fun s t => { s with meas := { s.meas with job := t.meas.job } })
    s (State.stepJobs before s) :=
    .put (.refl s)

theorem State.updSrc_within {code f} {s : State} : Within
    (fun s t => { s with flt := { s.flt with src := t.flt.src } })
    s (s.updSrc code f) :=
    .put (.refl s)

theorem State.noteKiss_within {k code} {s : State} : Within
    (fun s t => { s with ts := { s.ts with ledger := t.ts.ledger } })
    s (s.noteKiss k code) := by
  unfold State.noteKiss
  exact State.updEntry_within.after (.refl s)

theorem State.afterStep_within {stepped c} {s : State} : Within
    (fun s t => { s with
      sel := { s.sel with
        state := t.sel.state, since := t.sel.since, setting := t.sel.setting, lockRun := t.sel.lockRun, pendingPhase := t.sel.pendingPhase
        e0 := t.sel.e0, blocked := t.sel.blocked, tested := t.sel.tested, acqClass := t.sel.acqClass, yHist := t.sel.yHist
        yAt := t.sel.yAt, stateAt := t.sel.stateAt }
      hold := t.hold })
    s (s.afterStep stepped c) := by
  unfold State.afterStep
  extract_lets _ s1
  split
  · exact .put (.refl s)
  · exact .ite (.put (.refl s)) (.ite (State.enterSel_within.after (.put (.refl s))) (.put (.refl s)))

theorem State.onPrepare_within {round tag inst} {s : State} : Within
    (fun s t => { s with rnd := t.rnd })
    s (s.onPrepare round tag inst) := by
  unfold State.onPrepare
  exact State.openUp_within.after (.put (.refl s))

theorem State.barRead_within {offset size} {s : State} : Within
    (fun s t => { s with snap := t.snap, evt := { s.evt with lost := t.evt.lost }, win := { s.win with stray := t.win.stray } })
    s (s.barRead offset size).2 := by
  unfold State.barRead
  refine .ite_snd (.refl s) (.ite_snd (State.readReg_within.after (.refl s)) (.ite_snd ?_ (.ite (State.takeSnap_within.after (.refl s))
    (.refl s))))
  have h1 := State.readReg_within (offset := offset) (s := s)
  generalize s.readReg offset = x at h1
  obtain ⟨lo, s1⟩ := x
  dsimp only at h1 ⊢
  have h2 := (State.readReg_within (offset := offset + 4) (s := s1)).after h1
  generalize s1.readReg (offset + 4) = y at h2
  obtain ⟨hi, s2⟩ := y
  exact h2

theorem State.admitDrop_within {cls} {s : State} : Within
    (fun s t => { s with ts := { s.ts with counters := t.ts.counters } })
    s (s.admitDrop cls) := by
  unfold State.admitDrop
  exact State.tsCount_within.after (.refl s)

theorem State.loseEvent_within {s : State} : Within
    (fun s t => { s with evt := { s.evt with lost := t.evt.lost, lostSince := t.evt.lostSince, seq := t.evt.seq } })
    s s.loseEvent :=
    .put (.refl s)

theorem State.leapMoved_within {s : State} : Within
    (fun s t => { s with leap := { s.leap with pending := t.leap.pending, dir := t.leap.dir, pendAt := t.leap.pendAt } })
    s s.leapMoved := by
  unfold State.leapMoved
  exact .ite (.refl s) (State.leapFlags_within.after (.refl s))

theorem State.updRecord_within {i f} {s : State} : Within
    (fun s t => { s with flt := { s.flt with records := t.flt.records } })
    s (s.updRecord i f) := by
  unfold State.updRecord
  exact State.setRecord_within.after (.refl s)

theorem State.flipWrite_within {key} {s : State} : Within
    (fun s t => { s with mem := { s.mem with lines := t.mem.lines, flip := t.mem.flip } })
    s (s.flipWrite key) := by
  unfold State.flipWrite
  exact .ite (.put (State.setLine_within.after (.refl s))) (.refl s)

theorem State.loseRef_within {s : State} : Within
    (fun s t => { s with
      sel := { s.sel with
        state := t.sel.state, selected := t.sel.selected, since := t.sel.since, lockRun := t.sel.lockRun
        pendingPhase := t.sel.pendingPhase, e0 := t.sel.e0, blocked := t.sel.blocked, tested := t.sel.tested, lastRef := t.sel.lastRef
        acqClass := t.sel.acqClass, yHist := t.sel.yHist, yAt := t.sel.yAt, stateAt := t.sel.stateAt }
      hold := t.hold })
    s s.loseRef := by
  unfold State.loseRef
  refine .put ?_
  split
  · exact .refl s
  · exact .refl s
  · exact .refl s
  · exact State.enterSel_within.after (.refl s)
  · exact State.enterSel_within.after (.refl s)

theorem State.sendUp_within {u} {s : State} : Within
    (fun s t => { s with dom := { s.dom with txSeq := t.dom.txSeq, queue := t.dom.queue }, rnd := { s.rnd with up := t.rnd.up } })
    s (s.sendUp u) := by
  unfold State.sendUp
  split
  · exact State.sendDomain_within.after (.put (.refl s))
  · exact .put (.refl s)

theorem State.writeEntry_within {offset value} {s : State} : Within
    (fun s t => { s with intr := { s.intr with lastVec := t.intr.lastVec, table := t.intr.table, pba := t.intr.pba }, trace := t.trace })
    s (s.writeEntry offset value) := by
  unfold State.writeEntry
  exact .ite (State.sendVector_within.after (.put (.refl s))) (.put (.refl s))

theorem State.loopUpdate_within {s : State} : Within
    (fun s t => { s with
      time := t.time
      sel := { s.sel with
        loopAt := t.sel.loopAt, integ := t.sel.integ, e := t.sel.e, eHist := t.sel.eHist, lockRun := t.sel.lockRun, yHist := t.sel.yHist
        yAt := t.sel.yAt, lastUpdate := t.sel.lastUpdate }
      hold := t.hold })
    s s.loopUpdate := by
  unfold State.loopUpdate
  split
  · exact .refl s
  · exact .ite (.refl s) (.put (State.flushY_within.after (.refl s)))

theorem State.tryMarch_within {s : State} : Within
    (fun s t => { s with ocxo := { s.ocxo with heaterAt := t.ocxo.heaterAt }, plat := t.plat })
    s s.tryMarch := by
  unfold State.tryMarch
  exact .ite (State.startStep_within.after (.refl s)) (.refl s)

theorem State.relayInband_within {f} {s : State} : Within
    (fun s t => { s with dom := { s.dom with txSeq := t.dom.txSeq, queue := t.dom.queue } })
    s (s.relayInband f) := by
  unfold State.relayInband
  split
  · exact State.sendDomain_within.after (.refl s)
  · exact .refl s

theorem State.entropy_within {w} {s : State} : Within
    (fun s t => { s with bn := { s.bn with generates := t.bn.generates }, free := t.free })
    s (s.entropy w).2 := by
  unfold State.entropy
  exact State.draw_within.after (.put (.refl s))

theorem State.quieten_within {i} {s : State} : Within
    (fun s t => { s with flt := { s.flt with records := t.flt.records } })
    s (s.quieten i) := by
  unfold State.quieten
  exact .ite (State.setRecord_within.after (.refl s)) (.refl s)

theorem State.onArm_within {round inst} {s : State} : Within
    (fun s t => { s with
      cue := { s.cue with rows := t.cue.rows, nextSeq := t.cue.nextSeq }
      rnd := { s.rnd with part := t.rnd.part, up := t.rnd.up, lastReasons := t.rnd.lastReasons } })
    s (s.onArm round inst) := by
  unfold State.onArm
  exact .ite (State.openUp_within.after (.put (State.armRow_within.after (.refl s)))) (State.openUp_within.after (.put (.refl s)))

theorem State.linkInjected_within {code i} {s : State} : Within
    (fun s t => { s with flt := { s.flt with records := t.flt.records } })
    s (s.linkInjected code i) := by
  unfold State.linkInjected
  split
  · exact State.updRecord_within.after (.refl s)
  · exact .refl s

theorem State.writeBack_within {key} {s : State} : Within
    (fun s t => { s with mem := { s.mem with lines := t.mem.lines } })
    s (s.writeBack key) := by
  unfold State.writeBack
  exact State.setLine_within.after (.refl s)

theorem State.ledgerLookup_within {k cls pol} {s : State} : Within
    (fun s t => { s with ts := { s.ts with ledger := t.ts.ledger, counters := t.ts.counters } })
    s (s.ledgerLookup k cls pol).2 := by
  unfold State.ledgerLookup
  split
  · exact State.updEntry_within.after (.refl s)
  · refine .ite_snd (.put (.refl s)) ?_
    split
    · exact .via (State.updEntry_within.after (.refl s)) fun h1 => .ite (State.tsCount_within.after h1) h1
    · exact State.tsCount_within.after (.refl s)

theorem State.writeArea_within {offset data} {s : State} : Within
    (fun s t => { s with tci := { s.tci with mbx := t.tci.mbx } })
    s (s.writeArea offset data) := by
  unfold State.writeArea
  refine .foldl (fun _ _ h1 => ?_) _ (.refl s)
  refine .ite h1 ?_
  split
  · exact h1
  · exact h1
  · exact State.updMailbox_within.after h1

theorem State.driveEdge_within {o level inst} {s : State} : Within
    (fun s t => { s with outs := t.outs, trace := t.trace })
    s (s.driveEdge o level inst) := by
  unfold State.driveEdge
  exact .ite (.refl s) (State.showEdge_within.after (State.updOut_within.after (.refl s)))

theorem State.updPort_within {p f} {s : State} : Within (fun s t => { s with ports := t.ports }) s (s.updPort p f) := by
  unfold State.updPort
  exact State.setPort_within.after (.refl s)

theorem State.withdraw_within {s : State} : Within
    (fun s t => { s with
      dom := { s.dom with parentPort := t.dom.parentPort, isRoot := t.dom.isRoot, txSeq := t.dom.txSeq, queue := t.dom.queue } })
    s s.withdraw := by
  unfold State.withdraw
  exact .ite (.put (.refl s)) (.refl s)

theorem State.tsWork_within {cls halves request} {s : State} : Within
    (fun s t => { s with ts := { s.ts with load := t.ts.load, waiting := t.ts.waiting, credit := t.ts.credit, servedAt := t.ts.servedAt } })
    s (s.tsWork cls halves request) := by
  unfold State.tsWork
  exact .put (State.serveQueues_within.after (.refl s))

theorem State.armScene_within {scene root round inst} {s : State} : Within
    (fun s t => { s with cue := { s.cue with rows := t.cue.rows, nextSeq := t.cue.nextSeq } })
    s (s.armScene scene root round inst).2 := by
  unfold State.armScene
  refine .foldl_snd (fun p _ h1 => ?_) _ (.refl s)
  exact .ite_snd (State.armRow_within.after h1) (.ite_snd h1 h1)

theorem State.pulseFalls_within {upTo} {s : State} : Within
    (fun s t => { s with outs := t.outs, trace := t.trace })
    s (s.pulseFalls upTo) := by
  unfold State.pulseFalls
  exact .foldl (fun _ _ h1 => .foldl (fun _ _ h2 => State.driveEdge_within.after (State.updOut_within.after h2)) _ h1) _ (.refl s)

theorem State.updTrunk_within {p f} {s : State} : Within (fun s t => { s with ports := t.ports }) s (s.updTrunk p f) := by
  unfold State.updTrunk
  exact State.updPort_within.after (.refl s)

theorem State.pairDone_within {p t1 t2 t3 t4} {s : State} : Within
    (fun s t => { s with ports := t.ports })
    s (s.pairDone p t1 t2 t3 t4) := by
  unfold State.pairDone
  exact State.updTrunk_within.after (.refl s)

theorem State.syncOutputs_within {s : State} : Within (fun s t => { s with outs := t.outs }) s s.syncOutputs := by
  unfold State.syncOutputs
  exact .foldl (fun _ _ h1 => .ite h1 (.ite (State.updOut_within.after h1) (.ite (State.updOut_within.after h1) (.ite
    (State.updOut_within.after h1) (.ite (State.updOut_within.after h1) (State.updOut_within.after h1)))))) _ (.refl s)

theorem State.takeToken_within {k e} {s : State} : Within
    (fun s t => { s with ts := { s.ts with ledger := t.ts.ledger } })
    s (s.takeToken k e).2 := by
  unfold State.takeToken
  split
  · exact .refl s
  · exact .ite_snd (.refl s) (.ite_snd (.refl s) (State.updEntry_within.after (.refl s)))

theorem State.signal_within {k} {s : State} : Within State.vectored s (s.signal k) := by
  unfold State.signal
  exact .ite (.refl s) (.ite (.put (.refl s)) (State.sendVector_within.after (.put (.refl s))))

theorem State.sealCookie_within {k c2s s2c} {s : State} : Within
    (fun s t => { s with bn := { s.bn with generates := t.bn.generates }, free := t.free })
    s (s.sealCookie k c2s s2c).2 := by
  have h1 := State.entropy_within (w := 128) (s := s)
  unfold State.sealCookie
  generalize s.entropy 128 = x at h1
  obtain ⟨nonce, t⟩ := x
  exact h1

theorem State.spiSample_within {a} {s : State} : Within
    (fun s t => { s with snap := t.snap, evt := { s.evt with lost := t.evt.lost }, win := { s.win with stray := t.win.stray } })
    s (s.spiSample a).2 := by
  unfold State.spiSample
  exact .ite_snd (.refl s) (State.barRead_within.after (.refl s))

theorem State.pdelayTake_within {p m} {s : State} : Within
    (fun s t => { s with
      ts := { s.ts with
        load := t.ts.load, waiting := t.ts.waiting, credit := t.ts.credit, servedAt := t.ts.servedAt, counters := t.ts.counters
        linkDelay := t.ts.linkDelay, linkPair := t.ts.linkPair } })
    s (s.pdelayTake p m) := by
  unfold State.pdelayTake
  refine .ite (.refl s) ?_
  refine .ite (State.tsCount_within.after (.refl s)) ?_
  refine .ite (State.tsCount_within.after (.refl s)) ?_
  refine .ite (.ite (.refl s) (State.tsCount_within.after (State.tsWork_within.after (.refl s)))) ?_
  refine .ite ?_ ?_
  · split
    · exact .ite (.put (.ite (.refl s) (State.tsCount_within.after (State.tsWork_within.after (.refl s))))) (.put (.ite (.refl s)
        (State.tsCount_within.after (State.tsWork_within.after (.refl s)))))
    · exact .ite (.refl s) (State.tsCount_within.after (State.tsWork_within.after (.refl s)))
  · refine .ite ?_ (.ite (.refl s) (State.tsCount_within.after (State.tsWork_within.after (.refl s))))
    split
    · exact .put (.ite (.refl s) (State.tsCount_within.after (State.tsWork_within.after (.refl s))))
    · exact .ite (.refl s) (State.tsCount_within.after (State.tsWork_within.after (.refl s)))

theorem State.noteRequest_within {p what stamp} {s : State} : Within
    (fun s t => { s with ts := { s.ts with linkPair := t.ts.linkPair, pair := t.ts.pair }, ports := t.ports })
    s (s.noteRequest p what stamp) := by
  unfold State.noteRequest
  exact .ite (State.updPort_within.after (.refl s)) (.ite (.put (.refl s)) (.put (.refl s)))

theorem State.spiRead_within {x1 x2 x3} {s : State} : Within
    (fun s t => { s with snap := t.snap, evt := { s.evt with lost := t.evt.lost }, win := { s.win with stray := t.win.stray } })
    s (s.spiRead x1 x2 x3).2 := by
  induction x1 generalizing x2 x3 s with
  | zero => exact .refl s
  | succ n ih => exact ih.after (.ite_snd (State.spiSample_within.after (.refl s)) (.refl s))

theorem State.service_within {i} {s : State} : Within
    (fun s t => { s with flt := { s.flt with records := t.flt.records } })
    s (s.service i) := by
  unfold State.service
  exact State.quieten_within.after (State.updRecord_within.after (.refl s))

theorem State.popQueue_within {p k c} {s : State} : Within (fun s t => { s with ports := t.ports }) s (s.popQueue p k c) := by
  unfold State.popQueue
  exact State.updPort_within.after (.refl s)

theorem State.excuse_within {p} {s : State} : Within (fun s t => { s with ports := t.ports }) s (s.excuse p) := by
  unfold State.excuse
  exact State.updPort_within.after (.refl s)

theorem State.freshCookies_within {n c2s s2c} {s : State} : Within
    (fun s t => { s with bn := { s.bn with generates := t.bn.generates }, free := t.free })
    s (s.freshCookies n c2s s2c).2 := by
  unfold State.freshCookies
  refine .foldl_snd (fun p _ h1 => ?_) _ (.refl s)
  split
  next k _ _ =>
    have h2 := (State.sealCookie_within (k := k) (c2s := c2s) (s2c := s2c)).after h1
    generalize p.2.sealCookie k c2s s2c = x at h2
    exact h2
  · exact h1

theorem State.chargeDeficits_within {p phase k} {s : State} : Within
    (fun s t => { s with ports := t.ports })
    s (s.chargeDeficits p phase k) := by
  unfold State.chargeDeficits
  refine .ite (.refl s) ?_
  split
  · exact State.updPort_within.after (.refl s)
  · exact .refl s

theorem State.moveGates_within {r} {s : State} : Within
    (fun s t => { s with cue := { s.cue with closedGates := t.cue.closedGates }, ports := t.ports })
    s (s.moveGates r) := by
  unfold State.moveGates
  exact .put ((State.updPort_within (p := r.target)).after (.refl s))

theorem State.raiseInt_within {k} {s : State} : Within State.raised s (s.raiseInt k) := by
  unfold State.raiseInt
  exact .ite (.refl s) (.ite (.put (.refl s)) (State.signal_within.after (.put (.refl s))))

theorem State.setMask_within {value} {s : State} : Within
    (fun s t => { s.vectored t with
      intr := { s.intr with
        mask := t.intr.mask, lastVec := t.intr.lastVec, delayed := t.intr.delayed, signalled := t.intr.signalled, pba := t.intr.pba } })
    s (s.setMask value) := by
  unfold State.setMask
  refine .foldl (fun _ _ h1 => State.signal_within.after h1) _ (.put (.refl s) (can := fun h => ⟨h.1, ?_⟩))
  exact Nat.mod_lt _ (by decide)

theorem State.placeEdge_within {r} {s : State} : Within (fun s t => { s with outs := t.outs, trace := t.trace }) s (s.placeEdge r) := by
  unfold State.placeEdge
  exact .ite (State.driveEdge_within.after (.refl s)) (.via (State.driveEdge_within.after (.refl s)) fun h1 => .ite
    (State.updOut_within.after h1) h1)

theorem State.putEvent_within {e} {s : State} : Within
    (fun s t => { s.raised t with evt := { s.evt with ring := t.evt.ring, head := t.evt.head, seq := t.evt.seq } })
    s (s.putEvent e) := by
  unfold State.putEvent
  exact State.raiseInt_within.after (.put (.refl s))

theorem State.noteFrom_within {old} {s : State} : Within State.raised s (State.noteFrom old s) := by
  unfold State.noteFrom
  exact .via (.ite (.refl s) (State.raiseInt_within.after (.refl s))) fun h1 => .ite (State.raiseInt_within.after h1) h1

theorem State.reshow_within {k quiet} {s : State} : Within
    (fun s t => { s.raised t with tci := { s.tci with mbx := t.tci.mbx } })
    s (s.reshow k quiet) := by
  unfold State.reshow
  exact .via (State.updMailbox_within.after (.refl s)) fun h1 => .ite h1 (State.raiseInt_within.after h1)

theorem State.writeResponse_within {k quiet r} {s : State} : Within
    (fun s t => { s.raised t with tci := { s.tci with mbx := t.tci.mbx } })
    s (s.writeResponse k quiet r) := by
  unfold State.writeResponse
  exact .via (State.updMailbox_within.after (.refl s)) fun h1 => .ite h1 (State.raiseInt_within.after h1)

theorem State.respond_within {q opcode status payload} {s : State} : Within
    (fun s t => { s.raised t with
      tci := { s.tci with mbx := t.tci.mbx }, dom := { s.dom with txSeq := t.dom.txSeq, queue := t.dom.queue } })
    s (s.respond q opcode status payload) := by
  unfold State.respond
  split
  · exact State.writeResponse_within.after (.refl s)
  · exact State.sendDomain_within.after (.refl s)

theorem State.reportLost_within {s : State} : Within
    (fun s t => { s.raised t with evt := { t.evt with tail := s.evt.tail, lost := s.evt.lost, kept := s.evt.kept } })
    s s.reportLost := by
  unfold State.reportLost
  exact .ite (.refl s) (State.putEvent_within.after (.put (.refl s)))

theorem State.writeEvent_within {e} {s : State} : Within
    (fun s t => { s.raised t with evt := { t.evt with tail := s.evt.tail, kept := s.evt.kept } })
    s (s.writeEvent e) := by
  unfold State.writeEvent
  exact .via (State.reportLost_within.after (.refl s)) fun h1 => .ite (State.loseEvent_within.after h1) (State.putEvent_within.after h1)

theorem State.inbandOff_within {s : State} : Within
    (fun s t => { s.raised t with
      tci := { s.tci with mbx := t.tci.mbx, rung := t.tci.rung }, inb := { s.inb with enable := t.inb.enable }
      dom := { s.dom with txSeq := t.dom.txSeq, queue := t.dom.queue } })
    s s.inbandOff := by
  unfold State.inbandOff
  exact .foldl (fun _ _ h1 => State.respond_within.after h1) _ (.put (.refl s))

theorem State.repostResults_within {s : State} : Within
    (fun s t => { s.raised t with evt := { t.evt with tail := s.evt.tail, kept := s.evt.kept }, meas := { s.meas with job := t.meas.job } })
    s s.repostResults := by
  unfold State.repostResults
  refine .foldl (fun _ _ h1 => ?_) _ (.refl s)
  split
  · exact .ite h1 (State.writeEvent_within.after (State.updJob_within.after h1))
  · exact h1

theorem State.flashLost_within {part device} {s : State} : Within
    (fun s t => { s.raised t with fw := t.fw, mid := { s.mid with loc := t.mid.loc } })
    s (s.flashLost part device) := by
  unfold State.flashLost
  exact .ite (State.noteFrom_within.after (.put (.refl s))) (.ite (.put (.refl s)) (.refl s))

theorem State.postKeptCues_within {s : State} : Within
    (fun s t => { s.raised t with evt := { t.evt with tail := s.evt.tail, kept := s.evt.kept }, cue := { s.cue with kept := t.cue.kept } })
    s s.postKeptCues := by
  unfold State.postKeptCues
  exact .foldl (fun _ _ h1 => State.writeEvent_within.after h1) _ (.put (.refl s))

theorem State.refuseInband_within {q opcode status} {s : State} : Within
    (fun s t => { s.raised t with
      tci := { s.tci with mbx := t.tci.mbx }, inb := { s.inb with refused := t.inb.refused }
      dom := { s.dom with txSeq := t.dom.txSeq, queue := t.dom.queue } })
    s (s.refuseInband q opcode status) := by
  unfold State.refuseInband
  exact .ite (State.respond_within.after (.refl s)) (.put (.refl s))

theorem State.answerRefused_within {s : State} : Within
    (fun s t => { s.raised t with
      tci := { s.tci with mbx := t.tci.mbx }, inb := { s.inb with refused := t.inb.refused }
      dom := { s.dom with txSeq := t.dom.txSeq, queue := t.dom.queue } })
    s s.answerRefused := by
  unfold State.answerRefused
  exact .foldl (fun _ _ h1 => State.respond_within.after h1) _ (.put (.refl s))

theorem State.postAt_within {cause code payload} {s : State} : Within State.reported s (s.postAt cause code payload) := by
  unfold State.postAt
  exact .ite (State.writeEvent_within.after (.refl s)) (.put (.refl s))

theorem State.setEvtTail_within {value} {s : State} : Within
    (fun s t => { s.raised t with evt := { t.evt with lost := s.evt.lost, kept := s.evt.kept } })
    s (s.setEvtTail value) := by
  unfold State.setEvtTail
  exact .ite (State.reportLost_within.after (.put (.refl s))) (.put (.refl s))

theorem State.postClosing_within {k status} {s : State} : Within
    (fun s t => { s.reported t with win := { s.win with closing := t.win.closing } })
    s (s.postClosing k status) := by
  unfold State.postClosing
  split
  · exact .refl s
  · exact .ite (State.writeEvent_within.after (.put (.refl s))) (.put (.refl s))

theorem State.endWait_within {w status payload} {s : State} : Within
    (fun s t => { s.reported t with
      tci := { s.tci with mbx := t.tci.mbx }, win := { s.win with closing := t.win.closing }
      dom := { s.dom with txSeq := t.dom.txSeq, queue := t.dom.queue } })
    s (s.endWait w status payload) := by
  unfold State.endWait
  split
  · exact State.postClosing_within.after (State.respond_within.after (.refl s))
  · exact State.respond_within.after (.refl s)

theorem State.post_within {code payload} {s : State} : Within State.reported s (s.post code payload) := by
  unfold State.post
  exact State.postAt_within.after (.refl s)

theorem State.finishAll_within {p status payload} {s : State} : Within
    (fun s t => { s.reported t with
      tci := { s.tci with mbx := t.tci.mbx, aside := t.tci.aside }, win := { s.win with closing := t.win.closing }
      dom := { s.dom with txSeq := t.dom.txSeq, queue := t.dom.queue } })
    s (s.finishAll p status payload) := by
  unfold State.finishAll
  exact .foldl (fun _ _ h1 => State.endWait_within.after h1) _ (.put (.refl s))

theorem State.counterHalf_within {old new opcode request offset} {s : State} : Within
    State.reported
    s (s.counterHalf old new opcode request offset) := by
  unfold State.counterHalf
  exact .ite (State.post_within.after (.refl s)) (.refl s)

theorem State.setIndicator_within {hard k v} {s : State} : Within
    (fun s t => { s.reported t with gnss := t.gnss })
    s (s.setIndicator hard k v) := by
  unfold State.setIndicator
  exact .ite (.refl s) (State.postAt_within.after (.put (.refl s)))

theorem State.stampRecord_within {port tag stamp} {s : State} : Within
    (fun s t => { s.reported t with stamps := { s.stamps with idx := t.stamps.idx, phase := t.stamps.phase }, ports := t.ports })
    s (s.stampRecord port tag stamp) := by
  unfold State.stampRecord
  exact .ite (.put (.refl s)) (State.counterHalf_within.after (.put (.refl s)))

theorem State.applyIndicators_within {s : State} : Within (fun s t => { s.reported t with gnss := t.gnss }) s s.applyIndicators := by
  unfold State.applyIndicators
  exact .put (.foldl (fun _ _ h1 => .ite (State.setIndicator_within.after h1) (.ite (State.setIndicator_within.after h1) h1)) _ (.refl
    s))

theorem State.flowCount_within {f i} {s : State} : Within
    (fun s t => { s.reported t with sw := { s.sw with flowCtr := t.sw.flowCtr } })
    s (s.flowCount f i) := by
  unfold State.flowCount
  exact State.counterHalf_within.after (.put (.refl s))

theorem State.postSeal_within {s : State} : Within State.reported s s.postSeal := by
  unfold State.postSeal
  exact State.post_within.after (.refl s)

theorem State.sendAck_within {c} {s : State} : Within
    (fun s t => { s.reported t with
      dom := { s.dom with txSeq := t.dom.txSeq, queue := t.dom.queue }
      cue := { s.cue with rounds := t.cue.rounds, cancels := t.cue.cancels, results := t.cue.results } })
    s (s.sendAck c) := by
  unfold State.sendAck
  extract_lets +onlyGivenNames done s1
  refine .via (t := s1) (State.mapRounds_within.after (.refl s)) fun h1 => ?_
  clear_value s1
  refine .ite ?_ ?_
  · suffices h : ∀ l, Within _ s { s1 with cue := { s1.cue with results := l } } from State.post_within.after (h _)
    exact fun l => .put h1
  · split
    · exact State.sendDomain_within.after h1
    · exact h1

theorem State.leapCompare_within {e} {s : State} : Within
    (fun s t => { s.reported t with
      gnss := { s.gnss with leapMismatch := t.gnss.leapMismatch, bcUtc := t.gnss.bcUtc, bcNext := t.gnss.bcNext, bcLeap := t.gnss.bcLeap } })
    s (s.leapCompare e) := by
  unfold State.leapCompare
  split
  · exact .refl s
  · exact .ite (State.postAt_within.after (.put (.refl s))) (.put (.refl s))

theorem State.answerLost_within {s : State} : Within
    (fun s t => { s.reported t with
      tci := { s.tci with mbx := t.tci.mbx, lost := t.tci.lost }, win := { s.win with closing := t.win.closing }
      dom := { s.dom with txSeq := t.dom.txSeq, queue := t.dom.queue } })
    s s.answerLost := by
  unfold State.answerLost
  exact .foldl (fun _ _ h1 => State.endWait_within.after h1) _ (.put (.refl s))

theorem State.postStart_within {s : State} : Within
    (fun s t => { s.reported t with
      meas := { s.meas with job := t.meas.job }, cue := { s.cue with kept := t.cue.kept }, flt := { s.flt with toPost := t.flt.toPost } })
    s s.postStart := by
  unfold State.postStart
  exact State.post_within.after (State.repostResults_within.after (State.postKeptCues_within.after (.foldl (fun _ _ h1 =>
    State.writeEvent_within.after h1) _ (.put (.refl s)))))

theorem State.setPreempt_within {p st} {s : State} : Within (fun s t => { s.reported t with ports := t.ports }) s (s.setPreempt p st) := by
  unfold State.setPreempt
  exact .ite (.refl s) (State.post_within.after (State.updPort_within.after (.refl s)))

theorem State.putResult_within {i word} {s : State} : Within
    (fun s t => { s.reported t with meas := { s.meas with job := t.meas.job } })
    s (s.putResult i word) := by
  unfold State.putResult
  exact .ite (State.post_within.after (State.updJob_within.after (.refl s))) (State.updJob_within.after (.refl s))

theorem State.setLink_within {p st cause} {s : State} : Within
    (fun s t => { s.reported t with ports := t.ports })
    s (s.setLink p st cause) := by
  unfold State.setLink
  exact .ite (.refl s) (State.post_within.after (State.updPort_within.after (.refl s)))

theorem State.queueCount_within {p k i} {s : State} : Within
    (fun s t => { s.reported t with sw := { s.sw with qCtr := t.sw.qCtr } })
    s (s.queueCount p k i) := by
  unfold State.queueCount
  exact State.counterHalf_within.after (.put (.refl s))

theorem State.postWindow_within {opcode status} {s : State} : Within State.reported s (s.postWindow opcode status) := by
  unfold State.postWindow
  exact State.post_within.after (.refl s)

theorem State.openWindow_within {c q k} {s : State} : Within
    (fun s t => { s.reported t with
      tci := { s.tci with mbx := t.tci.mbx }
      win := { s.win with state := t.win.state, mbx := t.win.mbx, deadline := t.win.deadline, held := t.win.held, pressIn := t.win.pressIn } })
    s (s.openWindow c q k) := by
  unfold State.openWindow
  exact State.noteFrom_within.after (State.postWindow_within.after (State.writeResponse_within.after (.put (.refl s))))

theorem State.swCount_within {i} {s : State} : Within (fun s t => { s.reported t with sw := t.sw }) s (s.swCount i) := by
  unfold State.swCount
  exact State.counterHalf_within.after (.put (.refl s))

theorem State.settleClass_within {s : State} : Within
    (fun s t => { s.reported t with sel := { s.sel with clockClass := t.sel.clockClass } })
    s s.settleClass := by
  unfold State.settleClass
  exact .ite (.refl s) (State.post_within.after (.put (.refl s)))

theorem State.finish_within {p status payload} {s : State} : Within
    (fun s t => { s.reported t with
      tci := { s.tci with mbx := t.tci.mbx, aside := t.tci.aside }, win := { s.win with closing := t.win.closing }
      dom := { s.dom with txSeq := t.dom.txSeq, queue := t.dom.queue } })
    s (s.finish p status payload) := by
  unfold State.finish
  split
  · exact State.endWait_within.after (.put (.refl s))
  · exact .refl s

theorem State.memCount_within {k} {s : State} : Within
    (fun s t => { s.reported t with mem := { s.mem with counters := t.mem.counters } })
    s (s.memCount k) := by
  unfold State.memCount
  exact State.counterHalf_within.after (.put (.refl s))

theorem State.learnOne_within {v mac p} {s : State} : Within (fun s t => { s.reported t with sw := t.sw }) s (s.learnOne v mac p) := by
  unfold State.learnOne
  refine .ite (.ite (.refl s) (State.swCount_within.after (.refl s))) ?_
  split
  · exact .ite (State.swCount_within.after (.refl s)) (.put (.refl s))
  · exact .ite (State.swCount_within.after (.refl s)) (.ite (State.swCount_within.after (.refl s)) (.put (.refl s)))

theorem State.mirrorCount_within {k i} {s : State} : Within
    (fun s t => { s.reported t with sw := { s.sw with mirrors := t.sw.mirrors } })
    s (s.mirrorCount k i) := by
  unfold State.mirrorCount
  exact State.counterHalf_within.after (State.updMirror_within.after (.refl s))

theorem State.loseSlot_within {p} {s : State} : Within (fun s t => { s.reported t with ports := t.ports }) s (s.loseSlot p) := by
  unfold State.loseSlot
  split
  · exact .via (State.updPort_within.after (.refl s)) fun h1 => .ite (State.counterHalf_within.after (State.updPort_within.after h1))
      (State.updPort_within.after h1)
  · exact .refl s

theorem State.writeDone_within {w} {s : State} : Within
    (fun s t => { s.reported t with
      tci := { s.tci with mbx := t.tci.mbx, aside := t.tci.aside }, win := { s.win with closing := t.win.closing }
      dom := { s.dom with txSeq := t.dom.txSeq, queue := t.dom.queue }
      ts := { s.ts with
        cookies := t.ts.cookies, rotateDue := t.ts.rotateDue, rotating := t.ts.rotating, rotateLate := t.ts.rotateLate
        lastRotation := t.ts.lastRotation, counters := t.ts.counters }
      keys := { t.keys with erase := s.keys.erase, cache := s.keys.cache } })
    s (s.writeDone w) := by
  have keyed : ∀ a, Within (fun s t => { s.reported t with keys := { t.keys with erase := s.keys.erase, cache := s.keys.cache } }) s
      (w.slots.foldl (fun t e => t.post 0x0C01 [(8, e.1), (8, (s.slot e.1).typ), (8, e.2.typ)])
        { s with keys := { s.keys with slot := a, mirror := some a, salt := true, writes := s.keys.writes.drop 1 } }) := fun a =>
    .foldl (fun _ _ h1 => State.post_within.after h1) _ (.put (.refl s))
  unfold State.writeDone
  extract_lets +onlyGivenNames put slots cookie _ s1 s2
  refine .via (t := s2) ((keyed slots).after (.refl s)) fun h2 => ?_
  clear_value s2
  induction s2 using State.generic with | all s2 => ?_
  extract_lets +onlyGivenNames _ s3 s4
  refine .via (t := s4) ?_ fun h4 => ?_
  · suffices h3 : ∀ c, Within _ s { s2 with ts := { s2.ts with cookies := c } } by
      unfold s4
      split
      · exact State.finish_within.after (.ite (h3 _) h2)
      · exact .ite (h3 _) h2
    exact fun c => .put h2
  clear_value s4
  induction s4 using State.generic with | all s4 => ?_
  suffices h5 : ∀ x y z n, Within _ s { s4 with ts := { s4.ts with rotating := x, rotateLate := y, lastRotation := z, rotateDue := n } } from
    .ite (.via (State.post_within.after (h5 _ _ _ _)) fun h6 => .ite (State.tsCount_within.after h6) h6) (.ite (h5 _ _ _ _) h4)
  exact fun x y z n => .put h4

theorem State.driveFaultN_within {s : State} : Within
    (fun s t => { s.reported t with flt := { s.flt with faultN := t.flt.faultN, recoveries := t.flt.recoveries } })
    s s.driveFaultN := by
  unfold State.driveFaultN
  exact .ite (State.post_within.after (.put (.refl s))) (.put (.refl s))

theorem State.endDisputes_within {r} {s : State} : Within
    (fun s t => { s.reported t with sel := { s.sel with pairs := t.sel.pairs } })
    s (s.endDisputes r) := by
  unfold State.endDisputes
  exact .foldl (fun _ _ h1 => State.post_within.after h1) _ (.put (.refl s))

theorem State.rootEnds_within {outcome} {s : State} : Within
    (fun s t => { s.reported t with rnd := { s.rnd with root := t.rnd.root, rootRec := t.rnd.rootRec, results := t.rnd.results } })
    s (s.rootEnds outcome) := by
  unfold State.rootEnds
  exact State.post_within.after (.put (.refl s))

theorem State.setTrunk_within {p st} {s : State} : Within (fun s t => { s.reported t with ports := t.ports }) s (s.setTrunk p st) := by
  unfold State.setTrunk
  exact .ite (.refl s) (State.post_within.after (State.updTrunk_within.after (.refl s)))

theorem State.strangerBucket_within {halves} {s : State} : Within
    (fun s t => { s.reported t with
      ts := { s.ts with stranger := t.ts.stranger, strangerTick := t.ts.strangerTick, capDropAt := t.ts.capDropAt, offered := t.ts.offered } })
    s (s.strangerBucket halves).2 := by
  have h0 : ∀ o, Within (fun s t => { s with ts := { s.ts with offered := t.ts.offered } }) s { s with ts := { s.ts with offered := o } } :=
    fun o => .put (.refl s)
  refine WithinSnd.snd ?_
  unfold State.strangerBucket
  extract_lets +onlyGivenNames rate t now offered s1
  refine .via (t := s1) ((h0 offered).after (.refl s)) fun h1 => ?_
  clear_value s1
  induction s1 using State.generic with | all s1 => ?_
  suffices h : ∀ x y z, Within _ s { s1 with ts := { s1.ts with stranger := x, strangerTick := y, capDropAt := z } } from
    .ite (.pair h1) (.ite (.pair (h _ _ _)) (.pair (.ite (State.post_within.after (h _ _ _)) (h _ _ _))))
  exact fun x y z => .put h1

theorem State.stat_within {p k n} {s : State} : Within (fun s t => { s.reported t with ports := t.ports }) s (s.stat p k n) := by
  unfold State.stat
  exact .via (State.updPort_within.after (.refl s)) fun h1 => .ite (State.post_within.after h1) h1

theorem State.ruleHit_within {r} {s : State} : Within
    (fun s t => { s.reported t with sw := { s.sw with ruleHits := t.sw.ruleHits } })
    s (s.ruleHit r) := by
  unfold State.ruleHit
  exact State.counterHalf_within.after (.put (.refl s))

theorem State.snoopReport_within {v p group v6} {s : State} : Within
    (fun s t => { s.reported t with sw := t.sw })
    s (s.snoopReport v p group v6) := by
  unfold State.snoopReport
  exact .ite (.put (.refl s)) (.ite (State.swCount_within.after (.refl s)) (.put (.refl s)))

theorem State.chargeBuckets_within {p k n} {s : State} : Within
    (fun s t => { s.reported t with ports := t.ports, sw := { s.sw with qCtr := t.sw.qCtr } })
    s (s.chargeBuckets p k n) := by
  unfold State.chargeBuckets
  extract_lets +onlyGivenNames b
  refine .ite ?_ (.ite (.refl s) (State.updPort_within.after (.refl s)))
  generalize takeBucket _ _ _ _ _ = x
  obtain ⟨ok, bk⟩ := x
  exact .ite (State.updPort_within.after (.refl s)) (State.queueCount_within.after (State.updPort_within.after (.refl s)))

theorem State.enqueue_within {p c} {s : State} : Within
    (fun s t => { s.reported t with ports := t.ports, sw := { s.sw with peak := t.sw.peak, qCtr := t.sw.qCtr } })
    s (s.enqueue p c).2 := by
  unfold State.enqueue
  split
  · exact .ite (State.queueCount_within.after (.refl s)) (.refl s)
  · exact .via (State.queueCount_within.after (State.updPort_within.after (.refl s))) fun h1 => State.notePeak_within.after (.ite
      (State.queueCount_within.after h1) h1)

theorem State.countFec_within {p f} {s : State} : Within (fun s t => { s.reported t with ports := t.ports }) s (s.countFec p f) := by
  unfold State.countFec
  exact .ite (.via (.ite (.refl s) (State.stat_within.after (.refl s))) fun h1 => .ite h1 (State.stat_within.after h1)) (.refl s)

theorem State.adopt_within {s : State} : Within
    (fun s t => { s.reported t with
      flt := { s.flt with
        records := t.flt.records, src := t.flt.src, frozen := t.flt.frozen, nextOpen := t.flt.nextOpen, takeRec := t.flt.takeRec } })
    s s.adopt := by
  unfold State.adopt
  split
  · exact .refl s
  · split
    next i _ _ _ =>
      exact State.post_within.after (State.updSrc_within.after (State.setRecord_within.after (.put ((State.claim_within (i := i)).after
        (.refl s)))))
    · exact .refl s

theorem State.takeResponse_within {f} {s : State} : Within
    (fun s t => { s.reported t with
      tci := { s.tci with mbx := t.tci.mbx, aside := t.tci.aside }, win := { s.win with closing := t.win.closing }
      dom := { s.dom with txSeq := t.dom.txSeq, queue := t.dom.queue } })
    s (s.takeResponse f) := by
  unfold State.takeResponse
  exact State.finish_within.after (.refl s)

theorem State.flushPort_within {p} {s : State} : Within
    (fun s t => { s.reported t with dom := { s.dom with queue := t.dom.queue }, ports := t.ports })
    s (s.flushPort p) := by
  unfold State.flushPort
  exact State.updPort_within.after (State.stat_within.after (.put (.refl s)))

theorem State.clearRecord_within {i} {s : State} : Within
    (fun s t => { s.reported t with flt := { s.flt with records := t.flt.records, frozen := t.flt.frozen, takeRec := t.flt.takeRec } })
    s (s.clearRecord i) := by
  unfold State.clearRecord
  exact .via (State.post_within.after (State.updRecord_within.after (.refl s))) fun h1 => .ite (.put h1) h1

theorem State.dropAssembly_within {p} {s : State} : Within (fun s t => { s.reported t with ports := t.ports }) s (s.dropAssembly p) := by
  unfold State.dropAssembly
  exact State.updPort_within.after (State.stat_within.after (.refl s))

theorem State.cueEndEvent_within {payload executed cause} {s : State} : Within
    (fun s t => { s.reported t with cue := { s.cue with dropped := t.cue.dropped, kept := t.cue.kept } })
    s (s.cueEndEvent payload executed cause) := by
  unfold State.cueEndEvent
  exact .ite (State.postAt_within.after (.refl s)) (.ite (.put (.refl s)) (State.counterHalf_within.after (.put (.refl s))))

theorem State.gnssDisqualify_within {s : State} : Within
    (fun s t => { s.reported t with
      gnss := { s.gnss with
        rx := t.gnss.rx, before := t.gnss.before, hardSet := t.gnss.hardSet, disqs := t.gnss.disqs, predPasses := t.gnss.predPasses } })
    s s.gnssDisqualify := by
  unfold State.gnssDisqualify
  exact .ite (State.counterHalf_within.after (.put (.refl s))) (.refl s)

theorem State.treatDelta_within {r d} {s : State} : Within
    (fun s t => { s.reported t with
      time := t.time
      sel := { s.sel with
        state := t.sel.state, since := t.sel.since, e := t.sel.e, lockRun := t.sel.lockRun, pendingPhase := t.sel.pendingPhase
        e0 := t.sel.e0, blocked := t.sel.blocked, tested := t.sel.tested, acqClass := t.sel.acqClass, yHist := t.sel.yHist
        yAt := t.sel.yAt, stateAt := t.sel.stateAt }
      hold := t.hold })
    s (s.treatDelta r d) := by
  unfold State.treatDelta
  exact .ite (State.enterSel_within.after (.put (.refl s))) (State.post_within.after (State.enterSel_within.after (.put (.refl s))))

theorem State.trunkCount_within {p k} {s : State} : Within (fun s t => { s.reported t with ports := t.ports }) s (s.trunkCount p k) := by
  unfold State.trunkCount
  exact State.counterHalf_within.after (State.updTrunk_within.after (.refl s))

theorem State.writeRefused_within {w} {s : State} : Within
    (fun s t => { s.reported t with
      tci := { s.tci with mbx := t.tci.mbx, aside := t.tci.aside }, win := { s.win with closing := t.win.closing }
      dom := { s.dom with txSeq := t.dom.txSeq, queue := t.dom.queue }, keys := { s.keys with writes := t.keys.writes } })
    s (s.writeRefused w) := by
  unfold State.writeRefused
  split
  · exact State.finish_within.after (.put (.refl s))
  · exact .put (.refl s)

theorem State.bnCount_within {i n} {s : State} : Within (fun s t => { s.reported t with bn := t.bn }) s (s.bnCount i n) := by
  unfold State.bnCount
  exact State.counterHalf_within.after (.put (.refl s))

theorem State.settleFaults_within {old} {s : State} : Within
    (fun s t => { s.reported t with
      flt := { s.flt with
        records := t.flt.records, src := t.flt.src, frozen := t.flt.frozen, faultN := t.flt.faultN, recoveries := t.flt.recoveries
        nextOpen := t.flt.nextOpen, takeRec := t.flt.takeRec } })
    s (State.settleFaults old s) := by
  unfold State.settleFaults
  exact State.noteFrom_within.after (State.driveFaultN_within.after (State.adopt_within.after (.refl s)))

theorem State.faultEvent_within {code master access address injected} {s : State} : Within
    State.noted
    s (s.faultEvent code master access address injected) := by
  unfold State.faultEvent
  extract_lets +onlyGivenNames s0 merge
  refine .via (t := s0) (State.updSrc_within.after (.refl s)) fun h0 => ?_
  clear_value s0 merge
  split
  · exact State.settleFaults_within.after (State.updRecord_within.after h0)
  extract_lets +onlyGivenNames sv lastAt old cnt severe s1
  refine .via (t := s1) (State.updSrc_within.after h0) fun h1 => ?_
  clear_value s1
  split
  · extract_lets +onlyGivenNames r r1 s2
    refine .via (t := s2) ?_ fun h2 => ?_
    · unfold s2
      split
      · exact .ite (State.quieten_within.after (State.post_within.after (State.setRecord_within.after h1)))
          (State.setRecord_within.after h1)
      · exact State.quieten_within.after (State.setRecord_within.after h1)
    · clear_value s2
      exact State.settleFaults_within.after (.ite h2 (State.linkInjected_within.after h2))
  · split
    · extract_lets +onlyGivenNames st r c
      refine .via (t := c) (State.claim_within.after h1) fun hc => ?_
      clear_value c
      extract_lets +onlyGivenNames _ s2 s3
      refine .via (t := s2) (State.updSrc_within.after (State.setRecord_within.after (.put hc))) fun h2 => ?_
      clear_value s2
      exact State.settleFaults_within.after (State.post_within.after (.ite h2 (State.linkInjected_within.after h2)))
    · exact State.settleFaults_within.after (State.counterHalf_within.after (State.updSrc_within.after (.put h1)))

theorem State.countTx_within {p dst n} {s : State} : Within (fun s t => { s.reported t with ports := t.ports }) s (s.countTx p dst n) := by
  unfold State.countTx
  exact State.stat_within.after (State.stat_within.after (State.stat_within.after (State.stat_within.after (.refl s))))

theorem State.conditionEnds_within {code} {s : State} : Within
    (fun s t => { s.reported t with
      flt := { s.flt with
        records := t.flt.records, src := t.flt.src, frozen := t.flt.frozen, faultN := t.flt.faultN, recoveries := t.flt.recoveries
        nextOpen := t.flt.nextOpen, takeRec := t.flt.takeRec } })
    s (s.conditionEnds code) := by
  unfold State.conditionEnds
  refine .ite ?_ (.refl s)
  extract_lets +onlyGivenNames s1
  refine .via (t := s1) (State.updSrc_within.after (.refl s)) fun h1 => ?_
  clear_value s1
  split
  · exact State.settleFaults_within.after (State.quieten_within.after (State.updRecord_within.after h1))
  · exact h1

theorem State.startPreempt_within {p} {s : State} : Within (fun s t => { s.reported t with ports := t.ports }) s (s.startPreempt p) := by
  unfold State.startPreempt
  exact .ite (State.setPreempt_within.after (State.updPort_within.after (.refl s))) (.ite (State.setPreempt_within.after
    (State.updPort_within.after (.refl s))) (.ite (State.setPreempt_within.after (State.updPort_within.after (.refl s)))
    (State.setPreempt_within.after (State.updPort_within.after (.refl s)))))

theorem State.bufferLost_within {p id} {s : State} : Within
    (fun s t => { s.reported t with
      ports := t.ports, host := { s.host with queue := t.host.queue }, mem := { s.mem with counters := t.mem.counters } })
    s (s.bufferLost p id) := by
  unfold State.bufferLost
  exact .via (.put ((State.memCount_within (k := 8)).after (.refl s))) fun h1 => .ite (State.stat_within.after (.put h1)) (.ite h1
    (State.updPort_within.after h1))

theorem State.answerJob_within {j status f} {s : State} : Within
    (fun s t => { s.reported t with
      tci := { s.tci with mbx := t.tci.mbx, aside := t.tci.aside }, win := { s.win with closing := t.win.closing }
      dom := { s.dom with txSeq := t.dom.txSeq, queue := t.dom.queue } })
    s (s.answerJob j status f) := by
  unfold State.answerJob
  exact State.finish_within.after (.refl s)

theorem State.startPcs_within {p} {s : State} : Within (fun s t => { s.reported t with ports := t.ports }) s (s.startPcs p) := by
  unfold State.startPcs
  exact State.setLink_within.after (State.updPort_within.after (.refl s))

theorem State.holdExpires_within {p} {s : State} : Within
    (fun s t => { s.reported t with dom := { s.dom with queue := t.dom.queue }, ports := t.ports })
    s (s.holdExpires p) := by
  unfold State.holdExpires
  exact State.setLink_within.after (State.flushPort_within.after (.refl s))

theorem State.flashRefresh_within {part} {s : State} : Within
    (fun s t => { s.reported t with mem := { s.mem with counters := t.mem.counters, flash := t.mem.flash } })
    s (s.flashRefresh part) := by
  unfold State.flashRefresh
  exact State.updFlash_within.after (State.memCount_within.after (.refl s))

theorem State.treatPhase_within {r} {s : State} : Within
    (fun s t => { s.reported t with
      time := t.time, refs := t.refs
      sel := { s.sel with
        state := t.sel.state, since := t.sel.since, setting := t.sel.setting, e := t.sel.e, lockRun := t.sel.lockRun
        pendingPhase := t.sel.pendingPhase, e0 := t.sel.e0, blocked := t.sel.blocked, tested := t.sel.tested, acqClass := t.sel.acqClass
        yHist := t.sel.yHist, yAt := t.sel.yAt, stateAt := t.sel.stateAt }
      hold := t.hold })
    s (s.treatPhase r) := by
  unfold State.treatPhase
  exact .ite (State.enterSel_within.after (State.updRef_within.after (.refl s))) (.ite (State.enterSel_within.after (.put (.refl s)))
    (State.treatDelta_within.after (.refl s)))

theorem State.takeRef_within {r} {s : State} : Within
    (fun s t => { s.reported t with
      time := t.time, refs := t.refs
      sel := { t.sel with
        mode := s.sel.mode, manual := s.sel.manual, wtr := s.sel.wtr, actMode := s.sel.actMode, actManual := s.sel.actManual
        actWtr := s.sel.actWtr, fell := s.sel.fell, pairs := s.sel.pairs, loopHeld := s.sel.loopHeld, integ := s.sel.integ
        lastType := s.sel.lastType, lockType := s.sel.lockType, lockTr := s.sel.lockTr, everLocked := s.sel.everLocked
        clockClass := s.sel.clockClass, lastUpdate := s.sel.lastUpdate }
      hold := t.hold })
    s (s.takeRef r) := by
  unfold State.takeRef
  exact .via (.ite (.put (.refl s)) (State.treatPhase_within.after (.put (.refl s)))) fun h1 => State.post_within.after (.ite (.put h1)
    h1)

theorem State.closeWindow_within {status} {s : State} : Within
    (fun s t => { s.reported t with
      tci := { s.tci with mbx := t.tci.mbx }, win := { s.win with state := t.win.state, held := t.win.held, pressIn := t.win.pressIn }
      dom := { s.dom with txSeq := t.dom.txSeq, queue := t.dom.queue } })
    s (s.closeWindow status) := by
  unfold State.closeWindow
  split
  · exact State.noteFrom_within.after (State.postWindow_within.after (State.respond_within.after (.put (.refl s))))
  · exact .refl s

theorem State.fireInjected_within {code} {s : State} : Within
    (fun s t => { s.noted t with
      flt := { s.flt with
        records := t.flt.records, src := t.flt.src, frozen := t.flt.frozen, faultN := t.flt.faultN, recoveries := t.flt.recoveries
        ledgerFull := t.flt.ledgerFull, nextOpen := t.flt.nextOpen, takeRec := t.flt.takeRec, injects := t.flt.injects } })
    s (s.fireInjected code) := by
  unfold State.fireInjected
  split
  · exact State.faultEvent_within.after (.put (.refl s))
  · exact .refl s

theorem State.admitReq_within {p cls halves} {s : State} : Within
    (fun s t => { s.reported t with
      ts := { s.ts with
        stranger := t.ts.stranger, strangerTick := t.ts.strangerTick, capDropAt := t.ts.capDropAt, offered := t.ts.offered
        load := t.ts.load, waiting := t.ts.waiting, credit := t.ts.credit, servedAt := t.ts.servedAt, admitUse := t.ts.admitUse
        counters := t.ts.counters } })
    s (s.admitReq p cls halves).2 := by
  unfold State.admitReq
  exact .ite_snd (State.admitDrop_within.after (.refl s)) (.via (.ite_snd (State.strangerBucket_within.after (.put (.refl s))) (.put
    (.refl s))) fun h1 => .ite_snd (State.admitDrop_within.after h1) (State.tsCount_within.after (State.tsWork_within.after h1)))

theorem State.failFrame_within {p k} {s : State} : Within (fun s t => { s.reported t with ports := t.ports }) s (s.failFrame p k) := by
  unfold State.failFrame
  exact State.updTrunk_within.after (State.trunkCount_within.after (.refl s))

theorem State.tsQueue_within {p c0} {s : State} : Within
    (fun s t => { s.reported t with ports := t.ports, sw := { s.sw with peak := t.sw.peak, qCtr := t.sw.qCtr, nextId := t.sw.nextId } })
    s (s.tsQueue p c0).2 := by
  unfold State.tsQueue
  refine .ite_snd (.refl s) ?_
  extract_lets +onlyGivenNames b pool c _ s1 push
  have h1 : Within (fun s t => { s with sw := { s.sw with nextId := t.sw.nextId } }) s s1 := .put (.refl s)
  have pushed : ∀ x, Within (fun s t => { s.reported t with ports := t.ports, sw := { s.sw with qCtr := t.sw.qCtr, peak := t.sw.peak } })
      s1 (push x).2 := fun x =>
    State.notePeak_within.after (State.queueCount_within.after (State.updPort_within.after (.refl s1)))
  clear_value push
  refine .ite_snd (.ite_snd ((pushed _).after (h1.after (.refl s))) (h1.after (.refl s))) ?_
  split
  · exact (pushed _).after (h1.after (.refl s))
  · exact h1.after (.refl s)

theorem State.resumeCut_within {p w} {s : State} : Within (fun s t => { s.reported t with ports := t.ports }) s (s.resumeCut p w) := by
  unfold State.resumeCut
  exact .ite (State.stat_within.after (State.updPort_within.after (.refl s))) (.refl s)

theorem State.clearWhere_within {p} {s : State} : Within
    (fun s t => { s.reported t with
      flt := { s.flt with
        records := t.flt.records, src := t.flt.src, frozen := t.flt.frozen, faultN := t.flt.faultN, recoveries := t.flt.recoveries
        nextOpen := t.flt.nextOpen, takeRec := t.flt.takeRec } })
    s (s.clearWhere p) := by
  unfold State.clearWhere
  exact .foldl (fun _ _ h1 => State.settleFaults_within.after (State.clearRecord_within.after h1)) _ (.refl s)

theorem State.localLoaded_within {w} {s : State} : Within
    (fun s t => { s.reported t with
      tci := { s.tci with mbx := t.tci.mbx, aside := t.tci.aside }, win := { s.win with closing := t.win.closing }
      dom := { s.dom with txSeq := t.dom.txSeq, queue := t.dom.queue }, cue := { s.cue with rows := t.cue.rows, nextSeq := t.cue.nextSeq }
      banks := { s.banks with state := t.banks.state } })
    s (s.localLoaded w) := by
  unfold State.localLoaded
  exact .ite (State.finish_within.after (.refl s)) (.ite (.ite (State.finish_within.after (.refl s)) (.ite (State.finish_within.after
    (.refl s)) (State.finish_within.after (.put (State.armRow_within.after (.refl s)))))) (State.updWaits_within.after (.refl s)))

theorem State.answerStep_within {c delta slewed} {s : State} : Within
    (fun s t => { s.reported t with
      tci := { s.tci with mbx := t.tci.mbx, aside := t.tci.aside }, win := { s.win with closing := t.win.closing }
      dom := { s.dom with txSeq := t.dom.txSeq, queue := t.dom.queue } })
    s (s.answerStep c delta slewed) := by
  unfold State.answerStep
  exact .ite (State.finish_within.after (.refl s)) (.refl s)

theorem State.settleTiming_within {old} {s : State} : Within
    (fun s t => { s.reported t with
      refs := t.refs
      sel := { s.sel with lastType := t.sel.lastType, lockType := t.sel.lockType, lockTr := t.sel.lockTr, clockClass := t.sel.clockClass } })
    s (State.settleTiming old s) := by
  unfold State.settleTiming
  exact State.settleClass_within.after (State.noteLock_within.after (.foldl (fun _ _ h1 => .ite h1 (State.updRef_within.after h1)) _
    (.refl s)))

theorem State.dropRef_within {r cause} {s : State} : Within
    (fun s t => { s.reported t with refs := t.refs, sel := { s.sel with pairs := t.sel.pairs } })
    s (s.dropRef r cause) := by
  unfold State.dropRef
  exact .ite (State.endDisputes_within.after (State.post_within.after (State.counterHalf_within.after (State.updRef_within.after (.refl
    s))))) (.refl s)

theorem State.stopJobs_within {p status aborted} {s : State} : Within
    (fun s t => { s.reported t with
      tci := { s.tci with mbx := t.tci.mbx, aside := t.tci.aside }, win := { s.win with closing := t.win.closing }
      dom := { s.dom with txSeq := t.dom.txSeq, queue := t.dom.queue }, bn := t.bn })
    s (s.stopJobs p status aborted) := by
  unfold State.stopJobs
  exact .foldl (fun _ _ h1 => State.answerJob_within.after h1) _ (.ite (State.bnCount_within.after (.put (.refl s))) (.put (.refl s)))

theorem State.mirrorFrame_within {k c egress} {s : State} : Within
    (fun s t => { s.reported t with
      ports := t.ports, host := { s.host with queue := t.host.queue }
      sw := { s.sw with mirrors := t.sw.mirrors, peak := t.sw.peak, qCtr := t.sw.qCtr }, bn := { s.bn with generates := t.bn.generates }
      free := t.free })
    s (s.mirrorFrame k c egress) := by
  unfold State.mirrorFrame
  exact .ite (.refl s) (.ite (State.mirrorCount_within.after (.refl s)) (.via (State.updMirror_within.after (.ite_snd
    (State.entropy_within.after (.refl s)) (.refl s))) fun h1 => .ite (State.mirrorCount_within.after h1) (State.mirrorCount_within.after
    (.ite_snd (State.toHost_within.after h1) (State.enqueue_within.after h1)))))

theorem State.linkUp_within {p skew} {s : State} : Within
    (fun s t => { s.reported t with dom := { s.dom with queue := t.dom.queue }, ports := t.ports })
    s (s.linkUp p skew) := by
  unfold State.linkUp
  extract_lets +onlyGivenNames x four fec good s0
  refine .via (t := s0) (State.updPort_within.after (.refl s)) fun h0 => ?_
  clear_value s0
  split
  · exact .ite (.refl s) (State.startPreempt_within.after (State.setLink_within.after h0))
  · refine .ite (.refl s) (.ite ?_ ?_)
    · exact State.startPreempt_within.after (State.setLink_within.after (State.holdExpires_within.after h0))
    · exact State.startPreempt_within.after (State.setLink_within.after (State.stat_within.after (State.updPort_within.after
        (State.stat_within.after h0))))
  · exact State.updPort_within.after (.refl s)
  · exact .refl s

theorem State.trunkDrop_within {p} {s : State} : Within (fun s t => { s.reported t with ports := t.ports }) s (s.trunkDrop p) := by
  unfold State.trunkDrop
  exact .ite (.refl s) (State.setTrunk_within.after (State.updTrunk_within.after (.refl s)))

theorem State.dropped_within {p k c} {s t : State} (h : s.dropped p k c = some t) : Within
    (fun s t => { s.reported t with ts := { s.ts with counters := t.ts.counters }, ports := t.ports }) s t := by
  unfold State.dropped at h
  extract_lets +onlyGivenNames gone at h
  have hg : Within (fun s t => { s.reported t with ts := { s.ts with counters := t.ts.counters }, ports := t.ports }) s gone :=
    State.popQueue_within.after (.refl s)
  clear_value gone
  split at h
  · cases h
    exact State.tsCount_within.after hg
  split at h
  · cases h
    exact hg
  by_cases long : s.banks.active.maxFrame p + (if s.egressTagged p c then 4 else 0) < s.egressLen p c
  · rw [if_pos long] at h
    cases h
    exact State.stat_within.after hg
  · rw [if_neg long] at h
    cases h

theorem State.bookSlot_within {p phase} {s : State} : Within
    (fun s t => { s.reported t with ts := { s.ts with counters := t.ts.counters }, ports := t.ports })
    s (s.bookSlot p phase) := by
  unfold State.bookSlot
  refine .ite (.refl s) ?_
  split
  · refine .ite (.refl s) ?_
    split
    next t _ ht => exact (State.dropped_within ht).after (.refl s)
    · exact State.updPort_within.after (State.popQueue_within.after (State.chargeDeficits_within.after (.refl s)))
    · exact .refl s
  · exact .refl s

theorem State.expressClass_within {p n} {s : State} : Within
    (fun s t => { s.reported t with ports := t.ports })
    s (s.expressClass p n).2 := by
  unfold State.expressClass
  exact .ite_snd (State.stat_within.after (.refl s)) (.refl s)

theorem State.tsAnswer_within {p c} {s : State} : Within
    (fun s t => { s.reported t with
      ts := { s.ts with counters := t.ts.counters }, ports := t.ports
      sw := { s.sw with peak := t.sw.peak, qCtr := t.sw.qCtr, nextId := t.sw.nextId } })
    s (s.tsAnswer p c) := by
  unfold State.tsAnswer
  exact .via (State.tsQueue_within.after (.refl s)) fun h1 => .ite h1 (State.tsCount_within.after h1)

theorem State.closeLinkCal_within {c} {s : State} : Within
    (fun s t => { s.reported t with
      tci := { s.tci with mbx := t.tci.mbx, aside := t.tci.aside }, win := { s.win with closing := t.win.closing }
      meas := { s.meas with linkCals := t.meas.linkCals }, dom := { s.dom with txSeq := t.dom.txSeq, queue := t.dom.queue }, free := t.free })
    s (s.closeLinkCal c) := by
  unfold State.closeLinkCal
  refine State.finish_within.after ?_
  split
  · exact .put (.refl s)
  · exact State.draw_within.after (.put (.refl s))

theorem State.startSched_within {c} {s : State} : Within
    (fun s t => { s.reported t with
      time := t.time, tci := { s.tci with mbx := t.tci.mbx, aside := t.tci.aside }, win := { s.win with closing := t.win.closing }
      refs := t.refs
      sel := { s.sel with
        state := t.sel.state, since := t.sel.since, setting := t.sel.setting, e := t.sel.e, lockRun := t.sel.lockRun
        pendingPhase := t.sel.pendingPhase, e0 := t.sel.e0, blocked := t.sel.blocked, tested := t.sel.tested, acqClass := t.sel.acqClass
        yHist := t.sel.yHist, yAt := t.sel.yAt, stateAt := t.sel.stateAt }
      hold := t.hold, dom := { s.dom with txSeq := t.dom.txSeq, queue := t.dom.queue } })
    s (s.startSched c) := by
  unfold State.startSched
  refine .ite ?_ ?_
  · extract_lets +onlyGivenNames _ s1
    refine .via (t := s1) (.put (.refl s)) fun h1 => ?_
    clear_value s1
    split
    · exact .ite h1 (State.treatPhase_within.after h1)
    · exact h1
  · exact State.answerStep_within.after (State.afterStep_within.after (.ite (.put (.refl s)) (.refl s)))

theorem State.countRx_within {p f} {s : State} : Within (fun s t => { s.reported t with ports := t.ports }) s (s.countRx p f) := by
  unfold State.countRx
  exact .via (State.stat_within.after (State.stat_within.after (State.stat_within.after (State.stat_within.after (.refl s))))) fun h1 =>
    .ite (State.stat_within.after h1) h1

theorem State.powerGroup_within {g} {s : State} : Within (fun s t => { s.reported t with ports := t.ports }) s (s.powerGroup g) := by
  unfold State.powerGroup
  exact .foldl (fun _ _ h1 => .ite (State.startPcs_within.after h1) h1) _ (.refl s)

theorem State.followUp_within {p msg c body} {s : State} : Within
    (fun s t => { s.reported t with
      ts := { s.ts with
        load := t.ts.load, waiting := t.ts.waiting, credit := t.ts.credit, servedAt := t.ts.servedAt, counters := t.ts.counters }
      ports := t.ports, sw := { s.sw with peak := t.sw.peak, qCtr := t.sw.qCtr, nextId := t.sw.nextId } })
    s (s.followUp p msg c body) := by
  unfold State.followUp
  exact .via (State.tsQueue_within.after (.ite (.refl s) (State.tsWork_within.after (.refl s)))) fun h1 => .ite h1
    (State.tsCount_within.after h1)

theorem State.denied_within {r ntp} {s : State} : Within
    (fun s t => { s.reported t with
      ts := { s.ts with ledger := t.ts.ledger, grants := t.ts.grants, denyKiss := t.ts.denyKiss, counters := t.ts.counters }
      ports := t.ports, sw := { s.sw with peak := t.sw.peak, qCtr := t.sw.qCtr, nextId := t.sw.nextId } })
    s (s.denied r ntp) := by
  unfold State.denied
  split
  · exact .ite (State.tsAnswer_within.after (.put ((State.denyDrop_within (k := s.ledgerKey false r.frame)).after (.refl s))))
      (State.denyDrop_within.after (.refl s))
  · exact State.denyDrop_within.after (.refl s)

theorem State.trunkSend_within {p what msg n body booked} {s : State} : Within
    (fun s t => { s.reported t with ports := t.ports, sw := { s.sw with peak := t.sw.peak, qCtr := t.sw.qCtr, nextId := t.sw.nextId } })
    s (s.trunkSend p what msg n body booked) := by
  unfold State.trunkSend
  exact State.tsQueue_within.after (.refl s)

theorem State.l1syncTurn_within {p} {s : State} : Within
    (fun s t => { s.reported t with
      ts := { s.ts with ptpSeq := t.ts.ptpSeq }, ports := t.ports
      sw := { s.sw with peak := t.sw.peak, qCtr := t.sw.qCtr, nextId := t.sw.nextId } })
    s (s.l1syncTurn p) := by
  unfold State.l1syncTurn
  exact .ite (.refl s) (State.trunkSend_within.after (State.updTrunk_within.after (State.ptpSequence_within.after (.refl s))))

theorem State.egressCopy_within {c cls flow p} {s : State} : Within
    (fun s t => { s.reported t with
      ports := t.ports, sw := { s.sw with peak := t.sw.peak, qCtr := t.sw.qCtr, flowCtr := t.sw.flowCtr, rsvBucket := t.sw.rsvBucket } })
    s (s.egressCopy c cls flow p) := by
  unfold State.egressCopy
  extract_lets +onlyGivenNames b n c1 count plain
  have counted : ∀ r, Within (fun s t => { s.reported t with ports := t.ports }) r.2 (count r) := fun r =>
    .ite (State.counterHalf_within.after (State.updPort_within.after (.refl r.2))) (.refl r.2)
  have plainly : ∀ t, Within (fun s t => { s.reported t with ports := t.ports, sw := { s.sw with peak := t.sw.peak, qCtr := t.sw.qCtr } })
      t (plain t) := fun t =>
    (counted _).after (State.enqueue_within.after (.ite_snd (State.expressClass_within.after (.refl t)) (.refl t)))
  clear_value plain
  split
  · refine .ite ?_ ((plainly s).after (.refl s))
    generalize takeBucket _ _ _ _ _ = x
    obtain ⟨ok, bk⟩ := x
    exact .ite ((counted _).after (State.enqueue_within.after (State.flowCount_within.after (.put (.refl s)))))
      ((counted _).after (State.enqueue_within.after (State.flowCount_within.after (.put (.refl s)))))
  · exact (plainly s).after (.refl s)

theorem State.ptpSend_within {p cls what msg n f body booked} {s : State} : Within
    (fun s t => { s.reported t with
      ts := { s.ts with
        load := t.ts.load, waiting := t.ts.waiting, credit := t.ts.credit, servedAt := t.ts.servedAt, counters := t.ts.counters }
      ports := t.ports, sw := { s.sw with peak := t.sw.peak, qCtr := t.sw.qCtr, nextId := t.sw.nextId } })
    s (s.ptpSend p cls what msg n f body booked) := by
  unfold State.ptpSend
  exact .via (State.tsQueue_within.after (.ite (.refl s) (State.tsWork_within.after (.refl s)))) fun h1 => .ite h1 (.ite
    (State.tsCount_within.after h1) (State.tsCount_within.after h1))

theorem State.acceptDomain_within {f} {s : State} : Within (fun s t => { s.reported t with ports := t.ports }) s (s.acceptDomain f).2 := by
  unfold State.acceptDomain
  exact .ite_snd (.refl s) (.ite_snd (State.trunkCount_within.after (.refl s)) (.ite_snd (.refl s) (.ite_snd
    (State.failFrame_within.after (.refl s)) (.ite_snd (State.failFrame_within.after (.refl s)) (.ite_snd (State.failFrame_within.after
    (.refl s)) (.ite_snd (State.failFrame_within.after (.refl s)) (.via (State.updTrunk_within.after (.refl s)) fun h1 => .ite_snd h1
    (State.trunkCount_within.after h1))))))))

theorem State.restartSeries_within {p} {s : State} : Within (fun s t => { s.reported t with ports := t.ports }) s (s.restartSeries p) := by
  unfold State.restartSeries
  exact State.setTrunk_within.after (State.updTrunk_within.after (.refl s))

theorem State.runSelector_within {s : State} : Within
    (fun s t => { s.reported t with
      time := t.time, refs := t.refs
      sel := { t.sel with
        mode := s.sel.mode, manual := s.sel.manual, wtr := s.sel.wtr, actMode := s.sel.actMode, actManual := s.sel.actManual
        actWtr := s.sel.actWtr, pairs := s.sel.pairs, loopHeld := s.sel.loopHeld, integ := s.sel.integ, lastType := s.sel.lastType
        lockType := s.sel.lockType, lockTr := s.sel.lockTr, everLocked := s.sel.everLocked, clockClass := s.sel.clockClass
        lastUpdate := s.sel.lastUpdate }
      hold := t.hold })
    s s.runSelector := by
  unfold State.runSelector
  refine .ite (.put (.refl s)) ?_
  split
  · exact State.takeRef_within.after (.put (.refl s))
  · exact State.loseRef_within.after (.put (.refl s))

theorem State.underrun_within {p} {s : State} : Within (fun s t => { s.reported t with ports := t.ports }) s (s.underrun p) := by
  unfold State.underrun
  split
  · exact .ite (State.stat_within.after (.put (.refl s))) (.refl s)
  · exact .refl s

theorem State.cutFrame_within {p} {s : State} : Within (fun s t => { s.reported t with ports := t.ports }) s (s.cutFrame p) := by
  unfold State.cutFrame
  split
  · refine .ite (.refl s) ?_
    split
    · exact .via (State.updPort_within.after (.refl s)) fun h1 => .ite (State.stat_within.after (State.stat_within.after h1)) h1
    · exact .refl s
  · exact .refl s

theorem State.closeSeries_within {p} {s : State} : Within (fun s t => { s.reported t with ports := t.ports }) s (s.closeSeries p) := by
  unfold State.closeSeries
  extract_lets +onlyGivenNames x
  split
  extract_lets +onlyGivenNames cuts done
  split
  · refine .ite (.refl s) ?_
    extract_lets +onlyGivenNames evs part parts x1
    refine .ite (State.updTrunk_within.after (.refl s)) ?_
    extract_lets +onlyGivenNames q raw
    split
    extract_lets +onlyGivenNames g x2
    split
    extract_lets +onlyGivenNames offBad driftBad leftOut x3 s1
    refine .via (t := s1) (State.updTrunk_within.after (.refl s)) fun h1 => ?_
    clear_value s1
    exact .ite (.ite (State.restartSeries_within.after h1) h1)
      (.ite (State.setTrunk_within.after (State.updTrunk_within.after h1)) h1)
  · exact .refl s

theorem State.macControl_within {p f ends} {s : State} : Within
    (fun s t => { s.reported t with ports := t.ports })
    s (s.macControl p f ends) := by
  unfold State.macControl
  exact .ite (State.stat_within.after (.refl s)) (.ite (State.stat_within.after (.refl s)) (.ite (State.updPort_within.after
    (State.excuse_within.after (State.stat_within.after (.refl s)))) (.ite (State.updPort_within.after (State.stat_within.after (.refl
    s))) (State.stat_within.after (.refl s)))))

theorem State.metadataTurn_within {p} {s : State} : Within
    (fun s t => { s.reported t with
      ts := { s.ts with
        load := t.ts.load, waiting := t.ts.waiting, credit := t.ts.credit, servedAt := t.ts.servedAt, counters := t.ts.counters
        ptpSeq := t.ts.ptpSeq, ptpNext := t.ts.ptpNext }
      ports := t.ports, sw := { s.sw with peak := t.sw.peak, qCtr := t.sw.qCtr, nextId := t.sw.nextId }, free := t.free })
    s (s.metadataTurn p) := by
  unfold State.metadataTurn
  exact .ite (.refl s) (State.ptpSend_within.after (.put ((State.draw_within (w := 424)).after (State.ptpSequence_within.after (.refl
    s)))))

theorem State.slaveTurn_within {p} {s : State} : Within
    (fun s t => { s.reported t with
      ts := { s.ts with
        load := t.ts.load, waiting := t.ts.waiting, credit := t.ts.credit, servedAt := t.ts.servedAt, counters := t.ts.counters
        ptpSeq := t.ts.ptpSeq, ptpNext := t.ts.ptpNext, pair := t.ts.pair }
      ports := t.ports, sw := { s.sw with peak := t.sw.peak, qCtr := t.sw.qCtr, nextId := t.sw.nextId } })
    s (s.slaveTurn p) := by
  unfold State.slaveTurn
  exact .ite (.refl s) (State.ptpSend_within.after (.put ((State.ptpSequence_within (p := p) (msg := 1)).after (.refl s))))

theorem State.fault_within {code master access address} {s : State} : Within State.noted s (s.fault code master access address) := by
  unfold State.fault
  exact State.faultEvent_within.after (.refl s)

theorem State.pdelayResp_within {m c island} {s : State} : Within
    (fun s t => { s.reported t with
      ts := { s.ts with
        load := t.ts.load, waiting := t.ts.waiting, credit := t.ts.credit, servedAt := t.ts.servedAt, counters := t.ts.counters }
      ports := t.ports, sw := { s.sw with peak := t.sw.peak, qCtr := t.sw.qCtr, nextId := t.sw.nextId } })
    s (s.pdelayResp m c island) := by
  unfold State.pdelayResp
  exact State.tsAnswer_within.after (.ite (.refl s) (State.tsWork_within.after (.refl s)))

theorem State.kiss_within {r k e cls what code short poll n extra counted} {s : State} : Within
    (fun s t => { s.reported t with
      ts := { s.ts with ledger := t.ts.ledger, counters := t.ts.counters }, ports := t.ports
      sw := { s.sw with peak := t.sw.peak, qCtr := t.sw.qCtr, nextId := t.sw.nextId } })
    s (s.kiss r k e cls what code short poll n extra counted) := by
  unfold State.kiss
  exact .ite (State.tsAnswer_within.after (State.noteKiss_within.after (.refl s))) (.ite (.refl s) (State.tsCount_within.after (.refl
    s)))

theorem State.tsLeaves_within {p c stamp} {s : State} : Within
    (fun s t => { s.reported t with
      ts := { s.ts with
        load := t.ts.load, waiting := t.ts.waiting, credit := t.ts.credit, servedAt := t.ts.servedAt, counters := t.ts.counters
        linkPair := t.ts.linkPair, pair := t.ts.pair }
      ports := t.ports, sw := { s.sw with peak := t.sw.peak, qCtr := t.sw.qCtr, nextId := t.sw.nextId }
      bn := { s.bn with generates := t.bn.generates }, free := t.free })
    s (s.tsLeaves p c stamp) := by
  unfold State.tsLeaves
  extract_lets +onlyGivenNames t ntp addr origin plain ptp ahead
  have plainly : ∀ m b s, Within (fun s t => { s with trace := t.trace }) s (plain m b s) := fun m b s =>
    .ite (.refl s) (State.emit_within.after (.refl s))
  have sent : ∀ m b s, Within (fun s t => { s with trace := t.trace, ts := { s.ts with counters := t.ts.counters } }) s (ptp m b s) :=
    fun m b s => .ite ((plainly m b s).after (.refl s)) (State.tsCount_within.after ((plainly m b s).after (.refl s)))
  clear_value plain ptp
  refine .ite (State.tsCount_within.after (State.emit_within.after (.refl s))) (.ite ?_ ?_)
  · split
    next x nonce s1 hx =>
    have hn := State.entropy_within (s := s) (w := 128)
    rw [hx] at hn
    exact State.tsCount_within.after (State.emit_within.after (hn.after (.refl s)))
  refine .ite (State.tsCount_within.after (State.emit_within.after (.refl s))) (.ite (State.tsCount_within.after (State.emit_within.after
    (.refl s))) (.ite (State.tsCount_within.after (State.emit_within.after (.refl s))) (.ite ((sent _ _ s).after (.refl s)) (.ite ?_ ?_))))
  · exact State.followUp_within.after ((sent _ _ s).after (.refl s))
  refine .ite ((sent _ _ s).after (.refl s)) (.ite ((sent _ _ s).after (.refl s)) (.ite (State.emit_within.after (.refl s))
    (.ite ((plainly _ _ s).after (.refl s)) (.ite ?_ (.ite ((plainly _ _ s).after (.refl s)) (.ite ?_ (.ite ?_ (.ite ?_ (.ite ?_ ?_)))))))))
  · exact State.noteRequest_within.after ((plainly _ _ s).after (.refl s))
  · exact State.followUp_within.after ((sent _ _ s).after (.refl s))
  · exact State.noteRequest_within.after ((sent _ _ s).after (.refl s))
  · exact State.followUp_within.after ((sent _ _ s).after (.refl s))
  · exact State.noteRequest_within.after ((sent _ _ s).after (.refl s))
  · exact State.emit_within.after (.refl s)

theorem State.ptpOriginate_within {p msg cls f} {s : State} : Within
    (fun s t => { s.reported t with
      ts := { s.ts with
        load := t.ts.load, waiting := t.ts.waiting, credit := t.ts.credit, servedAt := t.ts.servedAt, counters := t.ts.counters
        ptpSeq := t.ts.ptpSeq }
      ports := t.ports, sw := { s.sw with peak := t.sw.peak, qCtr := t.sw.qCtr, nextId := t.sw.nextId }, free := t.free })
    s (s.ptpOriginate p msg cls f) := by
  unfold State.ptpOriginate
  exact .via (State.ptpSequence_within.after (.refl s)) fun h1 => .ite (State.ptpSend_within.after h1) (State.ptpSend_within.after
    (.ite_snd (State.draw_within.after h1) h1))

theorem State.uncorrectable_within {master access key} {s : State} : Within
    (fun s t => { s.noted t with mem := { s.mem with lines := t.mem.lines, toRetire := t.mem.toRetire, counters := t.mem.counters } })
    s (s.uncorrectable master access key) := by
  unfold State.uncorrectable
  exact .via (State.memCount_within.after (.refl s)) fun h1 => .ite h1 (.via (State.faultEvent_within.after (State.setLine_within.after
    h1)) fun h2 => .ite h2 (State.queueRetire_within.after h2))

theorem State.syncRefs_within {s : State} : Within
    (fun s t => { s.reported t with
      time := t.time, refs := t.refs
      sel := { t.sel with
        mode := s.sel.mode, manual := s.sel.manual, wtr := s.sel.wtr, actMode := s.sel.actMode, actManual := s.sel.actManual
        actWtr := s.sel.actWtr, loopHeld := s.sel.loopHeld, integ := s.sel.integ, lastType := s.sel.lastType, lockType := s.sel.lockType
        lockTr := s.sel.lockTr, everLocked := s.sel.everLocked, clockClass := s.sel.clockClass, lastUpdate := s.sel.lastUpdate }
      hold := t.hold })
    s s.syncRefs := by
  unfold State.syncRefs
  exact .via (.foldl (fun _ _ h1 => State.updRef_within.after h1) _ (.foldl (fun _ _ h2 => .ite h2 (State.dropRef_within.after h2)) _
    (.refl s))) fun h3 => .ite (State.runSelector_within.after h3) h3

theorem State.freeRecords_within {l} {s : State} : Within
    (fun s t => { s.reported t with
      flt := { s.flt with
        records := t.flt.records, src := t.flt.src, frozen := t.flt.frozen, faultN := t.flt.faultN, recoveries := t.flt.recoveries
        nextOpen := t.flt.nextOpen, takeRec := t.flt.takeRec } })
    s (s.freeRecords l) := by
  unfold State.freeRecords
  exact .foldl (fun _ _ h1 => State.settleFaults_within.after (State.setRecord_within.after h1)) _ (.refl s)

theorem State.islandPdelay_within {m} {s : State} : Within
    (fun s t => { s.reported t with
      ts := { s.ts with
        load := t.ts.load, waiting := t.ts.waiting, credit := t.ts.credit, servedAt := t.ts.servedAt, counters := t.ts.counters }
      ports := t.ports, sw := { s.sw with peak := t.sw.peak, qCtr := t.sw.qCtr, nextId := t.sw.nextId } })
    s (s.islandPdelay m) := by
  unfold State.islandPdelay
  exact .ite (.refl s) (.ite (State.ptpDisabled_within.after (.refl s)) (.ite (State.tsCount_within.after (.refl s)) (.ite
    (State.tsCount_within.after (.refl s)) (State.pdelayResp_within.after (.refl s)))))

theorem State.gratuitous_within {w} {s : State} : Within (fun s t => { s.reported t with ports := t.ports }) s (s.gratuitous w) := by
  unfold State.gratuitous
  exact .foldl (fun _ _ h1 => State.countTx_within.after (State.emit_within.after h1)) _ (.refl s)

theorem State.decideDown_within {p} {s : State} : Within
    (fun s t => { s.reported t with dom := { s.dom with queue := t.dom.queue }, ports := t.ports })
    s (s.decideDown p) := by
  unfold State.decideDown
  split
  · exact .ite (State.resumeCut_within.after (.refl s)) (.refl s)
  · refine .ite (.refl s) ?_
    split
    · exact State.stat_within.after (.put (.refl s))
    · exact State.stat_within.after (State.popQueue_within.after (.refl s))
    · exact .refl s

theorem State.zeroiseKeys_within {cause} {s : State} : Within
    (fun s t => { s.reported t with
      tci := { s.tci with mbx := t.tci.mbx, aside := t.tci.aside }, win := { s.win with closing := t.win.closing }
      dom := { s.dom with txSeq := t.dom.txSeq, queue := t.dom.queue }
      ts := { s.ts with cookies := t.ts.cookies, rotating := t.ts.rotating }, keys := t.keys, bn := t.bn })
    s (s.zeroiseKeys cause) := by
  unfold State.zeroiseKeys
  exact State.post_within.after (State.finishAll_within.after (.put (State.stopJobs_within.after (.refl s))))

theorem State.delayResp_within {m c} {s : State} : Within
    (fun s t => { s.reported t with
      ts := { s.ts with
        load := t.ts.load, waiting := t.ts.waiting, credit := t.ts.credit, servedAt := t.ts.servedAt, counters := t.ts.counters }
      ports := t.ports, sw := { s.sw with peak := t.sw.peak, qCtr := t.sw.qCtr, nextId := t.sw.nextId } })
    s (s.delayResp m c) := by
  unfold State.delayResp
  exact State.ptpSend_within.after (.refl s)

theorem State.relaySync_within {q origin corr t2 steps} {s : State} : Within
    (fun s t => { s.reported t with
      ts := { s.ts with
        load := t.ts.load, waiting := t.ts.waiting, credit := t.ts.credit, servedAt := t.ts.servedAt, counters := t.ts.counters
        ptpSeq := t.ts.ptpSeq }
      ports := t.ports, sw := { s.sw with peak := t.sw.peak, qCtr := t.sw.qCtr, nextId := t.sw.nextId } })
    s (s.relaySync q origin corr t2 steps) := by
  unfold State.relaySync
  exact .foldl (fun _ _ h1 => State.tsAnswer_within.after (State.tsWork_within.after (State.ptpSequence_within.after h1))) _ (.refl s)

theorem State.classifyRow_within {master array bank row} {s : State} : Within
    (fun s t => { s.noted t with
      mem := { s.mem with flagged := t.mem.flagged, flaggedFlash := t.mem.flaggedFlash, sramRepeat := t.mem.sramRepeat }
      plat := { s.plat with flashWork := t.plat.flashWork } })
    s (s.classifyRow master array bank row) := by
  unfold State.classifyRow
  exact .ite (State.saveRows_within.after (State.post_within.after (State.fault_within.after (.ite (.put (.refl s)) (.put (.refl s))))))
    (.put (.refl s))

theorem State.pdelayAsk_within {p} {s : State} : Within
    (fun s t => { s.reported t with
      ts := { s.ts with
        load := t.ts.load, waiting := t.ts.waiting, credit := t.ts.credit, servedAt := t.ts.servedAt, linkPair := t.ts.linkPair
        ptpSeq := t.ts.ptpSeq, ptpNext := t.ts.ptpNext }
      ports := t.ports, sw := { s.sw with peak := t.sw.peak, qCtr := t.sw.qCtr, nextId := t.sw.nextId } })
    s (s.pdelayAsk p) := by
  unfold State.pdelayAsk
  exact .via (.put ((State.ptpSequence_within (p := p) (msg := 2)).after (.refl s))) fun h1 => State.tsQueue_within.after (.ite h1
    (State.tsWork_within.after h1))

theorem State.chooseImage_within {n} {s : State} : Within
    (fun s t => { s.noted t with
      fw := { s.fw with slot := t.fw.slot, fallback := t.fw.fallback, recovery := t.fw.recovery, imageOk := t.fw.imageOk }
      flt := { s.flt with
        records := t.flt.records, src := t.flt.src, frozen := t.flt.frozen, faultN := t.flt.faultN, recoveries := t.flt.recoveries
        ledgerFull := t.flt.ledgerFull, nextOpen := t.flt.nextOpen, takeRec := t.flt.takeRec, consec := t.flt.consec, held := t.flt.held } })
    s (s.chooseImage n) := by
  unfold State.chooseImage
  exact .ite (.put (.refl s)) (.ite (State.fault_within.after (.put (.refl s))) (.put (.refl s)))

theorem State.signalling_within {m c tlv duration} {s : State} : Within
    (fun s t => { s.reported t with
      ts := { s.ts with
        load := t.ts.load, waiting := t.ts.waiting, credit := t.ts.credit, servedAt := t.ts.servedAt, counters := t.ts.counters
        ptpSeq := t.ts.ptpSeq }
      ports := t.ports, sw := { s.sw with peak := t.sw.peak, qCtr := t.sw.qCtr, nextId := t.sw.nextId } })
    s (s.signal_ m c tlv duration) := by
  unfold State.signal_
  exact State.ptpSend_within.after (State.ptpSequence_within.after (.refl s))

theorem State.readMirror_within {s : State} : Within
    (fun s t => { s.noted t with
      ts := { s.ts with cookies := t.ts.cookies, rotateDue := t.ts.rotateDue }, keys := { s.keys with slot := t.keys.slot } })
    s s.readMirror := by
  unfold State.readMirror
  split
  · exact .put (.refl s)
  · exact State.post_within.after (State.fault_within.after (.put (.refl s)))

theorem State.releaseLane_within {k j glitch} {s : State} : Within
    (fun s t => { s.noted t with
      tci := { s.tci with mbx := t.tci.mbx, aside := t.tci.aside }, win := { s.win with closing := t.win.closing }
      dom := { s.dom with txSeq := t.dom.txSeq, queue := t.dom.queue }, bn := t.bn })
    s (s.releaseLane k j glitch) := by
  unfold State.releaseLane
  exact .via (State.bnCount_within.after (State.setLane_within.after (.refl s))) fun h1 => .via (.ite h1 (State.bnCount_within.after
    h1)) fun h2 => .via (.ite (State.fault_within.after (State.bnCount_within.after h2)) h2) fun h3 => .via (.ite
    (State.bnCount_within.after h3) h3) fun h4 => State.answerJob_within.after (.ite (State.emit_within.after h4) h4)

theorem State.disqualify_within {r cause} {s : State} : Within
    (fun s t => { s.reported t with
      time := t.time, refs := t.refs
      sel := { t.sel with
        mode := s.sel.mode, manual := s.sel.manual, wtr := s.sel.wtr, actMode := s.sel.actMode, actManual := s.sel.actManual
        actWtr := s.sel.actWtr, loopHeld := s.sel.loopHeld, integ := s.sel.integ, lastType := s.sel.lastType, lockType := s.sel.lockType
        lockTr := s.sel.lockTr, everLocked := s.sel.everLocked, clockClass := s.sel.clockClass, lastUpdate := s.sel.lastUpdate }
      hold := t.hold })
    s (s.disqualify r cause) := by
  unfold State.disqualify
  exact .via (State.dropRef_within.after (.refl s)) fun h1 => .ite (State.runSelector_within.after h1) h1

theorem State.leaves_within {p c n raw stamp steps bad} {s : State} : Within
    (fun s t => { s.reported t with
      stamps := { s.stamps with idx := t.stamps.idx, phase := t.stamps.phase }
      ts := { s.ts with
        load := t.ts.load, waiting := t.ts.waiting, credit := t.ts.credit, servedAt := t.ts.servedAt, counters := t.ts.counters
        linkPair := t.ts.linkPair, pair := t.ts.pair }
      ports := t.ports, host := { s.host with queue := t.host.queue }
      sw := { s.sw with mirrors := t.sw.mirrors, peak := t.sw.peak, qCtr := t.sw.qCtr, flowCtr := t.sw.flowCtr, nextId := t.sw.nextId }
      bn := { s.bn with generates := t.bn.generates }, free := t.free })
    s (s.leaves p c n raw stamp steps bad) := by
  unfold State.leaves
  extract_lets +onlyGivenNames field s0
  refine .via (t := s0) (State.emit_within.after (State.countTx_within.after (.refl s))) fun h0 => ?_
  clear_value s0
  extract_lets +onlyGivenNames s1
  refine .via (t := s1) (.ite (State.emit_within.after h0) h0) fun h1 => ?_
  clear_value s1
  extract_lets +onlyGivenNames by_ m s2
  refine .via (t := s2) (.ite (State.counterHalf_within.after (State.updPort_within.after h1)) h1) fun h2 => ?_
  clear_value s2
  extract_lets +onlyGivenNames s3
  refine .via (t := s3) (.ite (State.stampRecord_within.after h2) h2) fun h3 => ?_
  clear_value s3
  extract_lets +onlyGivenNames s4
  refine .via (t := s4) (.ite (State.stat_within.after h3) h3) fun h4 => ?_
  clear_value s4
  extract_lets +onlyGivenNames s5
  refine .via (t := s5) ?_ fun h5 => ?_
  · unfold s5
    split
    · exact .ite (State.flowCount_within.after h4) h4
    · exact h4
  clear_value s5
  extract_lets +onlyGivenNames sessions took s6 s7
  refine .via (t := s6) (.put h5) fun h6 => ?_
  clear_value s6
  refine .via (t := s7) (.foldl (fun _ _ h => State.mirrorFrame_within.after h) sessions (.ite h5 h6)) fun h7 => ?_
  clear_value s7
  exact .ite (State.tsLeaves_within.after h7) h7

theorem State.classifyFrame_within {p e hostStamp} {s : State} : Within
    (fun s t => { s.reported t with
      ports := t.ports, host := { s.host with queue := t.host.queue }, sw := t.sw, bn := { s.bn with generates := t.bn.generates }
      free := t.free })
    s (s.classifyFrame p e hostStamp) := by
  unfold State.classifyFrame
  extract_lets +onlyGivenNames b f v byPcp _ _ c0 host _ s0
  have hosted : ∀ r t, Within (fun s t => { s.reported t with
      ports := t.ports, host := { s.host with queue := t.host.queue }, sw := t.sw, bn := { s.bn with generates := t.bn.generates }
      free := t.free }) t (host r t) := fun r t =>
    .foldl (fun _ _ h => State.mirrorFrame_within.after h) _ (State.toHost_within.after (.refl t))
  clear_value host
  refine .via (t := s0) (.put (.refl s)) fun h0 => ?_
  clear_value s0
  induction s0 using State.generic with | all s0 => ?_
  refine .ite h0 (.ite ((hosted _ _).after h0) (.ite (State.swCount_within.after h0) (.ite (State.swCount_within.after h0)
    (.ite ((hosted _ _).after h0) ?_))))
  extract_lets +onlyGivenNames rule w action s2
  refine .via (t := s2) ?_ fun h2 => ?_
  · unfold s2
    clear_value rule
    split
    · exact State.ruleHit_within.after h0
    · exact h0
  clear_value s2
  induction s2 using State.generic with | all s2 => ?_
  extract_lets +onlyGivenNames dest mask s3
  refine .via (t := s3) (.ite (State.swCount_within.after h2) h2) fun h3 => ?_
  clear_value s3
  induction s3 using State.generic with | all s3 => ?_
  extract_lets +onlyGivenNames cls flow named sessions c outs s4
  refine .via (t := s4) (.foldl (fun _ _ h => State.egressCopy_within.after h) outs h3) fun h4 => ?_
  clear_value s4
  refine .foldl (fun _ _ h => State.mirrorFrame_within.after h) _ ?_
  exact .via (.ite (State.toHost_within.after h4) h4) fun h5 => .ite (State.toHost_within.after h5) h5

theorem State.cancelGrant_within {g} {s : State} : Within
    (fun s t => { s.reported t with
      ts := { s.ts with
        load := t.ts.load, waiting := t.ts.waiting, credit := t.ts.credit, servedAt := t.ts.servedAt, counters := t.ts.counters
        ptpSeq := t.ts.ptpSeq }
      ports := t.ports, sw := { s.sw with peak := t.sw.peak, qCtr := t.sw.qCtr, nextId := t.sw.nextId } })
    s (s.cancelGrant g) := by
  unfold State.cancelGrant
  exact State.ptpSend_within.after (State.ptpSequence_within.after (.refl s))

theorem State.startDomain_within {d} {s : State} : Within
    (fun s t => { s.reported t with
      stamps := { s.stamps with idx := t.stamps.idx, phase := t.stamps.phase }, dom := { s.dom with queue := t.dom.queue }
      ts := { s.ts with
        load := t.ts.load, waiting := t.ts.waiting, credit := t.ts.credit, servedAt := t.ts.servedAt, counters := t.ts.counters
        linkPair := t.ts.linkPair, pair := t.ts.pair }
      ports := t.ports, host := { s.host with queue := t.host.queue }
      sw := { s.sw with mirrors := t.sw.mirrors, peak := t.sw.peak, qCtr := t.sw.qCtr, flowCtr := t.sw.flowCtr, nextId := t.sw.nextId }
      bn := { s.bn with generates := t.bn.generates }, free := t.free })
    s (s.startDomain d) := by
  unfold State.startDomain
  exact State.leaves_within.after (State.updPort_within.after (.put (.refl s)))

theorem State.serviceArp_within {r} {s : State} : Within
    (fun s t => { s.reported t with
      ts := { s.ts with
        stranger := t.ts.stranger, strangerTick := t.ts.strangerTick, capDropAt := t.ts.capDropAt, offered := t.ts.offered
        load := t.ts.load, waiting := t.ts.waiting, credit := t.ts.credit, servedAt := t.ts.servedAt, admitUse := t.ts.admitUse
        counters := t.ts.counters }
      ports := t.ports, sw := { s.sw with peak := t.sw.peak, qCtr := t.sw.qCtr, nextId := t.sw.nextId } })
    s (s.serviceArp r) := by
  unfold State.serviceArp
  refine .ite (.refl s) ?_
  split
  · exact .refl s
  · exact .via (State.admitReq_within.after (.refl s)) fun h1 => .ite h1 (State.tsAnswer_within.after h1)

theorem State.takeSeries_within {p e forced} {s : State} : Within
    (fun s t => { s.reported t with ports := t.ports })
    s (s.takeSeries p e forced) := by
  unfold State.takeSeries
  exact .via (State.updTrunk_within.after (.refl s)) fun h1 => .ite (State.restartSeries_within.after h1) h1

theorem State.indication_within {r ok} {s : State} : Within
    (fun s t => { s.reported t with
      time := t.time, refs := t.refs
      sel := { t.sel with
        mode := s.sel.mode, manual := s.sel.manual, wtr := s.sel.wtr, actMode := s.sel.actMode, actManual := s.sel.actManual
        actWtr := s.sel.actWtr, loopHeld := s.sel.loopHeld, integ := s.sel.integ, lastType := s.sel.lastType, lockType := s.sel.lockType
        lockTr := s.sel.lockTr, everLocked := s.sel.everLocked, clockClass := s.sel.clockClass, lastUpdate := s.sel.lastUpdate }
      hold := t.hold })
    s (s.indication r ok) := by
  unfold State.indication
  exact .via (State.updRef_within.after (.refl s)) fun h1 => .ite h1 (State.disqualify_within.after h1)

theorem State.trunkDelayResp_within {p m} {s : State} : Within
    (fun s t => { s.reported t with ports := t.ports, sw := { s.sw with peak := t.sw.peak, qCtr := t.sw.qCtr, nextId := t.sw.nextId } })
    s (s.trunkDelayResp p m) := by
  unfold State.trunkDelayResp
  exact State.trunkSend_within.after (.refl s)

theorem State.arbitrate_within {p} {s : State} : Within
    (fun s t => { s.reported t with
      time := t.time, refs := t.refs
      sel := { t.sel with
        mode := s.sel.mode, manual := s.sel.manual, wtr := s.sel.wtr, actMode := s.sel.actMode, actManual := s.sel.actManual
        actWtr := s.sel.actWtr, loopHeld := s.sel.loopHeld, integ := s.sel.integ, lastType := s.sel.lastType, lockType := s.sel.lockType
        lockTr := s.sel.lockTr, everLocked := s.sel.everLocked, clockClass := s.sel.clockClass, lastUpdate := s.sel.lastUpdate }
      hold := t.hold })
    s (s.arbitrate p) := by
  unfold State.arbitrate
  extract_lets +onlyGivenNames thr _ mark unresolved
  have marked : ∀ l, Within (fun s t => { s with sel := { s.sel with pairs := t.sel.pairs } }) s (mark l) := fun l => .put (.refl s)
  have left : Within (fun s t => { s with sel := { s.sel with pairs := t.sel.pairs } }) s unresolved :=
    .ite (marked _) (.ite (marked _) (marked _))
  clear_value unresolved
  split
  · exact left.after (.refl s)
  · exact .ite (State.disqualify_within.after (.refl s)) (.ite (State.disqualify_within.after (.refl s)) (left.after (.refl s)))

theorem State.ptpTurn_within {p msg} {s : State} : Within
    (fun s t => { s.reported t with
      ts := { s.ts with
        grants := t.ts.grants, load := t.ts.load, waiting := t.ts.waiting, credit := t.ts.credit, servedAt := t.ts.servedAt
        counters := t.ts.counters, ptpSeq := t.ts.ptpSeq, ptpNext := t.ts.ptpNext }
      ports := t.ports, sw := { s.sw with peak := t.sw.peak, qCtr := t.sw.qCtr, nextId := t.sw.nextId }, free := t.free })
    s (s.ptpTurn p msg) := by
  unfold State.ptpTurn
  extract_lets +onlyGivenNames b
  refine .ite (.refl s) ?_
  extract_lets +onlyGivenNames due _ t s1
  refine .via (t := t) (.put (.refl s)) fun h0 => ?_
  clear_value t
  refine .via (t := s1) (.ite (.ite (State.ptpOriginate_within.after h0) h0) (.refl s)) fun h1 => ?_
  clear_value s1
  exact .foldl (fun _ _ h2 => .ite (State.tsCount_within.after h2) (State.ptpOriginate_within.after h2)) _ (.put h1)

theorem State.pllCheck_within {raw} {s : State} : Within
    (fun s t => { s.noted t with ocxo := { s.ocxo with pllPhase := t.ocxo.pllPhase, phaseWalk := t.ocxo.phaseWalk } })
    s (s.pllCheck raw) := by
  unfold State.pllCheck
  split
  · exact .put (.refl s)
  · exact .ite (State.fault_within.after (.put (.refl s))) (.put (.refl s))

theorem State.classify_within {master access key device} {s : State} : Within
    (fun s t => { s.noted t with mem := { s.mem with repeats := t.mem.repeats, toRetire := t.mem.toRetire, counters := t.mem.counters } })
    s (s.classify master access key device) := by
  unfold State.classify
  exact .via (.ite (State.memCount_within.after (.put (.refl s))) (.put (.refl s))) fun h1 => .via (.ite (State.post_within.after
    (State.memCount_within.after h1)) h1) fun h2 => .ite (State.queueRetire_within.after (State.fault_within.after h2)) h2

theorem State.hostFrame_within {d f n} {s : State} : Within
    (fun s t => { s.reported t with
      ports := t.ports, host := { t.host with rings := s.host.rings }, sw := t.sw, bn := { s.bn with generates := t.bn.generates }
      free := t.free })
    s (s.hostFrame d f n) := by
  unfold State.hostFrame
  exact .via (State.hostCount_within.after (State.hostCount_within.after (.refl s))) fun h1 => .ite (State.classifyFrame_within.after
    h1) (State.egressCopy_within.after (.put h1))

theorem State.setWarn_within {code} {s : State} : Within
    (fun s t => { s.noted t with
      plat := { s.plat with
        warn := t.plat.warn, warnTick := t.plat.warnTick, lastWarn := t.plat.lastWarn, v12Ep := t.plat.v12Ep, vcoreEp := t.plat.vcoreEp } })
    s (s.setWarn code) := by
  unfold State.setWarn
  exact .ite (.refl s) (State.noteFrom_within.after (State.post_within.after (State.fault_within.after (.put (.refl s)))))

theorem State.countHit_within {r} {s : State} : Within
    (fun s t => { s.reported t with
      time := t.time, refs := t.refs
      sel := { t.sel with
        mode := s.sel.mode, manual := s.sel.manual, wtr := s.sel.wtr, actMode := s.sel.actMode, actManual := s.sel.actManual
        actWtr := s.sel.actWtr, loopHeld := s.sel.loopHeld, integ := s.sel.integ, lastType := s.sel.lastType, lockType := s.sel.lockType
        lockTr := s.sel.lockTr, everLocked := s.sel.everLocked, clockClass := s.sel.clockClass, lastUpdate := s.sel.lastUpdate }
      hold := t.hold })
    s (s.countHit r) := by
  unfold State.countHit
  exact .ite (.refl s) (.via (State.counterHalf_within.after (State.updRef_within.after (.refl s))) fun h1 => .ite
    (State.disqualify_within.after h1) h1)

theorem State.slaveAnnounce_within {m} {s : State} : Within
    (fun s t => { s.reported t with
      time := t.time, refs := t.refs
      sel := { t.sel with
        mode := s.sel.mode, manual := s.sel.manual, wtr := s.sel.wtr, actMode := s.sel.actMode, actManual := s.sel.actManual
        actWtr := s.sel.actWtr, loopHeld := s.sel.loopHeld, integ := s.sel.integ, lastType := s.sel.lastType, lockType := s.sel.lockType
        lockTr := s.sel.lockTr, everLocked := s.sel.everLocked, clockClass := s.sel.clockClass, lastUpdate := s.sel.lastUpdate }
      hold := t.hold, ts := { s.ts with announceAt := t.ts.announceAt, master := t.ts.master, masterId := t.ts.masterId } })
    s (s.slaveAnnounce m) := by
  unfold State.slaveAnnounce
  exact .ite (.refl s) (.ite (.put (.refl s)) (State.indication_within.after (.put (.refl s))))

theorem State.condition_within {code master access address} {s : State} : Within
    State.noted
    s (s.condition code master access address) := by
  unfold State.condition
  exact .ite (.refl s) (State.fault_within.after (State.updSrc_within.after (.refl s)))

theorem State.ntsServe_within {r cls pol} {s : State} : Within
    (fun s t => { s.reported t with
      ts := { s.ts with ledger := t.ts.ledger, counters := t.ts.counters }, ports := t.ports
      sw := { s.sw with peak := t.sw.peak, qCtr := t.sw.qCtr, nextId := t.sw.nextId }, bn := { s.bn with generates := t.bn.generates }
      free := t.free })
    s (s.ntsServe r cls pol) := by
  unfold State.ntsServe
  extract_lets +onlyGivenNames k
  have h1 := State.ledgerLookup_within (k := k) (cls := cls) (pol := pol) (s := s)
  generalize s.ledgerLookup k cls pol = x at h1
  obtain ⟨e, s1⟩ := x
  dsimp -zeta only at h1 ⊢
  have h2 := State.takeToken_within (k := k) (e := e) (s := s1)
  generalize s1.takeToken k e = y at h2
  obtain ⟨ok, s2⟩ := y
  dsimp -zeta only at h2 ⊢
  refine .via (h2.after (h1.after (.refl s))) fun h2 => ?_
  extract_lets +onlyGivenNames policy c uid uidF opened
  clear_value opened
  refine .ite ?_ ?_
  · refine .ite (State.tsCount_within.after h2) ?_
    extract_lets +onlyGivenNames poll
    split
    · exact State.kiss_within.after (State.tsCount_within.after h2)
    · exact State.kiss_within.after (State.entropy_within.after (State.tsCount_within.after h2))
  · split
    · exact State.kiss_within.after h2
    · exact State.tsAnswer_within.after (State.freshCookies_within.after (State.updEntry_within.after h2))

theorem State.ntsRequest_within {r} {s : State} : Within
    (fun s t => { s.reported t with
      ts := { s.ts with
        ledger := t.ts.ledger, grants := t.ts.grants, stranger := t.ts.stranger, strangerTick := t.ts.strangerTick
        capDropAt := t.ts.capDropAt, offered := t.ts.offered, load := t.ts.load, waiting := t.ts.waiting, credit := t.ts.credit
        servedAt := t.ts.servedAt, admitUse := t.ts.admitUse, denyKiss := t.ts.denyKiss, counters := t.ts.counters }
      ports := t.ports, sw := { s.sw with peak := t.sw.peak, qCtr := t.sw.qCtr, nextId := t.sw.nextId }
      bn := { s.bn with generates := t.bn.generates }, free := t.free })
    s (s.ntsRequest r) := by
  unfold State.ntsRequest
  exact .ite (.refl s) (.ite (State.tsCount_within.after (.refl s)) (.ite (State.denied_within.after (.refl s)) (.ite
    (State.tsCount_within.after (.refl s)) (.ite (State.tsCount_within.after (.refl s)) (.via (State.admitReq_within.after (.refl s)) fun
    h1 => .ite (State.ntsServe_within.after h1) h1)))))

theorem State.warnIfFallen_within {old} {s : State} : Within
    (fun s t => { s.noted t with
      plat := { s.plat with
        warn := t.plat.warn, warnTick := t.plat.warnTick, lastWarn := t.plat.lastWarn, v12Ep := t.plat.v12Ep, vcoreEp := t.plat.vcoreEp } })
    s (State.warnIfFallen old s) := by
  unfold State.warnIfFallen
  split
  · exact State.setWarn_within.after (.refl s)
  · exact .refl s

theorem State.ntpServe_within {r cls pol} {s : State} : Within
    (fun s t => { s.reported t with
      ts := { s.ts with ledger := t.ts.ledger, counters := t.ts.counters }, ports := t.ports
      sw := { s.sw with peak := t.sw.peak, qCtr := t.sw.qCtr, nextId := t.sw.nextId } })
    s (s.ntpServe r cls pol) := by
  unfold State.ntpServe
  exact .via (State.takeToken_within.after (State.ledgerLookup_within.after (.refl s))) fun h1 => .ite (.via (State.tsCount_within.after
    h1) fun h2 => .ite h2 (State.kiss_within.after h2)) (.ite (State.kiss_within.after h1) (State.tsAnswer_within.after h1))

theorem State.breakSeal_within {s : State} : Within
    (fun s t => { s.noted t with
      tci := { s.tci with mbx := t.tci.mbx, aside := t.tci.aside }, win := { s.win with actions := t.win.actions, closing := t.win.closing }
      sealLoop := { s.sealLoop with latch := t.sealLoop.latch, flash := t.sealLoop.flash }
      dom := { s.dom with txSeq := t.dom.txSeq, queue := t.dom.queue }
      ts := { s.ts with cookies := t.ts.cookies, rotating := t.ts.rotating }, keys := t.keys, bn := t.bn })
    s s.breakSeal := by
  unfold State.breakSeal
  exact .ite (.refl s) (State.noteFrom_within.after (State.postSeal_within.after (State.condition_within.after (.foldl (fun _ _ h1 =>
    State.endWait_within.after h1) _ (State.zeroiseKeys_within.after (.put (.refl s)))))))

theorem State.cancelGrants_within {p} {s : State} : Within
    (fun s t => { s.reported t with
      ts := { s.ts with
        grants := t.ts.grants, load := t.ts.load, waiting := t.ts.waiting, credit := t.ts.credit, servedAt := t.ts.servedAt
        counters := t.ts.counters, ptpSeq := t.ts.ptpSeq }
      ports := t.ports, sw := { s.sw with peak := t.sw.peak, qCtr := t.sw.qCtr, nextId := t.sw.nextId } })
    s (s.cancelGrants p) := by
  unfold State.cancelGrants
  exact .foldl (fun _ _ h1 => State.cancelGrant_within.after h1) _ (.put (.refl s))

theorem State.spareFault_within {s : State} : Within State.noted s s.spareFault := by
  unfold State.spareFault
  refine .ite (.refl s) ?_
  refine .ite (State.condition_within.after (.refl s)) ?_
  refine .ite ?_ (.refl s)
  split
  · exact .ite (State.settleFaults_within.after (State.post_within.after (State.updRecord_within.after (.refl s)))) (.refl s)
  · exact .refl s

theorem State.setAntenna_within {t a} {s : State} : Within
    (fun s t => { s.noted t with gnss := { s.gnss with antenna := t.gnss.antenna } })
    s (s.setAntenna t a) := by
  unfold State.setAntenna
  exact .ite (.refl s) (.via (State.postAt_within.after (.put (.refl s))) fun h1 => .ite (State.condition_within.after h1)
    (State.conditionEnds_within.after h1))

theorem State.duplicate_within {id p} {s : State} : Within
    (fun s t => { s.noted t with dom := { s.dom with dupId := t.dom.dupId, dupAt := t.dom.dupAt } })
    s (s.duplicate id p) := by
  unfold State.duplicate
  exact .ite (.put (.refl s)) (State.condition_within.after (State.post_within.after (.put (.refl s))))

theorem State.takeMembers_within {f} {s : State} : Within
    (fun s t => { s.noted t with dom := { s.dom with dupId := t.dom.dupId, dupAt := t.dom.dupAt }, ports := t.ports })
    s (s.takeMembers f) := by
  unfold State.takeMembers
  extract_lets +onlyGivenNames map s1
  refine .via (t := s1) (State.updTrunk_within.after (.refl s)) fun h1 => ?_
  clear_value s1
  split
  · exact State.duplicate_within.after h1
  · exact h1

theorem State.hostSend_within {r d f} {s : State} : Within
    (fun s t => { s.reported t with
      ports := t.ports, host := t.host, sw := t.sw, bn := { s.bn with generates := t.bn.generates }, free := t.free })
    s (s.hostSend r d f) := by
  unfold State.hostSend
  exact .ite (.refl s) (.via (State.raiseInt_within.after (State.emit_within.after (State.updRing_within.after (.refl s)))) fun h1 =>
    .ite (State.hostCount_within.after h1) (.ite (.foldl (fun _ _ h2 => State.hostFrame_within.after (State.emit_within.after h2)) _
    (State.hostCount_within.after (State.hostCount_within.after h1))) (.ite (State.hostFrame_within.after (State.emit_within.after h1))
    (State.hostFrame_within.after h1))))

theorem State.applyBias_within {t} {s : State} : Within
    (fun s t => { s.noted t with
      gnss := { s.gnss with biasMv := t.gnss.biasMv, antenna := t.gnss.antenna, antennaMa := t.gnss.antennaMa } })
    s (s.applyBias t) := by
  unfold State.applyBias
  exact .ite (State.setAntenna_within.after (State.driveBias_within.after (.refl s))) (.ite (State.driveBias_within.after
    (State.setAntenna_within.after (.refl s))) (State.driveBias_within.after (.refl s)))

theorem State.refEvent_within {r e phase forceHit} {s : State} : Within
    (fun s t => { s.reported t with
      time := t.time, refs := t.refs
      sel := { t.sel with
        mode := s.sel.mode, manual := s.sel.manual, wtr := s.sel.wtr, actMode := s.sel.actMode, actManual := s.sel.actManual
        actWtr := s.sel.actWtr, loopHeld := s.sel.loopHeld, integ := s.sel.integ, lastType := s.sel.lastType, lockType := s.sel.lockType
        lockTr := s.sel.lockTr, everLocked := s.sel.everLocked, clockClass := s.sel.clockClass, lastUpdate := s.sel.lastUpdate }
      hold := t.hold })
    s (s.refEvent r e phase forceHit) := by
  unfold State.refEvent
  exact .via (State.countHit_within.after (.refl s)) fun h1 => .ite h1 (.foldl (fun _ _ h2 => State.updRef_within.after h2) _
    (State.updRef_within.after h1))

theorem State.todJudge_within {r label t} {s : State} : Within
    (fun s t => { s.reported t with
      time := t.time, refs := t.refs
      sel := { t.sel with
        mode := s.sel.mode, manual := s.sel.manual, wtr := s.sel.wtr, actMode := s.sel.actMode, actManual := s.sel.actManual
        actWtr := s.sel.actWtr, loopHeld := s.sel.loopHeld, integ := s.sel.integ, lastType := s.sel.lastType, lockType := s.sel.lockType
        lockTr := s.sel.lockTr, everLocked := s.sel.everLocked, clockClass := s.sel.clockClass, lastUpdate := s.sel.lastUpdate }
      hold := t.hold })
    s (s.todJudge r label t) := by
  unfold State.todJudge
  exact .ite (.refl s) (State.indication_within.after (State.updRef_within.after (.refl s)))

theorem State.startCopy_within {p phase k c} {s : State} : Within
    (fun s t => { s.reported t with
      stamps := { s.stamps with idx := t.stamps.idx, phase := t.stamps.phase }
      ts := { s.ts with
        load := t.ts.load, waiting := t.ts.waiting, credit := t.ts.credit, servedAt := t.ts.servedAt, counters := t.ts.counters
        linkPair := t.ts.linkPair, pair := t.ts.pair }
      ports := t.ports, host := { s.host with queue := t.host.queue }
      sw := { s.sw with mirrors := t.sw.mirrors, peak := t.sw.peak, qCtr := t.sw.qCtr, flowCtr := t.sw.flowCtr, nextId := t.sw.nextId }
      bn := { s.bn with generates := t.bn.generates }, free := t.free })
    s (s.startCopy p phase k c) := by
  unfold State.startCopy
  split
  next t ht => exact (State.dropped_within ht).after (.refl s)
  · exact State.leaves_within.after (State.updPort_within.after (State.chargeBuckets_within.after (State.popQueue_within.after
      (State.chargeDeficits_within.after (.refl s)))))

theorem State.ntpRequest_within {r} {s : State} : Within
    (fun s t => { s.reported t with
      ts := { s.ts with
        ledger := t.ts.ledger, grants := t.ts.grants, stranger := t.ts.stranger, strangerTick := t.ts.strangerTick
        capDropAt := t.ts.capDropAt, offered := t.ts.offered, load := t.ts.load, waiting := t.ts.waiting, credit := t.ts.credit
        servedAt := t.ts.servedAt, admitUse := t.ts.admitUse, denyKiss := t.ts.denyKiss, counters := t.ts.counters }
      ports := t.ports, sw := { s.sw with peak := t.sw.peak, qCtr := t.sw.qCtr, nextId := t.sw.nextId } })
    s (s.ntpRequest r) := by
  unfold State.ntpRequest
  exact .ite (.refl s) (.ite (State.tsCount_within.after (.refl s)) (.ite (State.denied_within.after (.refl s)) (.ite
    (State.tsCount_within.after (.refl s)) (.via (State.admitReq_within.after (.refl s)) fun h1 => .ite (State.ntpServe_within.after h1)
    h1))))

theorem State.negotiate_within {m c k e} {s : State} : Within
    (fun s t => { s.reported t with
      ts := { s.ts with
        grants := t.ts.grants, load := t.ts.load, waiting := t.ts.waiting, credit := t.ts.credit, servedAt := t.ts.servedAt
        counters := t.ts.counters, ptpSeq := t.ts.ptpSeq }
      ports := t.ports, sw := { s.sw with peak := t.sw.peak, qCtr := t.sw.qCtr, nextId := t.sw.nextId } })
    s (s.negotiate m c k e) := by
  unfold State.negotiate
  exact .ite (.ite (State.signalling_within.after (.put (.refl s))) (State.signalling_within.after (State.tsCount_within.after (.refl s))))
    (.ite (State.signalling_within.after (.put (.refl s))) (.refl s))

theorem State.exchangeTake_within {p m} {s : State} : Within
    (fun s t => { s.reported t with ports := t.ports, sw := { s.sw with peak := t.sw.peak, qCtr := t.sw.qCtr, nextId := t.sw.nextId } })
    s (s.exchangeTake p m) := by
  unfold State.exchangeTake
  refine .ite (.refl s) ?_
  refine .ite (.ite (.refl s) (State.trunkDelayResp_within.after (.refl s))) ?_
  refine .ite (.refl s) ?_
  refine .ite (State.updTrunk_within.after (.refl s)) ?_
  refine .ite ?_ (.refl s)
  split
  · exact State.pairDone_within.after (.refl s)
  · exact .refl s

theorem State.ref7Reparent_within {p} {s : State} : Within
    (fun s t => { s.reported t with
      time := t.time, refs := t.refs
      sel := { t.sel with
        mode := s.sel.mode, manual := s.sel.manual, wtr := s.sel.wtr, actMode := s.sel.actMode, actManual := s.sel.actManual
        actWtr := s.sel.actWtr, loopHeld := s.sel.loopHeld, integ := s.sel.integ, lastType := s.sel.lastType, lockType := s.sel.lockType
        lockTr := s.sel.lockTr, everLocked := s.sel.everLocked, clockClass := s.sel.clockClass, lastUpdate := s.sel.lastUpdate }
      hold := t.hold })
    s (s.ref7Reparent p) := by
  unfold State.ref7Reparent
  split
  · exact .ite (.refl s) (.ite (.via (State.updRef_within.after (.refl s)) fun h1 => .ite h1 (.ite (.put h1) (.ite
      (State.treatDelta_within.after h1) (State.treatPhase_within.after h1)))) (State.disqualify_within.after (.refl s)))
  · exact .refl s

theorem State.comparePair_within {a b} {s : State} : Within
    (fun s t => { s.reported t with
      time := t.time, refs := t.refs
      sel := { t.sel with
        mode := s.sel.mode, manual := s.sel.manual, wtr := s.sel.wtr, actMode := s.sel.actMode, actManual := s.sel.actManual
        actWtr := s.sel.actWtr, loopHeld := s.sel.loopHeld, integ := s.sel.integ, lastType := s.sel.lastType, lockType := s.sel.lockType
        lockTr := s.sel.lockTr, everLocked := s.sel.everLocked, clockClass := s.sel.clockClass, lastUpdate := s.sel.lastUpdate }
      hold := t.hold })
    s (s.comparePair a b) := by
  unfold State.comparePair
  exact .ite (.refl s) (.ite (.ite (State.post_within.after (.put (.refl s))) (State.arbitrate_within.after (.put (.refl s)))) (.ite
    (State.arbitrate_within.after (State.post_within.after (.put (.refl s)))) (.put (.refl s))))

theorem State.ppsEdge_within {s : State} : Within
    (fun s t => { s.reported t with
      time := t.time, refs := t.refs
      sel := { t.sel with
        mode := s.sel.mode, manual := s.sel.manual, wtr := s.sel.wtr, actMode := s.sel.actMode, actManual := s.sel.actManual
        actWtr := s.sel.actWtr, loopHeld := s.sel.loopHeld, integ := s.sel.integ, lastType := s.sel.lastType, lockType := s.sel.lockType
        lockTr := s.sel.lockTr, everLocked := s.sel.everLocked, clockClass := s.sel.clockClass, lastUpdate := s.sel.lastUpdate }
      hold := t.hold, gnss := { s.gnss with ppsAt := t.gnss.ppsAt } })
    s s.ppsEdge := by
  unfold State.ppsEdge
  exact .ite (.put (.refl s)) (State.indication_within.after (.put (.refl s)))

theorem State.evaluate_within {r quality own raw centre_ cEnd} {s : State} : Within
    (fun s t => { s.reported t with
      time := t.time, refs := t.refs
      sel := { t.sel with
        mode := s.sel.mode, manual := s.sel.manual, wtr := s.sel.wtr, loopHeld := s.sel.loopHeld, integ := s.sel.integ
        lastType := s.sel.lastType, lockType := s.sel.lockType, lockTr := s.sel.lockTr, everLocked := s.sel.everLocked
        clockClass := s.sel.clockClass, lastUpdate := s.sel.lastUpdate }
      hold := t.hold })
    s (s.evaluate r quality own raw centre_ cEnd) := by
  unfold State.evaluate
  extract_lets +onlyGivenNames s1
  refine .via (t := s1) (State.updRef_within.after (.refl s)) fun h1 => ?_
  clear_value s1
  split
  extract_lets +onlyGivenNames g x0 x1
  split
  extract_lets +onlyGivenNames offTol driftTol leftOut offBad driftBad x2 s2
  refine .via (t := s2) (State.updRef_within.after h1) fun h2 => ?_
  clear_value s2
  extract_lets +onlyGivenNames _ _ s3
  refine .via (t := s3) ?_ fun h3 => ?_
  · exact .ite (.ite (State.disqualify_within.after (State.updRef_within.after h2)) (.ite (State.disqualify_within.after h2)
      (.ite (State.disqualify_within.after h2) (.ite (State.disqualify_within.after h2) h2)))) (.ite (.ite (State.updRef_within.after h2) h2) h2)
  clear_value s3
  extract_lets +onlyGivenNames s4
  refine .via (t := s4) (.foldl (fun _ _ h4 => State.comparePair_within.after h4) refPairs h3) fun h4 => ?_
  clear_value s4
  exact State.runSelector_within.after (.put h4)

theorem State.fullReset_within {reason service factory} {s : State} : Within
    (fun s t => { t with pending := s.pending })
    s (s.fullReset reason service factory) := by
  unfold State.fullReset
  extract_lets +onlyGivenNames z _ _ _ _ _ _ _ _ _ _ _ _ _ s1 s2
  refine .via (t := s1) ⟨rfl, fun _ => ⟨rfl, by show State.reset.intr.mask < 2 ^ 12; decide⟩⟩ fun h1 => ?_
  clear_value s1
  refine .via (t := s2) (State.setHold_within.after h1) fun h2 => ?_
  clear_value s2
  exact .ite (State.condition_within.after h2) h2

theorem State.settleGnss_within {t old} {s : State} : Within
    (fun s t => { s.noted t with gnss := { s.gnss with since := t.gnss.since, solution := t.gnss.solution } })
    s (State.settleGnss t old s) := by
  unfold State.settleGnss
  exact .via (.ite (.put (.refl s)) (.put (.refl s))) fun h1 => .via (.ite h1 (State.postAt_within.after h1)) fun h2 => .ite
    (State.condition_within.after h2) (.ite (State.conditionEnds_within.after h2) h2)

theorem State.syncService_within {old} {s : State} : Within
    (fun s t => { s.reported t with
      ts := { s.ts with
        ntp := t.ts.ntp, nts := t.ts.nts, ptp := t.ts.ptp, draining := t.ts.draining, derivedAt := t.ts.derivedAt, grants := t.ts.grants
        load := t.ts.load, waiting := t.ts.waiting, credit := t.ts.credit, servedAt := t.ts.servedAt, counters := t.ts.counters
        announceAt := t.ts.announceAt, ptpSeq := t.ts.ptpSeq, master := t.ts.master, masterId := t.ts.masterId, pair := t.ts.pair }
      ports := t.ports, sw := { s.sw with peak := t.sw.peak, qCtr := t.sw.qCtr, nextId := t.sw.nextId } })
    s (State.syncService old s) := by
  unfold State.syncService
  exact .foldl (fun _ _ h1 => .ite (State.gratuitous_within.after h1) h1) _ (State.cancelGrants_within.after (.put (.refl s)))

theorem State.correctEvent_within {master access key devices injected} {s : State} : Within
    (fun s t => { s.noted t with
      mem := { s.mem with recent := t.mem.recent, repeats := t.mem.repeats, toRetire := t.mem.toRetire, counters := t.mem.counters } })
    s (s.correctEvent master access key devices injected) := by
  unfold State.correctEvent
  exact .via (.foldl (fun _ _ h1 => State.memCount_within.after h1) _ (State.memCount_within.after (.refl s))) fun h2 => .ite h2
    (State.classify_within.after (.put h2))

theorem State.gnssEpoch_within {e} {s : State} : Within
    (fun s t => { s.noted t with
      refs := t.refs
      sel := { s.sel with lastType := t.sel.lastType, lockType := t.sel.lockType, lockTr := t.sel.lockTr, clockClass := t.sel.clockClass }
      gnss := t.gnss })
    s (s.gnssEpoch e) := by
  have set : ∀ (t : State) x, Within (fun s t => { s with gnss := t.gnss }) t { t with gnss := x } := fun t _ => .put (.refl t)
  unfold State.gnssEpoch
  refine .ite (.refl s) ?_
  extract_lets +onlyGivenNames s0
  refine .via (t := s0) (State.epochData_within.after (.refl s)) fun h0 => ?_
  clear_value s0
  induction s0 using State.generic with | all s0 => ?_
  extract_lets +onlyGivenNames tracked sound bothOf times only pool used entries dual label now g gapped hist usable quiet
  split
  extract_lets +onlyGivenNames g1 s1
  refine .via (t := s1) (State.sysCheck_within.after ((set s0 _).after h0)) fun h1 => ?_
  clear_value s1
  induction s1 using State.generic with | all s1 => ?_
  extract_lets +onlyGivenNames labelBad conds since driftBad active holds enough solution fails g2 s2
  refine .via (t := s2) (State.solveGlonass_within.after ((set s1 _).after h1)) fun h2 => ?_
  clear_value s2
  induction s2 using State.generic with | all s2 => ?_
  extract_lets +onlyGivenNames s3 s4 s6
  refine .via (t := s3) (State.firstSolution_within.after (State.leapCompare_within.after h2)) fun h3 => ?_
  clear_value s3
  refine .via (t := s4) (State.takeChange_within.after ((set s3 _).after h3)) fun h4 => ?_
  clear_value s4
  refine .via (t := s6) (State.gnssDisqualify_within.after (State.applyIndicators_within.after h4)) fun h6 => ?_
  clear_value s6
  extract_lets +onlyGivenNames s7
  refine .via (t := s7) (State.settleGnss_within.after ((set s6 _).after h6)) fun h7 => ?_
  clear_value s7
  exact State.settleTiming_within.after (State.applyBias_within.after (.ite h7 (State.updRef_within.after h7)))

theorem State.feedRef7_within {p e forced} {s : State} : Within
    (fun s t => { s.reported t with
      time := t.time, refs := t.refs
      sel := { t.sel with
        mode := s.sel.mode, manual := s.sel.manual, wtr := s.sel.wtr, actMode := s.sel.actMode, actManual := s.sel.actManual
        actWtr := s.sel.actWtr, loopHeld := s.sel.loopHeld, integ := s.sel.integ, lastType := s.sel.lastType, lockType := s.sel.lockType
        lockTr := s.sel.lockTr, everLocked := s.sel.everLocked, clockClass := s.sel.clockClass, lastUpdate := s.sel.lastUpdate }
      hold := t.hold })
    s (s.feedRef7 p e forced) := by
  unfold State.feedRef7
  exact .ite (State.refEvent_within.after (State.updRef_within.after (.refl s))) (.refl s)

theorem State.correct_within {master access key devices} {s : State} : Within
    (fun s t => { s.noted t with
      mem := { s.mem with
        lines := t.mem.lines, recent := t.mem.recent, repeats := t.mem.repeats, toRetire := t.mem.toRetire, flip := t.mem.flip
        counters := t.mem.counters } })
    s (s.correct master access key devices) := by
  unfold State.correct
  extract_lets +onlyGivenNames e s1
  refine .via (t := s1) (State.flipWrite_within.after (State.writeBack_within.after (State.correctEvent_within.after (.refl s)))) fun h1 => ?_
  clear_value s1
  split
  · exact State.writeBack_within.after (State.correctEvent_within.after h1)
  · exact State.uncorrectable_within.after h1
  · exact h1

theorem State.standbyLost_within {service factory} {s : State} : Within
    (fun s t => { t with pending := s.pending })
    s (s.standbyLost service factory) := by
  unfold State.standbyLost
  extract_lets +onlyGivenNames _ s1
  refine .via (t := s1) (State.standbyReset_within.after (State.fullReset_within.after (.put (.refl s)))) fun h1 => ?_
  clear_value s1
  exact .put h1

theorem State.syncTiming_within {m x} {s : State} : Within
    (fun s t => { s.reported t with
      time := t.time, refs := t.refs
      sel := { t.sel with
        mode := s.sel.mode, manual := s.sel.manual, wtr := s.sel.wtr, actMode := s.sel.actMode, actManual := s.sel.actManual
        actWtr := s.sel.actWtr, loopHeld := s.sel.loopHeld, integ := s.sel.integ, lastType := s.sel.lastType, lockType := s.sel.lockType
        lockTr := s.sel.lockTr, everLocked := s.sel.everLocked, clockClass := s.sel.clockClass, lastUpdate := s.sel.lastUpdate }
      hold := t.hold
      ts := { s.ts with
        load := t.ts.load, waiting := t.ts.waiting, credit := t.ts.credit, servedAt := t.ts.servedAt, counters := t.ts.counters
        ptpSeq := t.ts.ptpSeq }
      ports := t.ports, sw := { s.sw with peak := t.sw.peak, qCtr := t.sw.qCtr, nextId := t.sw.nextId } })
    s (s.syncTiming m x) := by
  unfold State.syncTiming
  split
  · exact .via (State.relaySync_within.after (.refl s)) fun h1 => .ite (State.refEvent_within.after h1) h1
  · exact .refl s

theorem State.refReturn_within {r e phase} {s : State} : Within
    (fun s t => { s.reported t with
      time := t.time, refs := t.refs
      sel := { t.sel with
        mode := s.sel.mode, manual := s.sel.manual, wtr := s.sel.wtr, actMode := s.sel.actMode, actManual := s.sel.actManual
        actWtr := s.sel.actWtr, loopHeld := s.sel.loopHeld, integ := s.sel.integ, lastType := s.sel.lastType, lockType := s.sel.lockType
        lockTr := s.sel.lockTr, everLocked := s.sel.everLocked, clockClass := s.sel.clockClass, lastUpdate := s.sel.lastUpdate }
      hold := t.hold })
    s (s.refReturn r e phase) := by
  unfold State.refReturn
  exact .via (State.refEvent_within.after (State.updRef_within.after (.refl s))) fun h1 => .ite (State.treatPhase_within.after h1) h1

theorem State.slaveTiming_within {m} {s : State} : Within
    (fun s t => { s.reported t with
      time := t.time, refs := t.refs
      sel := { t.sel with
        mode := s.sel.mode, manual := s.sel.manual, wtr := s.sel.wtr, actMode := s.sel.actMode, actManual := s.sel.actManual
        actWtr := s.sel.actWtr, loopHeld := s.sel.loopHeld, integ := s.sel.integ, lastType := s.sel.lastType, lockType := s.sel.lockType
        lockTr := s.sel.lockTr, everLocked := s.sel.everLocked, clockClass := s.sel.clockClass, lastUpdate := s.sel.lastUpdate }
      hold := t.hold
      ts := { s.ts with
        load := t.ts.load, waiting := t.ts.waiting, credit := t.ts.credit, servedAt := t.ts.servedAt, counters := t.ts.counters
        ptpSeq := t.ts.ptpSeq, pair := t.ts.pair }
      ports := t.ports, sw := { s.sw with peak := t.sw.peak, qCtr := t.sw.qCtr, nextId := t.sw.nextId } })
    s (s.slaveTiming m) := by
  unfold State.slaveTiming
  refine .ite (.refl s) ?_
  refine .ite (State.syncTiming_within.after (.put (.refl s))) ?_
  refine .ite (.ite (State.syncTiming_within.after (.put (.refl s))) (.refl s)) ?_
  refine .ite ?_ (.refl s)
  split
  · exact State.refEvent_within.after (.put (.refl s))
  · exact .refl s

theorem State.slaveTakes_within {m} {s : State} : Within
    (fun s t => { s.reported t with
      time := t.time, refs := t.refs
      sel := { t.sel with
        mode := s.sel.mode, manual := s.sel.manual, wtr := s.sel.wtr, actMode := s.sel.actMode, actManual := s.sel.actManual
        actWtr := s.sel.actWtr, loopHeld := s.sel.loopHeld, integ := s.sel.integ, lastType := s.sel.lastType, lockType := s.sel.lockType
        lockTr := s.sel.lockTr, everLocked := s.sel.everLocked, clockClass := s.sel.clockClass, lastUpdate := s.sel.lastUpdate }
      hold := t.hold
      ts := { s.ts with
        load := t.ts.load, waiting := t.ts.waiting, credit := t.ts.credit, servedAt := t.ts.servedAt, counters := t.ts.counters
        announceAt := t.ts.announceAt, ptpSeq := t.ts.ptpSeq, master := t.ts.master, masterId := t.ts.masterId, pair := t.ts.pair }
      ports := t.ports, sw := { s.sw with peak := t.sw.peak, qCtr := t.sw.qCtr, nextId := t.sw.nextId } })
    s (s.slaveTakes m) := by
  unfold State.slaveTakes
  exact .ite (.refl s) (.ite (State.ptpDisabled_within.after (.refl s)) (.ite (State.tsCount_within.after (.refl s)) (.ite
    (State.tsCount_within.after (.refl s)) (.via (State.tsCount_within.after (State.tsWork_within.after (.refl s))) fun h1 => .ite
    (State.slaveAnnounce_within.after h1) (State.slaveTiming_within.after h1)))))

theorem State.retree_within {tick} {s : State} : Within
    (fun s t => { s.reported t with
      time := t.time, refs := t.refs
      sel := { t.sel with
        mode := s.sel.mode, manual := s.sel.manual, wtr := s.sel.wtr, actMode := s.sel.actMode, actManual := s.sel.actManual
        actWtr := s.sel.actWtr, loopHeld := s.sel.loopHeld, integ := s.sel.integ, lastType := s.sel.lastType, lockType := s.sel.lockType
        lockTr := s.sel.lockTr, everLocked := s.sel.everLocked, clockClass := s.sel.clockClass, lastUpdate := s.sel.lastUpdate }
      hold := t.hold, dom := t.dom })
    s (s.retree tick) := by
  unfold State.retree
  exact .via (State.chooseRoot_within.after (.refl s)) fun h1 => .via (.put (.ite (State.withdraw_within.after h1) h1)) fun h2 => .via
    (.ite (State.post_within.after h2) h2) fun h3 => .via (.ite (State.ref7Reparent_within.after (State.post_within.after
    (State.counterHalf_within.after h3))) h3) fun h4 => .via (.ite (State.runSelector_within.after h4) h4) fun h5 => .ite
    (State.sendHellos_within.after h5) h5

theorem State.decideQueue_within {p phase} {s : State} : Within
    (fun s t => { s.reported t with
      stamps := { s.stamps with idx := t.stamps.idx, phase := t.stamps.phase }
      ts := { s.ts with
        load := t.ts.load, waiting := t.ts.waiting, credit := t.ts.credit, servedAt := t.ts.servedAt, counters := t.ts.counters
        linkPair := t.ts.linkPair, pair := t.ts.pair }
      ports := t.ports, host := { s.host with queue := t.host.queue }
      sw := { s.sw with mirrors := t.sw.mirrors, peak := t.sw.peak, qCtr := t.sw.qCtr, flowCtr := t.sw.flowCtr, nextId := t.sw.nextId }
      bn := { s.bn with generates := t.bn.generates }, free := t.free })
    s (s.decideQueue p phase) := by
  unfold State.decideQueue
  split
  · exact .ite (State.startCopy_within.after (.refl s)) (State.resumeCut_within.after (.refl s))
  · exact State.resumeCut_within.after (.refl s)
  next k c _ _ =>
    refine .ite (.refl s) (.ite ?_ (State.startCopy_within.after (.refl s)))
    cases h : s.dropped p k c with
    | none => exact .refl s
    | some t => exact (State.dropped_within h).after (.refl s)
  · exact .refl s

theorem State.takeHello_within {f} {s : State} : Within
    (fun s t => { s.reported t with
      time := t.time, refs := t.refs
      sel := { t.sel with
        mode := s.sel.mode, manual := s.sel.manual, wtr := s.sel.wtr, actMode := s.sel.actMode, actManual := s.sel.actManual
        actWtr := s.sel.actWtr, loopHeld := s.sel.loopHeld, integ := s.sel.integ, lastType := s.sel.lastType, lockType := s.sel.lockType
        lockTr := s.sel.lockTr, everLocked := s.sel.everLocked, clockClass := s.sel.clockClass, lastUpdate := s.sel.lastUpdate }
      hold := t.hold, dom := t.dom, ports := t.ports })
    s (s.takeHello f) := by
  unfold State.takeHello
  exact .via (State.updTrunk_within.after (.refl s)) fun h1 => .via (.ite (.put h1) h1) fun h2 => State.retree_within.after (.ite
    (State.setTrunk_within.after (State.updTrunk_within.after h2)) h2)

theorem State.decideUp_within {p phase} {s : State} : Within
    (fun s t => { s.reported t with
      stamps := { s.stamps with idx := t.stamps.idx, phase := t.stamps.phase }, dom := { s.dom with queue := t.dom.queue }
      ts := { s.ts with
        load := t.ts.load, waiting := t.ts.waiting, credit := t.ts.credit, servedAt := t.ts.servedAt, counters := t.ts.counters
        linkPair := t.ts.linkPair, pair := t.ts.pair }
      ports := t.ports, host := { s.host with queue := t.host.queue }
      sw := { s.sw with mirrors := t.sw.mirrors, peak := t.sw.peak, qCtr := t.sw.qCtr, flowCtr := t.sw.flowCtr, nextId := t.sw.nextId }
      bn := { s.bn with generates := t.bn.generates }, free := t.free })
    s (s.decideUp p phase) := by
  unfold State.decideUp
  split
  · exact .ite (State.emit_within.after (State.stat_within.after (State.updPort_within.after (.refl s)))) (.refl s)
  · exact .ite (State.startDomain_within.after (.refl s)) (State.decideQueue_within.after (.refl s))
  · exact State.decideQueue_within.after (.refl s)

theorem State.deciding_within {p phase} {s : State} : Within
    (fun s t => { s.reported t with
      stamps := { s.stamps with idx := t.stamps.idx, phase := t.stamps.phase }, dom := { s.dom with queue := t.dom.queue }
      ts := { s.ts with
        load := t.ts.load, waiting := t.ts.waiting, credit := t.ts.credit, servedAt := t.ts.servedAt, counters := t.ts.counters
        linkPair := t.ts.linkPair, pair := t.ts.pair }
      ports := t.ports, host := { s.host with queue := t.host.queue }
      sw := { s.sw with mirrors := t.sw.mirrors, peak := t.sw.peak, qCtr := t.sw.qCtr, flowCtr := t.sw.flowCtr, nextId := t.sw.nextId }
      bn := { s.bn with generates := t.bn.generates }, free := t.free })
    s (s.decide_ p phase) := by
  unfold State.decide_
  exact .ite (State.decideDown_within.after (.refl s)) (.ite (.refl s) (.ite (State.decideUp_within.after
    (State.startPreempt_within.after (State.setPreempt_within.after (.refl s)))) (State.decideUp_within.after (.refl s))))

theorem State.syncDomain_within {old} {s : State} : Within
    (fun s t => { s.reported t with
      time := t.time, refs := t.refs
      sel := { t.sel with
        mode := s.sel.mode, manual := s.sel.manual, wtr := s.sel.wtr, actMode := s.sel.actMode, actManual := s.sel.actManual
        actWtr := s.sel.actWtr, loopHeld := s.sel.loopHeld, integ := s.sel.integ, lastType := s.sel.lastType, lockType := s.sel.lockType
        lockTr := s.sel.lockTr, everLocked := s.sel.everLocked, clockClass := s.sel.clockClass, lastUpdate := s.sel.lastUpdate }
      hold := t.hold, dom := t.dom, ports := t.ports })
    s (s.syncDomain old) := by
  unfold State.syncDomain
  exact .via (.foldl (fun _ _ h1 => State.trunkDrop_within.after h1) _ (.refl s)) fun h2 => State.retree_within.after (.put (.foldl (fun
    _ _ h3 => State.trunkCount_within.after h3) _ (.ite (State.disqualify_within.after h2) h2)))

theorem State.gnssIndication_within {t old} {s : State} : Within
    (fun s t => { s.noted t with
      time := t.time, refs := t.refs
      sel := { t.sel with
        mode := s.sel.mode, manual := s.sel.manual, wtr := s.sel.wtr, actMode := s.sel.actMode, actManual := s.sel.actManual
        actWtr := s.sel.actWtr, loopHeld := s.sel.loopHeld, integ := s.sel.integ, everLocked := s.sel.everLocked
        lastUpdate := s.sel.lastUpdate }
      hold := t.hold, gnss := { s.gnss with since := t.gnss.since, solution := t.gnss.solution } })
    s (State.gnssIndication t old s) := by
  unfold State.gnssIndication
  exact .via (State.settleGnss_within.after (.refl s)) fun h1 => State.settleTiming_within.after (.ite h1 (State.indication_within.after
    h1))

theorem State.dramWrite_within {master key whole} {s : State} : Within
    (fun s t => { s.noted t with
      mem := { s.mem with
        lines := t.mem.lines, recent := t.mem.recent, repeats := t.mem.repeats, toRetire := t.mem.toRetire, flip := t.mem.flip
        counters := t.mem.counters } })
    s (s.dramWrite master key whole) := by
  unfold State.dramWrite
  refine State.flipWrite_within.after ?_
  refine .ite (State.setLine_within.after (.refl s)) ?_
  split
  · exact .refl s
  · exact State.correct_within.after (.refl s)
  · exact State.setLine_within.after (State.uncorrectable_within.after (.refl s))
  · exact State.memCount_within.after (.refl s)

theorem State.seriesValue_within {p e forced} {s : State} : Within
    (fun s t => { s.reported t with
      time := t.time, refs := t.refs
      sel := { t.sel with
        mode := s.sel.mode, manual := s.sel.manual, wtr := s.sel.wtr, actMode := s.sel.actMode, actManual := s.sel.actManual
        actWtr := s.sel.actWtr, loopHeld := s.sel.loopHeld, integ := s.sel.integ, lastType := s.sel.lastType, lockType := s.sel.lockType
        lockTr := s.sel.lockTr, everLocked := s.sel.everLocked, clockClass := s.sel.clockClass, lastUpdate := s.sel.lastUpdate }
      hold := t.hold, ports := t.ports })
    s (s.seriesValue p e forced) := by
  unfold State.seriesValue
  exact .ite (State.feedRef7_within.after (State.takeSeries_within.after (.refl s))) (.refl s)

theorem State.syncGnss_within {old} {s : State} : Within
    (fun s t => { s.noted t with
      time := t.time, refs := t.refs
      sel := { t.sel with
        mode := s.sel.mode, manual := s.sel.manual, wtr := s.sel.wtr, actMode := s.sel.actMode, actManual := s.sel.actManual
        actWtr := s.sel.actWtr, loopHeld := s.sel.loopHeld, integ := s.sel.integ, everLocked := s.sel.everLocked
        lastUpdate := s.sel.lastUpdate }
      hold := t.hold, gnss := t.gnss })
    s (s.syncGnss old) := by
  unfold State.syncGnss
  exact .via (.ite (.refl s) (.ite (State.settleGnss_within.after (.put (.refl s))) (.ite (State.gnssIndication_within.after (.put
    (.refl s))) (.put (.refl s))))) fun h1 => State.applyBias_within.after (.ite (.put h1) h1)

theorem State.dramRead_within {master access key} {s : State} : Within
    (fun s t => { s.noted t with
      mem := { s.mem with
        lines := t.mem.lines, recent := t.mem.recent, repeats := t.mem.repeats, toRetire := t.mem.toRetire, flip := t.mem.flip
        counters := t.mem.counters } })
    s (s.dramRead master access key).2 := by
  unfold State.dramRead
  split
  · exact .refl s
  · exact State.correct_within.after (.refl s)
  · exact State.uncorrectable_within.after (.refl s)
  · exact State.memCount_within.after (.refl s)

theorem State.trunkDown_within {p} {s : State} : Within
    (fun s t => { s.reported t with
      time := t.time, refs := t.refs
      sel := { t.sel with
        mode := s.sel.mode, manual := s.sel.manual, wtr := s.sel.wtr, actMode := s.sel.actMode, actManual := s.sel.actManual
        actWtr := s.sel.actWtr, loopHeld := s.sel.loopHeld, integ := s.sel.integ, lastType := s.sel.lastType, lockType := s.sel.lockType
        lockTr := s.sel.lockTr, everLocked := s.sel.everLocked, clockClass := s.sel.clockClass, lastUpdate := s.sel.lastUpdate }
      hold := t.hold, dom := t.dom, ports := t.ports })
    s (s.trunkDown p) := by
  unfold State.trunkDown
  exact .ite (.refl s) (State.retree_within.after (State.trunkDrop_within.after (.refl s)))

theorem State.masterEndTurn_within {p} {s : State} : Within
    (fun s t => { s.reported t with
      time := t.time, refs := t.refs
      sel := { t.sel with
        mode := s.sel.mode, manual := s.sel.manual, wtr := s.sel.wtr, actMode := s.sel.actMode, actManual := s.sel.actManual
        actWtr := s.sel.actWtr, loopHeld := s.sel.loopHeld, integ := s.sel.integ, lastType := s.sel.lastType, lockType := s.sel.lockType
        lockTr := s.sel.lockTr, everLocked := s.sel.everLocked, clockClass := s.sel.clockClass, lastUpdate := s.sel.lastUpdate }
      hold := t.hold, ts := { s.ts with ptpSeq := t.ts.ptpSeq }, ports := t.ports
      sw := { s.sw with peak := t.sw.peak, qCtr := t.sw.qCtr, nextId := t.sw.nextId } })
    s (s.masterEndTurn p) := by
  unfold State.masterEndTurn
  extract_lets +onlyGivenNames t s1
  refine .via (t := s1) ?_ fun h1 => ?_
  · unfold s1
    split
    · exact .ite (State.seriesValue_within.after (.refl s)) (.refl s)
    · exact .refl s
  clear_value s1
  have h2 := State.ptpSequence_within (p := p) (msg := 0) (s := s1)
  generalize s1.ptpSequence p 0 = x at h2
  obtain ⟨seq, s2⟩ := x
  dsimp -zeta only at h2 ⊢
  extract_lets +onlyGivenNames s3
  refine .via (t := s3) (State.trunkSend_within.after (State.updTrunk_within.after (h2.after h1))) fun h3 => ?_
  clear_value s3
  exact .ite h3 (State.trunkSend_within.after (State.updTrunk_within.after (State.ptpSequence_within.after h3)))

theorem State.copyLine_within {key} {s : State} : Within
    (fun s t => { s.noted t with
      mem := { s.mem with
        lines := t.mem.lines, recent := t.mem.recent, repeats := t.mem.repeats, toRetire := t.mem.toRetire, flip := t.mem.flip
        counters := t.mem.counters } })
    s (s.copyLine key) := by
  unfold State.copyLine
  exact .via (State.dramRead_within.after (.refl s)) fun h1 => .ite h1 (State.setLine_within.after h1)

theorem State.slaveEndTurn_within {p moves} {s : State} : Within
    (fun s t => { s.reported t with
      time := t.time, refs := t.refs
      sel := { t.sel with
        mode := s.sel.mode, manual := s.sel.manual, wtr := s.sel.wtr, actMode := s.sel.actMode, actManual := s.sel.actManual
        actWtr := s.sel.actWtr, loopHeld := s.sel.loopHeld, integ := s.sel.integ, lastType := s.sel.lastType, lockType := s.sel.lockType
        lockTr := s.sel.lockTr, everLocked := s.sel.everLocked, clockClass := s.sel.clockClass, lastUpdate := s.sel.lastUpdate }
      hold := t.hold, ts := { s.ts with ptpSeq := t.ts.ptpSeq }, ports := t.ports
      sw := { s.sw with peak := t.sw.peak, qCtr := t.sw.qCtr, nextId := t.sw.nextId } })
    s (s.slaveEndTurn p moves) := by
  unfold State.slaveEndTurn
  refine State.trunkSend_within.after ?_
  refine State.updTrunk_within.after ?_
  refine State.ptpSequence_within.after ?_
  split
  · exact State.seriesValue_within.after (.refl s)
  · exact .refl s

theorem State.scrubLine_within {k} {a : Scrub × State} : Within
    (fun s t => { s.noted t with
      mem := { s.mem with
        lines := t.mem.lines, recent := t.mem.recent, repeats := t.mem.repeats, toRetire := t.mem.toRetire, flip := t.mem.flip
        counters := t.mem.counters } })
    a.2 (State.scrubLine k a).2 := by
  refine WithinSnd.snd ?_
  obtain ⟨x, s⟩ := a
  unfold State.scrubLine
  dsimp -zeta only
  extract_lets +onlyGivenNames kind
  extract_lets +onlyGivenNames grew dev x1
  clear_value kind
  split
  · exact .pair (State.dramRead_within.after (.refl s))
  · exact .pair (State.dramRead_within.after (.refl s))
  · exact .pair (State.dramRead_within.after (.refl s))

theorem State.linkLost_within {p cause} {s : State} : Within
    (fun s t => { s.reported t with
      time := t.time, refs := t.refs
      sel := { t.sel with
        mode := s.sel.mode, manual := s.sel.manual, wtr := s.sel.wtr, actMode := s.sel.actMode, actManual := s.sel.actManual
        actWtr := s.sel.actWtr, loopHeld := s.sel.loopHeld, integ := s.sel.integ, lastType := s.sel.lastType, lockType := s.sel.lockType
        lockTr := s.sel.lockTr, everLocked := s.sel.everLocked, clockClass := s.sel.clockClass, lastUpdate := s.sel.lastUpdate }
      hold := t.hold, dom := t.dom, ports := t.ports })
    s (s.linkLost p cause) := by
  unfold State.linkLost
  exact .via (State.answerFault_within.after (State.updPort_within.after (.refl s))) fun h1 => .ite h1 (.via
    (State.trunkDown_within.after (State.setLink_within.after (State.excuse_within.after (State.loseSlot_within.after
    (State.stat_within.after (State.updPort_within.after h1)))))) fun h2 => .via (.ite (State.indication_within.after h2) h2) fun h3 =>
    .ite (State.holdExpires_within.after h3) h3)

theorem State.writeLines_within {master off n} {s : State} : Within
    (fun s t => { s.noted t with
      mem := { s.mem with
        lines := t.mem.lines, recent := t.mem.recent, repeats := t.mem.repeats, toRetire := t.mem.toRetire, flip := t.mem.flip
        counters := t.mem.counters } })
    s (s.writeLines master off n) := by
  unfold State.writeLines
  exact .foldl (fun _ _ h1 => State.dramWrite_within.after h1) _ (.refl s)

theorem State.dramReads_within {master access x3} {s : State} : Within
    (fun s t => { s.noted t with
      mem := { s.mem with
        lines := t.mem.lines, recent := t.mem.recent, repeats := t.mem.repeats, toRetire := t.mem.toRetire, flip := t.mem.flip
        counters := t.mem.counters } })
    s (s.dramReads master access x3).2 := by
  induction x3 generalizing s with
  | nil => exact .refl s
  | cons k rest ih => exact ih.after (State.dramRead_within.after (.refl s))

theorem State.exchangeTurn_within {p moves} {s : State} : Within
    (fun s t => { s.reported t with
      time := t.time, refs := t.refs
      sel := { t.sel with
        mode := s.sel.mode, manual := s.sel.manual, wtr := s.sel.wtr, actMode := s.sel.actMode, actManual := s.sel.actManual
        actWtr := s.sel.actWtr, loopHeld := s.sel.loopHeld, integ := s.sel.integ, lastType := s.sel.lastType, lockType := s.sel.lockType
        lockTr := s.sel.lockTr, everLocked := s.sel.everLocked, clockClass := s.sel.clockClass, lastUpdate := s.sel.lastUpdate }
      hold := t.hold, ts := { s.ts with ptpSeq := t.ts.ptpSeq }, ports := t.ports
      sw := { s.sw with peak := t.sw.peak, qCtr := t.sw.qCtr, nextId := t.sw.nextId } })
    s (s.exchangeTurn p moves) := by
  unfold State.exchangeTurn
  exact .ite (.refl s) (.via (State.l1syncTurn_within.after (State.updTrunk_within.after (.refl s))) fun h1 => .ite
    (State.slaveEndTurn_within.after h1) (State.masterEndTurn_within.after h1))

theorem State.completeStep_within {s : State} : Within
    (fun s t => { s.noted t with
      time := t.time, ocxo := { s.ocxo with pllLocked := t.ocxo.pllLocked, pllPhase := t.ocxo.pllPhase }, refs := t.refs
      sel := { t.sel with
        mode := s.sel.mode, manual := s.sel.manual, wtr := s.sel.wtr, actMode := s.sel.actMode, actManual := s.sel.actManual
        actWtr := s.sel.actWtr, loopHeld := s.sel.loopHeld, integ := s.sel.integ, everLocked := s.sel.everLocked
        lastUpdate := s.sel.lastUpdate }
      hold := t.hold, gnss := t.gnss
      ts := { s.ts with
        ntp := t.ts.ntp, nts := t.ts.nts, ptp := t.ts.ptp, draining := t.ts.draining, derivedAt := t.ts.derivedAt, grants := t.ts.grants
        load := t.ts.load, waiting := t.ts.waiting, credit := t.ts.credit, servedAt := t.ts.servedAt, counters := t.ts.counters
        announceAt := t.ts.announceAt, ptpSeq := t.ts.ptpSeq, master := t.ts.master, masterId := t.ts.masterId, pair := t.ts.pair }
      ports := t.ports, sw := { s.sw with peak := t.sw.peak, qCtr := t.sw.qCtr, nextId := t.sw.nextId }
      plat := { s.plat with step := t.plat.step, stepsDone := t.plat.stepsDone, doneUs := t.plat.doneUs } })
    s s.completeStep := by
  unfold State.completeStep
  exact .ite (.put (.refl s)) (.ite (State.spareFault_within.after (.put (.refl s))) (.ite (State.settleTiming_within.after
    (State.powerGroup_within.after (.put (.refl s)))) (.ite (State.settleTiming_within.after (State.syncGnss_within.after (.put (.refl
    s)))) (.ite (State.post_within.after (State.syncService_within.after (.put (.refl s)))) (.put (.refl s))))))

theorem State.syncPorts_within {old} {s : State} : Within
    (fun s t => { s.reported t with
      time := t.time, refs := t.refs
      sel := { t.sel with
        mode := s.sel.mode, manual := s.sel.manual, wtr := s.sel.wtr, actMode := s.sel.actMode, actManual := s.sel.actManual
        actWtr := s.sel.actWtr, loopHeld := s.sel.loopHeld, integ := s.sel.integ, lastType := s.sel.lastType, lockType := s.sel.lockType
        lockTr := s.sel.lockTr, everLocked := s.sel.everLocked, clockClass := s.sel.clockClass, lastUpdate := s.sel.lastUpdate }
      hold := t.hold, dom := t.dom, ports := t.ports })
    s (s.syncPorts old) := by
  unfold State.syncPorts
  exact .foldl (fun _ _ h1 => .ite (.ite (.ite h1 (State.startPcs_within.after h1)) (.via (State.trunkDown_within.after
    (State.setPreempt_within.after (State.setLink_within.after (State.updPort_within.after (State.flushPort_within.after h1))))) fun h2 =>
    .ite (State.indication_within.after h2) h2)) (.ite (.ite (State.updPort_within.after h1) (State.startPreempt_within.after
    (State.setPreempt_within.after h1))) h1)) _ (.refl s)

theorem State.windowZero_within {master off n} {s : State} : Within
    (fun s t => { s.noted t with
      mem := { s.mem with
        bytes := t.mem.bytes, lines := t.mem.lines, recent := t.mem.recent, repeats := t.mem.repeats, toRetire := t.mem.toRetire
        flip := t.mem.flip, counters := t.mem.counters } })
    s (s.windowZero master off n) := by
  unfold State.windowZero
  extract_lets +onlyGivenNames s1
  refine .via (t := s1) (State.writeLines_within.after (.refl s)) fun h1 => ?_
  clear_value s1
  exact .put h1 (can := fun h => ⟨Memory.wf_clear _ _ _ h.1, h.2⟩)

theorem State.windowWrite_within {master off data} {s : State} : Within
    (fun s t => { s.noted t with
      mem := { s.mem with
        bytes := t.mem.bytes, lines := t.mem.lines, recent := t.mem.recent, repeats := t.mem.repeats, toRetire := t.mem.toRetire
        flip := t.mem.flip, counters := t.mem.counters } })
    s (s.windowWrite master off data) := by
  unfold State.windowWrite
  extract_lets +onlyGivenNames s1
  refine .via (t := s1) (State.writeLines_within.after (.refl s)) fun h1 => ?_
  clear_value s1
  exact .put h1 (can := fun h => ⟨Memory.wf_writeAll _ _ _ h.1, h.2⟩)

theorem State.windowRead_within {master off n} {s : State} : Within
    (fun s t => { s.noted t with
      mem := { s.mem with
        lines := t.mem.lines, recent := t.mem.recent, repeats := t.mem.repeats, toRetire := t.mem.toRetire, flip := t.mem.flip
        counters := t.mem.counters } })
    s (s.windowRead master off n).2 := by
  unfold State.windowRead
  exact State.dramReads_within.after (.refl s)

theorem State.bar2Read_within {offset n} {s : State} : Within
    (fun s t => { s.noted t with
      mem := { s.mem with
        lines := t.mem.lines, recent := t.mem.recent, repeats := t.mem.repeats, toRetire := t.mem.toRetire, flip := t.mem.flip
        counters := t.mem.counters } })
    s (s.bar2Read offset n) := by
  unfold State.bar2Read
  exact State.emit_within.after (State.windowRead_within.after (.refl s))

theorem State.follow_within {old} {s : State} : Within
    (fun s t => { s.noted t with
      time := t.time, meas := { t.meas with job := s.meas.job, linkCals := s.meas.linkCals }, refs := t.refs
      sel := { t.sel with
        mode := s.sel.mode, manual := s.sel.manual, wtr := s.sel.wtr, actMode := s.sel.actMode, actManual := s.sel.actManual
        actWtr := s.sel.actWtr, loopHeld := s.sel.loopHeld, integ := s.sel.integ, everLocked := s.sel.everLocked
        lastUpdate := s.sel.lastUpdate }
      hold := t.hold, outs := t.outs, gnss := t.gnss, dom := t.dom
      ts := { s.ts with
        ntp := t.ts.ntp, nts := t.ts.nts, ptp := t.ts.ptp, draining := t.ts.draining, derivedAt := t.ts.derivedAt, grants := t.ts.grants
        load := t.ts.load, waiting := t.ts.waiting, credit := t.ts.credit, servedAt := t.ts.servedAt, counters := t.ts.counters
        announceAt := t.ts.announceAt, ptpSeq := t.ts.ptpSeq, master := t.ts.master, masterId := t.ts.masterId, pair := t.ts.pair }
      ports := t.ports, sw := { s.sw with macs := t.sw.macs, peak := t.sw.peak, qCtr := t.sw.qCtr, nextId := t.sw.nextId }
      keys := { s.keys with cache := t.keys.cache } })
    s (State.follow old s) := by
  unfold State.follow
  exact State.settleTiming_within.after (State.loadCache_within.after (State.syncService_within.after (State.syncMacs_within.after
    (State.syncPorts_within.after (State.syncDomain_within.after (State.syncGnss_within.after (State.syncOutputs_within.after
    (State.syncRefs_within.after (State.syncChannels_within.after (.refl s))))))))))

theorem State.commit_within {round} {s : State} : Within
    (fun s t => { s.noted t with
      time := t.time, meas := { t.meas with job := s.meas.job, linkCals := s.meas.linkCals }, refs := t.refs
      sel := { t.sel with
        mode := s.sel.mode, manual := s.sel.manual, wtr := s.sel.wtr, actMode := s.sel.actMode, actManual := s.sel.actManual
        actWtr := s.sel.actWtr, loopHeld := s.sel.loopHeld, integ := s.sel.integ, everLocked := s.sel.everLocked
        lastUpdate := s.sel.lastUpdate }
      hold := t.hold, outs := t.outs, gnss := t.gnss, dom := t.dom
      ts := { s.ts with
        ntp := t.ts.ntp, nts := t.ts.nts, ptp := t.ts.ptp, draining := t.ts.draining, derivedAt := t.ts.derivedAt, grants := t.ts.grants
        load := t.ts.load, waiting := t.ts.waiting, credit := t.ts.credit, servedAt := t.ts.servedAt, counters := t.ts.counters
        announceAt := t.ts.announceAt, ptpSeq := t.ts.ptpSeq, master := t.ts.master, masterId := t.ts.masterId, pair := t.ts.pair }
      ports := t.ports, sw := { s.sw with macs := t.sw.macs, peak := t.sw.peak, qCtr := t.sw.qCtr, nextId := t.sw.nextId }
      banks := { t.banks with
        edits := s.banks.edits, slots := s.banks.slots, lastDrain := s.banks.lastDrain, drainDrop := s.banks.drainDrop
        missed := s.banks.missed, loaded := s.banks.loaded, checkOk := s.banks.checkOk }
      keys := { s.keys with cache := t.keys.cache } })
    s (s.commit round) := by
  unfold State.commit
  exact State.follow_within.after (State.post_within.after (.put (.refl s)))

theorem State.loadBank_within {b epoch persisted} {s : State} : Within
    (fun s t => { s.noted t with
      time := t.time, meas := { t.meas with job := s.meas.job, linkCals := s.meas.linkCals }, refs := t.refs
      sel := { t.sel with
        mode := s.sel.mode, manual := s.sel.manual, wtr := s.sel.wtr, actMode := s.sel.actMode, actManual := s.sel.actManual
        actWtr := s.sel.actWtr, loopHeld := s.sel.loopHeld, integ := s.sel.integ, everLocked := s.sel.everLocked
        lastUpdate := s.sel.lastUpdate }
      hold := t.hold, outs := t.outs, gnss := t.gnss, dom := t.dom
      ts := { s.ts with
        ntp := t.ts.ntp, nts := t.ts.nts, ptp := t.ts.ptp, draining := t.ts.draining, derivedAt := t.ts.derivedAt, grants := t.ts.grants
        load := t.ts.load, waiting := t.ts.waiting, credit := t.ts.credit, servedAt := t.ts.servedAt, counters := t.ts.counters
        announceAt := t.ts.announceAt, ptpSeq := t.ts.ptpSeq, master := t.ts.master, masterId := t.ts.masterId, pair := t.ts.pair }
      ports := t.ports, sw := { s.sw with macs := t.sw.macs, peak := t.sw.peak, qCtr := t.sw.qCtr, nextId := t.sw.nextId }
      banks := { t.banks with
        slots := s.banks.slots, drainFrom := s.banks.drainFrom, drainDrops := s.banks.drainDrops, lastDrain := s.banks.lastDrain
        drainDrop := s.banks.drainDrop, missed := s.banks.missed, lastCommit := s.banks.lastCommit, checkOk := s.banks.checkOk }
      rnd := { s.rnd with part := t.rnd.part }, keys := { s.keys with cache := t.keys.cache } })
    s (s.loadBank b epoch persisted) := by
  unfold State.loadBank
  exact State.follow_within.after (State.seed_within.after (.put (.refl s)))

theorem State.loadAtStart_within {s : State} : Within
    (fun s t => { s.noted t with
      time := t.time, meas := { t.meas with job := s.meas.job, linkCals := s.meas.linkCals }, refs := t.refs
      sel := { t.sel with
        mode := s.sel.mode, manual := s.sel.manual, wtr := s.sel.wtr, actMode := s.sel.actMode, actManual := s.sel.actManual
        actWtr := s.sel.actWtr, loopHeld := s.sel.loopHeld, integ := s.sel.integ, everLocked := s.sel.everLocked
        lastUpdate := s.sel.lastUpdate }
      hold := t.hold, outs := t.outs, gnss := t.gnss, dom := t.dom
      ts := { s.ts with
        ntp := t.ts.ntp, nts := t.ts.nts, ptp := t.ts.ptp, draining := t.ts.draining, derivedAt := t.ts.derivedAt, grants := t.ts.grants
        load := t.ts.load, waiting := t.ts.waiting, credit := t.ts.credit, servedAt := t.ts.servedAt, counters := t.ts.counters
        announceAt := t.ts.announceAt, ptpSeq := t.ts.ptpSeq, master := t.ts.master, masterId := t.ts.masterId, pair := t.ts.pair }
      ports := t.ports, sw := { s.sw with macs := t.sw.macs, peak := t.sw.peak, qCtr := t.sw.qCtr, nextId := t.sw.nextId }
      banks := { t.banks with
        slots := s.banks.slots, drainFrom := s.banks.drainFrom, drainDrops := s.banks.drainDrops, lastDrain := s.banks.lastDrain
        drainDrop := s.banks.drainDrop, missed := s.banks.missed, lastCommit := s.banks.lastCommit, checkOk := s.banks.checkOk }
      rnd := { s.rnd with part := t.rnd.part }, keys := { s.keys with cache := t.keys.cache } })
    s s.loadAtStart := by
  unfold State.loadAtStart
  refine .ite (.refl s) ?_
  split
  · exact State.loadBank_within.after (.refl s)
  · exact .refl s

theorem State.swap_within {w} {s : State} : Within
    (fun s t => { s.noted t with
      time := t.time, tci := { t.tci with doorbellErr := s.tci.doorbellErr, lost := s.tci.lost }
      win := { s.win with closing := t.win.closing }, inb := { s.inb with enable := t.inb.enable }
      meas := { t.meas with job := s.meas.job, linkCals := s.meas.linkCals }, refs := t.refs
      sel := { t.sel with
        mode := s.sel.mode, manual := s.sel.manual, wtr := s.sel.wtr, actMode := s.sel.actMode, actManual := s.sel.actManual
        actWtr := s.sel.actWtr, loopHeld := s.sel.loopHeld, integ := s.sel.integ, everLocked := s.sel.everLocked
        lastUpdate := s.sel.lastUpdate }
      hold := t.hold, outs := t.outs, gnss := t.gnss, dom := t.dom
      ts := { t.ts with
        ledger := s.ts.ledger, hashSeed := s.ts.hashSeed, stranger := s.ts.stranger, strangerTick := s.ts.strangerTick
        capDropAt := s.ts.capDropAt, offered := s.ts.offered, admitUse := s.ts.admitUse, denyKiss := s.ts.denyKiss
        rotateDue := s.ts.rotateDue, rotateLate := s.ts.rotateLate, lastRotation := s.ts.lastRotation, foreignAt := s.ts.foreignAt
        linkDelay := s.ts.linkDelay, linkPair := s.ts.linkPair, ptpNext := s.ts.ptpNext }
      ports := t.ports, sw := { s.sw with macs := t.sw.macs, peak := t.sw.peak, qCtr := t.sw.qCtr, nextId := t.sw.nextId }
      banks := { t.banks with
        edits := s.banks.edits, slots := s.banks.slots, lastDrain := s.banks.lastDrain, drainDrop := s.banks.drainDrop
        missed := s.banks.missed, loaded := s.banks.loaded, checkOk := s.banks.checkOk }
      keys := t.keys, bn := t.bn, plat := { s.plat with flashWork := t.plat.flashWork } })
    s (s.swap w) := by
  unfold State.swap
  exact .via (State.commit_within.after (.refl s)) fun h1 => .ite (.via (State.storePosition_within.after (State.inbandOff_within.after
    h1)) fun h2 => .ite h2 (State.zeroiseKeys_within.after h2)) h1

theorem State.swapNow_within {w} {s : State} : Within
    (fun s t => { s.noted t with
      time := t.time, tci := { t.tci with doorbellErr := s.tci.doorbellErr, lost := s.tci.lost }
      win := { s.win with closing := t.win.closing }, inb := { s.inb with enable := t.inb.enable }
      meas := { t.meas with job := s.meas.job, linkCals := s.meas.linkCals }, refs := t.refs
      sel := { t.sel with
        mode := s.sel.mode, manual := s.sel.manual, wtr := s.sel.wtr, actMode := s.sel.actMode, actManual := s.sel.actManual
        actWtr := s.sel.actWtr, loopHeld := s.sel.loopHeld, integ := s.sel.integ, everLocked := s.sel.everLocked
        lastUpdate := s.sel.lastUpdate }
      hold := t.hold, outs := t.outs, gnss := t.gnss, dom := t.dom
      ts := { t.ts with
        ledger := s.ts.ledger, hashSeed := s.ts.hashSeed, stranger := s.ts.stranger, strangerTick := s.ts.strangerTick
        capDropAt := s.ts.capDropAt, offered := s.ts.offered, admitUse := s.ts.admitUse, denyKiss := s.ts.denyKiss
        rotateDue := s.ts.rotateDue, rotateLate := s.ts.rotateLate, lastRotation := s.ts.lastRotation, foreignAt := s.ts.foreignAt
        linkDelay := s.ts.linkDelay, linkPair := s.ts.linkPair, ptpNext := s.ts.ptpNext }
      ports := t.ports, sw := { s.sw with macs := t.sw.macs, peak := t.sw.peak, qCtr := t.sw.qCtr, nextId := t.sw.nextId }
      banks := { t.banks with
        edits := s.banks.edits, slots := s.banks.slots, lastDrain := s.banks.lastDrain, drainDrop := s.banks.drainDrop
        missed := s.banks.missed, loaded := s.banks.loaded, checkOk := s.banks.checkOk }
      keys := t.keys, bn := t.bn, plat := { s.plat with flashWork := t.plat.flashWork } })
    s (s.swapNow w) := by
  unfold State.swapNow
  exact State.finish_within.after (State.swap_within.after (.refl s))

/-- What the write of a capture record may change. -/
def State.recorded (s t : State) : State :=
  { s.noted t with
    cap := { s.cap with producer := t.cap.producer, consumer := t.cap.consumer }
    mem := { s.mem with
      bytes := t.mem.bytes, lines := t.mem.lines, recent := t.mem.recent, repeats := t.mem.repeats, toRetire := t.mem.toRetire
      flip := t.mem.flip, counters := t.mem.counters } }

theorem State.captureRecord_within {rec_} {s : State} : Within State.recorded s (s.captureRecord rec_).2 := by
  refine WithinSnd.snd ?_
  unfold State.captureRecord
  extract_lets +onlyGivenNames c tail
  refine .ite (.pair (.refl s)) ?_
  split
  next ok s1 hr =>
  have h1 := State.windowRead_within (master := 13) (off := tail + 8) (n := 8) (s := s)
  rw [hr] at h1
  refine .via (h1.after (.refl s)) fun h1 => ?_
  clear hr
  extract_lets +onlyGivenNames consumer used
  have set : ∀ t x y, Within State.recorded s t → Within State.recorded s { t with cap := { c with producer := x, consumer := y } } := fun t x y h =>
    ⟨congrArg (fun t : State => { t with cap := { c with producer := x, consumer := y } }) h.eq, h.canonical⟩
  refine .ite ?_ (.pair (set _ _ _ h1))
  extract_lets +onlyGivenNames slot next s2
  refine .via (t := s2) (State.windowWrite_within.after (State.windowWrite_within.after h1)) fun h2 => ?_
  clear_value s2
  exact .pair (State.emit_within.after (set _ _ _ h2))

theorem State.stopFirmware_within {s : State} : Within
    (fun s t => { s.noted t with
      time := t.time, tci := { t.tci with doorbellErr := s.tci.doorbellErr }
      win := { s.win with
        state := t.win.state, held := t.win.held, pressIn := t.win.pressIn, actions := t.win.actions, closing := t.win.closing }
      inb := { s.inb with enable := t.inb.enable, disabling := t.inb.disabling }, fw := t.fw, meas := { t.meas with job := s.meas.job }
      refs := t.refs
      sel := { t.sel with
        mode := s.sel.mode, manual := s.sel.manual, wtr := s.sel.wtr, actMode := s.sel.actMode, actManual := s.sel.actManual
        actWtr := s.sel.actWtr, loopHeld := s.sel.loopHeld, integ := s.sel.integ, everLocked := s.sel.everLocked
        lastUpdate := s.sel.lastUpdate }
      hold := t.hold, outs := t.outs, gnss := t.gnss, dom := t.dom
      ts := { t.ts with
        ledger := s.ts.ledger, hashSeed := s.ts.hashSeed, stranger := s.ts.stranger, strangerTick := s.ts.strangerTick
        capDropAt := s.ts.capDropAt, offered := s.ts.offered, admitUse := s.ts.admitUse, denyKiss := s.ts.denyKiss
        rotateDue := s.ts.rotateDue, rotateLate := s.ts.rotateLate, lastRotation := s.ts.lastRotation, foreignAt := s.ts.foreignAt
        linkDelay := s.ts.linkDelay, linkPair := s.ts.linkPair, ptpNext := s.ts.ptpNext }
      ports := t.ports, sw := { s.sw with macs := t.sw.macs, peak := t.sw.peak, qCtr := t.sw.qCtr, nextId := t.sw.nextId }
      banks := { t.banks with
        edits := s.banks.edits, slots := s.banks.slots, lastDrain := s.banks.lastDrain, drainDrop := s.banks.drainDrop
        missed := s.banks.missed, loaded := s.banks.loaded, checkOk := s.banks.checkOk }
      keys := t.keys, bn := t.bn
      flt := { s.flt with
        records := t.flt.records, src := t.flt.src, frozen := t.flt.frozen, faultN := t.flt.faultN, recoveries := t.flt.recoveries
        ledgerFull := t.flt.ledgerFull, nextOpen := t.flt.nextOpen, takeRec := t.flt.takeRec, excs := t.flt.excs }
      plat := { s.plat with flashWork := t.plat.flashWork } })
    s s.stopFirmware := by
  unfold State.stopFirmware
  refine .ite (.refl s) ?_
  extract_lets +onlyGivenNames swap lost held img _ _ _ _ _ _ _ _ _ _ s1 s2
  refine .via (t := s1) (.put (.refl s)) fun h1 => ?_
  clear_value s1
  induction s1 using State.generic with | all s1 => ?_
  refine .via (t := s2) ?_ fun h2 => ?_
  · unfold s2
    split
    · exact State.postWindow_within.after h1
    · exact h1
  clear_value s2
  induction s2 using State.generic with | all s2 => ?_
  exact State.noteFrom_within.after (.elim h2 fun _ => State.swap_within.after h2)

theorem State.takeover_within {code channel injected} {s : State} : Within
    (fun s t => { s.noted t with
      time := t.time, tci := { t.tci with doorbellErr := s.tci.doorbellErr }
      win := { s.win with
        state := t.win.state, held := t.win.held, pressIn := t.win.pressIn, actions := t.win.actions, closing := t.win.closing }
      inb := { s.inb with enable := t.inb.enable, disabling := t.inb.disabling }, fw := t.fw, meas := { t.meas with job := s.meas.job }
      refs := t.refs
      sel := { t.sel with
        mode := s.sel.mode, manual := s.sel.manual, wtr := s.sel.wtr, actMode := s.sel.actMode, actManual := s.sel.actManual
        actWtr := s.sel.actWtr, loopHeld := s.sel.loopHeld, integ := s.sel.integ, everLocked := s.sel.everLocked
        lastUpdate := s.sel.lastUpdate }
      hold := t.hold, outs := t.outs, gnss := t.gnss, dom := t.dom
      ts := { t.ts with
        ledger := s.ts.ledger, hashSeed := s.ts.hashSeed, stranger := s.ts.stranger, strangerTick := s.ts.strangerTick
        capDropAt := s.ts.capDropAt, offered := s.ts.offered, admitUse := s.ts.admitUse, denyKiss := s.ts.denyKiss
        rotateDue := s.ts.rotateDue, rotateLate := s.ts.rotateLate, lastRotation := s.ts.lastRotation, foreignAt := s.ts.foreignAt
        linkDelay := s.ts.linkDelay, linkPair := s.ts.linkPair, ptpNext := s.ts.ptpNext }
      ports := t.ports, sw := { s.sw with macs := t.sw.macs, peak := t.sw.peak, qCtr := t.sw.qCtr, nextId := t.sw.nextId }
      banks := { t.banks with
        edits := s.banks.edits, slots := s.banks.slots, lastDrain := s.banks.lastDrain, drainDrop := s.banks.drainDrop
        missed := s.banks.missed, loaded := s.banks.loaded, checkOk := s.banks.checkOk }
      keys := t.keys, bn := t.bn, flt := { t.flt with quietS := s.flt.quietS, checkFailed := s.flt.checkFailed, injects := s.flt.injects }
      mid := { t.mid with overwritten := s.mid.overwritten, erase := s.mid.erase }, plat := { s.plat with flashWork := t.plat.flashWork }
      free := t.free })
    s (s.takeover code channel injected) := by
  unfold State.takeover
  refine .ite (.refl s) ?_
  refine State.noteFrom_within.after ?_
  refine .put ?_
  refine (State.chooseImage_within (n := if s.consecutive = true then s.flt.consec + 1 else 1)).after ?_
  refine .put ?_
  refine State.writeMidwinter_within.after ?_
  refine .put ?_
  split
  · exact State.updRecord_within.after (State.faultEvent_within.after (State.stopFirmware_within.after (.refl s)))
  · exact State.faultEvent_within.after (State.stopFirmware_within.after (.refl s))

theorem State.tdcEdge_within {ch n k} {s : State} : Within
    (fun s t => { s.noted t with
      time := t.time, meas := { t.meas with turnAt := s.meas.turnAt }
      ocxo := { s.ocxo with pllPhase := t.ocxo.pllPhase, phaseWalk := t.ocxo.phaseWalk }, refs := t.refs
      sel := { t.sel with
        mode := s.sel.mode, manual := s.sel.manual, wtr := s.sel.wtr, actMode := s.sel.actMode, actManual := s.sel.actManual
        actWtr := s.sel.actWtr, loopHeld := s.sel.loopHeld, integ := s.sel.integ, lastType := s.sel.lastType, lockType := s.sel.lockType
        lockTr := s.sel.lockTr, everLocked := s.sel.everLocked, clockClass := s.sel.clockClass, lastUpdate := s.sel.lastUpdate }
      hold := t.hold, gnss := { s.gnss with ppsAt := t.gnss.ppsAt, edgeMark := t.gnss.edgeMark }
      cap := { s.cap with producer := t.cap.producer, consumer := t.cap.consumer }
      mem := { s.mem with
        bytes := t.mem.bytes, lines := t.mem.lines, recent := t.mem.recent, repeats := t.mem.repeats, toRetire := t.mem.toRetire
        flip := t.mem.flip, counters := t.mem.counters } })
    s (s.tdcEdge ch n k) := by
  unfold State.tdcEdge
  refine .ite (.refl s) ?_
  extract_lets +onlyGivenNames s0
  refine .via (t := s0) (.ite (State.ppsEdge_within.after (.refl s)) (.refl s)) fun h0 => ?_
  clear_value s0
  induction s0 using State.generic with | all s0 => ?_
  extract_lets +onlyGivenNames c pd edges skip s1
  refine .via (t := s1) (State.updChan_within.after h0) fun h1 => ?_
  clear_value s1
  refine .ite h1 (.ite h0 (.ite h1 ?_))
  split
  extract_lets +onlyGivenNames close
  refine .ite (State.counterHalf_within.after (State.updChan_within.after h1)) ?_
  extract_lets +onlyGivenNames ev e s2
  refine .via (t := s2) (State.counterHalf_within.after (State.updChan_within.after h1)) fun h2 => ?_
  clear_value s2
  induction s2 using State.generic with | all s2 => ?_
  extract_lets +onlyGivenNames _ s3 _ s4
  refine .via (t := s3) (.put h2) fun h3 => ?_
  clear_value s3
  refine .via (t := s4) (.ite (.put h3) h3) fun h4 => ?_
  clear_value s4
  induction s4 using State.generic with | all s4 => ?_
  extract_lets +onlyGivenNames s5
  refine .via (t := s5) (State.linkCalEvent_within.after (.ite (State.pllCheck_within.after h4) h4)) fun h5 => ?_
  clear_value s5
  induction s5 using State.generic with | all s5 => ?_
  extract_lets +onlyGivenNames _ _ _ s6
  refine .via (t := s6) ?_ fun h6 => ?_
  · unfold s6
    split
    · exact .ite (State.refEvent_within.after h5) (.ite (State.refReturn_within.after (.put h5))
        (State.todJudge_within.after (State.refEvent_within.after h5)))
    · exact h5
  clear_value s6
  exact .ite (.ite (State.captureRecord_within.after h6) (State.counterHalf_within.after (State.updChan_within.after
    (State.captureRecord_within.after h6)))) h6

theorem State.endRow_within {id outcome reason egress} {s : State} : Within
    (fun s t => { s.noted t with
      cue := { s.cue with rows := t.cue.rows, executed := t.cue.executed, late := t.cue.late, dropped := t.cue.dropped, kept := t.cue.kept }
      cap := { s.cap with producer := t.cap.producer, consumer := t.cap.consumer }
      mem := { s.mem with
        bytes := t.mem.bytes, lines := t.mem.lines, recent := t.mem.recent, repeats := t.mem.repeats, toRetire := t.mem.toRetire
        flip := t.mem.flip, counters := t.mem.counters } })
    s (s.endRow id outcome reason egress) := by
  unfold State.endRow
  split
  · exact .refl s
  · exact .ite (.put (.refl s)) (.via (.ite (State.counterHalf_within.after (.put (.refl s))) (.ite (State.counterHalf_within.after
      (.put (.refl s))) (.put (.refl s)))) fun h1 => .via (.ite (State.captureRecord_within.after h1) h1) fun h2 => .ite
      (State.cueEndEvent_within.after h2) h2)

theorem State.captureFrame_within {p f a} {s : State} : Within
    (fun s t => { s.noted t with
      cap := { s.cap with producer := t.cap.producer, consumer := t.cap.consumer, lostPorts := t.cap.lostPorts, portRate := t.cap.portRate }
      mem := { s.mem with
        bytes := t.mem.bytes, lines := t.mem.lines, recent := t.mem.recent, repeats := t.mem.repeats, toRetire := t.mem.toRetire
        flip := t.mem.flip, counters := t.mem.counters } })
    s (s.captureFrame p f a) := by
  unfold State.captureFrame
  refine .ite (.refl s) ?_
  extract_lets +onlyGivenNames soon
  split
  next ok s1 hx =>
  suffices h1 : Within _ s s1 from .ite (.put h1) (State.counterHalf_within.after (.put h1))
  have hp := congrArg Prod.snd hx
  dsimp only at hp
  rw [← hp]
  exact .ite_snd (.refl s) (State.captureRecord_within.after (.refl s))

theorem State.launchCue_within {id r} {s : State} : Within
    (fun s t => { s.noted t with
      cue := { s.cue with rows := t.cue.rows, executed := t.cue.executed, late := t.cue.late, dropped := t.cue.dropped, kept := t.cue.kept }
      cap := { s.cap with producer := t.cap.producer, consumer := t.cap.consumer }, ports := t.ports
      mem := { s.mem with
        bytes := t.mem.bytes, lines := t.mem.lines, recent := t.mem.recent, repeats := t.mem.repeats, toRetire := t.mem.toRetire
        flip := t.mem.flip, counters := t.mem.counters } })
    s (s.launchCue id r) := by
  unfold State.launchCue
  refine .ite (State.stat_within.after (State.updPort_within.after (State.endRow_within.after (.refl s)))) ?_
  split
  · exact State.updPort_within.after (State.endRow_within.after (.refl s))
  · exact .ite (State.updPort_within.after (State.endRow_within.after (.refl s))) (State.updPort_within.after (State.endRow_within.after
      (State.emit_within.after (State.countTx_within.after (State.updPort_within.after (.refl s))))))

theorem State.commitRow_within {id r} {s : State} : Within
    (fun s t => { s.noted t with
      time := t.time, meas := { t.meas with job := s.meas.job, linkCals := s.meas.linkCals }, refs := t.refs
      sel := { t.sel with
        mode := s.sel.mode, manual := s.sel.manual, wtr := s.sel.wtr, actMode := s.sel.actMode, actManual := s.sel.actManual
        actWtr := s.sel.actWtr, loopHeld := s.sel.loopHeld, integ := s.sel.integ, everLocked := s.sel.everLocked
        lastUpdate := s.sel.lastUpdate }
      hold := t.hold, outs := t.outs, gnss := t.gnss, dom := t.dom
      cue := { s.cue with rows := t.cue.rows, executed := t.cue.executed, late := t.cue.late, dropped := t.cue.dropped, kept := t.cue.kept }
      cap := { s.cap with producer := t.cap.producer, consumer := t.cap.consumer }
      ts := { s.ts with
        ntp := t.ts.ntp, nts := t.ts.nts, ptp := t.ts.ptp, draining := t.ts.draining, derivedAt := t.ts.derivedAt, grants := t.ts.grants
        load := t.ts.load, waiting := t.ts.waiting, credit := t.ts.credit, servedAt := t.ts.servedAt, counters := t.ts.counters
        announceAt := t.ts.announceAt, ptpSeq := t.ts.ptpSeq, master := t.ts.master, masterId := t.ts.masterId, pair := t.ts.pair }
      ports := t.ports, sw := { s.sw with macs := t.sw.macs, peak := t.sw.peak, qCtr := t.sw.qCtr, nextId := t.sw.nextId }
      banks := { t.banks with
        edits := s.banks.edits, slots := s.banks.slots, lastDrain := s.banks.lastDrain, drainDrop := s.banks.drainDrop
        missed := s.banks.missed, loaded := s.banks.loaded, checkOk := s.banks.checkOk }
      rnd := { s.rnd with part := t.rnd.part, lastOutcome := t.rnd.lastOutcome }, keys := { s.keys with cache := t.keys.cache }
      mem := { s.mem with
        bytes := t.mem.bytes, lines := t.mem.lines, recent := t.mem.recent, repeats := t.mem.repeats, toRetire := t.mem.toRetire
        flip := t.mem.flip, counters := t.mem.counters } })
    s (s.commitRow id r) := by
  unfold State.commitRow
  extract_lets +onlyGivenNames s0 _ s1
  refine .via (t := s0) (State.endRow_within.after (.refl s)) fun h0 => ?_
  clear_value s0
  refine .via (t := s1) (.put h0) fun h1 => ?_
  clear_value s1
  refine .ite (State.commit_within.after h1) ?_
  extract_lets +onlyGivenNames s2
  refine .via (t := s2) (State.commit_within.after h1) fun h2 => ?_
  clear_value s2
  exact .put h2

theorem State.stepCues_within {old} {s : State} : Within
    (fun s t => { s.noted t with
      time := t.time, meas := { t.meas with job := s.meas.job, linkCals := s.meas.linkCals }, refs := t.refs
      sel := { t.sel with
        mode := s.sel.mode, manual := s.sel.manual, wtr := s.sel.wtr, actMode := s.sel.actMode, actManual := s.sel.actManual
        actWtr := s.sel.actWtr, loopHeld := s.sel.loopHeld, integ := s.sel.integ, everLocked := s.sel.everLocked
        lastUpdate := s.sel.lastUpdate }
      hold := t.hold, outs := t.outs, gnss := t.gnss, dom := t.dom
      cue := { s.cue with rows := t.cue.rows, executed := t.cue.executed, late := t.cue.late, dropped := t.cue.dropped, kept := t.cue.kept }
      cap := { s.cap with producer := t.cap.producer, consumer := t.cap.consumer }
      ts := { s.ts with
        ntp := t.ts.ntp, nts := t.ts.nts, ptp := t.ts.ptp, draining := t.ts.draining, derivedAt := t.ts.derivedAt, grants := t.ts.grants
        load := t.ts.load, waiting := t.ts.waiting, credit := t.ts.credit, servedAt := t.ts.servedAt, counters := t.ts.counters
        announceAt := t.ts.announceAt, ptpSeq := t.ts.ptpSeq, master := t.ts.master, masterId := t.ts.masterId, pair := t.ts.pair }
      ports := t.ports, sw := { s.sw with macs := t.sw.macs, peak := t.sw.peak, qCtr := t.sw.qCtr, nextId := t.sw.nextId }
      banks := { t.banks with
        edits := s.banks.edits, slots := s.banks.slots, lastDrain := s.banks.lastDrain, drainDrop := s.banks.drainDrop
        missed := s.banks.missed, loaded := s.banks.loaded, checkOk := s.banks.checkOk }
      rnd := { s.rnd with part := t.rnd.part, lastOutcome := t.rnd.lastOutcome }, keys := { s.keys with cache := t.keys.cache }
      mem := { s.mem with
        bytes := t.mem.bytes, lines := t.mem.lines, recent := t.mem.recent, repeats := t.mem.repeats, toRetire := t.mem.toRetire
        flip := t.mem.flip, counters := t.mem.counters } })
    s (s.stepCues old) := by
  unfold State.stepCues
  exact .foldl (fun _ _ h1 => .ite (State.commitRow_within.after h1) (State.endRow_within.after h1)) _ (.refl s)

theorem State.readerOutcome_within {master region line} {s : State} : Within
    (fun s t => { s.noted t with
      cue := { s.cue with rows := t.cue.rows, executed := t.cue.executed, late := t.cue.late, dropped := t.cue.dropped, kept := t.cue.kept }
      cap := { s.cap with producer := t.cap.producer, consumer := t.cap.consumer }, ts := { s.ts with ledger := t.ts.ledger }
      mem := { s.mem with
        bytes := t.mem.bytes, lines := t.mem.lines, recent := t.mem.recent, repeats := t.mem.repeats, toRetire := t.mem.toRetire
        flip := t.mem.flip, counters := t.mem.counters } })
    s (s.readerOutcome master region line) := by
  unfold State.readerOutcome
  exact .ite (State.emit_within.after (.refl s)) (.ite (.put (.refl s)) (.ite (State.dramWrite_within.after (.refl s)) (.ite (.foldl
    (fun _ _ h1 => State.endRow_within.after h1) _ (.refl s)) (.refl s))))

theorem State.detect_within {code channel} {s : State} : Within
    (fun s t => { s.noted t with
      time := t.time, tci := { t.tci with doorbellErr := s.tci.doorbellErr }
      win := { s.win with
        state := t.win.state, held := t.win.held, pressIn := t.win.pressIn, actions := t.win.actions, closing := t.win.closing }
      inb := { s.inb with enable := t.inb.enable, disabling := t.inb.disabling }, fw := t.fw, meas := { t.meas with job := s.meas.job }
      refs := t.refs
      sel := { t.sel with
        mode := s.sel.mode, manual := s.sel.manual, wtr := s.sel.wtr, actMode := s.sel.actMode, actManual := s.sel.actManual
        actWtr := s.sel.actWtr, loopHeld := s.sel.loopHeld, integ := s.sel.integ, everLocked := s.sel.everLocked
        lastUpdate := s.sel.lastUpdate }
      hold := t.hold, outs := t.outs, gnss := t.gnss, dom := t.dom
      ts := { t.ts with
        ledger := s.ts.ledger, hashSeed := s.ts.hashSeed, stranger := s.ts.stranger, strangerTick := s.ts.strangerTick
        capDropAt := s.ts.capDropAt, offered := s.ts.offered, admitUse := s.ts.admitUse, denyKiss := s.ts.denyKiss
        rotateDue := s.ts.rotateDue, rotateLate := s.ts.rotateLate, lastRotation := s.ts.lastRotation, foreignAt := s.ts.foreignAt
        linkDelay := s.ts.linkDelay, linkPair := s.ts.linkPair, ptpNext := s.ts.ptpNext }
      ports := t.ports, sw := { s.sw with macs := t.sw.macs, peak := t.sw.peak, qCtr := t.sw.qCtr, nextId := t.sw.nextId }
      banks := { t.banks with
        edits := s.banks.edits, slots := s.banks.slots, lastDrain := s.banks.lastDrain, drainDrop := s.banks.drainDrop
        missed := s.banks.missed, loaded := s.banks.loaded, checkOk := s.banks.checkOk }
      keys := t.keys, bn := t.bn, flt := { t.flt with quietS := s.flt.quietS, checkFailed := s.flt.checkFailed, injects := s.flt.injects }
      mid := { t.mid with overwritten := s.mid.overwritten, erase := s.mid.erase }, plat := { s.plat with flashWork := t.plat.flashWork }
      free := t.free })
    s (s.detect code channel) := by
  unfold State.detect
  exact .ite (State.takeover_within.after (.refl s)) (.refl s)

theorem State.sramOutcome_within {array a b} {s : State} : Within
    (fun s t => { s.noted t with
      cue := { s.cue with rows := t.cue.rows, executed := t.cue.executed, late := t.cue.late, dropped := t.cue.dropped, kept := t.cue.kept }
      cap := { s.cap with producer := t.cap.producer, consumer := t.cap.consumer }, ports := t.ports
      host := { s.host with queue := t.host.queue }, sw := { s.sw with macs := t.sw.macs, groups := t.sw.groups, absent := t.sw.absent }
      keys := { s.keys with slot := t.keys.slot }
      mem := { s.mem with
        bytes := t.mem.bytes, lines := t.mem.lines, recent := t.mem.recent, repeats := t.mem.repeats, toRetire := t.mem.toRetire
        rewrites := t.mem.rewrites, flip := t.mem.flip, counters := t.mem.counters } })
    s (s.sramOutcome array a b) := by
  unfold State.sramOutcome
  exact .ite (State.bufferLost_within.after (.refl s)) (.ite (State.entryLost_within.after (.refl s)) (.ite (State.endRow_within.after
    (.refl s)) (.ite (.ite (State.restoreSlot_within.after (.refl s)) (.put (.refl s))) (.refl s))))

theorem State.cancelRow_within {id reason} {s : State} : Within
    (fun s t => { s.noted t with
      cue := { s.cue with rows := t.cue.rows, executed := t.cue.executed, late := t.cue.late, dropped := t.cue.dropped, kept := t.cue.kept }
      cap := { s.cap with producer := t.cap.producer, consumer := t.cap.consumer }
      mem := { s.mem with
        bytes := t.mem.bytes, lines := t.mem.lines, recent := t.mem.recent, repeats := t.mem.repeats, toRetire := t.mem.toRetire
        flip := t.mem.flip, counters := t.mem.counters } })
    s (s.cancelRow id reason) := by
  unfold State.cancelRow
  exact State.endRow_within.after (.refl s)

theorem State.fireRow_within {id r} {s : State} : Within
    (fun s t => { s.noted t with
      outs := t.outs
      cue := { s.cue with
        rows := t.cue.rows, executed := t.cue.executed, late := t.cue.late, dropped := t.cue.dropped, kept := t.cue.kept
        closedGates := t.cue.closedGates }
      cap := t.cap, ports := t.ports
      mem := { s.mem with
        bytes := t.mem.bytes, lines := t.mem.lines, recent := t.mem.recent, repeats := t.mem.repeats, toRetire := t.mem.toRetire
        flip := t.mem.flip, counters := t.mem.counters } })
    s (s.fireRow id r) := by
  unfold State.fireRow
  exact .via (State.pulseFalls_within.after (.refl s)) fun h1 => .ite (State.launchCue_within.after h1) (.ite (State.endRow_within.after
    h1) (State.endRow_within.after (.ite (State.moveGates_within.after h1) (.ite (State.placeEdge_within.after h1)
    (State.moveCapture_within.after h1)))))

theorem State.receive_within {p a f left} {s : State} : Within
    (fun s t => { s.noted t with
      cap := { s.cap with producer := t.cap.producer, consumer := t.cap.consumer, lostPorts := t.cap.lostPorts, portRate := t.cap.portRate }
      ports := t.ports
      mem := { s.mem with
        bytes := t.mem.bytes, lines := t.mem.lines, recent := t.mem.recent, repeats := t.mem.repeats, toRetire := t.mem.toRetire
        flip := t.mem.flip, counters := t.mem.counters } })
    s (s.receive p a f left) := by
  unfold State.receive
  exact .via (State.countFec_within.after (.refl s)) fun h1 => .ite (State.stat_within.after h1) (.via (State.captureFrame_within.after
    h1) fun h2 => .ite (State.stat_within.after h2) (.ite (.via (State.stat_within.after h2) fun h3 => .ite (.ite h3
    (State.stat_within.after h3)) (State.updPort_within.after (.ite h3 (State.stat_within.after h3)))) (.ite (.ite
    (State.stat_within.after h2) (State.updPort_within.after (State.stat_within.after h2))) (.via (State.countRx_within.after h2) fun h4
    => .ite (State.macControl_within.after h4) (.ite (.ite h4 (State.trunkCount_within.after h4)) (.ite h4 (State.updPort_within.after
    h4)))))))

theorem State.prefetch_within {id r} {s : State} : Within
    (fun s t => { s.noted t with
      cue := { s.cue with rows := t.cue.rows, executed := t.cue.executed, late := t.cue.late, dropped := t.cue.dropped, kept := t.cue.kept }
      cap := { s.cap with producer := t.cap.producer, consumer := t.cap.consumer }
      mem := { s.mem with
        bytes := t.mem.bytes, lines := t.mem.lines, recent := t.mem.recent, repeats := t.mem.repeats, toRetire := t.mem.toRetire
        flip := t.mem.flip, counters := t.mem.counters } })
    s (s.prefetch id r) := by
  unfold State.prefetch
  exact .via (State.windowRead_within.after (.refl s)) fun h1 => .ite (State.updRow_within.after h1) (State.endRow_within.after h1)

theorem State.applyStep_within {c delta} {s : State} : Within
    (fun s t => { s.noted t with
      time := t.time, leap := { s.leap with pending := t.leap.pending, dir := t.leap.dir, pendAt := t.leap.pendAt }
      tci := { s.tci with mbx := t.tci.mbx, aside := t.tci.aside }, win := { s.win with closing := t.win.closing }
      meas := { t.meas with linkCals := s.meas.linkCals }, refs := t.refs
      sel := { t.sel with
        mode := s.sel.mode, manual := s.sel.manual, wtr := s.sel.wtr, actMode := s.sel.actMode, actManual := s.sel.actManual
        actWtr := s.sel.actWtr, loopHeld := s.sel.loopHeld, integ := s.sel.integ, everLocked := s.sel.everLocked
        lastUpdate := s.sel.lastUpdate }
      hold := t.hold, outs := t.outs, gnss := t.gnss, dom := t.dom
      cue := { s.cue with rows := t.cue.rows, executed := t.cue.executed, late := t.cue.late, dropped := t.cue.dropped, kept := t.cue.kept }
      cap := { s.cap with producer := t.cap.producer, consumer := t.cap.consumer }
      ts := { s.ts with
        ntp := t.ts.ntp, nts := t.ts.nts, ptp := t.ts.ptp, draining := t.ts.draining, derivedAt := t.ts.derivedAt, grants := t.ts.grants
        load := t.ts.load, waiting := t.ts.waiting, credit := t.ts.credit, servedAt := t.ts.servedAt, counters := t.ts.counters
        announceAt := t.ts.announceAt, ptpSeq := t.ts.ptpSeq, master := t.ts.master, masterId := t.ts.masterId, pair := t.ts.pair }
      ports := t.ports, sw := { s.sw with macs := t.sw.macs, peak := t.sw.peak, qCtr := t.sw.qCtr, nextId := t.sw.nextId }
      banks := { t.banks with
        edits := s.banks.edits, slots := s.banks.slots, lastDrain := s.banks.lastDrain, drainDrop := s.banks.drainDrop
        missed := s.banks.missed, loaded := s.banks.loaded, checkOk := s.banks.checkOk }
      rnd := { s.rnd with part := t.rnd.part, lastOutcome := t.rnd.lastOutcome }, keys := { s.keys with cache := t.keys.cache }
      mem := { s.mem with
        bytes := t.mem.bytes, lines := t.mem.lines, recent := t.mem.recent, repeats := t.mem.repeats, toRetire := t.mem.toRetire
        flip := t.mem.flip, counters := t.mem.counters } })
    s (s.applyStep c delta) := by
  unfold State.applyStep
  exact .via (State.leapMoved_within.after (.put (.refl s))) fun h1 => State.answerStep_within.after (State.stepCues_within.after
    (State.afterStep_within.after (State.stepOutputs_within.after (State.stepJobs_within.after (State.stepRefs_within.after (.ite
    (State.post_within.after h1) h1))))))

theorem State.onCancel_within {round} {s : State} : Within
    (fun s t => { s.noted t with
      cue := { s.cue with rows := t.cue.rows, executed := t.cue.executed, late := t.cue.late, dropped := t.cue.dropped, kept := t.cue.kept }
      cap := { s.cap with producer := t.cap.producer, consumer := t.cap.consumer }
      rnd := { s.rnd with part := t.rnd.part, up := t.rnd.up, lastOutcome := t.rnd.lastOutcome }
      mem := { s.mem with
        bytes := t.mem.bytes, lines := t.mem.lines, recent := t.mem.recent, repeats := t.mem.repeats, toRetire := t.mem.toRetire
        flip := t.mem.flip, counters := t.mem.counters } })
    s (s.onCancel round) := by
  unfold State.onCancel
  refine .ite (State.openUp_within.after (State.post_within.after (.put (.refl s)))) ?_
  refine .ite ?_ (State.openUp_within.after (.refl s))
  split
  · exact .ite (State.openUp_within.after (.refl s)) (State.openUp_within.after (State.post_within.after (.put
      (State.endRow_within.after (.refl s)))))
  · exact State.openUp_within.after (.refl s)

theorem State.cancelRound_within {root round} {s : State} : Within
    (fun s t => { s.noted t with
      cue := { s.cue with rows := t.cue.rows, executed := t.cue.executed, late := t.cue.late, dropped := t.cue.dropped, kept := t.cue.kept }
      cap := { s.cap with producer := t.cap.producer, consumer := t.cap.consumer }
      mem := { s.mem with
        bytes := t.mem.bytes, lines := t.mem.lines, recent := t.mem.recent, repeats := t.mem.repeats, toRetire := t.mem.toRetire
        flip := t.mem.flip, counters := t.mem.counters } })
    s (s.cancelRound root round) := by
  unfold State.cancelRound
  exact .foldl (fun _ _ h1 => State.cancelRow_within.after h1) _ (.refl s)

theorem State.rootCancel_within {byHost} {s : State} : Within
    (fun s t => { s.noted t with
      dom := { s.dom with txSeq := t.dom.txSeq, queue := t.dom.queue }
      cue := { s.cue with rows := t.cue.rows, executed := t.cue.executed, late := t.cue.late, dropped := t.cue.dropped, kept := t.cue.kept }
      cap := { s.cap with producer := t.cap.producer, consumer := t.cap.consumer }
      rnd := { s.rnd with
        part := t.rnd.part, up := t.rnd.up, lastOutcome := t.rnd.lastOutcome, root := t.rnd.root, rootRec := t.rnd.rootRec
        recDue := t.rnd.recDue }
      mem := { s.mem with
        bytes := t.mem.bytes, lines := t.mem.lines, recent := t.mem.recent, repeats := t.mem.repeats, toRetire := t.mem.toRetire
        flip := t.mem.flip, counters := t.mem.counters } })
    s (s.rootCancel byHost) := by
  unfold State.rootCancel
  exact State.updRoot_within.after (State.onCancel_within.after (.ite (.refl s) (State.toChildren_within.after (.refl s))))

theorem State.fragment_within {p phase lane bytes count start mcrc last} {s : State} : Within
    (fun s t => { s.noted t with
      cap := { s.cap with producer := t.cap.producer, consumer := t.cap.consumer, lostPorts := t.cap.lostPorts, portRate := t.cap.portRate }
      ports := t.ports
      mem := { s.mem with
        bytes := t.mem.bytes, lines := t.mem.lines, recent := t.mem.recent, repeats := t.mem.repeats, toRetire := t.mem.toRetire
        flip := t.mem.flip, counters := t.mem.counters } })
    s (s.fragment p phase lane bytes count start mcrc last) := by
  unfold State.fragment
  extract_lets +onlyGivenNames x
  refine .ite (State.stat_within.after (.refl s)) ?_
  extract_lets +onlyGivenNames s0 a
  refine .via (t := s0) (.ite (State.dropAssembly_within.after (.refl s)) (.refl s)) fun h0 => ?_
  clear_value s0 a
  split
  · exact h0
  · refine .ite (State.dropAssembly_within.after h0) ?_
    extract_lets +onlyGivenNames s1
    refine .via (t := s1) (.ite (State.stat_within.after h0) h0) fun h1 => ?_
    clear_value s1
    split
    · exact State.receive_within.after (State.updPort_within.after h1)
    · exact State.updPort_within.after h1

theorem State.rootAdvance_within {s : State} : Within
    (fun s t => { s.noted t with
      tci := { s.tci with mbx := t.tci.mbx, aside := t.tci.aside }, win := { s.win with closing := t.win.closing }
      dom := { s.dom with txSeq := t.dom.txSeq, queue := t.dom.queue }
      cue := { s.cue with
        rows := t.cue.rows, nextSeq := t.cue.nextSeq, executed := t.cue.executed, late := t.cue.late, dropped := t.cue.dropped
        kept := t.cue.kept }
      cap := { s.cap with producer := t.cap.producer, consumer := t.cap.consumer }
      rnd := { t.rnd with
        round := s.rnd.round, inst := s.rnd.inst, seen := s.rnd.seen, lastRound := s.rnd.lastRound, nextRound := s.rnd.nextRound }
      mem := { s.mem with
        bytes := t.mem.bytes, lines := t.mem.lines, recent := t.mem.recent, repeats := t.mem.repeats, toRetire := t.mem.toRetire
        flip := t.mem.flip, counters := t.mem.counters } })
    s s.rootAdvance := by
  unfold State.rootAdvance
  split
  · exact .refl s
  · exact .ite (State.updRoot_within.after (State.onArm_within.after (State.toChildren_within.after (.refl s)))) (.ite
      (State.rootCancel_within.after (.refl s)) (.refl s))
  · exact .ite (State.finish_within.after (State.updRoot_within.after (.refl s))) (.ite (State.rootCancel_within.after (.refl s)) (.refl
      s))
  · exact .ite (State.rootEnds_within.after (.refl s)) (.refl s)
  · exact .ite (State.finishAll_within.after (State.finish_within.after (State.rootEnds_within.after (.refl s)))) (.refl s)

theorem State.joinRound_within {c} {s : State} : Within
    (fun s t => { s.noted t with
      cue := { t.cue with closedGates := s.cue.closedGates, issued := s.cue.issued, results := s.cue.results, nextRound := s.cue.nextRound }
      cap := { s.cap with producer := t.cap.producer, consumer := t.cap.consumer }
      mem := { s.mem with
        bytes := t.mem.bytes, lines := t.mem.lines, recent := t.mem.recent, repeats := t.mem.repeats, toRetire := t.mem.toRetire
        flip := t.mem.flip, counters := t.mem.counters } })
    s (s.joinRound c) := by
  unfold State.joinRound
  split
  next late fail s1 hx =>
  suffices h1 : Within _ s s1 from .ite (.put h1) (.put h1)
  have hp := congrArg Prod.snd hx
  dsimp only at hp
  rw [← hp]
  exact .ite_snd (State.cancelRound_within.after (.refl s)) (State.armScene_within.after (.refl s))

end Sys2Proof.Machine
end

section
/-!
SUPPORT. What a command's run may change, and what answering it adds.
-/
namespace Sys2Proof.Machine

set_option Elab.async false -- the lemmas are many and small: one after the other

/-- The state a reply carries. -/
def Reply.state : Reply → State
  | .done _ _ s | .aside _ s | .attend s | .kept s => s

/-- The state a reply carries is within `f` of `s`. -/
structure Replies (f : State → State → State) (s : State) (r : Reply) : Prop where
  state : Within f s r.state

namespace Replies
variable {f : State → State → State} {s t : State}

theorem done {status : Nat} {payload : Fields} (h : Within f s t) : Replies f s (.done status payload t) := ⟨h⟩
theorem aside {w : Wait} (h : Within f s t) : Replies f s (.aside w t) := ⟨h⟩
theorem attend (h : Within f s t) : Replies f s (.attend t) := ⟨h⟩
theorem kept (h : Within f s t) : Replies f s (.kept t) := ⟨h⟩

theorem ite {c : Prop} {dec : Decidable c} {r r' : Reply} (h : Replies f s r) (h' : Replies f s r') :
    Replies f s (if c then r else r') := by
  split
  · exact h
  · exact h'

theorem via {r : Reply} (ht : Within f s t) (h : Within f s t → Replies f s r) : Replies f s r := h ht

theorem wider {g : State → State → State} {r : Reply} (k : Replies g s r) (law : ∀ s t, f s (g s t) = g s t := by intros; rfl) :
    Replies f s r := ⟨k.state.wider law⟩

theorem after {g : State → State → State} {r : Reply} (k : Replies g t r) (h : Within f s t)
    (law : ∀ s t u, f s (g (f s t) u) = g (f s t) u := by intros; rfl) : Replies f s r := ⟨k.state.after h law⟩

end Replies

/-- A next state, where there is one, is within `f` of `s`. -/
structure Steps (f : State → State → State) (s : State) (o : Host.Outcome State Fault Refusal) : Prop where
  within : ∀ t, o = .next t → Within f s t

namespace Steps
variable {f : State → State → State} {s t : State}

theorem next (h : Within f s t) : Steps f s (.next t) := ⟨fun _ e => Host.Outcome.next.inj e ▸ h⟩
theorem fault {x : Fault} : Steps f s (.fault x) := ⟨fun _ e => by simp at e⟩
theorem refused {x : Refusal} : Steps f s (.refused x) := ⟨fun _ e => by simp at e⟩

theorem ite {c : Prop} {dec : Decidable c} {o o' : Host.Outcome State Fault Refusal} (h : Steps f s o) (h' : Steps f s o') :
    Steps f s (if c then o else o') := by
  split
  · exact h
  · exact h'

theorem via {o : Host.Outcome State Fault Refusal} (ht : Within f s t) (h : Within f s t → Steps f s o) : Steps f s o := h ht

theorem wider {g : State → State → State} {o : Host.Outcome State Fault Refusal} (k : Steps g s o)
    (law : ∀ s t, f s (g s t) = g s t := by intros; rfl) : Steps f s o := ⟨fun t e => (k.within t e).wider law⟩

theorem withPort {p : Nat} {g : State → State} (h : Within f s (g t)) : Steps f s (withPort p t g) := ite (next h) fault

end Steps
theorem stage_within {upd} {s : State} : Replies
    (fun s t => { s with
      banks := { s.banks with
        shadow := t.banks.shadow, edits := t.banks.edits, validated := t.banks.validated, preloaded := t.banks.preloaded } })
    s (stage upd s) := by
  unfold stage
  split
  · exact .done (.refl s)
  · exact .done (.put (.refl s))

theorem requestWrite_within {opcode ready slots acc q} {s : State} : Replies
    (fun s t => { s with keys := { s.keys with writes := t.keys.writes } })
    s (requestWrite opcode ready slots acc q s) :=
    .aside (.put (.refl s))

theorem cueRefuse_within {status reason} {s : State} : Replies (fun s t => { s with free := t.free }) s (cueRefuse status reason s) := by
  unfold cueRefuse
  split
  next v s1 hx =>
  have h := State.draw_within (w := 16) (s := s)
  rw [hx] at h
  exact .done (h.after (.refl s))

theorem stepExecute_within {attended q} {s : State} : Replies
    (fun s t => { s with time := { s.time with scheds := t.time.scheds } })
    s (stepExecute attended q s) :=
    .ite (.done (.refl s)) (.ite (.done (.refl s)) (.ite (.done (.refl s)) (.aside (.put (.refl s)))))

theorem cmdMacLookup_run {q} {s : State} : Replies (fun s _ => s) s (cmdMacLookup.run q s) := .done (.refl s)

theorem cmdRefStatus_run {q} {s : State} : Replies (fun s _ => s) s (cmdRefStatus.run q s) := .done (.refl s)

theorem cmdKeyImport_run {q} {s : State} : Replies (fun s _ => s) s (cmdKeyImport.run q s) := by
  unfold cmdKeyImport
  dsimp -zeta only
  split
  · exact .done (.refl s)
  · exact .ite (.attend (.refl s)) (.done (.refl s))

theorem cmdKeyImport_act {q} {s : State} : Replies
    (fun s t => { s with keys := { s.keys with writes := t.keys.writes } })
    s (cmdKeyImport.act q s) := by
  unfold cmdKeyImport
  dsimp -zeta only
  split
  · exact .done (.refl s)
  · exact requestWrite_within.after (.refl s)

theorem cmdSysInbandSend_run {q} {s : State} : Replies
    (fun s t => { s with inb := { s.inb with txnNext := t.inb.txnNext }, dom := { s.dom with txSeq := t.dom.txSeq, queue := t.dom.queue } })
    s (cmdSysInbandSend.run q s) := by
  unfold cmdSysInbandSend
  dsimp -zeta only
  refine .ite (.done (.refl s)) ?_
  refine .aside ?_
  split
  · exact State.sendDomain_within.after (.put (.refl s))
  · exact .put (.refl s)

theorem cmdSysPaceGet_run {q} {s : State} : Replies
    (fun s t => { s with pace := { s.pace with lowest := t.pace.lowest } })
    s (cmdSysPaceGet.run q s) :=
    .done (.put (.refl s))

theorem cmdPortConfigSet_run {q} {s : State} : Replies
    (fun s t => { s with
      banks := { s.banks with
        shadow := t.banks.shadow, edits := t.banks.edits, validated := t.banks.validated, preloaded := t.banks.preloaded } })
    s (cmdPortConfigSet.run q s) := by
  unfold cmdPortConfigSet
  dsimp -zeta only
  exact stage_within.after (.refl s)

theorem cmdLeapTableSet_run {q} {s : State} : Replies
    (fun s t => { s with leap := { t.leap with flash := s.leap.flash } })
    s (cmdLeapTableSet.run q s) :=
    .ite (.done (.refl s)) (.done (State.leapFlags_within.after (.put (.refl s))))

theorem cmdSysFwActivate_run {q} {s : State} : Replies (fun s _ => s) s (cmdSysFwActivate.run q s) := by
  unfold cmdSysFwActivate
  dsimp -zeta only
  split
  · exact .done (.refl s)
  · exact .attend (.refl s)

theorem cmdSysFwActivate_act {q} {s : State} : Replies (fun s t => { s with fw := t.fw }) s (cmdSysFwActivate.act q s) := by
  unfold cmdSysFwActivate
  dsimp -zeta only
  split
  · exact .done (.refl s)
  · exact .done (.put (.refl s))

theorem cmdSysFwWrite_run {q} {s : State} : Replies
    (fun s t => { s with fw := t.fw, plat := { s.plat with flashWork := t.plat.flashWork } })
    s (cmdSysFwWrite.run q s) :=
    .ite (.done (.refl s)) (.ite (.aside (.put (.refl s))) (.done (.put (.refl s))))

theorem cmdFibrePairSet_run {q} {s : State} : Replies
    (fun s t => { s with
      banks := { s.banks with
        shadow := t.banks.shadow, edits := t.banks.edits, validated := t.banks.validated, preloaded := t.banks.preloaded } })
    s (cmdFibrePairSet.run q s) := by
  unfold cmdFibrePairSet
  dsimp -zeta only
  exact stage_within.after (.refl s)

theorem cmdEquinoxDomainStart_run {q} {s : State} : Replies
    (fun s t => { s with dom := { s.dom with txSeq := t.dom.txSeq, queue := t.dom.queue }, rnd := t.rnd })
    s (cmdEquinoxDomainStart.run q s) :=
    .ite (.done (.refl s)) (.ite (.done (.refl s)) (.ite (.done (.refl s)) (.aside (State.onPrepare_within.after
    (State.toChildren_within.after (.put (.refl s)))))))

theorem cmdPortTimingSet_run {q} {s : State} : Replies
    (fun s t => { s with
      banks := { s.banks with
        shadow := t.banks.shadow, edits := t.banks.edits, validated := t.banks.validated, preloaded := t.banks.preloaded } })
    s (cmdPortTimingSet.run q s) := by
  unfold cmdPortTimingSet
  dsimp -zeta only
  exact stage_within.after (.refl s)

theorem cmdKeyInfo_run {q} {s : State} : Replies (fun s _ => s) s (cmdKeyInfo.run q s) := .done (.refl s)

theorem cmdMemPolicySet_run {q} {s : State} : Replies
    (fun s t => { s with
      mem := { s.mem with severeN := t.mem.severeN, windowH := t.mem.windowH, patrolH := t.mem.patrolH, policyFlash := t.mem.policyFlash }
      plat := { s.plat with flashWork := t.plat.flashWork } })
    s (cmdMemPolicySet.run q s) :=
    .done (.ite (State.suspend_within.after (.put (.refl s))) (State.savePolicy_within.after (.put (.refl s))))

theorem cmdMcastGroupSet_run {q} {s : State} : Replies
    (fun s t => { s with
      banks := { s.banks with
        shadow := t.banks.shadow, edits := t.banks.edits, validated := t.banks.validated, preloaded := t.banks.preloaded } })
    s (cmdMcastGroupSet.run q s) := by
  unfold cmdMcastGroupSet
  dsimp -zeta only
  exact stage_within.after (.refl s)

theorem cmdGnssReset_run {q} {s : State} : Replies
    (fun s t => { s.noted t with
      time := t.time, refs := t.refs
      sel := { t.sel with
        mode := s.sel.mode, manual := s.sel.manual, wtr := s.sel.wtr, actMode := s.sel.actMode, actManual := s.sel.actManual
        actWtr := s.sel.actWtr, loopHeld := s.sel.loopHeld, integ := s.sel.integ, everLocked := s.sel.everLocked
        lastUpdate := s.sel.lastUpdate }
      hold := t.hold, gnss := t.gnss, plat := { s.plat with flashWork := t.plat.flashWork } })
    s (cmdGnssReset.run q s) :=
    .ite (.done (.refl s)) (.done (State.gnssIndication_within.after (.ite (State.storePosition_within.after (.put (.refl s))) (.put
    (.refl s)))))

theorem cmdBnAbort_run {q} {s : State} : Replies
    (fun s t => { s.reported t with
      tci := { s.tci with mbx := t.tci.mbx, aside := t.tci.aside }, win := { s.win with closing := t.win.closing }
      dom := { s.dom with txSeq := t.dom.txSeq, queue := t.dom.queue }, bn := t.bn })
    s (cmdBnAbort.run q s) :=
    .ite (.done (.refl s)) (.via (State.stopJobs_within.after (.refl s)) fun h1 => .ite (.done h1) (.aside h1))

theorem cmdTsStatus_run {q} {s : State} : Replies (fun s _ => s) s (cmdTsStatus.run q s) := .done (.refl s)

theorem cmdCueDomainAnnounce_run {q} {s : State} : Replies
    (fun s t => { s.noted t with
      dom := { s.dom with txSeq := t.dom.txSeq, queue := t.dom.queue }
      cue := { t.cue with closedGates := s.cue.closedGates, results := s.cue.results }
      cap := { s.cap with producer := t.cap.producer, consumer := t.cap.consumer }
      mem := { s.mem with
        bytes := t.mem.bytes, lines := t.mem.lines, recent := t.mem.recent, repeats := t.mem.repeats, toRetire := t.mem.toRetire
        flip := t.mem.flip, counters := t.mem.counters } })
    s (cmdCueDomainAnnounce.run q s) :=
    .ite (.done (.refl s)) (.ite (.done (.refl s)) (.ite (.done (.refl s)) (.done (State.joinRound_within.after
    (State.toChildren_within.after (.put (.refl s)))))))

theorem cmdFaultPolicySet_run {q} {s : State} : Replies
    (fun s t => { s with flt := { s.flt with src := t.flt.src, quietS := t.flt.quietS } })
    s (cmdFaultPolicySet.run q s) :=
    .ite (.done (.refl s)) (.done (.put ((State.updSrc_within (code := q.f 0 8)).after (.refl s))))

theorem cmdCueDomainCancel_run {q} {s : State} : Replies
    (fun s t => { s.noted t with
      dom := { s.dom with txSeq := t.dom.txSeq, queue := t.dom.queue }
      cue := { t.cue with closedGates := s.cue.closedGates, issued := s.cue.issued, results := s.cue.results, nextRound := s.cue.nextRound }
      cap := { s.cap with producer := t.cap.producer, consumer := t.cap.consumer }
      mem := { s.mem with
        bytes := t.mem.bytes, lines := t.mem.lines, recent := t.mem.recent, repeats := t.mem.repeats, toRetire := t.mem.toRetire
        flip := t.mem.flip, counters := t.mem.counters } })
    s (cmdCueDomainCancel.run q s) := by
  unfold cmdCueDomainCancel
  dsimp -zeta only
  refine .ite (.done (.refl s)) ?_
  split
  · exact .ite (.done (.refl s)) (.done (.refl s))
  · exact .ite (.done (.refl s)) (.ite (.done (.refl s)) (.done (State.joinRound_within.after (State.toChildren_within.after (.refl
      s)))))

theorem cmdRefConfigSet_run {q} {s : State} : Replies
    (fun s t => { s with
      banks := { s.banks with
        shadow := t.banks.shadow, edits := t.banks.edits, validated := t.banks.validated, preloaded := t.banks.preloaded } })
    s (cmdRefConfigSet.run q s) := by
  unfold cmdRefConfigSet
  dsimp -zeta only
  exact stage_within.after (.refl s)

theorem cmdFaultClear_run {q} {s : State} : Replies
    (fun s t => { s.reported t with
      flt := { s.flt with
        records := t.flt.records, src := t.flt.src, frozen := t.flt.frozen, faultN := t.flt.faultN, recoveries := t.flt.recoveries
        nextOpen := t.flt.nextOpen, takeRec := t.flt.takeRec } })
    s (cmdFaultClear.run q s) :=
    .ite (.ite (.done (State.settleFaults_within.after (State.clearRecord_within.after (.refl s)))) (.done (.refl s))) (.ite (.ite (.done
    (State.freeRecords_within.after (.refl s))) (.done (.refl s))) (.done (State.freeRecords_within.after (.refl s))))

theorem cmdCueAdd_run {q} {s : State} : Replies
    (fun s t => { s with cue := { s.cue with rows := t.cue.rows, nextSeq := t.cue.nextSeq }, free := t.free })
    s (cmdCueAdd.run q s) := by
  unfold cmdCueAdd
  dsimp -zeta only
  exact .ite (.ite (cueRefuse_within.after (.refl s)) (.done (State.putRow_within.after (.refl s)))) (.ite (cueRefuse_within.after
    (.refl s)) (.ite (cueRefuse_within.after (.refl s)) (.done (State.armRow_within.after (.refl s)))))

theorem cmdKeyPolicyGet_run {q} {s : State} : Replies (fun s _ => s) s (cmdKeyPolicyGet.run q s) := .done (.refl s)

theorem cmdCueList_run {q} {s : State} : Replies (fun s _ => s) s (cmdCueList.run q s) := .done (.refl s)

theorem cmdFaultInject_run {q} {s : State} : Replies
    (fun s t => { s.noted t with
      time := t.time, tci := { t.tci with doorbellErr := s.tci.doorbellErr }
      win := { s.win with
        state := t.win.state, held := t.win.held, pressIn := t.win.pressIn, actions := t.win.actions, closing := t.win.closing }
      inb := { s.inb with enable := t.inb.enable, disabling := t.inb.disabling }, fw := t.fw, meas := { t.meas with job := s.meas.job }
      refs := t.refs
      sel := { t.sel with
        mode := s.sel.mode, manual := s.sel.manual, wtr := s.sel.wtr, actMode := s.sel.actMode, actManual := s.sel.actManual
        actWtr := s.sel.actWtr, loopHeld := s.sel.loopHeld, integ := s.sel.integ, everLocked := s.sel.everLocked
        lastUpdate := s.sel.lastUpdate }
      hold := t.hold, outs := t.outs, gnss := t.gnss, dom := t.dom
      ts := { t.ts with
        ledger := s.ts.ledger, hashSeed := s.ts.hashSeed, stranger := s.ts.stranger, strangerTick := s.ts.strangerTick
        capDropAt := s.ts.capDropAt, offered := s.ts.offered, admitUse := s.ts.admitUse, denyKiss := s.ts.denyKiss
        rotateDue := s.ts.rotateDue, rotateLate := s.ts.rotateLate, lastRotation := s.ts.lastRotation, foreignAt := s.ts.foreignAt
        linkDelay := s.ts.linkDelay, linkPair := s.ts.linkPair, ptpNext := s.ts.ptpNext }
      ports := t.ports, sw := { s.sw with macs := t.sw.macs, peak := t.sw.peak, qCtr := t.sw.qCtr, nextId := t.sw.nextId }
      banks := { t.banks with
        edits := s.banks.edits, slots := s.banks.slots, lastDrain := s.banks.lastDrain, drainDrop := s.banks.drainDrop
        missed := s.banks.missed, loaded := s.banks.loaded, checkOk := s.banks.checkOk }
      keys := t.keys, bn := t.bn, flt := { t.flt with quietS := s.flt.quietS, checkFailed := s.flt.checkFailed }
      mid := { t.mid with overwritten := s.mid.overwritten, erase := s.mid.erase }, plat := { s.plat with flashWork := t.plat.flashWork }
      free := t.free })
    s (cmdFaultInject.run q s) :=
    .ite (.done (.refl s)) (.ite (.kept (State.takeover_within.after (.put (.refl s)))) (.done (.put (State.faultEvent_within.after (.refl
    s)))))

theorem cmdPlatReset_run {q} {s : State} : Replies
    (fun s t => { s with fw := { s.fw with restarts := t.fw.restarts } })
    s (cmdPlatReset.run q s) :=
    .done (.put (.refl s))

theorem cmdBnEnable_run {q} {s : State} : Replies
    (fun s t => { s.reported t with
      tci := { s.tci with mbx := t.tci.mbx, aside := t.tci.aside }, win := { s.win with closing := t.win.closing }
      dom := { s.dom with txSeq := t.dom.txSeq, queue := t.dom.queue }
      bn := { s.bn with enabled := t.bn.enabled, draining := t.bn.draining, queue := t.bn.queue } })
    s (cmdBnEnable.run q s) :=
    .ite (.done (.refl s)) (.ite (.done (.put (.refl s))) (.aside (.foldl (fun _ _ h1 => State.answerJob_within.after h1) _ (.put (.refl
    s)))))

theorem cmdGnssSurveyRestart_run {q} {s : State} : Replies
    (fun s t => { s.noted t with
      time := t.time, refs := t.refs
      sel := { t.sel with
        mode := s.sel.mode, manual := s.sel.manual, wtr := s.sel.wtr, actMode := s.sel.actMode, actManual := s.sel.actManual
        actWtr := s.sel.actWtr, loopHeld := s.sel.loopHeld, integ := s.sel.integ, everLocked := s.sel.everLocked
        lastUpdate := s.sel.lastUpdate }
      hold := t.hold, gnss := t.gnss, plat := { s.plat with flashWork := t.plat.flashWork } })
    s (cmdGnssSurveyRestart.run q s) :=
    .ite (.done (.refl s)) (.done (State.gnssIndication_within.after (State.storePosition_within.after (.put (.refl s)))))

theorem cmdQueueSet_run {q} {s : State} : Replies
    (fun s t => { s with
      banks := { s.banks with
        shadow := t.banks.shadow, edits := t.banks.edits, validated := t.banks.validated, preloaded := t.banks.preloaded } })
    s (cmdQueueSet.run q s) := by
  unfold cmdQueueSet
  dsimp -zeta only
  exact stage_within.after (.refl s)

theorem cmdLinkCalRun_run {q} {s : State} : Replies
    (fun s t => { s with meas := { s.meas with linkCals := t.meas.linkCals } })
    s (cmdLinkCalRun.run q s) :=
    .ite (.done (.refl s)) (.aside (.put (.refl s)))

theorem cmdMeasChannelGet_run {q} {s : State} : Replies
    (fun s t => { s with meas := { s.meas with ch := t.meas.ch } })
    s (cmdMeasChannelGet.run q s) :=
    .done (State.updChan_within.after (.refl s))

theorem cmdEquinoxResultGet_run {q} {s : State} : Replies (fun s _ => s) s (cmdEquinoxResultGet.run q s) := by
  unfold cmdEquinoxResultGet
  dsimp -zeta only
  split
  · exact .done (.refl s)
  · exact .done (.refl s)

theorem cmdTsCounters_run {q} {s : State} : Replies
    (fun s t => { s with ts := { s.ts with counters := t.ts.counters } })
    s (cmdTsCounters.run q s) :=
    .done (.put (.refl s))

theorem cmdMidwinterRead_run {q} {s : State} : Replies (fun s t => { s with trace := t.trace }) s (cmdMidwinterRead.run q s) := by
  unfold cmdMidwinterRead
  dsimp -zeta only
  split
  · exact .done (.refl s)
  · exact .ite (.done (.refl s)) (.ite (.done (.refl s)) (.ite (.done (.refl s)) (.done (State.emit_within.after (.refl s)))))

theorem cmdLeapTableGet_run {q} {s : State} : Replies (fun s _ => s) s (cmdLeapTableGet.run q s) := .done (.refl s)

theorem cmdDomainConfigGet_run {q} {s : State} : Replies (fun s _ => s) s (cmdDomainConfigGet.run q s) := .done (.refl s)

theorem cmdMeasCalGet_run {q} {s : State} : Replies (fun s _ => s) s (cmdMeasCalGet.run q s) := by
  unfold cmdMeasCalGet
  dsimp -zeta only
  extract_lets c
  split
  · exact .done (.refl s)
  · exact .done (.refl s)

theorem cmdStampLatencyGet_run {q} {s : State} : Replies (fun s _ => s) s (cmdStampLatencyGet.run q s) := .done (.refl s)

theorem cmdEquinoxCancel_run {q} {s : State} : Replies
    (fun s t => { s.noted t with
      cue := { s.cue with rows := t.cue.rows, executed := t.cue.executed, late := t.cue.late, dropped := t.cue.dropped, kept := t.cue.kept }
      cap := { s.cap with producer := t.cap.producer, consumer := t.cap.consumer }, banks := { s.banks with state := t.banks.state }
      mem := { s.mem with
        bytes := t.mem.bytes, lines := t.mem.lines, recent := t.mem.recent, repeats := t.mem.repeats, toRetire := t.mem.toRetire
        flip := t.mem.flip, counters := t.mem.counters } })
    s (cmdEquinoxCancel.run q s) := by
  unfold cmdEquinoxCancel
  dsimp -zeta only
  refine .ite (.done (.refl s)) ?_
  split
  · exact .done (.refl s)
  · exact .ite (.done (.refl s)) (.done (State.post_within.after (.put (State.endRow_within.after (.refl s)))))

theorem cmdSysInfo_run {q} {s : State} : Replies (fun s _ => s) s (cmdSysInfo.run q s) := .done (.refl s)

theorem cmdMacStaticSet_run {q} {s : State} : Replies
    (fun s t => { s with
      banks := { s.banks with
        shadow := t.banks.shadow, edits := t.banks.edits, validated := t.banks.validated, preloaded := t.banks.preloaded } })
    s (cmdMacStaticSet.run q s) := by
  unfold cmdMacStaticSet
  dsimp -zeta only
  exact .ite (.done (.refl s)) (stage_within.after (.refl s))

theorem cmdTimeGet_run {q} {s : State} : Replies (fun s _ => s) s (cmdTimeGet.run q s) := .done (.refl s)

theorem cmdStampCounters_run {q} {s : State} : Replies (fun s _ => s) s (cmdStampCounters.run q s) := .done (.refl s)

theorem cmdSysInbandSet_run {q} {s : State} : Replies
    (fun s t => { s.raised t with
      tci := { s.tci with mbx := t.tci.mbx, rung := t.tci.rung }, inb := { s.inb with enable := t.inb.enable, disabling := t.inb.disabling }
      dom := { s.dom with txSeq := t.dom.txSeq, queue := t.dom.queue } })
    s (cmdSysInbandSet.run q s) := by
  unfold cmdSysInbandSet
  dsimp -zeta only
  refine .ite (.done (.refl s)) (.ite (.attend (.refl s)) ?_)
  extract_lets +onlyGivenNames _ s1 s2
  refine .via (t := s2) (.foldl (fun _ _ h1 => State.respond_within.after h1) _ (.put (.refl s))) fun h2 => ?_
  clear_value s2
  exact .aside (.put h2)

theorem cmdSysInbandSet_act {q} {s : State} : Replies
    (fun s t => { s with inb := { s.inb with enable := t.inb.enable } })
    s (cmdSysInbandSet.act q s) :=
    .done (.put (.refl s))

theorem cmdTimeSetFreq_run {q} {s : State} : Replies (fun s t => { s with time := t.time }) s (cmdTimeSetFreq.run q s) :=
    .ite (.done (.refl s)) (.done (.put (.refl s)))

theorem cmdKeyDelete_run {q} {s : State} : Replies (fun s _ => s) s (cmdKeyDelete.run q s) := by
  unfold cmdKeyDelete
  dsimp -zeta only
  split
  · exact .done (.refl s)
  · exact .attend (.refl s)

theorem cmdKeyDelete_act {q} {s : State} : Replies
    (fun s t => { s with keys := { s.keys with writes := t.keys.writes } })
    s (cmdKeyDelete.act q s) := by
  unfold cmdKeyDelete
  dsimp -zeta only
  split
  · exact .done (.refl s)
  · exact requestWrite_within.after (.refl s)

theorem cmdLoopSet_run {q} {s : State} : Replies
    (fun s t => { s.reported t with
      time := t.time, refs := t.refs
      sel := { t.sel with
        mode := s.sel.mode, manual := s.sel.manual, wtr := s.sel.wtr, actMode := s.sel.actMode, actManual := s.sel.actManual
        actWtr := s.sel.actWtr, fell := s.sel.fell, pairs := s.sel.pairs, selected := s.sel.selected, everLocked := s.sel.everLocked
        lastRef := s.sel.lastRef, lastUpdate := s.sel.lastUpdate }
      hold := t.hold })
    s (cmdLoopSet.run q s) := by
  unfold cmdLoopSet
  dsimp -zeta only
  refine .ite (.done (.refl s)) ?_
  refine .ite (.done (State.settleTiming_within.after (.put ((State.enterSel_within (st := Sys2Proof.Machine.SelState.loopOpen)).after
    (.refl s))))) ?_
  refine .done ?_
  refine State.settleTiming_within.after ?_
  split
  · exact State.treatPhase_within.after (.put (.refl s))
  · exact State.enterSel_within.after (.put (.refl s))

theorem cmdPlatStatus_run {q} {s : State} : Replies
    (fun s t => { s with plat := { s.plat with v12Min := t.plat.v12Min, vcoreMin := t.plat.vcoreMin } })
    s (cmdPlatStatus.run q s) :=
    .done (.put (.refl s))

theorem cmdTsPolicySet_run {q} {s : State} : Replies
    (fun s t => { s with
      banks := { s.banks with
        shadow := t.banks.shadow, edits := t.banks.edits, validated := t.banks.validated, preloaded := t.banks.preloaded } })
    s (cmdTsPolicySet.run q s) := by
  unfold cmdTsPolicySet
  dsimp -zeta only
  exact stage_within.after (.refl s)

theorem cmdMirrorSet_run {q} {s : State} : Replies
    (fun s t => { s with sw := { s.sw with mirrors := t.sw.mirrors } })
    s (cmdMirrorSet.run q s) :=
    .ite (.done (.refl s)) (.ite (.aside (State.updMirror_within.after (.refl s))) (.done (State.updMirror_within.after (.refl s))))

theorem cmdKeyGenerate_run {q} {s : State} : Replies (fun s _ => s) s (cmdKeyGenerate.run q s) := by
  unfold cmdKeyGenerate
  dsimp -zeta only
  split
  · exact .done (.refl s)
  · exact .attend (.refl s)

theorem cmdKeyGenerate_act {q} {s : State} : Replies
    (fun s t => { s with keys := { s.keys with writes := t.keys.writes }, bn := { s.bn with generates := t.bn.generates }, free := t.free })
    s (cmdKeyGenerate.act q s) := by
  unfold cmdKeyGenerate
  dsimp -zeta only
  split
  · exact .done (.refl s)
  · exact requestWrite_within.after (State.entropy_within.after (.refl s))

theorem cmdSwitchStatus_run {q} {s : State} : Replies
    (fun s t => { s with sw := { s.sw with peak := t.sw.peak } })
    s (cmdSwitchStatus.run q s) :=
    .done (.put (.refl s))

theorem cmdMeasChannelSet_run {q} {s : State} : Replies
    (fun s t => { s with
      meas := { s.meas with ch := t.meas.ch }, cap := { s.cap with closedTdc := t.cap.closedTdc, moves := t.cap.moves } })
    s (cmdMeasChannelSet.run q s) :=
    .ite (.done (.refl s)) (.ite (.done (.put ((State.updChan_within (c := q.f 0 4)).after (.refl s)))) (.ite (.done
    (State.updChan_within.after (.refl s))) (.aside (State.updChan_within.after (.refl s)))))

theorem cmdSwitchConfigGet_run {q} {s : State} : Replies (fun s _ => s) s (cmdSwitchConfigGet.run q s) := .done (.refl s)

theorem cmdCueDomainResultGet_run {q} {s : State} : Replies (fun s _ => s) s (cmdCueDomainResultGet.run q s) := by
  unfold cmdCueDomainResultGet
  dsimp -zeta only
  split
  · exact .done (.refl s)
  · exact .done (.refl s)

theorem cmdSysPaceSet_run {q} {s : State} : Replies
    (fun s t => { s with pace := { s.pace with pct := t.pace.pct } })
    s (cmdSysPaceSet.run q s) :=
    .done (.put (.refl s))

theorem cmdPtpPortSet_run {q} {s : State} : Replies
    (fun s t => { s with
      banks := { s.banks with
        shadow := t.banks.shadow, edits := t.banks.edits, validated := t.banks.validated, preloaded := t.banks.preloaded } })
    s (cmdPtpPortSet.run q s) := by
  unfold cmdPtpPortSet
  dsimp -zeta only
  exact .ite (.done (.refl s)) (stage_within.after (.refl s))

theorem cmdSysSealProvision_run {q} {s : State} : Replies (fun s _ => s) s (cmdSysSealProvision.run q s) := .attend (.refl s)

theorem cmdSysSealProvision_act {q} {s : State} : Replies
    (fun s t => { s.reported t with
      sealLoop := { t.sealLoop with closed := s.sealLoop.closed, closedAt := s.sealLoop.closedAt, missAt := s.sealLoop.missAt }
      flt := { s.flt with
        records := t.flt.records, src := t.flt.src, frozen := t.flt.frozen, faultN := t.flt.faultN, recoveries := t.flt.recoveries
        nextOpen := t.flt.nextOpen, takeRec := t.flt.takeRec } })
    s (cmdSysSealProvision.act q s) :=
    .done (State.postSeal_within.after (State.noteFrom_within.after (State.conditionEnds_within.after (.put (.refl s)))))

theorem cmdMemFlashStatus_run {q} {s : State} : Replies (fun s _ => s) s (cmdMemFlashStatus.run q s) := .done (.refl s)

theorem cmdPortStats_run {q} {s : State} : Replies (fun s _ => s) s (cmdPortStats.run q s) := .done (.refl s)

theorem cmdMemFuseProgram_run {q} {s : State} : Replies
    (fun s t => { s with
      mem := { s.mem with
        flagged := t.mem.flagged, flaggedFlash := t.mem.flaggedFlash, sparesLeft := t.mem.sparesLeft, fuseDone := t.mem.fuseDone } })
    s (cmdMemFuseProgram.run q s) :=
    .ite (.done (.refl s)) (.ite (.done (.put (.refl s))) (.done (.put (.refl s))))

theorem cmdCueCancel_run {q} {s : State} : Replies
    (fun s t => { s.noted t with
      cue := { s.cue with rows := t.cue.rows, executed := t.cue.executed, late := t.cue.late, dropped := t.cue.dropped, kept := t.cue.kept }
      cap := { s.cap with producer := t.cap.producer, consumer := t.cap.consumer }
      mem := { s.mem with
        bytes := t.mem.bytes, lines := t.mem.lines, recent := t.mem.recent, repeats := t.mem.repeats, toRetire := t.mem.toRetire
        flip := t.mem.flip, counters := t.mem.counters } })
    s (cmdCueCancel.run q s) := by
  unfold cmdCueCancel
  dsimp -zeta only
  refine .ite (.done (.put (.refl s))) ?_
  split
  · exact .done (.refl s)
  · exact .ite (.done (.refl s)) (.ite (.done (.put (.refl s))) (.ite (.done (.refl s)) (.done (State.cancelRow_within.after (.refl
      s)))))

theorem cmdRsvSet_run {q} {s : State} : Replies
    (fun s t => { s with
      banks := { s.banks with
        shadow := t.banks.shadow, edits := t.banks.edits, validated := t.banks.validated, preloaded := t.banks.preloaded } })
    s (cmdRsvSet.run q s) := by
  unfold cmdRsvSet
  dsimp -zeta only
  exact stage_within.after (.refl s)

theorem cmdOcxoStatus_run {q} {s : State} : Replies (fun s _ => s) s (cmdOcxoStatus.run q s) := .done (.refl s)

theorem cmdTsLedgerGet_run {q} {s : State} : Replies (fun s _ => s) s (cmdTsLedgerGet.run q s) := by
  unfold cmdTsLedgerGet
  dsimp -zeta only
  split
  · exact .done (.refl s)
  · exact .done (.refl s)

theorem cmdCaptureRingSet_run {q} {s : State} : Replies
    (fun s t => { s with
      cap := { t.cap with
        openPorts := s.cap.openPorts, closedTdc := s.cap.closedTdc, moves := s.cap.moves, lostPorts := s.cap.lostPorts
        portRate := s.cap.portRate } })
    s (cmdCaptureRingSet.run q s) :=
    .ite (.done (.refl s)) (.ite (.ite (.done (.refl s)) (.done (.put (.refl s)))) (.ite (.aside (.put (.refl s))) (.done (.put (.refl
    s)))))

theorem cmdOutputGet_run {q} {s : State} : Replies (fun s _ => s) s (cmdOutputGet.run q s) := .done (.refl s)

theorem cmdHostCounters_run {q} {s : State} : Replies
    (fun s t => { s with host := { s.host with counters := t.host.counters } })
    s (cmdHostCounters.run q s) :=
    .done (.put (.refl s))

theorem cmdMemFlipArm_run {q} {s : State} : Replies
    (fun s t => { s with mem := { s.mem with flip := t.mem.flip } })
    s (cmdMemFlipArm.run q s) :=
    .ite (.done (.refl s)) (.done (.put (.refl s)))

theorem cmdSysAttendCancel_run {q} {s : State} : Replies
    (fun s t => { s.reported t with
      tci := { s.tci with mbx := t.tci.mbx }, win := { s.win with state := t.win.state, held := t.win.held, pressIn := t.win.pressIn }
      dom := { s.dom with txSeq := t.dom.txSeq, queue := t.dom.queue } })
    s (cmdSysAttendCancel.run q s) :=
    .ite (.done (.refl s)) (.done (State.closeWindow_within.after (.refl s)))

theorem cmdSysFactoryDefault_run {q} {s : State} : Replies (fun s _ => s) s (cmdSysFactoryDefault.run q s) := by
  unfold cmdSysFactoryDefault
  dsimp -zeta only
  split
  · exact .done (.refl s)
  · exact .attend (.refl s)

theorem cmdSysFactoryDefault_act {q} {s : State} : Replies
    (fun s t => { s with
      banks := { s.banks with
        shadow := t.banks.shadow, edits := t.banks.edits, changeId := t.banks.changeId, state := t.banks.state
        validated := t.banks.validated, preloaded := t.banks.preloaded }
      rnd := { s.rnd with part := t.rnd.part } })
    s (cmdSysFactoryDefault.act q s) := by
  unfold cmdSysFactoryDefault
  dsimp -zeta only
  split
  · exact .done (.refl s)
  · exact .aside (State.seed_within.after (.refl s))

theorem cmdPortFwdSet_run {q} {s : State} : Replies
    (fun s t => { s with
      banks := { s.banks with
        shadow := t.banks.shadow, edits := t.banks.edits, validated := t.banks.validated, preloaded := t.banks.preloaded } })
    s (cmdPortFwdSet.run q s) := by
  unfold cmdPortFwdSet
  dsimp -zeta only
  exact stage_within.after (.refl s)

theorem cmdStampRingSet_run {q} {s : State} : Replies (fun s t => { s with stamps := t.stamps }) s (cmdStampRingSet.run q s) :=
    .ite (.done (.refl s)) (.ite (.ite (.done (.refl s)) (.done (.put (.refl s)))) (.ite (.aside (.put (.refl s))) (.done (.put (.refl
    s)))))

theorem cmdBankStatus_run {q} {s : State} : Replies (fun s _ => s) s (cmdBankStatus.run q s) := .done (.refl s)

theorem cmdCueFrameWrite_run {q} {s : State} : Replies
    (fun s t => { s.noted t with
      mem := { s.mem with
        bytes := t.mem.bytes, lines := t.mem.lines, recent := t.mem.recent, repeats := t.mem.repeats, toRetire := t.mem.toRetire
        flip := t.mem.flip, counters := t.mem.counters } })
    s (cmdCueFrameWrite.run q s) :=
    .ite (.done (.refl s)) (.done (State.windowWrite_within.after (.refl s)))

theorem cmdMacFlush_run {q} {s : State} : Replies
    (fun s t => { s with sw := { s.sw with edits := t.sw.edits } })
    s (cmdMacFlush.run q s) :=
    .aside (.put (.refl s))

theorem cmdEquinoxDomainCancel_run {q} {s : State} : Replies
    (fun s t => { s.noted t with
      dom := { s.dom with txSeq := t.dom.txSeq, queue := t.dom.queue }
      cue := { s.cue with rows := t.cue.rows, executed := t.cue.executed, late := t.cue.late, dropped := t.cue.dropped, kept := t.cue.kept }
      cap := { s.cap with producer := t.cap.producer, consumer := t.cap.consumer }
      rnd := { s.rnd with
        part := t.rnd.part, up := t.rnd.up, lastOutcome := t.rnd.lastOutcome, root := t.rnd.root, rootRec := t.rnd.rootRec
        recDue := t.rnd.recDue }
      mem := { s.mem with
        bytes := t.mem.bytes, lines := t.mem.lines, recent := t.mem.recent, repeats := t.mem.repeats, toRetire := t.mem.toRetire
        flip := t.mem.flip, counters := t.mem.counters } })
    s (cmdEquinoxDomainCancel.run q s) :=
    .ite (.done (.refl s)) (.ite (.aside (.refl s)) (.ite (.done (.refl s)) (.aside (State.rootCancel_within.after (.refl s)))))

theorem cmdTimeStep_run {q} {s : State} : Replies
    (fun s t => { s with time := { s.time with scheds := t.time.scheds } })
    s (cmdTimeStep.run q s) := by
  unfold cmdTimeStep
  dsimp -zeta only
  exact .ite (.done (.refl s)) (.ite (.attend (.refl s)) (stepExecute_within.after (.refl s)))

theorem cmdTimeStep_act {q} {s : State} : Replies
    (fun s t => { s with time := { s.time with scheds := t.time.scheds } })
    s (cmdTimeStep.act q s) := by
  unfold cmdTimeStep
  dsimp -zeta only
  exact stepExecute_within.after (.refl s)

theorem cmdDomainStatus_run {q} {s : State} : Replies (fun s _ => s) s (cmdDomainStatus.run q s) := .done (.refl s)

theorem cmdMeasStart_run {q} {s : State} : Replies
    (fun s t => { s with meas := { s.meas with job := t.meas.job } })
    s (cmdMeasStart.run q s) :=
    .ite (.done (.refl s)) (.ite (.done (.refl s)) (.done (State.updJob_within.after (.refl s))))

theorem cmdMidwinterInfo_run {q} {s : State} : Replies (fun s _ => s) s (cmdMidwinterInfo.run q s) := .done (.refl s)

theorem cmdMeasCalRun_run {q} {s : State} : Replies
    (fun s t => { s with meas := { s.meas with ch := t.meas.ch } })
    s (cmdMeasCalRun.run q s) :=
    .ite (.done (.refl s)) (.aside (State.updChan_within.after (.refl s)))

theorem cmdMemStatus_run {q} {s : State} : Replies (fun s _ => s) s (cmdMemStatus.run q s) := .done (.refl s)

theorem cmdBankValidate_run {q} {s : State} : Replies (fun s _ => s) s (cmdBankValidate.run q s) := by
  unfold cmdBankValidate
  dsimp -zeta only
  split
  · exact .done (.refl s)
  · exact .done (.refl s)
  · exact .aside (.refl s)

theorem cmdTimingPolicyGet_run {q} {s : State} : Replies (fun s _ => s) s (cmdTimingPolicyGet.run q s) := .done (.refl s)

theorem cmdMidwinterRelease_run {q} {s : State} : Replies
    (fun s t => { s.raised t with mid := { s.mid with loc := t.mid.loc, erase := t.mid.erase } })
    s (cmdMidwinterRelease.run q s) :=
    .ite (.done (.refl s)) (.done (State.noteFrom_within.after (.put (.refl s))))

theorem cmdPortStatus_run {q} {s : State} : Replies (fun s _ => s) s (cmdPortStatus.run q s) := .done (.refl s)

theorem cmdTimingPolicySet_run {q} {s : State} : Replies
    (fun s t => { s with
      banks := { s.banks with
        shadow := t.banks.shadow, edits := t.banks.edits, validated := t.banks.validated, preloaded := t.banks.preloaded } })
    s (cmdTimingPolicySet.run q s) := by
  unfold cmdTimingPolicySet
  dsimp -zeta only
  exact stage_within.after (.refl s)

theorem cmdGnssSatList_run {q} {s : State} : Replies (fun s _ => s) s (cmdGnssSatList.run q s) := .done (.refl s)

theorem cmdBankSeed_run {q} {s : State} : Replies
    (fun s t => { s with
      banks := { s.banks with
        shadow := t.banks.shadow, edits := t.banks.edits, changeId := t.banks.changeId, state := t.banks.state
        validated := t.banks.validated, preloaded := t.banks.preloaded }
      rnd := { s.rnd with part := t.rnd.part } })
    s (cmdBankSeed.run q s) := by
  unfold cmdBankSeed
  dsimp -zeta only
  split
  · exact .done (.refl s)
  · exact .ite (.done (.refl s)) (.ite (.done (State.seed_within.after (.refl s))) (.done (State.seed_within.after (.refl s))))

theorem cmdSysWindowWrite_run {q} {s : State} : Replies
    (fun s t => { s.noted t with
      mem := { s.mem with
        bytes := t.mem.bytes, lines := t.mem.lines, recent := t.mem.recent, repeats := t.mem.repeats, toRetire := t.mem.toRetire
        flip := t.mem.flip, counters := t.mem.counters } })
    s (cmdSysWindowWrite.run q s) :=
    .ite (.done (.refl s)) (.ite (.done (State.windowZero_within.after (.refl s))) (.done (State.windowWrite_within.after (.refl s))))

theorem cmdHoldoverStatus_run {q} {s : State} : Replies (fun s _ => s) s (cmdHoldoverStatus.run q s) := .done (.refl s)

theorem cmdDomainConfigSet_run {q} {s : State} : Replies
    (fun s t => { s with
      banks := { s.banks with
        shadow := t.banks.shadow, edits := t.banks.edits, validated := t.banks.validated, preloaded := t.banks.preloaded } })
    s (cmdDomainConfigSet.run q s) := by
  unfold cmdDomainConfigSet
  dsimp -zeta only
  exact .ite (.done (.refl s)) (stage_within.after (.refl s))

theorem cmdTrunkStatus_run {q} {s : State} : Replies (fun s _ => s) s (cmdTrunkStatus.run q s) := .done (.refl s)

theorem cmdDomainMembers_run {q} {s : State} : Replies (fun s _ => s) s (cmdDomainMembers.run q s) := .done (.refl s)

theorem cmdKeyNtsInit_run {q} {s : State} : Replies (fun s _ => s) s (cmdKeyNtsInit.run q s) := by
  unfold cmdKeyNtsInit
  dsimp -zeta only
  split
  · exact .done (.refl s)
  · exact .attend (.refl s)

theorem cmdKeyNtsInit_act {q} {s : State} : Replies
    (fun s t => { s with keys := { s.keys with writes := t.keys.writes }, bn := { s.bn with generates := t.bn.generates }, free := t.free })
    s (cmdKeyNtsInit.act q s) := by
  unfold cmdKeyNtsInit
  dsimp -zeta only
  split
  · exact .done (.refl s)
  · exact requestWrite_within.after (State.entropy_within.after (State.entropy_within.after (State.entropy_within.after (.refl s))))

theorem cmdHostRingSet_run {q} {s : State} : Replies
    (fun s t => { s with host := { s.host with rings := t.host.rings } })
    s (cmdHostRingSet.run q s) :=
    .ite (.done (.refl s)) (.ite (.done (.ite (.refl s) (State.updRing_within.after (.refl s)))) (.ite (.aside (State.updRing_within.after
    (.refl s))) (.done (State.updRing_within.after (.refl s)))))

theorem cmdKeyPolicySet_run {q} {s : State} : Replies
    (fun s t => { s with
      banks := { s.banks with
        shadow := t.banks.shadow, edits := t.banks.edits, validated := t.banks.validated, preloaded := t.banks.preloaded } })
    s (cmdKeyPolicySet.run q s) := by
  unfold cmdKeyPolicySet
  dsimp -zeta only
  refine .ite ?_ (stage_within.after (.refl s))
  split
  · exact .done (.refl s)
  · exact .attend (.refl s)

theorem cmdKeyPolicySet_act {q} {s : State} : Replies
    (fun s t => { s with
      banks := { s.banks with
        shadow := t.banks.shadow, edits := t.banks.edits, validated := t.banks.validated, preloaded := t.banks.preloaded } })
    s (cmdKeyPolicySet.act q s) := by
  unfold cmdKeyPolicySet
  dsimp -zeta only
  exact stage_within.after (.refl s)

theorem cmdGnssConfigGet_run {q} {s : State} : Replies (fun s _ => s) s (cmdGnssConfigGet.run q s) := .done (.refl s)

theorem cmdPortConfigGet_run {q} {s : State} : Replies (fun s _ => s) s (cmdPortConfigGet.run q s) := .done (.refl s)

theorem cmdTsLedgerFlush_run {q} {s : State} : Replies (fun s _ => s) s (cmdTsLedgerFlush.run q s) := .aside (.refl s)

theorem cmdTimeAdjPhase_run {q} {s : State} : Replies (fun s t => { s with time := t.time }) s (cmdTimeAdjPhase.run q s) :=
    .ite (.done (.refl s)) (.done (.put (.refl s)))

theorem cmdFaultLedgerRead_run {q} {s : State} : Replies (fun s _ => s) s (cmdFaultLedgerRead.run q s) := .done (.refl s)

theorem cmdBnOp_run {q} {s : State} : Replies (fun s t => { s with bn := { s.bn with queue := t.bn.queue } }) s (cmdBnOp.run q s) :=
    .ite (.done (.refl s)) (.ite (.done (.refl s)) (.ite (.done (.refl s)) (.ite (.done (.refl s)) (.ite (.done (.refl s)) (.ite (.done
    (.refl s)) (.aside (.put (.refl s))))))))

theorem cmdNtsCookieIssue_run {q} {s : State} : Replies
    (fun s t => { s with bn := { s.bn with generates := t.bn.generates }, free := t.free })
    s (cmdNtsCookieIssue.run q s) := by
  unfold cmdNtsCookieIssue
  dsimp -zeta only
  refine .ite (.done (.refl s)) (.ite (.done (.refl s)) ?_)
  generalize hx : List.foldl _ _ _ = x
  obtain ⟨l, s1⟩ := x
  have h : Within (fun s t => { s with bn := { s.bn with generates := t.bn.generates }, free := t.free }) s (l, s1).2 := by
    rw [← hx]
    refine .foldl_snd (fun p k h => ?_) _ (.refl s)
    exact (State.freshCookies_within (n := q.f 8 8) (c2s := q.f (32 + 512 * k) 256) (s2c := q.f (288 + 512 * k) 256) (s := p.2)).after h
  exact .done h

theorem cmdEquinoxLocal_run {q} {s : State} : Replies
    (fun s t => { s with banks := { s.banks with validated := t.banks.validated } })
    s (cmdEquinoxLocal.run q s) := by
  unfold cmdEquinoxLocal
  dsimp -zeta only
  split
  · exact .done (.refl s)
  · exact .ite (.done (.refl s)) (.ite (.done (.refl s)) (.ite (.done (.refl s)) (.aside (.put (.refl s)))))

theorem cmdPlatSupplySet_run {q} {s : State} : Replies (fun s t => { s.noted t with plat := t.plat }) s (cmdPlatSupplySet.run q s) :=
    .done (State.warnIfFallen_within.after (State.readRails_within.after (.ite (State.suspend_within.after (.put (.refl s))) (.put (.refl
    s)))))

theorem cmdSelModeSet_run {q} {s : State} : Replies
    (fun s t => { s with sel := { s.sel with mode := t.sel.mode, manual := t.sel.manual, wtr := t.sel.wtr } })
    s (cmdSelModeSet.run q s) :=
    .ite (.done (.refl s)) (.done (.put (.refl s)))

theorem cmdCueStatus_run {q} {s : State} : Replies (fun s t => { s with free := t.free }) s (cmdCueStatus.run q s) :=
    .done (.ite_snd (.refl s) (State.draw_within.after (.refl s)))

theorem cmdFlowRuleSet_run {q} {s : State} : Replies
    (fun s t => { s with
      banks := { s.banks with
        shadow := t.banks.shadow, edits := t.banks.edits, validated := t.banks.validated, preloaded := t.banks.preloaded } })
    s (cmdFlowRuleSet.run q s) := by
  unfold cmdFlowRuleSet
  dsimp -zeta only
  exact stage_within.after (.refl s)

theorem cmdPlatMarchLog_run {q} {s : State} : Replies (fun s _ => s) s (cmdPlatMarchLog.run q s) := .done (.refl s)

theorem cmdOutputSet_run {q} {s : State} : Replies
    (fun s t => { s with
      banks := { s.banks with
        shadow := t.banks.shadow, edits := t.banks.edits, validated := t.banks.validated, preloaded := t.banks.preloaded } })
    s (cmdOutputSet.run q s) := by
  unfold cmdOutputSet
  dsimp -zeta only
  exact stage_within.after (.refl s)

theorem cmdTsConfigSet_run {q} {s : State} : Replies
    (fun s t => { s with
      banks := { s.banks with
        shadow := t.banks.shadow, edits := t.banks.edits, validated := t.banks.validated, preloaded := t.banks.preloaded } })
    s (cmdTsConfigSet.run q s) := by
  unfold cmdTsConfigSet
  dsimp -zeta only
  exact stage_within.after (.refl s)

theorem cmdFaultStatus_run {q} {s : State} : Replies (fun s _ => s) s (cmdFaultStatus.run q s) := .done (.refl s)

theorem cmdTsConfigGet_run {q} {s : State} : Replies (fun s _ => s) s (cmdTsConfigGet.run q s) := .done (.refl s)

theorem cmdBankTag_run {q} {s : State} : Replies
    (fun s t => { s with
      banks := { s.banks with changeId := t.banks.changeId, state := t.banks.state, validated := t.banks.validated }
      rnd := { s.rnd with part := t.rnd.part } })
    s (cmdBankTag.run q s) := by
  unfold cmdBankTag
  dsimp -zeta only
  split
  · exact .done (.refl s)
  · exact .ite (.done (.refl s)) (.ite (.ite (.done (.refl s)) (.ite (.done (.put (.refl s))) (.done (.refl s)))) (.ite (.done (.refl
      s)) (.aside (.put (.refl s)))))

theorem cmdSysTraceRead_run {q} {s : State} : Replies
    (fun s t => { s with fw := { s.fw with traceEnd := t.fw.traceEnd }, free := t.free })
    s (cmdSysTraceRead.run q s) := by
  unfold cmdSysTraceRead
  dsimp -zeta only
  extract_lets start s1
  refine .via (t := s1) (State.traceGrown_within.after (.refl s)) fun h1 => ?_
  clear_value s1
  exact .ite (.done h1) (.done h1)

theorem cmdStampLatencySet_run {q} {s : State} : Replies
    (fun s t => { s with
      banks := { s.banks with
        shadow := t.banks.shadow, edits := t.banks.edits, validated := t.banks.validated, preloaded := t.banks.preloaded } })
    s (cmdStampLatencySet.run q s) := by
  unfold cmdStampLatencySet
  dsimp -zeta only
  exact stage_within.after (.refl s)

theorem cmdMemRetiredList_run {q} {s : State} : Replies (fun s _ => s) s (cmdMemRetiredList.run q s) := .done (.refl s)

theorem cmdMemCounters_run {q} {s : State} : Replies (fun s _ => s) s (cmdMemCounters.run q s) := .done (.refl s)

theorem cmdCryptoStatus_run {q} {s : State} : Replies (fun s _ => s) s (cmdCryptoStatus.run q s) := .done (.refl s)

theorem cmdSelStatus_run {q} {s : State} : Replies (fun s _ => s) s (cmdSelStatus.run q s) := .done (.refl s)

theorem cmdMeasResultGet_run {q} {s : State} : Replies (fun s _ => s) s (cmdMeasResultGet.run q s) := by
  unfold cmdMeasResultGet
  dsimp -zeta only
  extract_lets i j
  split
  · exact .done (.refl s)
  · exact .done (.refl s)

theorem cmdVlanSet_run {q} {s : State} : Replies
    (fun s t => { s with
      banks := { s.banks with
        shadow := t.banks.shadow, edits := t.banks.edits, validated := t.banks.validated, preloaded := t.banks.preloaded } })
    s (cmdVlanSet.run q s) := by
  unfold cmdVlanSet
  dsimp -zeta only
  exact stage_within.after (.refl s)

theorem cmdMeasStop_run {q} {s : State} : Replies
    (fun s t => { s.reported t with meas := { s.meas with job := t.meas.job } })
    s (cmdMeasStop.run q s) :=
    .ite (.done (.refl s)) (.aside (State.updJob_within.after (State.putResult_within.after (.refl s))))

theorem cmdMemSramFlags_run {q} {s : State} : Replies (fun s _ => s) s (cmdMemSramFlags.run q s) := .done (.refl s)

theorem cmdTsPrefixSet_run {q} {s : State} : Replies
    (fun s t => { s with
      banks := { s.banks with
        shadow := t.banks.shadow, edits := t.banks.edits, validated := t.banks.validated, preloaded := t.banks.preloaded } })
    s (cmdTsPrefixSet.run q s) := by
  unfold cmdTsPrefixSet
  dsimp -zeta only
  exact stage_within.after (.refl s)

theorem cmdSwitchCounters_run {q} {s : State} : Replies (fun s _ => s) s (cmdSwitchCounters.run q s) := .done (.refl s)

theorem cmdPortStateSet_run {q} {s : State} : Replies
    (fun s t => { s with sw := { s.sw with edits := t.sw.edits } })
    s (cmdPortStateSet.run q s) :=
    .aside (.put (.refl s))

theorem cmdMemScrub_run {q} {s : State} : Replies
    (fun s t => { s with mem := { s.mem with scrub := t.mem.scrub } })
    s (cmdMemScrub.run q s) :=
    .aside (.put (.refl s))

theorem cmdGnssConfigSet_run {q} {s : State} : Replies
    (fun s t => { s with
      banks := { s.banks with
        shadow := t.banks.shadow, edits := t.banks.edits, validated := t.banks.validated, preloaded := t.banks.preloaded } })
    s (cmdGnssConfigSet.run q s) := by
  unfold cmdGnssConfigSet
  dsimp -zeta only
  exact stage_within.after (.refl s)

theorem cmdTsAddrSet_run {q} {s : State} : Replies
    (fun s t => { s with
      banks := { s.banks with
        shadow := t.banks.shadow, edits := t.banks.edits, validated := t.banks.validated, preloaded := t.banks.preloaded } })
    s (cmdTsAddrSet.run q s) := by
  unfold cmdTsAddrSet
  dsimp -zeta only
  exact stage_within.after (.refl s)

theorem cmdGnssStatus_run {q} {s : State} : Replies (fun s _ => s) s (cmdGnssStatus.run q s) := .done (.refl s)

theorem cmdRefConfigGet_run {q} {s : State} : Replies (fun s _ => s) s (cmdRefConfigGet.run q s) := .done (.refl s)

theorem cmdSysWindowRead_run {q} {s : State} : Replies
    (fun s t => { s.noted t with
      mem := { s.mem with
        lines := t.mem.lines, recent := t.mem.recent, repeats := t.mem.repeats, toRetire := t.mem.toRetire, flip := t.mem.flip
        counters := t.mem.counters } })
    s (cmdSysWindowRead.run q s) :=
    .via (State.windowRead_within.after (.refl s)) fun h1 => .ite (.done h1) (.done h1)

/-- What answering a command, or setting it aside, may change whatever the command does. -/
def State.replied (s t : State) : State :=
  { s with
    tci := { s.tci with mbx := t.tci.mbx, aside := t.tci.aside }
    intr := { s.intr with
      status := t.intr.status, lastVec := t.intr.lastVec, delayed := t.intr.delayed, signalled := t.intr.signalled, pba := t.intr.pba }
    evt := t.evt
    win := { s.win with state := t.win.state, mbx := t.win.mbx, deadline := t.win.deadline, held := t.win.held, pressIn := t.win.pressIn }
    dom := { s.dom with txSeq := t.dom.txSeq, queue := t.dom.queue }
    trace := t.trace }

theorem State.respond_replied {q opcode status payload} {s : State} : Within State.replied s (s.respond q opcode status payload) :=
  .wider State.respond_within

theorem State.reshow_replied {k quiet} {s : State} : Within State.replied s (s.reshow k quiet) := .wider State.reshow_within

theorem State.openWindow_replied {c q k} {s : State} : Within State.replied s (s.openWindow c q k) := .wider State.openWindow_within

/-- A reply's command ends, stands aside or opens the window: only an answer follows what the command has done. -/
theorem conclude_replied {c : Command} {q : Req} {r : Reply} : Within State.replied r.state (conclude c q r) := by
  cases r with
  | done status payload t => exact State.respond_replied
  | aside w t => exact .put (.refl t)
  | attend t =>
    dsimp -zeta only [conclude]
    split
    · exact State.respond_replied
    · exact .ite State.openWindow_replied State.respond_replied
  | kept t => exact .refl t

/-- A relation on states that holds of no change and of every answer that follows what it holds of. -/
structure Serving (R : State → State → Prop) : Prop where
  refl : ∀ {s}, R s s
  reply : ∀ {s t u}, R s t → Within State.replied t u → R s u

theorem Within.serving {f : State → State → State} (same : ∀ s, f s s = s := by intros; rfl)
    (law : ∀ s t u, f s (State.replied (f s t) u) = State.replied (f s t) u := by intros; rfl) : Serving (Within f) where
  refl := .refl _ same
  reply h k := k.after h law

namespace Serving
variable {R : State → State → Prop} {s : State} {c : Command} {q : Req} {opcode : Nat} {run : State → State}

theorem execute (law : Serving R) (h : R s (c.run q s).state) : R s (c.execute q s) := by
  unfold Command.execute
  split
  · exact law.reply law.refl State.respond_replied
  · exact law.reply h conclude_replied

theorem taken (law : Serving R) (h : R s (run s)) : R s (s.taken q run) := by
  unfold State.taken
  split
  · split
    · exact law.reply law.refl State.reshow_replied
    · exact h
  · exact h

theorem serveWith (law : Serving R) (rung : ∀ {s x}, R s { s with tci := { s.tci with rung := x } }) (h : R s (run s)) :
    R s (s.serveWith opcode q run) := by
  unfold State.serveWith
  split
  · exact law.taken h
  · split
    · refine law.taken ?_
      split
      · exact h
      · exact law.reply law.refl State.respond_replied
    · exact rung

theorem serve (law : Serving R) (rung : ∀ {s x}, R s { s with tci := { s.tci with rung := x } }) (h : R s (c.run q s).state) :
    R s (c.serve q s) :=
  law.serveWith rung (law.execute h)

theorem doorbell (bell : ∀ {s x}, R s { s with tci := { s.tci with doorbellErr := x } }) {k : Nat}
    (ring : R s (run (s.updMailbox k (fun m => { m with state := .busy })))) : R s (s.doorbell k run) := by
  unfold State.doorbell
  split
  · exact bell
  · exact bell
  · exact ring

/-- What becomes of a request: nothing more than an answer, or its command's run between two answers. -/
theorem request (law : Serving R) (before : ∀ {s t u}, Within State.replied s t → R t u → R s u)
    (rung : ∀ {s x}, R s { s with tci := { s.tci with rung := x } }) (bell : ∀ {s x}, R s { s with tci := { s.tci with doorbellErr := x } })
    (h : ∀ {s}, R s (c.run q s).state) {t : State} (e : runCommand c q s = .next t) : R s t := by
  have put : ∀ {s : State} {k m}, Within State.replied s (s.updMailbox k m) := .wider State.updMailbox_within
  unfold runCommand at e
  split at e
  · split at e
    · obtain rfl := Host.Outcome.next.inj e
      refine before ?_ (doorbell bell (before put (law.serve rung h)))
      split
      · exact put
      · exact put
      · exact .refl _
    · simp at e
  · split at e
    · obtain rfl := Host.Outcome.next.inj e
      exact law.serve rung h
    · simp at e

end Serving

/-- What a command may change, whichever it is. -/
def State.commanded (s t : State) : State :=
  { s.noted t with
    time := t.time, leap := { t.leap with flash := s.leap.flash }, stamps := t.stamps
    pace := { s.pace with lowest := t.pace.lowest, pct := t.pace.pct }, tci := { t.tci with doorbellErr := s.tci.doorbellErr }
    win := { t.win with
      raw := s.win.raw, rawAt := s.win.rawAt, present := s.win.present, pressAt := s.win.pressAt, counted := s.win.counted
      stray := s.win.stray }
    sealLoop := { t.sealLoop with closed := s.sealLoop.closed, closedAt := s.sealLoop.closedAt, missAt := s.sealLoop.missAt }
    inb := { t.inb with refused := s.inb.refused }, fw := t.fw, meas := t.meas, refs := t.refs
    sel := { t.sel with
      actMode := s.sel.actMode, actManual := s.sel.actManual, actWtr := s.sel.actWtr, everLocked := s.sel.everLocked
      lastUpdate := s.sel.lastUpdate }
    hold := t.hold, outs := t.outs, gnss := t.gnss, dom := t.dom
    cue := { t.cue with closedGates := s.cue.closedGates, results := s.cue.results }
    cap := { t.cap with openPorts := s.cap.openPorts, lostPorts := s.cap.lostPorts, portRate := s.cap.portRate }
    ts := { t.ts with
      ledger := s.ts.ledger, hashSeed := s.ts.hashSeed, stranger := s.ts.stranger, strangerTick := s.ts.strangerTick
      capDropAt := s.ts.capDropAt, offered := s.ts.offered, admitUse := s.ts.admitUse, denyKiss := s.ts.denyKiss
      rotateDue := s.ts.rotateDue, rotateLate := s.ts.rotateLate, lastRotation := s.ts.lastRotation, foreignAt := s.ts.foreignAt
      linkDelay := s.ts.linkDelay, linkPair := s.ts.linkPair, ptpNext := s.ts.ptpNext }
    ports := t.ports, host := { t.host with queue := s.host.queue }
    sw := { s.sw with
      macs := t.sw.macs, edits := t.sw.edits, mirrors := t.sw.mirrors, peak := t.sw.peak, qCtr := t.sw.qCtr, nextId := t.sw.nextId }
    banks := { t.banks with
      slots := s.banks.slots, lastDrain := s.banks.lastDrain, drainDrop := s.banks.drainDrop, missed := s.banks.missed
      loaded := s.banks.loaded, checkOk := s.banks.checkOk }
    rnd := t.rnd, keys := t.keys, bn := t.bn
    mem := { t.mem with
      erasure := s.mem.erasure, retired := s.mem.retired, retiredDirty := s.mem.retiredDirty, retiredFlash := s.mem.retiredFlash
      spare := s.mem.spare, sramRepeat := s.mem.sramRepeat, rewrites := s.mem.rewrites, lastPatrol := s.mem.lastPatrol
      patrolLine := s.mem.patrolLine, patrolAt := s.mem.patrolAt, flipped := s.mem.flipped, flash := s.mem.flash }
    flt := { t.flt with checkFailed := s.flt.checkFailed }, mid := { t.mid with overwritten := s.mid.overwritten }, plat := t.plat
    free := t.free }

theorem State.commanded_serving : Serving (Within State.commanded) := Within.serving

/-- What a command does, on arrival and at its press, is within `State.commanded`. -/
structure Command.Bounded (c : Command) : Prop where
  run : ∀ {q s}, Replies State.commanded s (c.run q s)
  act : ∀ {q s}, Replies State.commanded s (c.act q s)

theorem cmdsSystem_bounded : ∀ c ∈ cmdsSystem, c.Bounded :=
  List.forall_iff_forall_mem.1 ⟨⟨cmdSysInfo_run.wider, .done (.refl _)⟩, ⟨cmdSysPaceSet_run.wider, .done (.refl _)⟩, ⟨cmdSysPaceGet_run.wider, .done (.refl _)⟩,
    ⟨cmdSysAttendCancel_run.wider, .done (.refl _)⟩, ⟨cmdSysInbandSet_run.wider, cmdSysInbandSet_act.wider⟩,
    ⟨cmdSysInbandSend_run.wider, .done (.refl _)⟩, ⟨cmdSysWindowRead_run.wider, .done (.refl _)⟩,
    ⟨cmdSysWindowWrite_run.wider, .done (.refl _)⟩, ⟨cmdSysFwWrite_run.wider, .done (.refl _)⟩,
    ⟨cmdSysSealProvision_run.wider, cmdSysSealProvision_act.wider⟩, ⟨cmdSysFactoryDefault_run.wider, cmdSysFactoryDefault_act.wider⟩,
    ⟨cmdSysFwActivate_run.wider, cmdSysFwActivate_act.wider⟩, ⟨cmdSysTraceRead_run.wider, .done (.refl _)⟩⟩

theorem cmdsBank_bounded : ∀ c ∈ cmdsBank, c.Bounded :=
  List.forall_iff_forall_mem.1 ⟨⟨cmdBankStatus_run.wider, .done (.refl _)⟩, ⟨cmdBankSeed_run.wider, .done (.refl _)⟩, ⟨cmdBankValidate_run.wider, .done (.refl _)⟩,
    ⟨cmdBankTag_run.wider, .done (.refl _)⟩, ⟨cmdEquinoxLocal_run.wider, .done (.refl _)⟩,
    ⟨cmdEquinoxCancel_run.wider, .done (.refl _)⟩, ⟨cmdEquinoxDomainStart_run.wider, .done (.refl _)⟩,
    ⟨cmdEquinoxDomainCancel_run.wider, .done (.refl _)⟩, ⟨cmdEquinoxResultGet_run.wider, .done (.refl _)⟩⟩

theorem cmdsPort_bounded : ∀ c ∈ cmdsPort, c.Bounded :=
  List.forall_iff_forall_mem.1 ⟨⟨cmdPortConfigSet_run.wider, .done (.refl _)⟩, ⟨cmdPortConfigGet_run.wider, .done (.refl _)⟩,
    ⟨cmdPortStatus_run.wider, .done (.refl _)⟩, ⟨cmdPortStats_run.wider, .done (.refl _)⟩, ⟨cmdHostRingSet_run.wider, .done (.refl _)⟩,
    ⟨cmdHostCounters_run.wider, .done (.refl _)⟩⟩

theorem cmdsSwitch_bounded : ∀ c ∈ cmdsSwitch, c.Bounded :=
  List.forall_iff_forall_mem.1 ⟨⟨cmdVlanSet_run.wider, .done (.refl _)⟩, ⟨cmdPortFwdSet_run.wider, .done (.refl _)⟩, ⟨cmdPortStateSet_run.wider, .done (.refl _)⟩,
    ⟨cmdMacStaticSet_run.wider, .done (.refl _)⟩, ⟨cmdMacFlush_run.wider, .done (.refl _)⟩, ⟨cmdMacLookup_run.wider, .done (.refl _)⟩,
    ⟨cmdFlowRuleSet_run.wider, .done (.refl _)⟩, ⟨cmdMcastGroupSet_run.wider, .done (.refl _)⟩,
    ⟨cmdQueueSet_run.wider, .done (.refl _)⟩, ⟨cmdRsvSet_run.wider, .done (.refl _)⟩, ⟨cmdMirrorSet_run.wider, .done (.refl _)⟩,
    ⟨cmdSwitchConfigGet_run.wider, .done (.refl _)⟩, ⟨cmdSwitchStatus_run.wider, .done (.refl _)⟩,
    ⟨cmdSwitchCounters_run.wider, .done (.refl _)⟩⟩

theorem cmdsTime_bounded : ∀ c ∈ cmdsTime, c.Bounded :=
  List.forall_iff_forall_mem.1 ⟨⟨cmdTimeGet_run.wider, .done (.refl _)⟩, ⟨cmdTimeSetFreq_run.wider, .done (.refl _)⟩, ⟨cmdTimeAdjPhase_run.wider, .done (.refl _)⟩,
    ⟨cmdTimeStep_run.wider, cmdTimeStep_act.wider⟩, ⟨cmdLeapTableSet_run.wider, .done (.refl _)⟩,
    ⟨cmdLeapTableGet_run.wider, .done (.refl _)⟩, ⟨cmdStampLatencySet_run.wider, .done (.refl _)⟩,
    ⟨cmdStampLatencyGet_run.wider, .done (.refl _)⟩, ⟨cmdStampRingSet_run.wider, .done (.refl _)⟩,
    ⟨cmdStampCounters_run.wider, .done (.refl _)⟩⟩

theorem cmdsMeas_bounded : ∀ c ∈ cmdsMeas, c.Bounded :=
  List.forall_iff_forall_mem.1 ⟨⟨cmdMeasChannelSet_run.wider, .done (.refl _)⟩, ⟨cmdMeasChannelGet_run.wider, .done (.refl _)⟩,
    ⟨cmdMeasStart_run.wider, .done (.refl _)⟩, ⟨cmdMeasStop_run.wider, .done (.refl _)⟩, ⟨cmdMeasResultGet_run.wider, .done (.refl _)⟩,
    ⟨cmdMeasCalGet_run.wider, .done (.refl _)⟩, ⟨cmdMeasCalRun_run.wider, .done (.refl _)⟩, ⟨cmdOcxoStatus_run.wider, .done (.refl _)⟩⟩

theorem cmdsRef_bounded : ∀ c ∈ cmdsRef, c.Bounded :=
  List.forall_iff_forall_mem.1 ⟨⟨cmdRefConfigSet_run.wider, .done (.refl _)⟩, ⟨cmdRefConfigGet_run.wider, .done (.refl _)⟩,
    ⟨cmdRefStatus_run.wider, .done (.refl _)⟩, ⟨cmdSelModeSet_run.wider, .done (.refl _)⟩, ⟨cmdSelStatus_run.wider, .done (.refl _)⟩,
    ⟨cmdLoopSet_run.wider, .done (.refl _)⟩, ⟨cmdTimingPolicySet_run.wider, .done (.refl _)⟩,
    ⟨cmdTimingPolicyGet_run.wider, .done (.refl _)⟩, ⟨cmdOutputSet_run.wider, .done (.refl _)⟩,
    ⟨cmdOutputGet_run.wider, .done (.refl _)⟩, ⟨cmdHoldoverStatus_run.wider, .done (.refl _)⟩⟩

theorem cmdsGnss_bounded : ∀ c ∈ cmdsGnss, c.Bounded :=
  List.forall_iff_forall_mem.1 ⟨⟨cmdGnssConfigSet_run.wider, .done (.refl _)⟩, ⟨cmdGnssConfigGet_run.wider, .done (.refl _)⟩,
    ⟨cmdGnssStatus_run.wider, .done (.refl _)⟩, ⟨cmdGnssSatList_run.wider, .done (.refl _)⟩,
    ⟨cmdGnssSurveyRestart_run.wider, .done (.refl _)⟩, ⟨cmdGnssReset_run.wider, .done (.refl _)⟩⟩

theorem cmdsDomain_bounded : ∀ c ∈ cmdsDomain, c.Bounded :=
  List.forall_iff_forall_mem.1 ⟨⟨cmdDomainConfigSet_run.wider, .done (.refl _)⟩, ⟨cmdDomainConfigGet_run.wider, .done (.refl _)⟩,
    ⟨cmdPortTimingSet_run.wider, .done (.refl _)⟩, ⟨cmdTrunkStatus_run.wider, .done (.refl _)⟩,
    ⟨cmdFibrePairSet_run.wider, .done (.refl _)⟩, ⟨cmdDomainStatus_run.wider, .done (.refl _)⟩,
    ⟨cmdLinkCalRun_run.wider, .done (.refl _)⟩, ⟨cmdDomainMembers_run.wider, .done (.refl _)⟩⟩

theorem cmdsCue_bounded : ∀ c ∈ cmdsCue, c.Bounded :=
  List.forall_iff_forall_mem.1 ⟨⟨cmdCueAdd_run.wider, .done (.refl _)⟩, ⟨cmdCueCancel_run.wider, .done (.refl _)⟩, ⟨cmdCueList_run.wider, .done (.refl _)⟩,
    ⟨cmdCueStatus_run.wider, .done (.refl _)⟩, ⟨cmdCueDomainAnnounce_run.wider, .done (.refl _)⟩,
    ⟨cmdCueDomainCancel_run.wider, .done (.refl _)⟩, ⟨cmdCaptureRingSet_run.wider, .done (.refl _)⟩,
    ⟨cmdCueFrameWrite_run.wider, .done (.refl _)⟩, ⟨cmdCueDomainResultGet_run.wider, .done (.refl _)⟩⟩

theorem cmdsService_bounded : ∀ c ∈ cmdsService, c.Bounded :=
  List.forall_iff_forall_mem.1 ⟨⟨cmdTsConfigSet_run.wider, .done (.refl _)⟩, ⟨cmdTsConfigGet_run.wider, .done (.refl _)⟩, ⟨cmdTsAddrSet_run.wider, .done (.refl _)⟩,
    ⟨cmdTsPrefixSet_run.wider, .done (.refl _)⟩, ⟨cmdTsPolicySet_run.wider, .done (.refl _)⟩,
    ⟨cmdPtpPortSet_run.wider, .done (.refl _)⟩, ⟨cmdTsStatus_run.wider, .done (.refl _)⟩, ⟨cmdTsCounters_run.wider, .done (.refl _)⟩,
    ⟨cmdTsLedgerGet_run.wider, .done (.refl _)⟩, ⟨cmdTsLedgerFlush_run.wider, .done (.refl _)⟩,
    ⟨cmdNtsCookieIssue_run.wider, .done (.refl _)⟩⟩

theorem cmdsKey_bounded : ∀ c ∈ cmdsKey, c.Bounded :=
  List.forall_iff_forall_mem.1 ⟨⟨cmdKeyInfo_run.wider, .done (.refl _)⟩, ⟨cmdKeyImport_run.wider, cmdKeyImport_act.wider⟩,
    ⟨cmdKeyGenerate_run.wider, cmdKeyGenerate_act.wider⟩, ⟨cmdKeyDelete_run.wider, cmdKeyDelete_act.wider⟩,
    ⟨cmdKeyNtsInit_run.wider, cmdKeyNtsInit_act.wider⟩, ⟨cmdKeyPolicySet_run.wider, cmdKeyPolicySet_act.wider⟩,
    ⟨cmdKeyPolicyGet_run.wider, .done (.refl _)⟩, ⟨cmdBnOp_run.wider, .done (.refl _)⟩, ⟨cmdBnAbort_run.wider, .done (.refl _)⟩,
    ⟨cmdBnEnable_run.wider, .done (.refl _)⟩, ⟨cmdCryptoStatus_run.wider, .done (.refl _)⟩⟩

theorem cmdsMem_bounded : ∀ c ∈ cmdsMem, c.Bounded :=
  List.forall_iff_forall_mem.1 ⟨⟨cmdMemStatus_run.wider, .done (.refl _)⟩, ⟨cmdMemPolicySet_run.wider, .done (.refl _)⟩, ⟨cmdMemScrub_run.wider, .done (.refl _)⟩,
    ⟨cmdMemCounters_run.wider, .done (.refl _)⟩, ⟨cmdMemRetiredList_run.wider, .done (.refl _)⟩,
    ⟨cmdMemFlashStatus_run.wider, .done (.refl _)⟩, ⟨cmdMemSramFlags_run.wider, .done (.refl _)⟩,
    ⟨cmdMemFlipArm_run.wider, .done (.refl _)⟩, ⟨cmdMemFuseProgram_run.wider, .done (.refl _)⟩⟩

theorem cmdsFault_bounded : ∀ c ∈ cmdsFault, c.Bounded :=
  List.forall_iff_forall_mem.1 ⟨⟨cmdFaultStatus_run.wider, .done (.refl _)⟩, ⟨cmdFaultLedgerRead_run.wider, .done (.refl _)⟩,
    ⟨cmdFaultClear_run.wider, .done (.refl _)⟩, ⟨cmdFaultPolicySet_run.wider, .done (.refl _)⟩,
    ⟨cmdMidwinterInfo_run.wider, .done (.refl _)⟩, ⟨cmdMidwinterRead_run.wider, .done (.refl _)⟩,
    ⟨cmdMidwinterRelease_run.wider, .done (.refl _)⟩, ⟨cmdFaultInject_run.wider, .done (.refl _)⟩⟩

theorem cmdsPlat_bounded : ∀ c ∈ cmdsPlat, c.Bounded :=
  List.forall_iff_forall_mem.1 ⟨⟨cmdPlatStatus_run.wider, .done (.refl _)⟩, ⟨cmdPlatSupplySet_run.wider, .done (.refl _)⟩, ⟨cmdPlatReset_run.wider, .done (.refl _)⟩,
    ⟨cmdPlatMarchLog_run.wider, .done (.refl _)⟩⟩

theorem catalogue_bounded {c : Command} (h : c ∈ catalogue) : c.Bounded := by
  simp only [catalogue, List.mem_append] at h
  obtain (((((((((((((h | h) | h) | h) | h) | h) | h) | h) | h) | h) | h) | h) | h) | h) | h := h
  · exact cmdsSystem_bounded c h
  · exact cmdsBank_bounded c h
  · exact cmdsPort_bounded c h
  · exact cmdsSwitch_bounded c h
  · exact cmdsTime_bounded c h
  · exact cmdsMeas_bounded c h
  · exact cmdsRef_bounded c h
  · exact cmdsGnss_bounded c h
  · exact cmdsDomain_bounded c h
  · exact cmdsCue_bounded c h
  · exact cmdsService_bounded c h
  · exact cmdsKey_bounded c h
  · exact cmdsMem_bounded c h
  · exact cmdsFault_bounded c h
  · exact cmdsPlat_bounded c h

theorem commandOf_bounded {opcode : Nat} {c : Command} (h : commandOf opcode = some c) : c.Bounded :=
  catalogue_bounded (List.mem_of_find?_eq_some h)

end Sys2Proof.Machine
end

section
/-!
SUPPORT. The frames of the operations that serve commands themselves.
-/
namespace Sys2Proof.Machine

set_option Elab.async false -- the lemmas are many and small: one after the other

/-- What resuming a suspended flash operation may change. -/
def State.resumed (s t : State) : State :=
  { s.reported t with
    tci := { s.tci with mbx := t.tci.mbx, aside := t.tci.aside }
    win := { s.win with state := t.win.state, mbx := t.win.mbx, deadline := t.win.deadline, held := t.win.held, pressIn := t.win.pressIn }
    fw := t.fw, gnss := { s.gnss with toStore := t.gnss.toStore, stored := t.gnss.stored }
    dom := { s.dom with txSeq := t.dom.txSeq, queue := t.dom.queue }
    mem := { s.mem with
      flaggedFlash := t.mem.flaggedFlash, policyFlash := t.mem.policyFlash, counters := t.mem.counters, flash := t.mem.flash }
    plat := { s.plat with warnMvFlash := t.plat.warnMvFlash, flashWork := t.plat.flashWork } }

theorem State.resume_within {w} {s : State} : Within State.resumed s (s.resume w) := by
  unfold State.resume
  have law : Serving (Within State.resumed) := Within.serving
  split
  · split
    · exact .after (law.execute (Replies.wider cmdSysFwWrite_run).state) (.put (.refl s))
    · exact .refl s
  · split
    · exact .ite (.put (.refl s)) (.refl s)
    · exact .refl s
  · exact State.flashRefresh_within.after (.refl s)
  · exact .put (.refl s)
  · exact State.savePolicy_within.after (.refl s)
  · exact State.saveRows_within.after (.refl s)
  · exact .refl s
  · exact .refl s

theorem State.clearWarn_within {s : State} : Within
    (fun s t => { s.reported t with
      tci := { s.tci with mbx := t.tci.mbx, aside := t.tci.aside }
      win := { s.win with state := t.win.state, mbx := t.win.mbx, deadline := t.win.deadline, held := t.win.held, pressIn := t.win.pressIn }
      fw := t.fw, gnss := { s.gnss with toStore := t.gnss.toStore, stored := t.gnss.stored }
      dom := { s.dom with txSeq := t.dom.txSeq, queue := t.dom.queue }
      mem := { s.mem with
        flaggedFlash := t.mem.flaggedFlash, policyFlash := t.mem.policyFlash, counters := t.mem.counters, flash := t.mem.flash }
      plat := { s.plat with
        warn := t.plat.warn, supplyEvents := t.plat.supplyEvents, warnTicks := t.plat.warnTicks, warnMvFlash := t.plat.warnMvFlash
        flashWork := t.plat.flashWork } })
    s s.clearWarn := by
  unfold State.clearWarn
  exact .foldl (fun _ _ h1 => State.resume_within.after h1) _ (State.noteFrom_within.after (State.post_within.after
    (State.counterHalf_within.after (State.counterHalf_within.after (.put (.refl s))))))

theorem State.actOn_within {w} {s : State} : Within State.commanded s (s.actOn w).2 := by
  unfold State.actOn
  split
  · exact .wider State.respond_within
  · next c hc =>
    have h := (commandOf_bounded hc).act (q := w.req) (s := s)
    split
    · next status payload t hr =>
      rw [hr] at h
      exact .after State.respond_within h.state
    · exact State.commanded_serving.reply h.state conclude_replied

theorem State.takeRequest_within {f} {s : State} : Within (fun s t => { s.commanded t with inb := t.inb }) s (s.takeRequest f) := by
  unfold State.takeRequest
  extract_lets +onlyGivenNames m
  split
  next opcode q0 hq =>
  extract_lets +onlyGivenNames q refuse
  split
  · exact State.refuseInband_within.after (.refl s)
  · next c hc =>
    exact .ite (State.refuseInband_within.after (.refl s)) (.ite (State.refuseInband_within.after (.refl s))
      (.ite (State.refuseInband_within.after (.refl s)) (.after (State.commanded_serving.serve (.put (.refl _)) (commandOf_bounded hc).run.state) (.refl s))))

theorem State.executeOpcode_within {opcode q} {s : State} : Within State.commanded s (s.executeOpcode opcode q) := by
  unfold State.executeOpcode
  split
  · next c hc => exact State.commanded_serving.execute (commandOf_bounded hc).run.state
  · exact .wider State.respond_within

theorem State.qualify_within {w} {s : State} : Within State.commanded s (s.qualify w) := by
  unfold State.qualify
  extract_lets +onlyGivenNames _ s1
  refine State.noteFrom_within.after ?_
  refine .via (t := s1) (.put (.refl s)) fun h1 => ?_
  clear_value s1
  split
  · exact State.postWindow_within.after (State.respond_within.after h1)
  · refine .ite (State.postWindow_within.after (.put h1)) ?_
    have h := (State.actOn_within (w := w) (s := s1)).after h1
    split
    · next hx =>
      rw [hx] at h
      exact State.postWindow_within.after h
    · next hx =>
      rw [hx] at h
      exact State.closeLater_within.after h

theorem State.serveOpcode_within {opcode q} {s : State} : Within State.commanded s (s.serveOpcode opcode q) := by
  exact State.commanded_serving.serveWith (.put (.refl _)) State.executeOpcode_within

theorem State.ringArea_within {k} {s : State} : Within (fun s t => { s.commanded t with tci := t.tci }) s (s.ringArea k) := by
  unfold State.ringArea
  split
  next opcode q hq =>
  exact Serving.doorbell (.put (.refl _)) (State.serveOpcode_within.after (State.updMailbox_within.after (.refl s)))

theorem State.writeReg_within {offset value} {s : State} : Within
    (fun s t => { s.commanded t with
      pace := { s.pace with lowest := t.pace.lowest, negSeen := t.pace.negSeen, pct := t.pace.pct }, tci := t.tci
      intr := { t.intr with msixEn := s.intr.msixEn, table := s.intr.table } })
    s (s.writeReg offset value) := by
  unfold State.writeReg
  exact .ite (.foldl (fun _ _ h1 => State.ringArea_within.after h1) _ (.refl s)) (.ite (.put (.refl s)) (.ite
    (State.clearInt_within.after (.refl s)) (.ite (State.setMask_within.after (.refl s)) (.ite (State.setEvtTail_within.after (.refl s))
    (.ite (.ite (.put (.refl s)) (.refl s)) (.ite (.ite (State.noteFrom_within.after (.put (.refl s))) (.refl s)) (.ite (.put (.refl s))
    (.ite (State.updRing_within.after (.refl s)) (.refl s)))))))))

theorem State.spiWrite_within {x1 x2 x3} {s : State} : Within
    (fun s t => { s.commanded t with
      pace := { s.pace with lowest := t.pace.lowest, negSeen := t.pace.negSeen, pct := t.pace.pct }, tci := t.tci
      intr := { t.intr with msixEn := s.intr.msixEn, table := s.intr.table } })
    s (s.spiWrite x1 x2 x3) := by
  induction x1 generalizing x2 x3 s with
  | nil => exact .refl s
  | cons b rest ih =>
    unfold State.spiWrite
    refine .ite ?_ (.ite (ih.after (State.writeArea_within.after (.refl s))) (.refl s))
    extract_lets word
    exact .ite (ih.after (State.writeReg_within.after (.refl s))) (ih.after (.refl s))

theorem State.runRung_within {p} {s : State} : Within State.commanded s (s.runRung p) := by
  unfold State.runRung
  exact .foldl (fun _ _ h1 => .ite (State.serveOpcode_within.after (.put h1)) h1) _ (.refl s)

theorem State.spi_within {mosi} {s : State} : Within
    (fun s t => { s.commanded t with
      snap := t.snap, pace := { s.pace with lowest := t.pace.lowest, negSeen := t.pace.negSeen, pct := t.pace.pct }, tci := t.tci
      intr := { t.intr with msixEn := s.intr.msixEn, table := s.intr.table }
      win := { t.win with
        raw := s.win.raw, rawAt := s.win.rawAt, present := s.win.present, pressAt := s.win.pressAt, counted := s.win.counted } })
    s (s.spi mosi) := by
  unfold State.spi
  split
  · exact State.spiWrite_within.after (.refl s)
  · exact State.emit_within.after (State.spiRead_within.after (.ite_snd (.refl s) (State.spiSample_within.after (.refl s))))
  · exact State.emit_within.after (.refl s)

theorem State.writeWord_within {offset value} {s : State} : Within
    (fun s t => { s.commanded t with
      pace := { s.pace with lowest := t.pace.lowest, negSeen := t.pace.negSeen, pct := t.pace.pct }, tci := t.tci
      intr := { t.intr with msixEn := s.intr.msixEn } })
    s (s.writeWord offset value) := by
  unfold State.writeWord
  exact .ite (State.writeReg_within.after (.refl s)) (.ite (State.writeEntry_within.after (.refl s)) (.refl s))

theorem State.barWrite_within {offset size value} {s : State} : Within
    (fun s t => { s.commanded t with
      pace := { s.pace with lowest := t.pace.lowest, negSeen := t.pace.negSeen, pct := t.pace.pct }, tci := t.tci
      intr := { t.intr with msixEn := s.intr.msixEn } })
    s (s.barWrite offset size value) := by
  unfold State.barWrite
  exact .ite (State.writeArea_within.after (.refl s)) (.ite (State.writeWord_within.after (.refl s)) (.ite (State.writeWord_within.after
    (State.writeWord_within.after (.refl s))) (.refl s)))

end Sys2Proof.Machine
end

section
/-!
SUPPORT. One frame per event: what its outcome may change.
-/
namespace Sys2Proof.Machine

set_option Elab.async false -- the lemmas are many and small: one after the other

/-- What taking a domain frame down the tree, before it is acted on, may change. -/
def State.tookDown (s t : State) : State :=
  { s with
    time := t.time
    intr := { s.intr with
      status := t.intr.status, lastVec := t.intr.lastVec, delayed := t.intr.delayed, signalled := t.intr.signalled, pba := t.intr.pba }
    evt := t.evt, dom := { s.dom with txSeq := t.dom.txSeq, queue := t.dom.queue }, ports := t.ports
    rnd := { s.rnd with seen := t.rnd.seen }, trace := t.trace }

theorem takeDown_within {g : State → State → State} {kind dt : Nat} {f : DomFrame} {act : State → State} {s : State}
    (h : ∀ t, Within g s t → Within g s (act t)) (same : ∀ s, g s s = s := by intros; rfl)
    (law : ∀ s t u, g s (State.tookDown (g s t) u) = State.tookDown (g s t) u := by intros; rfl) :
    Steps g s (takeDown kind dt f act s) := by
  unfold takeDown
  refine .withPort ?_
  split
  next ok s2 hx =>
  have h2 := (State.acceptDomain_within (f := f)).after (f := State.tookDown) (State.advance_within (n := dt) (s := s)).wider
  rw [hx] at h2
  have h3 : Within g s s2 := h2.after (.refl s same) law
  exact .ite h3 (h _ ((State.toChildren_within.after (f := State.tookDown) (.put (.refl s2))).after h3 law))

theorem takeUp_within {kind dt} {f : DomFrame} {s : State} : Steps
    (fun s t => { s.reported t with time := t.time, ports := t.ports, rnd := { s.rnd with up := t.rnd.up } })
    s (takeUp kind dt f s) := by
  unfold takeUp
  refine .withPort ?_
  split
  next ok s2 hx =>
  have h2 := (State.acceptDomain_within (f := f)).after (f := fun s t => { s.reported t with time := t.time, ports := t.ports })
    (State.advance_within (n := dt) (s := s)).wider
  rw [hx] at h2
  exact .ite (State.mergeUp_within.after (h2.after (.refl s))) (h2.after (.refl s))

/-- What receiving a domain frame that crosses the domain, before it is acted on, may change. -/
def State.tookInband (s t : State) : State :=
  { s with
    time := t.time
    intr := { s.intr with
      status := t.intr.status, lastVec := t.intr.lastVec, delayed := t.intr.delayed, signalled := t.intr.signalled, pba := t.intr.pba }
    evt := t.evt, dom := { s.dom with txSeq := t.dom.txSeq, queue := t.dom.queue }, ports := t.ports, trace := t.trace }

theorem takeInband_within {g : State → State → State} {dt answer} {f : DomFrame} {act : State → State} {s : State}
    (h : ∀ t, Within g s t → Within g s (act t)) (same : ∀ s, g s s = s := by intros; rfl)
    (law : ∀ s t u, g s (State.tookInband (g s t) u) = State.tookInband (g s t) u := by intros; rfl) :
    Steps g s (takeInband dt f answer act s) := by
  unfold takeInband
  refine .withPort ?_
  split
  next ok s2 hx =>
  have h2 := (State.acceptDomain_within (f := f)).after (f := State.tookInband) (State.advance_within (n := dt) (s := s)).wider
  rw [hx] at h2
  have h3 : Within g s s2 := h2.after (.refl s same) law
  exact .ite h3 (.ite (State.relayInband_within.wider.after h3 law) (h _ h3))

theorem State.answerGranted_within {g : State → State → State} {k m msg c act} {s t : State} (ht : Within g s t) (h : Within g s (act t))
    (law : ∀ s t x, g s { g s t with ts := { (g s t).ts with counters := x } } = { g s t with ts := { (g s t).ts with counters := x } } := by
      intros; rfl) :
    Within g s (t.answerGranted k m msg c act) := by
  unfold State.answerGranted
  exact .ite (State.tsCount_within.after ht fun s t u => law s t u.ts.counters) h

/-- What admitting a PTP request, before it is answered, may change. -/
def State.admitted (s t : State) : State :=
  { s with
    intr := { s.intr with
      status := t.intr.status, lastVec := t.intr.lastVec, delayed := t.intr.delayed, signalled := t.intr.signalled, pba := t.intr.pba }
    evt := t.evt
    ts := { s.ts with
      ledger := t.ts.ledger, grants := t.ts.grants, stranger := t.ts.stranger, strangerTick := t.ts.strangerTick
      capDropAt := t.ts.capDropAt, offered := t.ts.offered, load := t.ts.load, waiting := t.ts.waiting, credit := t.ts.credit
      servedAt := t.ts.servedAt, admitUse := t.ts.admitUse, counters := t.ts.counters }
    trace := t.trace }

theorem State.ptpAccept_within {g : State → State → State} {m token f} {s t : State} (ht : Within g s t)
    (h : ∀ c k e t, Within g s t → Within g s (f c k e t))
    (law : ∀ s t u, g s (State.admitted (g s t) u) = State.admitted (g s t) u := by intros; rfl) :
    Within g s (t.ptpAccept m token f) := by
  have step : ∀ {t u}, Within State.admitted t u → Within g s t → Within g s u := fun k h => k.after h law
  unfold State.ptpAccept
  extract_lets b l2
  refine .ite ht ?_
  split
  next cls pol _ =>
  refine .ite (step State.tsCount_within.wider ht) (.ite (step State.denyDrop_within.wider ht)
    (.ite (step State.tsCount_within.wider ht) ?_))
  split
  next ok s1 hx =>
  have h1 := State.admitReq_within (p := m.port) (cls := cls) (halves := 2) (s := t)
  rw [hx] at h1
  replace h1 := step h1.wider ht
  refine .ite h1 ?_
  extract_lets k
  split
  next e s2 hy =>
  have h2 := State.ledgerLookup_within (k := k) (cls := cls) (pol := pol) (s := s1)
  rw [hy] at h2
  replace h2 := step h2.wider h1
  extract_lets c s3
  have h3 : Within g s s3 := step State.tsCount_within.wider h2
  clear_value s3
  refine .ite ?_ (h _ _ _ _ h3)
  split
  next b s4 hz =>
  have h4 := State.takeToken_within (k := k) (e := e) (s := s3)
  rw [hz] at h4
  replace h4 := step h4.wider h3
  exact .ite (h _ _ _ _ h4) (step State.tsCount_within.wider h4)

theorem execGrantExpire_within {dt} {s : State} : Steps
    (fun s t => { s with time := t.time, ts := { s.ts with grants := t.ts.grants } })
    s (execGrantExpire dt s) := by
  unfold execGrantExpire
  exact .next (.put ((State.advance_within (n := dt)).after (.refl s)))

theorem execTimeStepApply_within {dt} {s : State} : Steps
    (fun s t => { s.noted t with
      time := t.time, leap := { s.leap with pending := t.leap.pending, dir := t.leap.dir, pendAt := t.leap.pendAt }
      tci := { s.tci with mbx := t.tci.mbx, aside := t.tci.aside }, win := { s.win with closing := t.win.closing }
      meas := { t.meas with linkCals := s.meas.linkCals }, refs := t.refs
      sel := { t.sel with
        mode := s.sel.mode, manual := s.sel.manual, wtr := s.sel.wtr, actMode := s.sel.actMode, actManual := s.sel.actManual
        actWtr := s.sel.actWtr, loopHeld := s.sel.loopHeld, integ := s.sel.integ, everLocked := s.sel.everLocked
        lastUpdate := s.sel.lastUpdate }
      hold := t.hold, outs := t.outs, gnss := t.gnss, dom := t.dom
      cue := { s.cue with rows := t.cue.rows, executed := t.cue.executed, late := t.cue.late, dropped := t.cue.dropped, kept := t.cue.kept }
      cap := { s.cap with producer := t.cap.producer, consumer := t.cap.consumer }
      ts := { s.ts with
        ntp := t.ts.ntp, nts := t.ts.nts, ptp := t.ts.ptp, draining := t.ts.draining, derivedAt := t.ts.derivedAt, grants := t.ts.grants
        load := t.ts.load, waiting := t.ts.waiting, credit := t.ts.credit, servedAt := t.ts.servedAt, counters := t.ts.counters
        announceAt := t.ts.announceAt, ptpSeq := t.ts.ptpSeq, master := t.ts.master, masterId := t.ts.masterId, pair := t.ts.pair }
      ports := t.ports, sw := { s.sw with macs := t.sw.macs, peak := t.sw.peak, qCtr := t.sw.qCtr, nextId := t.sw.nextId }
      banks := { t.banks with
        edits := s.banks.edits, slots := s.banks.slots, lastDrain := s.banks.lastDrain, drainDrop := s.banks.drainDrop
        missed := s.banks.missed, loaded := s.banks.loaded, checkOk := s.banks.checkOk }
      rnd := { s.rnd with part := t.rnd.part, lastOutcome := t.rnd.lastOutcome }, keys := { s.keys with cache := t.keys.cache }
      mem := { s.mem with
        bytes := t.mem.bytes, lines := t.mem.lines, recent := t.mem.recent, repeats := t.mem.repeats, toRetire := t.mem.toRetire
        flip := t.mem.flip, counters := t.mem.counters } })
    s (execTimeStepApply dt s) := by
  unfold execTimeStepApply
  refine .next ?_
  split
  · exact .ite (State.settleTiming_within.after (State.applyStep_within.after (State.takeSched_within.after (State.advance_within.after
      (.refl s))))) (State.advance_within.after (.refl s))
  · exact State.advance_within.after (.refl s)

theorem execGuardBandOpen_within {dt port} {s : State} : Steps
    (fun s t => { s.reported t with time := t.time, ports := t.ports })
    s (execGuardBandOpen dt port s) := by
  unfold execGuardBandOpen
  refine .withPort ?_
  extract_lets now
  split
  · exact State.cutFrame_within.after (State.updPort_within.after (State.excuse_within.after (State.advance_within.after (.refl s))))
  · exact State.advance_within.after (.refl s)

theorem execPtpAnnounceTimeout_within {dt} {s : State} : Steps
    (fun s t => { s.reported t with
      time := t.time, refs := t.refs
      sel := { t.sel with
        mode := s.sel.mode, manual := s.sel.manual, wtr := s.sel.wtr, actMode := s.sel.actMode, actManual := s.sel.actManual
        actWtr := s.sel.actWtr, loopHeld := s.sel.loopHeld, integ := s.sel.integ, everLocked := s.sel.everLocked
        lastUpdate := s.sel.lastUpdate }
      hold := t.hold, ts := { s.ts with announceAt := t.ts.announceAt, masterId := t.ts.masterId } })
    s (execPtpAnnounceTimeout dt s) := by
  unfold execPtpAnnounceTimeout
  refine .next ?_
  split
  · exact .ite (State.settleTiming_within.after (State.indication_within.after (.put ((State.advance_within (n := dt)).after (.refl
      s))))) (State.advance_within.after (.refl s))
  · exact State.advance_within.after (.refl s)

theorem execPaceGateClose_within {dt readings tj} {s : State} : Steps
    (fun s t => { s.reported t with time := t.time, pace := t.pace, ports := t.ports })
    s (execPaceGateClose dt readings tj s) := by
  unfold execPaceGateClose
  exact .via (State.advance_within.after (.refl s)) fun h1 => .next (.ite h1 (.via (.put h1) fun h2 => .via (.ite
    (State.post_within.after h2) h2) fun h3 => .foldl (fun _ _ h4 => State.underrun_within.after h4) _ (.ite (State.post_within.after h3)
    h3)))

theorem execBookedSlotLost_within {dt port late} {s : State} : Steps
    (fun s t => { s.reported t with time := t.time, ports := t.ports })
    s (execBookedSlotLost dt port late s) := by
  unfold execBookedSlotLost
  refine .withPort ?_
  split
  · exact .ite (State.loseSlot_within.after (State.advance_within.after (.refl s))) (State.advance_within.after (.refl s))
  · exact State.advance_within.after (.refl s)

theorem execSramCorrect_within {dt master array bank row word} {s : State} : Steps
    (fun s t => { s.noted t with
      time := t.time
      mem := { s.mem with
        flagged := t.mem.flagged, flaggedFlash := t.mem.flaggedFlash, sramRepeat := t.mem.sramRepeat, flipped := t.mem.flipped
        counters := t.mem.counters }
      plat := { s.plat with flashWork := t.plat.flashWork } })
    s (execSramCorrect dt master array bank row word s) := by
  unfold execSramCorrect
  exact .ite (.via (State.sramWritten_within.after (State.memCount_within.after (State.advance_within.after (.refl s)))) fun h1 => .next
    (.ite h1 (State.classifyRow_within.after h1))) .fault

theorem execNtsRequest_within {dt r} {s : State} : Steps
    (fun s t => { s.reported t with
      time := t.time
      ts := { s.ts with
        ledger := t.ts.ledger, grants := t.ts.grants, stranger := t.ts.stranger, strangerTick := t.ts.strangerTick
        capDropAt := t.ts.capDropAt, offered := t.ts.offered, load := t.ts.load, waiting := t.ts.waiting, credit := t.ts.credit
        servedAt := t.ts.servedAt, admitUse := t.ts.admitUse, denyKiss := t.ts.denyKiss, counters := t.ts.counters }
      ports := t.ports, sw := { s.sw with peak := t.sw.peak, qCtr := t.sw.qCtr, nextId := t.sw.nextId }
      bn := { s.bn with generates := t.bn.generates }, free := t.free })
    s (execNtsRequest dt r s) := by
  unfold execNtsRequest
  exact .withPort (State.ntsRequest_within.after (State.advance_within.after (.refl s)))

theorem execKeyMirrorErase_within {dt} {s : State} : Steps
    (fun s t => { s with time := t.time, keys := { s.keys with erase := t.keys.erase } })
    s (execKeyMirrorErase dt s) := by
  unfold execKeyMirrorErase
  exact .via (State.advance_within.after (.refl s)) fun h1 => .next (.ite (.put h1) h1)

theorem execLeapApplied_within {dt} {s : State} : Steps
    (fun s t => { s.reported t with
      time := t.time, leap := { s.leap with pending := t.leap.pending, dir := t.leap.dir, pendAt := t.leap.pendAt } })
    s (execLeapApplied dt s) := by
  unfold execLeapApplied
  exact .via (State.advance_within.after (.refl s)) fun h1 => .next (.ite (State.post_within.after (State.leapFlags_within.after h1))
    h1)

theorem execPcieLinkUp_within {dt link} {s : State} : Steps
    (fun s t => { s with
      time := t.time, intr := { s.intr with msixEn := t.intr.msixEn }
      plat := { s.plat with pcieUp := t.plat.pcieUp, pcieGen := t.plat.pcieGen, pcieWidth := t.plat.pcieWidth } })
    s (execPcieLinkUp dt link s) := by
  unfold execPcieLinkUp
  exact .via (State.advance_within.after (.refl s)) fun h1 => .next (.ite (.put h1) h1)

theorem execMembers_within {dt f} {s : State} : Steps
    (fun s t => { s.noted t with time := t.time, dom := { s.dom with dupId := t.dom.dupId, dupAt := t.dom.dupAt }, ports := t.ports })
    s (execMembers dt f s) := by
  unfold execMembers
  exact .withPort (.via (State.acceptDomain_within.after (State.advance_within.after (.refl s))) fun h1 => .ite
    (State.takeMembers_within.after h1) h1)

theorem execSealClosedChange_within {dt back} {s : State} : Steps
    (fun s t => { s.reported t with time := t.time, sealLoop := t.sealLoop })
    s (execSealClosedChange dt back s) := by
  unfold execSealClosedChange
  exact .via (.put ((State.advance_within (n := dt)).after (.refl s))) fun h1 => .next (.ite h1 (State.postSeal_within.after h1))

theorem execSnoopLapse_within {dt} {s : State} : Steps
    (fun s t => { s with time := t.time, sw := { s.sw with groups := t.sw.groups, routers := t.sw.routers } })
    s (execSnoopLapse dt s) := by
  unfold execSnoopLapse
  exact .via (State.advance_within.after (.refl s)) fun h1 => .next (.ite h1 (.put h1))

theorem execRefSelect_within {dt} {s : State} : Steps
    (fun s t => { s.reported t with
      time := t.time, refs := t.refs
      sel := { t.sel with
        mode := s.sel.mode, manual := s.sel.manual, wtr := s.sel.wtr, actMode := s.sel.actMode, actManual := s.sel.actManual
        actWtr := s.sel.actWtr, pairs := s.sel.pairs, loopHeld := s.sel.loopHeld, integ := s.sel.integ, everLocked := s.sel.everLocked
        lastUpdate := s.sel.lastUpdate }
      hold := t.hold })
    s (execRefSelect dt s) := by
  unfold execRefSelect
  exact .next (State.settleTiming_within.after (State.runSelector_within.after (State.advance_within.after (.refl s))))

theorem execPowerOnReset_within {dt vsb service factory back} {s : State} : Steps
    (fun s t => { t with pending := s.pending })
    s (execPowerOnReset dt vsb service factory back s) := by
  unfold execPowerOnReset
  exact .via (State.advance_within.after (.refl s)) fun h1 => .next (.ite h1 (.via (State.standbyReset_within.after
    (State.fullReset_within.after (.put h1))) fun h2 => .ite (State.breakSeal_within.after h2) h2))

theorem execReady_within {dt f} {s : State} : Steps
    (fun s t => { s.reported t with time := t.time, ports := t.ports, rnd := { s.rnd with up := t.rnd.up } })
    s (execReady dt f s) := by
  exact takeUp_within

theorem execEquinoxCancelFrame_within {dt f} {s : State} : Steps
    (fun s t => { s.noted t with
      time := t.time, dom := { s.dom with txSeq := t.dom.txSeq, queue := t.dom.queue }
      cue := { s.cue with rows := t.cue.rows, executed := t.cue.executed, late := t.cue.late, dropped := t.cue.dropped, kept := t.cue.kept }
      cap := { s.cap with producer := t.cap.producer, consumer := t.cap.consumer }, ports := t.ports
      rnd := { s.rnd with part := t.rnd.part, seen := t.rnd.seen, up := t.rnd.up, lastOutcome := t.rnd.lastOutcome }
      mem := { s.mem with
        bytes := t.mem.bytes, lines := t.mem.lines, recent := t.mem.recent, repeats := t.mem.repeats, toRetire := t.mem.toRetire
        flip := t.mem.flip, counters := t.mem.counters } })
    s (execEquinoxCancelFrame dt f s) := by
  exact takeDown_within fun _ h => State.onCancel_within.after h

theorem execRailResetLevel_within {dt r service factory} {s : State} : Steps
    (fun s t => { t with pending := s.pending })
    s (execRailResetLevel dt r service factory s) := by
  unfold execRailResetLevel
  extract_lets +onlyGivenNames s1 s2
  refine .via (t := s1) (State.advance_within.after (.refl s)) fun h1 => ?_
  clear_value s1
  refine .via (t := s2) (State.warnIfFallen_within.after (State.readRails_within.after h1)) fun h2 => ?_
  clear_value s2
  have set : Within (fun s t => { t with pending := s.pending }) s2 { s2 with plat := { s2.plat with supplyWait := true } } :=
    .put (.refl s2)
  exact .next (.ite h1 (.ite (State.standbyLost_within.after h2) (.ite h2 (.ite (State.fullReset_within.after (set.after h2))
    (.ite (State.fullReset_within.after (set.after h2)) h2)))))

theorem execOutputQuiescent_within {dt output} {s : State} : Steps
    (fun s t => { s with time := t.time, meas := { s.meas with turnEvs := t.meas.turnEvs }, outs := t.outs })
    s (execOutputQuiescent dt output s) := by
  unfold execOutputQuiescent
  exact .via (State.advance_within.after (.refl s)) fun h1 => .ite .fault (.next (.ite (State.updOut_within.after (.ite (.put h1) h1))
    h1))

theorem execIntMaskWrite_within {dt value} {s : State} : Steps
    (fun s t => { s.vectored t with
      time := t.time
      intr := { s.intr with
        mask := t.intr.mask, lastVec := t.intr.lastVec, delayed := t.intr.delayed, signalled := t.intr.signalled, pba := t.intr.pba } })
    s (execIntMaskWrite dt value s) := by
  unfold execIntMaskWrite
  exact .next (State.setMask_within.after (State.advance_within.after (.refl s)))

theorem execPauseTimerExpire_within {dt port} {s : State} : Steps
    (fun s t => { s with time := t.time, ports := t.ports })
    s (execPauseTimerExpire dt port s) := by
  unfold execPauseTimerExpire
  exact .withPort (.ite (State.advance_within.after (.refl s)) (State.updPort_within.after (State.advance_within.after (.refl s))))

theorem execProcessorOnlyRestart_within {dt} {s : State} : Steps
    (fun s t => { s.noted t with
      time := t.time, tci := { t.tci with doorbellErr := s.tci.doorbellErr }
      win := { s.win with
        state := t.win.state, held := t.win.held, pressIn := t.win.pressIn, actions := t.win.actions, closing := t.win.closing }
      inb := { s.inb with enable := t.inb.enable, disabling := t.inb.disabling }, fw := t.fw, meas := { t.meas with job := s.meas.job }
      refs := t.refs
      sel := { t.sel with
        mode := s.sel.mode, manual := s.sel.manual, wtr := s.sel.wtr, actMode := s.sel.actMode, actManual := s.sel.actManual
        actWtr := s.sel.actWtr, loopHeld := s.sel.loopHeld, integ := s.sel.integ, everLocked := s.sel.everLocked
        lastUpdate := s.sel.lastUpdate }
      hold := t.hold, outs := t.outs, gnss := t.gnss, dom := t.dom
      ts := { t.ts with
        ledger := s.ts.ledger, hashSeed := s.ts.hashSeed, stranger := s.ts.stranger, strangerTick := s.ts.strangerTick
        capDropAt := s.ts.capDropAt, offered := s.ts.offered, admitUse := s.ts.admitUse, denyKiss := s.ts.denyKiss
        rotateDue := s.ts.rotateDue, rotateLate := s.ts.rotateLate, lastRotation := s.ts.lastRotation, foreignAt := s.ts.foreignAt
        linkDelay := s.ts.linkDelay, linkPair := s.ts.linkPair, ptpNext := s.ts.ptpNext }
      ports := t.ports, sw := { s.sw with macs := t.sw.macs, peak := t.sw.peak, qCtr := t.sw.qCtr, nextId := t.sw.nextId }
      banks := { t.banks with
        edits := s.banks.edits, slots := s.banks.slots, lastDrain := s.banks.lastDrain, drainDrop := s.banks.drainDrop
        missed := s.banks.missed, loaded := s.banks.loaded, checkOk := s.banks.checkOk }
      keys := t.keys, bn := t.bn
      flt := { s.flt with
        records := t.flt.records, src := t.flt.src, frozen := t.flt.frozen, faultN := t.flt.faultN, recoveries := t.flt.recoveries
        ledgerFull := t.flt.ledgerFull, nextOpen := t.flt.nextOpen, takeRec := t.flt.takeRec, excs := t.flt.excs }
      plat := { s.plat with flashWork := t.plat.flashWork } })
    s (execProcessorOnlyRestart dt s) := by
  unfold execProcessorOnlyRestart
  refine .next ?_
  split
  · exact State.advance_within.after (.refl s)
  · exact .via (.put ((State.advance_within (n := dt)).after (.refl s))) fun h1 => .ite h1 (.put (State.stopFirmware_within.after h1))

theorem execTrunkState_within {dt port} {s : State} : Steps
    (fun s t => { s.reported t with
      time := t.time, refs := t.refs
      sel := { t.sel with
        mode := s.sel.mode, manual := s.sel.manual, wtr := s.sel.wtr, actMode := s.sel.actMode, actManual := s.sel.actManual
        actWtr := s.sel.actWtr, loopHeld := s.sel.loopHeld, integ := s.sel.integ, everLocked := s.sel.everLocked
        lastUpdate := s.sel.lastUpdate }
      hold := t.hold, dom := t.dom, ports := t.ports })
    s (execTrunkState dt port s) := by
  unfold execTrunkState
  exact .withPort (.ite (State.advance_within.after (.refl s)) (.ite (State.settleTiming_within.after (State.trunkDown_within.after
    (State.advance_within.after (.refl s)))) (State.settleTiming_within.after (State.retree_within.after (State.closeSeries_within.after
    (State.advance_within.after (.refl s)))))))

theorem execPtpMessageSend_within {dt port msg} {s : State} : Steps
    (fun s t => { s.reported t with
      time := t.time
      ts := { s.ts with
        grants := t.ts.grants, load := t.ts.load, waiting := t.ts.waiting, credit := t.ts.credit, servedAt := t.ts.servedAt
        counters := t.ts.counters, ptpSeq := t.ts.ptpSeq, ptpNext := t.ts.ptpNext, pair := t.ts.pair }
      ports := t.ports, sw := { s.sw with peak := t.sw.peak, qCtr := t.sw.qCtr, nextId := t.sw.nextId }, free := t.free })
    s (execPtpMessageSend dt port msg s) := by
  unfold execPtpMessageSend
  exact .withPort (.ite (State.slaveTurn_within.after (State.advance_within.after (.refl s))) (.ite (State.metadataTurn_within.after
    (State.advance_within.after (.refl s))) (State.ptpTurn_within.after (State.advance_within.after (.refl s)))))

theorem execSentinelTakeover_within {dt source channel} {s : State} : Steps
    (fun s t => { s.noted t with
      time := t.time, tci := { t.tci with doorbellErr := s.tci.doorbellErr }
      win := { s.win with
        state := t.win.state, held := t.win.held, pressIn := t.win.pressIn, actions := t.win.actions, closing := t.win.closing }
      inb := { s.inb with enable := t.inb.enable, disabling := t.inb.disabling }, fw := t.fw, meas := { t.meas with job := s.meas.job }
      refs := t.refs
      sel := { t.sel with
        mode := s.sel.mode, manual := s.sel.manual, wtr := s.sel.wtr, actMode := s.sel.actMode, actManual := s.sel.actManual
        actWtr := s.sel.actWtr, loopHeld := s.sel.loopHeld, integ := s.sel.integ, everLocked := s.sel.everLocked
        lastUpdate := s.sel.lastUpdate }
      hold := t.hold, outs := t.outs, gnss := t.gnss, dom := t.dom
      ts := { t.ts with
        ledger := s.ts.ledger, hashSeed := s.ts.hashSeed, stranger := s.ts.stranger, strangerTick := s.ts.strangerTick
        capDropAt := s.ts.capDropAt, offered := s.ts.offered, admitUse := s.ts.admitUse, denyKiss := s.ts.denyKiss
        rotateDue := s.ts.rotateDue, rotateLate := s.ts.rotateLate, lastRotation := s.ts.lastRotation, foreignAt := s.ts.foreignAt
        linkDelay := s.ts.linkDelay, linkPair := s.ts.linkPair, ptpNext := s.ts.ptpNext }
      ports := t.ports, sw := { s.sw with macs := t.sw.macs, peak := t.sw.peak, qCtr := t.sw.qCtr, nextId := t.sw.nextId }
      banks := { t.banks with
        edits := s.banks.edits, slots := s.banks.slots, lastDrain := s.banks.lastDrain, drainDrop := s.banks.drainDrop
        missed := s.banks.missed, loaded := s.banks.loaded, checkOk := s.banks.checkOk }
      keys := t.keys, bn := t.bn, flt := { t.flt with quietS := s.flt.quietS, checkFailed := s.flt.checkFailed, injects := s.flt.injects }
      mid := { t.mid with overwritten := s.mid.overwritten, erase := s.mid.erase }, plat := { s.plat with flashWork := t.plat.flashWork }
      free := t.free })
    s (execSentinelTakeover dt source channel s) := by
  unfold execSentinelTakeover
  exact .ite (.next (State.detect_within.after (State.advance_within.after (.refl s)))) .fault

theorem execResetNRelease_within {dt} {s : State} : Steps
    (fun s t => { s with time := t.time, plat := { s.plat with resetN := t.plat.resetN, inReset := t.plat.inReset } })
    s (execResetNRelease dt s) := by
  unfold execResetNRelease
  exact .next (State.setHold_within.after (.put ((State.advance_within (n := dt)).after (.refl s))))

theorem execFwStarted_within {dt} {s : State} : Steps
    (fun s t => { s.commanded t with
      inb := t.inb
      ts := { t.ts with
        ledger := s.ts.ledger, stranger := s.ts.stranger, strangerTick := s.ts.strangerTick, capDropAt := s.ts.capDropAt
        offered := s.ts.offered, admitUse := s.ts.admitUse, denyKiss := s.ts.denyKiss, rotateLate := s.ts.rotateLate
        lastRotation := s.ts.lastRotation, foreignAt := s.ts.foreignAt, linkDelay := s.ts.linkDelay, linkPair := s.ts.linkPair
        ptpNext := s.ts.ptpNext }
      banks := { t.banks with
        slots := s.banks.slots, lastDrain := s.banks.lastDrain, drainDrop := s.banks.drainDrop, missed := s.banks.missed
        checkOk := s.banks.checkOk } })
    s (execFwStarted dt s) := by
  unfold execFwStarted
  exact .via (State.advance_within.after (.refl s)) fun h1 => .next (.ite h1 (.via (State.postStart_within.after (.put
    ((State.entropy_within (w := 128)).after h1))) fun h2 => State.noteFrom_within.after (State.runRung_within.after
    (State.answerRefused_within.after (State.answerLost_within.after (State.storeWaiting_within.after (.ite h2
    (State.loadCache_within.after (State.readMirror_within.after (State.loadAtStart_within.after h2))))))))))

theorem execHostRingQuiescent_within {dt ring frames} {s : State} : Steps
    (fun s t => { s.reported t with
      time := t.time, tci := { s.tci with mbx := t.tci.mbx, aside := t.tci.aside }, win := { s.win with closing := t.win.closing }
      dom := { s.dom with txSeq := t.dom.txSeq, queue := t.dom.queue }, host := { t.host with queue := s.host.queue } })
    s (execHostRingQuiescent dt ring frames s) := by
  unfold execHostRingQuiescent
  exact .via (State.advance_within.after (.refl s)) fun h1 => .ite .fault (.next (.ite (State.finish_within.after
    (State.updRing_within.after (.ite (State.hostCount_within.after h1) h1))) h1))

theorem execCoreException_within {dt hasSource cmd} {s : State} : Steps
    (fun s t => { s.noted t with
      time := t.time, tci := { s.tci with mbx := t.tci.mbx, aside := t.tci.aside }, win := { s.win with closing := t.win.closing }
      dom := { s.dom with txSeq := t.dom.txSeq, queue := t.dom.queue }
      flt := { s.flt with
        records := t.flt.records, src := t.flt.src, frozen := t.flt.frozen, faultN := t.flt.faultN, recoveries := t.flt.recoveries
        ledgerFull := t.flt.ledgerFull, nextOpen := t.flt.nextOpen, takeRec := t.flt.takeRec, excs := t.flt.excs } })
    s (execCoreException dt hasSource cmd s) := by
  unfold execCoreException
  extract_lets +onlyGivenNames s1
  refine .next ?_
  refine .via (t := s1) (State.advance_within.after (.refl s)) fun h1 => .ite h1 ?_
  clear_value s1
  extract_lets +onlyGivenNames recent _ s2 s3
  refine .via (t := s2) (.put h1) fun h2 => ?_
  clear_value s2
  induction s2 using State.generic with | all s2 => ?_
  refine .via (t := s3) ?_ fun h3 => ?_
  · unfold s3
    split
    · exact State.finish_within.after h2
    · exact h2
  exact .ite (State.fault_within.after h3) h3

theorem execHportTxTailWrite_within {dt ring value} {s : State} : Steps
    (fun s t => { s with time := t.time, host := { s.host with rings := t.host.rings } })
    s (execHportTxTailWrite dt ring value s) := by
  unfold execHportTxTailWrite
  exact .ite .fault (.next (State.updRing_within.after (State.advance_within.after (.refl s))))

theorem execInbandTimeout_within {dt} {s : State} : Steps
    (fun s t => { s.reported t with
      time := t.time, tci := { s.tci with mbx := t.tci.mbx, aside := t.tci.aside }, win := { s.win with closing := t.win.closing }
      dom := { s.dom with txSeq := t.dom.txSeq, queue := t.dom.queue } })
    s (execInbandTimeout dt s) := by
  unfold execInbandTimeout
  exact .via (State.advance_within.after (.refl s)) fun h1 => .next (.ite (State.finishAll_within.after h1) h1)

theorem execHoldoverSample_within {dt theta} {s : State} : Steps
    (fun s t => { s with time := t.time, hold := t.hold, plat := { s.plat with tcase := t.plat.tcase } })
    s (execHoldoverSample dt theta s) := by
  unfold execHoldoverSample
  exact .via (State.advance_within.after (.refl s)) fun h1 => .next (.ite (.put h1) h1)

theorem execLeapTablePersist_within {dt} {s : State} : Steps
    (fun s t => { s with time := t.time, leap := { s.leap with flash := t.leap.flash, flashDirty := t.leap.flashDirty } })
    s (execLeapTablePersist dt s) := by
  unfold execLeapTablePersist
  exact .via (State.advance_within.after (.refl s)) fun h1 => .next (.ite (.put h1) h1)

theorem execLoopUpdate_within {dt} {s : State} : Steps
    (fun s t => { s.reported t with
      time := t.time, refs := t.refs
      sel := { s.sel with
        loopAt := t.sel.loopAt, integ := t.sel.integ, e := t.sel.e, eHist := t.sel.eHist, lockRun := t.sel.lockRun
        lastType := t.sel.lastType, lockType := t.sel.lockType, lockTr := t.sel.lockTr, clockClass := t.sel.clockClass
        yHist := t.sel.yHist, yAt := t.sel.yAt, lastUpdate := t.sel.lastUpdate }
      hold := t.hold })
    s (execLoopUpdate dt s) := by
  unfold execLoopUpdate
  exact .next (State.settleTiming_within.after (State.loopUpdate_within.after (State.advance_within.after (.refl s))))

theorem execCueExecute_within {dt} {s : State} : Steps
    (fun s t => { s.noted t with
      time := t.time, outs := t.outs
      cue := { s.cue with
        rows := t.cue.rows, executed := t.cue.executed, late := t.cue.late, dropped := t.cue.dropped, kept := t.cue.kept
        closedGates := t.cue.closedGates }
      cap := t.cap, ports := t.ports
      mem := { s.mem with
        bytes := t.mem.bytes, lines := t.mem.lines, recent := t.mem.recent, repeats := t.mem.repeats, toRetire := t.mem.toRetire
        flip := t.mem.flip, counters := t.mem.counters } })
    s (execCueExecute dt s) := by
  unfold execCueExecute
  exact .next (State.pulseFalls_within.after (.foldl (fun _ _ h1 => State.fireRow_within.after h1) _ (State.advance_within.after (.refl
    s))))

theorem execPresentPressStart_within {pin} {s : State} : Steps
    (fun s t => { s.reported t with
      time := t.time
      win := { t.win with
        mbx := s.win.mbx, deadline := s.win.deadline, held := s.win.held, stray := s.win.stray, actions := s.win.actions
        closing := s.win.closing } })
    s (execPresentPressStart pin s) := by
  unfold execPresentPressStart
  refine .next ?_
  refine .ite (State.feedPin_within.after (.refl s)) ?_
  split
  · exact State.noteFrom_within.after (State.postWindow_within.after (.put ((State.feedPin_within (pin := pin)).after (.refl s))))
  · exact .put ((State.feedPin_within (pin := pin)).after (.refl s))

theorem execClassificationPass_within {dt port} {s : State} : Steps
    (fun s t => { s.reported t with
      time := t.time, ports := t.ports, host := { s.host with queue := t.host.queue }, sw := t.sw
      bn := { s.bn with generates := t.bn.generates }, free := t.free })
    s (execClassificationPass dt port s) := by
  unfold execClassificationPass
  refine .withPort ?_
  split
  · exact State.advance_within.after (.refl s)
  · exact .ite (State.advance_within.after (.refl s)) (State.classifyFrame_within.after (State.updPort_within.after
      (State.advance_within.after (.refl s))))

theorem execGnssSignalLoss_within {dt} {s : State} : Steps
    (fun s t => { s.noted t with
      time := t.time, refs := t.refs
      sel := { t.sel with
        mode := s.sel.mode, manual := s.sel.manual, wtr := s.sel.wtr, actMode := s.sel.actMode, actManual := s.sel.actManual
        actWtr := s.sel.actWtr, loopHeld := s.sel.loopHeld, integ := s.sel.integ, everLocked := s.sel.everLocked
        lastUpdate := s.sel.lastUpdate }
      hold := t.hold, gnss := t.gnss })
    s (execGnssSignalLoss dt s) := by
  unfold execGnssSignalLoss
  exact .via (State.advance_within.after (.refl s)) fun h1 => .next (.ite (State.gnssIndication_within.after (.put h1)) h1)

theorem execVerifySend_within {dt port} {s : State} : Steps
    (fun s t => { s with time := t.time, ports := t.ports, trace := t.trace })
    s (execVerifySend dt port s) := by
  unfold execVerifySend
  exact .withPort (.ite (State.emit_within.after (State.updPort_within.after (State.advance_within.after (.refl s))))
    (State.advance_within.after (.refl s)))

theorem execGnssDisqualify_within {dt} {s : State} : Steps
    (fun s t => { s.noted t with
      time := t.time, refs := t.refs
      sel := { t.sel with
        mode := s.sel.mode, manual := s.sel.manual, wtr := s.sel.wtr, actMode := s.sel.actMode, actManual := s.sel.actManual
        actWtr := s.sel.actWtr, loopHeld := s.sel.loopHeld, integ := s.sel.integ, everLocked := s.sel.everLocked
        lastUpdate := s.sel.lastUpdate }
      hold := t.hold
      gnss := { s.gnss with
        rx := t.gnss.rx, before := t.gnss.before, since := t.gnss.since, solution := t.gnss.solution, hardSet := t.gnss.hardSet
        disqs := t.gnss.disqs, predPasses := t.gnss.predPasses } })
    s (execGnssDisqualify dt s) := by
  unfold execGnssDisqualify
  exact .via (State.advance_within.after (.refl s)) fun h1 => .next (.ite h1 (State.gnssIndication_within.after
    (State.gnssDisqualify_within.after h1)))

theorem execHello_within {dt f} {s : State} : Steps
    (fun s t => { s.reported t with
      time := t.time, refs := t.refs
      sel := { t.sel with
        mode := s.sel.mode, manual := s.sel.manual, wtr := s.sel.wtr, actMode := s.sel.actMode, actManual := s.sel.actManual
        actWtr := s.sel.actWtr, loopHeld := s.sel.loopHeld, integ := s.sel.integ, everLocked := s.sel.everLocked
        lastUpdate := s.sel.lastUpdate }
      hold := t.hold, dom := t.dom, ports := t.ports })
    s (execHello dt f s) := by
  unfold execHello
  exact .withPort (.via (State.acceptDomain_within.after (State.advance_within.after (.refl s))) fun h1 => .ite
    (State.settleTiming_within.after (State.takeHello_within.after h1)) h1)

theorem execMidwinterSlotErase_within {dt} {s : State} : Steps
    (fun s t => { s.raised t with
      time := t.time, mid := { s.mid with loc := t.mid.loc, erase := t.mid.erase }, plat := { s.plat with flashWork := t.plat.flashWork } })
    s (execMidwinterSlotErase dt s) := by
  unfold execMidwinterSlotErase
  refine .next ?_
  split
  · exact .ite (State.suspend_within.after (State.advance_within.after (.refl s))) (State.noteFrom_within.after (.put
      ((State.advance_within (n := dt)).after (.refl s))))
  · exact State.advance_within.after (.refl s)

theorem execDramErasureMark_within {dt device} {s : State} : Steps
    (fun s t => { s.noted t with time := t.time, mem := { s.mem with erasure := t.mem.erasure } })
    s (execDramErasureMark dt device s) := by
  unfold execDramErasureMark
  exact .via (State.advance_within.after (.refl s)) fun h1 => .ite (.next (.ite (State.post_within.after (State.fault_within.after (.put
    h1))) h1)) .fault

theorem execCueAckSend_within {dt} {s : State} : Steps
    (fun s t => { s.reported t with
      time := t.time, dom := { s.dom with txSeq := t.dom.txSeq, queue := t.dom.queue }
      cue := { s.cue with rounds := t.cue.rounds, cancels := t.cue.cancels, results := t.cue.results } })
    s (execCueAckSend dt s) := by
  unfold execCueAckSend
  exact .via (State.advance_within.after (.refl s)) fun h1 => .next (.ite h1 (.foldl (fun _ _ h2 => State.sendAck_within.after h2) _
    h1))

theorem execKeyStoreWriteDone_within {dt} {s : State} : Steps
    (fun s t => { s.reported t with
      time := t.time, tci := { s.tci with mbx := t.tci.mbx, aside := t.tci.aside }, win := { s.win with closing := t.win.closing }
      dom := { s.dom with txSeq := t.dom.txSeq, queue := t.dom.queue }
      ts := { s.ts with
        cookies := t.ts.cookies, rotateDue := t.ts.rotateDue, rotating := t.ts.rotating, rotateLate := t.ts.rotateLate
        lastRotation := t.ts.lastRotation, counters := t.ts.counters }
      keys := { t.keys with erase := s.keys.erase, cache := s.keys.cache } })
    s (execKeyStoreWriteDone dt s) := by
  unfold execKeyStoreWriteDone
  refine .next ?_
  split
  · exact .ite (.ite (State.writeRefused_within.after (State.advance_within.after (.refl s))) (State.writeDone_within.after
      (State.advance_within.after (.refl s)))) (State.advance_within.after (.refl s))
  · exact State.advance_within.after (.refl s)

theorem execFrameReceive_within {dt port phase lane f} {s : State} : Steps
    (fun s t => { s.noted t with
      time := t.time
      cap := { s.cap with producer := t.cap.producer, consumer := t.cap.consumer, lostPorts := t.cap.lostPorts, portRate := t.cap.portRate }
      ports := t.ports
      mem := { s.mem with
        bytes := t.mem.bytes, lines := t.mem.lines, recent := t.mem.recent, repeats := t.mem.repeats, toRetire := t.mem.toRetire
        flip := t.mem.flip, counters := t.mem.counters } })
    s (execFrameReceive dt port phase lane f s) := by
  unfold execFrameReceive
  refine .withPort ?_
  split
  · exact State.advance_within.after (.refl s)
  · exact .ite (State.stat_within.after (State.advance_within.after (.refl s))) (State.receive_within.after (.ite
      (State.dropAssembly_within.after (State.advance_within.after (.refl s))) (State.advance_within.after (.refl s))))
  · exact State.stat_within.after (State.advance_within.after (.refl s))

theorem execStampRingQuiescent_within {dt} {s : State} : Steps
    (fun s t => { s.reported t with
      time := t.time, stamps := { s.stamps with draining := t.stamps.draining }
      tci := { s.tci with mbx := t.tci.mbx, aside := t.tci.aside }, win := { s.win with closing := t.win.closing }
      dom := { s.dom with txSeq := t.dom.txSeq, queue := t.dom.queue } })
    s (execStampRingQuiescent dt s) := by
  unfold execStampRingQuiescent
  exact .via (State.advance_within.after (.refl s)) fun h1 => .next (.ite (State.finish_within.after (.put h1)) h1)

theorem execCueHandover_within {dt} {s : State} : Steps
    (fun s t => { s with time := t.time, cue := { s.cue with rows := t.cue.rows } })
    s (execCueHandover dt s) := by
  unfold execCueHandover
  exact .next (.put ((State.advance_within (n := dt)).after (.refl s)))

theorem execBankCheck_within {dt same} {s : State} : Steps
    (fun s t => { s.noted t with
      time := t.time, banks := { s.banks with checkOk := t.banks.checkOk }
      flt := { s.flt with
        records := t.flt.records, src := t.flt.src, frozen := t.flt.frozen, faultN := t.flt.faultN, recoveries := t.flt.recoveries
        ledgerFull := t.flt.ledgerFull, nextOpen := t.flt.nextOpen, takeRec := t.flt.takeRec, checkDue := t.flt.checkDue
        checkFailed := t.flt.checkFailed } })
    s (execBankCheck dt same s) := by
  unfold execBankCheck
  extract_lets +onlyGivenNames s1
  refine .next ?_
  refine .via (t := s1) (State.advance_within.after (.refl s)) fun h1 => .ite h1 ?_
  clear_value s1
  extract_lets +onlyGivenNames _ _ s2 _ s3
  refine .via (t := s2) (.put h1) fun h2 => ?_
  clear_value s2
  induction s2 using State.generic with | all s2 => ?_
  refine .via (t := s3) ?_ fun h3 => ?_
  · unfold s3
    split
    · exact .ite (State.service_within.after h2) h2
    · exact .ite h2 (.put h2)
  clear_value s3
  exact State.settleFaults_within.after (.ite h3 (State.fault_within.after h3))

theorem execPcieLinkReset_within {dt kind frames} {s : State} : Steps
    (fun s t => { s with
      time := t.time, stamps := t.stamps, intr := { s.intr with mask := t.intr.mask, msixEn := t.intr.msixEn, delayed := t.intr.delayed }
      host := { t.host with queue := s.host.queue }
      plat := { s.plat with perst := t.plat.perst, pcieUp := t.plat.pcieUp, pcieGen := t.plat.pcieGen, pcieWidth := t.plat.pcieWidth } })
    s (execPcieLinkReset dt kind frames s) := by
  unfold execPcieLinkReset
  extract_lets +onlyGivenNames s1 drop
  refine .via (t := s1) (State.advance_within.after (.refl s)) fun h1 => .ite .fault ?_
  clear_value s1
  extract_lets +onlyGivenNames s2
  refine .via (t := s2) (.foldl (fun t k h => ?_) _ h1) fun h2 => ?_
  · refine .ite ?_ h
    exact State.updRing_within.after (.ite (State.hostCount_within.after h) h)
  clear_value s2
  exact .next (.put h2 rfl fun h => ⟨h.1, (by decide : 0x0FFF < 2 ^ 12)⟩)

theorem execEntropyHealth_within {dt good} {s : State} : Steps
    (fun s t => { s.noted t with time := t.time, bn := { s.bn with entropyOk := t.bn.entropyOk, generates := t.bn.generates } })
    s (execEntropyHealth dt good s) := by
  unfold execEntropyHealth
  exact .via (State.advance_within.after (.refl s)) fun h1 => .next (.ite h1 (.via (State.post_within.after (.put h1)) fun h2 => .ite
    (State.conditionEnds_within.after h2) (State.condition_within.after h2)))

theorem execRegressionGateClose_within {dt job} {s : State} : Steps
    (fun s t => { s.reported t with time := t.time, meas := { s.meas with job := t.meas.job } })
    s (execRegressionGateClose dt job s) := by
  unfold execRegressionGateClose
  exact .via (State.advance_within.after (.refl s)) fun h1 => .ite .fault (.next (.ite (State.updJob_within.after
    (State.putResult_within.after h1)) h1))

theorem execGnssEpoch_within {dt e} {s : State} : Steps
    (fun s t => { s.noted t with
      time := t.time, refs := t.refs
      sel := { s.sel with lastType := t.sel.lastType, lockType := t.sel.lockType, lockTr := t.sel.lockTr, clockClass := t.sel.clockClass }
      gnss := t.gnss })
    s (execGnssEpoch dt e s) := by
  unfold execGnssEpoch
  exact .next (State.gnssEpoch_within.after (State.advance_within.after (.refl s)))

theorem execBankEntryRewrite_within {dt} {s : State} : Steps
    (fun s t => { s with
      time := t.time, sw := { s.sw with absent := t.sw.absent }, keys := { s.keys with slot := t.keys.slot }
      mem := { s.mem with rewrites := t.mem.rewrites } })
    s (execBankEntryRewrite dt s) := by
  unfold execBankEntryRewrite
  refine .next ?_
  split
  · exact State.advance_within.after (.refl s)
  · exact .ite (.via (.put ((State.advance_within (n := dt)).after (.refl s))) fun h1 => .ite (State.restoreSlot_within.after h1) (.put
      h1)) (State.advance_within.after (.refl s))

theorem execL1syncChange_within {dt port x} {s : State} : Steps
    (fun s t => { s.reported t with
      time := t.time, refs := t.refs
      sel := { t.sel with
        mode := s.sel.mode, manual := s.sel.manual, wtr := s.sel.wtr, actMode := s.sel.actMode, actManual := s.sel.actManual
        actWtr := s.sel.actWtr, loopHeld := s.sel.loopHeld, integ := s.sel.integ, everLocked := s.sel.everLocked
        lastUpdate := s.sel.lastUpdate }
      hold := t.hold, dom := t.dom, ports := t.ports })
    s (execL1syncChange dt port x s) := by
  unfold execL1syncChange
  exact .withPort (.ite (State.advance_within.after (.refl s)) (.via (State.updTrunk_within.after (State.advance_within.after (.refl
    s))) fun h1 => State.settleTiming_within.after (State.retree_within.after (.ite (State.setTrunk_within.after
    (State.updTrunk_within.after h1)) (.ite (State.setTrunk_within.after (State.updTrunk_within.after h1)) h1)))))

theorem execRespondReceive_within {dt port} {s : State} : Steps
    (fun s t => { s.reported t with time := t.time, ports := t.ports })
    s (execRespondReceive dt port s) := by
  unfold execRespondReceive
  exact .withPort (.ite (State.setPreempt_within.after (State.updPort_within.after (State.advance_within.after (.refl s))))
    (State.advance_within.after (.refl s)))

theorem execRefQuiescent_within {dt ref} {s : State} : Steps
    (fun s t => { s with time := t.time, refs := t.refs })
    s (execRefQuiescent dt ref s) := by
  unfold execRefQuiescent
  exact .ite .fault (.next (State.updRef_within.after (State.advance_within.after (.refl s))))

theorem execMirrorQuiescent_within {dt session} {s : State} : Steps
    (fun s t => { s.reported t with
      time := t.time, tci := { s.tci with mbx := t.tci.mbx, aside := t.tci.aside }, win := { s.win with closing := t.win.closing }
      dom := { s.dom with txSeq := t.dom.txSeq, queue := t.dom.queue }, sw := { s.sw with mirrors := t.sw.mirrors } })
    s (execMirrorQuiescent dt session s) := by
  unfold execMirrorQuiescent
  exact .ite .fault (.via (State.advance_within.after (.refl s)) fun h1 => .next (.ite (State.finish_within.after
    (State.updMirror_within.after h1)) h1))

theorem execEquinoxMissed_within {dt} {s : State} : Steps
    (fun s t => { s.reported t with
      time := t.time, banks := { s.banks with missed := t.banks.missed }
      rnd := { s.rnd with part := t.rnd.part, lastOutcome := t.rnd.lastOutcome } })
    s (execEquinoxMissed dt s) := by
  unfold execEquinoxMissed
  exact .via (State.advance_within.after (.refl s)) fun h1 => .next (.ite (State.post_within.after (State.counterHalf_within.after (.put
    h1))) h1)

theorem execInbandRequest_within {dt f} {s : State} : Steps
    (fun s t => { s.commanded t with inb := t.inb })
    s (execInbandRequest dt f s) := by
  exact takeInband_within fun _ h => State.takeRequest_within.after h

theorem execCuePrefetchStart_within {dt} {s : State} : Steps
    (fun s t => { s.noted t with
      time := t.time
      cue := { s.cue with rows := t.cue.rows, executed := t.cue.executed, late := t.cue.late, dropped := t.cue.dropped, kept := t.cue.kept }
      cap := { s.cap with producer := t.cap.producer, consumer := t.cap.consumer }
      mem := { s.mem with
        bytes := t.mem.bytes, lines := t.mem.lines, recent := t.mem.recent, repeats := t.mem.repeats, toRetire := t.mem.toRetire
        flip := t.mem.flip, counters := t.mem.counters } })
    s (execCuePrefetchStart dt s) := by
  unfold execCuePrefetchStart
  exact .next (.foldl (fun _ _ h1 => State.prefetch_within.after h1) _ (State.advance_within.after (.refl s)))

theorem execEgressDecision_within {dt turn} {s : State} : Steps
    (fun s t => { s.reported t with
      time := t.time, stamps := { s.stamps with idx := t.stamps.idx, phase := t.stamps.phase, consumer := t.stamps.consumer }
      dom := { s.dom with queue := t.dom.queue }
      ts := { s.ts with
        load := t.ts.load, waiting := t.ts.waiting, credit := t.ts.credit, servedAt := t.ts.servedAt, counters := t.ts.counters
        linkPair := t.ts.linkPair, pair := t.ts.pair }
      ports := t.ports, host := { s.host with queue := t.host.queue }
      sw := { s.sw with mirrors := t.sw.mirrors, peak := t.sw.peak, qCtr := t.sw.qCtr, flowCtr := t.sw.flowCtr, nextId := t.sw.nextId }
      bn := { s.bn with generates := t.bn.generates }, free := t.free })
    s (execEgressDecision dt turn s) := by
  unfold execEgressDecision
  exact .withPort (State.deciding_within.after (.ite (State.underrun_within.after (State.seeConsumer_within.after
    (State.advance_within.after (.refl s)))) (State.seeConsumer_within.after (State.advance_within.after (.refl s)))))

theorem execTodSentenceSend_within {dt} {s : State} : Steps
    (fun s t => { s with time := t.time, outs := t.outs, trace := t.trace })
    s (execTodSentenceSend dt s) := by
  unfold execTodSentenceSend
  exact .via (State.advance_within.after (.refl s)) fun h1 => .next (.ite (State.emit_within.after (State.updOut_within.after h1)) h1)

theorem execRepeatWindowExpire_within {dt} {s : State} : Steps
    (fun s t => { s with time := t.time, mem := { s.mem with repeats := t.mem.repeats, sramRepeat := t.mem.sramRepeat } })
    s (execRepeatWindowExpire dt s) := by
  unfold execRepeatWindowExpire
  exact .next (.put ((State.advance_within (n := dt)).after (.refl s)))

theorem execInbandResponse_within {dt f} {s : State} : Steps
    (fun s t => { s.reported t with
      time := t.time, tci := { s.tci with mbx := t.tci.mbx, aside := t.tci.aside }, win := { s.win with closing := t.win.closing }
      dom := { s.dom with txSeq := t.dom.txSeq, queue := t.dom.queue }, ports := t.ports })
    s (execInbandResponse dt f s) := by
  exact takeInband_within fun _ h => .ite (State.takeResponse_within.after h) h

theorem execFaultServiced_within {dt index} {s : State} : Steps
    (fun s t => { s.reported t with
      time := t.time
      flt := { s.flt with
        records := t.flt.records, src := t.flt.src, frozen := t.flt.frozen, faultN := t.flt.faultN, recoveries := t.flt.recoveries
        nextOpen := t.flt.nextOpen, takeRec := t.flt.takeRec } })
    s (execFaultServiced dt index s) := by
  unfold execFaultServiced
  exact .via (State.advance_within.after (.refl s)) fun h1 => .ite .fault (.next (.ite h1 (State.settleFaults_within.after
    (State.service_within.after h1))))

theorem execBankReseedDone_within {dt} {s : State} : Steps
    (fun s t => { s with
      time := t.time
      banks := { s.banks with
        shadow := t.banks.shadow, edits := t.banks.edits, changeId := t.banks.changeId, state := t.banks.state
        validated := t.banks.validated, preloaded := t.banks.preloaded }
      rnd := { s.rnd with part := t.rnd.part } })
    s (execBankReseedDone dt s) := by
  unfold execBankReseedDone
  exact .via (State.advance_within.after (.refl s)) fun h1 => .next (.ite (State.seed_within.after h1) h1)

theorem execMarchStep_within {dt} {s : State} : Steps
    (fun s t => { s.noted t with
      time := t.time, ocxo := { s.ocxo with heaterAt := t.ocxo.heaterAt, pllLocked := t.ocxo.pllLocked, pllPhase := t.ocxo.pllPhase }
      refs := t.refs
      sel := { t.sel with
        mode := s.sel.mode, manual := s.sel.manual, wtr := s.sel.wtr, actMode := s.sel.actMode, actManual := s.sel.actManual
        actWtr := s.sel.actWtr, loopHeld := s.sel.loopHeld, integ := s.sel.integ, everLocked := s.sel.everLocked
        lastUpdate := s.sel.lastUpdate }
      hold := t.hold, gnss := t.gnss
      ts := { s.ts with
        ntp := t.ts.ntp, nts := t.ts.nts, ptp := t.ts.ptp, draining := t.ts.draining, derivedAt := t.ts.derivedAt, grants := t.ts.grants
        load := t.ts.load, waiting := t.ts.waiting, credit := t.ts.credit, servedAt := t.ts.servedAt, counters := t.ts.counters
        announceAt := t.ts.announceAt, ptpSeq := t.ts.ptpSeq, master := t.ts.master, masterId := t.ts.masterId, pair := t.ts.pair }
      ports := t.ports, sw := { s.sw with peak := t.sw.peak, qCtr := t.sw.qCtr, nextId := t.sw.nextId }, plat := t.plat })
    s (execMarchStep dt s) := by
  unfold execMarchStep
  exact .via (State.advance_within.after (.refl s)) fun h1 => .next (.ite h1 (.ite (State.tryMarch_within.after h1) (.via (.ite
    (State.completeStep_within.after h1) h1) fun h2 => .ite (State.startStep_within.after h2) h2)))

theorem execHoldoverWrite_within {dt theta} {s : State} : Steps
    (fun s t => { s.reported t with
      time := t.time, refs := t.refs
      sel := { s.sel with lastType := t.sel.lastType, lockType := t.sel.lockType, lockTr := t.sel.lockTr, clockClass := t.sel.clockClass }
      hold := { s.hold with writeAt := t.hold.writeAt }, plat := { s.plat with tcase := t.plat.tcase } })
    s (execHoldoverWrite dt theta s) := by
  unfold execHoldoverWrite
  exact .via (State.advance_within.after (.refl s)) fun h1 => .next (.ite (State.settleTiming_within.after (.put h1)) h1)

theorem execPresentRelease_within {pin} {s : State} : Steps
    (fun s t => { s.reported t with
      time := t.time
      win := { s.win with state := t.win.state, raw := t.win.raw, rawAt := t.win.rawAt, present := t.win.present, pressIn := t.win.pressIn } })
    s (execPresentRelease pin s) := by
  unfold execPresentRelease
  refine .next ?_
  refine .ite (State.feedPin_within.after (.refl s)) ?_
  split
  · exact State.noteFrom_within.after (State.postWindow_within.after (.put ((State.feedPin_within (pin := pin)).after (.refl s))))
  · exact .put ((State.feedPin_within (pin := pin)).after (.refl s))

theorem execSramUncorrectable_within {dt master array bank row word a b} {s : State} : Steps
    (fun s t => { s.noted t with
      time := t.time
      cue := { s.cue with rows := t.cue.rows, executed := t.cue.executed, late := t.cue.late, dropped := t.cue.dropped, kept := t.cue.kept }
      cap := { s.cap with producer := t.cap.producer, consumer := t.cap.consumer }, ports := t.ports
      host := { s.host with queue := t.host.queue }, sw := { s.sw with macs := t.sw.macs, groups := t.sw.groups, absent := t.sw.absent }
      keys := { s.keys with slot := t.keys.slot }
      mem := { s.mem with
        bytes := t.mem.bytes, lines := t.mem.lines, recent := t.mem.recent, repeats := t.mem.repeats, toRetire := t.mem.toRetire
        rewrites := t.mem.rewrites, flip := t.mem.flip, flipped := t.mem.flipped, counters := t.mem.counters } })
    s (execSramUncorrectable dt master array bank row word a b s) := by
  unfold execSramUncorrectable
  exact .ite (.next (State.sramOutcome_within.after (State.faultEvent_within.after (State.sramWritten_within.after
    (State.memCount_within.after (State.advance_within.after (.refl s))))))) .fault

theorem execBookedSlotLaunch_within {dt turn} {s : State} : Steps
    (fun s t => { s.reported t with
      time := t.time, stamps := { s.stamps with idx := t.stamps.idx, phase := t.stamps.phase, consumer := t.stamps.consumer }
      ts := { s.ts with
        load := t.ts.load, waiting := t.ts.waiting, credit := t.ts.credit, servedAt := t.ts.servedAt, counters := t.ts.counters
        linkPair := t.ts.linkPair, pair := t.ts.pair }
      ports := t.ports, host := { s.host with queue := t.host.queue }
      sw := { s.sw with mirrors := t.sw.mirrors, peak := t.sw.peak, qCtr := t.sw.qCtr, flowCtr := t.sw.flowCtr, nextId := t.sw.nextId }
      bn := { s.bn with generates := t.bn.generates }, free := t.free })
    s (execBookedSlotLaunch dt turn s) := by
  unfold execBookedSlotLaunch
  refine .withPort ?_
  split
  · exact .ite (State.seeConsumer_within.after (State.advance_within.after (.refl s))) (.ite (State.tsCount_within.after
      (State.updPort_within.after (State.seeConsumer_within.after (State.advance_within.after (.refl s))))) (State.leaves_within.after
      (State.chargeBuckets_within.after (State.updPort_within.after (State.seeConsumer_within.after (State.advance_within.after (.refl
      s)))))))
  · exact State.seeConsumer_within.after (State.advance_within.after (.refl s))

theorem execBookedSlotBook_within {dt port phase} {s : State} : Steps
    (fun s t => { s.reported t with time := t.time, ts := { s.ts with counters := t.ts.counters }, ports := t.ports })
    s (execBookedSlotBook dt port phase s) := by
  unfold execBookedSlotBook
  exact .withPort (State.bookSlot_within.after (State.advance_within.after (.refl s)))

theorem execTodSentenceReceive_within {dt chars} {s : State} : Steps
    (fun s t => { s with time := t.time, refs := t.refs })
    s (execTodSentenceReceive dt chars s) := by
  unfold execTodSentenceReceive
  refine .next ?_
  split
  · exact State.updRef_within.after (State.advance_within.after (.refl s))
  · exact State.advance_within.after (.refl s)

theorem execAntennaBiasReapply_within {dt ma} {s : State} : Steps
    (fun s t => { s.noted t with
      time := t.time
      gnss := { s.gnss with
        biasMv := t.gnss.biasMv, antenna := t.gnss.antenna, antennaMa := t.gnss.antennaMa, reapplyAt := t.gnss.reapplyAt } })
    s (execAntennaBiasReapply dt ma s) := by
  unfold execAntennaBiasReapply
  exact .via (State.advance_within.after (.refl s)) fun h1 => .next (.ite (.via (.put h1) fun h2 => .ite (State.driveBias_within.after
    (State.setAntenna_within.after h2)) (State.driveBias_within.after h2)) h1)

theorem execCueAnnounce_within {dt f} {s : State} : Steps
    (fun s t => { s.noted t with
      time := t.time, dom := { s.dom with txSeq := t.dom.txSeq, queue := t.dom.queue }
      cue := { t.cue with closedGates := s.cue.closedGates, issued := s.cue.issued, results := s.cue.results, nextRound := s.cue.nextRound }
      cap := { s.cap with producer := t.cap.producer, consumer := t.cap.consumer }, ports := t.ports
      mem := { s.mem with
        bytes := t.mem.bytes, lines := t.mem.lines, recent := t.mem.recent, repeats := t.mem.repeats, toRetire := t.mem.toRetire
        flip := t.mem.flip, counters := t.mem.counters } })
    s (execCueAnnounce dt f s) := by
  unfold execCueAnnounce
  exact .withPort (.via (State.acceptDomain_within.after (State.advance_within.after (.refl s))) fun h1 => .ite h1
    (State.joinRound_within.after (State.toChildren_within.after h1)))

theorem execVerifyReceive_within {dt port} {s : State} : Steps
    (fun s t => { s with time := t.time, trace := t.trace })
    s (execVerifyReceive dt port s) := by
  unfold execVerifyReceive
  exact .withPort (.ite (State.emit_within.after (State.advance_within.after (.refl s))) (State.advance_within.after (.refl s)))

theorem execAutoStepTest_within {dt} {s : State} : Steps
    (fun s t => { s with time := t.time, sel := { s.sel with blocked := t.sel.blocked, tested := t.sel.tested } })
    s (execAutoStepTest dt s) := by
  unfold execAutoStepTest
  exact .via (State.advance_within.after (.refl s)) fun h1 => .next (.ite (.ite (.put h1) (.put h1)) h1)

theorem execRefSourceStatusFail_within {dt ref} {s : State} : Steps
    (fun s t => { s.reported t with
      time := t.time, refs := t.refs
      sel := { t.sel with
        mode := s.sel.mode, manual := s.sel.manual, wtr := s.sel.wtr, actMode := s.sel.actMode, actManual := s.sel.actManual
        actWtr := s.sel.actWtr, loopHeld := s.sel.loopHeld, integ := s.sel.integ, everLocked := s.sel.everLocked
        lastUpdate := s.sel.lastUpdate }
      hold := t.hold })
    s (execRefSourceStatusFail dt ref s) := by
  unfold execRefSourceStatusFail
  exact .via (State.advance_within.after (.refl s)) fun h1 => .ite .fault (.next (.ite (State.settleTiming_within.after
    (State.indication_within.after h1)) h1))

theorem execFlashRefreshScan_within {dt part device page corrected ageDays lostSectors badBlocks} {s : State} : Steps
    (fun s t => { s.noted t with
      time := t.time, fw := t.fw, mem := { s.mem with counters := t.mem.counters, flash := t.mem.flash }
      mid := { s.mid with loc := t.mid.loc }, plat := { s.plat with flashWork := t.plat.flashWork } })
    s (execFlashRefreshScan dt part device page corrected ageDays lostSectors badBlocks s) := by
  unfold execFlashRefreshScan
  exact .via (State.advance_within.after (.refl s)) fun h1 => .ite .fault (.ite (.next h1) (.via (.foldl (fun _ _ h2 =>
    State.memCount_within.after h2) _ (State.updFlash_within.after h1)) fun h3 => .via (.ite h3 (State.flashLost_within.after
    (State.post_within.after (State.fault_within.after h3)))) fun h4 => .next (.ite (.ite (.put h4) (State.flashRefresh_within.after h4))
    h4)))

theorem execSupplyWarnClear_within {dt r} {s : State} : Steps
    (fun s t => { s.noted t with
      time := t.time, tci := { s.tci with mbx := t.tci.mbx, aside := t.tci.aside }
      win := { s.win with state := t.win.state, mbx := t.win.mbx, deadline := t.win.deadline, held := t.win.held, pressIn := t.win.pressIn }
      fw := t.fw, gnss := { s.gnss with toStore := t.gnss.toStore, stored := t.gnss.stored }
      dom := { s.dom with txSeq := t.dom.txSeq, queue := t.dom.queue }
      mem := { s.mem with
        flaggedFlash := t.mem.flaggedFlash, policyFlash := t.mem.policyFlash, counters := t.mem.counters, flash := t.mem.flash }
      plat := { s.plat with
        warn := t.plat.warn, warnRails := t.plat.warnRails, warnTick := t.plat.warnTick, clearAt := t.plat.clearAt
        supplyEvents := t.plat.supplyEvents, warnTicks := t.plat.warnTicks, lastWarn := t.plat.lastWarn, warnMvFlash := t.plat.warnMvFlash
        v12 := t.plat.v12, v12Min := t.plat.v12Min, v12Ep := t.plat.v12Ep, vcore := t.plat.vcore, vcoreMin := t.plat.vcoreMin
        vcoreEp := t.plat.vcoreEp, vsb := t.plat.vsb, vdram := t.plat.vdram, tcase := t.plat.tcase, tjMax := t.plat.tjMax
        inputMw := t.plat.inputMw, above12At := t.plat.above12At, ovenHot := t.plat.ovenHot, flashWork := t.plat.flashWork } })
    s (execSupplyWarnClear dt r s) := by
  unfold execSupplyWarnClear
  exact .via (State.advance_within.after (.refl s)) fun h1 => .via (State.warnIfFallen_within.after (State.readRails_within.after h1))
    fun h2 => .next (.ite h1 (.ite (State.clearWarn_within.after h2) h2))

theorem execSealBreak_within {dt} {s : State} : Steps
    (fun s t => { s.noted t with
      time := t.time, tci := { s.tci with mbx := t.tci.mbx, aside := t.tci.aside }
      win := { s.win with actions := t.win.actions, closing := t.win.closing }
      sealLoop := { s.sealLoop with latch := t.sealLoop.latch, flash := t.sealLoop.flash }
      dom := { s.dom with txSeq := t.dom.txSeq, queue := t.dom.queue }
      ts := { s.ts with cookies := t.ts.cookies, rotating := t.ts.rotating }, keys := t.keys, bn := t.bn })
    s (execSealBreak dt s) := by
  unfold execSealBreak
  exact .via (State.advance_within.after (.refl s)) fun h1 => .next (.ite (State.breakSeal_within.after h1) h1)

theorem execEquinoxPreloadDone_within {dt} {s : State} : Steps
    (fun s t => { s.reported t with
      time := t.time, tci := { s.tci with mbx := t.tci.mbx, aside := t.tci.aside }, win := { s.win with closing := t.win.closing }
      dom := { s.dom with txSeq := t.dom.txSeq, queue := t.dom.queue }, cue := { s.cue with rows := t.cue.rows, nextSeq := t.cue.nextSeq }
      banks := { s.banks with changeId := t.banks.changeId, state := t.banks.state, preloaded := t.banks.preloaded }
      rnd := { s.rnd with part := t.rnd.part } })
    s (execEquinoxPreloadDone dt s) := by
  unfold execEquinoxPreloadDone
  refine .next ?_
  split
  · exact State.advance_within.after (.refl s)
  · exact .ite (State.advance_within.after (.refl s)) (.via (.put ((State.advance_within (n := dt)).after (.refl s))) fun h1 => .ite
      (State.finish_within.after (.put h1)) (.ite (State.localLoaded_within.after h1) (State.updWaits_within.after h1)))

theorem execPageRetire_within {dt} {s : State} : Steps
    (fun s t => { s.noted t with
      time := t.time
      mem := { s.mem with
        lines := t.mem.lines, recent := t.mem.recent, repeats := t.mem.repeats, retired := t.mem.retired
        retiredDirty := t.mem.retiredDirty, spare := t.mem.spare, toRetire := t.mem.toRetire, flip := t.mem.flip
        counters := t.mem.counters } })
    s (execPageRetire dt s) := by
  unfold execPageRetire
  extract_lets +onlyGivenNames s1
  refine .next ?_
  refine .via (t := s1) (State.advance_within.after (.refl s)) fun h1 => ?_
  clear_value s1
  split
  · refine .ite (.ite (State.spareFault_within.after (.put h1)) ?_) h1
    extract_lets +onlyGivenNames keys s2 _ s3
    refine .via (t := s2) (.foldl (fun _ _ h => State.copyLine_within.after h) _ h1) fun h2 => ?_
    clear_value s2
    induction s2 using State.generic with | all s2 => ?_
    refine .via (t := s3) (.put h2) fun h3 => ?_
    clear_value s3
    exact State.spareFault_within.after (State.post_within.after (State.memCount_within.after h3))
  · exact h1

theorem execBankDrained_within {dt} {s : State} : Steps
    (fun s t => { s.reported t with
      time := t.time, ports := t.ports, host := { s.host with queue := t.host.queue }
      banks := { s.banks with
        state := t.banks.state, drainDrops := t.banks.drainDrops, lastDrain := t.banks.lastDrain, drainDrop := t.banks.drainDrop } })
    s (execBankDrained dt s) := by
  unfold execBankDrained
  exact .via (State.advance_within.after (.refl s)) fun h1 => .next (.ite (State.post_within.after (State.counterHalf_within.after (.put
    (State.dropOld_within.after h1)))) h1)

theorem execSupplyWarnSet_within {dt r} {s : State} : Steps
    (fun s t => { s.noted t with
      time := t.time
      plat := { s.plat with
        warn := t.plat.warn, warnRails := t.plat.warnRails, warnTick := t.plat.warnTick, clearAt := t.plat.clearAt
        lastWarn := t.plat.lastWarn, v12 := t.plat.v12, v12Min := t.plat.v12Min, v12Ep := t.plat.v12Ep, vcore := t.plat.vcore
        vcoreMin := t.plat.vcoreMin, vcoreEp := t.plat.vcoreEp, vsb := t.plat.vsb, vdram := t.plat.vdram, tcase := t.plat.tcase
        tjMax := t.plat.tjMax, inputMw := t.plat.inputMw, above12At := t.plat.above12At, ovenHot := t.plat.ovenHot } })
    s (execSupplyWarnSet dt r s) := by
  unfold execSupplyWarnSet
  exact .via (State.advance_within.after (.refl s)) fun h1 => .next (.ite (State.warnIfFallen_within.after (State.readRails_within.after
    h1)) h1)

theorem execMeasChannelQuiescent_within {dt ch} {s : State} : Steps
    (fun s t => { s.reported t with
      time := t.time, tci := { s.tci with mbx := t.tci.mbx, aside := t.tci.aside }, win := { s.win with closing := t.win.closing }
      meas := { s.meas with ch := t.meas.ch }, dom := { s.dom with txSeq := t.dom.txSeq, queue := t.dom.queue } })
    s (execMeasChannelQuiescent dt ch s) := by
  unfold execMeasChannelQuiescent
  exact .via (State.advance_within.after (.refl s)) fun h1 => .ite .fault (.next (.ite (State.finish_within.after
    (State.updChan_within.after h1)) h1))

theorem execArm_within {dt f} {s : State} : Steps
    (fun s t => { s.reported t with
      time := t.time, dom := { s.dom with txSeq := t.dom.txSeq, queue := t.dom.queue }
      cue := { s.cue with rows := t.cue.rows, nextSeq := t.cue.nextSeq }, ports := t.ports
      rnd := { s.rnd with part := t.rnd.part, seen := t.rnd.seen, up := t.rnd.up, lastReasons := t.rnd.lastReasons } })
    s (execArm dt f s) := by
  exact takeDown_within fun _ h => State.onArm_within.after h

theorem execMeasJobQuiescent_within {dt job} {s : State} : Steps
    (fun s t => { s.reported t with
      time := t.time, tci := { s.tci with mbx := t.tci.mbx, aside := t.tci.aside }, win := { s.win with closing := t.win.closing }
      meas := { s.meas with job := t.meas.job }, dom := { s.dom with txSeq := t.dom.txSeq, queue := t.dom.queue } })
    s (execMeasJobQuiescent dt job s) := by
  unfold execMeasJobQuiescent
  exact .via (State.advance_within.after (.refl s)) fun h1 => .ite .fault (.next (.ite (State.finish_within.after
    (State.updJob_within.after h1)) h1))

theorem execCookieRotate_within {dt} {s : State} : Steps
    (fun s t => { s with
      time := t.time, ts := { s.ts with rotating := t.ts.rotating, rotateLate := t.ts.rotateLate, counters := t.ts.counters }
      keys := { s.keys with writes := t.keys.writes }, bn := { s.bn with generates := t.bn.generates }, free := t.free })
    s (execCookieRotate dt s) := by
  unfold execCookieRotate
  extract_lets +onlyGivenNames s1
  refine .next ?_
  refine .via (t := s1) (State.advance_within.after (.refl s)) fun h1 => .ite h1 ?_
  clear_value s1
  induction s1 using State.generic with | all s1 => ?_
  extract_lets +onlyGivenNames late _ s2
  clear_value late
  refine .via (t := s2) (.ite (State.tsCount_within.after (.put h1)) h1) fun h2 => ?_
  clear_value s2
  induction s2 using State.generic with | all s2 => ?_
  refine .ite (.put h2) ?_
  extract_lets +onlyGivenNames slot
  split
  next key s3 hx =>
  have h3 := (State.entropy_within (w := 256) (s := s2))
  rw [hx] at h3
  replace h3 := h3.after h2
  suffices h : ∀ x y, Within _ s { s3 with ts := { s3.ts with rotating := true }, keys := { s3.keys with writes := s3.keys.writes ++ [{ slots := x, rotation := y }] } } from h _ _
  exact fun x y => .put h3

theorem execPtpForeignMaster_within {dt m} {s : State} : Steps
    (fun s t => { s.reported t with
      time := t.time
      ts := { s.ts with
        load := t.ts.load, waiting := t.ts.waiting, credit := t.ts.credit, servedAt := t.ts.servedAt, counters := t.ts.counters
        foreignAt := t.ts.foreignAt } })
    s (execPtpForeignMaster dt m s) := by
  unfold execPtpForeignMaster
  exact .withPort (.ite (State.advance_within.after (.refl s)) (.ite (State.ptpDisabled_within.after (State.advance_within.after (.refl
    s))) (.ite (State.tsCount_within.after (State.advance_within.after (.refl s))) (.ite (State.tsCount_within.after
    (State.advance_within.after (.refl s))) (.via (State.tsCount_within.after (State.tsCount_within.after (State.tsWork_within.after
    (State.advance_within.after (.refl s))))) fun h1 => .ite (State.post_within.after (.put h1)) h1)))))

theorem execImageConfirm_within {dt} {s : State} : Steps (fun s t => { s with time := t.time, fw := t.fw }) s (execImageConfirm dt s) := by
  unfold execImageConfirm
  exact .via (State.advance_within.after (.refl s)) fun h1 => .next (.ite (.put h1) h1)

theorem execFragmentReceive_within {dt port phase lane bytes count start mcrc last} {s : State} : Steps
    (fun s t => { s.noted t with
      time := t.time
      cap := { s.cap with producer := t.cap.producer, consumer := t.cap.consumer, lostPorts := t.cap.lostPorts, portRate := t.cap.portRate }
      ports := t.ports
      mem := { s.mem with
        bytes := t.mem.bytes, lines := t.mem.lines, recent := t.mem.recent, repeats := t.mem.repeats, toRetire := t.mem.toRetire
        flip := t.mem.flip, counters := t.mem.counters } })
    s (execFragmentReceive dt port phase lane bytes count start mcrc last s) := by
  unfold execFragmentReceive
  refine .withPort ?_
  split
  · exact .ite (State.fragment_within.after (State.advance_within.after (.refl s))) (State.advance_within.after (.refl s))
  · exact State.fragment_within.after (State.advance_within.after (.refl s))
  · exact .ite (State.stat_within.after (State.advance_within.after (.refl s))) (State.advance_within.after (.refl s))

theorem execGnssBackgroundFix_within {dt x y z} {s : State} : Steps
    (fun s t => { s.noted t with
      time := t.time, refs := t.refs
      sel := { t.sel with
        mode := s.sel.mode, manual := s.sel.manual, wtr := s.sel.wtr, actMode := s.sel.actMode, actManual := s.sel.actManual
        actWtr := s.sel.actWtr, loopHeld := s.sel.loopHeld, integ := s.sel.integ, everLocked := s.sel.everLocked
        lastUpdate := s.sel.lastUpdate }
      hold := t.hold, gnss := t.gnss })
    s (execGnssBackgroundFix dt x y z s) := by
  unfold execGnssBackgroundFix
  exact .via (State.advance_within.after (.refl s)) fun h1 => .next (.ite (.via (State.gnssDisqualify_within.after
    (State.applyIndicators_within.after (.put h1))) fun h2 => .ite h2 (State.gnssIndication_within.after h2)) h1)

theorem execLinkHoldExpire_within {dt port} {s : State} : Steps
    (fun s t => { s.reported t with time := t.time, dom := { s.dom with queue := t.dom.queue }, ports := t.ports })
    s (execLinkHoldExpire dt port s) := by
  unfold execLinkHoldExpire
  exact .withPort (.ite (State.holdExpires_within.after (State.advance_within.after (.refl s))) (State.advance_within.after (.refl s)))

theorem execLinkUp_within {dt port skew} {s : State} : Steps
    (fun s t => { s.reported t with
      time := t.time, refs := t.refs
      sel := { s.sel with lastType := t.sel.lastType, lockType := t.sel.lockType, lockTr := t.sel.lockTr, clockClass := t.sel.clockClass }
      dom := { s.dom with queue := t.dom.queue }, ports := t.ports })
    s (execLinkUp dt port skew s) := by
  unfold execLinkUp
  exact .withPort (State.settleTiming_within.after (State.linkUp_within.after (State.advance_within.after (.refl s))))

theorem execValidationDone_within {dt} {s : State} : Steps
    (fun s t => { s.reported t with
      time := t.time, tci := { s.tci with mbx := t.tci.mbx, aside := t.tci.aside }, win := { s.win with closing := t.win.closing }
      dom := { s.dom with txSeq := t.dom.txSeq, queue := t.dom.queue }, banks := { s.banks with validated := t.banks.validated } })
    s (execValidationDone dt s) := by
  unfold execValidationDone
  refine .next ?_
  split
  · exact State.advance_within.after (.refl s)
  · exact .ite (State.finish_within.after (State.advance_within.after (.refl s))) (State.finish_within.after (.ite (.put
      ((State.advance_within (n := dt)).after (.refl s))) (State.advance_within.after (.refl s))))

theorem execHelloSend_within {dt} {s : State} : Steps
    (fun s t => { s.reported t with
      time := t.time, refs := t.refs
      sel := { t.sel with
        mode := s.sel.mode, manual := s.sel.manual, wtr := s.sel.wtr, actMode := s.sel.actMode, actManual := s.sel.actManual
        actWtr := s.sel.actWtr, loopHeld := s.sel.loopHeld, integ := s.sel.integ, everLocked := s.sel.everLocked
        lastUpdate := s.sel.lastUpdate }
      hold := t.hold, dom := t.dom })
    s (execHelloSend dt s) := by
  unfold execHelloSend
  exact .via (State.advance_within.after (.refl s)) fun h1 => .next (.ite (State.settleTiming_within.after
    (State.sendHellos_within.after (State.retree_within.after (.put h1)))) h1)

theorem execTsFunctionQuiescent_within {dt} {s : State} : Steps
    (fun s t => { s with time := t.time, ts := { s.ts with draining := t.ts.draining } })
    s (execTsFunctionQuiescent dt s) := by
  unfold execTsFunctionQuiescent
  exact .next (.put ((State.advance_within (n := dt)).after (.refl s)))

theorem execEsmcSend_within {dt port} {s : State} : Steps
    (fun s t => { s.reported t with time := t.time, ports := t.ports })
    s (execEsmcSend dt port s) := by
  unfold execEsmcSend
  exact .withPort (.ite (State.emit_within.after (State.countTx_within.after (State.updTrunk_within.after (State.advance_within.after
    (.refl s))))) (State.advance_within.after (.refl s)))

theorem execWaitToRestoreExpire_within {dt} {s : State} : Steps
    (fun s t => { s.reported t with
      time := t.time, refs := t.refs
      sel := { t.sel with
        mode := s.sel.mode, manual := s.sel.manual, wtr := s.sel.wtr, actMode := s.sel.actMode, actManual := s.sel.actManual
        actWtr := s.sel.actWtr, pairs := s.sel.pairs, loopHeld := s.sel.loopHeld, integ := s.sel.integ, everLocked := s.sel.everLocked
        lastUpdate := s.sel.lastUpdate }
      hold := t.hold })
    s (execWaitToRestoreExpire dt s) := by
  unfold execWaitToRestoreExpire
  refine .next ?_
  split
  · exact .ite (State.settleTiming_within.after (State.runSelector_within.after (State.advance_within.after (.refl s))))
      (State.advance_within.after (.refl s))
  · exact State.advance_within.after (.refl s)

theorem execFaultWindowExpire_within {dt} {s : State} : Steps
    (fun s t => { s.reported t with
      time := t.time
      flt := { s.flt with
        records := t.flt.records, src := t.flt.src, frozen := t.flt.frozen, faultN := t.flt.faultN, recoveries := t.flt.recoveries
        nextOpen := t.flt.nextOpen, takeRec := t.flt.takeRec } })
    s (execFaultWindowExpire dt s) := by
  unfold execFaultWindowExpire
  exact .next (State.clearWhere_within.after (State.advance_within.after (.refl s)))

theorem execCueAck_within {dt f} {s : State} : Steps
    (fun s t => { s.reported t with
      time := t.time, cue := { s.cue with rounds := t.cue.rounds, cancels := t.cue.cancels }, ports := t.ports })
    s (execCueAck dt f s) := by
  unfold execCueAck
  exact .withPort (.via (State.acceptDomain_within.after (State.advance_within.after (.refl s))) fun h1 => .ite
    (State.mergeAck_within.after h1) h1)

theorem execPreemptCut_within {dt port} {s : State} : Steps
    (fun s t => { s.reported t with time := t.time, ports := t.ports })
    s (execPreemptCut dt port s) := by
  unfold execPreemptCut
  exact .withPort (.ite (State.advance_within.after (.refl s)) (State.cutFrame_within.after (State.advance_within.after (.refl s))))

theorem execIntStatusClear_within {dt value} {s : State} : Steps
    (fun s t => { s with time := t.time, intr := { s.intr with status := t.intr.status } })
    s (execIntStatusClear dt value s) := by
  unfold execIntStatusClear
  exact .next (State.clearInt_within.after (State.advance_within.after (.refl s)))

theorem execBnDrainComplete_within {dt} {s : State} : Steps
    (fun s t => { s.reported t with
      time := t.time, tci := { s.tci with mbx := t.tci.mbx, aside := t.tci.aside }, win := { s.win with closing := t.win.closing }
      dom := { s.dom with txSeq := t.dom.txSeq, queue := t.dom.queue }, bn := { s.bn with draining := t.bn.draining } })
    s (execBnDrainComplete dt s) := by
  unfold execBnDrainComplete
  exact .via (State.advance_within.after (.refl s)) fun h1 => .next (.ite (State.finish_within.after (.put h1)) h1)

theorem execMacAging_within {dt} {s : State} : Steps
    (fun s t => { s with time := t.time, sw := { s.sw with macs := t.sw.macs } })
    s (execMacAging dt s) := by
  unfold execMacAging
  exact .next (.put ((State.advance_within (n := dt)).after (.refl s)))

theorem execMembersSend_within {dt} {s : State} : Steps
    (fun s t => { s with time := t.time, dom := { s.dom with txSeq := t.dom.txSeq, membersDue := t.dom.membersDue, queue := t.dom.queue } })
    s (execMembersSend dt s) := by
  unfold execMembersSend
  refine .next ?_
  split
  · exact .ite (State.sendDomain_within.after (.put ((State.advance_within (n := dt)).after (.refl s)))) (State.advance_within.after
      (.refl s))
  · exact State.advance_within.after (.refl s)

theorem execAttendWindowExpire_within {dt} {s : State} : Steps
    (fun s t => { s.reported t with
      time := t.time, tci := { s.tci with mbx := t.tci.mbx }
      win := { s.win with state := t.win.state, held := t.win.held, pressIn := t.win.pressIn }
      dom := { s.dom with txSeq := t.dom.txSeq, queue := t.dom.queue } })
    s (execAttendWindowExpire dt s) := by
  unfold execAttendWindowExpire
  exact .via (State.advance_within.after (.refl s)) fun h1 => .next (.ite (State.closeWindow_within.after h1) h1)

theorem execSupplyRestart_within {dt r} {s : State} : Steps
    (fun s t => { s.noted t with time := t.time, ocxo := { s.ocxo with heaterAt := t.ocxo.heaterAt }, plat := t.plat })
    s (execSupplyRestart dt r s) := by
  unfold execSupplyRestart
  exact .via (State.advance_within.after (.refl s)) fun h1 => .via (State.warnIfFallen_within.after (State.readRails_within.after h1))
    fun h2 => .next (.ite h1 (.ite (State.tryMarch_within.after (State.setHold_within.after (.put h2))) h2))

theorem execStrayPressesRead_within {dt} {s : State} : Steps
    (fun s t => { s with
      time := t.time, snap := t.snap, evt := { s.evt with lost := t.evt.lost }, win := { s.win with stray := t.win.stray }, trace := t.trace })
    s (execStrayPressesRead dt s) := by
  unfold execStrayPressesRead
  split
  next v s1 hx =>
  have h1 := (State.readReg_within (offset := 0x68) (s := s.advance dt))
  rw [hx] at h1
  exact .next (State.emit_within.after (h1.after (State.advance_within.after (.refl s))))

theorem execPressQualified_within {dt} {s : State} : Steps
    (fun s t => { s.commanded t with
      win := { t.win with raw := s.win.raw, rawAt := s.win.rawAt, present := s.win.present, pressAt := s.win.pressAt } })
    s (execPressQualified dt s) := by
  unfold execPressQualified
  extract_lets +onlyGivenNames s1
  refine .next ?_
  refine .via (t := s1) (State.advance_within.after (.refl s)) fun h1 => .ite h1 ?_
  clear_value s1
  extract_lets +onlyGivenNames _ s2
  refine .via (t := s2) (.put h1) fun h2 => ?_
  clear_value s2
  split
  · exact .ite (State.qualify_within.after h2) h1
  · exact .put h2
  · exact h2

theorem execBnOpRelease_within {dt lane glitch late} {s : State} : Steps
    (fun s t => { s.noted t with
      time := t.time, tci := { s.tci with mbx := t.tci.mbx, aside := t.tci.aside }, win := { s.win with closing := t.win.closing }
      dom := { s.dom with txSeq := t.dom.txSeq, queue := t.dom.queue }, bn := t.bn })
    s (execBnOpRelease dt lane glitch late s) := by
  unfold execBnOpRelease
  refine .ite .fault ?_
  refine .next ?_
  split
  · exact .ite (State.advance_within.after (.refl s)) (.ite (State.setLane_within.after (State.advance_within.after (.refl s)))
      (State.releaseLane_within.after (State.advance_within.after (.refl s))))
  · exact State.advance_within.after (.refl s)

theorem execLinkCalGateClose_within {dt} {s : State} : Steps
    (fun s t => { s.reported t with
      time := t.time, tci := { s.tci with mbx := t.tci.mbx, aside := t.tci.aside }, win := { s.win with closing := t.win.closing }
      meas := { s.meas with linkCals := t.meas.linkCals }, dom := { s.dom with txSeq := t.dom.txSeq, queue := t.dom.queue }, free := t.free })
    s (execLinkCalGateClose dt s) := by
  unfold execLinkCalGateClose
  exact .next (.foldl (fun _ _ h1 => State.closeLinkCal_within.after h1) _ (State.advance_within.after (.refl s)))

theorem execOcxoWarmChange_within {dt devMk heaterMw} {s : State} : Steps
    (fun s t => { s.noted t with
      time := t.time, ocxo := t.ocxo, sel := { s.sel with yHist := t.sel.yHist, yAt := t.sel.yAt }, hold := t.hold })
    s (execOcxoWarmChange dt devMk heaterMw s) := by
  unfold execOcxoWarmChange
  exact .via (.put (State.flushY_within.after (State.advance_within.after (.refl s)))) fun h1 => .next (.ite
    (State.conditionEnds_within.after (State.post_within.after (.put h1))) (.ite (State.condition_within.after (State.post_within.after
    (State.post_within.after (.put h1)))) h1))

theorem execLedgerFlushDone_within {dt} {s : State} : Steps
    (fun s t => { s.reported t with
      time := t.time, tci := { s.tci with mbx := t.tci.mbx, aside := t.tci.aside }, win := { s.win with closing := t.win.closing }
      dom := { s.dom with txSeq := t.dom.txSeq, queue := t.dom.queue }
      ts := { s.ts with
        ledger := t.ts.ledger, grants := t.ts.grants, load := t.ts.load, waiting := t.ts.waiting, credit := t.ts.credit
        servedAt := t.ts.servedAt, counters := t.ts.counters, ptpSeq := t.ts.ptpSeq }
      ports := t.ports, sw := { s.sw with peak := t.sw.peak, qCtr := t.sw.qCtr, nextId := t.sw.nextId } })
    s (execLedgerFlushDone dt s) := by
  unfold execLedgerFlushDone
  refine .next ?_
  split
  · exact State.advance_within.after (.refl s)
  · exact State.finish_within.after (.put (State.cancelGrants_within.after (State.advance_within.after (.refl s))))

theorem execBnLaneZeroised_within {dt lane} {s : State} : Steps
    (fun s t => { s.reported t with
      time := t.time, tci := { s.tci with mbx := t.tci.mbx, aside := t.tci.aside }, win := { s.win with closing := t.win.closing }
      dom := { s.dom with txSeq := t.dom.txSeq, queue := t.dom.queue }, bn := { s.bn with lanes := t.bn.lanes } })
    s (execBnLaneZeroised dt lane s) := by
  unfold execBnLaneZeroised
  exact .via (State.advance_within.after (.refl s)) fun h1 => .ite .fault (.next (.ite (State.finishAll_within.after
    (State.setLane_within.after h1)) h1))

theorem execTimeSnapCapture_within {dt} {s : State} : Steps
    (fun s t => { s with time := t.time, snap := t.snap })
    s (execTimeSnapCapture dt s) := by
  unfold execTimeSnapCapture
  exact .next (State.takeSnap_within.after (State.advance_within.after (.refl s)))

theorem execRootRoundAdvance_within {dt} {s : State} : Steps
    (fun s t => { s.noted t with
      time := t.time, tci := { s.tci with mbx := t.tci.mbx, aside := t.tci.aside }, win := { s.win with closing := t.win.closing }
      dom := { s.dom with txSeq := t.dom.txSeq, queue := t.dom.queue }
      cue := { s.cue with
        rows := t.cue.rows, nextSeq := t.cue.nextSeq, executed := t.cue.executed, late := t.cue.late, dropped := t.cue.dropped
        kept := t.cue.kept }
      cap := { s.cap with producer := t.cap.producer, consumer := t.cap.consumer }
      rnd := { t.rnd with
        round := s.rnd.round, inst := s.rnd.inst, seen := s.rnd.seen, lastRound := s.rnd.lastRound, nextRound := s.rnd.nextRound }
      mem := { s.mem with
        bytes := t.mem.bytes, lines := t.mem.lines, recent := t.mem.recent, repeats := t.mem.repeats, toRetire := t.mem.toRetire
        flip := t.mem.flip, counters := t.mem.counters } })
    s (execRootRoundAdvance dt s) := by
  unfold execRootRoundAdvance
  exact .next (State.rootAdvance_within.after (State.advance_within.after (.refl s)))

theorem execCuePrefetchDeadline_within {dt} {s : State} : Steps
    (fun s t => { s.noted t with
      time := t.time
      cue := { s.cue with rows := t.cue.rows, executed := t.cue.executed, late := t.cue.late, dropped := t.cue.dropped, kept := t.cue.kept }
      cap := { s.cap with producer := t.cap.producer, consumer := t.cap.consumer }
      mem := { s.mem with
        bytes := t.mem.bytes, lines := t.mem.lines, recent := t.mem.recent, repeats := t.mem.repeats, toRetire := t.mem.toRetire
        flip := t.mem.flip, counters := t.mem.counters } })
    s (execCuePrefetchDeadline dt s) := by
  unfold execCuePrefetchDeadline
  exact .next (.foldl (fun _ _ h1 => State.endRow_within.after h1) _ (State.advance_within.after (.refl s)))

theorem execToutMonitorCheck_within {dt output counted} {s : State} : Steps
    (fun s t => { s.noted t with time := t.time, meas := { t.meas with job := s.meas.job, linkCals := s.meas.linkCals }, outs := t.outs })
    s (execToutMonitorCheck dt output counted s) := by
  unfold execToutMonitorCheck
  refine .ite .fault ?_
  refine .next ?_
  refine .ite (State.advance_within.after (.refl s)) ?_
  split
  · exact State.startTurn_within.after (State.updChan_within.after (State.advance_within.after (.refl s)))
  · exact .via (State.updOut_within.after (State.startTurn_within.after (State.updChan_within.after (State.advance_within.after (.refl
      s))))) fun h1 => .ite (State.condition_within.after h1) (.ite h1 (State.conditionEnds_within.after h1))

theorem execSlewEnd_within {dt} {s : State} : Steps (fun s t => { s with time := t.time }) s (execSlewEnd dt s) := by
  unfold execSlewEnd
  exact .via (State.advance_within.after (.refl s)) fun h1 => .next (.ite (.put h1) h1)

theorem execPauseGenerate_within {dt port} {s : State} : Steps
    (fun s t => { s with time := t.time, ports := t.ports })
    s (execPauseGenerate dt port s) := by
  unfold execPauseGenerate
  exact .withPort (.ite (State.advance_within.after (.refl s)) (.ite (.ite (State.updPort_within.after (State.advance_within.after
    (.refl s))) (State.advance_within.after (.refl s))) (.ite (State.updPort_within.after (State.advance_within.after (.refl s))) (.ite
    (State.updPort_within.after (State.advance_within.after (.refl s))) (State.advance_within.after (.refl s))))))

theorem execPwrOkRise_within {dt r} {s : State} : Steps
    (fun s t => { s.noted t with time := t.time, ocxo := { s.ocxo with heaterAt := t.ocxo.heaterAt }, plat := t.plat })
    s (execPwrOkRise dt r s) := by
  unfold execPwrOkRise
  exact .via (.put ((State.advance_within (n := dt)).after (.refl s))) fun h1 => .next (.ite (State.tryMarch_within.after
    (State.warnIfFallen_within.after (State.readRails_within.after h1))) h1)

theorem execTakeoverStartTimeout_within {dt} {s : State} : Steps
    (fun s t => { s.noted t with
      time := t.time, fw := { s.fw with slot := t.fw.slot, fallback := t.fw.fallback, recovery := t.fw.recovery, imageOk := t.fw.imageOk }
      flt := { t.flt with
        quietS := s.flt.quietS, takeoverSeen := s.flt.takeoverSeen, takeovers := s.flt.takeovers, takeSource := s.flt.takeSource
        takeStart := s.flt.takeStart, checkDue := s.flt.checkDue, checkFailed := s.flt.checkFailed, excs := s.flt.excs
        injects := s.flt.injects } })
    s (execTakeoverStartTimeout dt s) := by
  unfold execTakeoverStartTimeout
  extract_lets +onlyGivenNames s1
  refine .next ?_
  refine .via (t := s1) (State.advance_within.after (.refl s)) fun h1 => ?_
  clear_value s1
  split
  · refine .ite h1 ?_
    extract_lets +onlyGivenNames _ s2 say
    refine .via (t := s2) (State.chooseImage_within.after (.put h1)) fun h2 => ?_
    clear_value s2
    exact State.noteFrom_within.after (.put h2)
  · exact h1

theorem execMemScrubDone_within {dt} {s : State} : Steps
    (fun s t => { s.noted t with
      time := t.time, tci := { s.tci with mbx := t.tci.mbx, aside := t.tci.aside }, win := { s.win with closing := t.win.closing }
      dom := { s.dom with txSeq := t.dom.txSeq, queue := t.dom.queue }
      mem := { s.mem with
        lines := t.mem.lines, recent := t.mem.recent, repeats := t.mem.repeats, toRetire := t.mem.toRetire, flip := t.mem.flip
        scrub := t.mem.scrub, counters := t.mem.counters } })
    s (execMemScrubDone dt s) := by
  unfold execMemScrubDone
  extract_lets +onlyGivenNames s1
  refine .next ?_
  refine .via (t := s1) (State.advance_within.after (.refl s)) fun h1 => ?_
  clear_value s1
  split
  · exact h1
  next x _ =>
  extract_lets +onlyGivenNames keys
  split
  next y s2 hx =>
  have h2 := Within.foldl_snd (fun a k h => (State.scrubLine_within (k := k) (a := a)).after h) keys (p := (x, s1)) h1
  rw [hx] at h2
  extract_lets +onlyGivenNames unwritten old new s3
  have set : ∀ x y, Within _ s { s2 with mem := { s2.mem with scrub := x, counters := y } } := fun x y => .put h2
  exact State.finish_within.after (State.counterHalf_within.after (set _ _))

theorem execSlewStart_within {dt} {s : State} : Steps
    (fun s t => { s.reported t with
      time := t.time, tci := { s.tci with mbx := t.tci.mbx, aside := t.tci.aside }, win := { s.win with closing := t.win.closing }
      refs := t.refs
      sel := { t.sel with
        mode := s.sel.mode, manual := s.sel.manual, wtr := s.sel.wtr, actMode := s.sel.actMode, actManual := s.sel.actManual
        actWtr := s.sel.actWtr, fell := s.sel.fell, pairs := s.sel.pairs, selected := s.sel.selected, loopHeld := s.sel.loopHeld
        loopAt := s.sel.loopAt, integ := s.sel.integ, eHist := s.sel.eHist, everLocked := s.sel.everLocked, lastRef := s.sel.lastRef
        lastUpdate := s.sel.lastUpdate }
      hold := t.hold, dom := { s.dom with txSeq := t.dom.txSeq, queue := t.dom.queue } })
    s (execSlewStart dt s) := by
  unfold execSlewStart
  refine .next ?_
  split
  · exact .ite (State.advance_within.after (.refl s)) (State.settleTiming_within.after (State.startSched_within.after
      (State.takeSched_within.after (State.advance_within.after (.refl s)))))
  · exact State.advance_within.after (.refl s)

theorem execMidwinterStored_within {dt bytes truncated} {s : State} : Steps
    (fun s t => { s.reported t with
      time := t.time, mid := { t.mid with nextSeq := s.mid.nextSeq }, plat := { s.plat with flashWork := t.plat.flashWork } })
    s (execMidwinterStored dt bytes truncated s) := by
  unfold execMidwinterStored
  refine .next ?_
  refine .ite (State.advance_within.after (.refl s)) ?_
  refine .ite (State.suspend_within.after (State.advance_within.after (.refl s))) ?_
  split
  · exact State.advance_within.after (.refl s)
  · exact State.noteFrom_within.after (State.post_within.after (.put ((State.advance_within (n := dt)).after (.refl s))))

theorem execThermalRelease_within {dt tj} {s : State} : Steps
    (fun s t => { s with time := t.time, plat := { s.plat with tjMax := t.plat.tjMax, hot := t.plat.hot, inReset := t.plat.inReset } })
    s (execThermalRelease dt tj s) := by
  unfold execThermalRelease
  exact .via (State.advance_within.after (.refl s)) fun h1 => .next (.ite (State.setHold_within.after (.put h1)) h1)

theorem execCaptureRingQuiescent_within {dt} {s : State} : Steps
    (fun s t => { s.reported t with
      time := t.time, tci := { s.tci with mbx := t.tci.mbx, aside := t.tci.aside }, win := { s.win with closing := t.win.closing }
      dom := { s.dom with txSeq := t.dom.txSeq, queue := t.dom.queue }, cap := { s.cap with draining := t.cap.draining } })
    s (execCaptureRingQuiescent dt s) := by
  unfold execCaptureRingQuiescent
  exact .via (State.advance_within.after (.refl s)) fun h1 => .next (.ite (State.finish_within.after (.put h1)) h1)

theorem execDramUncorrectableRead_within {dt master region line soft stuck} {s : State} : Steps
    (fun s t => { s.noted t with
      time := t.time
      cue := { s.cue with rows := t.cue.rows, executed := t.cue.executed, late := t.cue.late, dropped := t.cue.dropped, kept := t.cue.kept }
      cap := { s.cap with producer := t.cap.producer, consumer := t.cap.consumer }, ts := { s.ts with ledger := t.ts.ledger }
      mem := { s.mem with
        bytes := t.mem.bytes, lines := t.mem.lines, recent := t.mem.recent, repeats := t.mem.repeats, toRetire := t.mem.toRetire
        flip := t.mem.flip, counters := t.mem.counters } })
    s (execDramUncorrectableRead dt master region line soft stuck s) := by
  unfold execDramUncorrectableRead
  exact .ite (.via (State.dramRead_within.after (State.hurt_within.after (State.advance_within.after (.refl s)))) fun h1 => .next (.ite
    h1 (State.readerOutcome_within.after h1))) .fault

theorem execBootImageSelect_within {dt} {s : State} : Steps State.commanded s (execBootImageSelect dt s) := by
  unfold execBootImageSelect
  refine .next ?_
  refine .ite (State.advance_within.after (.refl s)) ?_
  split
  · exact State.runRung_within.after (State.fault_within.after (.put ((State.advance_within (n := dt)).after (.refl s))))
  · exact .via (.put ((State.advance_within (n := dt)).after (.refl s))) fun h1 => .ite (State.fault_within.after h1) h1

theorem execFaultQuietExpire_within {dt} {s : State} : Steps
    (fun s t => { s.reported t with
      time := t.time
      flt := { s.flt with
        records := t.flt.records, src := t.flt.src, frozen := t.flt.frozen, faultN := t.flt.faultN, recoveries := t.flt.recoveries
        nextOpen := t.flt.nextOpen, takeRec := t.flt.takeRec } })
    s (execFaultQuietExpire dt s) := by
  unfold execFaultQuietExpire
  exact .next (State.clearWhere_within.after (State.advance_within.after (.refl s)))

theorem execLockAchieved_within {dt} {s : State} : Steps
    (fun s t => { s.reported t with
      time := t.time, refs := t.refs
      sel := { s.sel with
        state := t.sel.state, since := t.sel.since, lockRun := t.sel.lockRun, pendingPhase := t.sel.pendingPhase, e0 := t.sel.e0
        blocked := t.sel.blocked, tested := t.sel.tested, lastType := t.sel.lastType, lockType := t.sel.lockType, lockTr := t.sel.lockTr
        everLocked := t.sel.everLocked, clockClass := t.sel.clockClass, acqClass := t.sel.acqClass, yHist := t.sel.yHist, yAt := t.sel.yAt
        stateAt := t.sel.stateAt }
      hold := t.hold })
    s (execLockAchieved dt s) := by
  unfold execLockAchieved
  refine .next ?_
  split
  · exact .ite (State.settleTiming_within.after (State.enterSel_within.after (.put ((State.advance_within (n := dt)).after (.refl s)))))
      (State.advance_within.after (.refl s))
  · exact State.advance_within.after (.refl s)

theorem execDenyRequest_within {dt r} {s : State} : Steps
    (fun s t => { s.reported t with
      time := t.time, ts := { s.ts with ledger := t.ts.ledger, grants := t.ts.grants, denyKiss := t.ts.denyKiss, counters := t.ts.counters }
      ports := t.ports, sw := { s.sw with peak := t.sw.peak, qCtr := t.sw.qCtr, nextId := t.sw.nextId } })
    s (execDenyRequest dt r s) := by
  unfold execDenyRequest
  exact .withPort (.ite (State.advance_within.after (.refl s)) (.ite (State.tsCount_within.after (State.advance_within.after (.refl s)))
    (.ite (State.denied_within.after (State.advance_within.after (.refl s))) (State.advance_within.after (.refl s)))))

theorem execFlipMaskWrite_within {dt data} {s : State} : Steps
    (fun s t => { s.noted t with
      time := t.time
      mem := { s.mem with
        bytes := t.mem.bytes, lines := t.mem.lines, recent := t.mem.recent, repeats := t.mem.repeats, toRetire := t.mem.toRetire
        flip := t.mem.flip, flipped := t.mem.flipped, counters := t.mem.counters } })
    s (execFlipMaskWrite dt data s) := by
  unfold execFlipMaskWrite
  exact .via (State.advance_within.after (.refl s)) fun h1 => .next (.ite h1 (.ite (.ite (State.windowWrite_within.after h1)
    (State.dramWrite_within.after h1)) (.put h1)))

theorem execCueCancelFrame_within {dt f} {s : State} : Steps
    (fun s t => { s.noted t with
      time := t.time, dom := { s.dom with txSeq := t.dom.txSeq, queue := t.dom.queue }
      cue := { t.cue with closedGates := s.cue.closedGates, issued := s.cue.issued, results := s.cue.results, nextRound := s.cue.nextRound }
      cap := { s.cap with producer := t.cap.producer, consumer := t.cap.consumer }, ports := t.ports
      mem := { s.mem with
        bytes := t.mem.bytes, lines := t.mem.lines, recent := t.mem.recent, repeats := t.mem.repeats, toRetire := t.mem.toRetire
        flip := t.mem.flip, counters := t.mem.counters } })
    s (execCueCancelFrame dt f s) := by
  unfold execCueCancelFrame
  exact .withPort (.via (State.acceptDomain_within.after (State.advance_within.after (.refl s))) fun h1 => .ite h1
    (State.joinRound_within.after (State.toChildren_within.after h1)))

theorem execPortQuiescent_within {dt port} {s : State} : Steps
    (fun s t => { s.reported t with time := t.time, ports := t.ports })
    s (execPortQuiescent dt port s) := by
  unfold execPortQuiescent
  exact .withPort (.ite (.via (State.updPort_within.after (State.advance_within.after (.refl s))) fun h1 => .ite
    (State.startPcs_within.after h1) h1) (State.advance_within.after (.refl s)))

theorem execPwrOkFall_within {dt} {s : State} : Steps
    (fun s t => { s.noted t with
      time := t.time
      plat := { s.plat with
        pwrOk := t.plat.pwrOk, warn := t.plat.warn, warnTick := t.plat.warnTick, clearAt := t.plat.clearAt, lastWarn := t.plat.lastWarn
        v12Ep := t.plat.v12Ep, vcoreEp := t.plat.vcoreEp } })
    s (execPwrOkFall dt s) := by
  unfold execPwrOkFall
  exact .via (.put ((State.advance_within (n := dt)).after (.refl s))) fun h1 => .next (.ite (State.setWarn_within.after h1) h1)

theorem execPtpSlaveAnnounce_within {dt port m} {s : State} : Steps
    (fun s t => { s.reported t with
      time := t.time, refs := t.refs
      sel := { t.sel with
        mode := s.sel.mode, manual := s.sel.manual, wtr := s.sel.wtr, actMode := s.sel.actMode, actManual := s.sel.actManual
        actWtr := s.sel.actWtr, loopHeld := s.sel.loopHeld, integ := s.sel.integ, everLocked := s.sel.everLocked
        lastUpdate := s.sel.lastUpdate }
      hold := t.hold
      ts := { s.ts with
        load := t.ts.load, waiting := t.ts.waiting, credit := t.ts.credit, servedAt := t.ts.servedAt, counters := t.ts.counters
        announceAt := t.ts.announceAt, ptpSeq := t.ts.ptpSeq, master := t.ts.master, masterId := t.ts.masterId, pair := t.ts.pair }
      ports := t.ports, sw := { s.sw with peak := t.sw.peak, qCtr := t.sw.qCtr, nextId := t.sw.nextId } })
    s (execPtpSlaveAnnounce dt port m s) := by
  unfold execPtpSlaveAnnounce
  exact .withPort (State.settleTiming_within.after (State.slaveTakes_within.after (State.advance_within.after (.refl s))))

theorem execGnssSurveyDone_within {dt} {s : State} : Steps
    (fun s t => { s.noted t with
      time := t.time
      gnss := { s.gnss with
        holdS := t.gnss.holdS, fixAt := t.gnss.fixAt, rx := t.gnss.rx, since := t.gnss.since, toStore := t.gnss.toStore
        solution := t.gnss.solution, stored := t.gnss.stored, held := t.gnss.held }
      plat := { s.plat with flashWork := t.plat.flashWork } })
    s (execGnssSurveyDone dt s) := by
  unfold execGnssSurveyDone
  exact .via (State.advance_within.after (.refl s)) fun h1 => .next (.ite (State.settleGnss_within.after (State.postAt_within.after
    (State.storePosition_within.after (.put h1)))) h1)

theorem execAttendActionResume_within {dt} {s : State} : Steps State.commanded s (execAttendActionResume dt s) := by
  unfold execAttendActionResume
  refine .next ?_
  split
  · exact .ite (State.advance_within.after (.refl s)) (State.actOn_within.after (.put ((State.advance_within (n := dt)).after (.refl
      s))))
  · exact State.advance_within.after (.refl s)

theorem execHportHoldoffExpire_within {dt vector} {s : State} : Steps
    (fun s t => { s.vectored t with time := t.time })
    s (execHportHoldoffExpire dt vector s) := by
  unfold execHportHoldoffExpire
  exact .via (State.advance_within.after (.refl s)) fun h1 => .ite .fault (.next (.ite (State.signal_within.after (.put h1)) h1))

theorem execHportRxTailWrite_within {dt ring value} {s : State} : Steps
    (fun s t => { s with time := t.time, host := { s.host with rings := t.host.rings } })
    s (execHportRxTailWrite dt ring value s) := by
  unfold execHportRxTailWrite
  exact .ite .fault (.next (State.updRing_within.after (State.advance_within.after (.refl s))))

theorem execBankLostLoad_within {dt headers} {s : State} : Steps
    (fun s t => { s.noted t with
      time := t.time, meas := { t.meas with job := s.meas.job, linkCals := s.meas.linkCals }, refs := t.refs
      sel := { t.sel with
        mode := s.sel.mode, manual := s.sel.manual, wtr := s.sel.wtr, actMode := s.sel.actMode, actManual := s.sel.actManual
        actWtr := s.sel.actWtr, loopHeld := s.sel.loopHeld, integ := s.sel.integ, everLocked := s.sel.everLocked
        lastUpdate := s.sel.lastUpdate }
      hold := t.hold, outs := t.outs, gnss := t.gnss, dom := t.dom
      ts := { s.ts with
        ntp := t.ts.ntp, nts := t.ts.nts, ptp := t.ts.ptp, draining := t.ts.draining, derivedAt := t.ts.derivedAt, grants := t.ts.grants
        load := t.ts.load, waiting := t.ts.waiting, credit := t.ts.credit, servedAt := t.ts.servedAt, counters := t.ts.counters
        announceAt := t.ts.announceAt, ptpSeq := t.ts.ptpSeq, master := t.ts.master, masterId := t.ts.masterId, pair := t.ts.pair }
      ports := t.ports, sw := { s.sw with macs := t.sw.macs, peak := t.sw.peak, qCtr := t.sw.qCtr, nextId := t.sw.nextId }
      banks := { t.banks with
        drainFrom := s.banks.drainFrom, drainDrops := s.banks.drainDrops, lastDrain := s.banks.lastDrain, drainDrop := s.banks.drainDrop
        missed := s.banks.missed, lastCommit := s.banks.lastCommit, checkOk := s.banks.checkOk }
      rnd := { s.rnd with part := t.rnd.part }, keys := { s.keys with cache := t.keys.cache } })
    s (execBankLostLoad dt headers s) := by
  unfold execBankLostLoad
  exact .via (State.advance_within.after (.refl s)) fun h1 => .next (.ite (State.fault_within.after (State.loadBank_within.after (.put
    h1))) h1)

theorem execResetNAssert_within {dt service factory} {s : State} : Steps
    (fun s t => { t with pending := s.pending })
    s (execResetNAssert dt service factory s) := by
  unfold execResetNAssert
  exact .via (State.advance_within.after (.refl s)) fun h1 => .next (.ite h1 (.via (.put h1) fun h2 => .ite
    (State.fullReset_within.after h2) h2))

theorem execPrepare_within {dt f} {s : State} : Steps
    (fun s t => { s.reported t with
      time := t.time, dom := { s.dom with txSeq := t.dom.txSeq, queue := t.dom.queue }, ports := t.ports, rnd := t.rnd })
    s (execPrepare dt f s) := by
  exact takeDown_within fun _ h => State.onPrepare_within.after h

theorem execEvtLostRead_within {dt} {s : State} : Steps
    (fun s t => { s with
      time := t.time, snap := t.snap, evt := { s.evt with lost := t.evt.lost }, win := { s.win with stray := t.win.stray }, trace := t.trace })
    s (execEvtLostRead dt s) := by
  unfold execEvtLostRead
  split
  next v s1 hx =>
  have h1 := (State.readReg_within (offset := 0x58) (s := s.advance dt))
  rw [hx] at h1
  exact .next (State.emit_within.after (h1.after (State.advance_within.after (.refl s))))

theorem execTrunkExchange_within {dt port heard m phase lane moves} {s : State} : Steps
    (fun s t => { s.reported t with
      time := t.time, refs := t.refs
      sel := { t.sel with
        mode := s.sel.mode, manual := s.sel.manual, wtr := s.sel.wtr, actMode := s.sel.actMode, actManual := s.sel.actManual
        actWtr := s.sel.actWtr, loopHeld := s.sel.loopHeld, integ := s.sel.integ, everLocked := s.sel.everLocked
        lastUpdate := s.sel.lastUpdate }
      hold := t.hold, ts := { s.ts with ptpSeq := t.ts.ptpSeq }, ports := t.ports
      sw := { s.sw with peak := t.sw.peak, qCtr := t.sw.qCtr, nextId := t.sw.nextId } })
    s (execTrunkExchange dt port heard m phase lane moves s) := by
  unfold execTrunkExchange
  exact .withPort (State.settleTiming_within.after (.ite (State.exchangeTake_within.after (State.advance_within.after (.refl s)))
    (State.exchangeTurn_within.after (State.advance_within.after (.refl s)))))

theorem execServiceArp_within {dt r} {s : State} : Steps
    (fun s t => { s.reported t with
      time := t.time
      ts := { s.ts with
        stranger := t.ts.stranger, strangerTick := t.ts.strangerTick, capDropAt := t.ts.capDropAt, offered := t.ts.offered
        load := t.ts.load, waiting := t.ts.waiting, credit := t.ts.credit, servedAt := t.ts.servedAt, admitUse := t.ts.admitUse
        counters := t.ts.counters }
      ports := t.ports, sw := { s.sw with peak := t.sw.peak, qCtr := t.sw.qCtr, nextId := t.sw.nextId } })
    s (execServiceArp dt r s) := by
  unfold execServiceArp
  exact .withPort (State.serviceArp_within.after (State.advance_within.after (.refl s)))

theorem execOutputEdge_within {dt output} {s : State} : Steps
    (fun s t => { s.reported t with time := t.time, outs := t.outs })
    s (execOutputEdge dt output s) := by
  unfold execOutputEdge
  exact .via (State.advance_within.after (.refl s)) fun h1 => .ite .fault (.next (.ite h1 (.ite (State.counterHalf_within.after
    (State.updOut_within.after h1)) (State.showEdge_within.after (State.showEdge_within.after (State.updOut_within.after h1))))))

theorem execRetirementPersist_within {dt} {s : State} : Steps
    (fun s t => { s with time := t.time, mem := { s.mem with retiredDirty := t.mem.retiredDirty, retiredFlash := t.mem.retiredFlash } })
    s (execRetirementPersist dt s) := by
  unfold execRetirementPersist
  exact .via (State.advance_within.after (.refl s)) fun h1 => .next (.ite (.put h1) h1)

theorem execEvtTailWrite_within {dt value} {s : State} : Steps
    (fun s t => { s.raised t with time := t.time, evt := { t.evt with lost := s.evt.lost, kept := s.evt.kept } })
    s (execEvtTailWrite dt value s) := by
  unfold execEvtTailWrite
  exact .next (State.setEvtTail_within.after (State.advance_within.after (.refl s)))

theorem execDupIdClear_within {dt} {s : State} : Steps
    (fun s t => { s.reported t with
      time := t.time, dom := { s.dom with dupId := t.dom.dupId }
      flt := { s.flt with
        records := t.flt.records, src := t.flt.src, frozen := t.flt.frozen, faultN := t.flt.faultN, recoveries := t.flt.recoveries
        nextOpen := t.flt.nextOpen, takeRec := t.flt.takeRec } })
    s (execDupIdClear dt s) := by
  unfold execDupIdClear
  exact .via (State.advance_within.after (.refl s)) fun h1 => .next (.ite (State.conditionEnds_within.after (.put h1)) h1)

theorem execRefEvaluation_within {dt ref} {s : State} : Steps
    (fun s t => { s.reported t with
      time := t.time, refs := t.refs
      sel := { t.sel with
        mode := s.sel.mode, manual := s.sel.manual, wtr := s.sel.wtr, loopHeld := s.sel.loopHeld, integ := s.sel.integ
        everLocked := s.sel.everLocked, lastUpdate := s.sel.lastUpdate }
      hold := t.hold })
    s (execRefEvaluation dt ref s) := by
  unfold execRefEvaluation
  extract_lets +onlyGivenNames s1
  refine .via (t := s1) (State.advance_within.after (.refl s)) fun h1 => .ite .fault ?_
  clear_value s1
  extract_lets +onlyGivenNames b x cuts done
  clear_value cuts done
  split
  · extract_lets +onlyGivenNames close
    refine .ite (.next h1) ?_
    extract_lets +onlyGivenNames inA inC
    split
    extract_lets +onlyGivenNames closeRaw comp useC
    split
    extract_lets +onlyGivenNames parts partsC s2
    refine .via (t := s2) (State.updRef_within.after h1) fun h2 => ?_
    clear_value s2
    refine .ite (.next h2) (.next ?_)
    exact State.settleTiming_within.after (State.evaluate_within.after (State.updRef_within.after h2))
  · exact .next h1

theorem execLeapPendingStart_within {dt} {s : State} : Steps
    (fun s t => { s with time := t.time, leap := { s.leap with pending := t.leap.pending, dir := t.leap.dir, pendAt := t.leap.pendAt } })
    s (execLeapPendingStart dt s) := by
  unfold execLeapPendingStart
  exact .via (State.advance_within.after (.refl s)) fun h1 => .next (.ite (State.leapFlags_within.after h1) h1)

theorem execHeartbeatStale_within {dt} {s : State} : Steps
    (fun s t => { s.reported t with
      time := t.time, refs := t.refs
      sel := { t.sel with
        mode := s.sel.mode, manual := s.sel.manual, wtr := s.sel.wtr, actMode := s.sel.actMode, actManual := s.sel.actManual
        actWtr := s.sel.actWtr, loopHeld := s.sel.loopHeld, integ := s.sel.integ, everLocked := s.sel.everLocked
        lastUpdate := s.sel.lastUpdate }
      hold := t.hold, dom := t.dom })
    s (execHeartbeatStale dt s) := by
  unfold execHeartbeatStale
  exact .via (State.advance_within.after (.refl s)) fun h1 => .next (.ite (State.settleTiming_within.after (State.retree_within.after
    h1)) h1)

theorem execFullReset_within {dt service factory} {s : State} : Steps
    (fun s t => { t with pending := s.pending })
    s (execFullReset dt service factory s) := by
  unfold execFullReset
  exact .via (State.advance_within.after (.refl s)) fun h1 => .next (.ite (State.fullReset_within.after h1) h1)

theorem execRoundUpSend_within {dt} {s : State} : Steps
    (fun s t => { s with
      time := t.time, dom := { s.dom with txSeq := t.dom.txSeq, queue := t.dom.queue }, rnd := { s.rnd with up := t.rnd.up } })
    s (execRoundUpSend dt s) := by
  unfold execRoundUpSend
  exact .via (State.advance_within.after (.refl s)) fun h1 => .next (.ite h1 (.foldl (fun _ _ h2 => State.sendUp_within.after h2) _ h1))

theorem execGnssIndicator_within {dt} {s : State} : Steps
    (fun s t => { s.reported t with time := t.time, gnss := t.gnss })
    s (execGnssIndicator dt s) := by
  unfold execGnssIndicator
  exact .via (State.advance_within.after (.refl s)) fun h1 => .next (.ite h1 (State.applyIndicators_within.after h1))

theorem execSnoopPacket_within {dt port vlan kind ms v6 groups} {s : State} : Steps
    (fun s t => { s.reported t with time := t.time, sw := t.sw })
    s (execSnoopPacket dt port vlan kind ms v6 groups s) := by
  unfold execSnoopPacket
  exact .withPort (.ite (State.advance_within.after (.refl s)) (.ite (.foldl (fun _ _ h1 => State.snoopSpecific_within.after h1) _ (.put
    ((State.advance_within (n := dt)).after (.refl s)))) (.ite (.foldl (fun _ _ h2 => State.snoopReport_within.after h2) _
    (State.advance_within.after (.refl s))) (.ite (.foldl (fun _ _ h3 => State.snoopLeave_within.after h3) _ (State.advance_within.after
    (.refl s))) (State.advance_within.after (.refl s))))))

theorem execBnOpStart_within {dt data} {s : State} : Steps
    (fun s t => { s.reported t with
      time := t.time, tci := { s.tci with mbx := t.tci.mbx, aside := t.tci.aside }, win := { s.win with closing := t.win.closing }
      dom := { s.dom with txSeq := t.dom.txSeq, queue := t.dom.queue }, bn := { s.bn with lanes := t.bn.lanes, queue := t.bn.queue } })
    s (execBnOpStart dt data s) := by
  unfold execBnOpStart
  refine .next ?_
  split
  · exact .via (.put ((State.advance_within (n := dt)).after (.refl s))) fun h1 => .ite (State.answerJob_within.after h1)
      (State.setLane_within.after h1)
  · exact State.advance_within.after (.refl s)

theorem execRefLos_within {dt ref} {s : State} : Steps
    (fun s t => { s.reported t with
      time := t.time, refs := t.refs
      sel := { t.sel with
        mode := s.sel.mode, manual := s.sel.manual, wtr := s.sel.wtr, actMode := s.sel.actMode, actManual := s.sel.actManual
        actWtr := s.sel.actWtr, loopHeld := s.sel.loopHeld, integ := s.sel.integ, everLocked := s.sel.everLocked
        lastUpdate := s.sel.lastUpdate }
      hold := t.hold })
    s (execRefLos dt ref s) := by
  unfold execRefLos
  exact .via (State.advance_within.after (.refl s)) fun h1 => .ite .fault (.next (.ite (State.settleTiming_within.after
    (State.disqualify_within.after (State.updRef_within.after h1))) h1))

theorem execRegisterWrite_within {dt offset access value} {s : State} : Steps
    (fun s t => { s.commanded t with
      snap := t.snap, pace := { s.pace with lowest := t.pace.lowest, negSeen := t.pace.negSeen, pct := t.pace.pct }, tci := t.tci
      intr := { t.intr with msixEn := s.intr.msixEn }
      win := { t.win with
        raw := s.win.raw, rawAt := s.win.rawAt, present := s.win.present, pressAt := s.win.pressAt, counted := s.win.counted } })
    s (execRegisterWrite dt offset access value s) := by
  unfold execRegisterWrite
  refine .next ?_
  split
  · exact .ite (State.barWrite_within.after (State.advance_within.after (.refl s))) (State.advance_within.after (.refl s))
  · exact .ite (State.emit_within.after (State.barRead_within.after (State.advance_within.after (.refl s)))) (State.advance_within.after
      (.refl s))
  · exact State.spi_within.after (State.advance_within.after (.refl s))

theorem execHostRxDeliver_within {dt ring} {s : State} : Steps
    (fun s t => { s.raised t with time := t.time, host := t.host })
    s (execHostRxDeliver dt ring s) := by
  unfold execHostRxDeliver
  refine .ite .fault ?_
  refine .next ?_
  split
  · exact State.advance_within.after (.refl s)
  · exact .ite (State.advance_within.after (.refl s)) (.via (.put ((State.advance_within (n := dt)).after (.refl s))) fun h1 => .ite h1
      (.ite (State.hostCount_within.after h1) (.ite (State.hostCount_within.after h1) (.via (State.emit_within.after
      (State.hostCount_within.after (State.hostCount_within.after h1))) fun h2 => State.raiseInt_within.after (State.updRing_within.after
      (.ite (State.emit_within.after h2) h2))))))

theorem execPerstNRelease_within {dt} {s : State} : Steps
    (fun s t => { s with time := t.time, plat := { s.plat with perst := t.plat.perst } })
    s (execPerstNRelease dt s) := by
  unfold execPerstNRelease
  exact .next (.put ((State.advance_within (n := dt)).after (.refl s)))

theorem execBar2Write_within {dt offset access} {s : State} : Steps
    (fun s t => { s.noted t with
      time := t.time
      mem := { s.mem with
        bytes := t.mem.bytes, lines := t.mem.lines, recent := t.mem.recent, repeats := t.mem.repeats, toRetire := t.mem.toRetire
        flip := t.mem.flip, counters := t.mem.counters } })
    s (execBar2Write dt offset access s) := by
  unfold execBar2Write
  refine .next ?_
  refine .ite (State.advance_within.after (.refl s)) ?_
  split
  · exact State.windowWrite_within.after (State.advance_within.after (.refl s))
  · exact State.bar2Read_within.after (State.advance_within.after (.refl s))

theorem execNtpRequest_within {dt r} {s : State} : Steps
    (fun s t => { s.reported t with
      time := t.time
      ts := { s.ts with
        ledger := t.ts.ledger, grants := t.ts.grants, stranger := t.ts.stranger, strangerTick := t.ts.strangerTick
        capDropAt := t.ts.capDropAt, offered := t.ts.offered, load := t.ts.load, waiting := t.ts.waiting, credit := t.ts.credit
        servedAt := t.ts.servedAt, admitUse := t.ts.admitUse, denyKiss := t.ts.denyKiss, counters := t.ts.counters }
      ports := t.ports, sw := { s.sw with peak := t.sw.peak, qCtr := t.sw.qCtr, nextId := t.sw.nextId } })
    s (execNtpRequest dt r s) := by
  unfold execNtpRequest
  exact .withPort (State.ntpRequest_within.after (State.advance_within.after (.refl s)))

theorem execHostTxDescriptor_within {dt ring d f} {s : State} : Steps
    (fun s t => { s.reported t with
      time := t.time, ports := t.ports, host := t.host, sw := t.sw, bn := { s.bn with generates := t.bn.generates }, free := t.free })
    s (execHostTxDescriptor dt ring d f s) := by
  unfold execHostTxDescriptor
  exact .ite .fault (.next (State.hostSend_within.after (State.advance_within.after (.refl s))))

theorem execFaultEvent_within {dt source master access address injected} {s : State} : Steps
    (fun s t => { s.noted t with
      time := t.time, tci := { t.tci with doorbellErr := s.tci.doorbellErr }
      win := { s.win with
        state := t.win.state, held := t.win.held, pressIn := t.win.pressIn, actions := t.win.actions, closing := t.win.closing }
      inb := { s.inb with enable := t.inb.enable, disabling := t.inb.disabling }, fw := t.fw, meas := { t.meas with job := s.meas.job }
      refs := t.refs
      sel := { t.sel with
        mode := s.sel.mode, manual := s.sel.manual, wtr := s.sel.wtr, actMode := s.sel.actMode, actManual := s.sel.actManual
        actWtr := s.sel.actWtr, loopHeld := s.sel.loopHeld, integ := s.sel.integ, everLocked := s.sel.everLocked
        lastUpdate := s.sel.lastUpdate }
      hold := t.hold, outs := t.outs, gnss := t.gnss, dom := t.dom
      ts := { t.ts with
        ledger := s.ts.ledger, hashSeed := s.ts.hashSeed, stranger := s.ts.stranger, strangerTick := s.ts.strangerTick
        capDropAt := s.ts.capDropAt, offered := s.ts.offered, admitUse := s.ts.admitUse, denyKiss := s.ts.denyKiss
        rotateDue := s.ts.rotateDue, rotateLate := s.ts.rotateLate, lastRotation := s.ts.lastRotation, foreignAt := s.ts.foreignAt
        linkDelay := s.ts.linkDelay, linkPair := s.ts.linkPair, ptpNext := s.ts.ptpNext }
      ports := t.ports, sw := { s.sw with macs := t.sw.macs, peak := t.sw.peak, qCtr := t.sw.qCtr, nextId := t.sw.nextId }
      banks := { t.banks with
        edits := s.banks.edits, slots := s.banks.slots, lastDrain := s.banks.lastDrain, drainDrop := s.banks.drainDrop
        missed := s.banks.missed, loaded := s.banks.loaded, checkOk := s.banks.checkOk }
      keys := t.keys, bn := t.bn, flt := { t.flt with quietS := s.flt.quietS, checkFailed := s.flt.checkFailed }
      mid := { t.mid with overwritten := s.mid.overwritten, erase := s.mid.erase }, plat := { s.plat with flashWork := t.plat.flashWork }
      free := t.free })
    s (execFaultEvent dt source master access address injected s) := by
  unfold execFaultEvent
  exact .via (State.advance_within.after (.refl s)) fun h1 => .ite .fault (.next (.ite (State.fireInjected_within.after h1) (.ite
    (State.detect_within.after h1) (.ite (.ite (State.condition_within.after h1) h1) (State.fault_within.after
    (State.bootFailure_within.after h1))))))

theorem execThermalTrip_within {dt tj service factory} {s : State} : Steps
    (fun s t => { t with pending := s.pending })
    s (execThermalTrip dt tj service factory s) := by
  unfold execThermalTrip
  exact .via (State.advance_within.after (.refl s)) fun h1 => .next (.ite h1 (State.fullReset_within.after (.put h1)))

theorem execDramReadCorrect_within {dt master region line soft stuck} {s : State} : Steps
    (fun s t => { s.noted t with
      time := t.time
      mem := { s.mem with
        lines := t.mem.lines, recent := t.mem.recent, repeats := t.mem.repeats, toRetire := t.mem.toRetire, flip := t.mem.flip
        counters := t.mem.counters } })
    s (execDramReadCorrect dt master region line soft stuck s) := by
  unfold execDramReadCorrect
  exact .ite (.next (State.dramRead_within.after (State.hurt_within.after (State.advance_within.after (.refl s))))) .fault

theorem execLiveEditAck_within {dt} {s : State} : Steps
    (fun s t => { s.reported t with
      time := t.time, tci := { s.tci with mbx := t.tci.mbx, aside := t.tci.aside }, win := { s.win with closing := t.win.closing }
      dom := { s.dom with txSeq := t.dom.txSeq, queue := t.dom.queue }
      sw := { s.sw with portState := t.sw.portState, macs := t.sw.macs, edits := t.sw.edits } })
    s (execLiveEditAck dt s) := by
  unfold execLiveEditAck
  refine .next ?_
  split
  · exact State.advance_within.after (.refl s)
  · split
    · exact State.finish_within.after (.put ((State.advance_within (n := dt)).after (.refl s)))
    · exact State.finish_within.after (.put ((State.advance_within (n := dt)).after (.refl s)))

theorem execRefPhaseHit_within {dt ref} {s : State} : Steps
    (fun s t => { s.reported t with
      time := t.time, refs := t.refs
      sel := { t.sel with
        mode := s.sel.mode, manual := s.sel.manual, wtr := s.sel.wtr, actMode := s.sel.actMode, actManual := s.sel.actManual
        actWtr := s.sel.actWtr, loopHeld := s.sel.loopHeld, integ := s.sel.integ, everLocked := s.sel.everLocked
        lastUpdate := s.sel.lastUpdate }
      hold := t.hold })
    s (execRefPhaseHit dt ref s) := by
  unfold execRefPhaseHit
  exact .ite .fault (.next (State.settleTiming_within.after (State.countHit_within.after (State.advance_within.after (.refl s)))))

theorem execBankPersisted_within {dt} {s : State} : Steps
    (fun s t => { s.reported t with time := t.time, banks := { s.banks with persisted := t.banks.persisted, slots := t.banks.slots } })
    s (execBankPersisted dt s) := by
  unfold execBankPersisted
  exact .via (State.advance_within.after (.refl s)) fun h1 => .next (.ite h1 (State.post_within.after (.put h1)))

theorem execDomainQuiescent_within {dt} {s : State} : Steps
    (fun s t => { s with time := t.time, dom := { s.dom with draining := t.dom.draining } })
    s (execDomainQuiescent dt s) := by
  unfold execDomainQuiescent
  exact .via (State.advance_within.after (.refl s)) fun h1 => .next (.ite (.put h1) h1)

theorem execCalTableComplete_within {dt ch hits} {s : State} : Steps
    (fun s t => { s.noted t with
      time := t.time, tci := { s.tci with mbx := t.tci.mbx, aside := t.tci.aside }, win := { s.win with closing := t.win.closing }
      meas := { t.meas with job := s.meas.job, linkCals := s.meas.linkCals }, outs := t.outs
      dom := { s.dom with txSeq := t.dom.txSeq, queue := t.dom.queue } })
    s (execCalTableComplete dt ch hits s) := by
  unfold execCalTableComplete
  exact .via (State.advance_within.after (.refl s)) fun h1 => .ite .fault (.next (.ite h1 (.via (.ite (State.updChan_within.after h1)
    (.via (State.counterHalf_within.after (State.updChan_within.after h1)) fun h2 => .ite (State.fault_within.after h2) h2)) fun h3 =>
    .via (.ite (State.startTurn_within.after h3) h3) fun h4 => .ite (State.finish_within.after h4) h4)))

theorem execPtpEventMessage_within {dt m} {s : State} : Steps
    (fun s t => { s.reported t with
      time := t.time
      ts := { s.ts with
        ledger := t.ts.ledger, grants := t.ts.grants, stranger := t.ts.stranger, strangerTick := t.ts.strangerTick
        capDropAt := t.ts.capDropAt, offered := t.ts.offered, load := t.ts.load, waiting := t.ts.waiting, credit := t.ts.credit
        servedAt := t.ts.servedAt, admitUse := t.ts.admitUse, counters := t.ts.counters }
      ports := t.ports, sw := { s.sw with peak := t.sw.peak, qCtr := t.sw.qCtr, nextId := t.sw.nextId } })
    s (execPtpEventMessage dt m s) := by
  unfold execPtpEventMessage
  refine .withPort ?_
  refine .via (t := s.advance dt) (State.advance_within.after (.refl s)) fun h1 => ?_
  generalize s.advance dt = s1 at h1 ⊢
  exact .ite (State.ptpAccept_within h1 fun _ _ _ _ h => State.answerGranted_within h (State.delayResp_within.after h))
    (.ite (State.islandPdelay_within.after h1)
      (.ite (State.ptpAccept_within h1 fun _ _ _ _ h => State.answerGranted_within h (State.pdelayResp_within.after h))
        (.ite (State.ptpAccept_within h1 fun _ _ _ _ h => h) h1)))

theorem execUnicastNegotiation_within {dt m} {s : State} : Steps
    (fun s t => { s.reported t with
      time := t.time
      ts := { s.ts with
        ledger := t.ts.ledger, grants := t.ts.grants, stranger := t.ts.stranger, strangerTick := t.ts.strangerTick
        capDropAt := t.ts.capDropAt, offered := t.ts.offered, load := t.ts.load, waiting := t.ts.waiting, credit := t.ts.credit
        servedAt := t.ts.servedAt, admitUse := t.ts.admitUse, counters := t.ts.counters, ptpSeq := t.ts.ptpSeq }
      ports := t.ports, sw := { s.sw with peak := t.sw.peak, qCtr := t.sw.qCtr, nextId := t.sw.nextId } })
    s (execUnicastNegotiation dt m s) := by
  unfold execUnicastNegotiation
  refine .withPort ?_
  refine .via (t := s.advance dt) (State.advance_within.after (.refl s)) fun h1 => ?_
  generalize s.advance dt = s1 at h1 ⊢
  exact .ite h1 (State.ptpAccept_within h1 fun _ _ _ _ h => State.negotiate_within.after h)

theorem execVerifyTimeout_within {dt port} {s : State} : Steps
    (fun s t => { s.reported t with time := t.time, ports := t.ports })
    s (execVerifyTimeout dt port s) := by
  unfold execVerifyTimeout
  exact .withPort (.ite (.ite (State.updPort_within.after (State.advance_within.after (.refl s))) (State.setPreempt_within.after
    (State.stat_within.after (State.advance_within.after (.refl s))))) (State.advance_within.after (.refl s)))

theorem execLearningWrite_within {dt} {s : State} : Steps
    (fun s t => { s.reported t with time := t.time, sw := t.sw })
    s (execLearningWrite dt s) := by
  unfold execLearningWrite
  refine .next ?_
  split
  · exact State.advance_within.after (.refl s)
  · exact .ite (State.advance_within.after (.refl s)) (State.learnOne_within.after (.put ((State.advance_within (n := dt)).after (.refl
      s))))

theorem execPauseReceive_within {dt port f} {s : State} : Steps
    (fun s t => { s.noted t with
      time := t.time
      cap := { s.cap with producer := t.cap.producer, consumer := t.cap.consumer, lostPorts := t.cap.lostPorts, portRate := t.cap.portRate }
      ports := t.ports
      mem := { s.mem with
        bytes := t.mem.bytes, lines := t.mem.lines, recent := t.mem.recent, repeats := t.mem.repeats, toRetire := t.mem.toRetire
        flip := t.mem.flip, counters := t.mem.counters } })
    s (execPauseReceive dt port f s) := by
  unfold execPauseReceive
  refine .withPort ?_
  refine .ite (State.advance_within.after (.refl s)) ?_
  split
  · exact State.advance_within.after (.refl s)
  · exact State.receive_within.after (State.advance_within.after (.refl s))
  · exact State.stat_within.after (State.advance_within.after (.refl s))

theorem execGnssQuiescent_within {dt} {s : State} : Steps
    (fun s t => { s with time := t.time, gnss := { s.gnss with draining := t.gnss.draining } })
    s (execGnssQuiescent dt s) := by
  unfold execGnssQuiescent
  exact .next (.put ((State.advance_within (n := dt)).after (.refl s)))

theorem execEsmcReceive_within {dt port ql} {s : State} : Steps
    (fun s t => { s.reported t with
      time := t.time, refs := t.refs
      sel := { t.sel with
        mode := s.sel.mode, manual := s.sel.manual, wtr := s.sel.wtr, actMode := s.sel.actMode, actManual := s.sel.actManual
        actWtr := s.sel.actWtr, loopHeld := s.sel.loopHeld, integ := s.sel.integ, everLocked := s.sel.everLocked
        lastUpdate := s.sel.lastUpdate }
      hold := t.hold, ports := t.ports })
    s (execEsmcReceive dt port ql s) := by
  unfold execEsmcReceive
  refine .withPort ?_
  split
  · exact State.settleTiming_within.after (.foldl (fun _ _ h1 => State.indication_within.after h1) _ (State.updTrunk_within.after
      (State.advance_within.after (.refl s))))
  · exact State.settleTiming_within.after (.foldl (fun _ _ h2 => State.indication_within.after h2) _ (State.advance_within.after (.refl
      s)))

theorem execLinkLoss_within {dt port cause} {s : State} : Steps
    (fun s t => { s.reported t with
      time := t.time, refs := t.refs
      sel := { t.sel with
        mode := s.sel.mode, manual := s.sel.manual, wtr := s.sel.wtr, actMode := s.sel.actMode, actManual := s.sel.actManual
        actWtr := s.sel.actWtr, loopHeld := s.sel.loopHeld, integ := s.sel.integ, everLocked := s.sel.everLocked
        lastUpdate := s.sel.lastUpdate }
      hold := t.hold, dom := t.dom, ports := t.ports })
    s (execLinkLoss dt port cause s) := by
  unfold execLinkLoss
  exact .withPort (State.settleTiming_within.after (State.linkLost_within.after (State.advance_within.after (.refl s))))

theorem execCancelAck_within {dt f} {s : State} : Steps
    (fun s t => { s.reported t with time := t.time, ports := t.ports, rnd := { s.rnd with up := t.rnd.up } })
    s (execCancelAck dt f s) := by
  exact takeUp_within

theorem execInbandQuiescent_within {dt} {s : State} : Steps
    (fun s t => { s.reported t with
      time := t.time, tci := { s.tci with mbx := t.tci.mbx, aside := t.tci.aside }, win := { s.win with closing := t.win.closing }
      inb := { s.inb with disabling := t.inb.disabling }, dom := { s.dom with txSeq := t.dom.txSeq, queue := t.dom.queue } })
    s (execInbandQuiescent dt s) := by
  unfold execInbandQuiescent
  exact .via (State.advance_within.after (.refl s)) fun h1 => .next (.ite (State.finish_within.after (.put h1)) h1)

theorem execGnssRecover_within {dt} {s : State} : Steps
    (fun s t => { s.noted t with
      time := t.time, refs := t.refs
      sel := { s.sel with lastType := t.sel.lastType, lockType := t.sel.lockType, lockTr := t.sel.lockTr, clockClass := t.sel.clockClass }
      gnss := { s.gnss with rx := t.gnss.rx, since := t.gnss.since, solution := t.gnss.solution, softSince := t.gnss.softSince } })
    s (execGnssRecover dt s) := by
  unfold execGnssRecover
  exact .via (State.advance_within.after (.refl s)) fun h1 => .next (.ite (State.settleTiming_within.after
    (State.settleGnss_within.after (.put h1))) h1)

theorem execTdcEdge_within {dt ch n k} {s : State} : Steps
    (fun s t => { s.noted t with
      time := t.time, meas := { t.meas with turnAt := s.meas.turnAt }
      ocxo := { s.ocxo with pllPhase := t.ocxo.pllPhase, phaseWalk := t.ocxo.phaseWalk }, refs := t.refs
      sel := { t.sel with
        mode := s.sel.mode, manual := s.sel.manual, wtr := s.sel.wtr, actMode := s.sel.actMode, actManual := s.sel.actManual
        actWtr := s.sel.actWtr, loopHeld := s.sel.loopHeld, integ := s.sel.integ, everLocked := s.sel.everLocked
        lastUpdate := s.sel.lastUpdate }
      hold := t.hold, gnss := { s.gnss with ppsAt := t.gnss.ppsAt, edgeMark := t.gnss.edgeMark }
      cap := { s.cap with producer := t.cap.producer, consumer := t.cap.consumer }
      mem := { s.mem with
        bytes := t.mem.bytes, lines := t.mem.lines, recent := t.mem.recent, repeats := t.mem.repeats, toRetire := t.mem.toRetire
        flip := t.mem.flip, counters := t.mem.counters } })
    s (execTdcEdge dt ch n k s) := by
  unfold execTdcEdge
  exact .ite .fault (.next (State.settleTiming_within.after (State.tdcEdge_within.after (State.advance_within.after (.refl s)))))

theorem execGnssAntenna_within {dt ma held} {s : State} : Steps
    (fun s t => { s.noted t with
      time := t.time
      gnss := { s.gnss with
        biasMv := t.gnss.biasMv, antenna := t.gnss.antenna, antennaMa := t.gnss.antennaMa, reapplyAt := t.gnss.reapplyAt } })
    s (execGnssAntenna dt ma held s) := by
  unfold execGnssAntenna
  exact .via (State.advance_within.after (.refl s)) fun h1 => .via (.put h1) fun h2 => .next (.ite h1 (.ite
    (State.setAntenna_within.after h2) (.ite (State.driveBias_within.after (State.setAntenna_within.after (.put h2))) (.ite
    (State.setAntenna_within.after h2) h2))))

theorem execArmed_within {dt f} {s : State} : Steps
    (fun s t => { s.reported t with time := t.time, ports := t.ports, rnd := { s.rnd with up := t.rnd.up } })
    s (execArmed dt f s) := by
  exact takeUp_within

theorem execPdelayMeasure_within {dt port heard m phase lane} {s : State} : Steps
    (fun s t => { s.reported t with
      time := t.time
      ts := { s.ts with
        load := t.ts.load, waiting := t.ts.waiting, credit := t.ts.credit, servedAt := t.ts.servedAt, counters := t.ts.counters
        linkDelay := t.ts.linkDelay, linkPair := t.ts.linkPair, ptpSeq := t.ts.ptpSeq, ptpNext := t.ts.ptpNext }
      ports := t.ports, sw := { s.sw with peak := t.sw.peak, qCtr := t.sw.qCtr, nextId := t.sw.nextId } })
    s (execPdelayMeasure dt port heard m phase lane s) := by
  unfold execPdelayMeasure
  exact .withPort (.ite (State.advance_within.after (.refl s)) (.ite (.ite (State.ptpDisabled_within.after (State.advance_within.after
    (.refl s))) (State.advance_within.after (.refl s))) (.ite (State.pdelayTake_within.after (State.advance_within.after (.refl s))) (.ite
    (State.pdelayAsk_within.after (State.advance_within.after (.refl s))) (State.advance_within.after (.refl s))))))

theorem execEquinoxCommit_within {dt} {s : State} : Steps
    (fun s t => { s.noted t with
      time := t.time, tci := { t.tci with doorbellErr := s.tci.doorbellErr, lost := s.tci.lost }
      win := { s.win with closing := t.win.closing }, inb := { s.inb with enable := t.inb.enable }
      meas := { t.meas with job := s.meas.job, linkCals := s.meas.linkCals }, refs := t.refs
      sel := { t.sel with
        mode := s.sel.mode, manual := s.sel.manual, wtr := s.sel.wtr, actMode := s.sel.actMode, actManual := s.sel.actManual
        actWtr := s.sel.actWtr, loopHeld := s.sel.loopHeld, integ := s.sel.integ, everLocked := s.sel.everLocked
        lastUpdate := s.sel.lastUpdate }
      hold := t.hold, outs := t.outs, gnss := t.gnss, dom := t.dom
      cue := { s.cue with rows := t.cue.rows, executed := t.cue.executed, late := t.cue.late, dropped := t.cue.dropped, kept := t.cue.kept }
      cap := { s.cap with producer := t.cap.producer, consumer := t.cap.consumer }
      ts := { t.ts with
        ledger := s.ts.ledger, hashSeed := s.ts.hashSeed, stranger := s.ts.stranger, strangerTick := s.ts.strangerTick
        capDropAt := s.ts.capDropAt, offered := s.ts.offered, admitUse := s.ts.admitUse, denyKiss := s.ts.denyKiss
        rotateDue := s.ts.rotateDue, rotateLate := s.ts.rotateLate, lastRotation := s.ts.lastRotation, foreignAt := s.ts.foreignAt
        linkDelay := s.ts.linkDelay, linkPair := s.ts.linkPair, ptpNext := s.ts.ptpNext }
      ports := t.ports, sw := { s.sw with macs := t.sw.macs, peak := t.sw.peak, qCtr := t.sw.qCtr, nextId := t.sw.nextId }
      banks := { t.banks with
        edits := s.banks.edits, slots := s.banks.slots, lastDrain := s.banks.lastDrain, drainDrop := s.banks.drainDrop
        missed := s.banks.missed, loaded := s.banks.loaded, checkOk := s.banks.checkOk }
      rnd := { s.rnd with part := t.rnd.part, lastOutcome := t.rnd.lastOutcome }, keys := t.keys, bn := t.bn
      mem := { s.mem with
        bytes := t.mem.bytes, lines := t.mem.lines, recent := t.mem.recent, repeats := t.mem.repeats, toRetire := t.mem.toRetire
        flip := t.mem.flip, counters := t.mem.counters }
      plat := { s.plat with flashWork := t.plat.flashWork } })
    s (execEquinoxCommit dt s) := by
  unfold execEquinoxCommit
  refine .next ?_
  split
  · exact .ite (State.commitRow_within.after (State.advance_within.after (.refl s))) (State.advance_within.after (.refl s))
  · split
    · exact .ite (State.swapNow_within.after (State.advance_within.after (.refl s))) (State.advance_within.after (.refl s))
    · exact State.advance_within.after (.refl s)

theorem execPatrolLine_within {dt soft stuck} {s : State} : Steps
    (fun s t => { s.noted t with
      time := t.time
      mem := { s.mem with
        lines := t.mem.lines, recent := t.mem.recent, repeats := t.mem.repeats, toRetire := t.mem.toRetire, lastPatrol := t.mem.lastPatrol
        patrolLine := t.mem.patrolLine, patrolAt := t.mem.patrolAt, flip := t.mem.flip, counters := t.mem.counters } })
    s (execPatrolLine dt soft stuck s) := by
  unfold execPatrolLine
  exact .via (State.advance_within.after (.refl s)) fun h1 => .next (.ite h1 (.via (State.dramRead_within.after (State.hurt_within.after
    h1)) fun h2 => .ite (.put h2) (.put h2)))

end Sys2Proof.Machine
end

section
/-!
SUPPORT. The frames of the statements: what each command and each event leaves unchanged.
-/
namespace Sys2Proof.Machine
set_option Elab.async false -- one declaration after the other: fewer threads at once

theorem Steps.form {g : State → State → State} {s t : State} {o : Host.Outcome State Fault Refusal} (k : Steps g s o)
    (e : o = .next t) : ∃ u, t = g s u := ⟨t, (k.within t e).eq⟩

/-- What taking and answering a command may change besides what its run changes. -/
def State.served (s t : State) : State :=
  { s with
    tci := { s.tci with mbx := t.tci.mbx, doorbellErr := t.tci.doorbellErr, rung := t.tci.rung, aside := t.tci.aside }
    intr := { s.intr with
      status := t.intr.status, lastVec := t.intr.lastVec, delayed := t.intr.delayed, signalled := t.intr.signalled, pba := t.intr.pba }
    evt := t.evt
    win := { s.win with state := t.win.state, mbx := t.win.mbx, deadline := t.win.deadline, held := t.win.held, pressIn := t.win.pressIn }
    dom := { s.dom with txSeq := t.dom.txSeq, queue := t.dom.queue }
    trace := t.trace }

/-- Answers alone lead from `s` to `t`, or a run within `g` between answers does. -/
inductive Ran (g : State → State → State) (s t : State) : Prop where
  | answer (h : Within State.served s t)
  | run {u v : State} (before : Within State.served s u) (run : Within g u v) (after : Within State.served v t)

theorem Ran.serving {g : State → State → State} : Serving (Ran g) where
  refl := .answer (.refl _)
  reply h k := by
    have k' : Within State.served _ _ := .wider k
    cases h with
    | answer h => exact .answer (.after k' h)
    | run before run after => exact .run before run (.after k' after)

theorem Ran.before {g : State → State → State} {s t u : State} (k : Within State.replied s t) (h : Ran g t u) : Ran g s u := by
  have k' : Within State.served s t := .wider k
  cases h with
  | answer h => exact .answer (.after h k')
  | run before run after => exact .run (.after before k') run after

theorem answered {g : State → State → State} {c : Command} {q : Req} {s t : State} (run : ∀ {s}, Replies g s (c.run q s))
    (e : runCommand c q s = .next t) (same : ∀ s, g s s = s := by intros; rfl) :
    ∃ u v w, t = State.served (g (State.served s u) v) w := by
  have h : Ran g s t := Ran.serving.request Ran.before (.answer (.put (.refl _))) (.answer (.put (.refl _)))
    (fun {_} => .run (.refl _) run.state (.refl _)) e
  cases h with
  | answer h => exact ⟨t, State.served s t, t, by rw [same]; exact h.eq⟩
  | @run u v before run after => exact ⟨u, v, t, by rw [← before.eq, ← run.eq]; exact after.eq⟩

/-- Settles O56, command by command from the frame of its run and what answering may change. -/
theorem frameOfCommandsA : Obligations.FrameOfCommandsA := by
  unfold Obligations.FrameOfCommandsA
  refine ⟨?_, ?_, ?_, ?_, ?_, ?_, ?_, ?_, ?_, ?_, ?_, ?_, ?_, ?_, ?_, ?_, ?_, ?_, ?_, ?_, ?_, ?_, ?_, ?_, ?_, ?_, ?_, ?_, ?_, ?_, ?_, ?_⟩
  · rintro s t (⟨_, h⟩ | ⟨_, h⟩ | ⟨_, h⟩ | ⟨_, h⟩ | ⟨_, h⟩ | ⟨_, h⟩ | ⟨_, h⟩ | ⟨_, h⟩ | ⟨_, h⟩ | ⟨_, h⟩ | ⟨_, h⟩ | ⟨_, h⟩ | ⟨_, h⟩ | ⟨_,
      h⟩ | ⟨_, h⟩ | ⟨_, h⟩ | ⟨_, h⟩ | ⟨_, h⟩ | ⟨_, h⟩ | ⟨_, h⟩ | ⟨_, h⟩ | ⟨_, h⟩ | ⟨_, h⟩ | ⟨_, h⟩)
    · obtain ⟨u, v, w, rfl⟩ := answered cmdSysInfo_run h; rfl
    · obtain ⟨u, v, w, rfl⟩ := answered cmdSysAttendCancel_run h; rfl
    · obtain ⟨u, v, w, rfl⟩ := answered cmdBankStatus_run h; rfl
    · obtain ⟨u, v, w, rfl⟩ := answered cmdBankValidate_run h; rfl
    · obtain ⟨u, v, w, rfl⟩ := answered cmdEquinoxResultGet_run h; rfl
    · obtain ⟨u, v, w, rfl⟩ := answered cmdPortConfigGet_run h; rfl
    · obtain ⟨u, v, w, rfl⟩ := answered cmdPortStatus_run h; rfl
    · obtain ⟨u, v, w, rfl⟩ := answered cmdPortStats_run h; rfl
    · obtain ⟨u, v, w, rfl⟩ := answered cmdMacLookup_run h; rfl
    · obtain ⟨u, v, w, rfl⟩ := answered cmdSwitchConfigGet_run h; rfl
    · obtain ⟨u, v, w, rfl⟩ := answered cmdSwitchCounters_run h; rfl
    · obtain ⟨u, v, w, rfl⟩ := answered cmdTimeGet_run h; rfl
    · obtain ⟨u, v, w, rfl⟩ := answered cmdLeapTableGet_run h; rfl
    · obtain ⟨u, v, w, rfl⟩ := answered cmdStampLatencyGet_run h; rfl
    · obtain ⟨u, v, w, rfl⟩ := answered cmdStampCounters_run h; rfl
    · obtain ⟨u, v, w, rfl⟩ := answered cmdMeasResultGet_run h; rfl
    · obtain ⟨u, v, w, rfl⟩ := answered cmdMeasCalGet_run h; rfl
    · obtain ⟨u, v, w, rfl⟩ := answered cmdOcxoStatus_run h; rfl
    · obtain ⟨u, v, w, rfl⟩ := answered cmdRefConfigGet_run h; rfl
    · obtain ⟨u, v, w, rfl⟩ := answered cmdRefStatus_run h; rfl
    · obtain ⟨u, v, w, rfl⟩ := answered cmdSelStatus_run h; rfl
    · obtain ⟨u, v, w, rfl⟩ := answered cmdTimingPolicyGet_run h; rfl
    · obtain ⟨u, v, w, rfl⟩ := answered cmdOutputGet_run h; rfl
    · obtain ⟨u, v, w, rfl⟩ := answered cmdHoldoverStatus_run h; rfl
  · rintro s t ⟨_, h⟩
    obtain ⟨u, v, w, rfl⟩ := answered cmdSysPaceSet_run h; rfl
  · rintro s t ⟨_, h⟩
    obtain ⟨u, v, w, rfl⟩ := answered cmdSysPaceGet_run h; rfl
  · rintro s t ⟨_, h⟩
    obtain ⟨u, v, w, rfl⟩ := answered cmdSysInbandSet_run h; rfl
  · rintro s t ⟨_, h⟩
    obtain ⟨u, v, w, rfl⟩ := answered cmdSysInbandSend_run h; rfl
  · rintro s t ⟨_, h⟩
    obtain ⟨u, v, w, rfl⟩ := answered cmdSysWindowRead_run h; rfl
  · rintro s t ⟨_, h⟩
    obtain ⟨u, v, w, rfl⟩ := answered cmdSysWindowWrite_run h; rfl
  · rintro s t ⟨_, h⟩
    obtain ⟨u, v, w, rfl⟩ := answered cmdSysFwWrite_run h; rfl
  · rintro s t ⟨_, h⟩
    obtain ⟨u, v, w, rfl⟩ := answered cmdSysFwActivate_run h; rfl
  · rintro s t ⟨_, h⟩
    obtain ⟨u, v, w, rfl⟩ := answered cmdSysSealProvision_run h; rfl
  · rintro s t (⟨_, h⟩ | ⟨_, h⟩)
    · obtain ⟨u, v, w, rfl⟩ := answered cmdSysFactoryDefault_run h; rfl
    · obtain ⟨u, v, w, rfl⟩ := answered cmdBankSeed_run h; rfl
  · rintro s t ⟨_, h⟩
    obtain ⟨u, v, w, rfl⟩ := answered cmdSysTraceRead_run h; rfl
  · rintro s t ⟨_, h⟩
    obtain ⟨u, v, w, rfl⟩ := answered cmdBankTag_run h; rfl
  · rintro s t ⟨_, h⟩
    obtain ⟨u, v, w, rfl⟩ := answered cmdEquinoxLocal_run h; rfl
  · rintro s t ⟨_, h⟩
    obtain ⟨u, v, w, rfl⟩ := answered cmdEquinoxCancel_run h; rfl
  · rintro s t ⟨_, h⟩
    obtain ⟨u, v, w, rfl⟩ := answered cmdEquinoxDomainStart_run h; rfl
  · rintro s t ⟨_, h⟩
    obtain ⟨u, v, w, rfl⟩ := answered cmdEquinoxDomainCancel_run h; rfl
  · rintro s t (⟨_, h⟩ | ⟨_, h⟩ | ⟨_, h⟩ | ⟨_, h⟩ | ⟨_, h⟩ | ⟨_, h⟩ | ⟨_, h⟩ | ⟨_, h⟩ | ⟨_, h⟩ | ⟨_, h⟩ | ⟨_, h⟩ | ⟨_, h⟩)
    · obtain ⟨u, v, w, rfl⟩ := answered cmdPortConfigSet_run h; rfl
    · obtain ⟨u, v, w, rfl⟩ := answered cmdVlanSet_run h; rfl
    · obtain ⟨u, v, w, rfl⟩ := answered cmdPortFwdSet_run h; rfl
    · obtain ⟨u, v, w, rfl⟩ := answered cmdMacStaticSet_run h; rfl
    · obtain ⟨u, v, w, rfl⟩ := answered cmdFlowRuleSet_run h; rfl
    · obtain ⟨u, v, w, rfl⟩ := answered cmdMcastGroupSet_run h; rfl
    · obtain ⟨u, v, w, rfl⟩ := answered cmdQueueSet_run h; rfl
    · obtain ⟨u, v, w, rfl⟩ := answered cmdRsvSet_run h; rfl
    · obtain ⟨u, v, w, rfl⟩ := answered cmdStampLatencySet_run h; rfl
    · obtain ⟨u, v, w, rfl⟩ := answered cmdRefConfigSet_run h; rfl
    · obtain ⟨u, v, w, rfl⟩ := answered cmdTimingPolicySet_run h; rfl
    · obtain ⟨u, v, w, rfl⟩ := answered cmdOutputSet_run h; rfl
  · rintro s t ⟨_, h⟩
    obtain ⟨u, v, w, rfl⟩ := answered cmdHostRingSet_run h; rfl
  · rintro s t ⟨_, h⟩
    obtain ⟨u, v, w, rfl⟩ := answered cmdHostCounters_run h; rfl
  · rintro s t (⟨_, h⟩ | ⟨_, h⟩)
    · obtain ⟨u, v, w, rfl⟩ := answered cmdPortStateSet_run h; rfl
    · obtain ⟨u, v, w, rfl⟩ := answered cmdMacFlush_run h; rfl
  · rintro s t ⟨_, h⟩
    obtain ⟨u, v, w, rfl⟩ := answered cmdMirrorSet_run h; rfl
  · rintro s t ⟨_, h⟩
    obtain ⟨u, v, w, rfl⟩ := answered cmdSwitchStatus_run h; rfl
  · rintro s t (⟨_, h⟩ | ⟨_, h⟩)
    · obtain ⟨u, v, w, rfl⟩ := answered cmdTimeSetFreq_run h; rfl
    · obtain ⟨u, v, w, rfl⟩ := answered cmdTimeAdjPhase_run h; rfl
  · rintro s t ⟨_, h⟩
    obtain ⟨u, v, w, rfl⟩ := answered cmdTimeStep_run h; rfl
  · rintro s t ⟨_, h⟩
    obtain ⟨u, v, w, rfl⟩ := answered cmdLeapTableSet_run h; rfl
  · rintro s t ⟨_, h⟩
    obtain ⟨u, v, w, rfl⟩ := answered cmdStampRingSet_run h; rfl
  · rintro s t ⟨_, h⟩
    obtain ⟨u, v, w, rfl⟩ := answered cmdMeasChannelSet_run h; rfl
  · rintro s t (⟨_, h⟩ | ⟨_, h⟩)
    · obtain ⟨u, v, w, rfl⟩ := answered cmdMeasChannelGet_run h; rfl
    · obtain ⟨u, v, w, rfl⟩ := answered cmdMeasCalRun_run h; rfl
  · rintro s t (⟨_, h⟩ | ⟨_, h⟩)
    · obtain ⟨u, v, w, rfl⟩ := answered cmdMeasStart_run h; rfl
    · obtain ⟨u, v, w, rfl⟩ := answered cmdMeasStop_run h; rfl
  · rintro s t ⟨_, h⟩
    obtain ⟨u, v, w, rfl⟩ := answered cmdSelModeSet_run h; rfl
  · rintro s t ⟨_, h⟩
    obtain ⟨u, v, w, rfl⟩ := answered cmdLoopSet_run h; rfl

/-- Settles O57, command by command from the frame of its run and what answering may change. -/
theorem frameOfCommandsB : Obligations.FrameOfCommandsB := by
  unfold Obligations.FrameOfCommandsB
  refine ⟨?_, ?_, ?_, ?_, ?_, ?_, ?_, ?_, ?_, ?_, ?_, ?_, ?_, ?_, ?_, ?_, ?_, ?_, ?_, ?_, ?_, ?_, ?_, ?_, ?_, ?_, ?_, ?_, ?_⟩
  · rintro s t (⟨_, h⟩ | ⟨_, h⟩ | ⟨_, h⟩ | ⟨_, h⟩ | ⟨_, h⟩ | ⟨_, h⟩ | ⟨_, h⟩ | ⟨_, h⟩ | ⟨_, h⟩ | ⟨_, h⟩)
    · obtain ⟨u, v, w, rfl⟩ := answered cmdGnssConfigSet_run h; rfl
    · obtain ⟨u, v, w, rfl⟩ := answered cmdDomainConfigSet_run h; rfl
    · obtain ⟨u, v, w, rfl⟩ := answered cmdPortTimingSet_run h; rfl
    · obtain ⟨u, v, w, rfl⟩ := answered cmdFibrePairSet_run h; rfl
    · obtain ⟨u, v, w, rfl⟩ := answered cmdTsConfigSet_run h; rfl
    · obtain ⟨u, v, w, rfl⟩ := answered cmdTsAddrSet_run h; rfl
    · obtain ⟨u, v, w, rfl⟩ := answered cmdTsPrefixSet_run h; rfl
    · obtain ⟨u, v, w, rfl⟩ := answered cmdTsPolicySet_run h; rfl
    · obtain ⟨u, v, w, rfl⟩ := answered cmdPtpPortSet_run h; rfl
    · obtain ⟨u, v, w, rfl⟩ := answered cmdKeyPolicySet_run h; rfl
  · rintro s t (⟨_, h⟩ | ⟨_, h⟩ | ⟨_, h⟩ | ⟨_, h⟩ | ⟨_, h⟩ | ⟨_, h⟩ | ⟨_, h⟩ | ⟨_, h⟩ | ⟨_, h⟩ | ⟨_, h⟩ | ⟨_, h⟩ | ⟨_, h⟩ | ⟨_, h⟩ | ⟨_,
      h⟩ | ⟨_, h⟩ | ⟨_, h⟩ | ⟨_, h⟩ | ⟨_, h⟩ | ⟨_, h⟩ | ⟨_, h⟩ | ⟨_, h⟩ | ⟨_, h⟩ | ⟨_, h⟩ | ⟨_, h⟩ | ⟨_, h⟩ | ⟨_, h⟩)
    · obtain ⟨u, v, w, rfl⟩ := answered cmdGnssConfigGet_run h; rfl
    · obtain ⟨u, v, w, rfl⟩ := answered cmdGnssStatus_run h; rfl
    · obtain ⟨u, v, w, rfl⟩ := answered cmdGnssSatList_run h; rfl
    · obtain ⟨u, v, w, rfl⟩ := answered cmdDomainConfigGet_run h; rfl
    · obtain ⟨u, v, w, rfl⟩ := answered cmdTrunkStatus_run h; rfl
    · obtain ⟨u, v, w, rfl⟩ := answered cmdDomainStatus_run h; rfl
    · obtain ⟨u, v, w, rfl⟩ := answered cmdDomainMembers_run h; rfl
    · obtain ⟨u, v, w, rfl⟩ := answered cmdCueList_run h; rfl
    · obtain ⟨u, v, w, rfl⟩ := answered cmdCueDomainResultGet_run h; rfl
    · obtain ⟨u, v, w, rfl⟩ := answered cmdTsConfigGet_run h; rfl
    · obtain ⟨u, v, w, rfl⟩ := answered cmdTsStatus_run h; rfl
    · obtain ⟨u, v, w, rfl⟩ := answered cmdTsLedgerGet_run h; rfl
    · obtain ⟨u, v, w, rfl⟩ := answered cmdTsLedgerFlush_run h; rfl
    · obtain ⟨u, v, w, rfl⟩ := answered cmdKeyInfo_run h; rfl
    · obtain ⟨u, v, w, rfl⟩ := answered cmdKeyPolicyGet_run h; rfl
    · obtain ⟨u, v, w, rfl⟩ := answered cmdCryptoStatus_run h; rfl
    · obtain ⟨u, v, w, rfl⟩ := answered cmdMemStatus_run h; rfl
    · obtain ⟨u, v, w, rfl⟩ := answered cmdMemCounters_run h; rfl
    · obtain ⟨u, v, w, rfl⟩ := answered cmdMemRetiredList_run h; rfl
    · obtain ⟨u, v, w, rfl⟩ := answered cmdMemFlashStatus_run h; rfl
    · obtain ⟨u, v, w, rfl⟩ := answered cmdMemSramFlags_run h; rfl
    · obtain ⟨u, v, w, rfl⟩ := answered cmdFaultStatus_run h; rfl
    · obtain ⟨u, v, w, rfl⟩ := answered cmdFaultLedgerRead_run h; rfl
    · obtain ⟨u, v, w, rfl⟩ := answered cmdMidwinterInfo_run h; rfl
    · obtain ⟨u, v, w, rfl⟩ := answered cmdMidwinterRead_run h; rfl
    · obtain ⟨u, v, w, rfl⟩ := answered cmdPlatMarchLog_run h; rfl
  · rintro s t (⟨_, h⟩ | ⟨_, h⟩)
    · obtain ⟨u, v, w, rfl⟩ := answered cmdGnssSurveyRestart_run h; rfl
    · obtain ⟨u, v, w, rfl⟩ := answered cmdGnssReset_run h; rfl
  · rintro s t ⟨_, h⟩
    obtain ⟨u, v, w, rfl⟩ := answered cmdLinkCalRun_run h; rfl
  · rintro s t ⟨_, h⟩
    obtain ⟨u, v, w, rfl⟩ := answered cmdCueAdd_run h; rfl
  · rintro s t ⟨_, h⟩
    obtain ⟨u, v, w, rfl⟩ := answered cmdCueCancel_run h; rfl
  · rintro s t ⟨_, h⟩
    obtain ⟨u, v, w, rfl⟩ := answered cmdCueStatus_run h; rfl
  · rintro s t ⟨_, h⟩
    obtain ⟨u, v, w, rfl⟩ := answered cmdCueDomainAnnounce_run h; rfl
  · rintro s t ⟨_, h⟩
    obtain ⟨u, v, w, rfl⟩ := answered cmdCueDomainCancel_run h; rfl
  · rintro s t ⟨_, h⟩
    obtain ⟨u, v, w, rfl⟩ := answered cmdCaptureRingSet_run h; rfl
  · rintro s t ⟨_, h⟩
    obtain ⟨u, v, w, rfl⟩ := answered cmdCueFrameWrite_run h; rfl
  · rintro s t ⟨_, h⟩
    obtain ⟨u, v, w, rfl⟩ := answered cmdTsCounters_run h; rfl
  · rintro s t ⟨_, h⟩
    obtain ⟨u, v, w, rfl⟩ := answered cmdNtsCookieIssue_run h; rfl
  · rintro s t (⟨_, h⟩ | ⟨_, h⟩)
    · obtain ⟨u, v, w, rfl⟩ := answered cmdKeyImport_run h; rfl
    · obtain ⟨u, v, w, rfl⟩ := answered cmdKeyDelete_run h; rfl
  · rintro s t (⟨_, h⟩ | ⟨_, h⟩)
    · obtain ⟨u, v, w, rfl⟩ := answered cmdKeyGenerate_run h; rfl
    · obtain ⟨u, v, w, rfl⟩ := answered cmdKeyNtsInit_run h; rfl
  · rintro s t ⟨_, h⟩
    obtain ⟨u, v, w, rfl⟩ := answered cmdBnOp_run h; rfl
  · rintro s t ⟨_, h⟩
    obtain ⟨u, v, w, rfl⟩ := answered cmdBnAbort_run h; rfl
  · rintro s t ⟨_, h⟩
    obtain ⟨u, v, w, rfl⟩ := answered cmdBnEnable_run h; rfl
  · rintro s t ⟨_, h⟩
    obtain ⟨u, v, w, rfl⟩ := answered cmdMemPolicySet_run h; rfl
  · rintro s t ⟨_, h⟩
    obtain ⟨u, v, w, rfl⟩ := answered cmdMemScrub_run h; rfl
  · rintro s t ⟨_, h⟩
    obtain ⟨u, v, w, rfl⟩ := answered cmdMemFlipArm_run h; rfl
  · rintro s t ⟨_, h⟩
    obtain ⟨u, v, w, rfl⟩ := answered cmdMemFuseProgram_run h; rfl
  · rintro s t ⟨_, h⟩
    obtain ⟨u, v, w, rfl⟩ := answered cmdFaultClear_run h; rfl
  · rintro s t ⟨_, h⟩
    obtain ⟨u, v, w, rfl⟩ := answered cmdFaultPolicySet_run h; rfl
  · rintro s t ⟨_, h⟩
    obtain ⟨u, v, w, rfl⟩ := answered cmdMidwinterRelease_run h; rfl
  · rintro s t ⟨_, h⟩
    obtain ⟨u, v, w, rfl⟩ := answered cmdFaultInject_run h; rfl
  · rintro s t ⟨_, h⟩
    obtain ⟨u, v, w, rfl⟩ := answered cmdPlatStatus_run h; rfl
  · rintro s t ⟨_, h⟩
    obtain ⟨u, v, w, rfl⟩ := answered cmdPlatSupplySet_run h; rfl
  · rintro s t ⟨_, h⟩
    obtain ⟨u, v, w, rfl⟩ := answered cmdPlatReset_run h; rfl

/-- Settles O58, event by event from the frame of its operations. -/
theorem frameOfEventsA : Obligations.FrameOfEventsA := by
  unfold Obligations.FrameOfEventsA
  refine ⟨?_, ?_, ?_, ?_, ?_, ?_, ?_, ?_, ?_, ?_, ?_, ?_, ?_, ?_, ?_, ?_, ?_, ?_, ?_, ?_, ?_, ?_, ?_, ?_, ?_, ?_, ?_, ?_, ?_, ?_, ?_, ?_,
    ?_, ?_, ?_, ?_, ?_, ?_, ?_, ?_, ?_, ?_, ?_, ?_, ?_, ?_, ?_, ?_, ?_, ?_, ?_, ?_⟩
  · rintro s t ⟨_, h⟩
    obtain ⟨u, rfl⟩ := execTimeSnapCapture_within.form h; rfl
  · rintro s t ⟨_, _, h⟩
    obtain ⟨u, rfl⟩ := execIntStatusClear_within.form h; rfl
  · rintro s t ⟨_, _, h⟩
    obtain ⟨u, rfl⟩ := execIntMaskWrite_within.form h; rfl
  · rintro s t ⟨_, _, h⟩
    obtain ⟨u, rfl⟩ := execEvtTailWrite_within.form h; rfl
  · rintro s t (⟨_, h⟩ | ⟨_, h⟩)
    · obtain ⟨u, rfl⟩ := execEvtLostRead_within.form h; rfl
    · obtain ⟨u, rfl⟩ := execStrayPressesRead_within.form h; rfl
  · rintro s t (⟨_, _, _, h⟩ | ⟨_, _, _, h⟩)
    · obtain ⟨u, rfl⟩ := execHportTxTailWrite_within.form h; rfl
    · obtain ⟨u, rfl⟩ := execHportRxTailWrite_within.form h; rfl
  · rintro s t ⟨_, _, _, _, h⟩
    obtain ⟨u, rfl⟩ := execRegisterWrite_within.form h; rfl
  · rintro s t ⟨_, _, _, h⟩
    obtain ⟨u, rfl⟩ := execPcieLinkReset_within.form h; rfl
  · rintro s t ⟨_, h⟩
    obtain ⟨u, rfl⟩ := execPerstNRelease_within.form h; rfl
  · rintro s t (⟨_, _, h⟩ | ⟨_, _, h⟩)
    · obtain ⟨u, rfl⟩ := execPwrOkRise_within.form h; rfl
    · obtain ⟨u, rfl⟩ := execSupplyRestart_within.form h; rfl
  · rintro s t ⟨_, h⟩
    obtain ⟨u, rfl⟩ := execPwrOkFall_within.form h; rfl
  · rintro s t ⟨_, _, h⟩
    obtain ⟨u, rfl⟩ := execSupplyWarnSet_within.form h; rfl
  · rintro s t ⟨_, _, h⟩
    obtain ⟨u, rfl⟩ := execSupplyWarnClear_within.form h; rfl
  · rintro s t ⟨_, _, h⟩
    obtain ⟨u, rfl⟩ := execThermalRelease_within.form h; rfl
  · rintro s t ⟨_, h⟩
    obtain ⟨u, rfl⟩ := execMarchStep_within.form h; rfl
  · rintro s t (⟨_, h⟩ | ⟨_, h⟩)
    · obtain ⟨u, rfl⟩ := execBootImageSelect_within.form h; rfl
    · obtain ⟨u, rfl⟩ := execAttendActionResume_within.form h; rfl
  · rintro s t ⟨_, h⟩
    obtain ⟨u, rfl⟩ := execFwStarted_within.form h; rfl
  · rintro s t ⟨_, h⟩
    obtain ⟨u, rfl⟩ := execImageConfirm_within.form h; rfl
  · rintro s t ⟨_, h⟩
    obtain ⟨u, rfl⟩ := execPresentPressStart_within.form h; rfl
  · rintro s t ⟨_, h⟩
    obtain ⟨u, rfl⟩ := execPresentRelease_within.form h; rfl
  · rintro s t ⟨_, h⟩
    obtain ⟨u, rfl⟩ := execPressQualified_within.form h; rfl
  · rintro s t ⟨_, h⟩
    obtain ⟨u, rfl⟩ := execAttendWindowExpire_within.form h; rfl
  · rintro s t ⟨_, h⟩
    obtain ⟨u, rfl⟩ := execSealBreak_within.form h; rfl
  · rintro s t ⟨_, h⟩
    obtain ⟨u, rfl⟩ := execKeyMirrorErase_within.form h; rfl
  · rintro s t ⟨_, _, _, h⟩
    obtain ⟨u, rfl⟩ := execPaceGateClose_within.form h; rfl
  · rintro s t ⟨_, h⟩
    obtain ⟨u, rfl⟩ := execTimeStepApply_within.form h; rfl
  · rintro s t ⟨_, h⟩
    obtain ⟨u, rfl⟩ := execSlewStart_within.form h; rfl
  · rintro s t ⟨_, h⟩
    obtain ⟨u, rfl⟩ := execSlewEnd_within.form h; rfl
  · rintro s t ⟨_, h⟩
    obtain ⟨u, rfl⟩ := execLeapApplied_within.form h; rfl
  · rintro s t ⟨_, h⟩
    obtain ⟨u, rfl⟩ := execLeapPendingStart_within.form h; rfl
  · rintro s t ⟨_, h⟩
    obtain ⟨u, rfl⟩ := execLeapTablePersist_within.form h; rfl
  · rintro s t (⟨_, _, _, _, _, h⟩ | ⟨_, _, _, h⟩ | ⟨_, _, _, _, _, _, _, _, _, h⟩)
    · obtain ⟨u, rfl⟩ := execFrameReceive_within.form h; rfl
    · obtain ⟨u, rfl⟩ := execPauseReceive_within.form h; rfl
    · obtain ⟨u, rfl⟩ := execFragmentReceive_within.form h; rfl
  · rintro s t ⟨_, _, h⟩
    obtain ⟨u, rfl⟩ := execClassificationPass_within.form h; rfl
  · rintro s t (⟨_, h⟩ | ⟨_, _, _, _, _, _, _, h⟩)
    · obtain ⟨u, rfl⟩ := execLearningWrite_within.form h; rfl
    · obtain ⟨u, rfl⟩ := execSnoopPacket_within.form h; rfl
  · rintro s t ⟨_, h⟩
    obtain ⟨u, rfl⟩ := execLiveEditAck_within.form h; rfl
  · rintro s t ⟨_, h⟩
    obtain ⟨u, rfl⟩ := execMacAging_within.form h; rfl
  · rintro s t ⟨_, h⟩
    obtain ⟨u, rfl⟩ := execSnoopLapse_within.form h; rfl
  · rintro s t ⟨_, _, h⟩
    obtain ⟨u, rfl⟩ := execEgressDecision_within.form h; rfl
  · rintro s t (⟨_, _, h⟩ | ⟨_, _, _, h⟩ | ⟨_, _, h⟩ | ⟨_, _, h⟩ | ⟨_, _, h⟩ | ⟨_, _, h⟩)
    · obtain ⟨u, rfl⟩ := execPreemptCut_within.form h; rfl
    · obtain ⟨u, rfl⟩ := execBookedSlotLost_within.form h; rfl
    · obtain ⟨u, rfl⟩ := execGuardBandOpen_within.form h; rfl
    · obtain ⟨u, rfl⟩ := execVerifyTimeout_within.form h; rfl
    · obtain ⟨u, rfl⟩ := execRespondReceive_within.form h; rfl
    · obtain ⟨u, rfl⟩ := execPortQuiescent_within.form h; rfl
  · rintro s t ⟨_, _, _, h⟩
    obtain ⟨u, rfl⟩ := execBookedSlotBook_within.form h; rfl
  · rintro s t ⟨_, _, h⟩
    obtain ⟨u, rfl⟩ := execBookedSlotLaunch_within.form h; rfl
  · rintro s t (⟨_, _, h⟩ | ⟨_, _, h⟩)
    · obtain ⟨u, rfl⟩ := execPauseTimerExpire_within.form h; rfl
    · obtain ⟨u, rfl⟩ := execPauseGenerate_within.form h; rfl
  · rintro s t ⟨_, _, h⟩
    obtain ⟨u, rfl⟩ := execVerifySend_within.form h; rfl
  · rintro s t ⟨_, _, h⟩
    obtain ⟨u, rfl⟩ := execVerifyReceive_within.form h; rfl
  · rintro s t ⟨_, _, _, h⟩
    obtain ⟨u, rfl⟩ := execLinkLoss_within.form h; rfl
  · rintro s t ⟨_, _, _, h⟩
    obtain ⟨u, rfl⟩ := execLinkUp_within.form h; rfl
  · rintro s t ⟨_, _, h⟩
    obtain ⟨u, rfl⟩ := execLinkHoldExpire_within.form h; rfl
  · rintro s t ⟨_, _, _, _, h⟩
    obtain ⟨u, rfl⟩ := execHostTxDescriptor_within.form h; rfl
  · rintro s t ⟨_, _, h⟩
    obtain ⟨u, rfl⟩ := execHostRxDeliver_within.form h; rfl
  · rintro s t ⟨_, _, _, h⟩
    obtain ⟨u, rfl⟩ := execHostRingQuiescent_within.form h; rfl
  · rintro s t ⟨_, h⟩
    obtain ⟨u, rfl⟩ := execStampRingQuiescent_within.form h; rfl
  · rintro s t ⟨_, _, h⟩
    obtain ⟨u, rfl⟩ := execMirrorQuiescent_within.form h; rfl

/-- Settles O59, event by event from the frame of its operations. -/
theorem frameOfEventsB : Obligations.FrameOfEventsB := by
  unfold Obligations.FrameOfEventsB
  refine ⟨?_, ?_, ?_, ?_, ?_, ?_, ?_, ?_, ?_, ?_, ?_, ?_, ?_, ?_, ?_, ?_, ?_, ?_, ?_, ?_, ?_, ?_, ?_, ?_, ?_, ?_, ?_, ?_, ?_, ?_, ?_, ?_,
    ?_, ?_, ?_, ?_, ?_, ?_, ?_, ?_, ?_, ?_⟩
  · rintro s t ⟨_, _, _, _, h⟩
    obtain ⟨u, rfl⟩ := execTdcEdge_within.form h; rfl
  · rintro s t ⟨_, _, _, h⟩
    obtain ⟨u, rfl⟩ := execCalTableComplete_within.form h; rfl
  · rintro s t ⟨_, _, h⟩
    obtain ⟨u, rfl⟩ := execRegressionGateClose_within.form h; rfl
  · rintro s t ⟨_, _, h⟩
    obtain ⟨u, rfl⟩ := execMeasChannelQuiescent_within.form h; rfl
  · rintro s t ⟨_, _, h⟩
    obtain ⟨u, rfl⟩ := execMeasJobQuiescent_within.form h; rfl
  · rintro s t ⟨_, _, _, h⟩
    obtain ⟨u, rfl⟩ := execOcxoWarmChange_within.form h; rfl
  · rintro s t ⟨_, _, h⟩
    obtain ⟨u, rfl⟩ := execRefEvaluation_within.form h; rfl
  · rintro s t (⟨_, _, h⟩ | ⟨_, _, h⟩ | ⟨_, _, h⟩)
    · obtain ⟨u, rfl⟩ := execRefLos_within.form h; rfl
    · obtain ⟨u, rfl⟩ := execRefPhaseHit_within.form h; rfl
    · obtain ⟨u, rfl⟩ := execRefSourceStatusFail_within.form h; rfl
  · rintro s t (⟨_, h⟩ | ⟨_, h⟩)
    · obtain ⟨u, rfl⟩ := execRefSelect_within.form h; rfl
    · obtain ⟨u, rfl⟩ := execWaitToRestoreExpire_within.form h; rfl
  · rintro s t ⟨_, h⟩
    obtain ⟨u, rfl⟩ := execLoopUpdate_within.form h; rfl
  · rintro s t ⟨_, h⟩
    obtain ⟨u, rfl⟩ := execLockAchieved_within.form h; rfl
  · rintro s t ⟨_, _, h⟩
    obtain ⟨u, rfl⟩ := execHoldoverSample_within.form h; rfl
  · rintro s t ⟨_, _, h⟩
    obtain ⟨u, rfl⟩ := execHoldoverWrite_within.form h; rfl
  · rintro s t ⟨_, h⟩
    obtain ⟨u, rfl⟩ := execAutoStepTest_within.form h; rfl
  · rintro s t (⟨_, _, h⟩ | ⟨_, _, h⟩)
    · obtain ⟨u, rfl⟩ := execRefQuiescent_within.form h; rfl
    · obtain ⟨u, rfl⟩ := execTodSentenceReceive_within.form h; rfl
  · rintro s t ⟨_, _, h⟩
    obtain ⟨u, rfl⟩ := execOutputEdge_within.form h; rfl
  · rintro s t ⟨_, _, h⟩
    obtain ⟨u, rfl⟩ := execOutputQuiescent_within.form h; rfl
  · rintro s t ⟨_, _, _, h⟩
    obtain ⟨u, rfl⟩ := execToutMonitorCheck_within.form h; rfl
  · rintro s t ⟨_, h⟩
    obtain ⟨u, rfl⟩ := execTodSentenceSend_within.form h; rfl
  · rintro s t (⟨_, _, h⟩ | ⟨_, h⟩)
    · obtain ⟨u, rfl⟩ := execGnssEpoch_within.form h; rfl
    · obtain ⟨u, rfl⟩ := execGnssRecover_within.form h; rfl
  · rintro s t ⟨_, h⟩
    obtain ⟨u, rfl⟩ := execGnssIndicator_within.form h; rfl
  · rintro s t (⟨_, h⟩ | ⟨_, _, _, _, h⟩ | ⟨_, h⟩)
    · obtain ⟨u, rfl⟩ := execGnssSignalLoss_within.form h; rfl
    · obtain ⟨u, rfl⟩ := execGnssBackgroundFix_within.form h; rfl
    · obtain ⟨u, rfl⟩ := execGnssDisqualify_within.form h; rfl
  · rintro s t ⟨_, h⟩
    obtain ⟨u, rfl⟩ := execGnssSurveyDone_within.form h; rfl
  · rintro s t ⟨_, _, _, h⟩
    obtain ⟨u, rfl⟩ := execGnssAntenna_within.form h; rfl
  · rintro s t ⟨_, h⟩
    obtain ⟨u, rfl⟩ := execGnssQuiescent_within.form h; rfl
  · rintro s t (⟨_, h⟩ | ⟨_, h⟩)
    · obtain ⟨u, rfl⟩ := execHelloSend_within.form h; rfl
    · obtain ⟨u, rfl⟩ := execHeartbeatStale_within.form h; rfl
  · rintro s t (⟨_, _, h⟩ | ⟨_, _, h⟩ | ⟨_, _, _, h⟩)
    · obtain ⟨u, rfl⟩ := execHello_within.form h; rfl
    · obtain ⟨u, rfl⟩ := execTrunkState_within.form h; rfl
    · obtain ⟨u, rfl⟩ := execL1syncChange_within.form h; rfl
  · rintro s t ⟨_, h⟩
    obtain ⟨u, rfl⟩ := execMembersSend_within.form h; rfl
  · rintro s t ⟨_, _, h⟩
    obtain ⟨u, rfl⟩ := execMembers_within.form h; rfl
  · rintro s t ⟨_, h⟩
    obtain ⟨u, rfl⟩ := execDupIdClear_within.form h; rfl
  · rintro s t ⟨_, _, _, _, _, _, _, h⟩
    obtain ⟨u, rfl⟩ := execTrunkExchange_within.form h; rfl
  · rintro s t ⟨_, h⟩
    obtain ⟨u, rfl⟩ := execDomainQuiescent_within.form h; rfl
  · rintro s t ⟨_, h⟩
    obtain ⟨u, rfl⟩ := execLinkCalGateClose_within.form h; rfl
  · rintro s t ⟨_, _, h⟩
    obtain ⟨u, rfl⟩ := execEsmcSend_within.form h; rfl
  · rintro s t ⟨_, _, _, h⟩
    obtain ⟨u, rfl⟩ := execEsmcReceive_within.form h; rfl
  · rintro s t (⟨_, _, h⟩ | ⟨_, _, h⟩)
    · obtain ⟨u, rfl⟩ := execCueAnnounce_within.form h; rfl
    · obtain ⟨u, rfl⟩ := execCueCancelFrame_within.form h; rfl
  · rintro s t ⟨_, _, h⟩
    obtain ⟨u, rfl⟩ := execCueAck_within.form h; rfl
  · rintro s t ⟨_, h⟩
    obtain ⟨u, rfl⟩ := execCueAckSend_within.form h; rfl
  · rintro s t (⟨_, h⟩ | ⟨_, h⟩)
    · obtain ⟨u, rfl⟩ := execCuePrefetchStart_within.form h; rfl
    · obtain ⟨u, rfl⟩ := execCuePrefetchDeadline_within.form h; rfl
  · rintro s t ⟨_, h⟩
    obtain ⟨u, rfl⟩ := execCueHandover_within.form h; rfl
  · rintro s t ⟨_, h⟩
    obtain ⟨u, rfl⟩ := execCueExecute_within.form h; rfl
  · rintro s t ⟨_, h⟩
    obtain ⟨u, rfl⟩ := execCaptureRingQuiescent_within.form h; rfl

/-- Settles O60, event by event from the frame of its operations. -/
theorem frameOfEventsC : Obligations.FrameOfEventsC := by
  unfold Obligations.FrameOfEventsC
  refine ⟨?_, ?_, ?_, ?_, ?_, ?_, ?_, ?_, ?_, ?_, ?_, ?_, ?_, ?_, ?_, ?_, ?_, ?_, ?_, ?_, ?_, ?_, ?_, ?_, ?_, ?_, ?_, ?_, ?_, ?_, ?_, ?_,
    ?_, ?_, ?_, ?_, ?_, ?_, ?_, ?_, ?_, ?_, ?_, ?_, ?_, ?_, ?_, ?_, ?_, ?_, ?_, ?_, ?_, ?_, ?_, ?_, ?_, ?_, ?_, ?_, ?_, ?_, ?_⟩
  · rintro s t ⟨_, _, h⟩
    obtain ⟨u, rfl⟩ := execPrepare_within.form h; rfl
  · rintro s t (⟨_, _, h⟩ | ⟨_, _, h⟩ | ⟨_, _, h⟩)
    · obtain ⟨u, rfl⟩ := execReady_within.form h; rfl
    · obtain ⟨u, rfl⟩ := execArmed_within.form h; rfl
    · obtain ⟨u, rfl⟩ := execCancelAck_within.form h; rfl
  · rintro s t ⟨_, _, h⟩
    obtain ⟨u, rfl⟩ := execArm_within.form h; rfl
  · rintro s t ⟨_, _, h⟩
    obtain ⟨u, rfl⟩ := execEquinoxCancelFrame_within.form h; rfl
  · rintro s t ⟨_, h⟩
    obtain ⟨u, rfl⟩ := execRoundUpSend_within.form h; rfl
  · rintro s t ⟨_, h⟩
    obtain ⟨u, rfl⟩ := execRootRoundAdvance_within.form h; rfl
  · rintro s t ⟨_, h⟩
    obtain ⟨u, rfl⟩ := execEquinoxMissed_within.form h; rfl
  · rintro s t ⟨_, h⟩
    obtain ⟨u, rfl⟩ := execEquinoxPreloadDone_within.form h; rfl
  · rintro s t ⟨_, h⟩
    obtain ⟨u, rfl⟩ := execEquinoxCommit_within.form h; rfl
  · rintro s t ⟨_, h⟩
    obtain ⟨u, rfl⟩ := execBankDrained_within.form h; rfl
  · rintro s t ⟨_, h⟩
    obtain ⟨u, rfl⟩ := execBankReseedDone_within.form h; rfl
  · rintro s t ⟨_, h⟩
    obtain ⟨u, rfl⟩ := execBankPersisted_within.form h; rfl
  · rintro s t ⟨_, _, h⟩
    obtain ⟨u, rfl⟩ := execBankLostLoad_within.form h; rfl
  · rintro s t ⟨_, _, h⟩
    obtain ⟨u, rfl⟩ := execInbandRequest_within.form h; rfl
  · rintro s t ⟨_, _, h⟩
    obtain ⟨u, rfl⟩ := execInbandResponse_within.form h; rfl
  · rintro s t ⟨_, h⟩
    obtain ⟨u, rfl⟩ := execInbandTimeout_within.form h; rfl
  · rintro s t ⟨_, h⟩
    obtain ⟨u, rfl⟩ := execInbandQuiescent_within.form h; rfl
  · rintro s t (⟨_, _, h⟩ | ⟨_, _, h⟩ | ⟨_, _, h⟩ | ⟨_, _, h⟩)
    · obtain ⟨u, rfl⟩ := execNtpRequest_within.form h; rfl
    · obtain ⟨u, rfl⟩ := execServiceArp_within.form h; rfl
    · obtain ⟨u, rfl⟩ := execPtpEventMessage_within.form h; rfl
    · obtain ⟨u, rfl⟩ := execUnicastNegotiation_within.form h; rfl
  · rintro s t ⟨_, _, h⟩
    obtain ⟨u, rfl⟩ := execNtsRequest_within.form h; rfl
  · rintro s t ⟨_, _, h⟩
    obtain ⟨u, rfl⟩ := execDenyRequest_within.form h; rfl
  · rintro s t ⟨_, _, _, h⟩
    obtain ⟨u, rfl⟩ := execPtpMessageSend_within.form h; rfl
  · rintro s t ⟨_, _, h⟩
    obtain ⟨u, rfl⟩ := execPtpForeignMaster_within.form h; rfl
  · rintro s t ⟨_, _, _, h⟩
    obtain ⟨u, rfl⟩ := execPtpSlaveAnnounce_within.form h; rfl
  · rintro s t ⟨_, h⟩
    obtain ⟨u, rfl⟩ := execPtpAnnounceTimeout_within.form h; rfl
  · rintro s t ⟨_, h⟩
    obtain ⟨u, rfl⟩ := execGrantExpire_within.form h; rfl
  · rintro s t ⟨_, _, _, _, _, _, h⟩
    obtain ⟨u, rfl⟩ := execPdelayMeasure_within.form h; rfl
  · rintro s t ⟨_, h⟩
    obtain ⟨u, rfl⟩ := execCookieRotate_within.form h; rfl
  · rintro s t ⟨_, h⟩
    obtain ⟨u, rfl⟩ := execTsFunctionQuiescent_within.form h; rfl
  · rintro s t ⟨_, h⟩
    obtain ⟨u, rfl⟩ := execLedgerFlushDone_within.form h; rfl
  · rintro s t ⟨_, _, h⟩
    obtain ⟨u, rfl⟩ := execBnOpStart_within.form h; rfl
  · rintro s t ⟨_, _, _, _, h⟩
    obtain ⟨u, rfl⟩ := execBnOpRelease_within.form h; rfl
  · rintro s t ⟨_, _, h⟩
    obtain ⟨u, rfl⟩ := execBnLaneZeroised_within.form h; rfl
  · rintro s t ⟨_, h⟩
    obtain ⟨u, rfl⟩ := execBnDrainComplete_within.form h; rfl
  · rintro s t ⟨_, h⟩
    obtain ⟨u, rfl⟩ := execKeyStoreWriteDone_within.form h; rfl
  · rintro s t ⟨_, _, h⟩
    obtain ⟨u, rfl⟩ := execEntropyHealth_within.form h; rfl
  · rintro s t ⟨_, _, _, _, _, _, h⟩
    obtain ⟨u, rfl⟩ := execDramReadCorrect_within.form h; rfl
  · rintro s t ⟨_, h⟩
    obtain ⟨u, rfl⟩ := execRepeatWindowExpire_within.form h; rfl
  · rintro s t ⟨_, _, h⟩
    obtain ⟨u, rfl⟩ := execDramErasureMark_within.form h; rfl
  · rintro s t ⟨_, _, _, _, _, _, h⟩
    obtain ⟨u, rfl⟩ := execDramUncorrectableRead_within.form h; rfl
  · rintro s t ⟨_, h⟩
    obtain ⟨u, rfl⟩ := execPageRetire_within.form h; rfl
  · rintro s t ⟨_, h⟩
    obtain ⟨u, rfl⟩ := execRetirementPersist_within.form h; rfl
  · rintro s t ⟨_, _, _, h⟩
    obtain ⟨u, rfl⟩ := execPatrolLine_within.form h; rfl
  · rintro s t ⟨_, h⟩
    obtain ⟨u, rfl⟩ := execMemScrubDone_within.form h; rfl
  · rintro s t ⟨_, _, _, _, _, _, h⟩
    obtain ⟨u, rfl⟩ := execSramCorrect_within.form h; rfl
  · rintro s t ⟨_, _, _, _, _, _, _, _, h⟩
    obtain ⟨u, rfl⟩ := execSramUncorrectable_within.form h; rfl
  · rintro s t ⟨_, h⟩
    obtain ⟨u, rfl⟩ := execBankEntryRewrite_within.form h; rfl
  · rintro s t ⟨_, _, _, _, _, _, _, _, h⟩
    obtain ⟨u, rfl⟩ := execFlashRefreshScan_within.form h; rfl
  · rintro s t ⟨_, _, h⟩
    obtain ⟨u, rfl⟩ := execFlipMaskWrite_within.form h; rfl
  · rintro s t (⟨_, _, _, _, _, _, h⟩ | ⟨_, _, _, h⟩)
    · obtain ⟨u, rfl⟩ := execFaultEvent_within.form h; rfl
    · obtain ⟨u, rfl⟩ := execSentinelTakeover_within.form h; rfl
  · rintro s t (⟨_, _, h⟩ | ⟨_, h⟩ | ⟨_, h⟩)
    · obtain ⟨u, rfl⟩ := execFaultServiced_within.form h; rfl
    · obtain ⟨u, rfl⟩ := execFaultWindowExpire_within.form h; rfl
    · obtain ⟨u, rfl⟩ := execFaultQuietExpire_within.form h; rfl
  · rintro s t ⟨_, h⟩
    obtain ⟨u, rfl⟩ := execTakeoverStartTimeout_within.form h; rfl
  · rintro s t ⟨_, _, h⟩
    obtain ⟨u, rfl⟩ := execBankCheck_within.form h; rfl
  · rintro s t ⟨_, _, _, h⟩
    obtain ⟨u, rfl⟩ := execMidwinterStored_within.form h; rfl
  · rintro s t ⟨_, h⟩
    obtain ⟨u, rfl⟩ := execMidwinterSlotErase_within.form h; rfl
  · rintro s t ⟨_, _, _, h⟩
    obtain ⟨u, rfl⟩ := execCoreException_within.form h; rfl
  · rintro s t ⟨_, h⟩
    obtain ⟨u, rfl⟩ := execResetNRelease_within.form h; rfl
  · rintro s t ⟨_, h⟩
    obtain ⟨u, rfl⟩ := execProcessorOnlyRestart_within.form h; rfl
  · rintro s t ⟨_, _, h⟩
    obtain ⟨u, rfl⟩ := execPcieLinkUp_within.form h; rfl
  · rintro s t ⟨_, _, h⟩
    obtain ⟨u, rfl⟩ := execHportHoldoffExpire_within.form h; rfl
  · rintro s t ⟨_, _, h⟩
    obtain ⟨u, rfl⟩ := execSealClosedChange_within.form h; rfl
  · rintro s t ⟨_, h⟩
    obtain ⟨u, rfl⟩ := execValidationDone_within.form h; rfl
  · rintro s t ⟨_, _, h⟩
    obtain ⟨u, rfl⟩ := execAntennaBiasReapply_within.form h; rfl
  · rintro s t ⟨_, _, _, h⟩
    obtain ⟨u, rfl⟩ := execBar2Write_within.form h; rfl

end Sys2Proof.Machine
end

section
/-!
SUPPORT. What every command keeps: the queue and the canonical form.
-/
namespace Sys2Proof.Machine
set_option Elab.async false -- one declaration after the other: fewer threads at once

/-- What any command may change: everything but the commands that wait. -/
def State.ran (s t : State) : State := { t with pending := s.pending }

theorem request_within {g : State → State → State} {c : Command} {q : Req} {s : State} (run : ∀ {s}, Replies g s (c.run q s))
    (law : ∀ s t, State.ran s (g s t) = g s t := by intros; rfl) : Steps State.ran s (runCommand c q s) :=
  ⟨fun _ e => Serving.request Within.serving (fun k h => h.after (.wider k)) (.put (.refl _)) (.put (.refl _)) (run.wider law).state e⟩

/-- Whatever a command is, what it does leaves the queue and keeps the canonical form. -/
theorem exec_within (c : Instr) (s : State) : Steps State.ran s (exec c s) := by
  cases c with
  | sysInfo _ => exact request_within cmdSysInfo_run
  | sysPaceSet _ => exact request_within cmdSysPaceSet_run
  | sysPaceGet _ => exact request_within cmdSysPaceGet_run
  | sysAttendCancel _ => exact request_within cmdSysAttendCancel_run
  | sysInbandSet _ => exact request_within cmdSysInbandSet_run
  | sysInbandSend _ => exact request_within cmdSysInbandSend_run
  | sysWindowRead _ => exact request_within cmdSysWindowRead_run
  | sysWindowWrite _ => exact request_within cmdSysWindowWrite_run
  | sysFwWrite _ => exact request_within cmdSysFwWrite_run
  | sysFwActivate _ => exact request_within cmdSysFwActivate_run
  | sysSealProvision _ => exact request_within cmdSysSealProvision_run
  | sysFactoryDefault _ => exact request_within cmdSysFactoryDefault_run
  | sysTraceRead _ => exact request_within cmdSysTraceRead_run
  | bankStatus _ => exact request_within cmdBankStatus_run
  | bankSeed _ => exact request_within cmdBankSeed_run
  | bankValidate _ => exact request_within cmdBankValidate_run
  | bankTag _ => exact request_within cmdBankTag_run
  | equinoxLocal _ => exact request_within cmdEquinoxLocal_run
  | equinoxCancel _ => exact request_within cmdEquinoxCancel_run
  | equinoxDomainStart _ => exact request_within cmdEquinoxDomainStart_run
  | equinoxDomainCancel _ => exact request_within cmdEquinoxDomainCancel_run
  | equinoxResultGet _ => exact request_within cmdEquinoxResultGet_run
  | portConfigSet _ => exact request_within cmdPortConfigSet_run
  | portConfigGet _ => exact request_within cmdPortConfigGet_run
  | portStatus _ => exact request_within cmdPortStatus_run
  | portStats _ => exact request_within cmdPortStats_run
  | hostRingSet _ => exact request_within cmdHostRingSet_run
  | hostCounters _ => exact request_within cmdHostCounters_run
  | vlanSet _ => exact request_within cmdVlanSet_run
  | portFwdSet _ => exact request_within cmdPortFwdSet_run
  | portStateSet _ => exact request_within cmdPortStateSet_run
  | macStaticSet _ => exact request_within cmdMacStaticSet_run
  | macFlush _ => exact request_within cmdMacFlush_run
  | macLookup _ => exact request_within cmdMacLookup_run
  | flowRuleSet _ => exact request_within cmdFlowRuleSet_run
  | mcastGroupSet _ => exact request_within cmdMcastGroupSet_run
  | queueSet _ => exact request_within cmdQueueSet_run
  | rsvSet _ => exact request_within cmdRsvSet_run
  | mirrorSet _ => exact request_within cmdMirrorSet_run
  | switchConfigGet _ => exact request_within cmdSwitchConfigGet_run
  | switchStatus _ => exact request_within cmdSwitchStatus_run
  | switchCounters _ => exact request_within cmdSwitchCounters_run
  | timeGet _ => exact request_within cmdTimeGet_run
  | timeSetFreq _ => exact request_within cmdTimeSetFreq_run
  | timeAdjPhase _ => exact request_within cmdTimeAdjPhase_run
  | timeStep _ => exact request_within cmdTimeStep_run
  | leapTableSet _ => exact request_within cmdLeapTableSet_run
  | leapTableGet _ => exact request_within cmdLeapTableGet_run
  | stampLatencySet _ => exact request_within cmdStampLatencySet_run
  | stampLatencyGet _ => exact request_within cmdStampLatencyGet_run
  | stampRingSet _ => exact request_within cmdStampRingSet_run
  | stampCounters _ => exact request_within cmdStampCounters_run
  | measChannelSet _ => exact request_within cmdMeasChannelSet_run
  | measChannelGet _ => exact request_within cmdMeasChannelGet_run
  | measStart _ => exact request_within cmdMeasStart_run
  | measStop _ => exact request_within cmdMeasStop_run
  | measResultGet _ => exact request_within cmdMeasResultGet_run
  | measCalGet _ => exact request_within cmdMeasCalGet_run
  | measCalRun _ => exact request_within cmdMeasCalRun_run
  | ocxoStatus _ => exact request_within cmdOcxoStatus_run
  | refConfigSet _ => exact request_within cmdRefConfigSet_run
  | refConfigGet _ => exact request_within cmdRefConfigGet_run
  | refStatus _ => exact request_within cmdRefStatus_run
  | selModeSet _ => exact request_within cmdSelModeSet_run
  | selStatus _ => exact request_within cmdSelStatus_run
  | loopSet _ => exact request_within cmdLoopSet_run
  | timingPolicySet _ => exact request_within cmdTimingPolicySet_run
  | timingPolicyGet _ => exact request_within cmdTimingPolicyGet_run
  | outputSet _ => exact request_within cmdOutputSet_run
  | outputGet _ => exact request_within cmdOutputGet_run
  | holdoverStatus _ => exact request_within cmdHoldoverStatus_run
  | gnssConfigSet _ => exact request_within cmdGnssConfigSet_run
  | gnssConfigGet _ => exact request_within cmdGnssConfigGet_run
  | gnssStatus _ => exact request_within cmdGnssStatus_run
  | gnssSatList _ => exact request_within cmdGnssSatList_run
  | gnssSurveyRestart _ => exact request_within cmdGnssSurveyRestart_run
  | gnssReset _ => exact request_within cmdGnssReset_run
  | domainConfigSet _ => exact request_within cmdDomainConfigSet_run
  | domainConfigGet _ => exact request_within cmdDomainConfigGet_run
  | portTimingSet _ => exact request_within cmdPortTimingSet_run
  | fibrePairSet _ => exact request_within cmdFibrePairSet_run
  | trunkStatus _ => exact request_within cmdTrunkStatus_run
  | domainStatus _ => exact request_within cmdDomainStatus_run
  | linkCalRun _ => exact request_within cmdLinkCalRun_run
  | domainMembers _ => exact request_within cmdDomainMembers_run
  | cueAdd _ => exact request_within cmdCueAdd_run
  | cueCancel _ => exact request_within cmdCueCancel_run
  | cueList _ => exact request_within cmdCueList_run
  | cueStatus _ => exact request_within cmdCueStatus_run
  | cueDomainAnnounce _ => exact request_within cmdCueDomainAnnounce_run
  | cueDomainCancel _ => exact request_within cmdCueDomainCancel_run
  | captureRingSet _ => exact request_within cmdCaptureRingSet_run
  | cueFrameWrite _ => exact request_within cmdCueFrameWrite_run
  | cueDomainResultGet _ => exact request_within cmdCueDomainResultGet_run
  | tsConfigSet _ => exact request_within cmdTsConfigSet_run
  | tsConfigGet _ => exact request_within cmdTsConfigGet_run
  | tsAddrSet _ => exact request_within cmdTsAddrSet_run
  | tsPrefixSet _ => exact request_within cmdTsPrefixSet_run
  | tsPolicySet _ => exact request_within cmdTsPolicySet_run
  | ptpPortSet _ => exact request_within cmdPtpPortSet_run
  | tsStatus _ => exact request_within cmdTsStatus_run
  | tsCounters _ => exact request_within cmdTsCounters_run
  | tsLedgerGet _ => exact request_within cmdTsLedgerGet_run
  | tsLedgerFlush _ => exact request_within cmdTsLedgerFlush_run
  | ntsCookieIssue _ => exact request_within cmdNtsCookieIssue_run
  | keyInfo _ => exact request_within cmdKeyInfo_run
  | keyImport _ => exact request_within cmdKeyImport_run
  | keyGenerate _ => exact request_within cmdKeyGenerate_run
  | keyDelete _ => exact request_within cmdKeyDelete_run
  | keyNtsInit _ => exact request_within cmdKeyNtsInit_run
  | keyPolicySet _ => exact request_within cmdKeyPolicySet_run
  | keyPolicyGet _ => exact request_within cmdKeyPolicyGet_run
  | bnOp _ => exact request_within cmdBnOp_run
  | bnAbort _ => exact request_within cmdBnAbort_run
  | bnEnable _ => exact request_within cmdBnEnable_run
  | cryptoStatus _ => exact request_within cmdCryptoStatus_run
  | memStatus _ => exact request_within cmdMemStatus_run
  | memPolicySet _ => exact request_within cmdMemPolicySet_run
  | memScrub _ => exact request_within cmdMemScrub_run
  | memCounters _ => exact request_within cmdMemCounters_run
  | memRetiredList _ => exact request_within cmdMemRetiredList_run
  | memFlashStatus _ => exact request_within cmdMemFlashStatus_run
  | memSramFlags _ => exact request_within cmdMemSramFlags_run
  | memFlipArm _ => exact request_within cmdMemFlipArm_run
  | memFuseProgram _ => exact request_within cmdMemFuseProgram_run
  | faultStatus _ => exact request_within cmdFaultStatus_run
  | faultLedgerRead _ => exact request_within cmdFaultLedgerRead_run
  | faultClear _ => exact request_within cmdFaultClear_run
  | faultPolicySet _ => exact request_within cmdFaultPolicySet_run
  | midwinterInfo _ => exact request_within cmdMidwinterInfo_run
  | midwinterRead _ => exact request_within cmdMidwinterRead_run
  | midwinterRelease _ => exact request_within cmdMidwinterRelease_run
  | faultInject _ => exact request_within cmdFaultInject_run
  | platStatus _ => exact request_within cmdPlatStatus_run
  | platSupplySet _ => exact request_within cmdPlatSupplySet_run
  | platReset _ => exact request_within cmdPlatReset_run
  | platMarchLog _ => exact request_within cmdPlatMarchLog_run
  | timeSnapCapture _ => exact execTimeSnapCapture_within.wider
  | intStatusClear _ _ => exact execIntStatusClear_within.wider
  | intMaskWrite _ _ => exact execIntMaskWrite_within.wider
  | evtTailWrite _ _ => exact execEvtTailWrite_within.wider
  | evtLostRead _ => exact execEvtLostRead_within.wider
  | strayPressesRead _ => exact execStrayPressesRead_within.wider
  | hportTxTailWrite _ _ _ => exact execHportTxTailWrite_within.wider
  | hportRxTailWrite _ _ _ => exact execHportRxTailWrite_within.wider
  | registerWrite _ _ _ _ => exact execRegisterWrite_within.wider
  | pcieLinkReset _ _ _ => exact execPcieLinkReset_within.wider
  | perstNRelease _ => exact execPerstNRelease_within.wider
  | pwrOkRise _ _ => exact execPwrOkRise_within.wider
  | pwrOkFall _ => exact execPwrOkFall_within.wider
  | resetNAssert _ _ _ => exact execResetNAssert_within.wider
  | powerOnReset _ _ _ _ _ => exact execPowerOnReset_within.wider
  | fullReset _ _ _ => exact execFullReset_within.wider
  | supplyWarnSet _ _ => exact execSupplyWarnSet_within.wider
  | supplyWarnClear _ _ => exact execSupplyWarnClear_within.wider
  | railResetLevel _ _ _ _ => exact execRailResetLevel_within.wider
  | thermalTrip _ _ _ _ => exact execThermalTrip_within.wider
  | thermalRelease _ _ => exact execThermalRelease_within.wider
  | supplyRestart _ _ => exact execSupplyRestart_within.wider
  | marchStep _ => exact execMarchStep_within.wider
  | bootImageSelect _ => exact execBootImageSelect_within.wider
  | fwStarted _ => exact execFwStarted_within.wider
  | imageConfirm _ => exact execImageConfirm_within.wider
  | presentPressStart _ => exact execPresentPressStart_within.wider
  | presentRelease _ => exact execPresentRelease_within.wider
  | pressQualified _ => exact execPressQualified_within.wider
  | attendWindowExpire _ => exact execAttendWindowExpire_within.wider
  | attendActionResume _ => exact execAttendActionResume_within.wider
  | sealBreak _ => exact execSealBreak_within.wider
  | keyMirrorErase _ => exact execKeyMirrorErase_within.wider
  | paceGateClose _ _ _ => exact execPaceGateClose_within.wider
  | timeStepApply _ => exact execTimeStepApply_within.wider
  | slewStart _ => exact execSlewStart_within.wider
  | slewEnd _ => exact execSlewEnd_within.wider
  | leapApplied _ => exact execLeapApplied_within.wider
  | leapPendingStart _ => exact execLeapPendingStart_within.wider
  | leapTablePersist _ => exact execLeapTablePersist_within.wider
  | frameReceive _ _ _ _ _ => exact execFrameReceive_within.wider
  | classificationPass _ _ => exact execClassificationPass_within.wider
  | learningWrite _ => exact execLearningWrite_within.wider
  | liveEditAck _ => exact execLiveEditAck_within.wider
  | macAging _ => exact execMacAging_within.wider
  | snoopPacket _ _ _ _ _ _ _ => exact execSnoopPacket_within.wider
  | snoopLapse _ => exact execSnoopLapse_within.wider
  | egressDecision _ _ => exact execEgressDecision_within.wider
  | preemptCut _ _ => exact execPreemptCut_within.wider
  | bookedSlotBook _ _ _ => exact execBookedSlotBook_within.wider
  | bookedSlotLaunch _ _ => exact execBookedSlotLaunch_within.wider
  | bookedSlotLost _ _ _ => exact execBookedSlotLost_within.wider
  | guardBandOpen _ _ => exact execGuardBandOpen_within.wider
  | pauseReceive _ _ _ => exact execPauseReceive_within.wider
  | pauseTimerExpire _ _ => exact execPauseTimerExpire_within.wider
  | pauseGenerate _ _ => exact execPauseGenerate_within.wider
  | verifySend _ _ => exact execVerifySend_within.wider
  | verifyTimeout _ _ => exact execVerifyTimeout_within.wider
  | respondReceive _ _ => exact execRespondReceive_within.wider
  | verifyReceive _ _ => exact execVerifyReceive_within.wider
  | fragmentReceive _ _ _ _ _ _ _ _ _ => exact execFragmentReceive_within.wider
  | linkLoss _ _ _ => exact execLinkLoss_within.wider
  | linkUp _ _ _ => exact execLinkUp_within.wider
  | linkHoldExpire _ _ => exact execLinkHoldExpire_within.wider
  | portQuiescent _ _ => exact execPortQuiescent_within.wider
  | hostTxDescriptor _ _ _ _ => exact execHostTxDescriptor_within.wider
  | hostRxDeliver _ _ => exact execHostRxDeliver_within.wider
  | hostRingQuiescent _ _ _ => exact execHostRingQuiescent_within.wider
  | stampRingQuiescent _ => exact execStampRingQuiescent_within.wider
  | mirrorQuiescent _ _ => exact execMirrorQuiescent_within.wider
  | tdcEdge _ _ _ _ => exact execTdcEdge_within.wider
  | calTableComplete _ _ _ => exact execCalTableComplete_within.wider
  | regressionGateClose _ _ => exact execRegressionGateClose_within.wider
  | measChannelQuiescent _ _ => exact execMeasChannelQuiescent_within.wider
  | measJobQuiescent _ _ => exact execMeasJobQuiescent_within.wider
  | ocxoWarmChange _ _ _ => exact execOcxoWarmChange_within.wider
  | refEvaluation _ _ => exact execRefEvaluation_within.wider
  | refLos _ _ => exact execRefLos_within.wider
  | refPhaseHit _ _ => exact execRefPhaseHit_within.wider
  | refSourceStatusFail _ _ => exact execRefSourceStatusFail_within.wider
  | refSelect _ => exact execRefSelect_within.wider
  | waitToRestoreExpire _ => exact execWaitToRestoreExpire_within.wider
  | loopUpdate _ => exact execLoopUpdate_within.wider
  | lockAchieved _ => exact execLockAchieved_within.wider
  | holdoverSample _ _ => exact execHoldoverSample_within.wider
  | holdoverWrite _ _ => exact execHoldoverWrite_within.wider
  | autoStepTest _ => exact execAutoStepTest_within.wider
  | refQuiescent _ _ => exact execRefQuiescent_within.wider
  | outputEdge _ _ => exact execOutputEdge_within.wider
  | outputQuiescent _ _ => exact execOutputQuiescent_within.wider
  | toutMonitorCheck _ _ _ => exact execToutMonitorCheck_within.wider
  | todSentenceSend _ => exact execTodSentenceSend_within.wider
  | todSentenceReceive _ _ => exact execTodSentenceReceive_within.wider
  | gnssEpoch _ _ => exact execGnssEpoch_within.wider
  | gnssIndicator _ => exact execGnssIndicator_within.wider
  | gnssSignalLoss _ => exact execGnssSignalLoss_within.wider
  | gnssSurveyDone _ => exact execGnssSurveyDone_within.wider
  | gnssBackgroundFix _ _ _ _ => exact execGnssBackgroundFix_within.wider
  | gnssDisqualify _ => exact execGnssDisqualify_within.wider
  | gnssRecover _ => exact execGnssRecover_within.wider
  | gnssAntenna _ _ _ => exact execGnssAntenna_within.wider
  | gnssQuiescent _ => exact execGnssQuiescent_within.wider
  | helloSend _ => exact execHelloSend_within.wider
  | hello _ _ => exact execHello_within.wider
  | heartbeatStale _ => exact execHeartbeatStale_within.wider
  | membersSend _ => exact execMembersSend_within.wider
  | members _ _ => exact execMembers_within.wider
  | dupIdClear _ => exact execDupIdClear_within.wider
  | trunkExchange _ _ _ _ _ _ _ => exact execTrunkExchange_within.wider
  | trunkState _ _ => exact execTrunkState_within.wider
  | l1syncChange _ _ _ => exact execL1syncChange_within.wider
  | domainQuiescent _ => exact execDomainQuiescent_within.wider
  | linkCalGateClose _ => exact execLinkCalGateClose_within.wider
  | esmcSend _ _ => exact execEsmcSend_within.wider
  | esmcReceive _ _ _ => exact execEsmcReceive_within.wider
  | cueAnnounce _ _ => exact execCueAnnounce_within.wider
  | cueCancelFrame _ _ => exact execCueCancelFrame_within.wider
  | cueAck _ _ => exact execCueAck_within.wider
  | cueAckSend _ => exact execCueAckSend_within.wider
  | cuePrefetchStart _ => exact execCuePrefetchStart_within.wider
  | cuePrefetchDeadline _ => exact execCuePrefetchDeadline_within.wider
  | cueHandover _ => exact execCueHandover_within.wider
  | cueExecute _ => exact execCueExecute_within.wider
  | captureRingQuiescent _ => exact execCaptureRingQuiescent_within.wider
  | prepare _ _ => exact execPrepare_within.wider
  | ready _ _ => exact execReady_within.wider
  | arm _ _ => exact execArm_within.wider
  | armed _ _ => exact execArmed_within.wider
  | equinoxCancelFrame _ _ => exact execEquinoxCancelFrame_within.wider
  | cancelAck _ _ => exact execCancelAck_within.wider
  | roundUpSend _ => exact execRoundUpSend_within.wider
  | rootRoundAdvance _ => exact execRootRoundAdvance_within.wider
  | equinoxMissed _ => exact execEquinoxMissed_within.wider
  | equinoxPreloadDone _ => exact execEquinoxPreloadDone_within.wider
  | equinoxCommit _ => exact execEquinoxCommit_within.wider
  | bankDrained _ => exact execBankDrained_within.wider
  | bankReseedDone _ => exact execBankReseedDone_within.wider
  | bankPersisted _ => exact execBankPersisted_within.wider
  | bankLostLoad _ _ => exact execBankLostLoad_within.wider
  | inbandRequest _ _ => exact execInbandRequest_within.wider
  | inbandResponse _ _ => exact execInbandResponse_within.wider
  | inbandTimeout _ => exact execInbandTimeout_within.wider
  | inbandQuiescent _ => exact execInbandQuiescent_within.wider
  | ntpRequest _ _ => exact execNtpRequest_within.wider
  | ntsRequest _ _ => exact execNtsRequest_within.wider
  | denyRequest _ _ => exact execDenyRequest_within.wider
  | serviceArp _ _ => exact execServiceArp_within.wider
  | ptpEventMessage _ _ => exact execPtpEventMessage_within.wider
  | ptpMessageSend _ _ _ => exact execPtpMessageSend_within.wider
  | ptpForeignMaster _ _ => exact execPtpForeignMaster_within.wider
  | ptpSlaveAnnounce _ _ _ => exact execPtpSlaveAnnounce_within.wider
  | ptpAnnounceTimeout _ => exact execPtpAnnounceTimeout_within.wider
  | unicastNegotiation _ _ => exact execUnicastNegotiation_within.wider
  | grantExpire _ => exact execGrantExpire_within.wider
  | pdelayMeasure _ _ _ _ _ _ => exact execPdelayMeasure_within.wider
  | cookieRotate _ => exact execCookieRotate_within.wider
  | tsFunctionQuiescent _ => exact execTsFunctionQuiescent_within.wider
  | ledgerFlushDone _ => exact execLedgerFlushDone_within.wider
  | bnOpStart _ _ => exact execBnOpStart_within.wider
  | bnOpRelease _ _ _ _ => exact execBnOpRelease_within.wider
  | bnLaneZeroised _ _ => exact execBnLaneZeroised_within.wider
  | bnDrainComplete _ => exact execBnDrainComplete_within.wider
  | keyStoreWriteDone _ => exact execKeyStoreWriteDone_within.wider
  | entropyHealth _ _ => exact execEntropyHealth_within.wider
  | dramReadCorrect _ _ _ _ _ _ => exact execDramReadCorrect_within.wider
  | repeatWindowExpire _ => exact execRepeatWindowExpire_within.wider
  | dramErasureMark _ _ => exact execDramErasureMark_within.wider
  | dramUncorrectableRead _ _ _ _ _ _ => exact execDramUncorrectableRead_within.wider
  | pageRetire _ => exact execPageRetire_within.wider
  | retirementPersist _ => exact execRetirementPersist_within.wider
  | patrolLine _ _ _ => exact execPatrolLine_within.wider
  | memScrubDone _ => exact execMemScrubDone_within.wider
  | sramCorrect _ _ _ _ _ _ => exact execSramCorrect_within.wider
  | sramUncorrectable _ _ _ _ _ _ _ _ => exact execSramUncorrectable_within.wider
  | bankEntryRewrite _ => exact execBankEntryRewrite_within.wider
  | flashRefreshScan _ _ _ _ _ _ _ _ => exact execFlashRefreshScan_within.wider
  | flipMaskWrite _ _ => exact execFlipMaskWrite_within.wider
  | faultEvent _ _ _ _ _ _ => exact execFaultEvent_within.wider
  | faultServiced _ _ => exact execFaultServiced_within.wider
  | faultWindowExpire _ => exact execFaultWindowExpire_within.wider
  | faultQuietExpire _ => exact execFaultQuietExpire_within.wider
  | sentinelTakeover _ _ _ => exact execSentinelTakeover_within.wider
  | takeoverStartTimeout _ => exact execTakeoverStartTimeout_within.wider
  | bankCheck _ _ => exact execBankCheck_within.wider
  | midwinterStored _ _ _ => exact execMidwinterStored_within.wider
  | midwinterSlotErase _ => exact execMidwinterSlotErase_within.wider
  | coreException _ _ _ => exact execCoreException_within.wider
  | resetNRelease _ => exact execResetNRelease_within.wider
  | processorOnlyRestart _ => exact execProcessorOnlyRestart_within.wider
  | pcieLinkUp _ _ => exact execPcieLinkUp_within.wider
  | hportHoldoffExpire _ _ => exact execHportHoldoffExpire_within.wider
  | sealClosedChange _ _ => exact execSealClosedChange_within.wider
  | validationDone _ => exact execValidationDone_within.wider
  | antennaBiasReapply _ _ => exact execAntennaBiasReapply_within.wider
  | bar2Write _ _ _ => exact execBar2Write_within.wider

/-- Settles O6, from the scope every command keeps to. -/
theorem commandsKeepQueue : Obligations.CommandsKeepQueue := by
  unfold Obligations.CommandsKeepQueue
  intro c s t h
  obtain ⟨u, rfl⟩ := (exec_within c s).form h
  rfl

/-- Settles O5: a step is one command or one tick, and both keep the canonical form. -/
theorem stepKeepsCanonical : Obligations.StepKeepsCanonical := by
  unfold Obligations.StepKeepsCanonical
  intro s t h e
  unfold step at e
  split at e
  · obtain rfl := Host.Outcome.next.inj e
    exact h
  · exact ((exec_within _ _).within t e).canonical h

end Sys2Proof.Machine
end

section
/-!
SUPPORT. What a reset leaves: the state a full reset starts from, and the recovery counter, which no fault noted with `FAULT_N` high moves.
-/
namespace Sys2Proof.Machine
set_option Elab.async false -- one declaration after the other: fewer threads at once

theorem Within.form {f : State → State → State} {s t : State} (h : Within f s t) : ∃ u, t = f s u := ⟨t, h.eq⟩

/-! ### The recovery counter -/

/-- What an episode's record may change before the ledger is settled. -/
def State.recordedEpisode (s t : State) : State :=
  { s.reported t with
    flt := { s.flt with
      records := t.flt.records, src := t.flt.src, frozen := t.flt.frozen, ledgerFull := t.flt.ledgerFull, nextOpen := t.flt.nextOpen
      takeRec := t.flt.takeRec } }

theorem State.settleFaults_recoveries {old s : State} (h : s.flt.faultN = false) :
    (State.settleFaults old s).flt.recoveries = s.flt.recoveries := by
  have note : (State.settleFaults old s).flt = s.adopt.driveFaultN.flt := by
    unfold State.settleFaults
    rw [State.noteFrom_within.eq]
    rfl
  have adopted : s.adopt.flt.faultN = false ∧ s.adopt.flt.recoveries = s.flt.recoveries := by
    rw [State.adopt_within.eq]
    exact ⟨h, rfl⟩
  rw [note, ← adopted.2]
  unfold State.driveFaultN
  simp [adopted.1]

theorem State.faultEvent_settles {code master access address injected} {s : State} :
    ∃ t, Within State.recordedEpisode s t ∧ s.faultEvent code master access address injected = State.settleFaults s t := by
  unfold State.faultEvent
  extract_lets +onlyGivenNames s0 merge
  have h0 : Within State.recordedEpisode s s0 := State.updSrc_within.after (.refl s)
  clear_value s0 merge
  split
  · exact ⟨_, State.updRecord_within.after h0, rfl⟩
  extract_lets +onlyGivenNames sv lastAt old cnt severe s1
  have h1 : Within State.recordedEpisode s s1 := State.updSrc_within.after h0
  clear_value s1
  split
  · extract_lets +onlyGivenNames r r1 s2
    have h2 : Within State.recordedEpisode s s2 := by
      unfold s2
      split
      · exact .ite (State.quieten_within.after (State.post_within.after (State.setRecord_within.after h1)))
          (State.setRecord_within.after h1)
      · exact State.quieten_within.after (State.setRecord_within.after h1)
    clear_value s2
    exact ⟨_, .ite h2 (State.linkInjected_within.after h2), rfl⟩
  · split
    · extract_lets +onlyGivenNames st r c
      have hc : Within State.recordedEpisode s c := State.claim_within.after h1
      clear_value c
      extract_lets +onlyGivenNames _ s2 s3
      have h2 : Within State.recordedEpisode s s2 := State.updSrc_within.after (State.setRecord_within.after (.put hc))
      clear_value s2
      exact ⟨_, State.post_within.after (.ite h2 (State.linkInjected_within.after h2)), rfl⟩
    · exact ⟨_, State.counterHalf_within.after (State.updSrc_within.after (.put h1)), rfl⟩

theorem State.fault_recoveries {code master access address} {s : State} (h : s.flt.faultN = false) :
    (s.fault code master access address).flt.recoveries = s.flt.recoveries := by
  obtain ⟨t, ht, e⟩ := State.faultEvent_settles (code := code) (master := master) (access := access) (address := address)
    (injected := false) (s := s)
  have low : t.flt.faultN = false ∧ t.flt.recoveries = s.flt.recoveries := by
    rw [ht.eq]
    exact ⟨h, rfl⟩
  unfold State.fault
  rw [e, State.settleFaults_recoveries low.1, low.2]

theorem State.condition_recoveries {code master access address} {s : State} (h : s.flt.faultN = false) :
    (s.condition code master access address).flt.recoveries = s.flt.recoveries := by
  unfold State.condition
  split
  · rfl
  · exact State.fault_recoveries h

/-! ### The full reset -/

/-- The state a full reset starts from, before the hold of the supplies and a standing broken seal. -/
def State.restarted (reason : Nat) (service factory : Bool) (s : State) : State :=
  { State.reset with
    time := { State.reset.time with tick := s.time.tick, rawBase := s.time.rawBase }
    leap := { State.reset.leap with table := s.leap.flash, flash := s.leap.flash }
    win := { State.reset.win with present := s.win.present, raw := s.win.raw, rawAt := s.win.rawAt }
    sealLoop := s.sealLoop
    inb := { State.reset.inb with enable := s.inb.enable }
    fw := s.fw.afterReset s.time.tick reason
    ocxo := { State.reset.ocxo with devMk := s.ocxo.devMk }
    refs := refList.map (fun r => (r, { since := s.time.tick }))
    sel := { State.reset.sel with since := s.time.tick }
    gnss := { State.reset.gnss with stored := s.gnss.stored, since := s.time.tick }
    dom := { State.reset.dom with resetCount := (s.dom.resetCount + 1) % 65536 }
    banks := { State.reset.banks with slots := s.banks.slots }
    keys := { State.reset.keys with
      slot := s.keys.slot.mapVal KeySlot.blank, mirror := s.keys.mirror, salt := s.keys.salt, erase := s.keys.erase }
    mem := s.mem.afterReset
    flt := { State.reset.flt with recoveries := s.flt.recoveries }
    mid := { State.reset.mid with
      loc := Tbl.erase s.mid.loc 0, nextSeq := s.mid.nextSeq
      erase := ([1, 2] : List Nat).filter (fun k => (Tbl.get? s.mid.loc k).elim false (·.released)) }
    plat := { s.plat with
      pcieUp := false, pcieGen := 0, pcieWidth := 0, service := service, factoryTest := factory, warnMv := s.plat.warnMvFlash
      flashWork := [], step := 0, stepsDone := 0, doneUs := [], marchFallback := false, resetAt := s.time.tick }
    trace := s.trace, free := s.free, pending := s.pending }

theorem State.fullReset_def (reason : Nat) (service factory : Bool) (s : State) :
    s.fullReset reason service factory =
      if (s.restarted reason service factory).setHold.sealBroken then
        (s.restarted reason service factory).setHold.condition 0x30 15 6 0
      else (s.restarted reason service factory).setHold := rfl

theorem State.fullReset_restarts {reason : Nat} {service factory : Bool} {s : State} :
    Within (fun s t => { s.noted t with plat := { s.plat with inReset := t.plat.inReset } }) (s.restarted reason service factory)
      (s.fullReset reason service factory) := by
  rw [State.fullReset_def]
  have h := State.setHold_within.after (.refl (s.restarted reason service factory))
    (f := fun s t => { s.noted t with plat := { s.plat with inReset := t.plat.inReset } })
  exact .ite (State.condition_within.after h) h

theorem State.fullReset_recoveries {reason : Nat} {service factory : Bool} {s : State} :
    (s.fullReset reason service factory).flt.recoveries = s.flt.recoveries := by
  rw [State.fullReset_def]
  split
  · exact State.condition_recoveries rfl
  · rfl

/-! ### What flash and fuses hold -/

/-- `t` holds what `s` holds in flash and in fuses. -/
structure KeepsFlash (s t : State) : Prop where
  leap : t.leap.flash = s.leap.flash
  ocxo : t.ocxo.devMk = s.ocxo.devMk
  gnss : t.gnss.stored = s.gnss.stored
  slots : t.banks.slots = s.banks.slots
  retired : t.mem.retiredFlash = s.mem.retiredFlash
  erasure : t.mem.erasure = s.mem.erasure
  flagged : t.mem.flaggedFlash.filter (fun x => !x.fused) = s.mem.flaggedFlash.filter (fun x => !x.fused)
  policy : t.mem.policyFlash = s.mem.policyFlash
  seq : t.mid.nextSeq = s.mid.nextSeq
  free : t.free = s.free

namespace KeepsFlash

theorem refl (s : State) : KeepsFlash s s := ⟨rfl, rfl, rfl, rfl, rfl, rfl, rfl, rfl, rfl, rfl⟩

theorem trans {s t u : State} (h : KeepsFlash s t) (k : KeepsFlash t u) : KeepsFlash s u :=
  ⟨k.leap.trans h.leap, k.ocxo.trans h.ocxo, k.gnss.trans h.gnss, k.slots.trans h.slots, k.retired.trans h.retired,
    k.erasure.trans h.erasure, k.flagged.trans h.flagged, k.policy.trans h.policy, k.seq.trans h.seq, k.free.trans h.free⟩

/-- A scope outside flash and fuses keeps what they hold. -/
theorem of_within {f : State → State → State} {s t : State} (h : Within f s t)
    (law : ∀ s u, KeepsFlash s (f s u) := by exact fun _ _ => ⟨rfl, rfl, rfl, rfl, rfl, rfl, rfl, rfl, rfl, rfl⟩) : KeepsFlash s t :=
  h.eq ▸ law s t

end KeepsFlash

theorem State.fullReset_keepsFlash {reason : Nat} {service factory : Bool} {s : State} :
    KeepsFlash s (s.fullReset reason service factory) :=
  KeepsFlash.trans (t := s.restarted reason service factory)
    ⟨rfl, rfl, rfl, rfl, rfl, rfl, by simp [State.restarted, MemS.afterReset], rfl, rfl, rfl⟩ (.of_within State.fullReset_restarts)

theorem State.standbyLost_keepsFlash {service factory : Bool} {s : State} : KeepsFlash s (s.standbyLost service factory) := by
  unfold State.standbyLost
  extract_lets +onlyGivenNames _ s1
  have h : KeepsFlash s s1 := KeepsFlash.trans (t := { s with plat := { s.plat with standby := false } })
    ⟨rfl, rfl, rfl, rfl, rfl, rfl, rfl, rfl, rfl, rfl⟩ (.trans State.fullReset_keepsFlash (.of_within State.standbyReset_within))
  exact ⟨h.leap, h.ocxo, h.gnss, h.slots, h.retired, h.erasure, h.flagged, h.policy, h.seq, h.free⟩

/-- What flash, fuses and the standby domain hold. -/
structure KeepsStandby (s t : State) : Prop extends KeepsFlash s t where
  sealLoop : t.sealLoop = s.sealLoop
  mirror : t.keys.mirror = s.keys.mirror
  recoveries : t.flt.recoveries = s.flt.recoveries

theorem KeepsStandby.all {s t : State} (h : KeepsStandby s t) :
    t.leap.flash = s.leap.flash ∧ t.ocxo.devMk = s.ocxo.devMk ∧ t.gnss.stored = s.gnss.stored ∧ t.banks.slots = s.banks.slots
      ∧ t.mem.retiredFlash = s.mem.retiredFlash ∧ t.mem.erasure = s.mem.erasure
      ∧ t.mem.flaggedFlash.filter (fun x => !x.fused) = s.mem.flaggedFlash.filter (fun x => !x.fused)
      ∧ t.mem.policyFlash = s.mem.policyFlash ∧ t.mid.nextSeq = s.mid.nextSeq ∧ t.free = s.free
      ∧ t.sealLoop = s.sealLoop ∧ t.keys.mirror = s.keys.mirror ∧ t.flt.recoveries = s.flt.recoveries :=
  ⟨h.leap, h.ocxo, h.gnss, h.slots, h.retired, h.erasure, h.flagged, h.policy, h.seq, h.free, h.sealLoop, h.mirror, h.recoveries⟩

theorem KeepsFlash.all {s t : State} (h : KeepsFlash s t) :
    t.leap.flash = s.leap.flash ∧ t.ocxo.devMk = s.ocxo.devMk ∧ t.gnss.stored = s.gnss.stored ∧ t.banks.slots = s.banks.slots
      ∧ t.mem.retiredFlash = s.mem.retiredFlash ∧ t.mem.erasure = s.mem.erasure
      ∧ t.mem.flaggedFlash.filter (fun x => !x.fused) = s.mem.flaggedFlash.filter (fun x => !x.fused)
      ∧ t.mem.policyFlash = s.mem.policyFlash ∧ t.mid.nextSeq = s.mid.nextSeq ∧ t.free = s.free :=
  ⟨h.leap, h.ocxo, h.gnss, h.slots, h.retired, h.erasure, h.flagged, h.policy, h.seq, h.free⟩

/-- A step that touches nothing of flash, fuses and the standby domain keeps them. -/
theorem KeepsStandby.of_eqs {s t : State} (e : (t.leap, t.ocxo, t.gnss, t.banks, t.mem, t.mid, t.free, t.sealLoop, t.keys, t.flt) =
    (s.leap, s.ocxo, s.gnss, s.banks, s.mem, s.mid, s.free, s.sealLoop, s.keys, s.flt)) : KeepsStandby s t := by
  simp only [Prod.mk.injEq] at e
  obtain ⟨e1, e2, e3, e4, e5, e6, e7, e8, e9, e10⟩ := e
  exact ⟨⟨by rw [e1], by rw [e2], by rw [e3], by rw [e4], by rw [e5], by rw [e5], by rw [e5], by rw [e5], by rw [e6], e7⟩, e8,
    by rw [e9], by rw [e10]⟩

theorem KeepsStandby.trans {s t u : State} (h : KeepsStandby s t) (k : KeepsStandby t u) : KeepsStandby s u :=
  ⟨h.toKeepsFlash.trans k.toKeepsFlash, k.sealLoop.trans h.sealLoop, k.mirror.trans h.mirror, k.recoveries.trans h.recoveries⟩

theorem State.fullReset_keepsStandby {reason : Nat} {service factory : Bool} {s : State} :
    KeepsStandby s (s.fullReset reason service factory) :=
  ⟨State.fullReset_keepsFlash, by rw [State.fullReset_restarts.eq]; rfl, by rw [State.fullReset_restarts.eq]; rfl,
    State.fullReset_recoveries⟩

theorem execFullReset_keepsStandby {dt : Nat} {service factory : Bool} {s t : State} (e : exec (.fullReset dt service factory) s = .next t) :
    KeepsStandby s t := by
  obtain rfl := Host.Outcome.next.inj e
  refine .trans (t := s.advance dt) (.of_eqs rfl) ?_
  split
  · exact State.fullReset_keepsStandby
  · exact .of_eqs rfl

theorem execResetNAssert_keepsStandby {dt : Nat} {service factory : Bool} {s t : State}
    (e : exec (.resetNAssert dt service factory) s = .next t) : KeepsStandby s t := by
  obtain rfl := Host.Outcome.next.inj e
  refine .trans (t := s.advance dt) (.of_eqs rfl) ?_
  split
  · exact .of_eqs rfl
  · extract_lets +onlyGivenNames _ s2
    refine .trans (t := s2) (.of_eqs rfl) ?_
    split
    · exact State.fullReset_keepsStandby
    · exact .of_eqs rfl

theorem execThermalTrip_keepsStandby {dt : Nat} {tj : Int} {service factory : Bool} {s t : State}
    (e : exec (.thermalTrip dt tj service factory) s = .next t) : KeepsStandby s t := by
  obtain rfl := Host.Outcome.next.inj e
  refine .trans (t := s.advance dt) (.of_eqs rfl) ?_
  generalize s.advance dt = s1
  split
  · exact .of_eqs rfl
  · exact .trans (t := { s1 with plat := { s1.plat with hot := true, tjMax := tj } }) (.of_eqs rfl) State.fullReset_keepsStandby

theorem execRailResetLevel_keepsFlash {dt : Nat} {r : Rails} {service factory : Bool} {s t : State}
    (e : exec (.railResetLevel dt r service factory) s = .next t) : KeepsFlash s t := by
  obtain rfl := Host.Outcome.next.inj e
  refine .trans (t := s.advance dt) (.of_within State.advance_within) ?_
  generalize s.advance dt = s1
  have read : KeepsFlash s1 (State.warnIfFallen s1 (s1.readRails r)) :=
    .trans (.of_within State.readRails_within) (.of_within State.warnIfFallen_within)
  generalize State.warnIfFallen s1 (s1.readRails r) = s2 at read ⊢
  have wait : KeepsFlash s2 { s2 with plat := { s2.plat with supplyWait := true } } := ⟨rfl, rfl, rfl, rfl, rfl, rfl, rfl, rfl, rfl, rfl⟩
  split
  · exact .refl s1
  · split
    · exact read.trans State.standbyLost_keepsFlash
    · split
      · exact read
      · split
        · exact read.trans (wait.trans State.fullReset_keepsFlash)
        · split
          · exact read.trans (wait.trans State.fullReset_keepsFlash)
          · exact read

theorem execPowerOnReset_keepsFlash {dt vsb : Nat} {service factory : Bool} {back : List Bool} {s t : State}
    (e : exec (.powerOnReset dt vsb service factory back) s = .next t) : KeepsFlash s t := by
  obtain rfl := Host.Outcome.next.inj e
  refine .trans (t := s.advance dt) (.of_within State.advance_within) ?_
  generalize s.advance dt = s1
  split
  · exact .refl s1
  extract_lets +onlyGivenNames now l _ _ s2 s3
  have h3 : KeepsFlash s1 s3 := KeepsFlash.trans (t := s2) ⟨rfl, rfl, rfl, rfl, rfl, rfl, rfl, rfl, rfl, rfl⟩
    (.trans State.fullReset_keepsFlash (.of_within State.standbyReset_within))
  split
  · exact h3.trans (.of_within State.breakSeal_within)
  · exact h3

/-- Settles O20: each reset is the restart of `State.restarted` with at most a fault noted after it. -/
theorem resetKeepsFlash : Obligations.ResetKeepsFlash := by
  unfold Obligations.ResetKeepsFlash
  refine ⟨fun _ _ _ _ _ e => (execFullReset_keepsStandby e).all, fun _ _ _ _ _ e => (execResetNAssert_keepsStandby e).all,
    fun _ _ _ _ _ _ e => (execThermalTrip_keepsStandby e).all, fun _ _ _ _ _ _ e => (execRailResetLevel_keepsFlash e).all,
    fun _ _ _ _ _ _ _ e => (execPowerOnReset_keepsFlash e).all, ?_⟩
  rintro dt service factory s _ t rfl e due
  obtain rfl := Host.Outcome.next.inj e
  rw [if_pos due]
  obtain ⟨v, hv⟩ := (State.fullReset_restarts (reason := 5) (service := service) (factory := factory) (s := s.advance dt)).form
  rw [hv]
  exact ⟨rfl, rfl, rfl⟩

end Sys2Proof.Machine
end

section
/-!
SUPPORT. Where the bytes of the window change: each store keeps every byte outside the span it names.
-/
namespace Sys2Proof.Machine
set_option Elab.async false -- one declaration after the other: fewer threads at once

/-! ### Spans of byte memory -/

theorem Memory.read_writeAll_outside (m : List Host.Cell) (a b : Nat) (l : List Nat) (h : Memory.wf m = true)
    (out : b < a ∨ a + l.length ≤ b) : Memory.read (Memory.writeAll m a l) b = Memory.read m b := by
  induction l generalizing m a with
  | nil => rfl
  | cons v rest ih =>
    simp only [List.length_cons] at out
    rw [Memory.writeAll, ih _ _ (Memory.wf_write m a _ h) (by omega), Memory.read_write m a b _ h, if_neg (by omega)]

theorem Memory.read_clear_outside (m : List Host.Cell) (lo hi b : Nat) (out : b < lo ∨ hi ≤ b) :
    Memory.read (Memory.clear m lo hi) b = Memory.read m b := by
  induction m with
  | nil => rfl
  | cons c rest ih =>
    obtain ⟨k, w⟩ := c
    unfold Memory.clear at ih ⊢
    by_cases hk : k = b
    · subst hk
      rw [List.filter_cons_of_pos (by simpa using out)]
      simp [Memory.read]
    · by_cases keep : k < lo ∨ hi ≤ k
      · rw [List.filter_cons_of_pos (by simpa using keep)]
        simp only [Memory.read, if_neg hk]
        exact ih
      · rw [List.filter_cons_of_neg (by simpa using keep), ih]
        simp [Memory.read, hk]

theorem length_toBytes (n x : Nat) : (toBytes n x).length = n := by
  induction n generalizing x with
  | zero => rfl
  | succ n ih => simp [toBytes, ih]

/-- `t` has a canonical memory where `s` has one, and the bytes of the addresses in `out` are those of `s`. -/
def KeepsBytes (out : Nat → Prop) (s t : State) : Prop :=
  Memory.wf s.mem.bytes = true →
    Memory.wf t.mem.bytes = true ∧ ∀ a, out a → Memory.read t.mem.bytes a = Memory.read s.mem.bytes a

namespace KeepsBytes
variable {out : Nat → Prop} {s t u : State}

theorem refl : KeepsBytes out s s := fun h => ⟨h, fun _ _ => rfl⟩

theorem of_eq (e : t.mem.bytes = s.mem.bytes) : KeepsBytes out s t := fun h => ⟨e ▸ h, fun _ _ => by rw [e]⟩

theorem trans (h : KeepsBytes out s t) (k : KeepsBytes out t u) : KeepsBytes out s u := fun wf =>
  ⟨(k (h wf).1).1, fun a ha => ((k (h wf).1).2 a ha).trans ((h wf).2 a ha)⟩

theorem serving : Serving (KeepsBytes out) where
  refl := refl
  reply h k := h.trans (.of_eq (by rw [k.eq]; rfl))

theorem request {c : Command} {q : Req} (run : ∀ {s}, KeepsBytes out s (c.run q s).state) (e : runCommand c q s = .next t) :
    KeepsBytes out s t :=
  serving.request (fun k h => .trans (.of_eq (by rw [k.eq]; rfl)) h) (.of_eq rfl) (.of_eq rfl) run e

end KeepsBytes

theorem State.writeLines_bytes {master off n : Nat} {s : State} : (s.writeLines master off n).mem.bytes = s.mem.bytes := by
  rw [State.writeLines_within.eq]

theorem State.windowWrite_keeps {master off : Nat} {data : List Nat} {out : Nat → Prop} {s : State}
    (h : ∀ a, out a → a < off ∨ off + data.length ≤ a) : KeepsBytes out s (s.windowWrite master off data) := by
  intro wf
  unfold State.windowWrite
  dsimp only
  rw [State.writeLines_bytes]
  exact ⟨Memory.wf_writeAll _ _ _ wf, fun a ha => Memory.read_writeAll_outside _ _ _ _ wf (h a ha)⟩

theorem State.windowZero_keeps {master off n : Nat} {out : Nat → Prop} {s : State} (h : ∀ a, out a → a < off ∨ off + n ≤ a) :
    KeepsBytes out s (s.windowZero master off n) := by
  intro wf
  unfold State.windowZero
  dsimp only
  rw [State.writeLines_bytes]
  exact ⟨Memory.wf_clear _ _ _ wf, fun a ha => Memory.read_clear_outside _ _ _ _ (h a ha)⟩

/-! ### The capture ring -/

/-- `t` has the capture ring where `s` has it, and every byte outside the ring and its producer index is that of `s`. -/
structure Captures (s t : State) : Prop where
  offset : t.cap.offset = s.cap.offset
  entries : t.cap.entries = s.cap.entries
  bytes : KeepsBytes (fun a => a < s.cap.offset ∨ s.cap.offset + 32 * s.cap.entries + 8 ≤ a) s t

namespace Captures
variable {f : State → State → State} {s t u : State}

theorem refl (s : State) : Captures s s := ⟨rfl, rfl, .refl⟩

theorem after (k : Captures t u) (h : Captures s t) : Captures s u where
  offset := k.offset.trans h.offset
  entries := k.entries.trans h.entries
  bytes := h.bytes.trans (by simpa only [h.offset, h.entries] using k.bytes)

theorem put (h : Captures s t)
    (e : (u.cap.offset, u.cap.entries, u.mem.bytes) = (t.cap.offset, t.cap.entries, t.mem.bytes) := by rfl) : Captures s u := by
  simp only [Prod.mk.injEq] at e
  exact after ⟨e.1, e.2.1, .of_eq e.2.2⟩ h

theorem within (k : Within f t u) (h : Captures s t)
    (law : ∀ s u, ((f s u).cap.offset, (f s u).cap.entries, (f s u).mem.bytes) = (s.cap.offset, s.cap.entries, s.mem.bytes) := by
      intros; rfl) : Captures s u :=
  h.put (by rw [k.eq]; exact law t u)

theorem ite {c : Prop} {dec : Decidable c} (ht : Captures s t) (hu : Captures s u) : Captures s (if c then t else u) := by
  split
  · exact ht
  · exact hu

theorem ite_snd {α : Type} {c : Prop} {dec : Decidable c} {p q : α × State} (hp : Captures s p.2) (hq : Captures s q.2) :
    Captures s (if c then p else q).2 := by
  split
  · exact hp
  · exact hq

theorem via (ht : Captures s t) (h : Captures s t → Captures s u) : Captures s u := h ht

theorem foldl {α : Type} {b : State → α → State} (hb : ∀ t a, Captures s t → Captures s (b t a)) (l : List α) (h : Captures s t) :
    Captures s (l.foldl b t) := by
  induction l generalizing t with
  | nil => exact h
  | cons a l ih => exact ih (hb t a h)

theorem serving : Serving Captures where
  refl := .refl _
  reply h k := .within k h

theorem request {c : Command} {q : Req} (run : ∀ {s}, Captures s (c.run q s).state) (e : runCommand c q s = .next t) : Captures s t :=
  serving.request (fun k h => .after h (.within k (.refl _))) (.put (.refl _)) (.put (.refl _)) run e

end Captures

/-- The state a reply carries has stored in the capture ring alone. -/
def Reply.Captures (s : State) (r : Reply) : Prop := Machine.Captures s r.state

namespace Reply.Captures
variable {s t : State}

theorem done {status : Nat} {payload : Fields} (h : Machine.Captures s t) : Reply.Captures s (.done status payload t) := h
theorem aside {w : Wait} (h : Machine.Captures s t) : Reply.Captures s (.aside w t) := h

theorem ite {c : Prop} {dec : Decidable c} {r r' : Reply} (h : r.Captures s) (h' : r'.Captures s) :
    Reply.Captures s (if c then r else r') := by
  split
  · exact h
  · exact h'

end Reply.Captures

/-- A next state, where there is one, has stored in the capture ring alone. -/
def Stores (s : State) (o : Host.Outcome State Fault Refusal) : Prop := ∀ t, o = .next t → Captures s t

namespace Stores
variable {s t : State}

theorem next (h : Captures s t) : Stores s (.next t) := fun _ e => Host.Outcome.next.inj e ▸ h
theorem fault {x : Fault} : Stores s (.fault x) := fun _ e => by simp at e

theorem ite {c : Prop} {dec : Decidable c} {o o' : Host.Outcome State Fault Refusal} (h : Stores s o) (h' : Stores s o') :
    Stores s (if c then o else o') := by
  split
  · exact h
  · exact h'

theorem via {o : Host.Outcome State Fault Refusal} (ht : Captures s t) (h : Captures s t → Stores s o) : Stores s o := h ht

theorem withPort {p : Nat} {g : State → State} (h : Captures s (g t)) : Stores s (withPort p t g) := ite (next h) fault

end Stores

theorem State.captureRecord_captures {rec_} {s : State} : Captures s (s.captureRecord rec_).2 := by
  unfold State.captureRecord
  extract_lets +onlyGivenNames c tail
  refine .ite_snd (.refl s) ?_
  split
  next ok s1 hr =>
  have h1 := State.windowRead_within (master := 13) (off := tail + 8) (n := 8) (s := s)
  rw [hr] at h1
  dsimp only at h1
  have kept : ∀ {out}, KeepsBytes out s s1 := .of_eq (by rw [h1.eq])
  extract_lets +onlyGivenNames consumer used
  split
  next room =>
    extract_lets +onlyGivenNames slot next s2
    have inside : slot < c.entries := Nat.mod_lt _ (by omega)
    have h2 : KeepsBytes (fun a => a < c.offset ∨ c.offset + 32 * c.entries + 8 ≤ a) s s2 := by
      refine kept.trans (.trans (State.windowWrite_keeps fun a ha => ?_) (State.windowWrite_keeps fun a ha => ?_))
      · rw [length_toBytes]
        omega
      · rw [length_toBytes]
        simp only [tail]
        omega
    clear_value s2
    exact .within State.emit_within ⟨rfl, rfl, h2.trans (.of_eq rfl)⟩
  next => exact ⟨rfl, rfl, kept.trans (.of_eq rfl)⟩

theorem State.tdcEdge_captures {ch n k} {s : State} : Captures s (s.tdcEdge ch n k) := by
  unfold State.tdcEdge
  refine .ite (.refl s) ?_
  extract_lets +onlyGivenNames s0
  refine .via (t := s0) (.ite (.within State.ppsEdge_within (.refl s)) (.refl s)) fun h0 => ?_
  clear_value s0
  induction s0 using State.generic with | all s0 => ?_
  extract_lets +onlyGivenNames c pd edges skip s1
  refine .via (t := s1) (.within State.updChan_within h0) fun h1 => ?_
  clear_value s1
  refine .ite h1 (.ite h0 (.ite h1 ?_))
  split
  extract_lets +onlyGivenNames close
  refine .ite (.within State.counterHalf_within (.within State.updChan_within h1)) ?_
  extract_lets +onlyGivenNames ev e s2
  refine .via (t := s2) (.within State.counterHalf_within (.within State.updChan_within h1)) fun h2 => ?_
  clear_value s2
  induction s2 using State.generic with | all s2 => ?_
  extract_lets +onlyGivenNames _ s3 _ s4
  refine .via (t := s3) (.put h2) fun h3 => ?_
  clear_value s3
  refine .via (t := s4) (.ite (.put h3) h3) fun h4 => ?_
  clear_value s4
  induction s4 using State.generic with | all s4 => ?_
  extract_lets +onlyGivenNames s5
  refine .via (t := s5) (.within State.linkCalEvent_within (.ite (.within State.pllCheck_within h4) h4)) fun h5 => ?_
  clear_value s5
  induction s5 using State.generic with | all s5 => ?_
  extract_lets +onlyGivenNames _ _ _ s6
  refine .via (t := s6) ?_ fun h6 => ?_
  · unfold s6
    split
    · exact .ite (.within State.refEvent_within h5) (.ite (.within State.refReturn_within (.put h5))
        (.within State.todJudge_within (.within State.refEvent_within h5)))
    · exact h5
  clear_value s6
  exact .ite (.ite (.after State.captureRecord_captures h6) (.within State.counterHalf_within (.within State.updChan_within
    (.after State.captureRecord_captures h6)))) h6

theorem State.endRow_captures {id outcome reason egress} {s : State} : Captures s (s.endRow id outcome reason egress) := by
  unfold State.endRow
  split
  · exact .refl s
  · exact .ite (.put (.refl s)) (.via (.ite (.within State.counterHalf_within (.put (.refl s))) (.ite (.within State.counterHalf_within
      (.put (.refl s))) (.put (.refl s)))) fun h1 => .via (.ite (.after State.captureRecord_captures h1) h1) fun h2 => .ite (.within
      State.cueEndEvent_within h2) h2)

theorem State.captureFrame_captures {p f a} {s : State} : Captures s (s.captureFrame p f a) := by
  unfold State.captureFrame
  refine .ite (.refl s) ?_
  extract_lets +onlyGivenNames soon
  split
  next ok s1 hx =>
  suffices h1 : Captures s s1 from .ite (.put h1) (.within State.counterHalf_within (.put h1))
  have hp := congrArg Prod.snd hx
  dsimp only at hp
  rw [← hp]
  exact .ite_snd (.refl s) State.captureRecord_captures

theorem State.launchCue_captures {id r} {s : State} : Captures s (s.launchCue id r) := by
  unfold State.launchCue
  refine .ite (.within State.stat_within (.within State.updPort_within (.after State.endRow_captures (.refl s)))) ?_
  split
  · exact .within State.updPort_within (.after State.endRow_captures (.refl s))
  · exact .ite (.within State.updPort_within (.after State.endRow_captures (.refl s))) (.within State.updPort_within (.after
      State.endRow_captures (.within State.emit_within (.within State.countTx_within (.within State.updPort_within (.refl s))))))

theorem State.commitRow_captures {id r} {s : State} : Captures s (s.commitRow id r) := by
  unfold State.commitRow
  extract_lets +onlyGivenNames s0 _ s1
  refine .via (t := s0) (.after State.endRow_captures (.refl s)) fun h0 => ?_
  clear_value s0
  refine .via (t := s1) (.put h0) fun h1 => ?_
  clear_value s1
  refine .ite (.within State.commit_within h1) ?_
  extract_lets +onlyGivenNames s2
  refine .via (t := s2) (.within State.commit_within h1) fun h2 => ?_
  clear_value s2
  exact .put h2

theorem State.stepCues_captures {old} {s : State} : Captures s (s.stepCues old) := by
  unfold State.stepCues
  exact .foldl (fun _ _ h1 => .ite (.after State.commitRow_captures h1) (.after State.endRow_captures h1)) _ (.refl s)

theorem State.readerOutcome_captures {master region line} {s : State} : Captures s (s.readerOutcome master region line) := by
  unfold State.readerOutcome
  exact .ite (.within State.emit_within (.refl s)) (.ite (.put (.refl s)) (.ite (.within State.dramWrite_within (.refl s)) (.ite (.foldl
    (fun _ _ h1 => .after State.endRow_captures h1) _ (.refl s)) (.refl s))))

theorem State.sramOutcome_captures {array a b} {s : State} : Captures s (s.sramOutcome array a b) := by
  unfold State.sramOutcome
  exact .ite (.within State.bufferLost_within (.refl s)) (.ite (.within State.entryLost_within (.refl s)) (.ite (.after
    State.endRow_captures (.refl s)) (.ite (.ite (.within State.restoreSlot_within (.refl s)) (.put (.refl s))) (.refl s))))

theorem State.cancelRow_captures {id reason} {s : State} : Captures s (s.cancelRow id reason) := by
  unfold State.cancelRow
  exact .after State.endRow_captures (.refl s)

theorem State.moveCapture_captures {r} {s : State} : Captures s (s.moveCapture r) := by
  unfold State.moveCapture
  extract_lets c _ c1
  have h : c1.offset = c.offset ∧ c1.entries = c.entries := by
    unfold c1
    split
    · exact ⟨rfl, rfl⟩
    · exact ⟨rfl, rfl⟩
  exact ⟨h.1, h.2, .of_eq rfl⟩

theorem State.fireRow_captures {id r} {s : State} : Captures s (s.fireRow id r) := by
  unfold State.fireRow
  exact .via (.within State.pulseFalls_within (.refl s)) fun h1 => .ite (.after State.launchCue_captures h1) (.ite (.after
    State.endRow_captures h1) (.after State.endRow_captures (.ite (.within State.moveGates_within h1) (.ite (.within
    State.placeEdge_within h1) (.after State.moveCapture_captures h1)))))

theorem State.receive_captures {p a f left} {s : State} : Captures s (s.receive p a f left) := by
  unfold State.receive
  exact .via (.within State.countFec_within (.refl s)) fun h1 => .ite (.within State.stat_within h1) (.via (.after
    State.captureFrame_captures h1) fun h2 => .ite (.within State.stat_within h2) (.ite (.via (.within State.stat_within h2) fun h3 =>
    .ite (.ite h3 (.within State.stat_within h3)) (.within State.updPort_within (.ite h3 (.within State.stat_within h3)))) (.ite (.ite
    (.within State.stat_within h2) (.within State.updPort_within (.within State.stat_within h2))) (.via (.within State.countRx_within h2)
    fun h4 => .ite (.within State.macControl_within h4) (.ite (.ite h4 (.within State.trunkCount_within h4)) (.ite h4 (.within
    State.updPort_within h4)))))))

theorem State.prefetch_captures {id r} {s : State} : Captures s (s.prefetch id r) := by
  unfold State.prefetch
  exact .via (.within State.windowRead_within (.refl s)) fun h1 => .ite (.within State.updRow_within h1) (.after State.endRow_captures
    h1)

theorem State.applyStep_captures {c delta} {s : State} : Captures s (s.applyStep c delta) := by
  unfold State.applyStep
  exact .via (.within State.leapMoved_within (.put (.refl s))) fun h1 => .within State.answerStep_within (.after State.stepCues_captures
    (.within State.afterStep_within (.within State.stepOutputs_within (.within State.stepJobs_within (.within State.stepRefs_within (.ite
    (.within State.post_within h1) h1))))))

theorem State.onCancel_captures {round} {s : State} : Captures s (s.onCancel round) := by
  unfold State.onCancel
  refine .ite (.within State.openUp_within (.within State.post_within (.put (.refl s)))) ?_
  refine .ite ?_ (.within State.openUp_within (.refl s))
  split
  · exact .ite (.within State.openUp_within (.refl s)) (.within State.openUp_within (.within State.post_within (.put (.after
      State.endRow_captures (.refl s)))))
  · exact .within State.openUp_within (.refl s)

theorem State.cancelRound_captures {root round} {s : State} : Captures s (s.cancelRound root round) := by
  unfold State.cancelRound
  exact .foldl (fun _ _ h1 => .after State.cancelRow_captures h1) _ (.refl s)

theorem State.rootCancel_captures {byHost} {s : State} : Captures s (s.rootCancel byHost) := by
  unfold State.rootCancel
  exact .within State.updRoot_within (.after State.onCancel_captures (.ite (.refl s) (.within State.toChildren_within (.refl s))))

theorem State.fragment_captures {p phase lane bytes count start mcrc last} {s : State} : Captures s (s.fragment p phase lane bytes count start mcrc last) := by
  unfold State.fragment
  extract_lets +onlyGivenNames x
  refine .ite (.within State.stat_within (.refl s)) ?_
  extract_lets +onlyGivenNames s0 a
  refine .via (t := s0) (.ite (.within State.dropAssembly_within (.refl s)) (.refl s)) fun h0 => ?_
  clear_value s0 a
  split
  · exact h0
  · refine .ite (.within State.dropAssembly_within h0) ?_
    extract_lets +onlyGivenNames s1
    refine .via (t := s1) (.ite (.within State.stat_within h0) h0) fun h1 => ?_
    clear_value s1
    split
    · exact .after State.receive_captures (.within State.updPort_within h1)
    · exact .within State.updPort_within h1

theorem State.rootAdvance_captures {s : State} : Captures s s.rootAdvance := by
  unfold State.rootAdvance
  split
  · exact .refl s
  · exact .ite (.within State.updRoot_within (.within State.onArm_within (.within State.toChildren_within (.refl s)))) (.ite (.after
      State.rootCancel_captures (.refl s)) (.refl s))
  · exact .ite (.within State.finish_within (.within State.updRoot_within (.refl s))) (.ite (.after State.rootCancel_captures (.refl s))
      (.refl s))
  · exact .ite (.within State.rootEnds_within (.refl s)) (.refl s)
  · exact .ite (.within State.finishAll_within (.within State.finish_within (.within State.rootEnds_within (.refl s)))) (.refl s)

theorem State.joinRound_captures {c} {s : State} : Captures s (s.joinRound c) := by
  unfold State.joinRound
  split
  next late fail s1 hx =>
  suffices h1 : Captures s s1 from .ite (.put h1) (.put h1)
  have hp := congrArg Prod.snd hx
  dsimp only at hp
  rw [← hp]
  exact .ite_snd State.cancelRound_captures (.within State.armScene_within (.refl s))

theorem cmdEquinoxDomainCancel_captures {q} {s : State} : Reply.Captures s (cmdEquinoxDomainCancel.run q s) := by
  unfold cmdEquinoxDomainCancel
  dsimp -zeta only
  exact .ite (.done (.refl s)) (.ite (.aside (.refl s)) (.ite (.done (.refl s)) (.aside (.after State.rootCancel_captures (.refl s)))))

theorem cmdCueDomainCancel_captures {q} {s : State} : Reply.Captures s (cmdCueDomainCancel.run q s) := by
  unfold cmdCueDomainCancel
  dsimp -zeta only
  refine .ite (.done (.refl s)) ?_
  split
  · exact .ite (.done (.refl s)) (.done (.refl s))
  · exact .ite (.done (.refl s)) (.ite (.done (.refl s)) (.done (.after State.joinRound_captures (.within State.toChildren_within (.refl
      s)))))

theorem cmdCueCancel_captures {q} {s : State} : Reply.Captures s (cmdCueCancel.run q s) := by
  unfold cmdCueCancel
  dsimp -zeta only
  refine .ite (.done (.put (.refl s))) ?_
  split
  · exact .done (.refl s)
  · exact .ite (.done (.refl s)) (.ite (.done (.put (.refl s))) (.ite (.done (.refl s)) (.done (.after State.cancelRow_captures (.refl
      s)))))

theorem cmdEquinoxCancel_captures {q} {s : State} : Reply.Captures s (cmdEquinoxCancel.run q s) := by
  unfold cmdEquinoxCancel
  dsimp -zeta only
  refine .ite (.done (.refl s)) ?_
  split
  · exact .done (.refl s)
  · exact .ite (.done (.refl s)) (.done (.within State.post_within (.put (.after State.endRow_captures (.refl s)))))

theorem cmdCueDomainAnnounce_captures {q} {s : State} : Reply.Captures s (cmdCueDomainAnnounce.run q s) := by
  unfold cmdCueDomainAnnounce
  dsimp -zeta only
  exact .ite (.done (.refl s)) (.ite (.done (.refl s)) (.ite (.done (.refl s)) (.done (.after State.joinRound_captures (.within
    State.toChildren_within (.put (.refl s)))))))

theorem execTimeStepApply_captures {dt} {s : State} : Stores s (execTimeStepApply dt s) := by
  unfold execTimeStepApply
  refine .next ?_
  split
  · exact .ite (.within State.settleTiming_within (.after State.applyStep_captures (.within State.takeSched_within (.within
      State.advance_within (.refl s))))) (.within State.advance_within (.refl s))
  · exact .within State.advance_within (.refl s)

theorem execEquinoxCancelFrame_captures {dt f} {s : State} : Stores s (execEquinoxCancelFrame dt f s) := by
  unfold execEquinoxCancelFrame takeDown
  refine .withPort ?_
  split
  next ok s2 hx =>
  have h2 : Captures (s.advance dt) s2 := by
    have h := Captures.within (State.acceptDomain_within (f := f)) (.refl (s.advance dt))
    rwa [hx] at h
  have h3 : Captures s s2 := .after h2 (.put (.refl s))
  exact .ite h3 (.after State.onCancel_captures (.within State.toChildren_within (.put h3)))

theorem execCueExecute_captures {dt} {s : State} : Stores s (execCueExecute dt s) := by
  unfold execCueExecute
  exact .next (.within State.pulseFalls_within (.foldl (fun _ _ h1 => .after State.fireRow_captures h1) _ (.within State.advance_within
    (.refl s))))

theorem execFrameReceive_captures {dt port phase lane f} {s : State} : Stores s (execFrameReceive dt port phase lane f s) := by
  unfold execFrameReceive
  refine .withPort ?_
  split
  · exact .within State.advance_within (.refl s)
  · exact .ite (.within State.stat_within (.within State.advance_within (.refl s))) (.after State.receive_captures (.ite (.within
      State.dropAssembly_within (.within State.advance_within (.refl s))) (.within State.advance_within (.refl s))))
  · exact .within State.stat_within (.within State.advance_within (.refl s))

theorem execCuePrefetchStart_captures {dt} {s : State} : Stores s (execCuePrefetchStart dt s) := by
  unfold execCuePrefetchStart
  exact .next (.foldl (fun _ _ h1 => .after State.prefetch_captures h1) _ (.within State.advance_within (.refl s)))

theorem execSramUncorrectable_captures {dt master array bank row word a b} {s : State} : Stores s (execSramUncorrectable dt master array bank row word a b s) := by
  unfold execSramUncorrectable
  exact .ite (.next (.after State.sramOutcome_captures (.within State.faultEvent_within (.within State.sramWritten_within (.within
    State.memCount_within (.within State.advance_within (.refl s))))))) .fault

theorem execCueAnnounce_captures {dt f} {s : State} : Stores s (execCueAnnounce dt f s) := by
  unfold execCueAnnounce
  exact .withPort (.via (.within State.acceptDomain_within (.within State.advance_within (.refl s))) fun h1 => .ite h1 (.after
    State.joinRound_captures (.within State.toChildren_within h1)))

theorem execFragmentReceive_captures {dt port phase lane bytes count start mcrc last} {s : State} : Stores s (execFragmentReceive dt port phase lane bytes count start mcrc last s) := by
  unfold execFragmentReceive
  refine .withPort ?_
  split
  · exact .ite (.after State.fragment_captures (.within State.advance_within (.refl s))) (.within State.advance_within (.refl s))
  · exact .after State.fragment_captures (.within State.advance_within (.refl s))
  · exact .ite (.within State.stat_within (.within State.advance_within (.refl s))) (.within State.advance_within (.refl s))

theorem execRootRoundAdvance_captures {dt} {s : State} : Stores s (execRootRoundAdvance dt s) := by
  unfold execRootRoundAdvance
  exact .next (.after State.rootAdvance_captures (.within State.advance_within (.refl s)))

theorem execCuePrefetchDeadline_captures {dt} {s : State} : Stores s (execCuePrefetchDeadline dt s) := by
  unfold execCuePrefetchDeadline
  exact .next (.foldl (fun _ _ h1 => .after State.endRow_captures h1) _ (.within State.advance_within (.refl s)))

theorem execDramUncorrectableRead_captures {dt master region line soft stuck} {s : State} : Stores s (execDramUncorrectableRead dt master region line soft stuck s) := by
  unfold execDramUncorrectableRead
  exact .ite (.via (.within State.dramRead_within (.within State.hurt_within (.within State.advance_within (.refl s)))) fun h1 => .next
    (.ite h1 (.after State.readerOutcome_captures h1))) .fault

theorem execCueCancelFrame_captures {dt f} {s : State} : Stores s (execCueCancelFrame dt f s) := by
  unfold execCueCancelFrame
  exact .withPort (.via (.within State.acceptDomain_within (.within State.advance_within (.refl s))) fun h1 => .ite h1 (.after
    State.joinRound_captures (.within State.toChildren_within h1)))

theorem execPauseReceive_captures {dt port f} {s : State} : Stores s (execPauseReceive dt port f s) := by
  unfold execPauseReceive
  refine .withPort ?_
  refine .ite (.within State.advance_within (.refl s)) ?_
  split
  · exact .within State.advance_within (.refl s)
  · exact .after State.receive_captures (.within State.advance_within (.refl s))
  · exact .within State.stat_within (.within State.advance_within (.refl s))

theorem execTdcEdge_captures {dt ch n k} {s : State} : Stores s (execTdcEdge dt ch n k s) := by
  unfold execTdcEdge
  exact .ite .fault (.next (.within State.settleTiming_within (.after State.tdcEdge_captures (.within State.advance_within (.refl s)))))

theorem execEquinoxCommit_captures {dt} {s : State} : Stores s (execEquinoxCommit dt s) := by
  unfold execEquinoxCommit
  refine .next ?_
  split
  · exact .ite (.after State.commitRow_captures (.within State.advance_within (.refl s))) (.within State.advance_within (.refl s))
  · split
    · exact .ite (.within State.swapNow_within (.within State.advance_within (.refl s))) (.within State.advance_within (.refl s))
    · exact .within State.advance_within (.refl s)


/-! ### What each command stores -/

theorem Req.length_bytes (q : Req) (lo n : Nat) : (q.bytes lo n).length = n := length_toBytes _ _

theorem sysWindowWrite_keeps {q : Req} {s t : State} (e : exec (.sysWindowWrite q) s = .next t) :
    KeepsBytes (fun a => a < q.f 0 64 ∨ q.f 0 64 + q.f 64 32 ≤ a) s t := by
  refine KeepsBytes.request (fun {s} => ?_) e
  unfold cmdSysWindowWrite
  dsimp -zeta only
  extract_lets off n
  split
  · exact .refl
  · split
    · exact State.windowZero_keeps fun a ha => ha
    · exact State.windowWrite_keeps fun a ha => by rw [Req.length_bytes]; exact ha

theorem cueFrameWrite_keeps {q : Req} {s t : State} (e : exec (.cueFrameWrite q) s = .next t) :
    KeepsBytes (fun a => a < cueBufferOffset + 16384 * q.f 0 16 + q.f 16 16 ∨
      cueBufferOffset + 16384 * q.f 0 16 + q.f 16 16 + (q.f 32 16 + 63) / 64 * 64 ≤ a) s t := by
  refine KeepsBytes.request (fun {s} => ?_) e
  unfold cmdCueFrameWrite
  dsimp -zeta only
  split
  · exact .refl
  · refine State.windowWrite_keeps fun a ha => ha.imp_right fun le => le_trans (Nat.add_le_add_left ?_ _) le
    exact List.length_take_le _ _

theorem bar2Write_keeps {dt offset : Nat} {data : List Nat} {s t : State} (e : exec (.bar2Write dt offset (.write data)) s = .next t) :
    KeepsBytes (fun a => a < offset ∨ offset + data.length ≤ a) s t := by
  obtain rfl := Host.Outcome.next.inj e
  refine .trans (t := s.advance dt) (.of_eq rfl) ?_
  split
  · exact .refl
  · exact State.windowWrite_keeps fun a ha => ha.imp_right fun le => le_trans (Nat.add_le_add_left (List.length_take_le' _ _) _) le

theorem flipMaskWrite_keeps {dt : Nat} {data : List Nat} {s t : State} (e : exec (.flipMaskWrite dt data) s = .next t) :
    KeepsBytes (fun a => a < 64 * s.mem.flipLine ∨ 64 * s.mem.flipLine + 64 ≤ a) s t := by
  obtain rfl := Host.Outcome.next.inj e
  refine .trans (t := s.advance dt) (.of_eq rfl) ?_
  have line : (s.advance dt).mem.flipLine = s.mem.flipLine := rfl
  generalize s.advance dt = s1 at line ⊢
  rw [← line]
  split
  · exact .refl
  · split
    · split
      · refine State.windowWrite_keeps fun a ha => ?_
        rw [Nat.mul_comm]
        exact ha.imp_right fun le => le_trans (Nat.add_le_add_left (List.length_take_le _ _) _) le
      · exact .of_eq (by rw [State.dramWrite_within.eq])
    · exact .of_eq rfl

/-- Settles O19: a store names its span, and every path that writes capture records goes through `State.captureRecord`. -/
theorem storesTouchOnlyTheirBytes : Obligations.StoresTouchOnlyTheirBytes := by
  unfold Obligations.StoresTouchOnlyTheirBytes
  refine ⟨fun _ _ _ a wf e out => (sysWindowWrite_keeps e wf).2 a out,
    fun _ _ _ a _ wf e lo out => (cueFrameWrite_keeps e wf).2 a (by subst lo; exact out),
    fun _ _ _ _ _ a wf e out => (bar2Write_keeps e wf).2 a out, fun _ _ _ _ a wf e out => (flipMaskWrite_keeps e wf).2 a out, ?_⟩
  intro s t a wf h out
  suffices k : Captures s t from (k.bytes wf).2 a out
  obtain (⟨_, e⟩ | ⟨_, e⟩ | ⟨_, e⟩ | ⟨_, e⟩ | ⟨_, e⟩ | ⟨_, _, e⟩ | ⟨_, e⟩ | ⟨_, _, _, _, e⟩ | ⟨_, _, _, _, _, _, _, _, _, e⟩ | ⟨_, _, _,
    _, _, e⟩ | ⟨_, e⟩ | ⟨_, _, _, _, _, _, e⟩ | ⟨_, e⟩ | ⟨_, e⟩ | ⟨_, e⟩ | ⟨_, _, e⟩ | ⟨_, _, e⟩ | ⟨_, _, _, _, _, _, _, _, e⟩ | ⟨_, e⟩ |
    ⟨_, _, _, e⟩) := h
  · exact Captures.request cmdCueCancel_captures e
  · exact execCueExecute_captures t e
  · exact execRootRoundAdvance_captures t e
  · exact execCuePrefetchDeadline_captures t e
  · exact execEquinoxCommit_captures t e
  · exact execEquinoxCancelFrame_captures t e
  · exact Captures.request cmdCueDomainCancel_captures e
  · exact execTdcEdge_captures t e
  · exact execFragmentReceive_captures t e
  · exact execFrameReceive_captures t e
  · exact execCuePrefetchStart_captures t e
  · exact execDramUncorrectableRead_captures t e
  · exact Captures.request cmdEquinoxCancel_captures e
  · exact Captures.request cmdCueDomainAnnounce_captures e
  · exact execTimeStepApply_captures t e
  · exact execCueAnnounce_captures t e
  · exact execCueCancelFrame_captures t e
  · exact execSramUncorrectable_captures t e
  · exact Captures.request cmdEquinoxDomainCancel_captures e
  · exact execPauseReceive_captures t e

end Sys2Proof.Machine
end

section
/-!
SUPPORT. O18: a domain frame that fails a test of R186 is counted on its port and acts on nothing.
-/
namespace Sys2Proof.Machine
set_option Elab.async false -- one declaration after the other: fewer threads at once

theorem State.trunk_updTrunk (s : State) (p : Nat) (f : Trunk → Trunk) : ((s.updTrunk p f).port p).trunk = f (s.port p).trunk := by
  simp [State.updTrunk, State.updPort, State.setPort, State.port]

theorem State.port_counterHalf (s : State) (old new opcode request offset p : Nat) :
    (s.counterHalf old new opcode request offset).port p = s.port p := by
  rw [State.counterHalf_within.eq]
  rfl

/-- A domain frame's failure counter advances and nothing else of the trunk changes. -/
theorem State.trunk_trunkCount (s : State) (p k : Nat) :
    ((s.trunkCount p k).port p).trunk =
      if k = 0 then { (s.port p).trunk with authFail := inc48 (s.port p).trunk.authFail 1 }
      else if k = 1 then { (s.port p).trunk with replay := inc48 (s.port p).trunk.replay 1 }
      else if k = 2 then { (s.port p).trunk with badFrame := inc48 (s.port p).trunk.badFrame 1 }
      else if k = 3 then { (s.port p).trunk with onEdge := inc48 (s.port p).trunk.onEdge 1 }
      else { (s.port p).trunk with tagMismatch := inc48 (s.port p).trunk.tagMismatch 1 } := by
  unfold State.trunkCount
  rw [State.port_counterHalf, State.trunk_updTrunk]
  by_cases h0 : k = 0 <;> by_cases h1 : k = 1 <;> by_cases h2 : k = 2 <;> by_cases h3 : k = 3 <;> simp [*]

/-- A failed frame is counted, and the port keeps the tick from which its frames have failed (R203). -/
theorem State.trunk_failFrame (s : State) (p k : Nat) :
    ((s.failFrame p k).port p).trunk =
      { ((s.trunkCount p k).port p).trunk with badSince := some (((s.trunkCount p k).port p).trunk.badSince.getD s.time.tick) } := by
  unfold State.failFrame
  rw [State.trunk_updTrunk]

/-- What a failed frame leaves alone: it acts on nothing (R186). -/
theorem State.failFrame_acts_on_nothing (s : State) (p k : Nat) :
    (s.failFrame p k).dom = s.dom ∧ (s.failFrame p k).cue = s.cue ∧ (s.failFrame p k).rnd = s.rnd := by
  rw [State.failFrame_within.eq]
  exact ⟨rfl, rfl, rfl⟩

section
variable {dt : Nat} {f : DomFrame} {s v : State} {kind : Nat}

theorem takeDown_of_rejected {act : State → State} (hp : f.port < 56) (h : (s.advance dt).acceptDomain f = (false, v)) :
    takeDown kind dt f act s = .next v := by
  simp [takeDown, withPort, portCount, hp, h]

theorem takeUp_of_rejected (hp : f.port < 56) (h : (s.advance dt).acceptDomain f = (false, v)) : takeUp kind dt f s = .next v := by
  simp [takeUp, withPort, portCount, hp, h]

theorem takeInband_of_rejected {answer : Bool} {act : State → State} (hp : f.port < 56)
    (h : (s.advance dt).acceptDomain f = (false, v)) : takeInband dt f answer act s = .next v := by
  simp [takeInband, withPort, portCount, hp, h]

end

/-- The rows of domain frames (not compiled: the instruction set has more constructors than compiled code can tag). -/
noncomputable def domainFrameRows (dt : Nat) (f : DomFrame) : List Instr :=
  [.hello dt f, .members dt f, .cueAnnounce dt f, .cueCancelFrame dt f, .cueAck dt f, .prepare dt f, .ready dt f,
    .arm dt f, .armed dt f, .equinoxCancelFrame dt f, .cancelAck dt f, .inbandRequest dt f, .inbandResponse dt f]

/-- Every row of domain frames ends where the tests reject its frame. -/
theorem exec_of_rejected {dt : Nat} {f : DomFrame} {c : Instr} {s v : State} (hc : c ∈ domainFrameRows dt f) (hp : f.port < 56)
    (h : (s.advance dt).acceptDomain f = (false, v)) : exec c s = .next v := by
  simp only [domainFrameRows, List.mem_cons, List.not_mem_nil, or_false] at hc
  rcases hc with rfl | rfl | rfl | rfl | rfl | rfl | rfl | rfl | rfl | rfl | rfl | rfl | rfl
  · show execHello dt f s = _
    simp [execHello, withPort, portCount, hp, h]
  · show execMembers dt f s = _
    simp [execMembers, withPort, portCount, hp, h]
  · show execCueAnnounce dt f s = _
    simp [execCueAnnounce, withPort, portCount, hp, h]
  · show execCueCancelFrame dt f s = _
    simp [execCueCancelFrame, withPort, portCount, hp, h]
  · show execCueAck dt f s = _
    simp [execCueAck, withPort, portCount, hp, h]
  · exact takeDown_of_rejected hp h
  · exact takeUp_of_rejected hp h
  · exact takeDown_of_rejected hp h
  · exact takeUp_of_rejected hp h
  · exact takeDown_of_rejected hp h
  · exact takeUp_of_rejected hp h
  · exact takeInband_of_rejected hp h
  · exact takeInband_of_rejected hp h

/-- A frame a test rejects under counter `k` leaves the state of `failFrame`. -/
theorem completes_of_failed {dt k : Nat} {f : DomFrame} {c : Instr} {s u : State} {trunk : Trunk} (hc : c ∈ domainFrameRows dt f)
    (hu : s.advance dt = u) (hp : f.port < 56) (h : u.acceptDomain f = (false, u.failFrame f.port k))
    (ht : ((u.failFrame f.port k).port f.port).trunk = trunk) :
    CompletesWith (exec c s) (fun t => (t.port f.port).trunk = trunk ∧ t.dom = u.dom ∧ t.cue = u.cue ∧ t.rnd = u.rnd) := by
  subst hu
  exact ⟨_, exec_of_rejected hc hp h, ht, State.failFrame_acts_on_nothing _ _ _⟩

/-- A trunk port that receives domain frames is up. -/
theorem State.link_of_domainRx {s : State} {p : Nat} (h : s.domainRx p = true) : (s.port p).link = .up := by
  simpa using (Bool.and_eq_true_iff.1 h).2

/-- Settles O18: the tests of `acceptDomain` one by one, each failing frame counted by `failFrame`. -/
theorem domainFrameTests : Obligations.DomainFrameTests := by
  unfold Obligations.DomainFrameTests
  refine ⟨?version, ?tag, ?auth, ?replay⟩
  case version =>
    intro dt f c s u hc hu hp hrx htr hv
    refine completes_of_failed (k := 2) hc hu hp ?_ ?_
    · simp [State.acceptDomain, State.link_of_domainRx hrx, htr, hrx, hv]
    · simp [State.trunk_failFrame, State.trunk_trunkCount]
  case tag =>
    intro dt f c s u hc hu hp hrx htr hv ht
    refine completes_of_failed (k := 4) hc hu hp ?_ ?_
    · simp [State.acceptDomain, State.link_of_domainRx hrx, htr, hrx, hv, ht]
    · simp [State.trunk_failFrame, State.trunk_trunkCount]
  case auth =>
    intro dt f c s u hc hu hp hrx htr hv ht hm
    refine completes_of_failed (k := 0) hc hu hp ?_ ?_
    · simp [State.acceptDomain, State.link_of_domainRx hrx, htr, hrx, hv, ht, hm]
    · simp [State.trunk_failFrame, State.trunk_trunkCount]
  case replay =>
    intro dt f c s u hc hu hp hrx htr hv ht hm hs
    refine completes_of_failed (k := 1) hc hu hp ?_ ?_
    · simp [State.acceptDomain, State.link_of_domainRx hrx, htr, hrx, hv, ht, hm, hs]
    · simp [State.trunk_failFrame, State.trunk_trunkCount]

end Sys2Proof.Machine
end

section
/-!
SUPPORT. O21: `SYS_FW_WRITE` checks its offset against the end of the image with the writes that still wait for a supply warning to end
(R421, R404), which its clause does not speak of.
-/
namespace Sys2Proof.Machine
set_option Elab.async false -- one declaration after the other: fewer threads at once

/-- A write of one byte at the end of the byte that flash holds. -/
def nextByteWrite : Req := { src := .host 0, seq := 1, len := 12, payload := Config.word [(0, 1), (32, 1), (64, 5)] }

/-- A write of flash byte 1 is suspended already: the image will end at byte 2 when it has run. -/
def writeSuspended : State :=
  { fw := { running := true, imgB := { bytes := 1, data := [7] } }
    plat := { flashWork := [.command { opcode := 0x0109, req := nextByteWrite }] } }

theorem nextByteWrite_passes : cmdSysFwWrite.passes nextByteWrite 0 writeSuspended = true := by decide +kernel

/-- The image ends after the suspended write, so the next write does not begin at byte 1. -/
theorem nextByteWrite_refused : exec (.sysFwWrite nextByteWrite) writeSuspended =
    .next (writeSuspended.answered 0x0109 nextByteWrite 0 stBadParam []) := by
  have past : nextByteWrite.f 0 32 ≠ 0 ∧ nextByteWrite.f 0 32 ≠ (writeSuspended.rung 0x0109 nextByteWrite 0).imageEnd := by decide +kernel
  exact runCommand_done nextByteWrite_passes (by simp only [cmdSysFwWrite]; exact if_pos (.inl past))

/-- Refutes O21: with a suspended write of one byte at byte 1, `SYS_FW_WRITE` at byte 1 answers `BAD_PARAM`, where the clause has `OK`. -/
theorem not_systemCommands : ¬ Obligations.SystemCommands := by
  unfold Obligations.SystemCommands
  rintro ⟨-, -, -, -, -, -, -, -, -, -, write, -⟩
  obtain ⟨t, e, hresp, -⟩ := write nextByteWrite 0 writeSuspended nextByteWrite_passes (.inr (by decide +kernel)) (by decide +kernel) rfl
  obtain rfl := Host.Outcome.next.inj (nextByteWrite_refused.symm.trans e)
  have := (State.reply_mailbox (writeSuspended.rung 0x0109 nextByteWrite 0) 0x0109 nextByteWrite 0 stBadParam []).2.symm.trans hresp
  simp [stBadParam, stOk] at this

end Sys2Proof.Machine
end

section
/-!
SUPPORT. O22: the bank and Equinox commands on the rung state.
-/
namespace Sys2Proof.Machine
set_option Elab.async false -- one declaration after the other: fewer threads at once

/-- A command that answers now completes, its response written over the state its action leaves. -/
theorem completes_of_done {c : Command} {q : Req} {k : Nat} {s u : State} {st : Nat} {p : Fields} {P : State → Prop}
    (h : c.passes q k s = true) (hr : c.run q (s.rung c.opcode q k) = .done st p u) (hP : P (u.reply c.opcode q k st p)) :
    CompletesWith (runCommand c q s) P :=
  ⟨_, runCommand_done h hr, hP⟩

/-- A command that waits completes, put among the waiting commands over the state its action leaves. -/
theorem completes_of_aside {c : Command} {q : Req} {k : Nat} {s u : State} {w : Wait} {P : State → Prop}
    (h : c.passes q k s = true) (hr : c.run q (s.rung c.opcode q k) = .aside w u) (hP : P (u.aside c.opcode q w)) :
    CompletesWith (runCommand c q s) P :=
  ⟨_, runCommand_aside h hr, hP⟩

/-- A command whose checks pass completes with what its action concludes with. -/
theorem completes_of_passes {c : Command} {q : Req} {k : Nat} {s : State} {P : State → Prop} (h : c.passes q k s = true)
    (hP : P (conclude c q (c.run q (s.rung c.opcode q k)))) : CompletesWith (runCommand c q s) P := ⟨_, runCommand_passes h, hP⟩

theorem State.rung_shadowBusy (s : State) (op : Nat) (q : Req) (k : Nat) : (s.rung op q k).shadowBusy = s.shadowBusy := rfl

/-- A key erased from a table is not found there. -/
theorem Tbl.get?_erase_same {α : Type} (t : Tbl α) (key : Nat) : Tbl.get? (Tbl.erase t key) key = none := by
  induction t with
  | nil => rfl
  | cons e rest ih =>
    obtain ⟨j, v⟩ := e
    by_cases h : j = key
    · simpa [Tbl.erase, h] using ih
    · simpa [Tbl.erase, h, Tbl.get?] using ih

theorem State.rows_cueEndEvent {payload : Fields} {executed : Bool} {cause : Time96} {s : State} :
    (s.cueEndEvent payload executed cause).cue.rows = s.cue.rows := by
  rw [State.cueEndEvent_within.eq]

theorem State.rows_captureRecord {r : Fields} {s : State} : (s.captureRecord r).2.cue = s.cue := by
  rw [State.captureRecord_within.eq]
  rfl

theorem State.cue_counterHalf {old new opcode request offset : Nat} {s : State} :
    (s.counterHalf old new opcode request offset).cue = s.cue := by
  rw [State.counterHalf_within.eq]
  rfl

/-- A row that ends is in the table no more. -/
theorem State.row_endRow {id outcome reason : Nat} {egress : Option Int} {s : State} :
    Tbl.get? (s.endRow id outcome reason egress).cue.rows id = none := by
  unfold State.endRow
  split
  · assumption
  case h_2 r _ =>
    have erased : Tbl.get? (Tbl.erase s.cue.rows id) id = none := Tbl.get?_erase_same _ _
    split_ifs <;> simp [State.rows_cueEndEvent, State.rows_captureRecord, State.cue_counterHalf, erased]

theorem State.rnd_toChildren {kind : Nat} {payload : Fields} {s : State} : (s.toChildren kind payload).rnd = s.rnd := by
  rw [State.toChildren_within.eq]

theorem State.tci_toChildren {kind : Nat} {payload : Fields} {s : State} : (s.toChildren kind payload).tci = s.tci := by
  rw [State.toChildren_within.eq]

theorem State.tci_onPrepare {round tag : Nat} {inst : Int} {s : State} : (s.onPrepare round tag inst).tci = s.tci := by
  rw [State.onPrepare_within.eq]

/-- A node's own part in a round leaves the root's alone. -/
theorem State.root_onPrepare {round tag : Nat} {inst : Int} {s : State} :
    (s.onPrepare round tag inst).rnd.root = s.rnd.root ∧ (s.onPrepare round tag inst).rnd.rootRec = s.rnd.rootRec
      ∧ (s.onPrepare round tag inst).rnd.nextRound = s.rnd.nextRound := by
  dsimp only [State.onPrepare, State.openUp]
  split_ifs <;> exact ⟨rfl, rfl, rfl⟩

/-- Settles O22: each command's action on the rung state. -/
theorem bankCommands : Obligations.BankCommands := by
  unfold Obligations.BankCommands
  refine ⟨?status, ?seed, ?validate, ?untag, ?tag, ?tagStale, ?localNow, ?localAt, ?cancel, ?start, ?stopAgain, ?stop, ?result⟩
  case status => exact fun q k s h => runCommand_done h rfl
  case seed =>
    intro q k s h free armed prepared armedPart
    refine runCommand_done h ?_
    by_cases h0 : q.f 0 2 = 0
    · simp [cmdBankSeed, State.rung_shadowBusy, free, armed, prepared, armedPart, h0]
      rfl
    · simp [cmdBankSeed, State.rung_shadowBusy, free, armed, prepared, armedPart, h0]
      rfl
  case validate =>
    intro q k s h retained reseeding
    refine runCommand_aside h ?_
    cases hb : s.banks.state <;> simp_all [cmdBankValidate]
  case untag =>
    intro q k s h free edits zero tagged prepared armed
    exact runCommand_done h (by simp [cmdBankTag, State.rung_shadowBusy, free, edits, zero, tagged, prepared, armed]; rfl)
  case tag =>
    intro q k s h free edits tag seeded sound
    refine runCommand_aside h ?_
    simp [cmdBankTag, State.rung_shadowBusy, free, edits, tag, seeded] at sound ⊢
    simp [sound]
    rfl
  case tagStale =>
    intro q k s h free edits
    exact runCommand_done h (by simp [cmdBankTag, State.rung_shadowBusy, free, edits])
  case localNow =>
    intro q k s h free edits seeded row warn now sound
    refine runCommand_aside h ?_
    have hrow : (s.rung 0x0205 q k).equinoxRow = none := row
    simp [cmdEquinoxLocal, State.rung_shadowBusy, free, edits, seeded, hrow, warn, now] at sound ⊢
    simp [sound]
    rfl
  case localAt =>
    intro q k s h free edits seeded row warn now sound lead
    refine runCommand_aside h ?_
    have hrow : (s.rung 0x0205 q k).equinoxRow = none := row
    simp [cmdEquinoxLocal, State.rung_shadowBusy, free, edits, seeded, hrow, warn, now] at sound ⊢
    have late : ¬ (Time96.ofWord (q.f 64 96)).units - s.nowU < 10 * uMs := not_lt.2 lead
    simp [sound, late]
    rfl
  case cancel =>
    intro q k s id r h armed row hand
    have hrow : (s.rung 0x0206 q k).equinoxRow = some (id, r) := row
    refine completes_of_passes h ?_
    simp [cmdEquinoxCancel, armed, hrow, hand, conclude, State.respond_host (Command.passes_src h), State.row_endRow]
  case start =>
    intro q k s h speaks idle lead
    have hs : (s.rung 0x0207 q k).rootSpeaks = true := speaks
    have late : ¬ (Time96.ofWord (q.f 32 96)).units - (s.rung 0x0207 q k).nowU < (((s.rung 0x0207 q k).domainMinLead * 262144 : Nat) : Int) :=
      not_lt.2 lead
    refine completes_of_aside h (by simp only [cmdEquinoxDomainStart]; rw [if_neg (by simp [hs]), if_neg (by simpa using idle), if_neg late]) ?_
    simp [State.root_onPrepare, State.rnd_toChildren, State.tci_onPrepare, State.tci_toChildren]
    exact .inr rfl
  case stopAgain =>
    intro q k s h cancelling round
    exact runCommand_aside h (by simp [cmdEquinoxDomainCancel, cancelling, round])
  case stop =>
    intro q k s h idle cancelling round deadline
    have hd : ¬ (s.rung 0x0208 q k).armDeadline < s.nowU := not_lt.2 deadline
    refine completes_of_passes h ?_
    simp [cmdEquinoxDomainCancel, idle, cancelling, round, hd, conclude]
    rfl
  case result =>
    intro q k s r h found
    exact runCommand_done h (by simp [cmdEquinoxResultGet, found])

end Sys2Proof.Machine
end

section
/-!
SUPPORT. O23 and O24: the port, host-ring and switch commands, staging said once.
-/
namespace Sys2Proof.Machine
set_option Elab.async false -- one declaration after the other: fewer threads at once

/-- A seeded shadow bank takes a change while no fault has frozen the part. -/
theorem stage_of_seeded {upd : Bank → Bank} {s : State} (thawed : s.flt.frozen = false) (seeded : s.banks.state = .seeded) :
    stage upd s = .done stOk [] (s.staged upd) := by
  have open_ : s.stagingRefusal = none := by simp [State.stagingRefusal, thawed, seeded]
  simp [stage, open_, State.staged]

/-- A staging command whose checks pass stages its change. -/
theorem runCommand_stages {c : Command} {q : Req} {k : Nat} {s : State} {upd : Bank → Bank} (h : c.passes q k s = true)
    (hr : c.run q (s.rung c.opcode q k) = stage upd (s.rung c.opcode q k)) (thawed : s.flt.frozen = false)
    (seeded : s.banks.state = .seeded) : runCommand c q s = .next ((s.staged upd).answered c.opcode q k stOk []) :=
  runCommand_done h (hr.trans (stage_of_seeded thawed seeded))

theorem State.rung_ring (s : State) (op : Nat) (q : Req) (k i : Nat) : (s.rung op q k).ring i = s.ring i := rfl

/-- Settles O23: each command's action on the rung state. -/
theorem portCommands : Obligations.PortCommands := by
  unfold Obligations.PortCommands
  refine ⟨?configSet, ?configGet, ?status, ?stats, ?ringOn, ?ringOff, ?ringSet, ?counters⟩
  case configSet => exact fun q k s h thawed seeded => runCommand_stages h rfl thawed seeded
  case configGet => exact fun q k s h => runCommand_done h rfl
  case status => exact fun q k s h => runCommand_done h rfl
  case stats => exact fun q k s h => runCommand_done h rfl
  case ringOn =>
    rintro q k s i h rfl off enable
    exact runCommand_done h (by simp [cmdHostRingSet, State.rung_ring, off, enable]; rfl)
  case ringOff =>
    rintro q k s i h rfl on disable base entries buf
    exact runCommand_aside h (by simp [cmdHostRingSet, State.rung_ring, on, disable, base, entries, buf]; rfl)
  case ringSet =>
    rintro q k s i h rfl off disable
    exact runCommand_done h (by simp [cmdHostRingSet, State.rung_ring, off, disable]; rfl)
  case counters => exact fun q k s h => runCommand_done h rfl

/-- Settles O24: each command's action on the rung state. -/
theorem switchCommands : Obligations.SwitchCommands := by
  unfold Obligations.SwitchCommands
  refine ⟨?vlan, ?fwd, ?portState, ?static, ?flush, ?lookup, ?rule, ?group, ?queue, ?rsv, ?mirrorOn, ?mirrorOff, ?mirrorSelf, ?configGet,
    ?status, ?counters⟩
  case vlan => exact fun q k s h thawed seeded => runCommand_stages h rfl thawed seeded
  case fwd => exact fun q k s h thawed seeded => runCommand_stages h rfl thawed seeded
  case portState => exact fun q k s h => runCommand_aside h rfl
  case static =>
    rintro q k s table h rfl room thawed seeded
    refine runCommand_stages h ?_ thawed seeded
    exact if_neg fun full => absurd full.2 (not_lt.2 room)
  case flush => exact fun q k s h => runCommand_aside h rfl
  case lookup => exact fun q k s h => runCommand_done h rfl
  case rule => exact fun q k s h thawed seeded => runCommand_stages h rfl thawed seeded
  case group => exact fun q k s h thawed seeded => runCommand_stages h rfl thawed seeded
  case queue => exact fun q k s h thawed seeded => runCommand_stages h rfl thawed seeded
  case rsv => exact fun q k s h thawed seeded => runCommand_stages h rfl thawed seeded
  case mirrorOn =>
    intro q k s h other on
    exact runCommand_done h (by simp [cmdMirrorSet, other, on]; rfl)
  case mirrorOff =>
    intro q k s h other on off
    have hon : ((s.rung 0x040B q k).mirror (q.f 0 2)).on = true := on
    exact runCommand_aside h (by simp [cmdMirrorSet, other, hon, off]; rfl)
  case mirrorSelf =>
    intro q k s h self
    exact runCommand_done h (by simp [cmdMirrorSet, self])
  case configGet => exact fun q k s h => runCommand_done h rfl
  case status => exact fun q k s h => runCommand_done h rfl
  case counters => exact fun q k s h => runCommand_done h rfl

end Sys2Proof.Machine
end

section
/-!
SUPPORT. O25 and O26: the time-base, stamp and measurement commands on the rung state.
-/
namespace Sys2Proof.Machine
set_option Elab.async false -- one declaration after the other: fewer threads at once

/-- A field of a field that begins at bit 0 (the first `n` bits of the payload). -/
theorem Req.f_f {q : Req} {n lo w : Nat} (h : lo + w ≤ n) : bits (q.f 0 n) lo w = q.f lo w := by
  apply Nat.eq_of_testBit_eq
  intro i
  simp only [Req.f, bits, Nat.testBit_mod_two_pow, Nat.testBit_shiftRight, Nat.zero_add]
  by_cases hi : i < w
  · simp [hi, show lo + i < n by omega]
  · simp [hi]

/-- The next step second is at least 10 ms ahead (R71). -/
theorem State.nextStepSecond_ahead (s : State) : 10 * uMs ≤ (s.nextStepSecond : Int) * uS - s.nowU := by
  have h := Int.self_le_toNat ((s.nowU + 10 * uMs + uS - 1) / uS)
  unfold State.nextStepSecond
  generalize s.nowU = n at h ⊢
  simp only [uMs, uS] at h ⊢
  omega

/-- A step for the next second that names a known correction is scheduled. -/
theorem stepExecute_next {attended : Bool} {q : Req} {s : State} (unscheduled : q.f 192 96 = 0)
    (known : ¬(q.f 0 8 = 2 ∧ (!s.qualifiedSelected) = true)) :
    stepExecute attended q s = .aside { obj := some .timeBase, applied := true, inst := { sec := s.nextStepSecond } }
      { s with time := { s.time with scheds := s.time.scheds ++
        [{ atSec := s.nextStepSecond, src := 1, attended := attended, delta := if q.f 0 8 = 2 then none else some (stepDelta q)
           asStep := attended || !s.time.valid }] } } := by
  have ahead : ¬ (s.nextStepSecond : Int) * uS - s.nowU < 10 * uMs := not_lt.2 s.nextStepSecond_ahead
  simp only [stepExecute, unscheduled, ne_eq, not_true_eq_false, false_and, if_true, if_false]
  rw [if_neg ahead, if_neg known]

/-- Setting the leap flags and ringing a request concern different parts of the state. -/
theorem State.leapFlags_rung (s : State) (op : Nat) (q : Req) (k : Nat) : (s.rung op q k).leapFlags = s.leapFlags.rung op q k := by
  have e : (s.rung op q k).time.sec = s.time.sec ∧ (s.rung op q k).leap = s.leap := ⟨rfl, rfl⟩
  cases h : leapPendingAt s.time.sec s.leap.table <;> simp only [State.leapFlags, e.1, e.2, h] <;> rfl

/-- Settles O25: each command's action on the rung state; an unscheduled step is for the next second at least 10 ms ahead. -/
theorem timeCommands : Obligations.TimeCommands := by
  unfold Obligations.TimeCommands
  refine ⟨?get, ?freq, ?freqHeld, ?adj, ?adjHeld, ?step, ?stepAttended, ?stepReference, ?leapSet, ?leapGet, ?latencySet, ?latencyGet,
    ?ringOn, ?ringOff, ?counters⟩
  case get => exact fun q k s h => runCommand_done h rfl
  case freq =>
    intro q k s h held
    exact runCommand_done h (if_neg (by simp [held]))
  case freqHeld =>
    intro q k s h free
    exact runCommand_done h (by simp [cmdTimeSetFreq, free])
  case adj =>
    rintro q k s slope h held rfl
    exact runCommand_done h (if_neg (by simp [held]))
  case adjHeld =>
    intro q k s h free
    exact runCommand_done h (by simp [cmdTimeAdjPhase, free])
  case step =>
    intro q k s h mode unscheduled unattended
    have hatt : ¬ stepAttended q (s.rung 0x0504 q k) = true := Bool.eq_false_iff.1 unattended
    refine runCommand_aside h ?_
    simp only [cmdTimeStep, mode, false_and, if_false]
    rw [if_neg hatt, stepExecute_next unscheduled (by simp [mode]), if_neg mode]
    rfl
  case stepAttended =>
    intro q k s h mode attended closed
    refine opened_of_attend h ?_ closed
    simp only [cmdTimeStep, mode, false_and, if_false]
    exact if_pos attended
  case stepReference =>
    intro q k s h mode selected invalid unscheduled
    have hsel : (s.rung 0x0504 q k).qualifiedSelected = true := selected
    have hatt : ¬ stepAttended q (s.rung 0x0504 q k) = true := by simp [stepAttended, invalid]
    refine runCommand_aside h ?_
    simp only [cmdTimeStep, hsel, Bool.not_true, Bool.false_eq_true, and_false, if_false]
    rw [if_neg hatt, stepExecute_next unscheduled (by simp [hsel]), if_pos mode]
    rw [show (s.rung 0x0504 q k).time.valid = false from invalid]
    rfl
  case leapSet =>
    intro q k s h none
    refine runCommand_done h ?_
    simp [cmdLeapTableSet, none]
    exact State.leapFlags_rung { s with leap := { s.leap with table := leapRequest q, flashDirty := true } } _ _ _
  case leapGet => exact fun q k s h => runCommand_done h rfl
  case latencySet => exact fun q k s h thawed seeded => runCommand_stages h rfl thawed seeded
  case latencyGet => exact fun q k s h => runCommand_done h rfl
  case ringOn =>
    intro q k s h off on
    exact runCommand_done h (by simp [cmdStampRingSet, off, on]; rfl)
  case ringOff =>
    intro q k s h on base entries off
    exact runCommand_aside h (by simp [cmdStampRingSet, off, on, base, entries]; rfl)
  case counters => exact fun q k s h => runCommand_done h rfl

@[simp] theorem State.job_updJob (s : State) (i j : Nat) (f : Job → Job) :
    (s.updJob i f).job j = if j = i then f (s.job i) else s.job j := by
  simp [State.job, State.updJob]

theorem State.job_reply (s : State) (op : Nat) (q : Req) (k st i : Nat) (p : Fields) : (s.reply op q k st p).job i = s.job i := by
  simp [State.job]

theorem State.job_aside (s : State) (op : Nat) (q : Req) (w : Wait) (i : Nat) : (s.aside op q w).job i = s.job i := rfl

theorem State.rung_chan (s : State) (op : Nat) (q : Req) (k i : Nat) : (s.rung op q k).chan i = s.chan i := rfl
theorem State.rung_job (s : State) (op : Nat) (q : Req) (k i : Nat) : (s.rung op q k).job i = s.job i := rfl
theorem State.rung_feeds (s : State) (op : Nat) (q : Req) (k i : Nat) : (s.rung op q k).feeds i = s.feeds i := rfl

/-- Settles O26: each command's action on the rung state. -/
theorem measurementCommands : Obligations.MeasurementCommands := by
  unfold Obligations.MeasurementCommands
  refine ⟨?chanOn, ?chanOff, ?chanFixed, ?chanGet, ?start, ?stop, ?result, ?noResult, ?cal, ?noCal, ?calRun, ?ocxo⟩
  case chanOn =>
    intro q k s h ext idle on
    exact runCommand_done h (by simp [cmdMeasChannelSet, State.rung_feeds, Nat.not_le.2 ext, idle, on]; rfl)
  case chanOff =>
    intro q k s h ext idle off state
    exact runCommand_aside h (by simp [cmdMeasChannelSet, State.rung_feeds, State.rung_chan, Nat.not_le.2 ext, idle, off, state]; rfl)
  case chanFixed =>
    intro q k s h fixed
    exact runCommand_done h (by simp [cmdMeasChannelSet, fixed])
  case chanGet => exact fun q k s h => runCommand_done h rfl
  case start =>
    intro q k s h stopped chA chB lead
    have hA : ({ cfg := q.f 0 192 } : Job).chA = q.f 8 4 := Req.f_f (by decide)
    have hB : ({ cfg := q.f 0 192 } : Job).chB = q.f 12 4 := Req.f_f (by decide)
    have hd : ({ cfg := q.f 0 192 } : Job).diff = q.b 16 := congrArg (· == 1) (Req.f_f (by decide))
    have free : ¬(((s.rung 0x0603 q k).job (q.f 0 4)).running ∨ !((s.rung 0x0603 q k).chan ({ cfg := q.f 0 192 } : Job).chA).running
        ∨ (({ cfg := q.f 0 192 } : Job).diff ∧ !((s.rung 0x0603 q k).chan ({ cfg := q.f 0 192 } : Job).chB).running)) := by
      rw [State.rung_job, State.rung_chan, State.rung_chan, hA, hB, hd]
      simpa [stopped, chA] using chB
    have late : ¬(s.rung 0x0603 q k).jobStart q < (s.rung 0x0603 q k).nowU := not_lt.2 lead
    refine completes_of_done h (by simp only [cmdMeasStart]; rw [if_neg free, if_neg late]) ?_
    simp [State.job_reply]
    exact ⟨rfl, rfl, rfl⟩
  case stop =>
    intro q k s h running
    have hrun : ((s.rung 0x0604 q k).job (q.f 0 4)).running = true := running
    refine completes_of_aside h (by simp only [cmdMeasStop]; rw [if_neg (by simp [hrun])]) ?_
    simp [State.job_aside]
    exact .inr rfl
  case result =>
    intro q k s r h found
    exact runCommand_done h (by simp [cmdMeasResultGet, State.rung_job, found])
  case noResult =>
    intro q k s h none
    exact runCommand_done h (by simp [cmdMeasResultGet, State.rung_job, none])
  case cal =>
    intro q k s tbl h hits
    exact runCommand_done h (by simp [cmdMeasCalGet, State.rung_chan, hits])
  case noCal =>
    intro q k s h none
    exact runCommand_done h (by simp [cmdMeasCalGet, State.rung_chan, none])
  case calRun =>
    intro q k s h ext state idle
    exact runCommand_aside h (by simp [cmdMeasCalRun, State.rung_chan, State.rung_feeds, Nat.not_le.2 ext, state, idle]; rfl)
  case ocxo => exact fun q k s h => runCommand_done h rfl

end Sys2Proof.Machine
end

section
/-!
SUPPORT. O27 to O29: the reference, loop, output, receiver and domain commands on the rung state.
-/
namespace Sys2Proof.Machine
set_option Elab.async false -- one declaration after the other: fewer threads at once

/-! ### The loop leaves its frequency where it is -/

theorem TimeS.freqAdj_startSlew (t : TimeS) (delta : Int) (slope : Nat) : (t.startSlew delta slope).freqAdj = t.freqAdj := by
  unfold TimeS.startSlew
  extract_lets rem
  split <;> rfl

theorem State.time_enterSel (st : SelState) (s : State) : (s.enterSel st).time = s.time := by
  rw [State.enterSel_within.eq]

theorem State.state_enterSel (st : SelState) (s : State) : (s.enterSel st).sel.state = st := rfl

theorem State.loopHeld_enterSel (st : SelState) (s : State) : (s.enterSel st).sel.loopHeld = s.sel.loopHeld := by
  rw [State.enterSel_within.eq]

theorem State.settleTiming_keeps (old s : State) :
    (State.settleTiming old s).time = s.time ∧ (State.settleTiming old s).sel.state = s.sel.state
      ∧ (State.settleTiming old s).sel.loopHeld = s.sel.loopHeld := by
  obtain ⟨u, e⟩ := (State.settleTiming_within (old := old) (s := s)).form
  rw [e]
  exact ⟨rfl, rfl, rfl⟩

/-- Taking up a reference's phase moves the time base by a slew or a step, never its frequency (R118). -/
theorem State.treatPhase_keeps (r : Nat) (s : State) :
    (s.treatPhase r).time.freqAdj = s.time.freqAdj ∧ (s.treatPhase r).sel.loopHeld = s.sel.loopHeld := by
  refine ⟨?_, ?_⟩
  · unfold State.treatPhase State.treatDelta
    split_ifs <;> simp [State.time_enterSel, TimeS.freqAdj_startSlew, State.updRef]
  · obtain ⟨u, e⟩ := (State.treatPhase_within (r := r) (s := s)).form
    rw [e]

/-- Settles O27: each command's action on the rung state. -/
theorem referenceCommands : Obligations.ReferenceCommands := by
  unfold Obligations.ReferenceCommands
  refine ⟨?refSet, ?refGet, ?refStatus, ?mode, ?selStatus, ?loop, ?policySet, ?policyGet, ?outSet, ?outGet, ?holdover⟩
  case refSet => exact fun q k s h thawed seeded => runCommand_stages h rfl thawed seeded
  case refGet => exact fun q k s h => runCommand_done h rfl
  case refStatus => exact fun q k s h => runCommand_done h rfl
  case mode =>
    intro q k s h ranked
    refine runCommand_done h (if_neg ?_)
    rintro ⟨manual, unset⟩
    exact unset.elim (ranked manual).1 (ranked manual).2
  case selStatus => exact fun q k s h => runCommand_done h rfl
  case loop =>
    intro q k s h held
    have change : ¬ q.b 0 = (s.rung 0x0706 q k).sel.loopHeld := by simp [held]
    cases hb : q.b 0
    · refine completes_of_done h (by simp only [cmdLoopSet]; rw [if_neg change, if_neg (by simp [hb])]) ?_
      cases hs : s.sel.selected <;> simp [State.settleTiming_keeps, State.treatPhase_keeps, State.time_enterSel, State.loopHeld_enterSel, hs]
      all_goals rfl
    · refine completes_of_done h (by simp only [cmdLoopSet]; rw [if_neg change, if_pos hb]) ?_
      simp [State.settleTiming_keeps, State.time_enterSel, State.state_enterSel]
      rfl
  case policySet => exact fun q k s h thawed seeded => runCommand_stages h rfl thawed seeded
  case policyGet => exact fun q k s h => runCommand_done h rfl
  case outSet => exact fun q k s h thawed seeded => runCommand_stages h rfl thawed seeded
  case outGet => exact fun q k s h => runCommand_done h rfl
  case holdover => exact fun q k s h => runCommand_done h rfl

/-! ### The receiver -/

theorem State.gnssIndication_keeps (at_ : Time96) (old s : State) :
    (State.gnssIndication at_ old s).gnss.rx = s.gnss.rx ∧ (State.gnssIndication at_ old s).gnss.stored = s.gnss.stored
      ∧ (State.gnssIndication at_ old s).gnss.fixes = s.gnss.fixes ∧ (State.gnssIndication at_ old s).gnss.surveyS = s.gnss.surveyS
      ∧ (State.gnssIndication at_ old s).gnss.ephs = s.gnss.ephs ∧ (State.gnssIndication at_ old s).gnss.almanac = s.gnss.almanac := by
  rw [State.gnssIndication_within.eq]
  exact ⟨rfl, rfl, rfl, rfl, rfl, rfl⟩

/-- Storing the antenna's position leaves the receiver's state and survey alone. -/
theorem State.storePosition_keeps (p : Option (Int × Int × Int)) (s : State) :
    (s.storePosition p).gnss.rx = s.gnss.rx ∧ (s.storePosition p).gnss.fixes = s.gnss.fixes
      ∧ (s.storePosition p).gnss.surveyS = s.gnss.surveyS := by
  rw [State.storePosition_within.eq]
  exact ⟨rfl, rfl, rfl⟩

/-- Running firmware stores the position at once unless a supply warning stands (R404). -/
theorem State.stored_storePosition {p : Option (Int × Int × Int)} {s : State} (running : s.fw.running = true)
    (quiet : s.plat.warn = false) : (s.storePosition p).gnss.stored = p := by
  simp [State.storePosition, running, quiet]

theorem Command.passes_running {c : Command} {q : Req} {k : Nat} {s : State} (h : c.passes q k s = true) : s.fw.running = true := by
  obtain ⟨-, -, -, -, running, -⟩ := (Command.passes_iff c q k s).1 h
  exact running

/-- Settles O28: each command's action on the rung state. -/
theorem receiverCommands : Obligations.ReceiverCommands := by
  unfold Obligations.ReceiverCommands
  refine ⟨?configSet, ?configGet, ?status, ?sats, ?survey, ?reset, ?forget⟩
  case configSet => exact fun q k s h thawed seeded => runCommand_stages h rfl thawed seeded
  case configGet => exact fun q k s h => runCommand_done h rfl
  case status => exact fun q k s h => runCommand_done h rfl
  case sats => exact fun q k s h => runCommand_done h rfl
  case survey =>
    intro q k s h fixed off acquiring
    have tracking : ¬(s.gnssBank.gnssFixed = true ∨ s.gnss.rx = .off ∨ s.gnss.rx = .acquiring) := by
      simp [fixed, off, acquiring]
    refine completes_of_done h (if_neg tracking) ?_
    simp [State.gnssIndication_keeps, State.storePosition_keeps]
    have running := Command.passes_running h
    refine ⟨rfl, rfl, fun quiet => State.stored_storePosition ?_ quiet, rfl⟩
    exact running
  case reset =>
    intro q k s h on keep
    refine completes_of_done h (by simp only [cmdGnssReset]; rw [if_neg (by simpa using on)]) ?_
    simp [State.gnssIndication_keeps, keep]
    exact ⟨rfl, rfl, rfl⟩
  case forget =>
    intro q k s h on forget
    refine completes_of_done h (by simp only [cmdGnssReset]; rw [if_neg (by simpa using on)]) ?_
    simp [State.gnssIndication_keeps, State.storePosition_keeps, forget]
    have running := Command.passes_running h
    refine ⟨rfl, fun quiet => State.stored_storePosition ?_ quiet, rfl⟩
    exact running

/-- Settles O29: each command's action on the rung state. -/
theorem domainCommands : Obligations.DomainCommands := by
  unfold Obligations.DomainCommands
  refine ⟨?configSet, ?configGet, ?portTiming, ?pair, ?trunk, ?status, ?calRun, ?members⟩
  case configSet =>
    intro q k s h key thawed seeded
    exact runCommand_stages h (if_neg (not_not.2 key)) thawed seeded
  case configGet => exact fun q k s h => runCommand_done h rfl
  case portTiming => exact fun q k s h thawed seeded => runCommand_stages h rfl thawed seeded
  case pair => exact fun q k s h thawed seeded => runCommand_stages h rfl thawed seeded
  case trunk => exact fun q k s h => runCommand_done h rfl
  case status => exact fun q k s h => runCommand_done h rfl
  case calRun =>
    intro q k s h parent selected state uhz
    have huhz : (s.rung 0x0907 q k).channelUhz (s.chan (q.f 8 4)) = 1000000 := uhz
    exact runCommand_aside h (by simp [cmdLinkCalRun, State.rung_chan, parent, selected, state, huhz]; rfl)
  case members => exact fun q k s h => runCommand_done h rfl

end Sys2Proof.Machine
end

section
/-!
SUPPORT. O30 and O31: the cue and time-service commands on the rung state.
-/
namespace Sys2Proof.Machine
set_option Elab.async false -- one declaration after the other: fewer threads at once

/-! ### Cue rows and domain rounds -/

/-- A row put into the table is found under the number it was given. -/
theorem State.row_putRow (r : Row) (s : State) : Tbl.get? (s.putRow r).2.cue.rows (s.putRow r).1 = some r := by
  simp [State.putRow, Tbl.get?_put]

/-- A row that is armed is found under the number it was given, as it was but for its place in the order and whether its island has it. -/
theorem State.row_armRow (r : Row) (s : State) :
    ∃ x, Tbl.get? (s.armRow r).2.cue.rows (s.armRow r).1 = some x ∧ x.req = r.req ∧ x.inst = r.inst ∧ x.template = r.template :=
  ⟨_, State.row_putRow _ s, rfl, rfl, rfl⟩

/-- A round that a node joins without ending one is the first of its rounds. -/
theorem State.joinRound_rounds {c : CueRound} {s : State} (start : c.cancel = false) :
    ∃ d ∈ (s.joinRound c).cue.rounds, d.round = c.round ∧ d.scene = c.scene ∧ d.mine = c.mine := by
  simp only [State.joinRound, start, Bool.false_eq_true, if_false, List.take_succ_cons]
  exact ⟨_, List.mem_cons_self, rfl, rfl, rfl⟩

/-- A cancellation that a node joins is the first of its cancellations. -/
theorem State.joinRound_cancels {c : CueRound} {s : State} (stop : c.cancel = true) :
    ∃ d ∈ (s.joinRound c).cue.cancels, d.round = c.round ∧ d.root = c.root ∧ d.cancel = true ∧ d.mine = c.mine := by
  simp only [State.joinRound, stop, if_true, List.take_succ_cons]
  exact ⟨_, List.mem_cons_self, rfl, rfl, rfl, rfl⟩

theorem State.nextRound_joinRound {c : CueRound} {s : State} : (s.joinRound c).cue.nextRound = s.cue.nextRound := by
  obtain ⟨u, e⟩ := (State.joinRound_within (c := c) (s := s)).form
  rw [e]

theorem State.cue_toChildren {kind : Nat} {payload : Fields} {s : State} : (s.toChildren kind payload).cue = s.cue := by
  rw [State.toChildren_within.eq]

theorem State.rung_rootSpeaks (s : State) (op : Nat) (q : Req) (k : Nat) : (s.rung op q k).rootSpeaks = s.rootSpeaks := rfl

/-- Settles O30: each command's action on the rung state. -/
theorem cueCommands : Obligations.CueCommands := by
  unfold Obligations.CueCommands
  refine ⟨?template, ?add, ?cancelTemplate, ?cancelScene, ?cancelRow, ?cancelNone, ?list, ?status, ?announce, ?domainCancel, ?ringOn, ?ringOff,
    ?frame, ?result⟩
  case template =>
    intro q k s h template room
    refine completes_of_done h (by simp only [cmdCueAdd]; rw [if_pos template]; exact if_neg (Nat.not_le.2 room)) ?_
    refine ⟨_, ?_, (State.reply_mailbox _ _ _ _ _ _).2⟩
    simp [State.row_putRow]
  case add =>
    intro q k s h row sound
    refine completes_of_done h (by
      simp only [cmdCueAdd]; rw [if_neg (by simp [row]), if_neg (by rw [sound]; decide), if_neg (not_not.2 sound)]) ?_
    obtain ⟨r, found, req, inst, template⟩ := State.row_armRow (rowOf q.body (Time96.ofWord (q.f 96 96)).units 0 0) (s.rung 0x0A01 q k)
    exact ⟨_, r, by simpa using found, req, inst, template, (State.reply_mailbox _ _ _ _ _ _).2⟩
  case cancelTemplate =>
    intro q k s r h one found plain template
    exact runCommand_done h (by simp [cmdCueCancel, one, found, plain, template]; rfl)
  case cancelScene =>
    intro q k s h scene
    exact runCommand_done h (by simp [cmdCueCancel, scene]; rfl)
  case cancelRow =>
    intro q k s r h one found plain row waiting
    refine completes_of_passes h ?_
    simp [cmdCueCancel, one, found, plain, row, waiting, conclude, State.respond_host (Command.passes_src h), State.cancelRow, State.row_endRow]
  case cancelNone =>
    intro q k s h one none
    exact runCommand_done h (by simp [cmdCueCancel, one, none])
  case list => exact fun q k s h => runCommand_done h rfl
  case status =>
    intro q k s h rows
    have room : cueRows - s.cue.rows.length < 65536 := by
      have := List.length_pos_iff.2 rows
      unfold cueRows
      omega
    refine runCommand_done h ?_
    simp only [cmdCueStatus]
    rw [show cueRows - (s.rung 0x0A04 q k).cue.rows.length = cueRows - s.cue.rows.length from rfl, if_pos room]
    rfl
  case announce =>
    intro q k s h speaks room lead
    have late : ¬ (Time96.ofWord (q.f 32 96)).units - (s.rung 0x0A05 q k).nowU < ((s.rung 0x0A05 q k).domainLeadNs : Int) * uNs :=
      not_lt.2 lead
    have full : ¬ 16 ≤ ((s.rung 0x0A05 q k).cue.rounds.filter (fun c => c.mine && !c.sent)).length := Nat.not_le.2 room
    refine completes_of_done h (by
      simp only [cmdCueDomainAnnounce]; rw [if_neg (by simp [State.rung_rootSpeaks, speaks]), if_neg full, if_neg late]) ?_
    refine ⟨?_, ?_, (State.reply_mailbox _ _ _ _ _ _).2⟩
    · simp [State.nextRound_joinRound, State.cue_toChildren]
    · simp only [State.reply_fields]
      exact State.joinRound_rounds rfl
  case domainCancel =>
    intro q k s x h speaks found lead fresh
    have late : ¬ (x.2.1 : Int) - (s.rung 0x0A06 q k).nowU < ((s.rung 0x0A06 q k).domainLeadNs : Int) * uNs := not_lt.2 lead
    have hfound : (s.rung 0x0A06 q k).cue.issued.find? (fun e => e.1 == q.f 0 32) = some x := found
    refine completes_of_done h (by
      simp only [cmdCueDomainCancel]; rw [if_neg (by simp [State.rung_rootSpeaks, speaks]), hfound]
      exact (if_neg late).trans (if_neg (Bool.eq_false_iff.1 fresh))) ?_
    refine ⟨?_, (State.reply_mailbox _ _ _ _ _ _).2⟩
    simp only [State.reply_fields]
    exact State.joinRound_cancels rfl
  case ringOn =>
    intro q k s h off on
    exact runCommand_done h (by simp [cmdCaptureRingSet, off, on]; rfl)
  case ringOff =>
    intro q k s h on offset entries off
    exact runCommand_aside h (by simp [cmdCaptureRingSet, off, on, offset, entries]; rfl)
  case frame =>
    rintro q k s n h free rfl
    exact runCommand_done h (if_neg (Bool.eq_false_iff.1 free))
  case result =>
    intro q k s c h found
    exact runCommand_done h (by simp [cmdCueDomainResultGet, found])

/-! ### Cookies -/

/-- A fold that lengthens its list by `m` at every step while the state keeps a property. -/
theorem length_foldl_of_step {α β : Type} {f : List β × State → α → List β × State} {P : State → Prop} {m : Nat}
    (step : ∀ a x, P a.2 → (f a x).1.length = a.1.length + m ∧ P (f a x).2) (l : List α) (a : List β × State) (ha : P a.2) :
    (l.foldl f a).1.length = a.1.length + l.length * m ∧ P (l.foldl f a).2 := by
  induction l generalizing a with
  | nil => exact ⟨by simp, ha⟩
  | cons x l ih =>
    obtain ⟨longer, keep⟩ := step a x ha
    obtain ⟨rest, keep⟩ := ih (f a x) keep
    refine ⟨?_, keep⟩
    rw [List.foldl_cons, rest, longer, List.length_cons, Nat.succ_mul]
    omega

/-- The function holds a cookie key. -/
def State.hasCookieKey (s : State) : Prop := s.ts.cookies ≠ []

theorem State.sealCookie_keeps {key : CookieKey} {c2s s2c : Nat} {s : State} : (s.sealCookie key c2s s2c).2.ts = s.ts := by
  rw [State.sealCookie_within.eq]

/-- Fresh cookies are as many as were asked for while a cookie key is held. -/
theorem State.length_freshCookies {n c2s s2c : Nat} {s : State} (keys : s.hasCookieKey) :
    (s.freshCookies n c2s s2c).1.length = n ∧ (s.freshCookies n c2s s2c).2.hasCookieKey := by
  unfold State.freshCookies
  refine And.imp_left (fun e => e.trans (by simp)) (length_foldl_of_step (P := State.hasCookieKey) (m := 1) (fun a x held => ?_) _ _ keys)
  split
  next key rest e =>
    refine ⟨by simp, ?_⟩
    rw [State.hasCookieKey, State.sealCookie_keeps]
    exact held
  next none => exact absurd none held

/-- Cookies issued for `m` clients, `n` for each, are `m * n`. -/
theorem State.length_issued {m n : Nat} {c2s s2c : Nat → Nat} {s : State} (keys : s.hasCookieKey) :
    ((List.range m).foldl (fun (a : List Nat × State) k =>
        let (c, t) := a.2.freshCookies n (c2s k) (s2c k)
        (a.1 ++ c, t)) ([], s)).1.length = m * n := by
  have grown := length_foldl_of_step (P := State.hasCookieKey) (m := n) (f := fun (a : List Nat × State) k =>
    (a.1 ++ (a.2.freshCookies n (c2s k) (s2c k)).1, (a.2.freshCookies n (c2s k) (s2c k)).2))
    (fun a k held => ⟨by simp [(State.length_freshCookies held).1], (State.length_freshCookies held).2⟩) (List.range m) ([], s) keys
  simpa using grown.1

/-- Of a PTP port item whose other fields are in range, only the profile's own limits are left to check (R294). -/
theorem cmdPtpPortSet_refusal {q : Req} {s : State} (open_ : ({ cmdPtpPortSet with range := fun _ _ => true } : Command).refusal q s = none)
    (port : q.f 0 8 < portCount) (trunk : s.banks.shadow.trunk (q.f 0 8) = false) (mode : q.f 8 3 ≤ 4) (profile : q.f 11 3 ≤ 4)
    (delay : q.f 14 2 ≤ 2) (domain : 2 ≤ q.f 56 8) (unsigned : q.f 19 2 = 0) :
    cmdPtpPortSet.refusal q s =
      if Config.profileAllows (q.f 11 3) (q.f 24 8) (q.i 32 8) (q.i 40 8) (q.i 48 8) (q.f 56 8) then none else some stBadParam := by
  have range : cmdPtpPortSet.range q s = Config.profileAllows (q.f 11 3) (q.f 24 8) (q.i 32 8) (q.i 40 8) (q.i 48 8) (q.f 56 8) := by
    simp [cmdPtpPortSet, port, trunk, mode, profile, delay, domain, unsigned]
  simp only [Command.refusal] at open_ ⊢
  rw [range]
  split_ifs at open_ ⊢ <;> simp_all

/-- Settles O31: each command's action on the rung state. -/
theorem timeServiceCommands : Obligations.TimeServiceCommands := by
  unfold Obligations.TimeServiceCommands
  refine ⟨?configSet, ?configGet, ?addr, ?pfx, ?policy, ?ptp, ?status, ?counters, ?entry, ?noEntry, ?flush, ?cookies⟩
  case configSet => exact fun q k s h thawed seeded => runCommand_stages h rfl thawed seeded
  case configGet => exact fun q k s h => runCommand_done h rfl
  case addr => exact fun q k s h thawed seeded => runCommand_stages h rfl thawed seeded
  case pfx => exact fun q k s h thawed seeded => runCommand_stages h rfl thawed seeded
  case policy => exact fun q k s h thawed seeded => runCommand_stages h rfl thawed seeded
  case ptp =>
    intro q k s h port trunk mode profile delay domain unsigned thawed seeded
    obtain ⟨src, hk, ready, fresh, running, open_⟩ := (Command.passes_iff _ q k s).1 h
    have checked := cmdPtpPortSet_refusal open_ port trunk mode profile delay domain unsigned
    split_ifs at checked ⊢
    · refine runCommand_stages ((Command.passes_iff _ q k s).2 ⟨src, hk, ready, fresh, running, checked⟩) ?_ thawed seeded
      exact if_neg (by simp [unsigned])
    · exact runCommand_refused src hk ready fresh running checked
  case status => exact fun q k s h => runCommand_done h rfl
  case counters => exact fun q k s h => runCommand_done h rfl
  case entry =>
    intro q k s e h found
    have hfound : (s.rung 0x0B09 q k).entry (q.f 0 2, q.f 4 12, q.f 32 128) = some e := found
    exact runCommand_done h (by simp [cmdTsLedgerGet, hfound]; rfl)
  case noEntry =>
    intro q k s h none
    have hnone : (s.rung 0x0B09 q k).entry (q.f 0 2, q.f 4 12, q.f 32 128) = .none := none
    exact runCommand_done h (by simp [cmdTsLedgerGet, hnone])
  case flush => exact fun q k s h => runCommand_aside h rfl
  case cookies =>
    intro q k s h whole nts keys
    refine completes_of_done h (by simp only [cmdNtsCookieIssue]; exact (if_neg (Bool.eq_false_iff.1 whole)).trans (if_neg (by simp [nts, keys]))) ?_
    refine ⟨_, ?_, (State.reply_mailbox _ _ _ _ _ _).1, (State.reply_mailbox _ _ _ _ _ _).2⟩
    exact State.length_issued (c2s := fun k => q.f (32 + 512 * k) 256) (s2c := fun k => q.f (288 + 512 * k) 256) keys

end Sys2Proof.Machine
end

section
/-!
SUPPORT. O32: the key and big-number commands on the rung state.
-/
namespace Sys2Proof.Machine
set_option Elab.async false -- one declaration after the other: fewer threads at once

/-- Answering big-number jobs leaves the engine alone. -/
theorem State.bn_answerJobs {status : Nat} {f : BnJob → Fields} (l : List BnJob) (s : State) :
    (l.foldl (fun t j => t.answerJob j status (f j)) s).bn = s.bn := by
  refine foldl_keeps State.bn _ l s fun t j => ?_
  rw [State.answerJob_within.eq]
  rfl

theorem State.queue_bnCount {i n : Nat} {s : State} : (s.bnCount i n).bn.queue = s.bn.queue := by
  unfold State.bnCount
  dsimp only
  rw [State.counterHalf_within.eq]
  dsimp only [State.reported]
  split_ifs <;> rfl

/-- Jobs that stop leave the queue of the engine. -/
theorem State.queue_stopJobs {p : BnJob → Bool} {status : Nat} {aborted : Bool} {s : State} :
    (s.stopJobs p status aborted).bn.queue = s.bn.queue.filter (fun j => !p j) := by
  unfold State.stopJobs
  rw [State.bn_answerJobs]
  cases aborted
  · rfl
  · exact State.queue_bnCount

/-- Settles O32: each command's action on the rung state. -/
theorem keyCommands : Obligations.KeyCommands := by
  unfold Obligations.KeyCommands
  refine ⟨?info, ?import_, ?generate, ?delete, ?ntsInit, ?policy, ?policyAttended, ?policyGet, ?op, ?abort, ?enable, ?disable, ?status⟩
  case info => exact fun q k s h => runCommand_done h rfl
  case import_ =>
    intro q k s h closed sound material
    have hsound : (s.rung 0x0C02 q k).writeRefusal ((imports q).map (·.slot)) (q.b 4) = none := sound
    exact opened_of_attend h (by simp only [cmdKeyImport, hsound, material, if_true]) closed
  case generate =>
    intro q k s h closed sound
    have hsound : generateRefusal q (s.rung 0x0C03 q k) = none := sound
    exact opened_of_attend h (by simp only [cmdKeyGenerate, hsound]) closed
  case delete =>
    intro q k s h closed sound
    have hsound : deleteRefusal q (s.rung 0x0C04 q k) = none := sound
    exact opened_of_attend h (by simp only [cmdKeyDelete, hsound]) closed
  case ntsInit =>
    intro q k s h closed sound
    have hsound : ntsInitRefusal (s.rung 0x0C05 q k) = none := sound
    exact opened_of_attend h (by simp only [cmdKeyNtsInit, hsound]) closed
  case policy =>
    intro q k s h off thawed seeded
    refine runCommand_stages h (if_neg ?_) thawed seeded
    simp [policyAttended, off]
  case policyAttended =>
    intro q k s h on lax closed thawed seeded
    refine opened_of_attend h ((if_pos ?_).trans ?_) closed
    · simp [policyAttended, on, lax]
    · simp [State.stagingRefusal, thawed, seeded]
  case policyGet => exact fun q k s h => runCommand_done h rfl
  case op =>
    intro q k s h whole running enabled room key
    have free : ¬(q.b 16 = true ∧ (s.rung 0x0C08 q k).slotPending (q.f 8 8) = true) := fun c => absurd c.2 (Bool.eq_false_iff.1 (key c.1).1)
    have held : ¬(q.b 16 = true ∧ ((s.rung 0x0C08 q k).slot (q.f 8 8)).typ = 0) := fun c => (key c.1).2 c.2
    have hwhole : (s.rung 0x0C08 q k).sealBroken = false := whole
    refine runCommand_aside h ?_
    simp only [cmdBnOp]
    rw [if_neg (by simp [hwhole]), if_neg (by simp [running]), if_neg (by simp [enabled]), if_neg free, if_neg held, if_neg (by simpa using room)]
    rfl
  case abort =>
    intro q k s h every idle queued
    have none : s.bn.lanes.filter (fun l => l.2.job.elim false (fun _ => true)) = [] := by
      convert idle using 3 with l
      cases l.2.job <;> rfl
    have run : cmdBnAbort.run q (s.rung 0x0C09 q k) =
        .done stOk [(8, s.bn.queue.length)] ((s.rung 0x0C09 q k).stopJobs (fun _ => true) stTimeout true) := by
      simp [cmdBnAbort, every, none, queued]
    exact completes_of_done h run ⟨by simp [State.queue_stopJobs], (State.reply_mailbox _ _ _ _ _ _).2⟩
  case enable =>
    intro q k s h on off
    exact runCommand_done h (by simp [cmdBnEnable, on, off]; rfl)
  case disable =>
    intro q k s h off on
    refine completes_of_aside h ((if_neg (by simp [off, on])).trans (if_neg (by simp [off]))) ?_
    simp [State.bn_answerJobs]
    exact .inr rfl
  case status => exact fun q k s h => runCommand_done h rfl

end Sys2Proof.Machine
end

section
/-!
SUPPORT. O33: the memory commands on the rung state; fusing flagged rows over the list of them.
-/
namespace Sys2Proof.Machine
set_option Elab.async false -- one declaration after the other: fewer threads at once

/-! ### Fusing flagged rows (R506) -/

/-- The rows of a bank that wait to be fused. -/
def unfused (l : List SramRow) (array bank : Nat) : List SramRow := l.filter (fun x => !x.fused && x.array == array && x.bank == bank)

/-- The key under which a bank's spare rows stand. -/
theorem spareRowsIn_put (spares : List (Nat × Nat)) {array bank array' bank' n : Nat} (h : bank < 256) (h' : bank' < 256) :
    spareRowsIn (Tbl.put spares (256 * array + bank) n) array' bank' =
      if array' = array ∧ bank' = bank then n else spareRowsIn spares array' bank' := by
  simp only [spareRowsIn, Tbl.getD_put]
  exact if_congr (by omega) rfl rfl

/-- Where every bank has a spare for each of its rows, all rows are fused, each counts once and none is short. -/
theorem foldl_fuseRow (l : List SramRow) (spares : List (Nat × Nat)) (rows : List SramRow) (n : Nat) (short : Bool)
    (enough : ∀ r ∈ l, r.bank < 256 ∧ (r.fused = true ∨ (unfused l r.array r.bank).length ≤ spareRowsIn spares r.array r.bank)) :
    ∃ left, l.foldl fuseRow (spares, rows, n, short) =
      (left, rows ++ l.map (fun r => { r with fused := true }), n + (l.filter (fun r => !r.fused)).length, short) := by
  induction l generalizing spares rows n with
  | nil => exact ⟨spares, by simp⟩
  | cons r l ih =>
    obtain ⟨bank, spare⟩ := enough r List.mem_cons_self
    cases hf : r.fused
    case true =>
      obtain ⟨left, e⟩ := ih spares (rows ++ [r]) n fun x hx => by
        have := enough x (List.mem_cons_of_mem _ hx)
        simpa [unfused, hf] using this
      refine ⟨left, ?_⟩
      have same : ({ r with fused := true } : SramRow) = r := by rw [← hf]
      rw [List.foldl_cons, fuseRow, if_pos hf, e]
      simp [hf, same]
    case false =>
      have some : spareRowsIn spares r.array r.bank ≠ 0 := by
        have := spare.resolve_left (by simp [hf])
        simp [unfused, hf] at this
        omega
      obtain ⟨left, e⟩ := ih (Tbl.put spares (256 * r.array + r.bank) (spareRowsIn spares r.array r.bank - 1))
        (rows ++ [{ r with fused := true }]) (n + 1) fun x hx => by
          obtain ⟨bank', spare'⟩ := enough x (List.mem_cons_of_mem _ hx)
          refine ⟨bank', spare'.imp_right fun room => ?_⟩
          rw [spareRowsIn_put spares bank bank']
          split_ifs with same
          · simp [unfused, hf, same.1, same.2] at room ⊢
            omega
          · have other : (r.array == x.array && r.bank == x.bank) = false := by
              simp only [Bool.and_eq_false_iff, beq_eq_false_iff_ne, ne_eq]
              rcases not_and_or.1 same with ne | ne
              · exact .inl fun e => ne e.symm
              · exact .inr fun e => ne e.symm
            simpa [unfused, Bool.and_assoc, other] using room
      refine ⟨left, ?_⟩
      rw [List.foldl_cons, fuseRow, if_neg (by simp [hf]), if_neg some, e]
      simp [hf]
      omega

/-- Suspending flash work and ringing a request concern different parts of the state. -/
theorem State.suspend_rung (w : FlashWork) (s : State) (op : Nat) (q : Req) (k : Nat) :
    (s.rung op q k).suspend w = (s.suspend w).rung op q k := by
  have e : (s.rung op q k).plat = s.plat := rfl
  cases waits : s.plat.flashWork.any (fun x => decide (x = w)) <;> simp only [State.suspend, e, waits] <;> rfl

/-- The state after rows have been fused. -/
def State.afterFusing (s : State) (spares : List (Nat × Nat)) (rows : List SramRow) (n : Nat) : State :=
  { s with mem := { s.mem with sparesLeft := spares, flagged := rows, flaggedFlash := rows, fuseDone := s.mem.fuseDone || decide (0 < n) } }

section
variable {q : Req} {k : Nat} {s : State} {spares : List (Nat × Nat)} {rows : List SramRow} {n : Nat} {P : State → Prop}

/-- Without a supply warning the rows are fused one after the other, none short of a spare. -/
theorem memFuseProgram_fuses (h : cmdMemFuseProgram.passes q k s = true) (quiet : s.plat.warn = false)
    (e : s.mem.flagged.foldl fuseRow (s.mem.sparesLeft, [], 0, false) = (spares, rows, n, false))
    (hP : P (((s.rung 0x0D81 q k).afterFusing spares rows n).reply 0x0D81 q k stOk [(16, n), (16, (spares.map (·.2)).foldl min 4)])) :
    CompletesWith (exec (.memFuseProgram q) s) P := by
  refine completes_of_done h ?_ hP
  simp [cmdMemFuseProgram, quiet, e, State.afterFusing]

/-- A row left for want of a spare makes the command `BUSY`. -/
theorem memFuseProgram_short (h : cmdMemFuseProgram.passes q k s = true) (quiet : s.plat.warn = false)
    (e : s.mem.flagged.foldl fuseRow (s.mem.sparesLeft, [], 0, false) = (spares, rows, n, true))
    (hP : P (((s.rung 0x0D81 q k).afterFusing spares rows n).reply 0x0D81 q k stBusy [])) : CompletesWith (exec (.memFuseProgram q) s) P := by
  refine completes_of_done h ?_ hP
  simp [cmdMemFuseProgram, quiet, e, State.afterFusing]

end

/-- Settles O33: each command's action on the rung state. -/
theorem memoryCommands : Obligations.MemoryCommands := by
  unfold Obligations.MemoryCommands
  refine ⟨?status, ?policy, ?scrub, ?counters, ?retired, ?flash, ?flags, ?flip, ?flipNot, ?fuseNone, ?fuseWarn, ?fuse, ?fuseOne, ?fuseShort⟩
  case status => exact fun q k s h => runCommand_done h rfl
  case policy =>
    intro q k s h s1
    refine runCommand_done h ?_
    cases warn : s.plat.warn
    · simp [cmdMemPolicySet, warn]
      rfl
    · simp [cmdMemPolicySet, warn]
      exact State.suspend_rung .memPolicy s1 _ _ _
  case scrub =>
    rintro q k s first count h rfl rfl
    exact runCommand_aside h rfl
  case counters => exact fun q k s h => runCommand_done h rfl
  case retired => exact fun q k s h => runCommand_done h rfl
  case flash => exact fun q k s h => runCommand_done h rfl
  case flags => exact fun q k s h => runCommand_done h rfl
  case flip =>
    intro q k s h factory valid line free
    refine runCommand_done h ?_
    refine if_neg ?_
    rintro (strap | five | first | armed)
    · simp [factory] at strap
    · exact valid five
    · exact line first
    · exact free armed
  case flipNot =>
    intro q k s h factory
    exact runCommand_done h (if_pos (by simp [factory]))
  case fuseNone =>
    intro q k s h quiet none
    have e : s.mem.flagged.foldl fuseRow (s.mem.sparesLeft, [], 0, false) = (s.mem.sparesLeft, [], 0, false) := by rw [none]; rfl
    refine memFuseProgram_fuses h quiet e ⟨?_, ?_, (State.reply_mailbox _ _ _ _ _ _).2⟩ <;> simp [State.afterFusing]
  case fuseWarn =>
    intro q k s h warn
    exact runCommand_done h (if_pos warn)
  case fuse =>
    intro q k s h quiet enough
    obtain ⟨left, e⟩ := foldl_fuseRow s.mem.flagged s.mem.sparesLeft [] 0 false enough
    refine memFuseProgram_fuses h quiet e ⟨?_, ?_, (left.map (·.2)).foldl min 4, by simp⟩
    · simp [State.afterFusing]
    · simp [State.afterFusing]
      congr 1
      rw [Bool.eq_iff_iff]
      simp
  case fuseOne =>
    intro q k s r n h quiet one open_ spare
    have some : spareRowsIn s.mem.sparesLeft r.array r.bank = n + 1 := spare
    have e : s.mem.flagged.foldl fuseRow (s.mem.sparesLeft, [], 0, false) =
        (Tbl.put s.mem.sparesLeft (256 * r.array + r.bank) n, [{ r with fused := true }], 1, false) := by
      simp [one, fuseRow, open_, some]
    refine memFuseProgram_fuses h quiet e ⟨?_, ?_, ?_, ?_⟩
    · simp [State.afterFusing]
    · simp [State.afterFusing]
    · simp [State.afterFusing, MemS.spareRows, spareRowsIn]
    · simp [State.afterFusing]
  case fuseShort =>
    intro q k s r h quiet one open_ spare
    have none : spareRowsIn s.mem.sparesLeft r.array r.bank = 0 := spare
    have e : s.mem.flagged.foldl fuseRow (s.mem.sparesLeft, [], 0, false) = (s.mem.sparesLeft, [r], 0, true) := by
      simp [one, fuseRow, open_, none]
    refine memFuseProgram_short h quiet e ⟨?_, ?_, ?_, (State.reply_mailbox _ _ _ _ _ _).2⟩ <;> simp [State.afterFusing]

end Sys2Proof.Machine
end

section
/-!
SUPPORT. O34 and O35: the fault, Midwinter and platform commands on the rung state.
-/
namespace Sys2Proof.Machine
set_option Elab.async false -- one declaration after the other: fewer threads at once

/-! ### Fault records -/

theorem State.record_setRecord (s : State) (i j : Nat) (r : Record) :
    (s.setRecord i r).record j = if j = i then r else s.record j := by
  simp [State.record, State.setRecord]

/-- No source holds a severe entry back for want of a record. -/
def State.noneSevere (s : State) : Prop := s.flt.src.any (fun e => e.2.entry.elim false (·.severe)) = false

/-- Without a severe entry that waits, settling the fault signals leaves the records alone. -/
theorem State.records_settleFaults {old s : State} (none : s.noneSevere) : (State.settleFaults old s).flt.records = s.flt.records := by
  have nothing : s.adopt = s := by
    have : s.flt.src.find? (fun e => e.2.entry.elim false (·.severe)) = .none := by simpa [State.noneSevere] using none
    simp [State.adopt, this]
  rw [State.settleFaults, nothing, State.noteFrom_within.eq]
  show s.driveFaultN.flt.records = s.flt.records
  rw [State.driveFaultN_within.eq]

/-- A record that is cleared stands in the ledger as cleared. -/
theorem State.record_clearRecord (s : State) (i : Nat) : ((s.clearRecord i).record i).state = .cleared := by
  unfold State.clearRecord
  dsimp only
  split <;> simp [State.record, State.updRecord, State.setRecord]

theorem State.noneSevere_clearRecord {s : State} (none : s.noneSevere) (i : Nat) : (s.clearRecord i).noneSevere := by
  unfold State.noneSevere
  rw [State.clearRecord_within.eq]
  exact none

theorem State.record_reply (s : State) (op : Nat) (q : Req) (k st i : Nat) (p : Fields) : (s.reply op q k st p).record i = s.record i := by
  simp [State.record]

theorem State.record_settleFaults {old s : State} (none : s.noneSevere) (i : Nat) : (State.settleFaults old s).record i = s.record i :=
  congrArg (fun t : Tbl Record => Tbl.getD t i {}) (State.records_settleFaults none)

/-- An event of a fault source leaves the injections that are still to come alone. -/
theorem State.injects_faultEvent {code master access address : Nat} {injected : Bool} {s : State} :
    (s.faultEvent code master access address injected).flt.injects = s.flt.injects := by
  rw [State.faultEvent_within.eq]
  rfl

/-- Settles O34: each command's action on the rung state. -/
theorem faultCommands : Obligations.FaultCommands := by
  unfold Obligations.FaultCommands
  refine ⟨?status, ?ledger, ?clear, ?free, ?policy, ?info, ?read, ?dma, ?release, ?inject, ?injectNot⟩
  case status => exact fun q k s h => runCommand_done h rfl
  case ledger => exact fun q k s h => runCommand_done h rfl
  case clear =>
    intro q k s h none act live serviced still
    have ready : ((s.record (q.f 0 6)).state = .active ∨ (s.record (q.f 0 6)).state = .quiet) ∧ (s.record (q.f 0 6)).serviced = true
        ∧ (!(s.record (q.f 0 6)).standing) = true := ⟨live, serviced, by simp [still]⟩
    refine completes_of_done h ((if_pos act).trans (if_pos ready)) ⟨?_, (State.reply_mailbox _ _ _ _ _ _).2⟩
    have severe : (s.rung cmdFaultClear.opcode q k).noneSevere := none
    have none' : ((s.rung cmdFaultClear.opcode q k).clearRecord (q.f 0 6)).noneSevere := State.noneSevere_clearRecord severe _
    rw [State.record_reply, State.record_settleFaults none']
    exact State.record_clearRecord _ _
  case free =>
    intro q k s h none act cleared
    refine completes_of_done h ((if_neg (by simp [act])).trans ((if_pos act).trans (if_pos cleared))) ⟨?_, (State.reply_mailbox _ _ _ _ _ _).2⟩
    rw [State.record_reply]
    have none' : ((s.rung cmdFaultClear.opcode q k).setRecord (q.f 0 6) {}).noneSevere := none
    rw [State.freeRecords, List.foldl_cons, List.foldl_nil, State.record_settleFaults none', State.record_setRecord, if_pos rfl]
  case policy =>
    intro q k s h open_
    refine completes_of_done h (if_neg ?_) ⟨?_, ?_, ?_, (State.reply_mailbox _ _ _ _ _ _).2⟩
    · rintro ⟨set, change, fixed⟩
      rcases open_ with keep | same | ⟨free, other⟩
      · exact set keep
      · exact change same
      · exact fixed.elim (by simp [free]) other
    · intro set
      simp [State.srcN, State.src, State.updSrc, set]
    · intro set
      simp [State.srcWindow, State.src, State.updSrc, set]
    · simp [State.updSrc]
  case info => exact fun q k s h => runCommand_done h rfl
  case read =>
    intro q k s r h found fits host
    exact runCommand_done h (by simp [cmdMidwinterRead, found, Nat.not_lt.2 fits, host])
  case dma =>
    intro q k s r h found fits host up
    exact runCommand_done h (by simp [cmdMidwinterRead, found, Nat.not_lt.2 fits, host, up]; rfl)
  case release =>
    intro q k s h found
    refine completes_of_done h (if_neg ?_) ⟨?_, ?_, (State.reply_mailbox _ _ _ _ _ _).2⟩
    · simpa [← Option.isSome_iff_ne_none, ← ne_eq] using found
    · simp only [State.reply_fields]
      rw [State.noteFrom_within.eq]
      intro e he named
      obtain ⟨x, -, rfl⟩ := List.mem_map.1 he
      split_ifs at named ⊢ with mine
      · rfl
      · exact absurd named mine
    · simp
      tauto
  case inject =>
    intro q k s h factory service code
    refine completes_of_done h ((if_neg (by simp [factory, service])).trans (if_neg (by simp [within]; omega))) ⟨_, (State.reply_mailbox _ _ _ _ _ _).2, ?_⟩
    simp [State.injects_faultEvent]
  case injectNot =>
    intro q k s h off
    refine runCommand_done h (if_pos ?_)
    rcases off with off | off <;> simp [off]

/-- Judging whether a rail has fallen leaves the warning level alone. -/
theorem State.warnMv_warnIfFallen {old s : State} :
    (State.warnIfFallen old s).plat.warnMv = s.plat.warnMv ∧ (State.warnIfFallen old s).plat.warnMvFlash = s.plat.warnMvFlash := by
  obtain ⟨u, e⟩ := (State.warnIfFallen_within (old := old) (s := s)).form
  rw [e]
  exact ⟨rfl, rfl⟩

/-- Settles O35: each command's action on the rung state. -/
theorem platformCommands : Obligations.PlatformCommands := by
  unfold Obligations.PlatformCommands
  refine ⟨?status, ?supply, ?reset, ?march⟩
  case status => exact fun q k s h => runCommand_done h rfl
  case supply =>
    intro q k s h quiet
    refine completes_of_passes h ?_
    simp [cmdPlatSupplySet, quiet, conclude, State.respond_host (Command.passes_src h)]
    rw [State.warnMv_warnIfFallen.1, State.warnMv_warnIfFallen.2]
    exact ⟨rfl, rfl⟩
  case reset => exact fun q k s h => runCommand_done h rfl
  case march => exact fun q k s h => runCommand_done h rfl

end Sys2Proof.Machine
end

section
/-!
SUPPORT. O36: register accesses, the serial interface and the PCIe link.
-/
namespace Sys2Proof.Machine
set_option Elab.async false -- one declaration after the other: fewer threads at once

/-! ### Sets of bits -/

theorem testBit_foldl_or (l : List Nat) (x k : Nat) :
    (l.foldl (fun a j => a ||| 2 ^ j) x).testBit k = (x.testBit k || decide (k ∈ l)) := by
  induction l generalizing x with
  | nil => simp
  | cons j l ih =>
    rw [List.foldl_cons, ih, Nat.testBit_or, Nat.testBit_two_pow]
    by_cases h : j = k
    · simp [h]
    · simp [h, Ne.symm h]

theorem bit_maskOf (l : List Nat) (k : Nat) : bit (maskOf l) k = decide (k ∈ l) := by
  rw [bit_eq_testBit, maskOf, testBit_foldl_or, Nat.zero_testBit, Bool.false_or]

theorem mem_bitList {x n k : Nat} : k ∈ bitList x n ↔ k < n ∧ bit x k = true := by
  simp [bitList]

/-- Clearing bits keeps the bits below 12 that are not named. -/
theorem bit_clearBits {x value k : Nat} (hk : k < 12) : bit (clearBits x value) k = (bit x k && !bit value k) := by
  rw [clearBits, bit_maskOf, Bool.eq_iff_iff]
  simp [mem_bitList, hk]

/-! ### Interrupt mask and event tail -/

theorem State.signal_only_intr_trace (k : Nat) (s : State) :
    s.signal k = { s with intr := (s.signal k).intr, trace := (s.signal k).trace } := by
  unfold State.signal State.sendVector
  split
  · rfl
  · dsimp only
    split_ifs <;> rfl

theorem foldl_signal_intr_trace (l : List Nat) (s : State) :
    l.foldl (fun t k => t.signal k) s
      = { s with intr := (l.foldl (fun t k => t.signal k) s).intr, trace := (l.foldl (fun t k => t.signal k) s).trace } := by
  induction l generalizing s with
  | nil => rfl
  | cons k l ih =>
    rw [List.foldl_cons]
    exact (ih _).trans (by rw [State.signal_only_intr_trace k s])

theorem State.setMask_form (value : Nat) (s : State) :
    s.setMask value = { s with intr := (s.setMask value).intr, trace := (s.setMask value).trace }
    ∧ (s.setMask value).intr.mask = value % 4096 ∧ (s.setMask value).intr.status = s.intr.status := by
  unfold State.setMask
  refine ⟨foldl_signal_intr_trace _ _, ?_, ?_⟩
  · exact foldl_keeps (fun t => t.intr.mask) _ _ _ fun t k => (State.signal_intr k t).2.1
  · exact foldl_keeps (fun t => t.intr.status) _ _ _ fun t k => (State.signal_intr k t).1

theorem State.setEvtTail_tail (value : Nat) (s : State) : (s.setEvtTail value).evt.tail = value % 1024 := by
  unfold State.setEvtTail
  dsimp only
  split_ifs
  · unfold State.reportLost
    split_ifs
    · rfl
    · dsimp only
      rw [State.putEvent_evt]
      rfl
  · rfl

theorem State.setEvtTail_of_none {value : Nat} {s : State} (h : s.evt.lostSince = 0 ∨ s.fw.running = false) :
    s.setEvtTail value = { s with evt := { s.evt with tail := value % 1024 } } := by
  unfold State.setEvtTail
  dsimp only
  rcases h with h | h
  · by_cases hrun : s.fw.running = true
    · exact (if_pos hrun).trans (State.reportLost_of_none (.inl h))
    · exact if_neg hrun
  · exact if_neg (by simp [h])

/-! ### Register writes -/

/-- A write of four bytes at a multiple of four below the mailbox areas writes its register. -/
theorem State.barWrite_register {offset value : Nat} {s : State} (hoff : offset < 0x10000) (halign : offset % 4 = 0)
    (hvalue : value < 2 ^ 32) : s.barWrite offset 4 value = s.writeReg offset value := by
  rw [State.barWrite, if_neg (by omega), if_pos ⟨rfl, halign⟩, State.writeWord, if_pos hoff, Nat.mod_eq_of_lt hvalue]

theorem execRegisterWrite_register {dt offset value : Nat} {s : State} (hup : (s.advance dt).plat.pcieUp = true)
    (hoff : offset < 0x10000) (halign : offset % 4 = 0) (hvalue : value < 2 ^ 32) :
    exec (.registerWrite dt offset (.write 4) value) s = .next ((s.advance dt).writeReg offset value) :=
  congrArg Host.Outcome.next ((if_pos hup).trans (State.barWrite_register hoff halign hvalue))

/-! ### The serial interface -/

theorem ofBytesBE_toBytesBE_three {x : Nat} (h : x < 2 ^ 24) :
    ofBytesBE [x / 256 / 256 % 256, x / 256 % 256, x % 256] = x := by
  simp only [ofBytesBE, List.foldl_cons, List.foldl_nil]
  omega

theorem State.spi_read {n offset value : Nat} {s : State} (hoff : offset < 2 ^ 24) (halign : offset % 4 = 0) :
    s.spi (3 :: toBytesBE 3 offset ++ [0] ++ toBytes n value) = (s.spiRead n offset 0).2.emit (.miso (s.spiRead n offset 0).1) := by
  have hlist : 3 :: toBytesBE 3 offset ++ [0] ++ toBytes n value
      = 3 :: offset / 256 / 256 % 256 :: offset / 256 % 256 :: offset % 256 :: 0 :: toBytes n value := rfl
  rw [hlist]
  simp only [State.spi, ofBytesBE_toBytesBE_three hoff, halign, true_or, if_true, length_toBytes]

theorem State.spi_write {n offset value : Nat} {s : State} (hoff : offset < 2 ^ 24) :
    s.spi (2 :: toBytesBE 3 offset ++ [] ++ toBytes n value) = s.spiWrite (toBytes n value) offset [] := by
  have hlist : 2 :: toBytesBE 3 offset ++ [] ++ toBytes n value
      = 2 :: offset / 256 / 256 % 256 :: offset / 256 % 256 :: offset % 256 :: toBytes n value := rfl
  rw [hlist]
  simp only [State.spi, ofBytesBE_toBytesBE_three hoff]

theorem State.spi_other {i : Nat} {l : List Nat} {s : State} (h2 : i ≠ 2) (h3 : i ≠ 3) : s.spi (i :: l) = s.emit (.miso []) := by
  unfold State.spi
  split
  case h_1 heq => exact absurd (List.cons.inj heq).1 h2
  case h_2 heq => exact absurd (List.cons.inj heq).1 h3
  case h_3 => rfl

/-! ### The PCIe link -/

theorem State.ring_updRing (s : State) (k j : Nat) (f : Ring → Ring) : (s.updRing k f).ring j = if j = k then f (s.ring k) else s.ring j :=
  Tbl.getD_put _ _ _ _ _

/-- Disabling a ring as the PCIe link resets: its frames not yet sent are counted, and its index follows its tail (R326). -/
def State.dropRing (frames : List Nat) (t : State) (k : Nat) : State :=
  if (t.ring k).enable then
    (if k < 4 then t.hostCount 5 (min ((nth frames k).getD 0) (t.ring k).left) else t).updRing k
      (fun r => { r with enable := false, idx := r.tailIdx })
  else t

theorem State.dropRing_form (frames : List Nat) (t : State) (k : Nat) :
    t.dropRing frames k = { t with host := (t.dropRing frames k).host } := by
  unfold State.dropRing
  split_ifs <;> rfl

theorem State.dropRing_enable (frames : List Nat) (t : State) (k j : Nat) :
    ((t.dropRing frames k).ring j).enable = ((t.ring j).enable && decide (j ≠ k)) := by
  unfold State.dropRing
  by_cases he : (t.ring k).enable
  · rw [if_pos he, State.ring_updRing]
    by_cases hj : j = k
    · simp [hj]
    · have hr (c : Prop) [Decidable c] (n : Nat) : ((if c then t.hostCount 5 n else t).ring j) = t.ring j := by
        split_ifs <;> rfl
      rw [if_neg hj, hr]
      simp [hj]
  · rw [if_neg he]
    by_cases hj : j = k <;> simp [hj, he]

theorem foldl_dropRing_form (frames l : List Nat) (t : State) :
    l.foldl (State.dropRing frames) t = { t with host := (l.foldl (State.dropRing frames) t).host } := by
  induction l generalizing t with
  | nil => rfl
  | cons k l ih =>
    rw [List.foldl_cons]
    exact (ih _).trans (by rw [State.dropRing_form frames t k])

theorem foldl_dropRing_enable (frames l : List Nat) (t : State) (j : Nat) :
    ((l.foldl (State.dropRing frames) t).ring j).enable = ((t.ring j).enable && decide (j ∉ l)) := by
  induction l generalizing t with
  | nil => simp
  | cons k l ih =>
    rw [List.foldl_cons, ih, State.dropRing_enable]
    by_cases hj : j = k <;> simp [hj]

/-- What the reset of the link does once its rings are disabled (R333, R402). -/
def State.linkDown (kind : Nat) (v : State) : State :=
  { v with
    stamps := if v.stamps.enable then { v.stamps with enable := false, draining := true } else v.stamps
    intr := { v.intr with mask := 0x0FFF, msixEn := false, delayed := 0 }
    plat := { v.plat with
      pcieUp := v.plat.pcieUp && kind == 0, pcieGen := if kind = 0 then v.plat.pcieGen else 0
      pcieWidth := if kind = 0 then v.plat.pcieWidth else 0, perst := v.plat.perst && kind != 3 } }

theorem State.linkDown_stamps (kind : Nat) (v : State) :
    (v.linkDown kind).stamps.enable = false ∧ (v.linkDown kind).stamps.draining = (v.stamps.draining || v.stamps.enable) := by
  unfold State.linkDown
  by_cases h : v.stamps.enable = true <;> simp [h]

theorem execPcieLinkReset_eq {dt kind : Nat} {frames : List Nat} {s : State} (hk : kind < 4) :
    exec (.pcieLinkReset dt kind frames) s
      = .next (((List.range 8).foldl (State.dropRing frames) (s.advance dt)).linkDown kind) := by
  show execPcieLinkReset dt kind frames s = _
  have hdrop (t : State) (k : Nat) : t.dropRing frames k = if (t.ring k).enable then
      (if k < 4 then t.hostCount 5 (min ((nth frames k).getD 0) (t.ring k).left) else t).updRing k
        (fun r => { r with enable := false, idx := r.tailIdx }) else t := rfl
  simp only [execPcieLinkReset, if_neg (show ¬4 ≤ kind by omega), ← hdrop, State.linkDown]

theorem linkTrains_of {l : Training} (h1 : 1 ≤ l.gen) (h4 : l.gen ≤ 4) (hw : l.width = 1 ∨ l.width = 2 ∨ l.width = 4) :
    linkTrains l = true := by
  rcases hw with hw | hw | hw <;> simp [linkTrains, within, h1, h4, hw]

/-! ### Signals after a hold-off -/

/-- A vector whose hold-off has run out goes out (R386). -/
theorem State.signal_after_holdoff {k last : Nat} {s : State} (hen : s.intr.msixEn = true)
    (hlast : Tbl.get? s.intr.lastVec k = some last) (hdue : last + s.intr.holdoff k ≤ s.time.tick)
    (hentry : bit (s.intr.entry k) 96 = false) :
    s.signal k = { s with
      intr := { s.intr with signalled := s.intr.signalled ||| 2 ^ k, lastVec := Tbl.put s.intr.lastVec k s.time.tick }
      trace := .vector k (bits (s.intr.entry k) 0 96) :: s.trace } := by
  rw [State.signal, if_neg (by simp [hen])]
  have hnot : ¬(0 < s.intr.holdoff k ∧ (Tbl.get? s.intr.lastVec k).elim false
      (fun t => decide (s.time.tick < t + s.intr.holdoff k)) = true) := by
    rw [hlast]
    simp only [Option.elim_some, decide_eq_true_eq]
    omega
  exact (if_neg hnot).trans (if_neg (by rw [Bool.not_eq_true]; exact hentry))

/-! ### The window through BAR2 -/

theorem Memory.read_writeAll {m : List Host.Cell} {a : Nat} {l : List Nat} (h : Memory.wf m = true) (b : Nat) :
    Memory.read (Memory.writeAll m a l) b
      = if a ≤ b ∧ b < a + l.length then BitVec.ofNat 8 ((nth l (b - a)).getD 0) else Memory.read m b := by
  induction l generalizing m a with
  | nil => simp [Memory.writeAll]
  | cons v l ih =>
    rw [Memory.writeAll, ih (Memory.wf_write m a _ h), Memory.read_write m a b _ h, List.length_cons]
    by_cases hab : b = a
    · subst hab
      simp [nth]
    · by_cases hin : a + 1 ≤ b ∧ b < a + 1 + l.length
      · have hsub : b - a = b - (a + 1) + 1 := by omega
        rw [if_pos hin, if_pos (by omega), hsub, nth]
      · rw [if_neg hin, if_neg hab, if_neg (by omega)]

theorem nth_take {α : Type} {l : List α} {n i : Nat} (h : i < n) : nth (l.take n) i = nth l i := by
  induction l generalizing n i with
  | nil => simp
  | cons a l ih =>
    cases n with
    | zero => omega
    | succ n =>
      cases i with
      | zero => rfl
      | succ i => exact ih (by omega)

theorem State.windowRead_bytes (master off n : Nat) (s : State) : (s.windowRead master off n).2.mem.bytes = s.mem.bytes := by
  rw [State.windowRead_within.eq]

theorem State.read_windowWrite_clipped {offset : Nat} {data : List Nat} {s : State} (h : Memory.wf s.mem.bytes = true) (a : Nat) :
    Memory.read (s.windowWrite 4 offset (data.take (windowBytes - offset))).mem.bytes a
      = if offset ≤ a ∧ a < min windowBytes (offset + data.length) then BitVec.ofNat 8 ((nth data (a - offset)).getD 0)
        else Memory.read s.mem.bytes a := by
  have hbytes : (s.windowWrite 4 offset (data.take (windowBytes - offset))).mem.bytes
      = Memory.writeAll s.mem.bytes offset (data.take (windowBytes - offset)) := by
    rw [State.windowWrite]
    dsimp only
    rw [State.writeLines_bytes]
  rw [hbytes, Memory.read_writeAll h, List.length_take]
  by_cases hin : offset ≤ a ∧ a < min windowBytes (offset + data.length)
  · rw [if_pos hin, if_pos (by omega), nth_take (by omega)]
  · rw [if_neg hin, if_neg (by omega)]

theorem execBar2Write_read {dt offset n : Nat} {s : State} (hup : (s.advance dt).plat.pcieUp = true) (hn : offset + n ≤ windowBytes) :
    exec (.bar2Write dt offset (.read n)) s = .next ((s.advance dt).bar2Read offset n) := by
  have hmin : min n (windowBytes - offset) = n := by omega
  show execBar2Write dt offset (.read n) s = _
  simp only [execBar2Write, hup, Bool.not_true, Bool.false_eq_true, if_false, hmin]

/-- What a read of BAR2 shows and leaves: the bytes read, or all ones when a line of them is lost (R502). -/
theorem State.bar2Read_shows {offset n : Nat} {s : State} {ok : Bool} (h : (s.windowRead 4 offset n).1 = ok) :
    (s.bar2Read offset n).trace
        = .bar2 offset (!ok) (if ok then ofBytes (Memory.readAll s.mem.bytes offset n) else 2 ^ (8 * n) - 1)
          :: (s.windowRead 4 offset n).2.trace
      ∧ (s.bar2Read offset n).mem.bytes = s.mem.bytes := by
  subst h
  unfold State.bar2Read
  refine ⟨?_, State.windowRead_bytes 4 offset n s⟩
  show Out.bar2 _ _ (if _ then ofBytes (Memory.readAll (s.windowRead 4 offset n).2.mem.bytes offset n) else _) :: _ = _
  rw [State.windowRead_bytes]
  rfl

/-- Settles O36, event by event: each register write reaches its register, each link event its fields, and what a fold over
vectors or rings keeps is kept. -/
theorem registerEvents : Obligations.RegisterEvents := by
  unfold Obligations.RegisterEvents
  refine ⟨?snap, ?clear, ?mask, ?tail, ?tailValue, ?lost, ?stray, ?tx, ?rx, ?badSize, ?pace, ?hold, ?clearReg, ?read, ?down, ?spiRead,
    ?spiWrite, ?spiOther, ?reset, ?perst, ?up, ?noPerst, ?expire, ?write, ?readOk, ?readLost, ?bar2Down⟩
  case snap => rintro dt s _ rfl; rfl
  case clear =>
    rintro dt value s _ rfl
    exact ⟨_, rfl, rfl, fun k hk => bit_clearBits hk⟩
  case mask =>
    rintro dt value s _ rfl
    exact ⟨_, rfl, State.setMask_form value _⟩
  case tail =>
    rintro dt value s _ rfl h
    exact congrArg Host.Outcome.next (State.setEvtTail_of_none h)
  case tailValue =>
    rintro dt value s _ rfl
    exact ⟨_, rfl, State.setEvtTail_tail value _⟩
  case lost => rintro dt s _ rfl; rfl
  case stray => rintro dt s _ rfl; rfl
  case tx =>
    rintro dt ring value s _ rfl h
    exact if_neg (by omega)
  case rx =>
    rintro dt ring value s _ rfl h
    exact if_neg (by omega)
  case badSize =>
    rintro dt offset _ value s _ size rfl hup rfl hoff h4 h8
    refine congrArg Host.Outcome.next ((if_pos hup).trans ?_)
    rw [State.barWrite, if_neg (by omega), if_neg (fun h => h4 h.1), if_neg (fun h => h8 h.1)]
  case pace =>
    rintro dt _ _ value s _ rfl hup rfl rfl hvalue h16
    refine (execRegisterWrite_register hup (by decide) rfl hvalue).trans (congrArg Host.Outcome.next ?_)
    simp [State.writeReg, h16]
  case hold =>
    rintro dt _ _ value s _ rfl hup rfl rfl hvalue
    exact execRegisterWrite_register hup (by decide) rfl hvalue
  case clearReg =>
    rintro dt _ _ value s _ rfl hup rfl rfl hvalue
    exact ⟨_, execRegisterWrite_register hup (by decide) rfl hvalue, rfl, fun k hk => bit_clearBits hk⟩
  case read =>
    rintro dt offset _ value s _ size rfl hup rfl
    exact congrArg Host.Outcome.next (if_pos hup)
  case down =>
    rintro dt offset _ value s _ size rfl hdown (rfl | rfl)
    · exact congrArg Host.Outcome.next (if_neg (Bool.eq_false_iff.1 hdown))
    · exact congrArg Host.Outcome.next (if_neg (Bool.eq_false_iff.1 hdown))
  case spiRead =>
    rintro dt offset _ value s _ n rfl rfl hoff halign
    exact congrArg Host.Outcome.next (State.spi_read hoff halign)
  case spiWrite =>
    rintro dt offset _ value s _ n rfl rfl hoff
    exact congrArg Host.Outcome.next (State.spi_write hoff)
  case spiOther =>
    rintro dt offset _ value s _ instruction n rfl rfl h2 h3
    exact congrArg Host.Outcome.next (State.spi_other h2 h3)
  case reset =>
    rintro dt kind frames s _ rfl hk
    refine ⟨_, execPcieLinkReset_eq hk, ?_⟩
    have hform := foldl_dropRing_form frames (List.range 8) (s.advance dt)
    have henable := foldl_dropRing_enable frames (List.range 8) (s.advance dt)
    generalize (List.range 8).foldl (State.dropRing frames) (s.advance dt) = v at hform henable ⊢
    generalize s.advance dt = u at hform henable ⊢
    obtain ⟨hstampsOff, hdraining⟩ := State.linkDown_stamps kind v
    have hintr : v.intr = u.intr := by rw [hform]
    have hstamps : v.stamps = u.stamps := by rw [hform]
    have hplat : v.plat = u.plat := by rw [hform]
    have htci : v.tci = u.tci := by rw [hform]
    refine ⟨?_, hstampsOff, hstamps ▸ hdraining, fun k hk => ?_, ?_, htci⟩
    · simp only [State.linkDown, hintr]
    · refine (henable k).trans ?_
      simp [hk]
    · simp only [State.linkDown, hplat]
  case perst => rintro dt s _ rfl; rfl
  case up =>
    rintro dt link s _ rfl hperst hrails h1 h4 hw
    exact congrArg Host.Outcome.next (if_pos ⟨hperst, hrails, linkTrains_of h1 h4 hw⟩)
  case noPerst =>
    rintro dt link s _ rfl hperst
    exact congrArg Host.Outcome.next (if_neg fun h => Bool.eq_false_iff.1 hperst h.1)
  case expire =>
    rintro dt vector s _ last rfl hv hbit hen hlast hdue hentry
    refine (if_neg (by omega)).trans (congrArg Host.Outcome.next ?_)
    refine (if_pos ⟨hbit, ?_⟩).trans ?_
    · exact State.signal_after_holdoff hen hlast hdue hentry
    · rw [hlast]
      exact decide_eq_true hdue
  case write =>
    rintro dt offset _ s _ data rfl rfl hup hwf
    exact ⟨_, congrArg Host.Outcome.next (if_neg (by rw [hup]; decide)), State.read_windowWrite_clipped hwf⟩
  case readOk =>
    rintro dt offset _ s _ n rfl rfl hup hn hok
    exact ⟨_, execBar2Write_read hup hn, State.bar2Read_shows hok⟩
  case readLost =>
    rintro dt offset _ s _ n rfl rfl hup hn hok
    exact ⟨_, execBar2Write_read hup hn, State.bar2Read_shows hok⟩
  case bar2Down =>
    rintro dt offset access s _ rfl hdown
    exact congrArg Host.Outcome.next (if_pos (by rw [hdown]; decide))

end Sys2Proof.Machine
end

section
/-!
SUPPORT. O38: March, the start of firmware, presence presses and the seal.
-/
namespace Sys2Proof.Machine
set_option Elab.async false -- one declaration after the other: fewer threads at once

/-! ### March and the boot ROM -/

theorem State.startStep_keeps_steps {k : Nat} (hk : k ≠ 1) (s : State) :
    (s.startStep k).plat.stepsDone = s.plat.stepsDone ∧ (s.startStep k).plat.doneUs = s.plat.doneUs := by
  rw [State.startStep, if_neg hk]
  split_ifs <;> exact ⟨rfl, rfl⟩

theorem State.completeStep_five {s : State} (h : s.plat.step = 5) :
    s.completeStep = { s with
      plat := { s.plat with stepsDone := 5, doneUs := Tbl.put s.plat.doneUs 5 ((s.time.tick - s.plat.marchT0) / tickUs) } } := by
  simp [State.completeStep, h]

theorem State.stepEnds_five {s : State} (h : s.plat.step = 5) (hdone : s.plat.stepsDone < 5) : s.stepEnds = true := by
  simp [State.stepEnds, h, hdone]

theorem State.runRung_of_none {p : Nat × Req → Bool} {s : State} (h : s.tci.rung = []) : s.runRung p = s := by
  simp [State.runRung, h]

theorem State.fault_keeps {code master access address : Nat} {s : State} :
    (s.fault code master access address).fw = s.fw ∧ (s.fault code master access address).banks = s.banks
      ∧ (s.fault code master access address).tci = s.tci := by
  rw [(Notes.refl s).fault code master access address]
  exact ⟨rfl, rfl, rfl⟩

/-- The units the start of firmware leaves as it set them: its own, the big-number engine and the requests. -/
def State.starting (s t : State) : State :=
  { t with fw := s.fw, bn := s.bn, tci := { t.tci with rung := s.tci.rung, lost := s.tci.lost } }

theorem State.postStart_starting {s : State} : Within State.starting s s.postStart :=
  State.postStart_within.wider

theorem State.loads_starting {s : State} : Within State.starting s s.loadAtStart.readMirror.loadCache :=
  State.loadCache_within.after (State.readMirror_within.after (State.loadAtStart_within.wider))

theorem State.endWait_lost (w : Wait) (status : Nat) (payload : Fields) (s : State) :
    (s.endWait w status payload).tci.lost = s.tci.lost := by
  rw [State.endWait_within.eq]

theorem State.answerLost_lost (s : State) : s.answerLost.tci.lost = [] :=
  foldl_keeps (fun t => t.tci.lost) _ _ _ fun t w => State.endWait_lost w _ _ t

theorem State.answerLost_keeps (s : State) :
    s.answerLost.fw = s.fw ∧ s.answerLost.bn = s.bn ∧ s.answerLost.tci.rung = s.tci.rung := by
  rw [State.answerLost_within.eq]
  exact ⟨rfl, rfl, rfl⟩

theorem State.answerRefused_keeps (s : State) :
    s.answerRefused.fw = s.fw ∧ s.answerRefused.bn = s.bn ∧ s.answerRefused.tci.rung = s.tci.rung
      ∧ s.answerRefused.tci.lost = s.tci.lost := by
  rw [State.answerRefused_within.eq]
  exact ⟨rfl, rfl, rfl, rfl⟩

/-- What answers the requests of before the start leaves firmware and the engine, and drops the lost ones. -/
theorem State.answersAtStart_keeps {s : State} (h : s.tci.rung = []) (old : State) (p : Nat × Req → Bool) :
    (State.noteFrom old (s.storeWaiting.answerLost.answerRefused.runRung p)).fw = s.fw
    ∧ (State.noteFrom old (s.storeWaiting.answerLost.answerRefused.runRung p)).bn = s.bn
    ∧ (State.noteFrom old (s.storeWaiting.answerLost.answerRefused.runRung p)).tci.lost = [] := by
  obtain ⟨hfw, hbn, hrung⟩ := s.storeWaiting.answerLost_keeps
  obtain ⟨hfw', hbn', hrung', hlost'⟩ := s.storeWaiting.answerLost.answerRefused_keeps
  have hstored : s.storeWaiting.fw = s.fw ∧ s.storeWaiting.bn = s.bn ∧ s.storeWaiting.tci = s.tci := by
    rw [State.storeWaiting_within.eq]
    exact ⟨rfl, rfl, rfl⟩
  obtain ⟨hfw0, hbn0, htci0⟩ := hstored
  rw [State.runRung_of_none (hrung'.trans (hrung.trans ((congrArg _ htci0).trans h))), reports_noteFrom]
  exact ⟨hfw'.trans (hfw.trans hfw0), hbn'.trans (hbn.trans hbn0), hlost'.trans s.storeWaiting.answerLost_lost⟩

/-- Firmware has its processor: what it sets before it posts its start (R395, R568). -/
def State.firmwareUp (s : State) : State :=
  { (s.entropy 128).2 with
    fw := { (s.entropy 128).2.fw with running := true, everStarted := true, startTick := (s.entropy 128).2.time.tick }
    bn := { (s.entropy 128).2.bn with enabled := true, draining := false }
    ts := { (s.entropy 128).2.ts with hashSeed := (s.entropy 128).1 }
    flt := { (s.entropy 128).2.flt with
      takeAt := none
      takeStart := if (s.entropy 128).2.flt.takeAt.isSome then some (s.entropy 128).2.time.tick else (s.entropy 128).2.flt.takeStart } }

/-- The state with its banks loaded at the start, when they were not. -/
def State.firmwareLoaded (s : State) : State :=
  if s.banks.loaded then s.firmwareUp.postStart else s.firmwareUp.postStart.loadAtStart.readMirror.loadCache

theorem State.firmwareLoaded_starting {s : State} : Within State.starting s.firmwareUp s.firmwareLoaded :=
  .ite State.postStart_starting (State.loads_starting.after State.postStart_starting)

theorem execFwStarted_eq {dt : Nat} {s : State} (hcore : (s.advance dt).coreRuns = true)
    (hstopped : (s.advance dt).fw.running = false) (himage : (s.advance dt).fw.imageOk = true) :
    exec (.fwStarted dt) s = .next (State.noteFrom (s.advance dt)
      ((s.advance dt).firmwareLoaded.storeWaiting.answerLost.answerRefused.runRung (fun _ => true))) := by
  refine congrArg Host.Outcome.next (if_neg ?_)
  rw [hcore, hstopped, himage]
  decide

/-- Firmware starts: it has its processor, the big-number engine is on, and what was lost with the last run is answered (R395). -/
theorem execFwStarted_of_image {dt : Nat} {s : State} (hcore : (s.advance dt).coreRuns = true)
    (hstopped : (s.advance dt).fw.running = false) (himage : (s.advance dt).fw.imageOk = true) (hrung : (s.advance dt).tci.rung = []) :
    CompletesWith (exec (.fwStarted dt) s) (fun t => t.fw.running = true ∧ t.fw.everStarted = true
      ∧ t.fw.startTick = (s.advance dt).time.tick ∧ t.bn.enabled = true ∧ t.tci.lost = []) := by
  refine ⟨_, execFwStarted_eq hcore hstopped himage, ?_⟩
  generalize s.advance dt = u at hrung ⊢
  have hform := u.firmwareLoaded_starting.eq
  have hfw : u.firmwareLoaded.fw = u.firmwareUp.fw := by rw [hform]; rfl
  have hbn : u.firmwareLoaded.bn = u.firmwareUp.bn := by rw [hform]; rfl
  have hrung' : u.firmwareLoaded.tci.rung = [] := by rw [hform]; exact hrung
  obtain ⟨hfw', hbn', hlost⟩ := State.answersAtStart_keeps hrung' u (fun _ => true)
  rw [hfw', hbn', hfw, hbn]
  exact ⟨rfl, rfl, rfl, rfl, hlost⟩

/-! ### Presses and the window -/

theorem State.respond_answers {q : Req} {k opcode status : Nat} {payload : Fields} {s : State} (hsrc : q.src = .host k) :
    ((s.respond q opcode status payload).mailbox k).resp = some { opcode := opcode, seq := q.seq, status := status, payload := payload }
      ∧ ((s.respond q opcode status payload).mailbox k).state = .done := by
  rw [State.respond_host hsrc]
  obtain ⟨hstate, hresp⟩ := mailbox_writeResponse k q.quiet { opcode := opcode, seq := q.seq, status := status, payload := payload } s
  exact ⟨hresp, hstate⟩

/-- A response leaves the window, the in-band path and the seal alone. -/
theorem State.respond_keeps {q : Req} {opcode status : Nat} {payload : Fields} {s : State} :
    (s.respond q opcode status payload).win = s.win ∧ (s.respond q opcode status payload).inb = s.inb
      ∧ (s.respond q opcode status payload).sealLoop = s.sealLoop := by
  rw [State.respond_within.eq]
  exact ⟨rfl, rfl, rfl⟩

/-- The event of a window that closed leaves all but interrupts, events and the trace. -/
theorem noteFrom_postWindow (old : State) (opcode status : Nat) (s : State) :
    Reports s (State.noteFrom old (s.postWindow opcode status)) :=
  (reports_post _ _ s).trans (reports_noteFrom old _)

theorem Reports.units {s t : State} (h : Reports s t) :
    t.win = s.win ∧ t.inb = s.inb ∧ t.sealLoop = s.sealLoop ∧ t.tci = s.tci := by
  rw [h]
  exact ⟨rfl, rfl, rfl, rfl⟩

theorem Reports.win {s t : State} (h : Reports s t) : t.win = s.win := h.units.1

theorem Reports.tci {s t : State} (h : Reports s t) : t.tci = s.tci := h.units.2.2.2

theorem press_of_cmdsSystem : cmdsSystem.Forall fun c => c.opcode = 0x010A ∨ c.opcode = 0x010B ∨ c.press = fun _ _ => none := by
  refine ⟨?_, ?_, ?_, ?_, ?_, ?_, ?_, ?_, ?_, .inl rfl, .inr (.inl rfl), ?_, ?_⟩
  all_goals exact .inr (.inr rfl)

/-- Only the seal's provision and the factory default can be stopped at their press (R423, R424). -/
theorem press_of_catalogue : catalogue.Forall fun c => c.opcode = 0x010A ∨ c.opcode = 0x010B ∨ c.press = fun _ _ => none := by
  simp only [catalogue, List.forall_append]
  refine ⟨⟨⟨⟨⟨⟨⟨⟨⟨⟨⟨⟨⟨⟨press_of_cmdsSystem, ?_⟩, ?_⟩, ?_⟩, ?_⟩, ?_⟩, ?_⟩, ?_⟩, ?_⟩, ?_⟩, ?_⟩, ?_⟩, ?_⟩, ?_⟩, ?_⟩
  all_goals
    repeat' apply And.intro
    all_goals exact .inr (.inr rfl)

theorem press_of_other {opcode : Nat} (hseal : opcode ≠ 0x010A) (hfactory : opcode ≠ 0x010B) (q : Req) (s : State) :
    (commandOf opcode).bind (fun c => c.press q s) = none := by
  cases hc : commandOf opcode with
  | none => rfl
  | some c =>
    have hmem : c ∈ catalogue := List.mem_of_find?_eq_some hc
    have hop : c.opcode = opcode := by simpa using List.find?_some hc
    rcases List.forall_iff_forall_mem.1 press_of_catalogue c hmem with h | h | h
    · exact absurd (hop ▸ h) hseal
    · exact absurd (hop ▸ h) hfactory
    · exact congrFun (congrFun h q) s

/-- The window, shut by a qualified press. -/
def State.windowShut (s : State) : State := { s with win := { s.win with state := .closed, held := none, pressIn := false } }

theorem State.qualify_stopped {w : Wait} {status : Nat} {s : State}
    (h : (commandOf w.opcode).bind (fun c => c.press w.req s.windowShut) = some status) :
    s.qualify w = State.noteFrom s ((s.windowShut.respond w.req w.opcode status []).postWindow w.opcode status) := by
  show State.noteFrom s (match (commandOf w.opcode).bind (fun c => c.press w.req s.windowShut) with
    | some status => _ | none => _) = _
  rw [h]
  rfl

theorem State.qualify_suspended {w : Wait} {s : State} (h : (commandOf w.opcode).bind (fun c => c.press w.req s.windowShut) = none)
    (hsusp : w.suspended s = true) :
    s.qualify w = State.noteFrom s
      (({ s.windowShut with win := { s.windowShut.win with actions := s.win.actions ++ [w] } } : State).postWindow w.opcode stAttendPending) := by
  show State.noteFrom s (match (commandOf w.opcode).bind (fun c => c.press w.req s.windowShut) with
    | some status => _ | none => _) = _
  rw [h]
  exact congrArg _ (if_pos hsusp)

theorem State.qualify_acts {w : Wait} {status : Nat} {s t : State}
    (h : (commandOf w.opcode).bind (fun c => c.press w.req s.windowShut) = none) (hsusp : w.suspended s = false)
    (hact : s.windowShut.actOn w = (some status, t)) : s.qualify w = State.noteFrom s (t.postWindow w.opcode status) := by
  show State.noteFrom s (match (commandOf w.opcode).bind (fun c => c.press w.req s.windowShut) with
    | some status => _ | none => _) = _
  rw [h]
  refine congrArg _ ((if_neg (Bool.eq_false_iff.1 hsusp)).trans ?_)
  show (match s.windowShut.actOn w with
    | (some status, s2) => s2.postWindow w.opcode status
    | (none, s2) => s2.closeLater w.opcode) = _
  rw [hact]

theorem Wait.suspended_of_no_warn (w : Wait) {s : State} (h : s.plat.warn = false) : w.suspended s = false := by
  simp [Wait.suspended, h]

/-- `SYS_INBAND_SET` at its press opens the in-band path (R418). -/
theorem State.actOn_inbandSet {w : Wait} (h : w.opcode = 0x0105) (s : State) :
    s.actOn w = (some stOk, ({ s with inb := { s.inb with enable := true } } : State).respond w.req w.opcode stOk []) := by
  have hc : commandOf w.opcode = some cmdSysInbandSet := by rw [h]; rfl
  simp only [State.actOn, hc]
  rfl

/-- The press under way, counted once its 200 ms are over (R402). -/
def State.pressCounted (s : State) : State := { s with win := { s.win with counted := true } }

/-- A press qualifies the action of the open window. -/
theorem execPressQualified_acts {dt : Nat} {w : Wait} {s : State} (hpresent : (s.advance dt).win.present = true)
    (hcounted : (s.advance dt).win.counted = false) (hlong : (s.advance dt).win.pressAt + 200 * tickMs ≤ (s.advance dt).time.tick)
    (hstate : (s.advance dt).win.state = .pressing) (hstands : (s.advance dt).windowStands = true)
    (hheld : (s.advance dt).win.held = some w) :
    exec (.pressQualified dt) s = .next ((s.advance dt).pressCounted.qualify w) := by
  generalize hu : s.advance dt = u at *
  show execPressQualified dt s = _
  have hnot : ¬((!u.win.present) = true ∨ u.win.counted = true ∨ u.time.tick < u.win.pressAt + 200 * tickMs) := by
    simp only [hpresent, hcounted, Bool.not_true, Bool.false_eq_true, false_or, not_lt]
    exact hlong
  rw [execPressQualified, hu]
  refine congrArg Host.Outcome.next ((if_neg hnot).trans ?_)
  show (match u.pressCounted.win.state, u.pressCounted.win.held with
    | .pressing, some w => if u.pressCounted.windowStands then u.pressCounted.qualify w else u
    | .closed, _ => _
    | _, _ => _) = _
  rw [show u.pressCounted.win.state = .pressing from hstate, show u.pressCounted.win.held = some w from hheld]
  exact if_pos hstands

/-! ### The seal -/

theorem State.finishAll_keys (p : Wait → Bool) (status : Nat) (payload : Wait → Fields) (s : State) :
    (s.finishAll p status payload).keys = s.keys ∧ (s.finishAll p status payload).ts = s.ts
      ∧ (s.finishAll p status payload).sealLoop = s.sealLoop := by
  rw [State.finishAll_within.eq]
  exact ⟨rfl, rfl, rfl⟩

theorem State.stopJobs_keys (p : BnJob → Bool) (status : Nat) (aborted : Bool) (s : State) :
    (s.stopJobs p status aborted).keys = s.keys ∧ (s.stopJobs p status aborted).sealLoop = s.sealLoop := by
  rw [State.stopJobs_within.eq]
  exact ⟨rfl, rfl⟩

/-- Zeroising blanks every key slot and what was made from keys (R478). -/
theorem State.zeroiseKeys_blanks (cause : Nat) (s : State) :
    (s.zeroiseKeys cause).keys
        = { s.keys with slot := s.keys.slot.mapVal KeySlot.blank, cache := [], writes := [], mirror := none, salt := false, erase := true }
    ∧ (s.zeroiseKeys cause).ts.cookies = [] ∧ (s.zeroiseKeys cause).sealLoop = s.sealLoop := by
  unfold State.zeroiseKeys
  dsimp only
  obtain ⟨hkeys, hseal⟩ := State.stopJobs_keys BnJob.keyed stSealBroken false s
  rw [reports_post]
  refine ⟨(State.finishAll_keys _ _ _ _).1.trans ?_, ?_, ?_⟩
  · rw [← hkeys]
  · exact congrArg TsS.cookies (State.finishAll_keys _ _ _ _).2.1
  · exact (State.finishAll_keys _ _ _ _).2.2.trans hseal

theorem State.endWait_keys (w : Wait) (status : Nat) (payload : Fields) (s : State) :
    ((s.endWait w status payload).keys, (s.endWait w status payload).ts, (s.endWait w status payload).sealLoop)
      = (s.keys, s.ts, s.sealLoop) := by
  rw [State.endWait_within.eq]
  rfl

/-- A break of the armed seal latches, in RAM and in flash, and blanks the keys (R423, R478). -/
theorem State.breakSeal_breaks {s : State} (harmed : s.sealLoop.armed = true) (hbroken : s.sealBroken = false) :
    s.breakSeal.sealLoop = { s.sealLoop with latch := true, flash := true }
    ∧ s.breakSeal.keys
        = { s.keys with slot := s.keys.slot.mapVal KeySlot.blank, cache := [], writes := [], mirror := none, salt := false, erase := true }
    ∧ s.breakSeal.ts.cookies = [] := by
  unfold State.breakSeal
  rw [if_neg (by simp [harmed, hbroken])]
  dsimp only [State.postSeal]
  rw [reports_noteFrom, reports_post]
  dsimp only
  rw [(Notes.refl _).condition 0x30 15 6 0]
  dsimp only
  generalize hz : State.zeroiseKeys 1 _ = z
  obtain ⟨hkeys, hcookies, hseal⟩ := State.zeroiseKeys_blanks 1 { s with
    sealLoop := { s.sealLoop with latch := true, flash := true }
    win := { s.win with actions := s.win.actions.filter (fun w => !(w.opcode / 256 == 0x0C)) } }
  rw [hz] at hkeys hcookies hseal
  have hfold := foldl_keeps (fun t => (t.keys, t.ts, t.sealLoop)) (fun t w => t.endWait w stSealBroken [])
    (s.win.actions.filter (fun w => w.opcode / 256 == 0x0C)) z (fun t w => State.endWait_keys w _ _ t)
  obtain ⟨hk, hts, hs⟩ : _ ∧ _ ∧ _ := ⟨congrArg (·.1) hfold, congrArg (·.2.1) hfold, congrArg (·.2.2) hfold⟩
  exact ⟨hs.trans hseal, hk.trans hkeys, (congrArg TsS.cookies hts).trans hcookies⟩

theorem SealS.check_opens {l : SealS} {tick : Nat} {b : Bool} (hclosed : l.closed = true) (hb : b ≠ l.drive tick) :
    l.check tick b = { l with closed := false, closedAt := tick, missAt := tick } := by
  rw [SealS.check, if_neg hb, if_pos hclosed]

theorem SealS.check_closes {l : SealS} {tick : Nat} {b : Bool} (hopen : l.closed = false) (hb : b = l.drive tick)
    (hdue : l.missAt + tickMs ≤ tick) : l.check tick b = { l with closed := true, closedAt := tick } := by
  rw [SealS.check, if_pos hb, if_pos ⟨by simp [hopen], hdue⟩]

theorem SealS.check_stays {l : SealS} {tick : Nat} {b : Bool} (hclosed : l.closed = true) (hb : b = l.drive tick) :
    l.check tick b = l := by
  rw [SealS.check, if_pos hb, if_neg (by simp [hclosed])]

theorem execSealClosedChange_one {dt : Nat} {b : Bool} {s : State} (htick : (s.advance dt).time.tick % sealPeriod = 0) :
    exec (.sealClosedChange dt [b]) s
      = .next (if ((s.advance dt).sealLoop.check (s.advance dt).time.tick b).closed = (s.advance dt).sealLoop.closed then
          { s.advance dt with sealLoop := (s.advance dt).sealLoop.check (s.advance dt).time.tick b }
        else ({ s.advance dt with sealLoop := (s.advance dt).sealLoop.check (s.advance dt).time.tick b } : State).postSeal) := by
  generalize hu : s.advance dt = u at *
  have hlast : u.time.tick / sealPeriod * sealPeriod - ([b].length - 1) * sealPeriod = u.time.tick := by
    have hdiv := Nat.div_add_mod u.time.tick sealPeriod
    rw [Nat.mul_comm, htick] at hdiv
    simpa using hdiv
  show execSealClosedChange dt [b] s = _
  simp only [execSealClosedChange, hu, hlast, SealS.checks]

/-- Settles O38: each March step, start, press and seal check on the state in which its condition holds; what the shared operations
(responses, events, faults) leave alone is theirs. -/
theorem startAndPresenceEvents : Obligations.StartAndPresenceEvents := by
  unfold Obligations.StartAndPresenceEvents
  refine ⟨?first, ?fifth, ?inReset, ?slot, ?recovery, ?start, ?running, ?confirm, ?unconfirmed, ?press, ?pressOpen, ?noPress,
    ?release, ?releaseOpen, ?noRelease, ?stray, ?suspended, ?inband, ?unsealed, ?expire, ?noWindow, ?resume, ?warned, ?breaks,
    ?unarmed, ?closed, ?erase, ?noBack, ?opens, ?closes, ?stays⟩
  case first =>
    rintro dt s _ rfl hreset hstep hmarch
    generalize hu : s.advance dt = u at *
    show execMarchStep dt s = _
    simp only [execMarchStep, hu, hreset, hstep, Option.isSome_none, Bool.false_eq_true, if_false, if_true, State.tryMarch,
      hmarch, State.startStep]
  case fifth =>
    rintro dt s _ rfl hreset hstep hdone
    refine ⟨_, congrArg Host.Outcome.next ((if_neg (by rw [hreset]; decide)).trans (if_neg (by omega))), ?_⟩
    generalize s.advance dt = u at *
    dsimp only
    rw [if_pos (State.stepEnds_five hstep hdone), State.completeStep_five hstep]
    split_ifs
    · obtain ⟨hsteps, hus⟩ := State.startStep_keeps_steps (k := u.plat.step + 1) (by omega) { u with
        plat := { u.plat with stepsDone := 5, doneUs := Tbl.put u.plat.doneUs 5 ((u.time.tick - u.plat.marchT0) / tickUs) } }
      exact ⟨hsteps, (congrArg (Tbl.get? · 5) hus).trans (by rw [Tbl.get?_put, if_pos rfl])⟩
    · exact ⟨rfl, by rw [Tbl.get?_put, if_pos rfl]⟩
  case inReset =>
    rintro dt s _ rfl h
    exact congrArg Host.Outcome.next (if_pos (Option.isSome_iff_ne_none.2 h))
  case slot =>
    rintro dt s u slot hu hcore hstopped himage hrecovery htake hchoice rfl
    refine ⟨_, rfl, ?_⟩
    simp [hu, hcore, hstopped, himage, hrecovery, htake, hchoice]
  case recovery =>
    intro dt s u hu hcore hstopped himage hrecovery htake hchoice hrung
    obtain ⟨hfw, -, htci⟩ := State.fault_keeps (code := 0x06) (master := 2) (access := 4) (address := 0)
      (s := { u with fw := { u.fw with recovery := true } })
    refine ⟨(({ u with fw := { u.fw with recovery := true } } : State).fault 0x06 2 4 0).runRung
      (fun e => decide (e.2.src = Src.host 0)), ?_, ?_⟩
    · show execBootImageSelect dt s = _
      have hnot : ¬((!u.coreRuns) = true ∨ u.fw.running = true ∨ u.fw.imageOk = true ∨ u.fw.recovery = true
          ∨ u.flt.takeAt.isSome = true) := by
        simp [hcore, hstopped, himage, hrecovery, htake]
      rw [execBootImageSelect, hu]
      exact congrArg Host.Outcome.next ((if_neg hnot).trans (by rw [hchoice]))
    exact (congrArg State.fw (State.runRung_of_none ((congrArg TciS.rung htci).trans hrung))).trans hfw
  case start =>
    rintro dt s _ rfl hcore hstopped himage hrung
    exact execFwStarted_of_image hcore hstopped himage hrung
  case running =>
    rintro dt s _ rfl h
    exact congrArg Host.Outcome.next (if_pos (.inr (.inl h)))
  case confirm =>
    rintro dt s _ rfl hrun hdue
    exact congrArg Host.Outcome.next (if_pos ⟨hrun, hdue⟩)
  case unconfirmed =>
    rintro dt s _ rfl h
    exact congrArg Host.Outcome.next (if_neg (by omega))
  case press =>
    intro pin s u hu hpresent hdeb hstands
    show execPresentPressStart pin s = _
    simp [execPresentPressStart, hu, hpresent, hdeb, hstands]
  case pressOpen =>
    intro pin s u w hu hpresent hdeb hstands hheld
    refine ⟨_, rfl, ?_⟩
    simp only [hu, hpresent, hdeb, hstands, hheld, Bool.not_true, Bool.false_eq_true, or_self, if_false]
    exact ⟨(noteFrom_postWindow u w.opcode stAttendPending _).win, (noteFrom_postWindow u w.opcode stAttendPending _).tci⟩
  case noPress =>
    rintro pin s _ rfl h
    exact congrArg Host.Outcome.next (if_pos (.inr (by rw [h]; rfl)))
  case release =>
    intro pin s u hu hpresent hdeb hstate
    show execPresentRelease pin s = _
    cases hwin : u.win.state with
    | pressing => exact absurd hwin hstate
    | closed => simp [execPresentRelease, hu, hpresent, hdeb, hwin]
    | opened => simp [execPresentRelease, hu, hpresent, hdeb, hwin]
  case releaseOpen =>
    intro pin s u w hu hpresent hdeb hstate hheld
    refine ⟨_, rfl, ?_⟩
    simp only [hu, hpresent, hdeb, hstate, hheld, Bool.not_true, Bool.false_eq_true, or_self, if_false]
    exact ⟨(noteFrom_postWindow u w.opcode stAttendPending _).win, (noteFrom_postWindow u w.opcode stAttendPending _).tci⟩
  case noRelease =>
    rintro pin s _ rfl h
    exact congrArg Host.Outcome.next (if_pos (.inr (by rw [h]; rfl)))
  case stray =>
    intro dt s u hu hpresent hcounted hlong hstate
    show execPressQualified dt s = _
    have hshort : ¬u.time.tick < u.win.pressAt + 200 * tickMs := by omega
    simp [execPressQualified, hu, hpresent, hcounted, hshort, hstate]
  case suspended =>
    rintro dt s _ w rfl hpresent hcounted hlong hstate hstands hheld hsusp hseal hfactory
    refine ⟨_, execPressQualified_acts hpresent hcounted hlong hstate hstands hheld, ?_⟩
    generalize s.advance dt = u at *
    rw [State.qualify_suspended (press_of_other hseal hfactory _ _) (show w.suspended u.pressCounted = true from hsusp)]
    obtain ⟨hwin, -, -, htci⟩ := (noteFrom_postWindow u.pressCounted w.opcode stAttendPending { u.pressCounted.windowShut with
      win := { u.pressCounted.windowShut.win with actions := u.pressCounted.win.actions ++ [w] } }).units
    rw [hwin, htci]
    exact ⟨rfl, rfl, rfl, rfl⟩
  case inband =>
    rintro dt s _ w k rfl hpresent hcounted hlong hstate hstands hheld hop hsrc hwarn
    refine ⟨_, execPressQualified_acts hpresent hcounted hlong hstate hstands hheld, ?_⟩
    generalize s.advance dt = u at *
    rw [State.qualify_acts (press_of_other (by rw [hop]; decide) (by rw [hop]; decide) _ _)
      (w.suspended_of_no_warn (s := u.pressCounted) hwarn) (State.actOn_inbandSet hop _)]
    obtain ⟨hwin, hinb, -, htci⟩ := (noteFrom_postWindow u.pressCounted w.opcode stOk
      (({ u.pressCounted.windowShut with inb := { u.pressCounted.windowShut.inb with enable := true } } : State).respond w.req w.opcode stOk [])).units
    obtain ⟨hwin', hinb', -⟩ := State.respond_keeps (q := w.req) (opcode := w.opcode) (status := stOk) (payload := [])
      (s := { u.pressCounted.windowShut with inb := { u.pressCounted.windowShut.inb with enable := true } })
    rw [hwin, hwin', hinb, hinb', State.mailbox, htci]
    exact ⟨rfl, rfl, rfl, hop ▸ (State.respond_answers hsrc).1⟩
  case unsealed =>
    rintro dt s _ w k rfl hpresent hcounted hlong hstate hstands hheld hop hsrc hready
    refine ⟨_, execPressQualified_acts hpresent hcounted hlong hstate hstands hheld, ?_⟩
    generalize s.advance dt = u at *
    have hstopped : (commandOf w.opcode).bind (fun c => c.press w.req u.pressCounted.windowShut) = some stNotPermitted := by
      have hc : commandOf w.opcode = some cmdSysSealProvision := by rw [hop]; rfl
      rw [hc]
      exact if_neg (Bool.eq_false_iff.1 (show u.pressCounted.windowShut.sealReady = false from hready))
    rw [State.qualify_stopped hstopped]
    obtain ⟨hwin, -, hseal, htci⟩ := (noteFrom_postWindow u.pressCounted w.opcode stNotPermitted
      (u.pressCounted.windowShut.respond w.req w.opcode stNotPermitted [])).units
    obtain ⟨hwin', -, hseal'⟩ := State.respond_keeps (q := w.req) (opcode := w.opcode) (status := stNotPermitted) (payload := [])
      (s := u.pressCounted.windowShut)
    rw [hwin, hwin', hseal, hseal', State.mailbox, htci]
    exact ⟨rfl, rfl, rfl, hop ▸ (State.respond_answers hsrc).1⟩
  case expire =>
    rintro dt s _ w k rfl hstate hdue hheld hsrc
    refine ⟨_, congrArg Host.Outcome.next (if_pos ⟨hstate, hdue⟩), ?_⟩
    generalize s.advance dt = u at *
    simp only [State.closeWindow, hheld]
    change (fun t : State => t.win = u.windowShut.win ∧ (t.mailbox k).resp = some _ ∧ (t.mailbox k).state = .done)
      (State.noteFrom u ((u.windowShut.respond w.req w.opcode stAttendExpired []).postWindow w.opcode stAttendExpired))
    obtain ⟨hwin, -, -, htci⟩ := (noteFrom_postWindow u w.opcode stAttendExpired
      (u.windowShut.respond w.req w.opcode stAttendExpired [])).units
    show _ ∧ _ ∧ _
    rw [hwin, State.mailbox, htci]
    exact ⟨State.respond_keeps.1, State.respond_answers hsrc⟩
  case noWindow =>
    rintro dt s _ rfl h
    exact congrArg Host.Outcome.next (if_neg fun hc => hc.1 h)
  case resume =>
    rintro dt s u w k rest hu hactions hwarn hrun hop hsrc
    refine ⟨_, rfl, ?_⟩
    simp only [hu, hactions, hwarn, hrun, true_or, decide_true, Bool.not_true, Bool.false_eq_true, or_self, if_false]
    rw [State.actOn_inbandSet hop]
    obtain ⟨hwin, hinb, -⟩ := State.respond_keeps (q := w.req) (opcode := w.opcode) (status := stOk) (payload := [])
      (s := { u with win := { u.win with actions := rest }, inb := { u.inb with enable := true } })
    exact ⟨hwin, (congrArg InbS.enable hinb), hop ▸ (State.respond_answers hsrc).1⟩
  case warned =>
    intro dt s u hu h
    show execAttendActionResume dt s = _
    cases hactions : u.win.actions <;> simp [execAttendActionResume, hu, hactions, h]
  case breaks =>
    rintro dt s _ rfl harmed hbroken hopen hdue
    have hnow : (s.advance dt).sealLoop.broken (s.advance dt).time.tick = true := by
      rw [SealS.broken, hopen]
      exact decide_eq_true hdue
    exact ⟨_, congrArg Host.Outcome.next (if_pos hnow), State.breakSeal_breaks harmed hbroken⟩
  case unarmed =>
    rintro dt s _ rfl h
    refine congrArg Host.Outcome.next ((if_congr Iff.rfl ?_ rfl).trans (ite_self _))
    exact if_pos (.inl (by rw [h]; rfl))
  case closed =>
    rintro dt s _ rfl h
    exact congrArg Host.Outcome.next (if_neg (by rw [SealS.broken, h]; exact Bool.false_ne_true))
  case erase =>
    rintro dt s _ rfl h1 h2 h3 h4
    exact congrArg Host.Outcome.next (if_pos ⟨h1, by rw [h2]; rfl, by rw [h3]; rfl, h4⟩)
  case noBack =>
    rintro dt _ s _ rfl rfl
    exact congrArg Host.Outcome.next (if_pos rfl)
  case opens =>
    rintro dt _ s _ b rfl rfl htick hclosed hb
    refine ⟨_, execSealClosedChange_one htick, ?_⟩
    generalize s.advance dt = u at *
    rw [SealS.check_opens hclosed hb, if_neg (by simp [hclosed])]
    exact reports_post _ _ _
  case closes =>
    rintro dt _ s _ b rfl rfl htick hopen hb hdue
    refine ⟨_, execSealClosedChange_one htick, ?_⟩
    generalize s.advance dt = u at *
    rw [SealS.check_closes hopen hb hdue, if_neg (by simp [hopen])]
    exact reports_post _ _ _
  case stays =>
    rintro dt _ s _ b rfl rfl htick hclosed hb
    refine (execSealClosedChange_one htick).trans ?_
    rw [SealS.check_stays hclosed hb]
    exact congrArg Host.Outcome.next (if_pos rfl)

end Sys2Proof.Machine
end

section
/-!
SUPPORT. O39: pace gates, time steps, slews and leap seconds.
-/
namespace Sys2Proof.Machine
set_option Elab.async false -- one declaration after the other: fewer threads at once

/-- The pace gate that closes writes its readings and may post warnings; with no port run dry nothing else moves (R33, R37). -/
theorem execPaceGateClose_dry {dt : Nat} {readings : PaceReadings} {tj : Int} {s u : State} (hu : s.advance dt = u)
    (hstep : 5 ≤ u.plat.step) (hdue : u.paceGateDue = true) (hdry : readings.dry = []) :
    CompletesWith (exec (.paceGateClose dt readings tj) s) (Reports { u with pace :=
      { u.pace.gate (paceUnits.map (fun k => (k, paceHeadroom k ((nth readings.counts k).getD 0)))) (clamp (-128) 127 tj) with
        gateAt := u.time.tick } }) := by
  have hgo : ¬(u.plat.step < 5 ∨ (!u.paceGateDue) = true) := by
    simpa [hdue] using hstep
  refine ⟨_, rfl, ?_⟩
  simp only [hu, if_neg hgo, hdry, List.filter_nil, List.foldl_nil]
  split_ifs
  · exact (reports_post _ _ _).trans (reports_post _ _ _)
  · exact reports_post _ _ _
  · exact reports_post _ _ _
  · exact Reports.refl _

theorem State.leapMoved_keeps (s : State) : s.leapMoved.time = s.time ∧ s.leapMoved.cue = s.cue := by
  rw [State.leapMoved_within.eq]
  exact ⟨rfl, rfl⟩

theorem State.stepRefs_keeps (delta : Int) (s : State) : (s.stepRefs delta).time = s.time ∧ (s.stepRefs delta).cue = s.cue := by
  have hfold := foldl_keeps (fun t => (t.time, t.cue)) (fun t r =>
    if freqOnly (t.banks.active.refType r) then t else t.updRef r (fun x => { x with phase := x.phase.map (· - delta) }))
    refList s (fun t r => by split_ifs <;> rfl)
  exact ⟨congrArg (·.1) hfold, congrArg (·.2) hfold⟩

theorem State.afterStep_keeps (stepped : Bool) (c : Sched) (s : State) :
    (s.afterStep stepped c).time = s.time ∧ (s.afterStep stepped c).cue = s.cue := by
  rw [State.afterStep_within.eq]
  exact ⟨rfl, rfl⟩

theorem State.time_answerStep (c : Sched) (delta : Int) (slewed : Bool) (s : State) : (s.answerStep c delta slewed).time = s.time := by
  rw [State.answerStep_within.eq]
  rfl

/-- With no row armed a step of the clock leaves the cues alone. -/
theorem State.stepCues_of_none {old : Int} {s : State} (h : s.armedRows = []) : s.stepCues old = s := by
  simp [State.stepCues, h]

/-- A step of the clock steps its time and nothing of it besides (R71). -/
theorem State.time_applyStep {c : Sched} {delta : Int} {s : State} (h : s.armedRows = []) :
    (s.applyStep c delta).time = s.time.stepBy delta := by
  unfold State.applyStep
  dsimp only
  rw [State.time_answerStep]
  obtain ⟨hlt, hlc⟩ := ({ s with time := s.time.stepBy delta } : State).leapMoved_keeps
  have hpost : ∀ {b : Bool} {v : State} {p : Fields}, (if b then v.post 0x0501 p else v).time = v.time
      ∧ (if b then v.post 0x0501 p else v).cue = v.cue := by
    intro b v p
    split_ifs
    · rw [reports_post]
      exact ⟨rfl, rfl⟩
    · exact ⟨rfl, rfl⟩
  generalize hw : (if s.time.valid = true then _ else _ : State) = w
  have hwk : w.time = s.time.stepBy delta ∧ w.cue = s.cue := by
    rw [← hw]
    exact ⟨hpost.1.trans hlt, hpost.2.trans hlc⟩
  obtain ⟨hrt, hrc⟩ := w.stepRefs_keeps delta
  obtain ⟨hat, hac⟩ := (State.stepJobs s (w.stepRefs delta)).stepOutputs.afterStep_keeps true c
  have hrows : ((State.stepJobs s (w.stepRefs delta)).stepOutputs.afterStep true c).armedRows = [] := by
    rw [State.armedRows, hac]
    exact (congrArg (fun x : CueS => x.rows.filter (fun e : Nat × Row => !e.2.template)) (hrc.trans hwk.2)).trans h
  rw [State.stepCues_of_none hrows, hat]
  exact hrt.trans hwk.1

/-- Settles O39: what a gate, a step, a slew or a leap event writes, and what of it the operations after it leave alone. -/
theorem timeEvents : Obligations.TimeEvents := by
  unfold Obligations.TimeEvents
  refine ⟨?noGate, ?gate, ?step, ?noStep, ?slew, ?noSlew, ?slewEnd, ?leap, ?noLeap, ?pending, ?persist, ?warned⟩
  case noGate =>
    rintro dt readings tj s _ rfl h
    exact congrArg Host.Outcome.next (if_pos (h.imp id fun h => by rw [h]; rfl))
  case gate =>
    intro dt readings tj s u hu hstep hdue hdry
    obtain ⟨t, ht, hreports⟩ := execPaceGateClose_dry (tj := tj) hu hstep hdue hdry
    have hpace := congrArg State.pace hreports
    dsimp only at hpace
    refine ⟨t, ht, hpace, ?_, ?_, ?_, ?_⟩
    · rw [hpace]; rfl
    · rw [hpace]; rfl
    · rw [hpace]; rfl
    · rw [hpace]; exact hreports
  case step =>
    intro dt s u c hu hdue hsteps hrows
    refine ⟨State.settleTiming u ((u.takeSched c).applyStep c (u.schedDelta c)), ?_, ?_⟩
    · show execTimeStepApply dt s = _
      simp only [execTimeStepApply, hu, hdue, hsteps, if_true]
    · have htime : (State.settleTiming u ((u.takeSched c).applyStep c (u.schedDelta c))).time
          = ({ u.time with scheds := u.time.scheds.erase c } : TimeS).stepBy (u.schedDelta c) :=
        (State.settleTiming_keeps _ _).1.trans (State.time_applyStep hrows)
      exact ⟨htime, by rw [htime]; rfl, by rw [htime]; rfl, by rw [htime]; rfl⟩
  case noStep =>
    intro dt s u hu h
    show execTimeStepApply dt s = _
    simp only [execTimeStepApply, hu, h]
  case slew =>
    intro dt s u c hu hdue hsteps hvalid hsrc
    refine ⟨State.settleTiming u ((u.takeSched c).startSched c), ?_, ?_⟩
    · show execSlewStart dt s = _
      simp only [execSlewStart, hu, hdue, hsteps, Bool.false_eq_true, if_false]
    · have htime : (State.settleTiming u ((u.takeSched c).startSched c)).time
          = ({ u.time with scheds := u.time.scheds.erase c } : TimeS).startSlew (u.schedDelta c) u.banks.active.slopeLimit := by
        rw [(State.settleTiming_keeps _ _).1, State.startSched, if_neg fun h => hsrc h.1]
        dsimp only
        rw [State.time_answerStep, (State.afterStep_keeps _ _ _).1]
        exact congrArg State.time (if_pos hvalid)
      refine ⟨htime, ?_⟩
      rw [htime]
      unfold TimeS.startSlew
      dsimp only
      split_ifs <;> rfl
  case noSlew =>
    intro dt s u hu h
    show execSlewStart dt s = _
    simp only [execSlewStart, hu, h]
  case slewEnd =>
    rintro dt s _ rfl hactive hrem
    exact congrArg Host.Outcome.next (if_pos ⟨hactive, hrem⟩)
  case leap =>
    intro dt s u hu hpending hat hnone
    refine ⟨_, rfl, ?_⟩
    simp only [hu, if_pos (And.intro hpending hat), State.leapFlags, hnone]
    rw [reports_post]
    exact ⟨rfl, rfl⟩
  case noLeap =>
    rintro dt s _ rfl h
    exact congrArg Host.Outcome.next (if_neg fun hc => Bool.eq_false_iff.1 h hc.1)
  case pending =>
    intro dt s u sec off before hu h
    show execLeapPendingStart dt s = _
    simp only [execLeapPendingStart, hu, h, Option.isSome_some, if_true, State.leapFlags]
  case persist =>
    rintro dt s _ rfl hrun hwarn hdirty
    exact congrArg Host.Outcome.next (if_pos ⟨hrun, by rw [hwarn]; rfl, hdirty⟩)
  case warned =>
    rintro dt s _ rfl hwarn
    exact congrArg Host.Outcome.next (if_neg fun hc => by rw [hwarn] at hc; exact absurd hc.2.1 (by decide))

end Sys2Proof.Machine
end

section
/-!
SUPPORT. O40: a frame to a reserved address goes to the host only while its class there has room (R359), which its clause does not say.
-/
namespace Sys2Proof.Machine
set_option Elab.async false -- one declaration after the other: fewer threads at once

/-- A frame to 01-80-C2-00-00-00, received whole. -/
def reservedFrame : FifoEnt := { frame := { dst := 0x0180C2000000 } }

/-- The frame waits on port 0, and the frames that wait for the host hold the 65,536 cells of its class. -/
def hostClassFull : State :=
  { ports := [(0, { inFifo := [reservedFrame] })], host := { queue := [{ cls := 1, cells := 65536 }] } }

/-- How many frames wait for the host after a step. -/
def hostWaiting : Host.Outcome State Fault Refusal → Nat
  | .next t => t.host.queue.length
  | _ => 0

/-- The frame finds its class full and is dropped. -/
theorem reservedFrame_dropped : hostWaiting (exec (.classificationPass 0 0) hostClassFull) = 1 := by decide +kernel

/-- Refutes O40: a frame to a reserved address whose class has no room at the host does not join its queue, where the clause has it
joined. -/
theorem not_ingressEvents : ¬ Obligations.IngressEvents := by
  unfold Obligations.IngressEvents
  rintro ⟨-, -, -, -, -, classify, -⟩
  obtain ⟨t, e, -, c, hqueue, -⟩ := classify 0 0 hostClassFull _ reservedFrame [] rfl (by decide) rfl rfl (by decide +kernel)
    (by decide +kernel)
  have hlen := reservedFrame_dropped
  rw [e, hostWaiting, hqueue] at hlen
  simp [hostClassFull] at hlen

end Sys2Proof.Machine
end

section
/-!
SUPPORT. O41: the fragments of a frame preempted a second time were counted when its rest went on (R316), which the clause on the cut
does not say.
-/
namespace Sys2Proof.Machine
set_option Elab.async false -- one declaration after the other: fewer threads at once

/-- The rest of a preemptable frame of 1,000 bytes, 100 of which have gone. -/
def restOnWire : OnWire := { copy := { frame := { len := 1000 } }, finish := 10 ^ 12, frag := 100 }

/-- The rest is on the wire of port 0, and an express frame waits. -/
def expressWaits : State := { ports := [(0, { link := .up, queues := [(8, [{}])], preempt := 2, wire := some restOnWire })] }

/-- The fragments port 0 has counted after a step. -/
def fragmentsCounted : Host.Outcome State Fault Refusal → Nat
  | .next t => Tbl.getD (t.port 0).stats 47 0
  | _ => 0

/-- The second cut counts no fragment: the rest was counted when it went on. -/
theorem secondCut_counts_none : fragmentsCounted (exec (.preemptCut 0 0) expressWaits) = 0 := by decide +kernel

/-- Refutes O41: the cut of a frame that was cut before leaves the fragment counter, where the clause has it counted. -/
theorem not_egressEvents : ¬ Obligations.EgressEvents := by
  unfold Obligations.EgressEvents
  rintro ⟨-, -, -, -, -, cut, -⟩
  obtain ⟨t, e, -, -, hcount⟩ := cut 0 0 expressWaits _ restOnWire 60 {} [] rfl (by decide) rfl rfl (by decide +kernel) rfl
    (by decide +kernel) rfl (by decide +kernel) rfl (by decide +kernel) (by decide +kernel)
  have hnone := secondCut_counts_none
  rw [e, fragmentsCounted, hcount] at hnone
  exact absurd hnone (by decide +kernel)

end Sys2Proof.Machine
end

section
/-!
SUPPORT. O42: a port taken out of service still receives the rest of a frame while it drains (R305), which the clause on a disabled
port does not except.
-/
namespace Sys2Proof.Machine
set_option Elab.async false -- one declaration after the other: fewer threads at once

/-- Port 0 is out of service and drains; it holds the first fragment of a frame and expects fragment 1. -/
def drainingPort : State := { ports := [(0, { link := .disabled, draining := true, asm := some { next := 1 } })] }

/-- The assembly errors port 0 has counted after a step. -/
def assemblyErrors : Host.Outcome State Fault Refusal → Nat
  | .next t => Tbl.getD (t.port 0).stats 24 0
  | _ => 0

/-- A fragment that continues the frame with another count than the one expected is an assembly error. -/
theorem drainingFragment_counted : assemblyErrors (exec (.fragmentReceive 0 0 0 0 64 0 false true none) drainingPort) = 1 := by
  decide +kernel

/-- Refutes O42: a disabled port that drains counts an assembly error, where the clause has nothing but time pass. -/
theorem not_portEvents : ¬ Obligations.PortEvents := by
  unfold Obligations.PortEvents
  rintro ⟨-, -, -, -, -, -, -, -, -, -, -, -, -, -, -, disabled, -⟩
  have hcount := drainingFragment_counted
  rw [disabled 0 0 0 0 64 0 false true none drainingPort _ rfl (by decide) rfl] at hcount
  exact absurd hcount (by decide +kernel)

end Sys2Proof.Machine
end

section
/-!
SUPPORT. O43: a frame the host sends to itself waits for the host only while its class there has room (R359), which the clause on host
sends does not say.
-/
namespace Sys2Proof.Machine
set_option Elab.async false -- one declaration after the other: fewer threads at once

/-- One frame of 60 bytes waits in transmit ring 0, and the frames that wait for the host hold the 65,536 cells of its class. -/
def hostSendsWhileFull : State :=
  { host := { rings := [(0, { enable := true, entries := 64, tail := 1 })], queue := [{ cls := 1, cells := 65536 }] } }

/-- The frame finds its class full and is dropped. -/
theorem hostSend_dropped :
    hostWaiting (exec (.hostTxDescriptor 0 0 {} { dst := 0x0180C2000000 }) hostSendsWhileFull) = 1 := by decide +kernel

/-- Refutes O43: a send to a reserved address whose class has no room at the host does not join its queue, where the clause has it one
longer. -/
theorem not_hostPortEvents : ¬ Obligations.HostPortEvents := by
  unfold Obligations.HostPortEvents
  rintro ⟨-, -, send, -⟩
  obtain ⟨t, e, -, -, -, hlen⟩ := send 0 0 {} { dst := 0x0180C2000000 } hostSendsWhileFull _ _ _ rfl (by decide) rfl (by decide)
    (by decide +kernel) rfl (by decide +kernel) rfl rfl rfl rfl rfl rfl rfl rfl
  have hwaiting := hostSend_dropped
  rw [e, hostWaiting, hlen] at hwaiting
  exact absurd hwaiting (by decide +kernel)

end Sys2Proof.Machine
end

section
/-!
SUPPORT. O44: edges of the channels, their calibration tables, regression gates and the oscillator's warm state.
-/
namespace Sys2Proof.Machine
set_option Elab.async false -- one declaration after the other: fewer threads at once

/-! ### Shared operations -/

theorem State.counterHalf_meas {old new opcode request offset : Nat} {s : State} :
    (s.counterHalf old new opcode request offset).meas = s.meas := by
  rw [State.counterHalf_within.eq]
  rfl

theorem State.settleTiming_meas (old s : State) : (State.settleTiming old s).meas = s.meas := by
  obtain ⟨u, e⟩ := (State.settleTiming_within (old := old) (s := s)).form
  rw [e]
  rfl

theorem State.settleTiming_chan (old s : State) (ch : Nat) : (State.settleTiming old s).chan ch = s.chan ch :=
  congrArg (fun m : MeasS => Tbl.getD m.ch ch {}) (State.settleTiming_meas old s)

theorem State.finish_meas (p : Wait → Bool) (status : Nat) (payload : Wait → Fields) (s : State) :
    (s.finish p status payload).meas = s.meas := by
  rw [State.finish_within.eq]
  rfl

theorem State.finish_chan (p : Wait → Bool) (status : Nat) (payload : Wait → Fields) (s : State) (ch : Nat) :
    (s.finish p status payload).chan ch = s.chan ch :=
  congrArg (fun m : MeasS => Tbl.getD m.ch ch {}) (State.finish_meas p status payload s)

theorem State.finish_job (p : Wait → Bool) (status : Nat) (payload : Wait → Fields) (s : State) (i : Nat) :
    (s.finish p status payload).job i = s.job i :=
  congrArg (fun m : MeasS => Tbl.getD m.job i {}) (State.finish_meas p status payload s)

theorem State.post_meas (code : Nat) (p : Fields) (s : State) : (s.post code p).meas = s.meas := by
  rw [reports_post]

theorem State.endWait_aside (w : Wait) (status : Nat) (payload : Fields) (s : State) :
    (s.endWait w status payload).tci.aside = s.tci.aside := by
  rw [State.endWait_within.eq]

/-- Finishing a waiting command adds none. -/
theorem State.aside_finish_subset {p : Wait → Bool} {status : Nat} {payload : Wait → Fields} {s : State} {w : Wait}
    (h : w ∈ (s.finish p status payload).tci.aside) : w ∈ s.tci.aside := by
  unfold State.finish at h
  cases hfind : s.tci.aside.find? p with
  | none => simpa only [hfind] using h
  | some v =>
    simp only [hfind, State.endWait_aside] at h
    exact List.mem_of_mem_erase h

@[simp] theorem State.chan_updChan (s : State) (i j : Nat) (f : Channel → Channel) :
    (s.updChan i f).chan j = if j = i then f (s.chan i) else s.chan j :=
  Tbl.getD_put _ _ _ _ _

/-! ### Edges -/

/-- An edge of a channel that is not to be stamped is counted and nothing else (R82). -/
theorem State.tdcEdge_counts {ch n k : Nat} {s : State} (hch : ch ≠ 0) (hn : n ≠ 0)
    (h : (s.chan ch).state ≠ 2 ∨ (s.chan ch).skip + n < max 1 ((s.chan ch).presc * (s.chan ch).decim)) :
    s.tdcEdge ch n k = s.updChan ch (fun c => { c with
      edges := ((s.chan ch).edges + n) % 2 ^ 48
      skip := ((s.chan ch).skip + n) % max 1 ((s.chan ch).presc * (s.chan ch).decim) }) := by
  unfold State.tdcEdge
  rw [if_neg (by simp [hn, hch])]
  simp only [if_neg hch]
  by_cases hstate : (s.chan ch).state = 2
  · have hless := h.resolve_left fun hne => hne hstate
    rw [if_neg (not_not.2 hstate), if_neg (by omega), if_pos]
    rw [Nat.mod_eq_of_lt hless]
    omega
  · rw [if_pos hstate]

theorem State.tdcEdge_unplaced {n k : Nat} {s : State} (h : s.ppsDue k = false) : s.tdcEdge 0 n k = s :=
  if_pos (.inr ⟨rfl, by rw [h]; rfl⟩)

/-- The first edge of a running external channel that is to be stamped is stamped and counted (R83, R86). -/
theorem State.tdcEdge_stamps {ch n k : Nat} {s : State} (hch : 9 ≤ ch) (hn : n ≠ 0) (hstate : (s.chan ch).state = 2)
    (hskip : (s.chan ch).skip + n = max 1 ((s.chan ch).presc * (s.chan ch).decim)) (hlast : (s.chan ch).lastRaw = none)
    (hcapture : (s.chan ch).captures = false) :
    ((s.tdcEdge ch n k).chan ch).edges = ((s.chan ch).edges + n) % 2 ^ 48
      ∧ ((s.tdcEdge ch n k).chan ch).events = inc48 (s.chan ch).events 1
      ∧ ((s.tdcEdge ch n k).chan ch).lastRaw.isSome = true := by
  have hnone : refOfChannel ch = none := by
    unfold refOfChannel
    rw [if_neg (by omega), if_neg (by omega), if_neg (by omega)]
  unfold State.tdcEdge
  rw [if_neg (by simp [hn]; omega)]
  simp only [if_neg (show ch ≠ 0 by omega), hstate, hskip, hlast, hnone, hcapture, ne_eq, not_true_eq_false, lt_self_iff_false,
    Nat.mod_self, Option.elim_none, Bool.false_eq_true, false_and, and_false, if_false, if_neg (show ch ≠ 8 by omega),
    if_neg (show ch ≠ 5 by omega)]
  have hkept (old new opcode request offset : Nat) (v : State) :
      (v.counterHalf old new opcode request offset).chan ch = v.chan ch := by
    rw [State.chan, State.counterHalf_meas, ← State.chan]
  refine ⟨(congrArg Channel.edges (hkept _ _ _ _ _ _)).trans ?_, (congrArg Channel.events (hkept _ _ _ _ _ _)).trans ?_,
    (congrArg (fun c : Channel => c.lastRaw.isSome) (hkept _ _ _ _ _ _)).trans ?_⟩
  all_goals simp only [State.chan_updChan, if_true, Option.isSome_some]

/-! ### Calibration tables -/

/-- A table that counts 2^24 hits over its 4,096 codes is judged once its collection is over (R92). -/
theorem execCalTableComplete_judged {dt ch : Nat} {hits : List Nat} {s u : State} (hu : s.advance dt = u) (hch : ch < 16)
    (hstate : (u.chan ch).state ≠ 0) (hdue : (u.chan ch).calFrom + (u.chan ch).calTicks ≤ u.time.tick)
    (hrun : (u.chan ch).calRun = false) (hlen : hits.length = 4096) (hsum : hits.sum = 2 ^ 24) :
    ∃ v, exec (.calTableComplete dt ch hits) s = .next (if ch = 8 ∧ (u.chan ch).state = 1 then v.startTurn else v)
      ∧ v = if tableOk hits then
          u.updChan ch (fun c => { c with
            hits := some (hits.zipIdx.map (fun e => (e.2, e.1))), generation := ((u.chan ch).generation + 1) % 65536
            installedAt := u.now, rejectRun := 0, state := 2, calRun := false, calFrom := u.time.tick })
        else
          (fun w : State => if (u.chan ch).rejectRun + 1 = 3 then w.fault 0x22 13 6 ch else w)
            ((u.updChan ch (fun c => { c with
              calRejects := inc48 (u.chan ch).calRejects 1, rejectRun := c.rejectRun + 1, calRun := false, calFrom := u.time.tick
              state := if c.hits.isSome then 2 else c.state })).counterHalf (u.chan ch).calRejects
                (inc48 (u.chan ch).calRejects 1) 0x0602 ch 304) := by
  refine ⟨_, ?_, rfl⟩
  have hgo : ¬((u.chan ch).state = 0 ∨ u.time.tick < (u.chan ch).calFrom + (u.chan ch).calTicks ∨ hits.length ≠ 4096
      ∨ hits.sum ≠ 2 ^ 24) := by
    simp [hstate, hlen, hsum, hdue]
  show execCalTableComplete dt ch hits s = _
  simp only [execCalTableComplete, hu, if_neg (show ¬16 ≤ ch by omega), if_neg hgo, hrun, Bool.false_eq_true, if_false]
  by_cases hok : tableOk hits = true
  · simp only [hok, if_true]
  · simp only [hok, if_false, Bool.false_eq_true]

theorem State.startTurn_keeps (c : Prop) [Decidable c] (v : State) (ch : Nat) :
    (if c then v.startTurn else v).chan ch = v.chan ch ∧ (if c then v.startTurn else v).tci = v.tci := by
  split_ifs <;> exact ⟨rfl, rfl⟩

theorem State.fault_meas {code master access address : Nat} {s : State} : (s.fault code master access address).meas = s.meas := by
  rw [(Notes.refl s).fault code master access address]

/-- Counting a rejected table and its fault leave the channels. -/
theorem State.rejects_chan (b : Prop) [Decidable b] (old new ch : Nat) (v : State) :
    ((fun w : State => if b then w.fault 0x22 13 6 ch else w) (v.counterHalf old new 0x0602 ch 304)).chan ch = v.chan ch := by
  dsimp only
  split_ifs
  · rw [State.chan, State.fault_meas, State.counterHalf_meas, ← State.chan]
  · rw [State.chan, State.counterHalf_meas, ← State.chan]

/-! ### Regression gates -/

theorem State.putResult_result (i word : Nat) (s : State) : ((s.putResult i word).job i).result.isSome = true := by
  unfold State.putResult
  dsimp only
  by_cases hrun : s.fw.running = true
  · rw [if_pos hrun, State.job, State.post_meas, ← State.job, State.job_updJob, if_pos rfl]
    rfl
  · rw [if_neg hrun, State.job_updJob, if_pos rfl]
    rfl

/-! ### The oscillator -/

theorem State.flushY_ocxo (s : State) : s.flushY.ocxo = s.ocxo := by
  unfold State.flushY
  split <;> rfl

theorem State.post_hold (code : Nat) (p : Fields) (s : State) : (s.post code p).hold = s.hold ∧ (s.post code p).ocxo = s.ocxo := by
  rw [reports_post]
  exact ⟨rfl, rfl⟩

theorem State.condition_hold (code master access address : Nat) (s : State) :
    (s.condition code master access address).hold = s.hold ∧ (s.condition code master access address).ocxo = s.ocxo := by
  rw [(Notes.refl s).condition code master access address]
  exact ⟨rfl, rfl⟩

theorem State.conditionEnds_ocxo (code : Nat) (s : State) : (s.conditionEnds code).ocxo = s.ocxo := by
  rw [(Notes.refl s).conditionEnds code]

/-- Is the oscillator warm from now on (R104). -/
def State.ocxoWarm (s : State) : Bool :=
  if s.ocxo.warm then !s.ocxo.outBandAt.elim false (fun t => decide (t + 10 * tickS ≤ s.time.tick))
  else s.ocxo.inBandAt.elim false (fun t => decide (t + 120 * tickS ≤ s.time.tick))

/-- The oscillator's readings, its warm state now `warm`. -/
def State.ocxoRead (warm : Bool) (devMk : Int) (heaterMw : Nat) (s : State) : OcxoS :=
  { s.ocxo with
    warm := warm, devMk := devMk, heaterMw := heaterMw
    inBandAt := if devMk.natAbs ≤ 50 then some (s.ocxo.inBandAt.getD s.time.tick) else none
    outBandAt := if 200 < devMk.natAbs then some (s.ocxo.outBandAt.getD s.time.tick) else none }

/-- What the reading does when the warm state from now on is `warm`. -/
def State.ocxoTurns (warm : Bool) (devMk : Int) (heaterMw : Nat) (s : State) : State :=
  if warm ∧ !s.ocxo.warm then
    ((({ s.flushY with ocxo := { s.ocxoRead warm devMk heaterMw with cold := false } } : State).post 0x0602 [fb true])).conditionEnds 0x20
  else if !warm ∧ s.ocxo.warm then
    ((({ s.flushY with
        ocxo := { s.ocxoRead warm devMk heaterMw with cold := true }
        hold := { s.flushY.hold with learned := 0, samples := [], accY := 0, accT := 0, pausedAt := none } } : State).post 0x0602
      [fb false]).post 0x0603 []).condition 0x20 15 6 0
  else { s.flushY with ocxo := s.ocxoRead warm devMk heaterMw }

theorem execOcxoWarmChange_warm {dt heaterMw : Nat} {devMk : Int} {s u : State} (hu : s.advance dt = u) :
    exec (.ocxoWarmChange dt devMk heaterMw) s = .next (u.ocxoTurns u.ocxoWarm devMk heaterMw) := by
  subst hu
  rfl

theorem State.ocxoTurns_warm {devMk : Int} {heaterMw : Nat} {s : State} (h : s.ocxo.warm = false) :
    (s.ocxoTurns true devMk heaterMw).ocxo.warm = true ∧ (s.ocxoTurns true devMk heaterMw).ocxo.cold = false
      ∧ (s.ocxoTurns true devMk heaterMw).ocxo.devMk = devMk ∧ (s.ocxoTurns true devMk heaterMw).ocxo.heaterMw = heaterMw := by
  rw [State.ocxoTurns, if_pos ⟨rfl, by rw [h]; rfl⟩, State.conditionEnds_ocxo, (State.post_hold _ _ _).2]
  exact ⟨rfl, rfl, rfl, rfl⟩

theorem State.ocxoTurns_cold {devMk : Int} {heaterMw : Nat} {s : State} (h : s.ocxo.warm = true) :
    (s.ocxoTurns false devMk heaterMw).ocxo.warm = false ∧ (s.ocxoTurns false devMk heaterMw).ocxo.cold = true
      ∧ (s.ocxoTurns false devMk heaterMw).hold.learned = 0 ∧ (s.ocxoTurns false devMk heaterMw).hold.samples = [] := by
  rw [State.ocxoTurns, if_neg (by simp), if_pos ⟨rfl, h⟩, (State.condition_hold _ _ _ _ _).1, (State.condition_hold _ _ _ _ _).2,
    (State.post_hold _ _ _).1, (State.post_hold _ _ _).1, (State.post_hold _ _ _).2, (State.post_hold _ _ _).2]
  exact ⟨rfl, rfl, rfl, rfl⟩

/-- Settles O44: each edge, table, gate and warm-state event on the state in which its condition holds; reports, faults and answers leave
the units of measurement alone. -/
theorem measurementEvents : Obligations.MeasurementEvents := by
  unfold Obligations.MeasurementEvents
  refine ⟨?idle, ?between, ?stamps, ?unplaced, ?installs, ?rejects, ?early, ?gate, ?noGate, ?channel, ?noChannel, ?jobEnds, ?noJob,
    ?inBand, ?warms, ?cools⟩
  case idle =>
    rintro dt ch n k s _ rfl hch hk hne hn hstate
    refine ⟨_, if_neg (by omega), ?_⟩
    beta_reduce
    rw [State.settleTiming_chan, State.settleTiming_meas, State.tdcEdge_counts hne hn (.inl hstate), State.chan_updChan, if_pos rfl]
    exact ⟨rfl, rfl, rfl⟩
  case between =>
    rintro dt ch n k s _ pd rfl hch hk hne hn rfl - hskip
    refine ⟨_, if_neg (by omega), ?_⟩
    beta_reduce
    rw [State.settleTiming_chan, State.settleTiming_meas, State.tdcEdge_counts hne hn (.inr hskip), State.chan_updChan, if_pos rfl]
    exact ⟨rfl, rfl, rfl⟩
  case stamps =>
    rintro dt ch n k s _ rfl hch hnine hk hn hstate hskip hlast hcapture - -
    refine ⟨_, if_neg (by omega), ?_⟩
    beta_reduce
    rw [State.settleTiming_chan]
    exact State.tdcEdge_stamps hnine hn hstate hskip hlast hcapture
  case unplaced =>
    rintro dt _ n k s _ rfl hk rfl hdue
    refine ⟨_, if_neg (by omega), ?_⟩
    beta_reduce
    rw [State.settleTiming_chan, State.settleTiming_meas, State.tdcEdge_unplaced hdue]
    exact ⟨rfl, rfl⟩
  case installs =>
    intro dt ch hits s u hu hch hstate hdue hrun hlen hsum hok
    obtain ⟨v, e, hv⟩ := execCalTableComplete_judged hu hch hstate hdue hrun hlen hsum
    refine ⟨_, e, ?_⟩
    obtain ⟨hchan, htci⟩ := State.startTurn_keeps (ch = 8 ∧ (u.chan ch).state = 1) v ch
    rw [if_pos hok] at hv
    show _ ∧ _ ∧ _ ∧ _ ∧ _
    rw [hchan, htci, hv, State.chan_updChan, if_pos rfl]
    exact ⟨rfl, rfl, rfl, rfl, rfl⟩
  case rejects =>
    intro dt ch hits s u hu hch hstate hdue hrun hlen hsum hok
    obtain ⟨v, e, hv⟩ := execCalTableComplete_judged hu hch hstate hdue hrun hlen hsum
    refine ⟨_, e, ?_⟩
    rw [if_neg (Bool.eq_false_iff.1 hok)] at hv
    show _ ∧ _ ∧ _ ∧ _
    rw [(State.startTurn_keeps (ch = 8 ∧ (u.chan ch).state = 1) v ch).1, hv, State.rejects_chan, State.chan_updChan, if_pos rfl]
    exact ⟨rfl, rfl, rfl, rfl⟩
  case early =>
    rintro dt ch hits s _ rfl hch h
    exact (if_neg (by omega)).trans (congrArg Host.Outcome.next (if_pos (.inr (.inl h))))
  case gate =>
    rintro dt job s _ close rfl hjob hrun rfl hdue
    refine ⟨_, (if_neg (by omega)).trans (congrArg Host.Outcome.next (if_pos ⟨hrun, hdue⟩)), ?_⟩
    generalize s.advance dt = u at *
    simp only [State.job_updJob, if_true]
    exact ⟨trivial, rfl, trivial, rfl, State.putResult_result _ _ _⟩
  case noGate =>
    rintro dt job s _ rfl hjob h
    exact (if_neg (by omega)).trans (congrArg Host.Outcome.next (if_neg fun hc => Bool.eq_false_iff.1 h hc.1))
  case channel =>
    rintro dt ch s _ rfl hch h
    refine ⟨_, (if_neg (by omega)).trans (congrArg Host.Outcome.next (if_pos h)), ?_, ?_⟩
    · rw [State.finish_chan, State.chan_updChan, if_pos rfl]
    · intro w hw
      have hmem := State.aside_finish_subset hw
      exact hmem
  case noChannel =>
    rintro dt ch s _ rfl hch h
    exact (if_neg (by omega)).trans (congrArg Host.Outcome.next (if_neg (Bool.eq_false_iff.1 h)))
  case jobEnds =>
    rintro dt job s _ rfl hjob h
    refine ⟨_, (if_neg (by omega)).trans (congrArg Host.Outcome.next (if_pos h)), ?_, ?_⟩
    · rw [State.finish_job, State.job_updJob, if_pos rfl]
    · intro w hw
      have hmem := State.aside_finish_subset hw
      exact hmem
  case noJob =>
    rintro dt job s _ rfl hjob h
    exact (if_neg (by omega)).trans (congrArg Host.Outcome.next (if_neg (Bool.eq_false_iff.1 h)))
  case inBand =>
    intro dt devMk heaterMw s u hu hwarm hband hdev
    show execOcxoWarmChange dt devMk heaterMw s = _
    simp [execOcxoWarmChange, hu, hwarm, hband, hdev, show ¬200 < devMk.natAbs by omega]
  case warms =>
    intro dt devMk heaterMw s u since hu hwarm hband hdue
    refine ⟨_, execOcxoWarmChange_warm hu, ?_⟩
    have hnow : u.ocxoWarm = true := by
      rw [State.ocxoWarm, if_neg (Bool.eq_false_iff.1 hwarm), hband, Option.elim_some]
      exact decide_eq_true hdue
    rw [hnow]
    exact State.ocxoTurns_warm hwarm
  case cools =>
    intro dt devMk heaterMw s u since hu hwarm hband hdue
    refine ⟨_, execOcxoWarmChange_warm hu, ?_⟩
    have hnow : u.ocxoWarm = false := by
      rw [State.ocxoWarm, if_pos hwarm, hband, Option.elim_some, decide_eq_true hdue]
      rfl
    rw [hnow]
    exact State.ocxoTurns_cold hwarm

end Sys2Proof.Machine
end

section
/-!
SUPPORT. O45: the evaluation, loss and selection of references, the steering loop and holdover.
-/
namespace Sys2Proof.Machine
set_option Elab.async false -- one declaration after the other: fewer threads at once

/-! ### References read after a change -/

@[simp] theorem State.ref_updRef (s : State) (i j : Nat) (f : RefS → RefS) :
    (s.updRef i f).ref j = if j = i then f (s.ref i) else s.ref j :=
  Tbl.getD_put _ _ _ _ _

theorem Reports.ref {s t : State} (h : Reports s t) (r : Nat) : t.ref r = s.ref r := by
  rw [h]
  rfl

theorem Reports.sel {s t : State} (h : Reports s t) : t.sel = s.sel := by rw [h]

theorem Reports.time {s t : State} (h : Reports s t) : t.time = s.time := by rw [h]

theorem reports_counterHalf (old new opcode request offset : Nat) (s : State) :
    Reports s (s.counterHalf old new opcode request offset) := by
  unfold State.counterHalf
  split_ifs
  · exact reports_post _ _ s
  · exact Reports.refl s

theorem State.refs_noteLock (s : State) : s.noteLock.refs = s.refs := by
  unfold State.noteLock
  split <;> rfl

theorem State.refs_settleClass (s : State) : s.settleClass.refs = s.refs := by
  unfold State.settleClass
  dsimp only
  split_ifs
  · rfl
  · rw [reports_post]

/-- A reference whose reported state is another than in `old` restarts its `state_s`. -/
def State.restartSince (old t : State) (k : Nat) : State :=
  if t.refReport k = old.refReport k then t else t.updRef k (fun x => { x with since := t.time.tick })

theorem State.ref_restartSince (old t : State) (k r : Nat) :
    { (State.restartSince old t k).ref r with since := 0 } = { t.ref r with since := 0 } := by
  unfold State.restartSince
  split_ifs
  · rfl
  · rw [State.ref_updRef]
    split_ifs with hk
    · rw [hk]
    · rfl

/-- Settling restarts `state_s` of the references whose report changed, and changes nothing else of a reference. -/
theorem State.ref_settleTiming (old s : State) (r : Nat) : ∃ n, (State.settleTiming old s).ref r = { s.ref r with since := n } := by
  have hfold := foldl_keeps (fun t => { t.ref r with since := 0 }) (State.restartSince old) refList s
    (fun t k => State.ref_restartSince old t k r)
  have hrefs : (State.settleTiming old s).ref r = (refList.foldl (State.restartSince old) s).ref r := by
    show (refList.foldl (State.restartSince old) s).noteLock.settleClass.ref r = _
    rw [State.ref, State.refs_settleClass, State.refs_noteLock, ← State.ref]
  refine ⟨((State.settleTiming old s).ref r).since, ?_⟩
  rw [hrefs]
  generalize refList.foldl (State.restartSince old) s = v at hfold
  exact congrArg (fun x : RefS => { x with since := (v.ref r).since }) hfold

/-- What settling leaves of the selector. -/
theorem State.sel_settleTiming (old s : State) : ∃ a b c d, (State.settleTiming old s).sel
    = { s.sel with lastType := a, lockType := b, lockTr := c, clockClass := d } := by
  obtain ⟨u, e⟩ := (State.settleTiming_within (old := old) (s := s)).form
  rw [e]
  exact ⟨_, _, _, _, rfl⟩

theorem State.hold_settleTiming (old s : State) : (State.settleTiming old s).hold = s.hold := by
  obtain ⟨u, e⟩ := (State.settleTiming_within (old := old) (s := s)).form
  rw [e]
  rfl

/-! ### Disqualification -/

theorem State.endDisputes_keeps (r : Nat) (s : State) :
    (s.endDisputes r).refs = s.refs ∧ (s.endDisputes r).sel.selected = s.sel.selected := by
  rw [State.endDisputes_within.eq]
  exact ⟨rfl, rfl⟩

theorem State.ref_endDisputes (r j : Nat) (s : State) : (s.endDisputes r).ref j = s.ref j :=
  congrArg (fun x : Tbl RefS => Tbl.getD x j {}) (State.endDisputes_keeps r s).1

/-- A qualified reference that is disqualified qualifies anew (R115, R116). -/
theorem State.ref_dropRef_qualified {r cause : Nat} {s : State} (h : (s.ref r).state = .qualified) :
    (s.dropRef r cause).ref r = { s.ref r with
      state := .qualifying, cause := cause, qualSince := s.time.tick, disqs := inc48 (s.ref r).disqs 1, offFails := 0, driftFails := 0
      hitRun := 0, pred := none, fresh := false } := by
  unfold State.dropRef
  rw [if_pos h]
  dsimp only
  rw [State.ref_endDisputes, ((reports_counterHalf _ _ _ _ _ _).trans (reports_post _ _ _)).ref, State.ref_updRef, if_pos rfl]

theorem State.sel_dropRef (r cause : Nat) (s : State) : (s.dropRef r cause).sel.selected = s.sel.selected := by
  rw [State.dropRef_within.eq]

theorem State.dropRef_of_unqualified {r cause : Nat} {s : State} (h : (s.ref r).state ≠ .qualified) : s.dropRef r cause = s :=
  if_neg h

/-- A reference that is not in use is disqualified without the selector. -/
theorem State.disqualify_unselected {r cause : Nat} {s : State} (h : s.sel.selected ≠ some r) : s.disqualify r cause = s.dropRef r cause :=
  if_neg fun hc => h ((State.sel_dropRef r cause s).symm.trans hc.2)

theorem State.disqualify_of_unqualified {r cause : Nat} {s : State} (h : (s.ref r).state ≠ .qualified) : s.disqualify r cause = s := by
  unfold State.disqualify
  dsimp only
  rw [if_neg fun hc => h hc.1, State.dropRef_of_unqualified h]

/-- A phase hit counted (R115). -/
def State.hitCounted (r : Nat) (s : State) : State :=
  (s.updRef r (fun x => { x with
    hitDue := false, phaseHits := inc48 (s.ref r).phaseHits 1, hitRun := (s.ref r).hitRun + 1
    lastHit := some s.time.tick })).counterHalf (s.ref r).phaseHits (inc48 (s.ref r).phaseHits 1) 0x0703 r 304

theorem State.countHit_due {r : Nat} {s : State} (h : (s.ref r).hitDue = true) :
    s.countHit r = if 3 ≤ (s.ref r).hitRun + 1 then (s.hitCounted r).disqualify r 4 else s.hitCounted r := by
  unfold State.countHit
  exact if_neg (by rw [h]; decide)

theorem State.ref_hitCounted (r : Nat) (s : State) :
    (s.hitCounted r).ref r = { s.ref r with
      hitDue := false, phaseHits := inc48 (s.ref r).phaseHits 1, hitRun := (s.ref r).hitRun + 1, lastHit := some s.time.tick } := by
  unfold State.hitCounted
  rw [(reports_counterHalf _ _ _ _ _ _).ref, State.ref_updRef, if_pos rfl]

theorem State.sel_hitCounted (r : Nat) (s : State) : (s.hitCounted r).sel = s.sel := by
  unfold State.hitCounted
  rw [(reports_counterHalf _ _ _ _ _ _).sel]
  rfl

/-! ### The selector -/

theorem State.sel_treatPhase (r : Nat) (s : State) :
    (s.treatPhase r).sel.selected = s.sel.selected ∧ (s.treatPhase r).sel.fell = s.sel.fell := by
  obtain ⟨u, e⟩ := (State.treatPhase_within (r := r) (s := s)).form
  rw [e]
  exact ⟨rfl, rfl⟩

/-- A reference taken: the selection names it, and nothing falls back. -/
theorem State.sel_takeRef (r : Nat) (s : State) : (s.takeRef r).sel.selected = some r ∧ (s.takeRef r).sel.fell = s.sel.fell := by
  unfold State.takeRef
  dsimp only
  rw [(reports_post _ _ _).sel]
  generalize hv : (if _ = SelState.loopOpen then _ else _ : State) = v
  have hsel : v.sel.selected = some r ∧ v.sel.fell = s.sel.fell := by
    rw [← hv]
    split_ifs
    · exact ⟨rfl, rfl⟩
    · exact State.sel_treatPhase r _
  by_cases hacq : v.sel.state = SelState.acquiring
  · rw [if_pos hacq]
    exact hsel
  · rw [if_neg hacq]
    exact hsel

/-- The reference in use lost: what the selector is left with. -/
theorem State.loseRef_locked {s : State} (hstate : s.sel.state = .locked) (hever : s.sel.everLocked = true) :
    s.loseRef.sel.selected = none ∧ s.loseRef.sel.state = .holdover := by
  unfold State.loseRef
  rw [hstate, hever]
  exact ⟨rfl, rfl⟩

theorem State.runSelector_keeps {s : State} {fell : Bool} (h : s.pick = (s.sel.selected, fell)) :
    s.runSelector = { s with sel := { s.sel with fell := fell } } := by
  unfold State.runSelector
  rw [h]
  exact if_pos rfl

theorem State.runSelector_takes {s : State} {r : Nat} {fell : Bool} (h : s.pick = (some r, fell)) (hne : s.sel.selected ≠ some r) :
    s.runSelector = ({ s with sel := { s.sel with fell := fell } } : State).takeRef r := by
  unfold State.runSelector
  rw [h]
  exact if_neg (Ne.symm hne)

theorem State.runSelector_loses {s : State} (h : s.pick.1 = none) (hne : s.sel.selected ≠ none) :
    s.runSelector = ({ s with sel := { s.sel with fell := s.pick.2 } } : State).loseRef := by
  have hp : s.pick = (none, s.pick.2) := Prod.ext h rfl
  unfold State.runSelector
  rw [hp]
  exact if_neg (Ne.symm hne)

/-! ### Evaluation -/

/-- The sub-gates collected for the next evaluation of each reference are those of `s`. -/
def GatesKept (s t : State) : Prop := ∀ r, (t.ref r).parts = (s.ref r).parts ∧ (t.ref r).gateSf = (s.ref r).gateSf

theorem GatesKept.refl (s : State) : GatesKept s s := fun _ => ⟨rfl, rfl⟩

theorem GatesKept.after {s t u : State} (k : GatesKept t u) (h : GatesKept s t) : GatesKept s u := fun r =>
  ⟨(k r).1.trans (h r).1, (k r).2.trans (h r).2⟩

theorem GatesKept.of_refs {s t : State} (h : t.refs = s.refs) : GatesKept s t := fun r => by
  rw [State.ref, State.ref, h]
  exact ⟨rfl, rfl⟩

theorem GatesKept.post {s t : State} {code : Nat} {p : Fields} (h : GatesKept s t) : GatesKept s (t.post code p) :=
  .after (.of_refs (by rw [reports_post])) h

theorem GatesKept.counterHalf {s t : State} {old new opcode request offset : Nat} (h : GatesKept s t) :
    GatesKept s (t.counterHalf old new opcode request offset) :=
  .after (.of_refs (by rw [reports_counterHalf])) h

theorem GatesKept.enterSel {s t : State} {st : SelState} (h : GatesKept s t) : GatesKept s (t.enterSel st) :=
  .after (.of_refs (by rw [State.enterSel_within.eq])) h

theorem GatesKept.updRef {s t : State} {k : Nat} {f : RefS → RefS} (h : GatesKept s t) (hparts : (f (t.ref k)).parts = (t.ref k).parts)
    (hgate : (f (t.ref k)).gateSf = (t.ref k).gateSf) : GatesKept s (t.updRef k f) := by
  refine .after (fun r => ?_) h
  rw [State.ref_updRef]
  split_ifs with hr
  · rw [hr]
    exact ⟨hparts, hgate⟩
  · exact ⟨rfl, rfl⟩

theorem GatesKept.ite {s t u : State} {c : Prop} {dec : Decidable c} (ht : GatesKept s t) (hu : GatesKept s u) :
    GatesKept s (if c then t else u) := by
  split_ifs
  · exact ht
  · exact hu

theorem State.treatPhase_gates (r : Nat) (s : State) : GatesKept s (s.treatPhase r) := by
  unfold State.treatPhase State.treatDelta
  refine .ite ?_ (.ite ?_ (.ite ?_ ?_))
  · exact .enterSel (.updRef (.refl s) rfl rfl)
  · exact .enterSel (.of_refs rfl)
  · exact .enterSel (.of_refs rfl)
  · exact .post (.enterSel (.of_refs rfl))

theorem State.takeRef_gates (r : Nat) (s : State) : GatesKept s (s.takeRef r) := by
  unfold State.takeRef
  dsimp only
  refine .post ?_
  generalize hv : (if _ = SelState.loopOpen then _ else _ : State) = v
  have hkept : GatesKept s v := by
    rw [← hv]
    exact .ite (.of_refs rfl) (.after (State.treatPhase_gates r _) (.of_refs rfl))
  exact .ite (.after (.of_refs rfl) hkept) hkept

theorem State.loseRef_gates (s : State) : GatesKept s s.loseRef := .of_refs (by rw [State.loseRef_within.eq])

theorem State.runSelector_gates (s : State) : GatesKept s s.runSelector := by
  unfold State.runSelector
  split
  rename_i p fell _
  refine .ite (.of_refs rfl) ?_
  cases p with
  | some r => exact .after (State.takeRef_gates r _) (.of_refs rfl)
  | none => exact .after (State.loseRef_gates _) (.of_refs rfl)

theorem State.dropRef_gates (r cause : Nat) (s : State) : GatesKept s (s.dropRef r cause) := by
  unfold State.dropRef
  refine .ite ?_ (.refl s)
  exact .after (.of_refs (State.endDisputes_keeps _ _).1) (.post (.counterHalf (.updRef (.refl s) rfl rfl)))

theorem State.disqualify_gates (r cause : Nat) (s : State) : GatesKept s (s.disqualify r cause) :=
  .ite (.after (State.runSelector_gates _) (State.dropRef_gates r cause s)) (State.dropRef_gates r cause s)

theorem State.arbitrate_gates (p : Pair) (s : State) : GatesKept s (s.arbitrate p) := by
  unfold State.arbitrate
  dsimp only
  split
  · exact .ite (.of_refs rfl) (.ite (.of_refs rfl) (.of_refs rfl))
  · exact .ite (State.disqualify_gates _ _ s) (.ite (State.disqualify_gates _ _ s)
      (.ite (.of_refs rfl) (.ite (.of_refs rfl) (.of_refs rfl))))

theorem State.comparePair_gates (a b : Nat) (s : State) : GatesKept s (s.comparePair a b) := by
  unfold State.comparePair
  extract_lets
  refine .ite (.refl s) (.ite (.ite ?_ ?_) (.ite ?_ (.of_refs rfl)))
  · exact .post (.of_refs rfl)
  · exact .after (State.arbitrate_gates _ _) (.of_refs rfl)
  · exact .after (State.arbitrate_gates _ _) (.post (.of_refs rfl))

theorem foldl_comparePair_gates (l : List (Nat × Nat)) (s : State) : GatesKept s (l.foldl (fun t p => t.comparePair p.1 p.2) s) := by
  induction l generalizing s with
  | nil => exact .refl s
  | cons p l ih => exact .after (ih _) (State.comparePair_gates p.1 p.2 s)

/-- All of `t`, with the selection mode of `s`. -/
def State.modes (s t : State) : State :=
  { t with sel := { t.sel with mode := s.sel.mode, manual := s.sel.manual, wtr := s.sel.wtr } }

/-- An evaluation ends in the selector, on a state whose selection mode applies from here on (R115, R149). -/
theorem State.evaluate_selects (r quality own : Nat) (raw centre_ cEnd : Int) (s : State) :
    ∃ v : State, s.evaluate r quality own raw centre_ cEnd = v.runSelector ∧ GatesKept s v ∧ v.sel.actMode = s.sel.mode
      ∧ v.sel.actManual = s.sel.manual ∧ v.sel.actWtr = s.sel.wtr := by
  unfold State.evaluate
  extract_lets +onlyGivenNames s1
  have h1 : GatesKept s s1 := .updRef (.refl s) rfl rfl
  have m1 : Within State.modes s s1 := State.updRef_within.after (.refl s)
  clear_value s1
  split
  extract_lets +onlyGivenNames g x0 x1
  split
  extract_lets +onlyGivenNames offTol driftTol leftOut offBad driftBad x2 s2
  have h2 : GatesKept s s2 := .updRef h1 rfl rfl
  have m2 : Within State.modes s s2 := State.updRef_within.after m1
  clear_value s2
  extract_lets +onlyGivenNames _ _ s3
  have h3 : GatesKept s s3 := .ite (.ite (.after (State.disqualify_gates _ _ _) (.updRef h2 rfl rfl))
    (.ite (.after (State.disqualify_gates _ _ _) h2) (.ite (.after (State.disqualify_gates _ _ _) h2)
      (.ite (.after (State.disqualify_gates _ _ _) h2) h2)))) (.ite (.ite (.updRef h2 rfl rfl) h2) h2)
  have m3 : Within State.modes s s3 := .ite (.ite (State.disqualify_within.after (State.updRef_within.after m2))
    (.ite (State.disqualify_within.after m2) (.ite (State.disqualify_within.after m2)
      (.ite (State.disqualify_within.after m2) m2)))) (.ite (.ite (State.updRef_within.after m2) m2) m2)
  clear_value s3
  extract_lets +onlyGivenNames s4
  have h4 : GatesKept s s4 := .after (foldl_comparePair_gates refPairs s3) h3
  have m4 : Within State.modes s s4 := .foldl (fun _ _ m => State.comparePair_within.after m) refPairs m3
  clear_value s4
  refine ⟨_, rfl, .after (.of_refs rfl) h4, ?_, ?_, ?_⟩
  · have e := congrArg (fun t : State => t.sel.mode) m4.eq
    exact e
  · have e := congrArg (fun t : State => t.sel.manual) m4.eq
    exact e
  · have e := congrArg (fun t : State => t.sel.wtr) m4.eq
    exact e

theorem State.runSelector_actModes (s : State) :
    s.runSelector.sel.actMode = s.sel.actMode ∧ s.runSelector.sel.actManual = s.sel.actManual
      ∧ s.runSelector.sel.actWtr = s.sel.actWtr := by
  obtain ⟨u, e⟩ := (State.runSelector_within (s := s)).form
  rw [e]
  exact ⟨rfl, rfl, rfl⟩

/-! ### The steering loop and holdover -/

theorem State.time_flushY (s : State) : s.flushY.time = s.time := by
  unfold State.flushY
  split <;> rfl

theorem State.loopUpdate_unselected {s : State} (h : s.sel.selected = none) : s.loopUpdate = s := by
  unfold State.loopUpdate
  rw [h]

/-- What an update of the loop computes and notes (R123). -/
theorem State.loopUpdate_steers {s : State} {r : Nat} (hsel : s.sel.selected = some r) (hheld : s.sel.loopHeld = false)
    (hset : s.sel.setting = false) (hstate : s.sel.state = .locked) (hat : s.sel.loopAt = none) (hhit : (s.ref r).hitNow = false)
    (hphase : (s.ref r).phase.isSome = true) :
    s.loopUpdate.time = s.time.setFreq (loopStep (itemBandwidthUhz (s.ref r).word) (updateTicks (s.banks.active.refType r))
        s.banks.active.slopeLimit s.sel.integ (s.loopError r)).2
      ∧ s.loopUpdate.sel.e = s.loopError r ∧ s.loopUpdate.sel.loopAt = some s.time.tick ∧ s.loopUpdate.sel.lastUpdate = s.now := by
  have hnone : (s.ref r).phase.isNone = false := by
    rw [Option.isNone_eq_false_iff]
    exact hphase
  unfold State.loopUpdate
  simp only [hsel, hheld, hset, hstate, hat, hhit, hnone, reduceCtorEq, Option.elim_none, Bool.false_eq_true, or_self, false_and,
    if_false, State.time_flushY, true_and]

theorem fitModel_keeps (samples : List (Int × Int × Int)) (h : HoldS) :
    (fitModel samples h).accY = h.accY ∧ (fitModel samples h).accT = h.accT ∧ (fitModel samples h).samples = h.samples := by
  unfold fitModel
  extract_lets
  split
  exact ⟨rfl, rfl, rfl⟩

/-- Settles O45: each event of references, loop and holdover; the selector acts on a reference in use only, and settling leaves what they
write. -/
theorem referenceEvents : Obligations.ReferenceEvents := by
  unfold Obligations.ReferenceEvents
  refine ⟨?sub, ?disabled, ?window, ?gap, ?lost, ?noLos, ?hit, ?third, ?status, ?statusLost, ?same, ?takes, ?loses, ?restores, ?noWait,
    ?update, ?noUpdate, ?lock, ?noLock, ?sample, ?cold, ?write, ?noWrite, ?steps, ?blocked, ?tested, ?between, ?quiescent⟩
  case sub =>
    rintro dt ref s u start len _ hu href rfl hgate hlen hstate hdue hmore
    show CompletesWith (execRefEvaluation dt ref s) _
    simp only [execRefEvaluation, hu, if_neg (show ¬8 ≤ ref by omega), hgate, hlen]
    rw [if_neg (by simp only [hstate, false_or, not_lt]; exact hdue)]
    rw [if_pos (by rw [List.length_append]; exact hmore)]
    refine ⟨_, rfl, ?_⟩
    beta_reduce
    rw [State.ref_updRef, if_pos rfl]
    exact ⟨List.length_append, hgate, rfl, rfl, rfl⟩
  case disabled =>
    intro dt ref s u hu href hstate
    show execRefEvaluation dt ref s = _
    cases hgate : (u.ref ref).gateSf with
    | none => simp only [execRefEvaluation, hu, if_neg (show ¬8 ≤ ref by omega), hgate]
    | some start =>
      cases hlen : nth (subGates (itemWindowS (u.ref ref).word)) (u.ref ref).parts.length with
      | none => simp only [execRefEvaluation, hu, if_neg (show ¬8 ≤ ref by omega), hgate, hlen]
      | some len => simp only [execRefEvaluation, hu, if_neg (show ¬8 ≤ ref by omega), hgate, hlen, hstate, true_or, if_true]
  case window =>
    rintro dt ref s u start len _ hu href rfl hgate hlen hstate hdue hlast
    show CompletesWith (execRefEvaluation dt ref s) _
    simp only [execRefEvaluation, hu, if_neg (show ¬8 ≤ ref by omega), hgate, hlen]
    rw [if_neg (by simp only [hstate, reduceCtorEq, false_or, not_lt]; exact hdue)]
    rw [if_neg (by rw [List.length_append, List.length_singleton]; omega)]
    refine ⟨_, rfl, ?_⟩
    beta_reduce
    generalize hw : State.updRef (State.updRef u ref _) ref _ = w
    have hwref : (w.ref ref).parts = [] ∧ (w.ref ref).gateSf = some (start
        + (((subGates (itemWindowS (u.ref ref).word)).take (u.ref ref).parts.length).sum + len : Nat) * uMs) := by
      rw [← hw, State.ref_updRef, if_pos rfl]
      exact ⟨rfl, rfl⟩
    have hwsel : w.sel = u.sel := by rw [← hw]; rfl
    obtain ⟨v, hv, hgates, hmode, hmanual, hwtr⟩ := State.evaluate_selects ref _ _ _ _ _ w
    rw [hv]
    obtain ⟨n, hn⟩ := State.ref_settleTiming u v.runSelector ref
    obtain ⟨_, _, _, _, hsel⟩ := State.sel_settleTiming u v.runSelector
    obtain ⟨hmode', hmanual', hwtr'⟩ := v.runSelector_actModes
    obtain ⟨hparts, hgateSf⟩ := (GatesKept.after v.runSelector_gates hgates) ref
    rw [hn, hsel]
    refine ⟨hparts.trans hwref.1, hgateSf.trans hwref.2, ?_, ?_, ?_⟩
    · exact hmode'.trans (hmode.trans (by rw [hwsel]))
    · exact hmanual'.trans (hmanual.trans (by rw [hwsel]))
    · exact hwtr'.trans (hwtr.trans (by rw [hwsel]))
  case gap =>
    rintro dt ref s _ rfl href hstate hlast
    refine ⟨_, (if_neg (by omega)).trans (congrArg Host.Outcome.next (if_pos ⟨by rw [hstate]; decide, by rw [hlast]; rfl⟩)), ?_⟩
    generalize s.advance dt = u at *
    have hdrop : (u.updRef ref (fun x => { x with gapOk := false })).disqualify ref 1 = u.updRef ref (fun x => { x with gapOk := false }) :=
      State.disqualify_of_unqualified (by simp [hstate])
    rw [hdrop]
    obtain ⟨n, hn⟩ := State.ref_settleTiming u (u.updRef ref (fun x => { x with gapOk := false })) ref
    rw [hn, State.ref_updRef, if_pos rfl, (State.settleTiming_keeps _ _).1]
    exact ⟨rfl, hstate, rfl⟩
  case lost =>
    rintro dt ref s _ rfl href hstate hlast hunselected
    refine ⟨_, (if_neg (by omega)).trans (congrArg Host.Outcome.next (if_pos ⟨by rw [hstate]; decide, by rw [hlast]; rfl⟩)), ?_⟩
    generalize s.advance dt = u at *
    have hqualified : ((u.updRef ref (fun x => { x with gapOk := false })).ref ref).state = .qualified := by simp [hstate]
    have hdrop := State.disqualify_unselected (r := ref) (cause := 1) (s := u.updRef ref (fun x => { x with gapOk := false })) hunselected
    rw [hdrop]
    obtain ⟨n, hn⟩ := State.ref_settleTiming u ((u.updRef ref (fun x => { x with gapOk := false })).dropRef ref 1) ref
    obtain ⟨_, _, _, _, hsel⟩ := State.sel_settleTiming u ((u.updRef ref (fun x => { x with gapOk := false })).dropRef ref 1)
    rw [hn, hsel, State.ref_dropRef_qualified hqualified, State.ref_updRef, if_pos rfl]
    exact ⟨rfl, rfl, rfl, State.sel_dropRef _ _ _⟩
  case noLos =>
    rintro dt ref s _ rfl href hstate
    exact (if_neg (by omega)).trans (congrArg Host.Outcome.next (if_neg fun h => h.1 hstate))
  case hit =>
    rintro dt ref s _ rfl href hdue hrun
    refine ⟨_, if_neg (by omega), ?_⟩
    generalize s.advance dt = u at *
    rw [State.countHit_due hdue, if_neg (by omega)]
    obtain ⟨n, hn⟩ := State.ref_settleTiming u (u.hitCounted ref) ref
    rw [hn, State.ref_hitCounted, hrun]
    exact ⟨rfl, rfl, rfl, rfl⟩
  case third =>
    rintro dt ref s _ rfl href hdue hrun hstate hunselected
    refine ⟨_, if_neg (by omega), ?_⟩
    generalize s.advance dt = u at *
    have hqualified : ((u.hitCounted ref).ref ref).state = .qualified := by
      rw [State.ref_hitCounted]
      exact hstate
    rw [State.countHit_due hdue, if_pos (by omega), State.disqualify_unselected (by rw [State.sel_hitCounted]; exact hunselected)]
    obtain ⟨n, hn⟩ := State.ref_settleTiming u ((u.hitCounted ref).dropRef ref 4) ref
    rw [hn, State.ref_dropRef_qualified hqualified]
    exact ⟨rfl, rfl, rfl⟩
  case status =>
    rintro dt ref s _ rfl href hstate hsource
    refine ⟨_, (if_neg (by omega)).trans (congrArg Host.Outcome.next (if_pos ⟨by rw [hstate]; decide, by rw [hsource]; rfl⟩)), ?_⟩
    generalize s.advance dt = u at *
    have hdrop : u.indication ref false = u.updRef ref (fun x => { x with statusOk := false }) :=
      State.disqualify_of_unqualified (by simp [hstate])
    rw [hdrop]
    obtain ⟨n, hn⟩ := State.ref_settleTiming u (u.updRef ref (fun x => { x with statusOk := false })) ref
    rw [hn, State.ref_updRef, if_pos rfl]
    exact ⟨rfl, hstate⟩
  case statusLost =>
    rintro dt ref s _ rfl href hstate hsource hunselected
    refine ⟨_, (if_neg (by omega)).trans (congrArg Host.Outcome.next (if_pos ⟨by rw [hstate]; decide, by rw [hsource]; rfl⟩)), ?_⟩
    generalize s.advance dt = u at *
    have hqualified : ((u.updRef ref (fun x => { x with statusOk := false })).ref ref).state = .qualified := by simp [hstate]
    have hdrop : u.indication ref false = (u.updRef ref (fun x => { x with statusOk := false })).dropRef ref 6 :=
      State.disqualify_unselected hunselected
    rw [hdrop]
    obtain ⟨n, hn⟩ := State.ref_settleTiming u ((u.updRef ref (fun x => { x with statusOk := false })).dropRef ref 6) ref
    rw [hn, State.ref_dropRef_qualified hqualified]
    exact ⟨rfl, rfl⟩
  case same =>
    rintro dt s _ fell rfl hpick
    refine ⟨_, rfl, ?_⟩
    generalize s.advance dt = u at *
    obtain ⟨_, _, _, _, hsel⟩ := State.sel_settleTiming u u.runSelector
    rw [State.runSelector_keeps hpick] at hsel ⊢
    rw [hsel, (State.settleTiming_keeps _ _).1]
    exact ⟨rfl, rfl, rfl⟩
  case takes =>
    rintro dt s _ r fell rfl hpick hne
    refine ⟨_, rfl, ?_⟩
    generalize s.advance dt = u at *
    obtain ⟨_, _, _, _, hsel⟩ := State.sel_settleTiming u u.runSelector
    rw [State.runSelector_takes hpick hne] at hsel ⊢
    rw [hsel]
    exact State.sel_takeRef r _
  case loses =>
    rintro dt s _ r rfl hpick hselected hstate hever
    refine ⟨_, rfl, ?_⟩
    generalize s.advance dt = u at *
    obtain ⟨_, _, _, _, hsel⟩ := State.sel_settleTiming u u.runSelector
    rw [State.runSelector_loses hpick (by rw [hselected]; exact Option.some_ne_none r)] at hsel ⊢
    rw [hsel]
    exact State.loseRef_locked hstate hever
  case restores =>
    intro dt s u c r fell hu hselected hwaited hpick hne
    refine ⟨State.settleTiming u u.runSelector, ?_, ?_⟩
    · show execWaitToRestoreExpire dt s = _
      simp only [execWaitToRestoreExpire, hu, hselected, hwaited, if_true]
    · obtain ⟨_, _, _, _, hsel⟩ := State.sel_settleTiming u u.runSelector
      rw [State.runSelector_takes hpick (by rw [hselected]; exact fun h => hne (Option.some.inj h).symm)] at hsel ⊢
      rw [hsel]
      exact (State.sel_takeRef r _).1
  case noWait =>
    intro dt s u hu hselected
    show execWaitToRestoreExpire dt s = _
    simp only [execWaitToRestoreExpire, hu, hselected]
  case update =>
    rintro dt s _ r rfl hselected hheld hset hstate hat hhit hphase
    refine ⟨_, rfl, ?_⟩
    generalize s.advance dt = u at *
    obtain ⟨_, _, _, _, hsel⟩ := State.sel_settleTiming u u.loopUpdate
    rw [hsel, (State.settleTiming_keeps _ _).1]
    exact State.loopUpdate_steers hselected hheld hset hstate hat hhit hphase
  case noUpdate =>
    rintro dt s _ rfl hselected
    refine ⟨_, rfl, ?_⟩
    beta_reduce
    rw [(State.settleTiming_keeps _ _).1, (State.settleTiming_keeps _ _).2.1, State.loopUpdate_unselected hselected]
    exact ⟨rfl, rfl⟩
  case lock =>
    intro dt s u r hu hselected hstate hrun
    refine ⟨State.settleTiming u (({ u with sel := { u.sel with everLocked := true } } : State).enterSel
      (if freqOnly (u.banks.active.refType r) then .lockedFreq else .locked)), ?_, ?_⟩
    · show execLockAchieved dt s = _
      simp only [execLockAchieved, hu, hselected, hstate, hrun, and_self, if_true]
    · obtain ⟨_, _, _, _, hsel⟩ := State.sel_settleTiming u (({ u with sel := { u.sel with everLocked := true } } : State).enterSel
        (if freqOnly (u.banks.active.refType r) then .lockedFreq else .locked))
      rw [hsel, (State.settleTiming_keeps _ _).1, State.time_enterSel]
      refine ⟨rfl, ?_, rfl⟩
      rw [State.enterSel_within.eq]
  case noLock =>
    intro dt s u hu h
    show execLockAchieved dt s = _
    have hnot : ¬(u.sel.state = .acquiring ∧ 60 ≤ u.sel.lockRun) := by omega
    cases hselected : u.sel.selected <;> simp only [execLockAchieved, hu, hselected, if_neg hnot]
  case sample =>
    rintro dt theta s _ rfl hstate hwarm hheld hlong hweek
    refine ⟨_, congrArg Host.Outcome.next (if_pos ⟨hstate, hwarm, by rw [hheld]; rfl, hlong⟩), ?_⟩
    generalize s.advance dt = u at *
    refine ⟨(fitModel_keeps _ _).1, (fitModel_keeps _ _).2.1, rfl, rfl, ?_⟩
    rw [(fitModel_keeps _ _).2.2, List.filter_cons_of_pos (by simp only [decide_eq_true_eq]; omega)]
    rfl
  case cold =>
    rintro dt theta s _ rfl h
    exact congrArg Host.Outcome.next (if_neg fun hc => Bool.eq_false_iff.1 h hc.2.1)
  case write =>
    rintro dt theta s _ rfl hstate hheld hat hmodel
    refine ⟨_, congrArg Host.Outcome.next (if_pos ⟨hstate, by rw [hheld]; rfl, by rw [hat]; rfl⟩), ?_⟩
    generalize s.advance dt = u at *
    rw [(State.settleTiming_keeps _ _).1, (State.settleTiming_keeps _ _).2.1, State.hold_settleTiming, if_pos hmodel]
    exact ⟨rfl, rfl, hstate⟩
  case noWrite =>
    rintro dt theta s _ rfl h
    exact congrArg Host.Outcome.next (if_neg fun hc => h hc.1)
  case steps =>
    intro dt s u hu hstate hauto hnone hsecond htested hrows
    show execAutoStepTest dt s = _
    simp [execAutoStepTest, hu, hstate, hauto, hnone, hsecond, htested, hrows]
  case blocked =>
    rintro dt s _ e rfl hstate hauto hnone hsecond htested hmem htemplate hlo hhi
    refine congrArg Host.Outcome.next ((if_pos ⟨hstate, hauto, by rw [hnone]; rfl, hsecond, htested⟩).trans (if_pos ?_))
    rw [List.any_eq_true]
    exact ⟨e, hmem, by simp only [htemplate, hlo, decide_true, Bool.not_false, Bool.true_and]; exact decide_eq_true hhi⟩
  case tested =>
    rintro dt s _ rfl h
    exact congrArg Host.Outcome.next (if_neg fun hc => hc.2.2.2.2 h)
  case between =>
    rintro dt s _ rfl h
    exact congrArg Host.Outcome.next (if_neg fun hc => Bool.eq_false_iff.1 h hc.2.2.2.1)
  case quiescent =>
    rintro dt ref s _ rfl href
    exact if_neg (by omega)

end Sys2Proof.Machine
end

section
/-!
SUPPORT. O46: the turn of TIC8 that begins at a monitor check clears the edges placed of every output, where the clause leaves the other
outputs as they were.
-/
namespace Sys2Proof.Machine
set_option Elab.async false -- one declaration after the other: fewer threads at once

/-- TIC8 watches output 0, its turn is over, and an edge came where output 0 placed one; output 1 holds an edge of its own. -/
def turnOver : State :=
  { time := { tick := tickS }
    meas := { ch := [(8, { cfg := 0x800, state := 2 })], turnEvs := [{}] }
    outs := [(0, { running := true, placed := [0] }), (1, { placed := [5] })] }

/-- The edges output 1 holds after a step. -/
def otherPlaced : Host.Outcome State Fault Refusal → List Int
  | .next t => (t.output 1).placed
  | _ => []

/-- The new turn clears the edges of output 1 too. -/
theorem otherPlaced_cleared : otherPlaced (exec (.toutMonitorCheck 0 0 0) turnOver) = [] := by decide +kernel

/-- Refutes O46: the monitor check of output 0 clears the edges placed of output 1. -/
theorem not_outputEvents : ¬ Obligations.OutputEvents := by
  unfold Obligations.OutputEvents
  rintro ⟨-, -, -, -, -, -, -, check, -⟩
  obtain ⟨t, e, -, -, -, hothers⟩ := check 0 0 0 turnOver _ 0 rfl (by decide) rfl (by decide +kernel) (by decide +kernel) rfl
    (by decide +kernel)
  have hcleared := otherPlaced_cleared
  rw [e, otherPlaced, hothers 1 (by decide)] at hcleared
  exact absurd hcleared (by decide +kernel)

end Sys2Proof.Machine
end

section
/-!
SUPPORT. O47: a receiver that holds its position with a hard indicator raised earlier still pending disqualifies, although no
indicator stands at the event.
-/
namespace Sys2Proof.Machine
set_option Elab.async false -- one declaration after the other: fewer threads at once

/-- The receiver holds its position, a hard indicator is pending, and none stands. -/
def pendingIndicator : State := { gnss := { rx := .hold, hardSet := true } }

/-- Whether the receiver holds its position after a step. -/
def holdsPosition : Host.Outcome State Fault Refusal → Bool
  | .next t => t.gnss.rx == .hold
  | _ => false

/-- The pending indicator disqualifies the receiver. -/
theorem holdsPosition_pendingIndicator : holdsPosition (exec (.gnssDisqualify 0) pendingIndicator) = false := by
  decide +kernel

/-- Refutes O47: with no indicator standing the event still disqualifies on the pending one. -/
theorem not_receiverEvents : ¬ Obligations.ReceiverEvents := by
  unfold Obligations.ReceiverEvents
  rintro ⟨-, -, -, -, -, -, -, -, -, -, -, -, -, unmoved, -⟩
  have hdisqualified := holdsPosition_pendingIndicator
  rw [unmoved 0 pendingIndicator _ rfl (by decide +kernel) (by decide +kernel)] at hdisqualified
  exact absurd hdisqualified (by decide +kernel)

end Sys2Proof.Machine
end

section
/-!
SUPPORT. O48: the room of the PTP pool is weighed after the turn has been noted at the port. In a port table that is not ascending
the noting enters the port a second time, its queued copies count twice, and the Delay_Req finds the pool full.
-/
namespace Sys2Proof.Machine
set_option Elab.async false -- one declaration after the other: fewer threads at once

/-- A trunk port at the slave end of its link, with three cells of the PTP pool in its queue. -/
def slavePort : PortS :=
  { link := .up, queues := [(0, [{ pool := true, cells := 3 }])]
    trunk := { state := .measuring, nbr := some (0, { hops := 0 }), l1At := 1 } }

/-- Port 0 is due to send, the pool holds four cells, and the table lists port 1 before port 0. -/
def slaveTurn : State :=
  { banks := { active := { dom := 1, ptim := [(0, 0x100)], ts := 2 ^ 96 } }, ports := [(1, {}), (0, slavePort)]
    keys := { cache := [(0, { mat := [1] })] }, dom := { hops := 1 } }

/-- How many copies wait in class 0 of port 0 after a step. -/
def copiesWaiting : Host.Outcome State Fault Refusal → Nat
  | .next t => (t.queue 0 0).length
  | _ => 0

/-- The Delay_Req finds no room. -/
theorem slaveTurn_queues_none : copiesWaiting (exec (.trunkExchange 0 0 false {} 0 0 []) slaveTurn) = 1 := by decide +kernel

/-- Refutes O48: the turn of the slave end queues no Delay_Req, although the pool had room for it at the event. -/
theorem not_domainEvents : ¬ Obligations.DomainEvents := by
  unfold Obligations.DomainEvents
  rintro ⟨-, -, -, -, -, -, -, -, -, -, -, -, -, -, -, -, -, -, -, -, turn, -⟩
  obtain ⟨t, e, c, hqueue, -⟩ := turn 0 0 false {} 0 0 [] slaveTurn _ rfl (by decide) rfl (by decide +kernel) (by decide +kernel)
    (by decide +kernel) (by decide +kernel) (by decide +kernel) (by decide +kernel) (by decide +kernel)
  have hlen := slaveTurn_queues_none
  have hclass : (slaveTurn.advance 0).banks.active.tsClass = 0 := by decide +kernel
  rw [hclass] at hqueue
  have hbefore : ((slaveTurn.advance 0).queue 0 0).length = 1 := by decide +kernel
  rw [e, copiesWaiting, hqueue, List.length_append, hbefore] at hlen
  exact absurd hlen (by simp)

end Sys2Proof.Machine
end

section
/-!
SUPPORT. O49: cue rounds and their acknowledgements, the fetch of cue frames, the firing of a row, and the capture ring.
-/
namespace Sys2Proof.Machine
set_option Elab.async false -- one declaration after the other: fewer threads at once

/-! ### Domain frames -/

/-- A domain frame tested leaves cues, time, banks and the domain as they were. -/
theorem State.acceptDomain_keeps {f : DomFrame} {s v : State} {b : Bool} (h : s.acceptDomain f = (b, v)) :
    v.cue = s.cue ∧ v.time = s.time ∧ v.banks = s.banks ∧ v.dom = s.dom := by
  obtain ⟨x, e⟩ := (State.acceptDomain_within (f := f) (s := s)).form
  rw [h] at e
  change v = _ at e
  rw [e]
  exact ⟨rfl, rfl, rfl, rfl⟩

theorem State.toChildren_keeps (kind : Nat) (payload : Fields) (s : State) :
    (s.toChildren kind payload).cue = s.cue ∧ (s.toChildren kind payload).time = s.time
      ∧ (s.toChildren kind payload).banks = s.banks := by
  rw [State.toChildren_within.eq]
  exact ⟨rfl, rfl, rfl⟩

/-- A domain frame to a port whose link is up takes the next number and waits to leave, while the key is in the cache. -/
theorem State.sendDomain_queues {port kind : Nat} {payload : Fields} {s : State} (hlink : (s.port port).link = .up)
    (hkey : s.domainKey.isSome = true) : ∃ fs, s.sendDomain port kind payload = { s with dom := { s.dom with
      txSeq := (s.dom.txSeq + 1) % 2 ^ 48, queue := s.dom.queue ++ [{ port := port, kind := kind, fields := fs }] } } := by
  obtain ⟨key, hsome⟩ := Option.isSome_iff_exists.1 hkey
  unfold State.sendDomain
  rw [if_neg (not_not_intro hlink), hsome, Option.elim_some]
  exact ⟨_, rfl⟩

/-! ### Rounds -/

/-- A round that a node joins without ending one comes first among its rounds. -/
theorem State.rounds_joinRound {c : CueRound} {s : State} (start : c.cancel = false) :
    ∃ d, (s.joinRound c).cue.rounds = (d :: s.cue.rounds).take 64 ∧ d.round = c.round ∧ d.scene = c.scene ∧ d.root = c.root
      ∧ d.cancel = false ∧ d.arrived = s.time.tick := by
  obtain ⟨x, e⟩ := (State.armScene_within (scene := c.scene) (root := c.root) (round := c.round) (inst := c.inst) (s := s)).form
  simp only [State.joinRound, start, Bool.false_eq_true, if_false, e]
  exact ⟨_, rfl, rfl, rfl, rfl, rfl, rfl⟩

/-- A cancellation that a node joins comes first among its cancellations, and its rounds stay. -/
theorem State.cancels_joinRound {c : CueRound} {s : State} (stop : c.cancel = true) :
    (s.joinRound c).cue.rounds = s.cue.rounds ∧ ∃ d, (s.joinRound c).cue.cancels = (d :: s.cue.cancels).take 64
      ∧ d.round = c.round ∧ d.root = c.root ∧ d.cancel = true ∧ d.okMap = 2 ^ s.deviceId := by
  obtain ⟨x, e⟩ := (State.cancelRound_within (root := c.root) (round := c.round) (s := s)).form
  simp only [State.joinRound, stop, if_true, e]
  exact ⟨trivial, _, rfl, rfl, rfl, rfl, rfl⟩

theorem State.ackDue_of_waited {c : CueRound} {s : State} (hsent : c.sent = false) (hwait : c.arrived + s.ackWait ≤ s.time.tick) :
    s.ackDue c = true := by
  simp [State.ackDue, hsent, hwait]

/-- One round waits, and its acknowledgement is due. -/
theorem State.acksDue_single {c : CueRound} {u : State} (hrounds : u.cue.rounds = [c]) (hcancels : u.cue.cancels = [])
    (hdue : u.ackDue c = true) : (u.cue.rounds.reverse ++ u.cue.cancels.reverse).filter u.ackDue = [c] := by
  rw [hrounds, hcancels]
  simp [hdue]

/-- A round as it stands once acknowledged. -/
def State.acked (c : CueRound) (s : State) : CueRound := { c with sent := true, members := mapCount s.subtreeMap }

/-- The round is marked as acknowledged. -/
def State.markSent (c : CueRound) (s : State) : State := s.mapRounds (fun x => if x == c then s.acked c else x)

theorem State.rounds_markSent {c : CueRound} {s : State} (hrounds : s.cue.rounds = [c]) :
    (s.markSent c).cue.rounds = [s.acked c] := by
  show s.cue.rounds.map _ = _
  rw [hrounds, List.map_singleton, if_pos (beq_self_eq_true c)]

/-- Below the root a round's acknowledgement goes to the parent. -/
theorem State.sendAck_parent {c : CueRound} {s : State} {p : Nat} (hmine : c.mine = false) (hparent : s.dom.parentPort = some p) :
    s.sendAck c = (s.markSent c).sendDomain p 0x11 c.ack := by
  unfold State.sendAck
  rw [if_neg (by simp [hmine]), hparent]
  rfl

/-- At the node that began the round its result joins those kept, while it is recent. -/
theorem State.cue_sendAck_mine {c : CueRound} {s : State} (hmine : c.mine = true) (hresults : s.cue.results = [])
    (hrecent : (s.cue.nextRound + 2 ^ 32 - c.round) % 2 ^ 32 ≤ 16) :
    (s.sendAck c).cue = { (s.markSent c).cue with results := [s.acked c] } := by
  unfold State.sendAck
  rw [if_pos hmine, reports_post]
  show ({ (s.markSent c).cue with results := (s.acked c :: s.cue.results).filter _ } : CueS) = _
  have hround : (s.cue.nextRound + 2 ^ 32 - (s.acked c).round) % 2 ^ 32 ≤ 16 := hrecent
  rw [hresults, List.filter_cons, if_pos (decide_eq_true hround), List.filter_nil]

theorem State.cap_finish (p : Wait → Bool) (status : Nat) (payload : Wait → Fields) (s : State) :
    (s.finish p status payload).cap = s.cap := by
  rw [State.finish_within.eq]
  rfl

/-! ### Rows -/

theorem State.cueEndEvent_keeps (payload : Fields) (executed : Bool) (cause : Time96) (s : State) :
    (s.cueEndEvent payload executed cause).cue.rows = s.cue.rows
      ∧ (s.cueEndEvent payload executed cause).cue.executed = s.cue.executed
      ∧ (s.cueEndEvent payload executed cause).cue.late = s.cue.late
      ∧ (s.cueEndEvent payload executed cause).cue.closedGates = s.cue.closedGates := by
  rw [State.cueEndEvent_within.eq]
  exact ⟨rfl, rfl, rfl, rfl⟩

/-- A row of no Equinox that ends leaves the table and is counted under its outcome. -/
theorem State.endRow_counts {id outcome reason : Nat} {egress : Option Int} {s : State} {r : Row}
    (hrow : Tbl.get? s.cue.rows id = some r) (hequinox : r.equinox = false) :
    (s.endRow id outcome reason egress).cue.rows = Tbl.erase s.cue.rows id
      ∧ (s.endRow id outcome reason egress).cue.executed
        = (if outcome = ocExecuted then inc48 s.cue.executed 1 else s.cue.executed)
      ∧ (s.endRow id outcome reason egress).cue.late
        = (if outcome ≠ ocExecuted ∧ outcome = ocLate then inc48 s.cue.late 1 else s.cue.late)
      ∧ (s.endRow id outcome reason egress).cue.closedGates = s.cue.closedGates := by
  unfold State.endRow
  rw [hrow]
  dsimp only
  rw [if_neg (by simp [hequinox])]
  split_ifs <;> simp_all [State.cueEndEvent_keeps, State.rows_captureRecord, State.cue_counterHalf]

/-- The only row of the table comes too late. -/
theorem State.endRow_late {id reason : Nat} {egress : Option Int} {s : State} {r : Row} (hrows : s.cue.rows = [(id, r)])
    (hequinox : r.equinox = false) :
    (s.endRow id ocLate reason egress).cue.rows = [] ∧ (s.endRow id ocLate reason egress).cue.late = inc48 s.cue.late 1
      ∧ (s.endRow id ocLate reason egress).cue.closedGates = s.cue.closedGates := by
  obtain ⟨erased, -, late, gates⟩ := State.endRow_counts (id := id) (outcome := ocLate) (reason := reason) (egress := egress) (s := s)
    (r := r) (by rw [hrows]; simp [Tbl.get?]) hequinox
  exact ⟨by rw [erased, hrows]; simp [Tbl.erase], late, gates⟩

/-- The only row of the table is executed. -/
theorem State.endRow_executed {id reason : Nat} {egress : Option Int} {s : State} {r : Row} (hrows : s.cue.rows = [(id, r)])
    (hequinox : r.equinox = false) :
    (s.endRow id ocExecuted reason egress).cue.rows = []
      ∧ (s.endRow id ocExecuted reason egress).cue.executed = inc48 s.cue.executed 1
      ∧ (s.endRow id ocExecuted reason egress).cue.closedGates = s.cue.closedGates := by
  obtain ⟨erased, executed, -, gates⟩ := State.endRow_counts (id := id) (outcome := ocExecuted) (reason := reason)
    (egress := egress) (s := s) (r := r) (by rw [hrows]; simp [Tbl.get?]) hequinox
  exact ⟨by rw [erased, hrows]; simp [Tbl.erase], executed, gates⟩

theorem State.unfetched_single {u : State} {id : Nat} {r : Row} (hrows : u.cue.rows = [(id, r)]) (htemplate : r.template = false)
    (hkind : r.kind = 1) (hbuffered : r.buffered = none) : u.unfetched = [(id, r)] := by
  unfold State.unfetched State.armedRows
  rw [hrows]
  simp [htemplate, hkind, hbuffered]

/-- The only row of the table, its frame read without error, has its frame buffered. -/
theorem State.prefetch_buffers {u : State} {id : Nat} {r : Row} (hrows : u.cue.rows = [(id, r)])
    (hread : (u.windowRead 7 (cueBufferOffset + 16384 * r.slot) r.length).1 = true) :
    ∃ d, (u.prefetch id r).cue.rows = [(id, { r with buffered := some d })] := by
  obtain ⟨x, e⟩ := (State.windowRead_within (master := 7) (off := cueBufferOffset + 16384 * r.slot) (n := r.length) (s := u)).form
  unfold State.prefetch
  dsimp only
  rw [if_pos hread]
  generalize (u.windowRead 7 (cueBufferOffset + 16384 * r.slot) r.length).2 = v at e
  have hcue : v.cue.rows = [(id, r)] := by
    rw [e]
    exact hrows
  unfold State.updRow
  rw [hcue]
  simp [Tbl.get?, Tbl.put]

theorem foldl_fixed_of_mem {α β : Type} {f : α → β → α} {a : α} (l : List β) (h : ∀ b ∈ l, f a b = a) : l.foldl f a = a := by
  induction l with
  | nil => rfl
  | cons b l ih => rw [List.foldl_cons, h b List.mem_cons_self, ih fun c hc => h c (List.mem_cons_of_mem b hc)]

/-- No output holds a pulse, and none falls. -/
theorem State.pulseFalls_none {u : State} (h : (List.range 8).all (fun o => (u.output o).pulseEnds.isEmpty) = true) (upTo : Int) :
    u.pulseFalls upTo = u := by
  refine foldl_fixed_of_mem _ fun o ho => ?_
  have hnone : (u.output o).pulseEnds = [] := List.isEmpty_iff.1 (List.all_eq_true.1 h o ho)
  rw [hnone]
  rfl

theorem State.cue_pulseFalls (u : State) (upTo : Int) : (u.pulseFalls upTo).cue = u.cue := by
  rw [State.pulseFalls_within.eq]

theorem State.cue_moveGates_close {r : Row} {s : State} (hkind : r.kind = 3) : (s.moveGates r).cue = { s.cue with
    closedGates := Tbl.put s.cue.closedGates r.target (Tbl.getD s.cue.closedGates r.target 0 ||| r.param) } := by
  simp only [State.moveGates, hkind, if_true]
  rfl

theorem State.rowDue_keeps {s : State} {r : Row} (h : s.rowDue r = true) : r.equinox = false := by
  simp only [State.rowDue, Bool.and_eq_true, Bool.not_eq_true'] at h
  exact h.1.2

/-- The row that is due, where the table holds no other. -/
theorem State.rowsDue_single {u : State} {id : Nat} {r : Row} (hrows : u.cue.rows = [(id, r)]) (hdue : u.rowDue r = true) :
    orderRows (u.cue.rows.filter (fun e => u.rowDue e.2)) = [(id, r)] := by
  rw [hrows]
  simp [orderRows, hdue]

/-! ### The frames of cue rounds -/

section
variable {dt : Nat} {f : DomFrame} {s u v : State} {ok : Bool} (hu : s.advance dt = u) (hport : f.port < 56)
  (hv : u.acceptDomain f = (ok, v))
include hu hport hv

theorem exec_cueAnnounce : exec (.cueAnnounce dt f) s
    = .next (if !ok ∨ f.kind ≠ 0x10 ∨ !v.takesRound f false then v
      else (v.toChildren 0x10 (rawFields 20 f.payload)).joinRound
        { round := DomFrame.cueRound f, root := DomFrame.cueRoot f, scene := DomFrame.cueScene f
          inst := (DomFrame.cueInstant f).toNat }) := by
  refine (if_pos hport).trans (congrArg Host.Outcome.next ?_)
  rw [hu]
  beta_reduce
  rw [hv]

theorem exec_cueCancelFrame : exec (.cueCancelFrame dt f) s
    = .next (if !ok ∨ f.kind ≠ 0x12 ∨ !v.takesRound f true then v
      else (v.toChildren 0x12 (rawFields 20 f.payload)).joinRound
        { round := DomFrame.cueRound f, root := DomFrame.cueRoot f, cancel := true }) := by
  refine (if_pos hport).trans (congrArg Host.Outcome.next ?_)
  rw [hu]
  beta_reduce
  rw [hv]

theorem exec_cueAck : exec (.cueAck dt f) s
    = .next (if ok ∧ f.kind = 0x11 ∧ v.isChild f.port ∧ !v.dom.dupId then v.mergeAck f.port f.payload else v) := by
  refine (if_pos hport).trans (congrArg Host.Outcome.next ?_)
  rw [hu]
  beta_reduce
  rw [hv]

end

/-- Settles O49: each cue event on the state the time it states has brought. -/
theorem cueEvents : Obligations.CueEvents := by
  unfold Obligations.CueEvents
  refine ⟨?untested, ?otherKind, ?notTaken, ?joins, ?untestedCancel, ?otherCancel, ?cancelNotTaken, ?cancels, ?untestedAck,
    ?otherAck, ?noChild, ?merges, ?noRounds, ?dupAcks, ?acks, ?results, ?noRows, ?prefetches, ?noneLate, ?tooLate, ?hands,
    ?closes, ?outOfService, ?noneDue, ?ringUsed, ?ringQuiet⟩
  case untested =>
    intro dt f s u v hu hport hv
    exact (exec_cueAnnounce hu hport hv).trans (congrArg Host.Outcome.next (if_pos (.inl rfl)))
  case untestedCancel =>
    intro dt f s u v hu hport hv
    exact (exec_cueCancelFrame hu hport hv).trans (congrArg Host.Outcome.next (if_pos (.inl rfl)))
  case untestedAck =>
    intro dt f s u v hu hport hv
    exact (exec_cueAck hu hport hv).trans (congrArg Host.Outcome.next (if_neg (by simp)))
  case otherKind =>
    intro dt f s u v hu hport hv hkind
    exact (exec_cueAnnounce hu hport hv).trans (congrArg Host.Outcome.next (if_pos (.inr (.inl hkind))))
  case otherCancel =>
    intro dt f s u v hu hport hv hkind
    exact (exec_cueCancelFrame hu hport hv).trans (congrArg Host.Outcome.next (if_pos (.inr (.inl hkind))))
  case otherAck =>
    intro dt f s u v hu hport hv hkind
    exact (exec_cueAck hu hport hv).trans (congrArg Host.Outcome.next (if_neg fun h => hkind h.2.1))
  case notTaken =>
    intro dt f s u v hu hport hv hkind hnot
    exact (exec_cueAnnounce hu hport hv).trans (congrArg Host.Outcome.next (if_pos (.inr (.inr (by simp [hnot])))))
  case cancelNotTaken =>
    intro dt f s u v hu hport hv hkind hnot
    exact (exec_cueCancelFrame hu hport hv).trans (congrArg Host.Outcome.next (if_pos (.inr (.inr (by simp [hnot])))))
  case noChild =>
    intro dt f s u v hu hport hv hkind hnot
    exact (exec_cueAck hu hport hv).trans (congrArg Host.Outcome.next (if_neg (by simp [hnot])))
  case joins =>
    intro dt f s u v hu hport hv hkind htakes
    obtain ⟨hcue, htime, -, -⟩ := State.acceptDomain_keeps hv
    obtain ⟨hsent, hsentTime, -⟩ := State.toChildren_keeps 0x10 (rawFields 20 f.payload) v
    refine ⟨_, (exec_cueAnnounce hu hport hv).trans (congrArg Host.Outcome.next (if_neg (by simp [hkind, htakes]))), ?_⟩
    · obtain ⟨d, hrounds, hround, hscene, hroot, hcancel, harrived⟩ := State.rounds_joinRound (s := v.toChildren 0x10 (rawFields 20 f.payload))
        (c := { round := DomFrame.cueRound f, root := DomFrame.cueRoot f, scene := DomFrame.cueScene f
                inst := (DomFrame.cueInstant f).toNat }) rfl
      exact ⟨d, by rw [hrounds, hsent, hcue], hround, hscene, hroot, hcancel, by rw [harrived, hsentTime, htime]⟩
  case cancels =>
    intro dt f s u v hu hport hv hkind htakes
    obtain ⟨hcue, -, hbanks, -⟩ := State.acceptDomain_keeps hv
    obtain ⟨hsent, -, hsentBanks⟩ := State.toChildren_keeps 0x12 (rawFields 20 f.payload) v
    refine ⟨_, (exec_cueCancelFrame hu hport hv).trans (congrArg Host.Outcome.next (if_neg (by simp [hkind, htakes]))), ?_⟩
    · obtain ⟨hrounds, d, hcancels, hround, hroot, hcancel, hmap⟩ := State.cancels_joinRound
        (s := v.toChildren 0x12 (rawFields 20 f.payload))
        (c := { round := DomFrame.cueRound f, root := DomFrame.cueRoot f, cancel := true }) rfl
      exact ⟨by rw [hrounds, hsent, hcue], d, by rw [hcancels, hsent, hcue], hround, hroot, hcancel,
        by rw [hmap, State.deviceId, hsentBanks, hbanks, State.deviceId]⟩
  case merges =>
    intro dt f s u v c hu hport hv hkind hchild hdup hrounds hround hcancel hsent hacked hroot
    obtain ⟨hcue, -, -, hdom⟩ := State.acceptDomain_keeps hv
    refine ⟨_, (exec_cueAck hu hport hv).trans (congrArg Host.Outcome.next (if_pos (by simp [hkind, hchild, hdom, hdup]))), ?_⟩
    · show v.cue.rounds.map _ = _
      rw [hcue, hrounds, List.map_singleton, if_pos (by rw [hdom, hround, hcancel, hsent, hacked, hroot]; simp)]
  case noRounds =>
    intro dt s u hu hrounds hcancels
    refine congrArg Host.Outcome.next ?_
    rw [hu, hrounds, hcancels]
    exact ite_self _
  case dupAcks =>
    intro dt s u hu hdup
    refine congrArg Host.Outcome.next ?_
    rw [hu]
    exact if_pos hdup
  case acks =>
    intro dt s u c p hu hdup hrounds hcancels hsent hwait hmine hparent hlink hkey
    refine ⟨u.sendAck c, congrArg Host.Outcome.next ?_, ?_⟩
    · rw [hu, State.acksDue_single hrounds hcancels (State.ackDue_of_waited hsent hwait)]
      exact if_neg (by simp [hdup])
    · obtain ⟨fs, hsend⟩ := State.sendDomain_queues (port := p) (kind := 0x11) (payload := c.ack) (s := u.markSent c) hlink hkey
      rw [State.sendAck_parent hmine hparent, hsend]
      exact ⟨State.rounds_markSent hrounds, rfl, fs, rfl⟩
  case results =>
    intro dt s u c hu hdup hrounds hcancels hresults hsent hwait hmine hrecent
    refine ⟨u.sendAck c, congrArg Host.Outcome.next ?_, ?_⟩
    · rw [hu, State.acksDue_single hrounds hcancels (State.ackDue_of_waited hsent hwait)]
      exact if_neg (by simp [hdup])
    · beta_reduce
      rw [State.cue_sendAck_mine hmine hresults hrecent]
      exact ⟨State.rounds_markSent hrounds, rfl⟩
  case noRows | noneLate =>
    intro dt s u hu hrows
    refine congrArg Host.Outcome.next ?_
    rw [hu, State.unfetched, State.armedRows, hrows]
    rfl
  case prefetches =>
    intro dt s u id r hu hrows htemplate hkind hbuffered hearly hlate hread
    refine ⟨u.prefetch id r, congrArg Host.Outcome.next ?_, State.prefetch_buffers hrows hread⟩
    rw [hu, State.unfetched_single hrows htemplate hkind hbuffered]
    rw [List.filter_cons, if_pos (by rw [decide_eq_true hearly, decide_eq_true hlate]; rfl), List.filter_nil]
    rfl
  case tooLate =>
    intro dt s u id r hu hrows htemplate hequinox hkind hbuffered hlate
    obtain ⟨hnone, hcount, -⟩ := State.endRow_late (reason := rsPrefetch) (egress := none) hrows hequinox
    refine ⟨u.endRow id ocLate rsPrefetch none, congrArg Host.Outcome.next ?_, hnone, hcount⟩
    rw [hu, State.unfetched_single hrows htemplate hkind hbuffered]
    rw [List.filter_cons, if_pos (decide_eq_true hlate), List.filter_nil]
    rfl
  case hands =>
    rintro dt s _ rfl
    rfl
  case closes =>
    intro dt s u id r hu hrows hdue hkind hservice hpulses
    have hgates := State.cue_moveGates_close (s := u) hkind
    obtain ⟨hnone, hcount, hclosed⟩ := State.endRow_executed (s := u.moveGates r) (id := id) (r := r) (reason := rsNone) (egress := none)
      (by rw [hgates]; exact hrows) (State.rowDue_keeps hdue)
    have husable : u.targetUsable r = true := by simp [State.targetUsable, hkind, hservice]
    have hfire : u.fireRow id r = (u.moveGates r).endRow id ocExecuted rsNone none := by
      unfold State.fireRow
      rw [State.pulseFalls_none hpulses]
      simp [hkind, husable]
    refine ⟨((u.moveGates r).endRow id ocExecuted rsNone none).pulseFalls u.nowU, congrArg Host.Outcome.next ?_, ?_⟩
    · rw [hu, State.rowsDue_single hrows hdue, List.foldl_cons, List.foldl_nil, hfire]
    · beta_reduce
      rw [State.cue_pulseFalls, hnone, hcount, hclosed, hgates]
      exact ⟨rfl, rfl, by rw [Tbl.getD_put, if_pos rfl]⟩
  case outOfService =>
    intro dt s u id r hu hrows hdue hkind hservice hpulses
    obtain ⟨hnone, hcount, hclosed⟩ := State.endRow_late (s := u) (id := id) (r := r) (reason := r.goneReason) (egress := none) hrows
      (State.rowDue_keeps hdue)
    have husable : u.targetUsable r = false := by simp [State.targetUsable, hkind, hservice]
    have hfire : u.fireRow id r = u.endRow id ocLate r.goneReason none := by
      unfold State.fireRow
      rw [State.pulseFalls_none hpulses]
      simp [hkind, husable]
    refine ⟨(u.endRow id ocLate r.goneReason none).pulseFalls u.nowU, congrArg Host.Outcome.next ?_, ?_⟩
    · rw [hu, State.rowsDue_single hrows hdue, List.foldl_cons, List.foldl_nil, hfire]
    · beta_reduce
      rw [State.cue_pulseFalls]
      exact ⟨hnone, hcount, hclosed⟩
  case noneDue =>
    intro dt s u hu hrows hpulses
    refine congrArg Host.Outcome.next ?_
    have hnone : orderRows (u.cue.rows.filter (fun e => u.rowDue e.2)) = [] := by
      rw [hrows]
      simp [orderRows]
    rw [hu, hnone, List.foldl_nil]
    exact State.pulseFalls_none hpulses _
  case ringUsed =>
    intro dt s u hu hquiet
    refine congrArg Host.Outcome.next ?_
    rw [hu]
    exact if_neg (by simp [hquiet])
  case ringQuiet =>
    intro dt s u hu hdrains
    refine ⟨({ u with cap := { u.cap with draining := false } }).finish (fun w => w.obj = some Obj.captureRing) stOk (fun _ => []),
      congrArg Host.Outcome.next ?_, State.cap_finish _ _ _ _⟩
    rw [hu]
    exact if_pos hdrains

end Sys2Proof.Machine
end

section
/-!
SUPPORT. O50: the frames of Equinox rounds going down and up, the merge sent to the parent, the root's round, and a round missed.
-/
namespace Sys2Proof.Machine
set_option Elab.async false -- one declaration after the other: fewer threads at once

/-! ### Frames going down -/

/-- A down frame taken: it is remembered and relayed to the children. -/
def State.relayDown (kind : Nat) (f : DomFrame) (s : State) : State :=
  { s with rnd := { s.rnd with seen := rememberRound (roundKey (frameOrigin f) (frameRound f), kind) s.rnd.seen } }.toChildren kind
    (rawFields 22 f.payload)

/-- What relaying leaves as it was. -/
theorem State.relayDown_keeps (kind : Nat) (f : DomFrame) (s : State) : (s.relayDown kind f).rnd.up = s.rnd.up
    ∧ (s.relayDown kind f).rnd.part = s.rnd.part ∧ (s.relayDown kind f).rnd.round = s.rnd.round
    ∧ (s.relayDown kind f).time = s.time ∧ (s.relayDown kind f).cue = s.cue := by
  rw [State.relayDown, State.toChildren_within.eq]
  exact ⟨rfl, rfl, rfl, rfl, rfl⟩

theorem State.roundReasons_relayDown (kind : Nat) (f : DomFrame) (s : State) (prepare : Bool) (round tag : Nat) (inst : Int) :
    (s.relayDown kind f).roundReasons prepare round tag inst = s.roundReasons prepare round tag inst := by
  rw [State.relayDown, State.toChildren_within.eq]
  rfl

section
variable {kind dt : Nat} {f : DomFrame} {act : State → State} {s u v : State}

theorem takeDown_untested (hu : s.advance dt = u) (hport : f.port < 56) (hv : u.acceptDomain f = (false, v)) :
    takeDown kind dt f act s = .next v := by
  refine (if_pos hport).trans (congrArg Host.Outcome.next ?_)
  rw [hu]
  beta_reduce
  rw [hv]
  exact if_pos (.inl rfl)

theorem takeDown_otherKind (hu : s.advance dt = u) (hport : f.port < 56) (hv : u.acceptDomain f = (true, v)) (hkind : f.kind ≠ kind) :
    takeDown kind dt f act s = .next v := by
  refine (if_pos hport).trans (congrArg Host.Outcome.next ?_)
  rw [hu]
  beta_reduce
  rw [hv]
  exact if_pos (.inr (.inl hkind))

theorem takeDown_notTaken (hu : s.advance dt = u) (hport : f.port < 56) (hv : u.acceptDomain f = (true, v))
    (hnot : v.takesDown f = false) : takeDown kind dt f act s = .next v := by
  refine (if_pos hport).trans (congrArg Host.Outcome.next ?_)
  rw [hu]
  beta_reduce
  rw [hv]
  exact if_pos (.inr (.inr (by rw [hnot]; rfl)))

theorem takeDown_taken (hu : s.advance dt = u) (hport : f.port < 56) (hv : u.acceptDomain f = (true, v)) (hkind : f.kind = kind)
    (htakes : v.takesDown f = true) : takeDown kind dt f act s = .next (act (v.relayDown kind f)) := by
  refine (if_pos hport).trans (congrArg Host.Outcome.next ?_)
  rw [hu]
  beta_reduce
  rw [hv]
  exact if_neg (by simp [hkind, htakes])

/-! ### Frames going up -/

theorem takeUp_untested (hu : s.advance dt = u) (hport : f.port < 56) (hv : u.acceptDomain f = (false, v)) :
    takeUp kind dt f s = .next v := by
  refine (if_pos hport).trans (congrArg Host.Outcome.next ?_)
  rw [hu]
  beta_reduce
  rw [hv]
  exact if_neg (by simp)

theorem takeUp_otherKind (hu : s.advance dt = u) (hport : f.port < 56) (hv : u.acceptDomain f = (true, v)) (hkind : f.kind ≠ kind) :
    takeUp kind dt f s = .next v := by
  refine (if_pos hport).trans (congrArg Host.Outcome.next ?_)
  rw [hu]
  beta_reduce
  rw [hv]
  exact if_neg fun h => hkind h.2.1

theorem takeUp_notChild (hu : s.advance dt = u) (hport : f.port < 56) (hv : u.acceptDomain f = (true, v))
    (hnot : v.isChild f.port = false) : takeUp kind dt f s = .next v := by
  refine (if_pos hport).trans (congrArg Host.Outcome.next ?_)
  rw [hu]
  beta_reduce
  rw [hv]
  exact if_neg (by simp [hnot])

theorem State.acceptDomain_rnd {b : Bool} (h : s.acceptDomain f = (b, v)) : v.rnd = s.rnd := by
  obtain ⟨x, e⟩ := (State.acceptDomain_within (f := f) (s := s)).form
  rw [h] at e
  change v = _ at e
  rw [e]
  rfl

/-- A child's message is merged into the only message that waits, of its kind and round. -/
theorem takeUp_merges {x : UpRec} (hu : s.advance dt = u) (hport : f.port < 56) (hv : u.acceptDomain f = (true, v))
    (hkind : f.kind = kind) (hchild : v.isChild f.port = true) (hdup : u.dom.dupId = false) (hup : u.rnd.up = [x])
    (hxkind : x.kind = kind) (hround : x.round = frameRound f) (hsent : x.sent = false) (hacked : x.acked.contains f.port = false) :
    CompletesWith (takeUp kind dt f s) (fun t => t.rnd.up = [{ x with
      acked := f.port :: x.acked, okMap := x.okMap ||| bits f.payload 176 4096
      fails := (x.fails + wireField f.payload 48 16) % 65536, reasons := x.reasons ||| bits f.payload 64 8 }]) := by
  obtain ⟨-, -, -, hdom⟩ := State.acceptDomain_keeps hv
  refine ⟨v.mergeUp f, (if_pos hport).trans (congrArg Host.Outcome.next ?_), ?_⟩
  · rw [hu]
    beta_reduce
    rw [hv]
    exact if_pos (by simp [hkind, hchild, hdom, hdup])
  · show v.rnd.up.map _ = _
    rw [State.acceptDomain_rnd hv, hup, List.map_singleton, if_pos (by rw [hxkind, hkind, hround, hsent, hacked]; simp)]

end

/-! ### A participant's own votes and acks -/

/-- The merge of an upward message opens with this device's own vote or ack. -/
def Opens (kind round : Nat) (s t : State) : Prop :=
  ∃ x, t.rnd.up = (x :: s.rnd.up).take 64 ∧ x.kind = kind ∧ x.round = round ∧ x.arrived = s.time.tick ∧ x.acked = []

theorem opens_openUp {kind round reasons : Nat} {ok : Bool} {s t : State} (hup : t.rnd.up = s.rnd.up) (htime : t.time = s.time) :
    Opens kind round s (t.openUp kind round ok reasons) := by
  refine ⟨{ kind := kind, round := round, arrived := t.time.tick, okMap := if ok then 2 ^ t.deviceId else 0
            fails := if ok then 0 else 1, reasons := reasons }, ?_, rfl, rfl, by rw [htime], rfl⟩
  show (_ :: t.rnd.up).take 64 = _
  rw [hup]

theorem opens_onPrepare (round tag : Nat) (inst : Int) (s : State) : Opens 0x21 round s (s.onPrepare round tag inst) := by
  unfold State.onPrepare
  refine opens_openUp ?_ rfl
  dsimp only
  split_ifs <;> rfl

theorem opens_onArm (round : Nat) (inst : Int) (s : State) : Opens 0x23 round s (s.onArm round inst) := by
  unfold State.onArm
  dsimp only
  split
  · exact opens_openUp rfl rfl
  · exact opens_openUp rfl rfl

theorem State.endRow_rnd (id outcome reason : Nat) (egress : Option Int) (s : State) :
    (s.endRow id outcome reason egress).rnd = s.rnd ∧ (s.endRow id outcome reason egress).time = s.time := by
  obtain ⟨x, e⟩ := (State.endRow_within (id := id) (outcome := outcome) (reason := reason) (egress := egress) (s := s)).form
  rw [e]
  exact ⟨rfl, rfl⟩

theorem State.post_rnd (code : Nat) (payload : Fields) (s : State) :
    (s.post code payload).rnd = s.rnd ∧ (s.post code payload).time = s.time := by
  rw [reports_post]
  exact ⟨rfl, rfl⟩

/-- A participant that goes back to its tagged bank, its round cancelled. -/
def State.goBack (round : Nat) (t : State) : State :=
  ({ t with rnd := { t.rnd with part := .tagged, lastOutcome := 2 } }.post 0x0202 [(32, round)]).openUp 0x25 round true 0

theorem opens_goBack {round : Nat} {s t : State} (hup : t.rnd.up = s.rnd.up) (htime : t.time = s.time) :
    Opens 0x25 round s (t.goBack round) :=
  opens_openUp (by rw [(State.post_rnd _ _ _).1]; exact hup) (by rw [(State.post_rnd _ _ _).2]; exact htime)

theorem opens_onCancel (round : Nat) (s : State) : Opens 0x25 round s (s.onCancel round) := by
  unfold State.onCancel
  extract_lets back
  split_ifs
  · exact opens_goBack rfl rfl
  · split
    next id r _ =>
      obtain ⟨hrnd, htime⟩ := State.endRow_rnd id ocCancelled rsRoot none s
      split_ifs
      · exact opens_openUp rfl rfl
      · exact opens_goBack (by rw [hrnd]) htime
    next => exact opens_openUp rfl rfl
  · exact opens_openUp rfl rfl

/-- Relayed and then acted on, a frame opens the merge over what waited before. -/
theorem Opens.of_relayDown {kind round down : Nat} {f : DomFrame} {u v t : State} {b : Bool} (hv : u.acceptDomain f = (b, v))
    (h : Opens kind round (v.relayDown down f) t) : Opens kind round u t := by
  obtain ⟨hup, -, -, htime, -⟩ := State.relayDown_keeps down f v
  obtain ⟨-, htime', -⟩ := State.acceptDomain_keeps hv
  unfold Opens at h ⊢
  rwa [hup, htime, htime', State.acceptDomain_rnd hv] at h

theorem State.onPrepare_votes {round tag : Nat} {inst : Int} {s : State} (h : s.roundReasons true round tag inst = 0) :
    (s.onPrepare round tag inst).rnd.part = .prepared ∧ (s.onPrepare round tag inst).rnd.round = round
      ∧ (s.onPrepare round tag inst).rnd.inst = inst.toNat ∧ (s.onPrepare round tag inst).rnd.lastReasons = 0 := by
  simp only [State.onPrepare, h, if_true]
  exact ⟨rfl, rfl, rfl, rfl⟩

theorem State.onArm_unprepared {round : Nat} {inst : Int} {s : State} (h : s.rnd.part ≠ .prepared) :
    (s.onArm round inst).rnd.part = s.rnd.part ∧ (s.onArm round inst).cue = s.cue := by
  simp only [State.onArm, h, false_and, if_false]
  exact ⟨rfl, rfl⟩

theorem State.onCancel_prepared {round : Nat} {s : State} (hpart : s.rnd.part = .prepared) (hround : s.rnd.round = round) :
    (s.onCancel round).rnd.part = .tagged ∧ (s.onCancel round).rnd.lastOutcome = 2 := by
  have hback : s.onCancel round = s.goBack round := if_pos ⟨hround, hpart⟩
  have hopen : ∀ t : State, (t.openUp 0x25 round true 0).rnd = { t.rnd with up := (t.openUp 0x25 round true 0).rnd.up } := fun _ => rfl
  rw [hback, State.goBack, hopen, (State.post_rnd _ _ _).1]
  exact ⟨rfl, rfl⟩

/-! ### The root -/

theorem State.rootEnds_records (outcome : Nat) (s : State) : (s.rootEnds outcome).rnd.root = .idle
    ∧ (s.rootEnds outcome).rnd.rootRec.outcome = outcome ∧ (s.rootEnds outcome).rnd.rootRec.round = s.rnd.rootRec.round
    ∧ (s.rootEnds outcome).rnd.results = ((s.rootEnds outcome).rnd.rootRec :: s.rnd.results).take 16 := by
  rw [State.rootEnds, (State.post_rnd _ _ _).1]
  exact ⟨rfl, rfl, rfl, rfl⟩

theorem State.rnd_finish (p : Wait → Bool) (status : Nat) (payload : Wait → Fields) (s : State) :
    (s.finish p status payload).rnd = s.rnd := by
  rw [State.finish_within.eq]
  rfl

theorem State.rnd_finishAll (p : Wait → Bool) (status : Nat) (payload : Wait → Fields) (s : State) :
    (s.finishAll p status payload).rnd = s.rnd := by
  rw [State.finishAll_within.eq]
  rfl

/-- The root's round that it cancelled ends once its acks are in. -/
theorem State.rnd_rootAdvance_cancelled {u : State} (hroot : u.rnd.root = .cancelling) (hdue : u.upDue (u.rootUp 0x25) = true) :
    u.rootAdvance.rnd = (u.rootEnds 2).rnd := by
  unfold State.rootAdvance
  rw [hroot]
  dsimp only
  rw [if_pos hdue, State.rnd_finishAll, State.rnd_finish]

/-- The only message that waits to be merged is due, and is of no round of the root's own. -/
theorem State.upsDue_single {x : UpRec} {u : State} (hup : u.rnd.up = [x]) (hsent : x.sent = false) (hroot : u.rnd.root = .idle)
    (hwait : x.arrived + u.ackWait ≤ u.time.tick) :
    u.rnd.up.reverse.filter (fun e => !e.sent && !u.ownRound e && u.upDue e) = [x] := by
  rw [hup]
  simp [hsent, State.ownRound, hroot, State.upDue, hwait]

/-- The message that goes up is marked as sent. -/
def State.markUp (x : UpRec) (s : State) : State :=
  { s with rnd := { s.rnd with up := s.rnd.up.map (fun e => if e == x then { e with sent := true } else e) } }

theorem State.up_markUp {x : UpRec} {s : State} (hup : s.rnd.up = [x]) : (s.markUp x).rnd.up = [{ x with sent := true }] := by
  show s.rnd.up.map _ = _
  rw [hup, List.map_singleton, if_pos (beq_self_eq_true x)]

theorem State.sendUp_parent {x : UpRec} {s : State} {p : Nat} (hparent : s.dom.parentPort = some p) :
    s.sendUp x = (s.markUp x).sendDomain p x.kind x.fields := by
  unfold State.sendUp
  rw [hparent]
  rfl

/-- Settles O50: each event of Equinox rounds on the state the time it states has brought. -/
theorem roundEvents : Obligations.RoundEvents := by
  unfold Obligations.RoundEvents
  refine ⟨?prepareUntested, ?prepareOther, ?prepareNot, ?prepareOpens, ?votes, ?readyUntested, ?readyOther, ?readyNot, ?readyMerges,
    ?armUntested, ?armOther, ?armNot, ?armOpens, ?unprepared, ?armedUntested, ?armedOther, ?armedNot, ?armedMerges,
    ?cancelUntested, ?cancelOther, ?cancelNot, ?cancelOpens, ?goesBack, ?ackUntested, ?ackOther, ?ackNot, ?ackMerges,
    ?noneUp, ?dupUp, ?sendsUp, ?rootIdle, ?rootEarly, ?rootEnds, ?rootCancelled, ?rootCancels, ?unpreparedMiss, ?earlyMiss, ?misses⟩
  case prepareUntested | armUntested | cancelUntested =>
    intro dt f s u v hu hport hv
    exact takeDown_untested hu hport hv
  case prepareOther | armOther | cancelOther =>
    intro dt f s u v hu hport hv hkind
    exact takeDown_otherKind hu hport hv hkind
  case prepareNot | armNot | cancelNot =>
    intro dt f s u v hu hport hv _ hnot
    exact takeDown_notTaken hu hport hv hnot
  case readyUntested | armedUntested | ackUntested =>
    intro dt f s u v hu hport hv
    exact takeUp_untested hu hport hv
  case readyOther | armedOther | ackOther =>
    intro dt f s u v hu hport hv hkind
    exact takeUp_otherKind hu hport hv hkind
  case readyNot | armedNot | ackNot =>
    intro dt f s u v hu hport hv _ hnot
    exact takeUp_notChild hu hport hv hnot
  case readyMerges | armedMerges | ackMerges =>
    intro dt f s u v x hu hport hv hkind hchild hdup hup hxkind hround hsent hacked
    exact takeUp_merges hu hport hv hkind hchild hdup hup hxkind hround hsent hacked
  case prepareOpens =>
    intro dt f s u v hu hport hv hkind htakes
    exact ⟨_, takeDown_taken hu hport hv hkind htakes, (opens_onPrepare _ _ _ _).of_relayDown hv⟩
  case armOpens =>
    intro dt f s u v hu hport hv hkind htakes
    exact ⟨_, takeDown_taken hu hport hv hkind htakes, (opens_onArm _ _ _).of_relayDown hv⟩
  case cancelOpens =>
    intro dt f s u v hu hport hv hkind htakes
    exact ⟨_, takeDown_taken hu hport hv hkind htakes, (opens_onCancel _ _).of_relayDown hv⟩
  case votes =>
    intro dt f s u v hu hport hv hkind htakes hreasons
    exact ⟨_, takeDown_taken hu hport hv hkind htakes,
      State.onPrepare_votes (by rw [State.roundReasons_relayDown]; exact hreasons)⟩
  case unprepared =>
    intro dt f s u v hu hport hv hkind htakes hpart
    obtain ⟨-, hpart', -, -, hcue⟩ := State.relayDown_keeps 0x22 f v
    obtain ⟨hcue', -⟩ := State.acceptDomain_keeps hv
    have hrnd := State.acceptDomain_rnd hv
    refine ⟨_, takeDown_taken hu hport hv hkind htakes, ?_⟩
    obtain ⟨hsame, hcues⟩ := State.onArm_unprepared (round := frameRound f) (inst := frameInstant f) (s := v.relayDown 0x22 f)
      (by rw [hpart', hrnd]; exact hpart)
    exact ⟨by rw [hsame, hpart', hrnd], by rw [hcues, hcue, hcue']⟩
  case goesBack =>
    intro dt f s u v hu hport hv hkind htakes hpart hround
    obtain ⟨-, hpart', hround', -, -⟩ := State.relayDown_keeps 0x24 f v
    have hrnd := State.acceptDomain_rnd hv
    exact ⟨_, takeDown_taken hu hport hv hkind htakes,
      State.onCancel_prepared (by rw [hpart', hrnd]; exact hpart) (by rw [hround', hrnd]; exact hround)⟩
  case noneUp =>
    intro dt s u hu hup
    refine congrArg Host.Outcome.next ?_
    rw [hu, hup]
    exact ite_self _
  case dupUp =>
    intro dt s u hu hdup
    refine congrArg Host.Outcome.next ?_
    rw [hu]
    exact if_pos hdup
  case sendsUp =>
    intro dt s u x p hu hdup hkey hup hsent hroot hwait hparent hlink
    obtain ⟨fs, hsend⟩ := State.sendDomain_queues (port := p) (kind := x.kind) (payload := x.fields) (s := u.markUp x) hlink hkey
    refine ⟨u.sendUp x, congrArg Host.Outcome.next ?_, ?_⟩
    · rw [hu, State.upsDue_single hup hsent hroot hwait]
      exact if_neg (by simp [hdup])
    · beta_reduce
      rw [State.sendUp_parent hparent, hsend]
      exact ⟨State.up_markUp hup, rfl, fs, rfl⟩
  case rootIdle =>
    intro dt s u hu hroot
    refine congrArg Host.Outcome.next ?_
    rw [hu, State.rootAdvance, hroot]
  case rootEarly =>
    intro dt s u hu hroot hearly
    refine congrArg Host.Outcome.next ?_
    rw [hu, State.rootAdvance, hroot]
    exact if_neg (not_le.2 hearly)
  case rootEnds =>
    intro dt s u hu hroot hcome
    refine ⟨u.rootEnds 1, congrArg Host.Outcome.next ?_, State.rootEnds_records 1 u⟩
    rw [hu, State.rootAdvance, hroot]
    exact if_pos hcome
  case rootCancelled =>
    intro dt s u hu hroot hdue
    obtain ⟨hidle, houtcome, -⟩ := State.rootEnds_records 2 u
    refine ⟨(s.advance dt).rootAdvance, rfl, ?_⟩
    rw [hu]
    beta_reduce
    rw [State.rnd_rootAdvance_cancelled hroot hdue]
    exact ⟨hidle, houtcome⟩
  case rootCancels =>
    intro dt s u hu hroot hmissing hdue
    refine ⟨u.rootCancel false, congrArg Host.Outcome.next ?_, rfl⟩
    rw [hu, State.rootAdvance, hroot]
    exact (if_neg fun h => hmissing h.1).trans (if_pos hdue)
  case unpreparedMiss =>
    intro dt s u hu hpart
    refine congrArg Host.Outcome.next ?_
    rw [hu]
    exact if_neg fun h => hpart h.1
  case earlyMiss =>
    intro dt s u hu hearly
    refine congrArg Host.Outcome.next ?_
    rw [hu]
    exact if_neg fun h => not_le.2 hearly h.2
  case misses =>
    intro dt s u hu hpart hcome
    subst hu
    refine ⟨_, congrArg Host.Outcome.next (if_pos ⟨hpart, hcome⟩), ?_⟩
    rw [reports_post, reports_counterHalf]
    exact ⟨rfl, rfl⟩

end Sys2Proof.Machine
end

section
/-!
SUPPORT. O51: a request of more than 1,024 bytes that arrives in-band is refused for its length, which the clause on requests served does
not say.
-/
namespace Sys2Proof.Machine
set_option Elab.async false -- one declaration after the other: fewer threads at once

/-- A device whose port 0 is a trunk with in-band requests enabled, its firmware not running. -/
def inbandNode : State :=
  { banks := { active := { dom := 1, ptim := [(0, 0x100)] } }, ports := [(0, { link := .up })], keys := { cache := [(0, { mat := [1] })] }
    inb := { enable := true } }

/-- `SYS_PACE_GET` in a frame of 2,000 bytes, its tag left out. -/
def untaggedRequest : DomFrame := { kind := 0x30, bytes := 2000, seq := 1, payload := 0x0103 <<< 96 }

/-- The same with the tag that verifies. -/
def longRequest : DomFrame := { untaggedRequest with mac := frameExpected untaggedRequest 1 }

/-- The device once the frame is accepted. -/
def acceptedRequest : State :=
  (inbandNode.advance 0).updTrunk 0 (fun t => { t with seqs := Tbl.put t.seqs 0 1, badSince := none })

/-- The tag expected of a frame does not depend on the one it carries. -/
theorem frameExpected_mac (f : DomFrame) (mac key : Nat) : frameExpected { f with mac := mac } key = frameExpected f key := rfl

theorem State.macOk_signed {s : State} {f : DomFrame} {key mac : Nat} (hkey : s.domainKey = some key)
    (hmac : mac = frameExpected f key) : s.macOk { f with mac := mac } = true := by
  unfold State.macOk
  rw [hkey, Option.elim_some, frameExpected_mac, ← hmac]
  exact beq_self_eq_true mac

theorem macOk_longRequest : (inbandNode.advance 0).macOk longRequest = true :=
  State.macOk_signed (by decide +kernel) rfl

/-- A frame for this device is acted on. -/
theorem takeInband_taken {dt : Nat} {f : DomFrame} {answer : Bool} {act : State → State} {s u v : State} (hu : s.advance dt = u)
    (hport : f.port < 56) (hv : u.acceptDomain f = (true, v)) (hkind : f.kind = 0x30) (hanswer : DomFrame.answers f = answer)
    (htarget : DomFrame.target f = v.deviceId) : takeInband dt f answer act s = .next (act v) := by
  refine (if_pos hport).trans (congrArg Host.Outcome.next ?_)
  rw [hu]
  beta_reduce
  rw [hv]
  exact (if_neg (by simp [hkind, hanswer])).trans (if_neg (not_not_intro htarget))

theorem accepts_longRequest : (inbandNode.advance 0).acceptDomain longRequest = (true, acceptedRequest) := by
  unfold State.acceptDomain
  rw [if_neg (by decide +kernel), if_neg (by decide +kernel), if_neg (by decide +kernel), if_neg (by decide +kernel),
    if_neg (by decide +kernel), if_neg (by rw [macOk_longRequest]; decide), if_neg (by decide +kernel)]
  exact if_pos (by decide +kernel)

/-- How many in-band requests stand refused after a step. -/
def refusedRequests : Host.Outcome State Fault Refusal → Nat
  | .next t => t.inb.refused.length
  | _ => 0

/-- The request is taken and not relayed. -/
theorem exec_longRequest : exec (.inbandRequest 0 longRequest) inbandNode = .next (acceptedRequest.takeRequest longRequest) :=
  takeInband_taken rfl (by decide) accepts_longRequest rfl (by decide +kernel) (by decide +kernel)

/-- The request is refused. -/
theorem longRequest_refused : (acceptedRequest.takeRequest longRequest).inb.refused.length = 1 := by decide +kernel

/-- The request as firmware reads it. -/
def readRequest : Req :=
  { (reqOf 0 (DomFrame.message longRequest)).2 with src := .inband longRequest.port (DomFrame.origin longRequest) (DomFrame.txn longRequest) }

/-- Refutes O51: an in-band request too long for the interface is not served although every condition of the clause holds. -/
theorem not_bankEvents : ¬ Obligations.BankEvents := by
  unfold Obligations.BankEvents
  rintro ⟨-, -, -, -, -, -, -, -, -, -, -, -, -, -, -, -, -, -, -, -, -, -, -, serves, -⟩
  have hserved := serves 0 longRequest inbandNode _ acceptedRequest cmdSysPaceGet readRequest rfl (by decide) accepts_longRequest rfl
    (by decide +kernel) (by decide +kernel) (by decide +kernel) (by decide +kernel) rfl rfl (by decide +kernel) rfl
    (by decide +kernel) (by decide +kernel)
  have hnone : (Command.serve cmdSysPaceGet readRequest acceptedRequest).inb.refused.length = 0 := by decide +kernel
  have hcount := congrArg refusedRequests (exec_longRequest.symm.trans hserved)
  rw [refusedRequests, refusedRequests, longRequest_refused, hnone] at hcount
  exact absurd hcount (by decide)

end Sys2Proof.Machine
end

section
/-!
SUPPORT. O52: a time-aware relay sends no Sync of its own on a master port, which the clause on the Sync of a master port does not
say.
-/
namespace Sys2Proof.Machine
set_option Elab.async false -- one declaration after the other: fewer threads at once

/-- A relay of the IEEE 802.1AS profile: port 0 is a master, port 1 the slave that follows a master. -/
def relayNode : State :=
  { banks := { active := { ptp := [(0, 2 ^ 8 + 2 * 2 ^ 11 + 2 ^ 18), (1, 2 * 2 ^ 8 + 2 * 2 ^ 11)], ptim := [(0, 0)], ts := 2 ^ 96 } }
    ts := { ptp := true, masterId := some (0, 0) }, ports := [(0, { link := .up })] }

/-- How many copies wait in class 0 of port 0 after a step. -/
def waitingOnPort0 : Host.Outcome State Fault Refusal → Nat
  | .next t => (t.queue 0 0).length
  | _ => 0

/-- The relay sends no Sync of its own. -/
theorem relayNode_sends_none : waitingOnPort0 (exec (.ptpMessageSend 0 0 0) relayNode) = 0 := by decide +kernel

/-- Refutes O52: a Sync is due on the master port of a relay, and none is sent. -/
theorem not_timeServiceEvents : ¬ Obligations.TimeServiceEvents := by
  unfold Obligations.TimeServiceEvents
  rintro ⟨-, -, -, -, -, -, -, -, -, -, -, -, -, -, -, -, -, -, sends, -⟩
  obtain ⟨t, e, c, hqueue, -⟩ := sends 0 0 0 relayNode _ rfl (by decide) (by decide +kernel) rfl (by decide +kernel) rfl
    (by decide +kernel) (by decide +kernel) rfl (by decide +kernel) (by decide +kernel)
  have hclass : (relayNode.advance 0).banks.active.tsClass = 0 := by decide +kernel
  have hnone := relayNode_sends_none
  rw [hclass] at hqueue
  rw [e, waitingOnPort0, hqueue, List.length_append] at hnone
  exact absurd hnone (by simp)

end Sys2Proof.Machine
end

section
/-!
SUPPORT. O53: the lanes of the big-number engine, the writes of the key store, and the entropy source.
-/
namespace Sys2Proof.Machine
set_option Elab.async false -- one declaration after the other: fewer threads at once

/-! ### The engine -/

theorem State.bn_answerJob (j : BnJob) (status : Nat) (f : Fields) (s : State) : (s.answerJob j status f).bn = s.bn := by
  rw [State.answerJob_within.eq]
  rfl

theorem State.bn_finish (p : Wait → Bool) (status : Nat) (payload : Wait → Fields) (s : State) :
    (s.finish p status payload).bn = s.bn := by
  rw [State.finish_within.eq]
  rfl

theorem State.bn_finishAll (p : Wait → Bool) (status : Nat) (payload : Wait → Fields) (s : State) :
    (s.finishAll p status payload).bn = s.bn := by
  rw [State.finishAll_within.eq]
  rfl

theorem State.bn_fault (code master access address : Nat) (s : State) : (s.fault code master access address).bn = s.bn := by
  rw [State.fault_within.eq]
  rfl

theorem State.bn_condition (code master access address : Nat) (s : State) : (s.condition code master access address).bn = s.bn := by
  rw [State.condition_within.eq]
  rfl

theorem State.bn_conditionEnds (code : Nat) (s : State) : (s.conditionEnds code).bn = s.bn := by
  rw [State.conditionEnds_within.eq]
  rfl

theorem State.bn_post (code : Nat) (payload : Fields) (s : State) : (s.post code payload).bn = s.bn := by rw [reports_post]

theorem State.lane_setLane (k j : Nat) (l : Lane) (s : State) : (s.setLane k l).lane j = if j = k then l else s.lane j :=
  Tbl.getD_put _ _ _ _ _

theorem State.lane_finishAll (p : Wait → Bool) (status : Nat) (payload : Wait → Fields) (s : State) (k : Nat) :
    (s.finishAll p status payload).lane k = s.lane k := by
  rw [State.lane, State.bn_finishAll, ← State.lane]

/-- A counter of the engine moves no lane. -/
theorem State.lanes_bnCount (i n : Nat) (s : State) : (s.bnCount i n).bn.lanes = s.bn.lanes := by
  rw [State.bnCount, reports_counterHalf]
  dsimp only
  split_ifs <;> rfl

/-- The counters beside `OPS_DONE` leave it as it was. -/
theorem State.opsDone_bnCount {i : Nat} (n : Nat) (s : State) (h : i ≠ 0) : (s.bnCount i n).bn.opsDone = s.bn.opsDone := by
  rw [State.bnCount, reports_counterHalf]
  dsimp only
  rw [if_neg h]
  split_ifs <;> rfl

theorem State.opsDone_bnCount_zero (n : Nat) (s : State) : (s.bnCount 0 n).bn.opsDone = inc48 s.bn.opsDone n := by
  rw [State.bnCount, reports_counterHalf]
  rfl

theorem State.bn_emit (e : Out) (s : State) : (s.emit e).bn = s.bn := rfl

/-- A lane that releases holds no operation, zeroises for 8 µs, and counts one operation more. -/
theorem State.releaseLane_frees (k : Nat) (j : BnJob) (glitch : Bool) (s : State) :
    (s.releaseLane k j glitch).bn.lanes = Tbl.put s.bn.lanes k { job := none, zeroDue := some (s.time.tick + 8 * tickUs) }
      ∧ (s.releaseLane k j glitch).bn.opsDone = inc48 s.bn.opsDone 1 := by
  unfold State.releaseLane
  generalize s.jobParts j = parts
  obtain ⟨key, operands⟩ := parts
  dsimp only
  generalize compute (j.wait.req.f 0 8) key operands = result
  rw [State.bn_answerJob]
  have hfreed : (s.setLane k { job := none, zeroDue := some (s.time.tick + 8 * tickUs) }).bn.lanes
      = Tbl.put s.bn.lanes k { job := none, zeroDue := some (s.time.tick + 8 * tickUs) } := rfl
  have hcount : (s.setLane k { job := none, zeroDue := some (s.time.tick + 8 * tickUs) }).bn.opsDone = s.bn.opsDone := rfl
  generalize s.setLane k { job := none, zeroDue := some (s.time.tick + 8 * tickUs) } = v at hfreed hcount
  rw [← hfreed, ← hcount]
  constructor
  · split_ifs <;> simp only [State.bn_emit, State.bn_fault, State.lanes_bnCount]
  · split_ifs <;> simp [State.bn_fault, State.opsDone_bnCount, State.opsDone_bnCount_zero]

/-! ### The key store -/

theorem State.keys_finish (p : Wait → Bool) (status : Nat) (payload : Wait → Fields) (s : State) :
    (s.finish p status payload).keys = s.keys := by
  rw [State.finish_within.eq]
  rfl

/-- A write of one slot that is verified. -/
theorem State.writeDone_stores {w : KeyWrite} {k : Nat} {x : KeySlot} {s : State} (hwrites : s.keys.writes = [w])
    (hslots : w.slots = [(k, x)]) (hrotation : w.rotation = false) :
    (s.writeDone w).keys = { s.keys with
      slot := Tbl.put s.keys.slot k (s.commitSlot k x), mirror := some (Tbl.put s.keys.slot k (s.commitSlot k x)), salt := true
      writes := [] } := by
  unfold State.writeDone
  rw [hslots, hwrites, hrotation]
  simp only [List.foldl_cons, List.foldl_nil, Bool.false_eq_true, if_false]
  split_ifs <;> split <;> simp [State.keys_finish]

/-- Settles O53: each event of the big-number engine and the key store on the state the time it states has brought. -/
theorem keyEvents : Obligations.KeyEvents := by
  unfold Obligations.KeyEvents
  refine ⟨?noneQueued, ?starts, ?breach, ?noJob, ?early, ?overtime, ?releases, ?notZeroing, ?zeroing, ?zeroed, ?notDraining,
    ?drained, ?noWrite, ?stopped, ?writes, ?sameHealth, ?health⟩
  case noneQueued =>
    intro dt data s u hu hqueue
    refine congrArg Host.Outcome.next ?_
    rw [hu, hqueue]
  case starts =>
    intro dt data s u j rest hu hqueue hidle hbreach hinline
    have hfree : (List.range 4).find? (fun k => (u.lane k).idle) = some 0 := List.find?_cons_of_pos hidle
    refine ⟨({ u with bn := { u.bn with queue := rest } }).setLane 0
      { job := some { j with t0 := u.time.tick, release := u.time.tick + opUs (j.wait.req.f 0 8) * tickUs } },
      congrArg Host.Outcome.next ?_, rfl, ?_⟩
    · rw [hu, hqueue, hfree]
      dsimp only
      rw [if_neg (by rw [hbreach]; decide), if_neg (by rw [hinline]; decide)]
    · rw [State.lane_setLane, if_pos rfl]
  case breach =>
    intro dt data s u j rest hu hqueue hidle hbreach
    have hfree : (List.range 4).find? (fun k => (u.lane k).idle) = some 0 := List.find?_cons_of_pos hidle
    refine ⟨({ u with bn := { u.bn with queue := rest } }).answerJob j stNotPermitted
      (bnReply (j.wait.req.f 0 8) false false false 0), congrArg Host.Outcome.next ?_, State.bn_answerJob _ _ _ _⟩
    rw [hu, hqueue, hfree]
    exact if_pos hbreach
  case noJob =>
    intro dt lane glitch late s u hu hlane hjob
    refine (if_neg (by omega)).trans (congrArg Host.Outcome.next ?_)
    rw [hu, hjob]
  case early =>
    intro dt lane glitch late s u j hu hlane hjob hearly
    refine (if_neg (by omega)).trans (congrArg Host.Outcome.next ?_)
    rw [hu, hjob]
    exact if_pos hearly
  case overtime =>
    intro dt lane glitch late s u j hu hlane hjob hdue hlate hbelow
    refine ⟨u.setLane lane { job := some { j with overtime := true, release := j.release + opUs (j.wait.req.f 0 8) * tickUs } },
      (if_neg (by omega)).trans (congrArg Host.Outcome.next ?_), ?_⟩
    · rw [hu, hjob]
      exact (if_neg (by omega)).trans (if_pos ⟨hlate, hbelow⟩)
    · beta_reduce
      rw [State.lane_setLane, if_pos rfl]
  case releases =>
    intro dt lane glitch late s u j hu hlane hjob hdue hlate
    obtain ⟨hlanes, hops⟩ := State.releaseLane_frees lane j glitch u
    refine ⟨u.releaseLane lane j glitch, (if_neg (by omega)).trans (congrArg Host.Outcome.next ?_), ?_⟩
    · rw [hu, hjob]
      exact (if_neg (by omega)).trans (if_neg (by simp [hlate]))
    · have hfreed : (u.releaseLane lane j glitch).lane lane = { job := none, zeroDue := some (u.time.tick + 8 * tickUs) } := by
        rw [State.lane, hlanes, Tbl.getD_put, if_pos rfl]
      beta_reduce
      rw [hfreed]
      exact ⟨rfl, rfl, hops⟩
  case notZeroing =>
    intro dt lane s u hu hlane hdue
    refine (if_neg (by omega)).trans (congrArg Host.Outcome.next ?_)
    rw [hu, hdue]
    rfl
  case zeroing =>
    intro dt lane s u d hu hlane hdue hearly
    refine (if_neg (by omega)).trans (congrArg Host.Outcome.next ?_)
    rw [hu, hdue, Option.elim_some]
    exact if_neg (by simpa using hearly)
  case zeroed =>
    intro dt lane s u d hu hlane hdue hpast
    refine ⟨_, (if_neg (by omega)).trans (congrArg Host.Outcome.next (if_pos ?_)), ?_⟩
    · rw [hu, hdue, Option.elim_some]
      exact decide_eq_true hpast
    · dsimp only
      rw [hu, State.lane_finishAll, State.lane_setLane, if_pos rfl]
  case notDraining =>
    intro dt s u hu hdraining
    refine congrArg Host.Outcome.next ?_
    rw [hu]
    exact if_neg (by simp [hdraining])
  case drained =>
    intro dt s u hu hdraining hidle
    refine ⟨({ u with bn := { u.bn with draining := false } }).finish (fun w => w.obj = some Obj.bn) stOk (fun _ => []),
      congrArg Host.Outcome.next ?_, State.bn_finish _ _ _ _⟩
    rw [hu]
    exact if_pos ⟨hdraining, hidle⟩
  case noWrite =>
    intro dt s u hu hwrites
    refine congrArg Host.Outcome.next ?_
    rw [hu, hwrites]
  case stopped =>
    intro dt s u hu hstopped
    refine congrArg Host.Outcome.next ?_
    rw [hu]
    split
    · exact if_neg (by simp [hstopped])
    · rfl
  case writes =>
    intro dt s u w k x hu hwrites hslots hrotation hrunning hwarn herase hready hbusy hnamed
    have hstore := State.writeDone_stores hwrites hslots hrotation
    refine ⟨u.writeDone w, congrArg Host.Outcome.next ?_, ?_⟩
    · rw [hu, hwrites]
      dsimp only
      rw [hslots]
      exact (if_pos (by simp [hrunning, hwarn, herase, hready, hbusy])).trans (if_neg (by simp [hnamed]))
    · beta_reduce
      rw [State.slot, hstore]
      exact ⟨rfl, by rw [Tbl.getD_put, if_pos rfl], rfl, rfl⟩
  case sameHealth =>
    intro dt good s u hu hsame
    refine congrArg Host.Outcome.next ?_
    rw [hu]
    exact if_pos hsame
  case health =>
    intro dt good s u hu hchanged
    refine ⟨_, congrArg Host.Outcome.next (if_neg (by rw [hu]; exact hchanged)), ?_⟩
    rw [hu]
    dsimp only
    split_ifs
    · rw [State.bn_conditionEnds, State.bn_post]
    · rw [State.bn_condition, State.bn_post]

end Sys2Proof.Machine
end

section
/-!
SUPPORT. O54: the write-back of a corrected line may meet the armed flip mask (R499, R510), and its verify read then counts a second
correction, which the clause on a corrected line does not say.
-/
namespace Sys2Proof.Machine
set_option Elab.async false -- one declaration after the other: fewer threads at once

/-- The flip mask is armed for one symbol of line 0 of region 0. -/
def maskArmed : State := { mem := { flip := 16 + 2 ^ 64 } }

/-- The count of corrected events after a step. -/
def corrections : Host.Outcome State Fault Refusal → Nat
  | .next t => Tbl.getD t.mem.counters 0 0
  | _ => 0

/-- The correction and its verify read count two events. -/
theorem corrections_maskArmed : corrections (exec (.dramReadCorrect 0 0 0 0 [(0, 0)] []) maskArmed) = 2 := by decide +kernel

/-- Refutes O54: a line with one symbol in error counts two corrections where the flip mask is armed for it. -/
theorem not_memoryEvents : ¬ Obligations.MemoryEvents := by
  unfold Obligations.MemoryEvents
  rintro ⟨-, corrects, -⟩
  obtain ⟨t, e, hcount, -⟩ := corrects 0 0 0 0 [(0, 0)] [] maskArmed _ 0 0 rfl (by decide) rfl rfl (by decide) (by decide) rfl
    (by decide +kernel)
  have htwo := corrections_maskArmed
  rw [e, corrections, hcount] at htwo
  exact absurd htwo (by decide +kernel)

end Sys2Proof.Machine
end

section
/-!
SUPPORT. O55: fault events and records, the sentinel's takeover and its bank check, the Midwinter record and core exceptions.
-/
namespace Sys2Proof.Machine
set_option Elab.async false -- one declaration after the other: fewer threads at once

/-! ### What an event leaves of the sources -/

theorem State.src_updSrc (s : State) (code c : Nat) (f : SrcS → SrcS) :
    (s.updSrc code f).src c = if c = code then f (s.src code) else s.src c :=
  Tbl.getD_put _ _ _ _ _

/-- Every source has in `t` the events and the standing condition it has in `s`; `FROZEN` is kept while the bank check is due. -/
structure SourcesKept (s t : State) : Prop where
  events : ∀ c, (t.src c).events = (s.src c).events
  standing : ∀ c, (t.src c).standing = (s.src c).standing
  due : t.flt.checkDue = s.flt.checkDue
  frozen : s.flt.checkDue = true → t.flt.frozen = s.flt.frozen

namespace SourcesKept
variable {s t u : State}

theorem refl (s : State) : SourcesKept s s := ⟨fun _ => rfl, fun _ => rfl, rfl, fun _ => rfl⟩

theorem after (k : SourcesKept t u) (h : SourcesKept s t) : SourcesKept s u where
  events c := (k.events c).trans (h.events c)
  standing c := (k.standing c).trans (h.standing c)
  due := k.due.trans h.due
  frozen e := (k.frozen (h.due.trans e)).trans (h.frozen e)

theorem of_flt (hsrc : t.flt.src = s.flt.src) (hdue : t.flt.checkDue = s.flt.checkDue) (hfrozen : t.flt.frozen = s.flt.frozen) :
    SourcesKept s t where
  events c := congrArg (fun x => (Tbl.getD x c {}).events) hsrc
  standing c := congrArg (fun x => (Tbl.getD x c {}).standing) hsrc
  due := hdue
  frozen _ := hfrozen

theorem put (h : SourcesKept s t) (hsrc : u.flt.src = t.flt.src := by rfl) (hdue : u.flt.checkDue = t.flt.checkDue := by rfl)
    (hfrozen : u.flt.frozen = t.flt.frozen := by rfl) : SourcesKept s u :=
  .after (.of_flt hsrc hdue hfrozen) h

theorem of_reports (h : Reports s t) : SourcesKept s t := by
  rw [h]
  exact .of_flt rfl rfl rfl

theorem post {code : Nat} {p : Fields} (h : SourcesKept s t) : SourcesKept s (t.post code p) := .after (.of_reports (reports_post _ _ _)) h

theorem setRecord {i : Nat} {r : Record} (h : SourcesKept s t) : SourcesKept s (t.setRecord i r) := .put h

theorem updRecord {i : Nat} {f : Record → Record} (h : SourcesKept s t) : SourcesKept s (t.updRecord i f) := .setRecord h

theorem quieten {i : Nat} (h : SourcesKept s t) : SourcesKept s (t.quieten i) := by
  rw [State.quieten_within.eq]
  exact .put h

theorem linkInjected {code i : Nat} (h : SourcesKept s t) : SourcesKept s (t.linkInjected code i) := by
  rw [State.linkInjected_within.eq]
  exact .put h

theorem updSrc {code : Nat} {f : SrcS → SrcS} (h : SourcesKept s t) (he : (f (t.src code)).events = (t.src code).events)
    (hs : (f (t.src code)).standing = (t.src code).standing) : SourcesKept s (t.updSrc code f) := by
  have changed : SourcesKept t (t.updSrc code f) := by
    refine ⟨fun c => ?_, fun c => ?_, rfl, fun _ => rfl⟩
    · rw [State.src_updSrc]
      split_ifs with hc
      · rw [hc, he]
      · rfl
    · rw [State.src_updSrc]
      split_ifs with hc
      · rw [hc, hs]
      · rfl
  exact .after changed h

theorem claim {i : Nat} (h : SourcesKept s t) : SourcesKept s (t.claim i) := by
  refine .after ?_ h
  unfold State.claim
  split_ifs
  · exact ⟨fun _ => rfl, fun _ => rfl, rfl, fun e => by simp [e]⟩
  · exact .refl t

theorem ite {c : Prop} {dec : Decidable c} (ht : SourcesKept s t) (hu : SourcesKept s u) : SourcesKept s (if c then t else u) := by
  split_ifs
  · exact ht
  · exact hu

end SourcesKept

theorem State.adopt_sourcesKept (s : State) : SourcesKept s s.adopt := by
  unfold State.adopt
  split
  · exact .refl s
  · split
    · exact .post (.updSrc (.setRecord (.put (.claim (.refl s)))) rfl rfl)
    · exact .refl s

theorem State.settleFaults_sourcesKept (old s : State) : SourcesKept s (State.settleFaults old s) := by
  have settled : SourcesKept s.adopt s.adopt.driveFaultN := by
    rw [State.driveFaultN_within.eq]
    exact .of_flt rfl rfl rfl
  exact .after (.of_reports (reports_noteFrom _ _)) (.after settled s.adopt_sourcesKept)

/-- The status of a source with one more event. -/
def SrcS.counted (x : SrcS) : SrcS := { x with events := (x.events + 1) % 2 ^ 48 }

/-- Of the sources, an event changes the count of events of its own alone. -/
theorem State.faultEvent_sourcesKept (code master access address : Nat) (injected : Bool) (s : State) :
    SourcesKept (s.updSrc code SrcS.counted) (s.faultEvent code master access address injected) := by
  unfold State.faultEvent
  extract_lets +onlyGivenNames s0 merge
  have h0 : SourcesKept (s.updSrc code SrcS.counted) s0 := .refl _
  clear_value s0 merge
  split
  · exact .after (State.settleFaults_sourcesKept _ _) (.updRecord h0)
  extract_lets +onlyGivenNames sv lastAt old cnt severe s1
  have h1 : SourcesKept (s.updSrc code SrcS.counted) s1 := .updSrc h0 (by split_ifs <;> rfl) (by split_ifs <;> rfl)
  clear_value s1
  split
  · extract_lets +onlyGivenNames r r1 s2
    have h2 : SourcesKept (s.updSrc code SrcS.counted) s2 := by
      unfold s2
      split
      · exact .ite (.quieten (.post (.setRecord h1))) (.setRecord h1)
      · exact .quieten (.setRecord h1)
    clear_value s2
    exact .after (State.settleFaults_sourcesKept _ _) (.ite h2 (.linkInjected h2))
  · split
    · extract_lets +onlyGivenNames st r c
      have hc : SourcesKept (s.updSrc code SrcS.counted) c := .claim h1
      clear_value c
      extract_lets +onlyGivenNames _ s2 s3
      have h2 : SourcesKept (s.updSrc code SrcS.counted) s2 := .updSrc (.setRecord (.put hc)) rfl rfl
      clear_value s2
      exact .after (State.settleFaults_sourcesKept _ _) (.post (.ite h2 (.linkInjected h2)))
    · exact .after (State.settleFaults_sourcesKept _ _)
        (.after (.of_reports (reports_counterHalf _ _ _ _ _ _)) (.updSrc (.put h1) rfl rfl))

theorem State.src_fault (code master access address : Nat) (s : State) :
    ((s.fault code master access address).src code).events = ((s.src code).events + 1) % 2 ^ 48
      ∧ ((s.fault code master access address).src code).standing = (s.src code).standing := by
  have kept := s.faultEvent_sourcesKept code master access address false
  have own : (s.updSrc code SrcS.counted).src code = (s.src code).counted := by rw [State.src_updSrc, if_pos rfl]
  exact ⟨(kept.events code).trans (congrArg SrcS.events own), (kept.standing code).trans ((congrArg SrcS.standing own).trans rfl)⟩

/-- A condition that begins to stand is one event of its source. -/
theorem State.src_condition {code master access address : Nat} {s : State} (h : (s.src code).standing = false) :
    ((s.condition code master access address).src code).standing = true
      ∧ ((s.condition code master access address).src code).events = ((s.src code).events + 1) % 2 ^ 48 := by
  rw [State.condition, if_neg (by rw [h]; decide)]
  have own : (s.updSrc code fun x => { x with standing := true }).src code = { s.src code with standing := true } := by
    rw [State.src_updSrc, if_pos rfl]
  obtain ⟨events, standing⟩ := (s.updSrc code fun x => { x with standing := true }).src_fault code master access address
  rw [own] at events standing
  exact ⟨standing, events⟩

/-- A further takeover counts as one more consecutive one, whatever image it starts. -/
theorem State.consec_chooseImage (n : Nat) (s : State) : (s.chooseImage n).flt.consec = n := by
  unfold State.chooseImage
  dsimp only
  split_ifs
  · rfl
  · rw [State.fault_within.eq]
    rfl
  · rfl

/-- Choosing the image of a takeover whose bank check is due leaves `FROZEN` alone. -/
theorem State.frozen_chooseImage {n : Nat} {s : State} (h : s.flt.checkDue = true) : (s.chooseImage n).flt.frozen = s.flt.frozen := by
  unfold State.chooseImage
  dsimp only
  split_ifs
  · rfl
  · exact (State.faultEvent_sourcesKept _ _ _ _ _ _).frozen h
  · rfl

theorem State.fw_swap (w : Wait) (s : State) : (s.swap w).fw = s.fw := by
  rw [State.swap_within.eq]
  rfl

theorem State.fw_postWindow (opcode status : Nat) (s : State) : (s.postWindow opcode status).fw = s.fw := by
  rw [State.postWindow_within.eq]
  rfl

theorem Reports.fw {s t : State} (h : Reports s t) : t.fw = s.fw := by rw [h]

/-- Firmware that is stopped does not run, whatever swap hardware still makes. -/
theorem State.stopped_stopFirmware (s : State) : s.stopFirmware.fw.running = false := by
  unfold State.stopFirmware
  split_ifs with h
  · simpa using h
  extract_lets +onlyGivenNames swap lost held img _ _ _ _ _ _ _ _ _ _ s1 s2
  have h1 : s1.fw.running = false := rfl
  clear_value s1
  have h2 : s2.fw.running = false := by
    unfold s2
    split
    · rw [State.fw_postWindow, h1]
    · exact h1
  clear_value s2 swap
  rw [(reports_noteFrom _ _).fw]
  cases swap with
  | none => exact h2
  | some w => exact (congrArg FwS.running (State.fw_swap w s2)).trans h2

/-! ### The takeover -/

theorem Reports.flt {s t : State} (h : Reports s t) : t.flt = s.flt := by rw [h]

theorem State.flt_writeMidwinter (writing : Bool) (code : Nat) (injected : Bool) (failed : Nat) (s : State) :
    (s.writeMidwinter writing code injected failed).flt = s.flt := by
  rw [State.writeMidwinter_within.eq]

theorem State.fw_writeMidwinter (writing : Bool) (code : Nat) (injected : Bool) (failed : Nat) (s : State) :
    (s.writeMidwinter writing code injected failed).fw = s.fw := by
  rw [State.writeMidwinter_within.eq]

/-- Choosing the image changes the image to start, and of the takeover its count and whether the cores are held. -/
theorem State.chooseImage_keeps (n : Nat) (s : State) : (s.chooseImage n).fw.running = s.fw.running
    ∧ (s.chooseImage n).flt.takeSource = s.flt.takeSource ∧ (s.chooseImage n).flt.takeAt = s.flt.takeAt
    ∧ (s.chooseImage n).flt.checkDue = s.flt.checkDue ∧ (s.chooseImage n).flt.takeovers = s.flt.takeovers := by
  obtain ⟨x, e⟩ := (State.chooseImage_within (n := n) (s := s)).form
  rw [e]
  exact ⟨rfl, rfl, rfl, rfl, rfl⟩

theorem State.faultEvent_keeps (code master access address : Nat) (injected : Bool) (s : State) :
    (s.faultEvent code master access address injected).fw = s.fw
      ∧ (s.faultEvent code master access address injected).flt.takeovers = s.flt.takeovers := by
  obtain ⟨x, e⟩ := (State.faultEvent_within (code := code) (master := master) (access := access) (address := address)
    (injected := injected) (s := s)).form
  rw [e]
  exact ⟨rfl, rfl⟩

theorem State.takeovers_stopFirmware (s : State) : s.stopFirmware.flt.takeovers = s.flt.takeovers := by
  rw [State.stopFirmware_within.eq]

/-- A takeover of running cores stops firmware, freezes the part until its bank check, and is counted. -/
theorem State.takeover_takes {code channel : Nat} {injected : Bool} {s : State} (h : s.coreRuns = true) :
    (s.takeover code channel injected).fw.running = false ∧ (s.takeover code channel injected).flt.frozen = true
      ∧ (s.takeover code channel injected).flt.takeSource = code
      ∧ (s.takeover code channel injected).flt.takeAt = some s.time.tick
      ∧ (s.takeover code channel injected).flt.checkDue = true
      ∧ (s.takeover code channel injected).flt.takeovers = min (s.flt.takeovers + 1) 65535 := by
  unfold State.takeover
  rw [if_neg (by rw [h]; decide)]
  extract_lets failed n s1 merged s2 i s3 _ s4 s5 _ s6
  have h1 : s1.fw.running = false ∧ s1.flt.takeovers = s.flt.takeovers := ⟨s.stopped_stopFirmware, s.takeovers_stopFirmware⟩
  clear_value s1
  have h2 : s2.fw.running = false ∧ s2.flt.takeovers = s.flt.takeovers := by
    obtain ⟨hfw, htakeovers⟩ := s1.faultEvent_keeps code 3 (if code = 1 then 5 else 6) (channel % 65536) injected
    exact ⟨(congrArg FwS.running hfw).trans h1.1, htakeovers.trans h1.2⟩
  clear_value s2 i
  have h3 : s3.fw.running = false ∧ s3.flt.takeovers = s.flt.takeovers := by
    unfold s3
    split <;> exact h2
  clear_value s3
  have h5 : s5.fw.running = false ∧ s5.flt = s4.flt := by
    refine ⟨?_, State.flt_writeMidwinter _ _ _ _ _⟩
    exact (congrArg FwS.running (State.fw_writeMidwinter _ _ _ _ _)).trans h3.1
  have h4 : s4.flt.frozen = true ∧ s4.flt.takeSource = code ∧ s4.flt.checkDue = true
      ∧ s4.flt.takeovers = min (s.flt.takeovers + 1) 65535 := ⟨rfl, rfl, rfl, by rw [← h3.2]⟩
  clear_value s5 s4
  obtain ⟨hrunning, hsource, -, hdue, htakeovers⟩ := State.chooseImage_keeps n { s5 with fw := { s5.fw with startReason := 8 } }
  have hfrozen : s6.flt.frozen = s5.flt.frozen :=
    State.frozen_chooseImage (n := n) (s := { s5 with fw := { s5.fw with startReason := 8 } }) ((congrArg FltS.checkDue h5.2).trans h4.2.2.1)
  have h6 : s6.fw.running = false ∧ s6.flt.takeSource = code ∧ s6.flt.checkDue = true
      ∧ s6.flt.takeovers = min (s.flt.takeovers + 1) 65535 :=
    ⟨hrunning.trans h5.1, hsource.trans ((congrArg FltS.takeSource h5.2).trans h4.2.1),
      hdue.trans ((congrArg FltS.checkDue h5.2).trans h4.2.2.1),
      htakeovers.trans ((congrArg FltS.takeovers h5.2).trans h4.2.2.2)⟩
  rw [h5.2, h4.1] at hfrozen
  clear_value s6
  obtain ⟨hrunning, hsource, hdue, htakeovers⟩ := h6
  rw [(reports_noteFrom _ _).fw, (reports_noteFrom _ _).flt]
  exact ⟨hrunning, hfrozen, hsource, rfl, hdue, htakeovers⟩

/-! ### The records -/

theorem State.noneSevere_service {s : State} (none : s.noneSevere) (i : Nat) : (s.service i).noneSevere := by
  unfold State.noneSevere
  rw [State.service_within.eq]
  exact none

/-- Servicing a record marks it and its tick, whether it goes quiet or not. -/
theorem State.record_service (i : Nat) (s : State) :
    ((s.service i).record i).serviced = true ∧ ((s.service i).record i).servicedAt = s.time.tick := by
  unfold State.service State.quieten
  dsimp only
  split_ifs <;> simp [State.updRecord, State.record_setRecord]

/-- Of one record that `p` picks, clearing those it picks leaves it cleared. -/
theorem State.clearWhere_single {p : Record → Bool} {s : State} {i : Nat} {r : Record} (h : s.flt.records = [(i, r)])
    (hp : p r = true) (none : s.noneSevere) : ((s.clearWhere p).record i).state = .cleared := by
  have picked : s.clearWhere p = State.settleFaults s (s.clearRecord i) := by
    rw [State.clearWhere, h, List.filter_cons, if_pos hp, List.filter_nil]
    rfl
  rw [picked, State.record_settleFaults (State.noneSevere_clearRecord none i), State.record_clearRecord]

theorem State.clearWhere_nil {p : Record → Bool} {s : State} (h : s.flt.records = []) : s.clearWhere p = s := by
  rw [State.clearWhere, h]
  rfl

/-! ### The bank check -/

/-- Firmware's word on the banks after a takeover: the check is no longer due, and a failure stays known. -/
def State.banksChecked (same : Bool) (s : State) : State :=
  { s with flt := { s.flt with checkDue := false, checkFailed := s.flt.checkFailed || !same }, banks := { s.banks with checkOk := same } }

/-- The record of the takeover is serviced, or `FROZEN` released where none holds it. -/
def State.takeoverChecked (s : State) : State :=
  match s.flt.takeRec with
  | some i => if within 1 3 (s.record i).source then s.service i else s
  | none => if s.takeEntry ∨ s.flt.checkFailed then s else { s with flt := { s.flt with frozen := false } }

theorem State.takeoverChecked_keeps (s : State) : s.takeoverChecked.flt.checkDue = s.flt.checkDue
    ∧ s.takeoverChecked.flt.checkFailed = s.flt.checkFailed ∧ s.takeoverChecked.banks = s.banks := by
  unfold State.takeoverChecked
  split
  · split_ifs
    · rw [State.service_within.eq]
      exact ⟨rfl, rfl, rfl⟩
    · exact ⟨rfl, rfl, rfl⟩
  · split_ifs <;> exact ⟨rfl, rfl, rfl⟩

theorem State.fault_keepsCheck (code master access address : Nat) (s : State) :
    (s.fault code master access address).flt.checkDue = s.flt.checkDue
      ∧ (s.fault code master access address).flt.checkFailed = s.flt.checkFailed
      ∧ (s.fault code master access address).banks = s.banks := by
  obtain ⟨x, e⟩ := (State.fault_within (code := code) (master := master) (access := access) (address := address) (s := s)).form
  rw [e]
  exact ⟨rfl, rfl, rfl⟩

theorem State.settleFaults_keepsCheck (old s : State) : (State.settleFaults old s).flt.checkDue = s.flt.checkDue
    ∧ (State.settleFaults old s).flt.checkFailed = s.flt.checkFailed ∧ (State.settleFaults old s).banks = s.banks := by
  obtain ⟨x, e⟩ := (State.settleFaults_within (old := old) (s := s)).form
  rw [e]
  exact ⟨rfl, rfl, rfl⟩

/-- What the bank check answers stands at its end, whatever it settles. -/
theorem State.bankCheck_keeps (same : Bool) (old s : State) :
    let t := State.settleFaults old (if same then (s.banksChecked same).takeoverChecked
      else (s.banksChecked same).takeoverChecked.fault 0x05 1 1 0)
    t.flt.checkDue = false ∧ t.banks = { s.banks with checkOk := same } ∧ t.flt.checkFailed = (s.flt.checkFailed || !same) := by
  obtain ⟨hdue, hfailed, hbanks⟩ := (s.banksChecked same).takeoverChecked_keeps
  generalize (s.banksChecked same).takeoverChecked = u at hdue hfailed hbanks
  have checked : (if same then u else u.fault 0x05 1 1 0).flt.checkDue = false
      ∧ (if same then u else u.fault 0x05 1 1 0).banks = { s.banks with checkOk := same }
      ∧ (if same then u else u.fault 0x05 1 1 0).flt.checkFailed = (s.flt.checkFailed || !same) := by
    split_ifs
    · exact ⟨hdue, hbanks, hfailed⟩
    · obtain ⟨fdue, ffailed, fbanks⟩ := u.fault_keepsCheck 0x05 1 1 0
      exact ⟨fdue.trans hdue, fbanks.trans hbanks, ffailed.trans hfailed⟩
  generalize (if same then u else u.fault 0x05 1 1 0) = v at checked
  obtain ⟨sdue, sfailed, sbanks⟩ := State.settleFaults_keepsCheck old v
  exact ⟨sdue.trans checked.1, sbanks.trans checked.2.1, sfailed.trans checked.2.2⟩

/-! ### Exceptions and stored records -/

theorem State.excs_finish (p : Wait → Bool) (status : Nat) (payload : Wait → Fields) (s : State) :
    (s.finish p status payload).flt.excs = s.flt.excs := by
  rw [State.finish_within.eq]
  rfl

theorem State.excs_fault (code master access address : Nat) (s : State) : (s.fault code master access address).flt.excs = s.flt.excs := by
  rw [State.fault_within.eq]
  rfl

theorem Reports.mid {s t : State} (h : Reports s t) : t.mid = s.mid := by rw [h]

/-- Work that is suspended while the supply is low waits in the list of flash work. -/
theorem State.suspend_waits (w : FlashWork) (s : State) : (s.suspend w).mid = s.mid ∧ w ∈ (s.suspend w).plat.flashWork := by
  unfold State.suspend
  split_ifs with h
  · obtain ⟨x, hx, e⟩ := List.any_eq_true.mp h
    exact ⟨rfl, of_decide_eq_true e ▸ hx⟩
  · exact ⟨rfl, List.mem_append_right _ (List.mem_singleton_self w)⟩

/-! ### The events -/

/-- What a real event of a source beyond the sentinel's does. -/
theorem exec_faultEvent_real {dt source master access address : Nat} {injected : Bool} {s : State} {x : Bool × Bool × Nat × Nat}
    (real : injected = false) (high : 3 < source) (known : faultSource source = some x) :
    exec (.faultEvent dt source master access address injected) s = .next (
      if isCondition source then
        if (s.advance dt).conditionHolds source then
          (s.advance dt).condition source (master % 16) (access % 16) (address % 2 ^ 64)
        else s.advance dt
      else ((s.advance dt).bootFailure (master % 16)).fault source (master % 16) (access % 16) (address % 2 ^ 64)) := by
  have unit : ¬ (faultSource source).isNone = true := by simp [known]
  have beyond : ¬ within 1 3 source = true := by simp [within, high]
  refine (if_neg unit).trans (congrArg Host.Outcome.next ?_)
  exact (if_neg (by simp [real])).trans (if_neg beyond)

theorem State.src_bootFailure (master code : Nat) (s : State) : (s.bootFailure master).src code = s.src code := by
  rw [State.bootFailure_within.eq]
  rfl

/-- What an exception does while firmware runs: it joins those of the last 10 ms, and ends the command that caused it. -/
def State.excepted (hasSource : Bool) (cmd : Nat) (s : State) : State :=
  match hasSource, nth s.tci.aside cmd with
  | false, some w => s.finish (fun x => x == w) stFaultState (fun _ => [(32, 0)])
  | _, _ => s

theorem State.excs_excepted (hasSource : Bool) (cmd : Nat) (s : State) : (s.excepted hasSource cmd).flt.excs = s.flt.excs := by
  unfold State.excepted
  split
  · exact State.excs_finish _ _ _ _
  · rfl

/-- Settles O55: fault events and records, takeovers, the bank check, the Midwinter record and exceptions, event by event. -/
theorem faultEvents : Obligations.FaultEvents := by
  unfold Obligations.FaultEvents
  refine ⟨?raised, ?stands, ?begins, ?absent, ?serviceStopped, ?servicedBefore, ?serviced, ?workLeft, ?minor, ?noMinor, ?quiet, ?noQuiet,
    ?hangStopped, ?lockstep, ?noTakeover, ?started, ?again, ?checkStopped, ?noCheck, ?check, ?storeStopped, ?noCopy, ?stored, ?noErase,
    ?erased, ?erasePut, ?excStopped, ?exception⟩
  case raised =>
    intro dt source master access address injected s u x hu real high event known
    refine ⟨(u.bootFailure (master % 16)).fault source (master % 16) (access % 16) (address % 2 ^ 64), ?_, ?_⟩
    · rw [exec_faultEvent_real real high known, hu, if_neg (by simp [event])]
    · beta_reduce
      rw [(State.src_fault _ _ _ _ _).1, State.src_bootFailure]
  case stands =>
    intro dt source master access address injected s u x hu real event high known standing
    rw [exec_faultEvent_real real high known, hu, if_pos event, State.condition, if_pos standing, ite_self]
  case begins =>
    intro dt source master access address injected s u x hu real event high known standing holds
    refine ⟨u.condition source (master % 16) (access % 16) (address % 2 ^ 64), ?_, State.src_condition standing⟩
    rw [exec_faultEvent_real real high known, hu, if_pos event, if_pos holds]
  case absent =>
    intro dt source master access address injected s u x hu real event high known holds
    rw [exec_faultEvent_real real high known, hu, if_pos event, if_neg (by simp [holds])]
  case serviceStopped =>
    intro dt index s u hu unit stopped
    refine (if_neg (by omega)).trans (congrArg Host.Outcome.next ?_)
    rw [hu]
    exact if_pos (.inl (by simp [stopped]))
  case servicedBefore =>
    intro dt index s u hu unit done
    refine (if_neg (by omega)).trans (congrArg Host.Outcome.next ?_)
    rw [hu]
    exact if_pos (.inr (.inr (.inl done)))
  case serviced =>
    intro dt index s u hu unit running active fresh source work free none
    have marked := u.record_service index
    rw [← State.record_settleFaults (old := u) (u.noneSevere_service none index)] at marked
    refine ⟨State.settleFaults u (u.service index), ?_, marked⟩
    refine (if_neg (by omega)).trans (congrArg Host.Outcome.next ?_)
    rw [hu]
    exact if_neg (by simp [running, active, RecState.open_, fresh, source, work, free])
  case workLeft =>
    intro dt index s u hu unit work
    refine (if_neg (by omega)).trans (congrArg Host.Outcome.next ?_)
    rw [hu]
    exact if_pos (.inr (.inr (.inr (.inr (.inl work)))))
  case minor =>
    intro dt s u i r hu single state still window none
    refine ⟨_, congrArg Host.Outcome.next (by rw [hu]), State.clearWhere_single single ?_ none⟩
    simp only [state, still, decide_true, Bool.not_false, Bool.and_self, decide_eq_true window]
  case quiet =>
    intro dt s u i r hu single state elapsed none
    refine ⟨_, congrArg Host.Outcome.next (by rw [hu]), State.clearWhere_single single ?_ none⟩
    simp only [state, decide_true, Bool.true_and, decide_eq_true elapsed]
  case noMinor | noQuiet =>
    intro dt s u hu empty none
    refine ⟨u, congrArg Host.Outcome.next ?_, empty⟩
    rw [hu]
    exact State.clearWhere_nil empty
  case hangStopped =>
    intro dt source channel s u hu hang stopped
    subst hang
    change Host.Outcome.next ((s.advance dt).detect 2 channel) = .next u
    refine congrArg Host.Outcome.next ?_
    rw [hu]
    exact if_neg (by simp [State.detects, stopped])
  case lockstep =>
    intro dt source channel s u hu lockstep cores
    subst lockstep
    refine ⟨u.takeover 1 channel false, ?_, State.takeover_takes cores⟩
    change Host.Outcome.next ((s.advance dt).detect 1 channel) = .next (u.takeover 1 channel false)
    rw [hu]
    exact congrArg Host.Outcome.next (if_pos rfl)
  case noTakeover =>
    intro dt s u hu none
    refine congrArg Host.Outcome.next ?_
    rw [hu, none]
  case started =>
    intro dt s u hu running
    refine congrArg Host.Outcome.next ?_
    rw [hu]
    split
    · exact if_pos (.inl running)
    · rfl
  case again =>
    intro dt s u x hu taken stopped free late
    obtain ⟨-, -, htaken, -, -⟩ := State.chooseImage_keeps (u.flt.consec + 1) { u with flt := { u.flt with takeAt := some u.time.tick } }
    refine ⟨_, rfl, ?_⟩
    dsimp only
    rw [hu, taken]
    dsimp only
    rw [if_neg (by simp [stopped, free, late]), (reports_noteFrom _ _).flt]
    exact ⟨htaken, State.consec_chooseImage _ _⟩
  case checkStopped =>
    intro dt same s u hu stopped
    refine congrArg Host.Outcome.next ?_
    rw [hu]
    exact if_pos (.inl (by simp [stopped]))
  case noCheck =>
    intro dt same s u hu notDue
    refine congrArg Host.Outcome.next ?_
    rw [hu]
    exact if_pos (.inr (by simp [notDue]))
  case check =>
    intro dt same s u hu running due
    refine ⟨State.settleFaults u (if same then (u.banksChecked same).takeoverChecked
      else (u.banksChecked same).takeoverChecked.fault 0x05 1 1 0), congrArg Host.Outcome.next ?_, u.bankCheck_keeps same u⟩
    rw [hu]
    exact if_neg (by simp [running, due])
  case storeStopped =>
    intro dt bytes truncated s u hu stopped
    refine congrArg Host.Outcome.next ?_
    rw [hu]
    exact if_pos (.inl (by simp [stopped]))
  case noCopy =>
    intro dt bytes truncated s u hu noCopy
    refine congrArg Host.Outcome.next ?_
    rw [hu]
    exact if_pos (.inr (by simp [noCopy]))
  case stored =>
    intro dt bytes truncated s u x hu running due power held target
    refine ⟨_, rfl, ?_⟩
    dsimp only
    rw [hu, if_neg (by simp [running, due]), if_neg (by simp [power]), held]
    dsimp only
    rw [(reports_noteFrom _ _).mid, (reports_post _ _ _).mid]
    exact ⟨by rw [Tbl.get?_put, if_pos rfl], rfl, by rw [Tbl.get?_put, if_neg (by omega), held]⟩
  case noErase =>
    intro dt s u hu nothing
    refine congrArg Host.Outcome.next ?_
    rw [hu, nothing]
  case erased =>
    intro dt s u k rest hu erase power
    refine ⟨State.noteFrom u { u with mid := { u.mid with loc := Tbl.erase u.mid.loc k, erase := rest } }, congrArg Host.Outcome.next ?_, ?_⟩
    · rw [hu]
      rw [erase]
      exact if_neg (by simp [power])
    · beta_reduce
      rw [(reports_noteFrom _ _).mid]
      exact ⟨Tbl.get?_erase_same _ _, rfl⟩
  case erasePut =>
    intro dt s u k rest hu erase power
    refine ⟨u.suspend (.slotErase (k - 1)), congrArg Host.Outcome.next ?_, u.suspend_waits _⟩
    rw [hu, erase]
    exact if_pos power
  case excStopped =>
    intro dt hasSource cmd s u hu stopped
    refine congrArg Host.Outcome.next ?_
    rw [hu]
    exact if_pos (by simp [stopped])
  case exception =>
    intro dt hasSource cmd s u hu running
    have kept := State.excs_excepted hasSource cmd { u with flt := { u.flt with excs := u.recentExcs ++ [u.time.tick] } }
    refine ⟨if (u.recentExcs ++ [u.time.tick]).length < 64 then
        (State.excepted hasSource cmd { u with flt := { u.flt with excs := u.recentExcs ++ [u.time.tick] } }).fault 0x04 1 1 0
      else State.excepted hasSource cmd { u with flt := { u.flt with excs := u.recentExcs ++ [u.time.tick] } },
      congrArg Host.Outcome.next ?_, ?_⟩
    · rw [hu]
      exact if_neg (by simp [running])
    · beta_reduce
      split_ifs
      · rw [State.excs_fault, kept]
      · exact kept

end Sys2Proof.Machine
end
